-- ==== Sys2Proof/Word.lean ====
section
/-! DEFINITION. The plain words of the model: bytes, sparse maps keyed by a number. -/

set_option Elab.async false

namespace Sys2Proof

/-- A byte, the unit in which buffers, memories and frames are held. -/
abbrev Byte := BitVec 8

/-- A sparse table: entries in strictly rising key order, none equal to what an unlisted key reads as
(`Machine.mwf`). Read and written only through the operations of Machine/Maps.lean. -/
abbrev Map (α : Type) := List (Nat × α)

/-- Addressed memory: `Host.Cell` pairs, in the same canonical form, an unlisted byte reading 0. -/
abbrev Memory := Map Byte

end Sys2Proof
end

