-- ==== Sys2Proof/Types.lean ====
section
/-! DEFINITION. The data that commands carry into the module and that the module sends out:
frames, control blocks, packets, command entries, identity readings. Field names are the manual's. -/

set_option Elab.async false

namespace Sys2Proof

/-- A kite frame (R85, Table 4-4). `ext` is the 256-bit extension of a frame whose `EXT` is 1. The trailer's
two CRCs are carried as sent, and the receiver computes its own (R87). -/
structure Frame where
  dest : Nat
  src : Nat
  ver : Nat
  ext : Option Nat
  vc : Nat
  ce : Bool
  cls : Nat
  typ : Nat
  len : Nat
  slice : Nat
  gen : Nat
  seq : Nat
  ack : Nat
  ackValid : Bool
  nak : Bool
  hops : Nat
  tag : Nat
  payload : List Byte
  ecrc : Nat
  lcrc : Nat
deriving DecidableEq, Repr

/-- The transports of Table 17-1. -/
inductive Xport where
  | host | mgmt | fabric
deriving DecidableEq, Repr

/-- A ring of a transport: a HOST ring number or a session number (R377). -/
structure RingId where
  xport : Xport
  ring : Nat
deriving DecidableEq, Repr

/-- A client: `(HOST, ring)` or a session's `PEER_ID` (R377). -/
structure Client where
  xport : Xport
  peer : Nat
deriving DecidableEq, Repr

/-- A 64-byte command entry (Table 17-5) with its command data (R389). `param` is the 48-byte `PARAM`;
`rsvd` is the OR of the entry's own reserved bits. -/
structure Entry where
  opcode : Nat
  barrier : Bool
  replay : Bool
  dataLen : Nat
  cmdId : Nat
  rsvd : Nat
  param : List Byte
  data : List Byte
deriving DecidableEq, Repr

/-- One Onreham command as a ring or session hands it over: the ring, the entry, and the bytes found in host memory at
`BUF_ADDR` for a command whose buffer is an input (R389). -/
structure Req where
  from_ : RingId
  entry : Entry
  bufIn : List Byte
deriving DecidableEq, Repr

/-- The MAC and transport packets of the storage port (R101, R102). -/
inductive EthPkt where
  /-- A RoCEv2 data or acknowledge packet: queue pair, packet sequence number, ECN CE mark, acknowledge. -/
  | roce (qp psn : Nat) (ce : Bool) (op : Nat) (addr : Nat) (bytes : List Byte)
  /-- A RoCEv2 acknowledge of all packets up to `psn`. -/
  | ackRoce (qp psn : Nat)
  /-- A congestion notification packet for a queue pair. -/
  | cnp (qp : Nat)
  /-- ARP or IPv6 neighbour solicitation for an address. -/
  | resolve (v6 : Bool) (addr : Nat)
  /-- ICMP echo request. -/
  | echo (v6 : Bool) (addr : Nat) (bytes : List Byte)
  /-- IEEE 802.1Qbb priority flow control: XOFF (true) or XON on the priority. -/
  | pfc (prio : Nat) (xoff : Bool)
  /-- IEEE 802.3 PAUSE, ignored. -/
  | pause
  /-- A completion of an NVMe-oF command: target, command number, status good. -/
  | nvmeCpl (target cid : Nat) (ok : Bool)
  /-- Anything else: its 802.1p priority and length. -/
  | other (prio len : Nat)
deriving DecidableEq, Repr

/-- One lane's optical readings (R65): signed 0.01 dBm, 0.1 dB and 0.01 dBm. -/
structure OptRead where
  launch : Int
  backRefl : Int
  received : Int
deriving DecidableEq, Repr

/-- A certificate as carried in a chain, with its DER already taken apart: the bytes that are signed, the
subject's public key (65 bytes, uncompressed) and the signature (r then s). -/
structure Cert where
  tbs : List Byte
  pub : List Byte
  sig : List Byte
deriving DecidableEq, Repr

/-- An assembled HELLO (Table 17-4): transport number, sender, the body's fields in order, with the chain both as
bytes and taken apart (leaf first). -/
structure Hello where
  xp : Nat
  src : Nat
  nonce : List Byte
  pub : List Byte
  wantPriv : Nat
  replyOff : Nat
  der : List Byte
  chain : List Cert
  sig : List Byte
deriving DecidableEq, Repr

/-- A capsule (Table 17-3). -/
structure Capsule where
  kind : Nat
  sess : Nat
  bodyLen : Nat
  seg : Nat
  nseg : Nat
  cseq : Nat
  body : List Byte
  mac : List Byte
deriving DecidableEq, Repr

/-- A frame of the management Ethernet (R421): the VLAN and destination address it carries, and what it holds. -/
inductive MgmtPkt where
  | arp (vlan dst : Nat)
  | solicit (vlan dst : Nat)
  | echo (vlan : Nat) (v6 : Bool) (dst : Nat) (bytes : List Byte)
  /-- A UDP datagram: sender's address and port folded into one number, destination port, payload bytes. -/
  | udp (vlan : Nat) (v6 : Bool) (dst src port : Nat) (bytes : List Byte)
  | other (len : Nat)
deriving DecidableEq, Repr

end Sys2Proof
end

