-- ==== Sys2Proof/Machine/StSys.lean ====
section
/-! DEFINITION. State of chapters 17 and 19 to 23: rings, sessions, tickets, history, the host side, start-up and
trust, faults and the event recorder, the envelope. Plain data. -/

set_option Elab.async false

namespace Sys2Proof.Machine

/-- Module states (R429) with the codes of R502: OFF is reported by no register, STANDBY is 1. -/
inductive MState where
  | off | standby | keelUp | ready | service | orphan | quenched
deriving DecidableEq, Repr

/-- Statuses of a completion (Table 17-6). -/
inductive CStatus where
  | done | accepted | refused | failed | cancelled
deriving DecidableEq, Repr

/-- A completion (Table 17-6). -/
structure Cpl where
  cmdId : Nat
  opcode : Nat
  status : CStatus
  final : Bool
  reason : Nat
  ticket : Nat
  rlen : Nat
  sqHead : Nat
  phase : Bool
deriving DecidableEq, Repr

/-- Ring states (`RSTATE`, Table 19-8). -/
inductive RState where
  | disabled | enabled | error | refused
deriving DecidableEq, Repr

/-- A host ring (Table 19-8): registers, the doorbell values the host has given, and the commands that its slots
hold from `sqHead` on. `freed` is the last `CQ_HEAD` written. -/
structure Ring where
  sqBase : Nat
  cqBase : Nat
  resBase : Nat
  msix : Nat
  enable : Bool
  priv : Nat
  entLog2 : Nat
  phase : Bool
  cqTail : Nat
  sqHead : Nat
  cause : Nat
  rstate : RState
  taken : Nat
  dbIgnored : Nat
  sqTail : Nat
  cqHead : Nat
  waiting : List Req
deriving DecidableEq, Repr

/-- A COMMAND message being assembled, or a HELLO (R384, R386): when its first segment came, the number of
segments, and the segments got. -/
structure Asm where
  cmd : Bool
  at_ : Nat
  nseg : Nat
  cseqs : List Nat
  segs : Map (List Byte)
deriving DecidableEq, Repr

/-- A session (R383 to R387). `openS` false: HELLO_REPLY sent, FINISH awaited. -/
structure Session where
  openS : Bool
  peer : Nat
  priv : Nat
  cliKey : List Byte
  modKey : List Byte
  txSeq : Nat
  rxMax : Nat
  rxSeen : List Nat
  replies : List (List Nat × List (List Byte))
  asm : List (Nat × Asm)
  fails : List Nat
  lastAt : Nat
  replyTo : Nat
  waiting : List (List Nat × Req)
deriving DecidableEq, Repr

/-- Ticket states (`OSTATE`, Table 17-12). -/
inductive OState where
  | queued | running | suspended | cancelling | cancelled | done | failed
deriving DecidableEq, Repr

/-- A ticket (R399, Table 17-12). `posted`: its final completion has been posted; `finalNo` orders final tickets;
`before`: it was live at a restart not yet accounted for; `suspReq`: OP.SUSPEND given, point not yet reached;
`ring` is where its final completion goes if that ring is still its client's. -/
structure Ticket where
  ticket : Nat
  ost : OState
  opcode : Nat
  cmdId : Nat
  client : Client
  ring : RingId
  reason : Nat
  progress : Nat
  ftCreated : Nat
  ftChanged : Nat
  oresult : List Byte
  bufLen : Nat
  buf : List Byte
  param : List Byte
  data : List Byte
  priv : Nat
  posted : Bool
  finalNo : Nat
  before : Bool
  suspReq : Bool
  wasQueued : Bool
deriving DecidableEq, Repr

/-- A journal entry of a command (R395), or of a setting the module journals itself (`opcode` 0xFFFF). -/
structure JEntry where
  client : Client
  cmdId : Nat
  opcode : Nat
  param : List Byte
  digest : List Byte
  cpl : Cpl
deriving DecidableEq, Repr

/-- A journaled command whose entry is not yet stored (R391, R394): `mram` once MRAM has it, `acked` once the twin
has; its client, and the slot and capsules it was taken from. The command is applied and completed when it is stored. -/
structure Storing where
  jseq : Nat
  req : Req
  client : Client
  slot : Nat
  seqs : List Nat
  mram : Bool
  acked : Bool
deriving DecidableEq, Repr

/-- State of chapter 17. `finishing` (the model's own, none between steps) is the stored command being applied;
`stored` the entries that a restart found in the journal before they were applied (R367);
`postWait` the final completions (ticket, `JSEQ`, status, reason) that wait for their entries to be stored. Sessions are keyed 64·(transport − 1) + session; tickets by slot. -/
structure CmdSt where
  rings : Map Ring
  sessions : Map Session
  tickets : Map Ticket
  serial : Nat
  finals : Nat
  history : List (Client × List JEntry)
  owed : List (Client × Cpl)
  rr : Nat
  storing : List Storing
  finishing : Option Storing
  stored : List Storing
  postWait : List (Nat × Nat × CStatus × Nat)
  jseq : Nat
  capDrop : Nat
  twinDrop : Nat
deriving DecidableEq, Repr

/-- An HDM decoder (R417): its device range begins at `dpa` while committed; `err` is Error Not Committed. -/
structure Decoder where
  base : Nat
  size : Nat
  skip : Nat
  dpa : Nat
  committed : Bool
  err : Bool
deriving DecidableEq, Repr

/-- SPDM connection state of one transport (R420): version agreed, capabilities exchanged, algorithms agreed, and
the transcript that CHALLENGE signs. -/
structure Spdm where
  version : Bool
  caps : Bool
  algs : Bool
  transcript : List Byte
deriving DecidableEq, Repr

/-- State of chapter 19. `mode`: 0 down, 1 CXL, 2 PCIe only. `ftFrac`, `hi` and `lo` are the latches of R427 and
R9 by register offset: the high half of a read, the low half of a write. -/
structure HostSt where
  mode : Nat
  width : Nat
  rate : Nat
  l0 : Bool
  linkDowns : Nat
  dec : Map Decoder
  hdmDenied : Nat
  hdmDropped : Nat
  mgmtUp : Bool
  mgmtDropped : Nat
  spdmReq : Nat
  doe : Spdm
  mgmtSpdm : Spdm
  perst : Bool
  training : Bool
  hi : Map Nat
  lo : Map Nat
  ftFrac : Nat
deriving DecidableEq, Repr

/-- A key entry of the configuration record (Table 20-3). -/
structure KeyEnt where
  keyId : Nat
  role : Nat
  maxPriv : Nat
  pub : List Byte
deriving DecidableEq, Repr

/-- A signed configuration record as held in NOR (Table 20-3): its bytes, its fields, and whether it is valid (R438). -/
structure CfgRec where
  valid : Bool
  raw : List Byte
  holdKeel : Bool
  headlessS : Nat
  seq : Nat
  fwFloor : Nat
  hostPriv : Nat
  fabricPriv : Nat
  mgmt : List Byte
  keys : List KeyEnt
deriving DecidableEq, Repr

/-- A firmware slot (Table 20-4). -/
structure FwSlot where
  valid : Bool
  ifMinor : Nat
  svn : Nat
  fwBuild : Nat
  ucode : Nat
  digest : List Byte
deriving DecidableEq, Repr

/-- State of chapter 20. `hold` is `HOLD` (R433). `active`, `trial`, `tried` and `floor` are the MRAM boot block
(R440 to R442); `booted` the running slot. `starting` says that the start-up sequence has begun, `keelLost` that the
keel die is lost (R435), `holdReq` that a hold was requested for the next start, `jrnGone` that the journal cannot be read
(R368, R433); `leaving` (the model's own, none between steps) that the module goes to STANDBY once the
completion of this step is posted, with its start cause. -/
structure SysSt where
  st : MState
  hold : Nat
  starting : Bool
  keelLost : Bool
  trialAt : Nat
  startCause : Nat
  nextCause : Nat
  holdReq : Bool
  cfg0 : CfgRec
  cfg1 : CfgRec
  inUse : CfgRec
  chosen : Option Nat
  cfgSeq : Nat
  slotA : FwSlot
  slotB : FwSlot
  active : Nat
  trial : Option Nat
  tried : Bool
  floor : Nat
  booted : Nat
  upAt : Nat
  keyOk : Bool
  plane : Nat
  tray : Nat
  jrnGone : Bool
  leaving : Option Nat
deriving DecidableEq, Repr

/-- Source states (Table 21-3) with the codes of `FSTATE` (Table 21-8). -/
inductive FState where
  | ok | counting | severe | isolated | releasing
deriving DecidableEq, Repr

/-- A fault source (R447, Table 21-8). `times` are the F cycles of its last `COUNT` reports. -/
structure Source where
  st : FState
  sticky : Bool
  throttled : Bool
  lastUsable : Bool
  times : List Nat
  lastKind : Nat
  recoveries : Nat
  total : Nat
  lastFt : Nat
  lastAt : Nat
  ticket : Option Nat
deriving DecidableEq, Repr

/-- State of chapter 21: sources by id, the first-fault latch, the block's registers, and the recorder with the
buckets and suppressed counts of each code. -/
structure FltSt where
  src : Map Source
  pend : List (Nat × Nat × Nat)
  valid : Bool
  source : Nat
  kind : Nat
  mstate : Nat
  firstFt : Nat
  ovf : Bool
  ovfCnt : Nat
  recoveries : Nat
  reports : Nat
  onSevere : Bool
  onFirst : Bool
  sram : Memory
  wrPtr : Nat
  full : Bool
  lost : Nat
  suppressed : Nat
  rseq : Nat
  fillThr : Nat
  intEn : Bool
  enable : Bool
  cursor : Nat
  intPend : Bool
  bucket : Map (Nat × Nat)
  supBy : Map Nat
deriving DecidableEq, Repr

/-- The levels of a die that brakes lower (R472, R477): tile duty and port-level brake, percent, as the envelope sets
them, as the thermal loop sets them, and the drogue preset (R473). -/
structure Brake where
  duty : Nat
  port : Nat
  tDuty : Nat
  tPort : Nat
  pDuty : Nat
  pPort : Nat
deriving DecidableEq, Repr

/-- A power-supply unit: record status, `SHELF_ID`, outputs, and PMBus telemetry (Table 22-7). -/
structure Psu where
  cstatus : Nat
  shelf : Nat
  outputs : Nat
  status : Nat
  vin : Nat
  vout : Nat
  iout : Nat
  temp : Nat
deriving DecidableEq, Repr

/-- The signals of J2 (Table 23-4), true when asserted. -/
structure Pins where
  pwrOk : Bool
  drogue : Bool
  ripcord : Bool
  flow : Bool
  leak : Bool
  thermtrip : Bool
  pmbAlert : Bool
deriving DecidableEq, Repr

/-- State of chapters 22 and 23. Sensor readings are in 0.01 °C by instance; `rise` keeps each sensor's readings of the
last second. `vinBad`: `VIN40` was found outside its operating range and is not back in it. `capAt` is the F cycle of the cap's check while its deadline runs. -/
structure EnvSt where
  pins : Pins
  vsbOk : Bool
  vinBad : Bool
  vin : Nat
  iin : Nat
  vsb : Nat
  pin : Nat
  prevPin : Option Nat
  shelfDrogue : Bool
  capDrogue : Bool
  pump : Bool
  thermal : Bool
  orphanCap : Bool
  freeBallast : Nat
  schedBallast : Nat
  tier2Pct : Nat
  brakes : Map Brake
  sensors : Map Int
  rise : Map (List (Nat × Int))
  events : Nat
  intEn : Nat
  drogues : Nat
  rampExceed : Nat
  rampFrac : Nat
  hbCount : Nat
  hbAt : Nat
  orphanAt : Nat
  capAt : Option Nat
  slew : Nat
  tripFlag : Bool
  tripSensor : Nat
  stagesOpen : Bool
  trayStatus : Nat
  trayMaxW : Nat
  trayBays : Nat
  cleanAddr : Nat
  psus : Map Psu
  shelfId : Nat
deriving DecidableEq, Repr

/-- What the start-up sequence finds outside the keel die (steps 4 to 7 of R431): whether the carrier record is VALID,
the bays' identity memories, the tray's record (status, budget, bays, actuator), the supplies, the fitted dies that
did not answer, the fault sources whose self-test failed, and whether the keel die passed its own part. -/
structure StartData where
  carrierOk : Bool
  bays : List (Option (List Byte))
  tray : Nat × Nat × Nat × Nat
  psus : List (Option Psu)
  probeFail : List Nat
  testFail : List Nat
  keelOk : Bool
deriving DecidableEq, Repr

end Sys2Proof.Machine
end

