-- ==== Sys2Proof/Syntax.lean ====
section
/-! DEFINITION. The commands of the module: one constructor for each row of the table of operations and events. A
command of the Onreham interface carries its request; every other row carries what it names or brings in. -/

set_option Elab.async false

namespace Sys2Proof

open Machine

/-- The rows of the table, each with the rule it follows. -/
inductive Instr where
  /-- `NOP` (R406). -/
  | nop (q : Req)
  /-- `CAPS` (R406). -/
  | caps (q : Req)
  /-- `PING` (R406). -/
  | ping (q : Req)
  /-- `DEV_CAPS` (R20). -/
  | devCaps (q : Req)
  /-- `DEV_STATE` (R433). -/
  | devState (q : Req)
  /-- `DEV_SERVICE` (R430). -/
  | devService (q : Req)
  /-- `DEV_RESTART` (R444). -/
  | devRestart (q : Req)
  /-- `DEV_SELFTEST` (R443). -/
  | devSelftest (q : Req)
  /-- `DEV_MGMTCFG` (R428). -/
  | devMgmtcfg (q : Req)
  /-- `DEV_HOSTQUERY` (R428). -/
  | devHostquery (q : Req)
  /-- `PORT_ENABLE` (R78). -/
  | portEnable (q : Req)
  /-- `PORT_DISABLE` (R78). -/
  | portDisable (q : Req)
  /-- `PORT_SPLIT` (R34). -/
  | portSplit (q : Req)
  /-- `PORT_POWER` (R61). -/
  | portPower (q : Req)
  /-- `PORT_QUERY` (R78). -/
  | portQuery (q : Req)
  /-- `LANE_STATS` (R59). -/
  | laneStats (q : Req)
  /-- `LANE_TEST` (R77). -/
  | laneTest (q : Req)
  /-- `OPT_READ` (R65). -/
  | optRead (q : Req)
  /-- `OPT_INSPECT` (R66). -/
  | optInspect (q : Req)
  /-- `OPT_CLEAN` (R67). -/
  | optClean (q : Req)
  /-- `PORT_LINKCFG` (R104). -/
  | portLinkcfg (q : Req)
  /-- `PORT_LSTATS` (R104). -/
  | portLstats (q : Req)
  /-- `PORT_ETHCFG` (R104). -/
  | portEthcfg (q : Req)
  /-- `CART_READ` (R78). -/
  | cartRead (q : Req)
  /-- `CART_OVERRIDE` (R72). -/
  | cartOverride (q : Req)
  /-- `CART_RESCAN` (R73). -/
  | cartRescan (q : Req)
  /-- `ROUTE_WRITE` (R153). -/
  | routeWrite (q : Req)
  /-- `ROUTE_COMMIT` (R154). -/
  | routeCommit (q : Req)
  /-- `ROUTE_HOLD` (R155). -/
  | routeHold (q : Req)
  /-- `ROUTE_RELEASE` (R155). -/
  | routeRelease (q : Req)
  /-- `ROUTE_QUERY` (R159). -/
  | routeQuery (q : Req)
  /-- `ROUTE_CONGMAP` (R158). -/
  | routeCongmap (q : Req)
  /-- `ROUTE_CMAPCFG` (R158). -/
  | routeCmapcfg (q : Req)
  /-- `ROUTE_SPARSTATS` (R159). -/
  | routeSparstats (q : Req)
  /-- `SLICE_BIND` (R56). -/
  | sliceBind (q : Req)
  /-- `SLICE_ENABLE` (R55). -/
  | sliceEnable (q : Req)
  /-- `SLICE_DISABLE` (R55). -/
  | sliceDisable (q : Req)
  /-- `SLICE_QUERY` (R52). -/
  | sliceQuery (q : Req)
  /-- `QOS_SERVICECFG` (R166). -/
  | qosServicecfg (q : Req)
  /-- `QOS_SUBCFG` (R183). -/
  | qosSubcfg (q : Req)
  /-- `QOS_SHAPECFG` (R171). -/
  | qosShapecfg (q : Req)
  /-- `QOS_POLICECFG` (R169). -/
  | qosPolicecfg (q : Req)
  /-- `QOS_GATEWRITE` (R175). -/
  | qosGatewrite (q : Req)
  /-- `QOS_GATEQUERY` (R183). -/
  | qosGatequery (q : Req)
  /-- `QOS_QSTATS` (R183). -/
  | qosQstats (q : Req)
  /-- `QOS_PSTATS` (R183). -/
  | qosPstats (q : Req)
  /-- `QOS_POOLCFG` (R127). -/
  | qosPoolcfg (q : Req)
  /-- `QOS_POOLQUERY` (R127). -/
  | qosPoolquery (q : Req)
  /-- `QOS_MARKCFG` (R128). -/
  | qosMarkcfg (q : Req)
  /-- `GROUP_CONFIG` (R213). -/
  | groupConfig (q : Req)
  /-- `GROUP_ENABLE` (R215). -/
  | groupEnable (q : Req)
  /-- `GROUP_DISABLE` (R214). -/
  | groupDisable (q : Req)
  /-- `GROUP_ABORT` (R237). -/
  | groupAbort (q : Req)
  /-- `GROUP_QUERY` (R245). -/
  | groupQuery (q : Req)
  /-- `GROUP_MISSING` (R237). -/
  | groupMissing (q : Req)
  /-- `GROUP_POOLQUERY` (R245). -/
  | groupPoolquery (q : Req)
  /-- `GROUP_UPDCFG` (R260). -/
  | groupUpdcfg (q : Req)
  /-- `GROUP_UPDQUERY` (R260). -/
  | groupUpdquery (q : Req)
  /-- `GROUP_NANREAD` (R211). -/
  | groupNanread (q : Req)
  /-- `TILE_LOAD` (R267). -/
  | tileLoad (q : Req)
  /-- `TILE_UNLOAD` (R283). -/
  | tileUnload (q : Req)
  /-- `TILE_PROGQUERY` (R283). -/
  | tileProgquery (q : Req)
  /-- `TILE_UPDBIND` (R272). -/
  | tileUpdbind (q : Req)
  /-- `TILE_UPDUNBIND` (R283). -/
  | tileUpdunbind (q : Req)
  /-- `TILE_UPDQUERY` (R283). -/
  | tileUpdquery (q : Req)
  /-- `TILE_QUERY` (R207). -/
  | tileQuery (q : Req)
  /-- `TILE_POWER` (R211). -/
  | tilePower (q : Req)
  /-- `TILE_SELFTEST` (R211). -/
  | tileSelftest (q : Req)
  /-- `SCHED_LOAD` (R328). -/
  | schedLoad (q : Req)
  /-- `SCHED_UNLOAD` (R328). -/
  | schedUnload (q : Req)
  /-- `SCHED_ENABLE` (R318). -/
  | schedEnable (q : Req)
  /-- `SCHED_STOP` (R328). -/
  | schedStop (q : Req)
  /-- `SCHED_DISABLE` (R328). -/
  | schedDisable (q : Req)
  /-- `SCHED_QUERY` (R328). -/
  | schedQuery (q : Req)
  /-- `SCHED_TIMECFG` (R315). -/
  | schedTimecfg (q : Req)
  /-- `SCHED_TIMEQUERY` (R328). -/
  | schedTimequery (q : Req)
  /-- `SCHED_AUDITCFG` (R326). -/
  | schedAuditcfg (q : Req)
  /-- `SCHED_AUDITREAD` (R326). -/
  | schedAuditread (q : Req)
  /-- `SNAP_PLAN` (R330). -/
  | snapPlan (q : Req)
  /-- `SNAP_PLANQUERY` (R345). -/
  | snapPlanquery (q : Req)
  /-- `SNAP_SEAL` (R332). -/
  | snapSeal (q : Req)
  /-- `SNAP_REELCFG` (R339). -/
  | snapReelcfg (q : Req)
  /-- `SNAP_REELENABLE` (R339). -/
  | snapReelenable (q : Req)
  /-- `SNAP_TARGET` (R338). -/
  | snapTarget (q : Req)
  /-- `SNAP_DRAIN` (R340). -/
  | snapDrain (q : Req)
  /-- `SNAP_RESTORE` (R343). -/
  | snapRestore (q : Req)
  /-- `SNAP_LIST` (R345). -/
  | snapList (q : Req)
  /-- `SNAP_QUERY` (R345). -/
  | snapQuery (q : Req)
  /-- `FLASH_HEALTH` (R360). -/
  | flashHealth (q : Req)
  /-- `FLASH_SCAN` (R354). -/
  | flashScan (q : Req)
  /-- `FLASH_SCANCFG` (R360). -/
  | flashScancfg (q : Req)
  /-- `FLASH_BBTREAD` (R360). -/
  | flashBbtread (q : Req)
  /-- `FLASH_FORMAT` (R360). -/
  | flashFormat (q : Req)
  /-- `GEMEL_PAIR` (R362). -/
  | gemelPair (q : Req)
  /-- `GEMEL_UNPAIR` (R376). -/
  | gemelUnpair (q : Req)
  /-- `GEMEL_QUERY` (R376). -/
  | gemelQuery (q : Req)
  /-- `GEMEL_ADOPT` (R371). -/
  | gemelAdopt (q : Req)
  /-- `GEMEL_RESYNC` (R376). -/
  | gemelResync (q : Req)
  /-- `ENV_CAP` (R468). -/
  | envCap (q : Req)
  /-- `ENV_RAMPCFG` (R488). -/
  | envRampcfg (q : Req)
  /-- `ENV_BRAKECFG` (R488). -/
  | envBrakecfg (q : Req)
  /-- `ENV_ORPHANCFG` (R488). -/
  | envOrphancfg (q : Req)
  /-- `ENV_HEARTBEAT` (R481). -/
  | envHeartbeat (q : Req)
  /-- `ENV_QUERY` (R488). -/
  | envQuery (q : Req)
  /-- `ENV_SENSORS` (R488). -/
  | envSensors (q : Req)
  /-- `ENV_PSU` (R488). -/
  | envPsu (q : Req)
  /-- `ENV_RIPCORD` (R480). -/
  | envRipcord (q : Req)
  /-- `ENV_TRAYCFG` (R488). -/
  | envTraycfg (q : Req)
  /-- `ENV_TRAYQUERY` (R484). -/
  | envTrayquery (q : Req)
  /-- `FAULT_QUERY` (R460). -/
  | faultQuery (q : Req)
  /-- `FAULT_CLASSCFG` (R460). -/
  | faultClasscfg (q : Req)
  /-- `FAULT_ISOLATE` (R460). -/
  | faultIsolate (q : Req)
  /-- `FAULT_RELEASE` (R450). -/
  | faultRelease (q : Req)
  /-- `FAULT_CLEAR` (R452). -/
  | faultClear (q : Req)
  /-- `EVENT_TRIGCFG` (R456). -/
  | eventTrigcfg (q : Req)
  /-- `EVENT_READ` (R460). -/
  | eventRead (q : Req)
  /-- `EVENT_RESTART` (R458). -/
  | eventRestart (q : Req)
  /-- `CFG_WRITE` (R445). -/
  | cfgWrite (q : Req)
  /-- `CFG_READ` (R445). -/
  | cfgRead (q : Req)
  /-- `FW_STAGE` (R441). -/
  | fwStage (q : Req)
  /-- `FW_ACTIVATE` (R441). -/
  | fwActivate (q : Req)
  /-- `FW_QUERY` (R440). -/
  | fwQuery (q : Req)
  /-- `SEC_CERTS` (R437). -/
  | secCerts (q : Req)
  /-- `SEC_FLOOR` (R442). -/
  | secFloor (q : Req)
  /-- `CFG_JOURNALINIT` (R444). -/
  | cfgJournalinit (q : Req)
  /-- `OP_QUERY` (R399). -/
  | opQuery (q : Req)
  /-- `OP_SUSPEND` (R400). -/
  | opSuspend (q : Req)
  /-- `OP_RESUME` (R400). -/
  | opResume (q : Req)
  /-- `OP_CANCEL` (R400). -/
  | opCancel (q : Req)
  /-- `OP_LIST` (R406). -/
  | opList (q : Req)
  /-- `TILE_NOP` (R264). -/
  | tileNop (t : Nat)
  /-- `VLD` (R264). -/
  | vld (t vd sa off : Nat)
  /-- `VST` (R264). -/
  | vst (t vs sa off : Nat)
  /-- `VSTC` (R264). -/
  | vstc (t vs sa off fmt : Nat)
  /-- `VADD` (R264). -/
  | vadd (t vd va vb : Nat)
  /-- `VSUB` (R264). -/
  | vsub (t vd va vb : Nat)
  /-- `VMUL` (R264). -/
  | vmul (t vd va vb : Nat) (scalar : Bool)
  /-- `VFMA` (R264). -/
  | vfma (t vd va vb vc : Nat)
  /-- `VEMA` (R264). -/
  | vema (t vd va vb sc : Nat)
  /-- `VAXPBY` (R264). -/
  | vaxpby (t vd va vb sa sb : Nat)
  /-- `VRSQA` (R264). -/
  | vrsqa (t vd va sa sb : Nat)
  /-- `VMIN` (R264). -/
  | vmin (t vd va vb : Nat)
  /-- `VMAX` (R264). -/
  | vmax (t vd va vb : Nat)
  /-- `VZERO` (R264). -/
  | vzero (t vd : Nat)
  /-- `SLI` (R264). -/
  | sli (t sd imm : Nat)
  /-- `SADDI` (R264). -/
  | saddi (t sd sa imm : Nat)
  /-- `SFMUL` (R264). -/
  | sfmul (t sd sa sb : Nat)
  /-- `SFADD` (R264). -/
  | sfadd (t sd sa sb : Nat)
  /-- `SLDU` (R264). -/
  | sldu (t sd off : Nat)
  /-- `DMARD` (R266). -/
  | dmard (t sa sb len : Nat)
  /-- `DMAWR` (R266). -/
  | dmawr (t sa sb len : Nat)
  /-- `DMAWAIT` (R264). -/
  | dmawait (t : Nat)
  /-- `LOOP` (R264). -/
  | loop (t sd off : Nat)
  /-- `END` (R264). -/
  | endEntry (t : Nat)
  /-- `COMBINE_ENTRY` (R261). -/
  | combineEntry (t : Nat) (parity : Option Nat)
  /-- `FINALISE_ENTRY` (R261). -/
  | finaliseEntry (t : Nat) (parity : Option Nat)
  /-- `UPDATE_ENTRY` (R262). -/
  | updateEntry (t : Nat) (parity : Option Nat)
  /-- `DMA_COMPLETE` (R277). -/
  | dmaComplete (t n : Nat) (crcBad : Bool)
  /-- `TILE_IDLE_GATE` (R187). -/
  | tileIdleGate (t : Nat)
  /-- `TILE_LIFT_DONE` (R188). -/
  | tileLiftDone (t : Nat)
  /-- `TILE_RELOAD_DONE` (R206). -/
  | tileReloadDone (t : Nat)
  /-- `TILE_SELFTEST_DONE` (R211). -/
  | tileSelftestDone (tk : Nat) (failed : List Nat)
  /-- `FRAME_ARRIVAL` (R105). -/
  | frameArrival (lp : Nat) (f : Frame) (par : Option Nat)
  /-- `FRAME_STORED` (R119). -/
  | frameStored (lp fid : Nat)
  /-- `EGRESS_GRANT` (R164). -/
  | egressGrant (lp : Nat) (parity : Option Nat)
  /-- `FRAME_TRANSMIT` (R121). -/
  | frameTransmit (lp : Nat) (bad : Option (Nat × Bool))
  /-- `POOL_ROOM_AVAILABLE` (R115). -/
  | poolRoomAvailable (die cls : Nat)
  /-- `FREE_STORE_AUDIT` (R123). -/
  | freeStoreAudit (die cell : Nat) (agree mapOk : Bool)
  /-- `TABLE_ENTRY_REWRITE` (R123). -/
  | tableEntryRewrite (die table entry : Nat)
  /-- `DIE_CLOCK_STOP` (R125). -/
  | dieClockStop (die : Nat)
  /-- `DIE_CLOCK_LIFT_DONE` (R125). -/
  | dieClockLiftDone (die : Nat)
  /-- `SPAR_SLOT_FILL` (R132). -/
  | sparSlotFill (die : Nat)
  /-- `SPAR_CELL_LAND` (R136). -/
  | sparCellLand (die far : Nat) (hcrcOk : Bool)
  /-- `PARTIAL_FRAME_TIMEOUT` (R136). -/
  | partialFrameTimeout (lp fid : Nat)
  /-- `SPAR_RETRAIN` (R137). -/
  | sparRetrain (die far : Nat) (ok : Bool)
  /-- `SPAR_UP` (R137). -/
  | sparUp (die far : Nat)
  /-- `CONGESTION_MAP_PERIOD` (R158). -/
  | congestionMapPeriod
  /-- `HOLD_DRAINED` (R155). -/
  | holdDrained
  /-- `COMMIT_DRAINED` (R154). -/
  | commitDrained
  /-- `COMMIT_DRAIN_TIMEOUT` (R154). -/
  | commitDrainTimeout
  /-- `BIND_FENCE_ACKED` (R47). -/
  | bindFenceAcked (tk : Nat)
  /-- `BIND_DRAIN_END` (R49). -/
  | bindDrainEnd (kind obj : Nat)
  /-- `DRAIN_FORCED` (R49). -/
  | drainForced (lp : Nat)
  /-- `BIND_SCRUB_END` (R47). -/
  | bindScrubEnd (kind obj : Nat)
  /-- `SLICE_DRAIN_END` (R54). -/
  | sliceDrainEnd (slice : Nat)
  /-- `SCRUB_GRANULE_FILL` (R48). -/
  | scrubGranuleFill (die granule : Nat)
  /-- `LANE_POWER_UP_END` (R60). -/
  | lanePowerUpEnd (lp : Nat) (locked : Bool)
  /-- `LANE_RETRY` (R60). -/
  | laneRetry (lp : Nat)
  /-- `LOSS_OF_SIGNAL` (R59). -/
  | lossOfSignal (lane : Nat)
  /-- `LOSS_OF_LOCK` (R59). -/
  | lossOfLock (lane : Nat)
  /-- `REFCLK_LOSS` (R58). -/
  | refclkLoss (die : Nat) (otherGood : Bool)
  /-- `LIFT_COMPLETE` (R62). -/
  | liftComplete (lp : Nat)
  /-- `DOZE_IDLE_TIMEOUT` (R97). -/
  | dozeIdleTimeout (lp : Nat)
  /-- `DOZE_BLOCK_RX` (R97). -/
  | dozeBlockRx (lp blk : Nat)
  /-- `OPT_READING_UPDATE` (R65). -/
  | optReadingUpdate (engine : Nat) (rds : List OptRead)
  /-- `INSPECT_CONNECTOR_DONE` (R66). -/
  | inspectConnectorDone (port : Nat) (rds : List OptRead)
  /-- `CLEAN_DURATION_END` (R67). -/
  | cleanDurationEnd
  /-- `CLEAN_WAIT_END` (R67). -/
  | cleanWaitEnd
  /-- `LANE_TEST_END` (R77). -/
  | laneTestEnd (tk : Nat) (counts : List (Nat × Nat × Bool))
  /-- `CART_POLL` (R73). -/
  | cartPoll (bay : Nat) (serial : Option (List Byte))
  /-- `CART_RECORD_READ_DONE` (R73). -/
  | cartRecordReadDone (bay : Nat) (raw : Option (List Byte))
  /-- `TETHER_BLOCK_RX` (R82). -/
  | tetherBlockRx (lane : Nat) (blk : Option Nat)
  /-- `LINK_CTL_RX` (R95). -/
  | linkCtlRx (lp : Nat) (blk : Nat)
  /-- `TRAIN_RX` (R99). -/
  | trainRx (lp blk : Nat)
  /-- `TRAIN_BLOCK_DUE` (R98). -/
  | trainBlockDue (lp : Nat)
  /-- `CREDIT_RETURN_DUE` (R92). -/
  | creditReturnDue (lp : Nat)
  /-- `REPLAY_TIMEOUT` (R96). -/
  | replayTimeout (lp : Nat)
  /-- `LOCKING_TIMEOUT` (R99). -/
  | lockingTimeout (lp : Nat)
  /-- `EXCHANGE_TIMEOUT` (R99). -/
  | exchangeTimeout (lp : Nat)
  /-- `RETRAIN_END` (R99). -/
  | retrainEnd (lp : Nat)
  /-- `MISCABLED_RECHECK` (R99). -/
  | miscabledRecheck (lp : Nat)
  /-- `LINK_FLUSH_TIMEOUT` (R100). -/
  | linkFlushTimeout (lp : Nat)
  /-- `ETH_PACKET_RX` (R102). -/
  | ethPacketRx (port : Nat) (pkt : EthPkt)
  /-- `ROCE_ACK_TIMEOUT` (R102). -/
  | roceAckTimeout (qp : Nat)
  /-- `ROCE_RATE_RESTORE` (R102). -/
  | roceRateRestore (qp : Nat)
  /-- `NVME_KEEP_ALIVE` (R103). -/
  | nvmeKeepAlive (tgt : Nat)
  /-- `TARGET_RECONNECT` (R338). -/
  | targetReconnect (tgt : Nat) (ok : Bool)
  /-- `GATE_TAKEOVER` (R175). -/
  | gateTakeover (lp : Nat)
  /-- `GATE_FREE_RUN_START` (R179). -/
  | gateFreeRunStart
  /-- `CONTRIB_RX` (R219). -/
  | contribRx (die : Nat) (bad : Bool)
  /-- `RESULT_RX` (R227). -/
  | resultRx (die : Nat) (bad : Bool)
  /-- `FALLBACK_NOTICE_RX` (R233). -/
  | fallbackNoticeRx (die : Nat) (bad : Bool)
  /-- `RECOMPUTE_NOTICE_RX` (R240). -/
  | recomputeNoticeRx (die : Nat) (bad : Bool)
  /-- `TREE_DONE_RX` (R221). -/
  | treeDoneRx (die : Nat) (bad : Bool)
  /-- `CLAIM_RETRY` (R231). -/
  | claimRetry
  /-- `BASKET_RELEASE` (R229). -/
  | basketRelease (grp seq chunk : Nat)
  /-- `FALLBACK_TIMEOUT` (R233). -/
  | fallbackTimeout (grp seq chunk : Nat)
  /-- `GROUP_WATCHDOG` (R237). -/
  | groupWatchdog (grp seq : Nat)
  /-- `GROUP_DISABLE_DONE` (R214). -/
  | groupDisableDone (grp : Nat)
  /-- `UPDRAFT_MEMBER_RX` (R246). -/
  | updraftMemberRx (die : Nat) (bad parity : Bool)
  /-- `SWEEP_RX` (R253). -/
  | sweepRx (die : Nat) (bad parity : Bool)
  /-- `UPDRAFT_DONE_NOTICE_RX` (R255). -/
  | updraftDoneNoticeRx (die : Nat) (bad : Bool)
  /-- `REFILL_RX` (R256). -/
  | refillRx (die : Nat) (bad : Bool)
  /-- `INTERRUPTED_NOTICE_RX` (R256). -/
  | interruptedNoticeRx (die : Nat) (bad : Bool)
  /-- `UPDRAFT_RESEND` (R250). -/
  | updraftResend (die : Nat)
  /-- `WINDOW_READ` (R291). -/
  | windowRead (die key : Nat) (bad memBad : Bool)
  /-- `WINDOW_WRITE` (R291). -/
  | windowWrite (die key : Nat) (bad memBad : Bool)
  /-- `FENCE` (R295). -/
  | fence (die : Nat) (bad : Bool)
  /-- `STREAM_MARK_EXPIRE` (R298). -/
  | streamMarkExpire (die src dest cls : Nat)
  /-- `CXL_MEM_READ` (R304). -/
  | cxlMemRead (addr len tag : Nat) (crcBad : Bool)
  /-- `CXL_MEM_WRITE` (R304). -/
  | cxlMemWrite (addr : Nat) (bytes : List Byte) (tag : Nat) (crcBad : Bool)
  /-- `SYNC_DUE` (R312). -/
  | syncDue (lp : Nat)
  /-- `SYNC_RX` (R312). -/
  | syncRx (lp xseq ts steps : Nat)
  /-- `DELAY_REQ_RX` (R312). -/
  | delayReqRx (lp xseq ts : Nat)
  /-- `DELAY_RESP_RX` (R312). -/
  | delayRespRx (lp xseq ts : Nat)
  /-- `ARMED_RX` (R319). -/
  | armedRx (lp tag count : Nat)
  /-- `LAUNCH_RX` (R319). -/
  | launchRx (lp tag time : Nat)
  /-- `HALT_RX` (R322). -/
  | haltRx (lp tag cause : Nat)
  /-- `EXCHANGE_MISSING` (R314). -/
  | exchangeMissing
  /-- `HOLDOVER_TIMEOUT` (R314). -/
  | holdoverTimeout
  /-- `SYNC_PPS_EDGE` (R315). -/
  | syncPpsEdge
  /-- `SCHED_ARMED` (R319). -/
  | schedArmed
  /-- `SCHED_LAUNCH_TIME` (R319). -/
  | schedLaunchTime
  /-- `SCHED_SPAR_ENTRY` (R138). -/
  | schedSparEntry (n : Nat)
  /-- `SCHED_EGRESS_ENTRY` (R321). -/
  | schedEgressEntry (n : Nat)
  /-- `SCHED_CLAIM_ENTRY` (R235). -/
  | schedClaimEntry (n : Nat)
  /-- `SCHED_ISSUE_ENTRY` (R321). -/
  | schedIssueEntry (n : Nat)
  /-- `SCHED_DUE_ENTRY` (R321). -/
  | schedDueEntry (n : Nat)
  /-- `SCHED_REFRESH_ENTRY` (R321). -/
  | schedRefreshEntry (n : Nat)
  /-- `SCHED_POWER_ENTRY` (R323). -/
  | schedPowerEntry (n : Nat)
  /-- `SCHED_LIFT_ENTRY` (R321). -/
  | schedLiftEntry (n : Nat)
  /-- `SCHED_GATE_ENTRY` (R321). -/
  | schedGateEntry (n : Nat)
  /-- `SCHED_UPD_ENTRY` (R321). -/
  | schedUpdEntry (n : Nat)
  /-- `SCHED_FLAG_ENTRY` (R317). -/
  | schedFlagEntry (n : Nat)
  /-- `SCHED_PERIOD_END` (R317). -/
  | schedPeriodEnd
  /-- `SEAL_TAKE_EFFECT` (R333). -/
  | sealTakeEffect (side : Nat)
  /-- `MOVER_PIECE` (R340). -/
  | moverPiece (tier die : Nat) (bad : Bool)
  /-- `SNAP_DATA_RX` (R337). -/
  | snapDataRx (die : Nat) (bad : Bool)
  /-- `SNAP_HEADER_RX` (R337). -/
  | snapHeaderRx (die : Nat) (bad : Bool)
  /-- `SNAP_ACK_RX` (R335). -/
  | snapAckRx (die : Nat) (bad : Bool)
  /-- `PAGE_REQ_RX` (R342). -/
  | pageReqRx (die : Nat) (bad memBad : Bool)
  /-- `PAGE_DATA_RX` (R342). -/
  | pageDataRx (die : Nat) (bad : Bool)
  /-- `NO_COPY_RX` (R342). -/
  | noCopyRx (die : Nat) (bad : Bool)
  /-- `TARGET_FLUSH_DONE` (R338). -/
  | targetFlushDone (tgt : Nat) (ok : Bool)
  /-- `RESTORE_COMPLETE` (R343). -/
  | restoreComplete (side : Nat)
  /-- `PAGE_PROGRAM_DONE` (R349). -/
  | pageProgramDone (sb page : Nat) (ok : Bool)
  /-- `ERASE_COMPLETE` (R351). -/
  | eraseComplete (sb : Nat) (ok : Bool) (fdie : Nat)
  /-- `RELEASE_AFTER_READ` (R351). -/
  | releaseAfterRead (obj : Nat)
  /-- `SCAN_DUE` (R354). -/
  | scanDue
  /-- `SCAN_BLOCK_READ` (R354). -/
  | scanBlockRead (fdie blk page errs : Nat) (endScan : Bool)
  /-- `FLASH_DIE_UNRESPONSIVE` (R357). -/
  | flashDieUnresponsive (fdie : Nat)
  /-- `OFFER_DUE` (R362). -/
  | offerDue
  /-- `OFFER_RX` (R362). -/
  | offerRx (lp : Nat) (rec : List Byte)
  /-- `MIRROR_ENTRY_RX` (R366). -/
  | mirrorEntryRx (lp : Nat) (rec : List Byte)
  /-- `MIRROR_ACK_RX` (R366). -/
  | mirrorAckRx (lp : Nat) (rec : List Byte)
  /-- `HEARTBEAT_RX` (R363). -/
  | heartbeatRx (lp : Nat) (rec : List Byte)
  /-- `KEEL_LOST_RX` (R369). -/
  | keelLostRx (lp : Nat) (rec : List Byte)
  /-- `SYNC_DONE_RX` (R364). -/
  | syncDoneRx (lp : Nat) (rec : List Byte)
  /-- `HEARTBEAT_DUE` (R363). -/
  | heartbeatDue
  /-- `TWIN_LOST` (R363). -/
  | twinLost
  /-- `MIRROR_RESEND_TIMEOUT` (R366). -/
  | mirrorResendTimeout
  /-- `MRAM_WRITE_DONE` (R366). -/
  | mramWriteDone (jseq : Nat)
  /-- `MRAM_FAIL` (R368). -/
  | mramFail
  /-- `PAIR_TIMEOUT` (R363). -/
  | pairTimeout
  /-- `SOLO_ROLE_RESTORE` (R370). -/
  | soloRoleRestore
  /-- `SQ_DOORBELL` (R380). -/
  | sqDoorbell (ring tail : Nat) (ents : List (Entry × List Byte))
  /-- `CQ_DOORBELL` (R425). -/
  | cqDoorbell (ring head : Nat)
  /-- `RING_ENABLE` (R379). -/
  | ringEnable (ring : Nat)
  /-- `RING_DISABLE` (R426). -/
  | ringDisable (ring : Nat)
  /-- `COMMAND_TAKE` (R391). -/
  | commandTake (memOk : Bool)
  /-- `HELLO_RX` (R384). -/
  | helloRx (h : Hello)
  /-- `FINISH_RX` (R384). -/
  | finishRx (xp sess cseq replyTo : Nat) (mac : List Byte)
  /-- `COMMAND_CAPSULE_RX` (R386). -/
  | commandCapsuleRx (xp : Nat) (cap : Capsule)
  /-- `CLOSE_RX` (R387). -/
  | closeRx (xp : Nat) (cap : Capsule)
  /-- `SESSION_IDLE` (R387). -/
  | sessionIdle (xp sess : Nat)
  /-- `SEGMENT_TIMEOUT` (R386). -/
  | segmentTimeout (xp sess msg : Nat)
  /-- `TICKET_START` (R400). -/
  | ticketStart (tk : Nat)
  /-- `SUSPEND_POINT_REACHED` (R400). -/
  | suspendPointReached (tk : Nat)
  /-- `CANCEL_UNDO_DONE` (R400). -/
  | cancelUndoDone (tk : Nat)
  /-- `OPERATION_FINISH` (R401). -/
  | operationFinish (tk reason : Nat)
  /-- `SPDM_GET_VERSION` (R420). -/
  | spdmGetVersion (doe : Bool) (ver : Nat)
  /-- `SPDM_GET_CAPABILITIES` (R420). -/
  | spdmGetCapabilities (doe : Bool) (ver : Nat)
  /-- `SPDM_NEGOTIATE_ALGORITHMS` (R420). -/
  | spdmNegotiateAlgorithms (doe : Bool) (ver asym hash : Nat)
  /-- `SPDM_GET_DIGESTS` (R420). -/
  | spdmGetDigests (doe : Bool) (ver : Nat)
  /-- `SPDM_GET_CERTIFICATE` (R420). -/
  | spdmGetCertificate (doe : Bool) (ver slot off len : Nat)
  /-- `SPDM_CHALLENGE` (R420). -/
  | spdmChallenge (doe : Bool) (ver slot : Nat) (nonce : List Byte)
  /-- `SPDM_GET_MEASUREMENTS` (R437). -/
  | spdmGetMeasurements (doe : Bool) (ver idx : Nat) (nonce : List Byte)
  /-- `DOE_ABORT` (R420). -/
  | doeAbort
  /-- `IDENTIFY_MEMORY_DEVICE` (R415). -/
  | identifyMemoryDevice
  /-- `GET_SUPPORTED_LOGS` (R415). -/
  | getSupportedLogs
  /-- `GET_LOG` (R415). -/
  | getLog (uuid off len : Nat)
  /-- `GET_HEALTH_INFO` (R415). -/
  | getHealthInfo
  /-- `MAILBOX_UNSUPPORTED` (R415). -/
  | mailboxUnsupported (opc : Nat)
  /-- `HDM_DECODER_COMMIT` (R417). -/
  | hdmDecoderCommit (dec base size skip ways : Nat)
  /-- `PERST_ASSERT` (R424). -/
  | perstAssert (hot : Bool)
  /-- `PERST_DEASSERT` (R495). -/
  | perstDeassert
  /-- `HOST_LINK_CHANGE` (R416). -/
  | hostLinkChange (mode width rate : Nat)
  /-- `MGMT_LINK_CHANGE` (R421). -/
  | mgmtLinkChange (up : Bool)
  /-- `MGMT_PACKET_RX` (R421). -/
  | mgmtPacketRx (pkt : MgmtPkt)
  /-- `FT_NOW_READ` (R427). -/
  | ftNowRead (half : Nat)
  /-- `LOW_HALF_READ` (R9). -/
  | lowHalfRead (off : Nat)
  /-- `REGISTER_WRITE` (R10). -/
  | registerWrite (off size val : Nat)
  /-- `FLT_FIRST_CLEAR` (R452). -/
  | fltFirstClear
  /-- `EVR_RESTART_WRITE` (R458). -/
  | evrRestartWrite
  /-- `VSB12_UP` (R492). -/
  | vsb12Up (cv : Nat)
  /-- `VSB12_LOST` (R492). -/
  | vsb12Lost
  /-- `PWR_OK_ASSERT` (R463). -/
  | pwrOkAssert
  /-- `KEEL_UP_ENTRY` (R431). -/
  | keelUpEntry (plane tray : Nat) (keyOk : Bool)
  /-- `STARTUP_DONE` (R431). -/
  | startupDone (b : StartData)
  /-- `PWR_OK_DEASSERT` (R464). -/
  | pwrOkDeassert
  /-- `VIN40_FAULT` (R464). -/
  | vin40Fault (cv : Nat)
  /-- `KEEL_WATCHDOG_EXPIRE` (R435). -/
  | keelWatchdogExpire
  /-- `HEADLESS_RESTART` (R435). -/
  | headlessRestart
  /-- `FAULT_REPORT_BATCH` (R447). -/
  | faultReportBatch (reps : List (Nat × Nat × Nat))
  /-- `FAULT_WINDOW_EXPIRE` (R447). -/
  | faultWindowExpire (src : Nat)
  /-- `FAULT_QUIET_EXPIRE` (R447). -/
  | faultQuietExpire (src : Nat)
  /-- `RELEASE_TEST_DONE` (R450). -/
  | releaseTestDone (src : Nat) (pass : Bool)
  /-- `POWER_MEASUREMENT` (R465). -/
  | powerMeasurement (vin iin : Nat)
  /-- `SENSOR_READING` (R477). -/
  | sensorReading (inst : Nat) (val : Int)
  /-- `DROGUE_PRESET_UPDATE` (R473). -/
  | droguePresetUpdate
  /-- `DROGUE_ASSERT` (R473). -/
  | drogueAssert
  /-- `VIN_DROGUE_LOW` (R473). -/
  | vinDrogueLow (cv : Nat)
  /-- `DROGUE_END` (R475). -/
  | drogueEnd (cv : Nat)
  /-- `PUMP_CONDITION_START` (R476). -/
  | pumpConditionStart
  /-- `PUMP_CONDITION_END` (R476). -/
  | pumpConditionEnd
  /-- `RIPCORD_INPUT` (R479). -/
  | ripcordInput
  /-- `LEAK_INPUT` (R479). -/
  | leakInput (sensor : Nat)
  /-- `THERMAL_TRIP` (R478). -/
  | thermalTrip (sensor : Nat)
  /-- `CAP_DEADLINE` (R469). -/
  | capDeadline
  /-- `HEARTBEAT_MISSED` (R481). -/
  | heartbeatMissed
  /-- `KEEL_LOSS_ORPHAN_CAP` (R482). -/
  | keelLossOrphanCap
  /-- `PSU_POLL` (R485). -/
  | psuPoll (rds : List (Option Psu))
  /-- `PSU_ALERT_INPUT` (R485). -/
  | psuAlertInput (rds : List (Option Psu))
  /-- `STOP_CONDITION_CLEARED` (R464). -/
  | stopConditionCleared (cause : Nat)
  /-- `STORAGE_LINK_LOCK` (R101). -/
  | storageLinkLock (port : Nat) (locked : Bool)
  /-- `FLASH_READ_DONE` (R342). -/
  | flashReadDone (addr tier : Nat) (bytes : Option (List Byte))
  /-- `HEADLESS_FAULT_REPORT_RX` (R369). -/
  | headlessFaultReportRx (die src kind ft : Nat)
deriving DecidableEq, Repr

end Sys2Proof
end

