-- ==== Sys2Proof/Machine/Numbers.lean ====
section
/-! DEFINITION. The number rules of chapter 08: formats (Table 8-5), rounding (R193 to R197), the long accumulator
(Table 8-6), operators (Table 8-7) and the checks of a numeric control word (R198). Values are exact: a finite
value is a sign, a magnitude and a power of two, and is rounded once where a rule says so. -/

set_option Elab.async false

namespace Sys2Proof.Machine

/-- An exact value: NaN, an infinity, or (−1)^neg · m · 2^e. A magnitude that stands for a quotient or a root
carries a sticky last bit below every rounding position. -/
inductive Num where
  | nan
  | inf (neg : Bool)
  | fin (neg : Bool) (m : Nat) (e : Int)
deriving DecidableEq, Repr

/-- How a binary floating-point format treats its top exponent: IEEE (infinities and NaNs), E4M3 (one NaN, no infinity),
or every encoding finite. -/
inductive FpKind where
  | ieee | e4m3 | finite
deriving DecidableEq, Repr

/-- A binary floating-point format: exponent and mantissa widths, bias, kind (Table 8-5). -/
structure Fp where
  eb : Nat
  mb : Nat
  bias : Nat
  kind : FpKind
deriving DecidableEq, Repr

def fpE4M3 : Fp := ⟨4, 3, 7, .e4m3⟩
def fpE5M2 : Fp := ⟨5, 2, 15, .ieee⟩
def fp16 : Fp := ⟨5, 10, 15, .ieee⟩
def fpBF16 : Fp := ⟨8, 7, 127, .ieee⟩
def fp32 : Fp := ⟨8, 23, 127, .ieee⟩
def fp64 : Fp := ⟨11, 52, 1023, .ieee⟩
def fpE2M1 : Fp := ⟨2, 1, 1, .finite⟩

/-- Width of a format in bits. -/
def Fp.width (f : Fp) : Nat := 1 + f.eb + f.mb

/-- The canonical NaN of a format, sign 0 (R202, Table 8-5). -/
def Fp.nanBits (f : Fp) : Nat :=
  match f.kind with
  | .ieee => ((2 ^ f.eb - 1) <<< f.mb) + 2 ^ (f.mb - 1)
  | .e4m3 => 2 ^ (f.eb + f.mb) - 1
  | .finite => 0

/-- The bits of the largest finite magnitude. -/
def Fp.maxBits (f : Fp) : Nat :=
  match f.kind with
  | .ieee => ((2 ^ f.eb - 1) <<< f.mb) - 1
  | .e4m3 => 2 ^ (f.eb + f.mb) - 2
  | .finite => 2 ^ (f.eb + f.mb) - 1

/-- Sign bit placed at its position. -/
def Fp.sign (f : Fp) (neg : Bool) : Nat := if neg then 2 ^ (f.eb + f.mb) else 0

/-- The value that a bit pattern of the format stands for. -/
def Fp.decode (f : Fp) (b : Nat) : Num :=
  let neg := b.testBit (f.eb + f.mb)
  let ex := (b >>> f.mb) % 2 ^ f.eb
  let ma := b % 2 ^ f.mb
  if f.kind = .ieee ∧ ex = 2 ^ f.eb - 1 then (if ma = 0 then .inf neg else .nan)
  else if f.kind = .e4m3 ∧ ex = 2 ^ f.eb - 1 ∧ ma = 2 ^ f.mb - 1 then .nan
  else if ex = 0 then .fin neg ma (1 - (f.bias : Int) - f.mb)
  else .fin neg (ma + 2 ^ f.mb) ((ex : Int) - f.bias - f.mb)

/-- `m / 2^k` rounded to nearest, ties to even. -/
def shiftRne (m k : Nat) : Nat :=
  if k = 0 then m else
    let q := m >>> k
    let r := m % 2 ^ k
    let half := 2 ^ (k - 1)
    if r > half ∨ (r = half ∧ q % 2 = 1) then q + 1 else q

/-- The magnitude bits of a finite value rounded to the format with an unbounded exponent, and whether the result
exceeds the largest finite magnitude. -/
def Fp.roundMag (f : Fp) (m : Nat) (e : Int) : Nat × Bool :=
  if m = 0 then (0, false) else
    let top : Int := (Nat.log2 m : Int) + e
    let emin : Int := 1 - (f.bias : Int)
    let q : Int := max (top - f.mb) (emin - f.mb)
    let s : Int := q - e
    let r := if s ≤ 0 then m <<< s.natAbs else shiftRne m s.natAbs
    -- a carry out of the top bit moves up one binade
    let (r, q) := if r = 2 ^ (f.mb + 1) then (2 ^ f.mb, q + 1) else (r, q)
    let bits := if r < 2 ^ f.mb then r else ((q + f.mb + f.bias).toNat <<< f.mb) + (r - 2 ^ f.mb)
    (bits, bits > f.maxBits)

/-- An overflowed or infinite value in the format (R197): infinity where there is one, else NaN; with `sat` a finite
overflow, or an infinity in a format without one, gives the largest finite value of the sign. -/
def Fp.overflow (f : Fp) (sat wasInf neg : Bool) : Nat :=
  match f.kind with
  | .ieee => f.sign neg + (if sat && !wasInf then f.maxBits else (2 ^ f.eb - 1) <<< f.mb)
  | .e4m3 => if sat then f.sign neg + f.maxBits else f.nanBits
  | .finite => f.sign neg + f.maxBits

/-- Rounds a value to the format, to nearest with ties to even. `ftz`: a result below the smallest normal becomes zero
of its sign (R193, long formats in FAST). `sat`: `OVF_SAT`. -/
def Fp.round (f : Fp) (ftz sat : Bool) : Num → Nat
  | .nan => f.nanBits
  | .inf neg => f.overflow sat true neg
  | .fin neg m e =>
    let (b, ovr) := f.roundMag m e
    if ovr then f.overflow sat false neg
    else if ftz && b < 2 ^ f.mb then f.sign neg
    else f.sign neg + b

/-- Reads a bit pattern, a subnormal as zero of its sign when `ftz` (R193). -/
def Fp.read (f : Fp) (ftz : Bool) (b : Nat) : Num :=
  match f.decode b with
  | .fin neg m e => if ftz ∧ m < 2 ^ f.mb then .fin neg 0 e else .fin neg m e
  | v => v

def Num.isNan : Num → Bool
  | .nan => true
  | _ => false

def Num.isZero : Num → Bool
  | .fin _ 0 _ => true
  | _ => false

def Num.neg : Num → Num
  | .nan => .nan
  | .inf s => .inf (!s)
  | .fin s m e => .fin (!s) m e

/-- The signed magnitude at exponent `e0`, where `e0` is at most `e`. -/
def signedAt (neg : Bool) (m : Nat) (e e0 : Int) : Int :=
  let v : Int := (m <<< (e - e0).toNat : Nat)
  if neg then -v else v

/-- Exact sum. An exact zero sum of opposite signs is +0 (IEEE 754, nearest); two −0 give −0. -/
def Num.add : Num → Num → Num
  | .nan, _ => .nan
  | _, .nan => .nan
  | .inf a, .inf b => if a = b then .inf a else .nan
  | .inf a, .fin .. => .inf a
  | .fin .., .inf b => .inf b
  | .fin sa ma ea, .fin sb mb eb =>
    if ma = 0 then (if mb = 0 then .fin (sa && sb) 0 0 else .fin sb mb eb)
    else if mb = 0 then .fin sa ma ea
    else
      let e0 := min ea eb
      let v := signedAt sa ma ea e0 + signedAt sb mb eb e0
      .fin (v < 0) v.natAbs (if v = 0 then 0 else e0)

/-- Exact product. -/
def Num.mul : Num → Num → Num
  | .nan, _ => .nan
  | _, .nan => .nan
  | .inf a, .inf b => .inf (a != b)
  | .inf a, .fin b m _ => if m = 0 then .nan else .inf (a != b)
  | .fin a m _, .inf b => if m = 0 then .nan else .inf (a != b)
  | .fin sa ma ea, .fin sb mb eb => .fin (sa != sb) (ma * mb) (ea + eb)

/-- Quotient with a sticky last bit, at least `p` significant bits before it. -/
def quotSticky (p a b : Nat) : Nat × Int :=
  let k := p + 2 + Nat.log2 b - min (Nat.log2 a) (p + 2 + Nat.log2 b) + 1
  let n := a <<< k
  (2 * (n / b) + (if n % b = 0 then 0 else 1), -(k : Int) - 1)

/-- Exact-enough quotient: rounding it once to any format of at most 53 significant bits gives the correctly rounded
quotient. -/
def Num.div : Num → Num → Num
  | .nan, _ => .nan
  | _, .nan => .nan
  | .inf _, .inf _ => .nan
  | .inf a, .fin b _ _ => .inf (a != b)
  | .fin a _ _, .inf b => .fin (a != b) 0 0
  | .fin sa ma ea, .fin sb mb eb =>
    if mb = 0 then (if ma = 0 then .nan else .inf (sa != sb))
    else if ma = 0 then .fin (sa != sb) 0 0
    else
      let (q, k) := quotSticky 64 ma mb
      .fin (sa != sb) q (ea - eb + k)

/-- Integer square root, `fuel` binary digits from the top. -/
def isqrtGo (n : Nat) : Nat → Nat → Nat
  | 0, r => r
  | fuel + 1, r =>
    let c := r + 2 ^ fuel
    isqrtGo n fuel (if c * c ≤ n then c else r)

def isqrt (n : Nat) : Nat := isqrtGo n (Nat.log2 n / 2 + 1) 0

/-- Square root with a sticky last bit; a negative non-zero value is invalid. -/
def Num.sqrt : Num → Num
  | .nan => .nan
  | .inf neg => if neg then .nan else .inf false
  | .fin neg m e =>
    if m = 0 then .fin neg 0 e
    else if neg then .nan
    else
      let odd := e % 2 ≠ 0
      let m1 := if odd then 2 * m else m
      let e1 := if odd then e - 1 else e
      let n := m1 <<< 128
      let r := isqrt n
      .fin false (2 * r + (if r * r = n then 0 else 1)) (e1 / 2 - 65)

/-- `a < b` on values that are not NaN, with −0 below +0 (R199). -/
def Num.lt : Num → Num → Bool
  | .inf a, .inf b => a && !b
  | .inf a, _ => a
  | _, .inf b => !b
  | .fin sa ma ea, .fin sb mb eb =>
    if ma = 0 ∧ mb = 0 then sa && !sb
    else
      let e0 := min ea eb
      decide (signedAt sa ma ea e0 < signedAt sb mb eb e0)
  | .nan, _ => false
  | _, .nan => false

/-- IEEE 754-2019 minimum and maximum: NaN if any input is NaN. -/
def Num.minimum (a b : Num) : Num := if a.isNan || b.isNan then .nan else if Num.lt b a then b else a
def Num.maximum (a b : Num) : Num := if a.isNan || b.isNan then .nan else if Num.lt a b then b else a

/-- Two's complement of width `w`. -/
def toSigned (w b : Nat) : Int := if b.testBit (w - 1) then (b % 2 ^ w : Nat) - (2 ^ w : Nat) else (b % 2 ^ w : Nat)
def ofSigned (w : Nat) (v : Int) : Nat := (v % (2 ^ w : Nat)).toNat
/-- Clamp to, or wrap into, `w` bits. -/
def narrowInt (w : Nat) (sat : Bool) (v : Int) : Int :=
  if sat then max (-(2 ^ (w - 1) : Nat)) (min v ((2 ^ (w - 1) : Nat) - 1)) else toSigned w (ofSigned w v)

/-- `v / n` to the nearest integer, ties to even. -/
def divRne (v : Int) (n : Nat) : Int :=
  let q := v / n
  let r := v % n
  if 2 * r > n ∨ (2 * r = n ∧ q % 2 = 1) then q + 1 else q

/-! ### The numeric control word (Table 8-4) -/

/-- Fields of `NUMCTL`. -/
def ncFmt (nc : Nat) : Nat := nc % 16
def ncOut (nc : Nat) : Nat := (nc >>> 5) % 4
def ncStrict (nc : Nat) : Bool := nc.testBit 7
def ncSat (nc : Nat) : Bool := nc.testBit 8
def ncAcc64 (nc : Nat) : Bool := nc.testBit 9
def ncOvfSat (nc : Nat) : Bool := nc.testBit 10
def ncTrap (nc : Nat) : Bool := nc.testBit 11

def fmtIsInt (f : Nat) : Bool := f < 4
def fmtIsMx (f : Nat) : Bool := 10 ≤ f && f < 14
/-- FP32 and FP64 are the long formats. -/
def fmtIsLong (f : Nat) : Bool := f == 8 || f == 9
/-- Width in bits of one element, MX without its scale. -/
def fmtWidth (f : Nat) : Nat :=
  match f with
  | 0 => 4 | 1 => 8 | 2 => 16 | 3 => 32 | 4 => 8 | 5 => 8 | 6 => 16 | 7 => 16 | 8 => 32 | 9 => 64
  | 10 => 8 | 11 => 8 | 12 => 4 | 13 => 8 | _ => 8
/-- The floating-point encoding of a format's elements. -/
def fmtFp (f : Nat) : Fp :=
  match f with
  | 4 => fpE4M3 | 5 => fpE5M2 | 6 => fp16 | 7 => fpBF16 | 9 => fp64
  | 10 => fpE4M3 | 11 => fpE5M2 | 12 => fpE2M1 | _ => fp32

/-- The accumulation format of Table 8-5: integers by width, else FP32 or FP64. -/
def accWidth (nc : Nat) : Nat :=
  if ncFmt nc == 9 then 64 else if fmtIsInt (ncFmt nc) && ncAcc64 nc then 64 else 32
def accFp (nc : Nat) : Fp := if ncFmt nc == 9 then fp64 else fp32

/-- FAST flushes subnormals of the long formats (R193); STRICT never does (R194), and in EXACT it changes nothing (R198). -/
def ncFtz (mode nc : Nat) : Bool := fmtIsLong (ncFmt nc) && (!ncStrict nc || mode == 2)

/-- An operator of Table 9-7 that works on (value, index) pairs. -/
def operIsLoc (oper : Nat) : Bool := oper == 7 || oper == 8
/-- An operator that sums, and so uses the long accumulator in EXACT mode. -/
def operIsSum (oper : Nat) : Bool := oper == 0 || oper == 9

/-- Bytes of one partial (Table 8-9). -/
def partialBytes (mode nc oper : Nat) : Nat :=
  if operIsLoc oper then (if ncFmt nc == 9 then 16 else 8)
  else if mode == 2 && operIsSum oper then 64
  else if accWidth nc == 64 then 8 else 4

/-- Elements per 64 KiB basket (Table 8-9), the capacity K of R224. -/
def basketElems (mode nc oper : Nat) : Nat := 65536 / partialBytes mode nc oper

/-- The refusals of R198; `none` accepts. `reduces` says whether the operation reduces (R222). -/
def numctlCheck (nc mode : Nat) (oper : Option Nat) : Option Nat :=
  let f := ncFmt nc
  if f ≥ 14 ∨ ncOut nc ≥ 2 then some 0x0840
  else if ncStrict nc ∧ mode = 0 then some 0x0841
  else if (ncSat nc ∨ ncAcc64 nc) ∧ !fmtIsInt f then some 0x0841
  else if ncAcc64 nc ∧ f < 2 then some 0x0841
  else match oper with
    | none => none
    | some o =>
      if o ≥ 10 then some 0x0841
      else if f = 9 ∧ mode = 2 ∧ operIsSum o then some 0x0841
      else if o = 3 ∧ mode = 2 then some 0x0841
      else if (o = 4 ∨ o = 5 ∨ o = 6) ∧ !fmtIsInt f then some 0x0841
      else if operIsLoc o ∧ f ≠ 3 ∧ f ≠ 8 ∧ f ≠ 9 then some 0x0841
      else none

/-- An element count that breaks R192. -/
def numCountBad (nc count : Nat) : Bool :=
  (fmtIsMx (ncFmt nc) && count % 256 != 0) || (ncFmt nc == 0 && count % 2 != 0)

/-! ### Elements in payloads (R191, R192, R200) -/

/-- Little-endian number from bytes. -/
def leNat : List Byte → Nat
  | [] => 0
  | b :: bs => b.toNat + 256 * leNat bs

/-- `n` little-endian bytes of a number. -/
def leBytes : Nat → Nat → List Byte
  | 0, _ => []
  | k + 1, v => BitVec.ofNat 8 v :: leBytes k (v / 256)

/-- `n` bytes from offset `o`, zeros beyond the end. -/
def sliceBytes (bs : List Byte) (o n : Nat) : List Byte :=
  let t := (bs.drop o).take n
  t ++ List.replicate (n - t.length) 0

def rdLe (bs : List Byte) (o n : Nat) : Nat := leNat (sliceBytes bs o n)

/-- Bytes of one MX group of 256 elements (R192). -/
def mxGroupBytes (f : Nat) : Nat := if f == 12 then 136 else 264

/-- Bytes that `n` elements of a format take in a payload. -/
def payloadBytes (f oper n : Nat) : Nat :=
  if operIsLoc oper then n * (if f == 9 then 16 else 8)
  else if fmtIsMx f then n / 256 * mxGroupBytes f
  else (n * fmtWidth f + 7) / 8

/-- The stored bits of element `i`, and for MX its scale byte. -/
def elemBits (f : Nat) (bs : List Byte) (i : Nat) : Nat × Nat :=
  if fmtIsMx f then
    let g := i / 256
    let j := i % 256
    let base := g * mxGroupBytes f
    let sc := rdLe bs (base + j / 32) 1
    let e := if f == 12 then (rdLe bs (base + 8 + j / 2) 1 >>> (4 * (j % 2))) % 16 else rdLe bs (base + 8 + j) 1
    (e, sc)
  else if f == 0 then ((rdLe bs (i / 2) 1 >>> (4 * (i % 2))) % 16, 127)
  else (rdLe bs (i * (fmtWidth f / 8)) (fmtWidth f / 8), 127)

/-- The exact value of an element of a non-integer format (R193). -/
def elemNum (f : Nat) (bits scale : Nat) : Num :=
  if fmtIsMx f then
    if scale = 255 then .nan
    else
      let v := if f == 13 then (let n := toSigned 8 bits; Num.fin (n < 0) n.natAbs (-6)) else (fmtFp f).decode bits
      v.mul (.fin false 1 ((scale : Int) - 127))
  else (fmtFp f).decode bits

/-- A partial's (value, index) halves for MINLOC and MAXLOC: the value is `w` bits wide. -/
def locVal (w p : Nat) : Nat := p % 2 ^ w
def locIdx (w p : Nat) : Int := toSigned 32 (p >>> w)

/-- Bits of the value half of a pair. -/
def locWidth (nc : Nat) : Nat := if ncFmt nc == 9 then 64 else 32

/-- The long accumulator element (Table 8-6). -/
def accReset : Nat := 1 <<< 320
def accAcc (a : Nat) : Nat := a % (1 <<< 320)
def accPack (acc : Nat) (nan pinf ninf allnegz : Bool) : Nat :=
  acc + (if allnegz then 1 <<< 320 else 0) + (if ninf then 1 <<< 321 else 0) +
    (if pinf then 1 <<< 322 else 0) + (if nan then 1 <<< 323 else 0)

/-- Combines one value into an accumulator element (R195). -/
def accAdd (a : Nat) (v : Num) : Nat :=
  let nan := a.testBit 323
  let pinf := a.testBit 322
  let ninf := a.testBit 321
  let anz := a.testBit 320
  match v with
  | .nan => accPack (accAcc a) true pinf ninf false
  | .inf neg => accPack (accAcc a) nan (pinf || !neg) (ninf || neg) false
  | .fin neg m e =>
    let s := signedAt neg m e (-149)
    accPack (ofSigned 320 ((accAcc a : Int) + s)) nan pinf ninf (anz && neg && m == 0)

/-- Merges a partial that another module sends as accumulator elements (R195). -/
def accMerge (a b : Nat) : Nat :=
  accPack ((accAcc a + accAcc b) % (1 <<< 320)) (a.testBit 323 || b.testBit 323) (a.testBit 322 || b.testBit 322)
    (a.testBit 321 || b.testBit 321) (a.testBit 320 && b.testBit 320)

/-- What one combination found: the new partial, whether an input was NaN, and whether a NaN was produced. -/
structure Folded where
  val : Nat
  received : Bool
  produced : Bool
deriving DecidableEq, Repr

/-- An input element as a partial (Table 8-9): integers sign-extended to the accumulation width, floating point
converted to the accumulation format, pairs as stored, sums in EXACT as accumulator elements. -/
def elemPartial (mode nc oper : Nat) (bs : List Byte) (i : Nat) : Nat :=
  let f := ncFmt nc
  if operIsLoc oper then
    let w := locWidth nc / 8
    let st := if f == 9 then 16 else 8
    let v := rdLe bs (i * st) w
    let v := if fmtIsInt f then v else (accFp nc).round false false ((accFp nc).read (ncFtz mode nc) v)
    v + (rdLe bs (i * st + w) 4 <<< (8 * w))
  else
    let (b, sc) := elemBits f bs i
    if mode == 2 && operIsSum oper then
      accAdd accReset (if fmtIsInt f then
        (let n := toSigned (fmtWidth f) b; Num.fin (n < 0) n.natAbs 0) else elemNum f b sc)
    else if fmtIsInt f then ofSigned (accWidth nc) (toSigned (fmtWidth f) b)
    else
      match elemNum f b sc with
      | .fin neg m e =>
        let v := if ncFtz mode nc && m < 2 ^ (fmtFp f).mb then Num.fin neg 0 e else Num.fin neg m e
        (accFp nc).round false false v
      | v => (accFp nc).round false false v

/-- Is a partial a NaN? -/
def partialNan (mode nc oper p : Nat) : Bool :=
  if fmtIsInt (ncFmt nc) then false
  else if operIsLoc oper then ((accFp nc).decode (locVal (locWidth nc) p)).isNan
  else if mode == 2 && operIsSum oper then p.testBit 323
  else ((accFp nc).decode p).isNan

/-- The pair rule of R200. `isMax` for MAXLOC. -/
def foldLoc (nc : Nat) (isMax : Bool) (a b : Nat) : Nat :=
  let w := locWidth nc
  let va := locVal w a
  let vb := locVal w b
  let lower := if locIdx w b < locIdx w a then b else a
  let pack := fun (v src : Nat) => v + (((src >>> w) % 2 ^ 32) <<< w)
  if fmtIsInt (ncFmt nc) then
    let x := toSigned 32 va
    let y := toSigned 32 vb
    if x = y then lower else if (if isMax then x < y else y < x) then b else a
  else
    let f := accFp nc
    let x := f.decode va
    let y := f.decode vb
    if x.isNan && y.isNan then pack f.nanBits lower
    else if x.isNan then pack f.nanBits a
    else if y.isNan then pack f.nanBits b
    else if !Num.lt x y && !Num.lt y x then lower
    else if (if isMax then Num.lt x y else Num.lt y x) then b else a

/-- Combines two partials under the operator (Table 8-7) and the modes of R193 to R195. -/
def foldPartial (mode nc oper : Nat) (a b : Nat) : Folded :=
  let rcv := partialNan mode nc oper a || partialNan mode nc oper b
  let v :=
    if operIsLoc oper then foldLoc nc (oper == 8) a b
    else if mode == 2 && operIsSum oper then accMerge a b
    else if fmtIsInt (ncFmt nc) then
      let w := accWidth nc
      let x := toSigned w a
      let y := toSigned w b
      match oper with
      | 1 => ofSigned w (min x y)
      | 2 => ofSigned w (max x y)
      | 3 => ofSigned w (narrowInt w (ncSat nc) (x * y))
      | 4 => a &&& b
      | 5 => a ||| b
      | 6 => a ^^^ b
      | _ => ofSigned w (narrowInt w (ncSat nc) (x + y))
    else
      let f := accFp nc
      let z := ncFtz mode nc
      let x := f.read z a
      let y := f.read z b
      match oper with
      | 1 => f.round false false (x.minimum y)
      | 2 => f.round false false (x.maximum y)
      | 3 => f.round z false (x.mul y)
      | _ => f.round z false (x.add y)
  ⟨v, rcv, !rcv && partialNan mode nc oper v⟩

/-! ### Finalising (R196, R197) -/

/-- A finalised element before it is encoded: an integer, or an exact value to round once. -/
inductive Final where
  | int (v : Int)
  | num (v : Num)
deriving DecidableEq, Repr

/-- The value of a partial as the last rounding takes it; AVG divides by `n` (R196, R199). -/
def finalValue (mode nc oper n p : Nat) : Final :=
  let f := ncFmt nc
  if mode == 2 && operIsSum oper then
    let acc := toSigned 320 (accAcc p)
    if fmtIsInt f then
      -- ACC holds the integer sum times 2^149
      .int (if oper == 9 then divRne acc (n * 2 ^ 149) else acc / (2 ^ 149 : Nat))
    else if p.testBit 323 || (p.testBit 322 && p.testBit 321) then .num .nan
    else if p.testBit 322 then .num (.inf false)
    else if p.testBit 321 then .num (.inf true)
    else if acc = 0 then .num (.fin (p.testBit 320) 0 0)
    else
      let v := Num.fin (acc < 0) acc.natAbs (-149)
      .num (if oper == 9 then v.div (.fin false n 0) else v)
  else if fmtIsInt f then
    let v := toSigned (accWidth nc) p
    .int (if oper == 9 then divRne v n else v)
  else
    let a := accFp nc
    if oper == 9 then .num (a.decode (a.round (ncFtz mode nc) false ((a.read (ncFtz mode nc) p).div (.fin false n 0))))
    else .num (a.decode p)

/-- The result format: the input format, or the accumulation format with `OUT` 1. -/
def outFmt (nc : Nat) : Nat :=
  if ncOut nc = 1 then
    (if fmtIsInt (ncFmt nc) then (if accWidth nc = 64 then 16 else 3) else if ncFmt nc = 9 then 9 else 8)
  else ncFmt nc

/-- Width in bits of an integer result; 64-bit results arise only with `ACC64` and `OUT` 1. -/
def outWidth (nc : Nat) : Nat := if outFmt nc = 16 then 64 else fmtWidth (outFmt nc)

/-- One non-MX, non-pair result element as stored bits. -/
def encodeFinal (nc fmt : Nat) : Final → Nat
  | .int v => ofSigned (if fmt = 16 then 64 else fmtWidth fmt) (narrowInt (if fmt = 16 then 64 else fmtWidth fmt) (ncSat nc) v)
  | .num v => (fmtFp fmt).round false (ncOvfSat nc) v

/-- ⌊log₂⌋ of a non-zero magnitude. -/
def Num.log2 : Num → Int
  | .fin _ m e => (Nat.log2 m : Int) + e
  | _ => 0

/-- Magnitude as a value of positive sign. -/
def Num.abs : Num → Num
  | .fin _ m e => .fin false m e
  | .inf _ => .inf false
  | .nan => .nan

/-- The largest magnitude of a list of finite values. -/
def maxAbs (vs : List Num) : Num := vs.foldl (fun a v => if Num.lt a v.abs then v.abs else a) (.fin false 0 0)

def mxElemMax (f : Nat) : Int := match f with | 10 => 8 | 11 => 15 | 12 => 2 | _ => 0

/-- Round a value to the nearest integer, ties to even. -/
def Num.toIntRne : Num → Int
  | .fin neg m e =>
    let r : Int := if e ≥ 0 then ((m <<< e.toNat : Nat) : Int) else (shiftRne m e.natAbs : Int)
    if neg then -r else r
  | _ => 0

/-- One MX block of 32 results: its scale byte and element bits (R197). -/
def mxBlock (f : Nat) (vs : List Num) : Nat × List Nat :=
  if vs.any (fun v => match v with | .fin .. => false | _ => true) then (255, vs.map (fun _ => 0))
  else
    let mx := maxAbs vs
    let x : Int := if mx.isZero then -127 else max (-127) (min 127 (mx.log2 - mxElemMax f))
    let enc := fun (v : Num) =>
      let w := v.mul (.fin false 1 (-x))
      if f == 13 then ofSigned 8 (max (-127) (min 127 ((w.mul (.fin false 64 0)).toIntRne)))
      else (fmtFp f).round false true w
    ((x + 127).toNat, vs.map enc)

/-- Pack a list of 4-bit elements two to a byte, the even-numbered in bits [3:0]. -/
def packNibbles : List Nat → List Byte
  | a :: b :: r => BitVec.ofNat 8 (a % 16 + 16 * (b % 16)) :: packNibbles r
  | [a] => [BitVec.ofNat 8 (a % 16)]
  | [] => []

/-- Cut a list into pieces of `n` (fuel: the list's length). -/
def chunksOf {α : Type} (n : Nat) (l : List α) : List (List α) :=
  let rec go : Nat → List α → List (List α)
    | 0, _ => []
    | k + 1, l => if l.isEmpty then [] else l.take n :: go k (l.drop n)
  go l.length l

/-- Encode MX results in groups of eight blocks (R192, R197). -/
def mxEncode (f : Nat) (vs : List Num) : List Byte :=
  (chunksOf 256 vs).flatMap fun g =>
    let blocks := (chunksOf 32 g).map (mxBlock f)
    let els := blocks.flatMap (·.2)
    blocks.map (fun b => BitVec.ofNat 8 b.1) ++
      (if f == 12 then packNibbles els else els.map (BitVec.ofNat 8))

/-- The stored bytes of a piece's results from its partials (R196, R197, R200). -/
def finaliseBytes (mode nc oper n : Nat) (ps : List Nat) : List Byte :=
  if operIsLoc oper then ps.flatMap (fun p => leBytes (if ncFmt nc == 9 then 16 else 8) p)
  else
    let vs := ps.map (finalValue mode nc oper n)
    let f := outFmt nc
    if fmtIsMx f then mxEncode f (vs.map fun v => match v with | .num x => x | .int i => .fin (i < 0) i.natAbs 0)
    else
      let bits := vs.map (encodeFinal nc f)
      if f == 0 then packNibbles bits
      else bits.flatMap (leBytes (outWidth nc / 8))

/-- The stored bytes of partials sent up a tree, in the accumulation format or as accumulator elements (R227). -/
def partialStream (mode nc oper : Nat) (ps : List Nat) : List Byte :=
  ps.flatMap (leBytes (partialBytes mode nc oper))

/-- The partials read back from such bytes. -/
def streamPartials (mode nc oper : Nat) (bs : List Byte) (n : Nat) : List Nat :=
  (List.range n).map fun i => rdLe bs (i * partialBytes mode nc oper) (partialBytes mode nc oper)

/-- Does finalising produce a NaN from an element that had no NaN input (R202, R203 `ORIGIN` 2 and 3)? -/
def finalNan (mode nc oper n p : Nat) : Bool :=
  !partialNan mode nc oper p && !operIsLoc oper &&
    (match finalValue mode nc oper n p with
     | .int _ => false
     | .num v =>
       let f := outFmt nc
       if fmtIsMx f then (match v with | .fin .. => false | _ => true)
       else ((fmtFp f).decode ((fmtFp f).round false (ncOvfSat nc) v)).isNan)

/-! ### FP32 for tile programs (R265) -/

def f32 (v : Num) : Nat := fp32.round false false v
def f32add (a b : Nat) : Nat := f32 ((fp32.decode a).add (fp32.decode b))
def f32sub (a b : Nat) : Nat := f32 ((fp32.decode a).add (fp32.decode b).neg)
def f32mul (a b : Nat) : Nat := f32 ((fp32.decode a).mul (fp32.decode b))
/-- a × b + c with one rounding. -/
def f32fma (a b c : Nat) : Nat := f32 (((fp32.decode a).mul (fp32.decode b)).add (fp32.decode c))
/-- a × s + b × t with one rounding. -/
def f32axpby (a s b t : Nat) : Nat :=
  f32 (((fp32.decode a).mul (fp32.decode s)).add ((fp32.decode b).mul (fp32.decode t)))
/-- a + s × (b − a): the difference is rounded, then one fused rounding. -/
def f32ema (a b s : Nat) : Nat := f32fma s (f32sub b a) a
def f32sqrt (a : Nat) : Nat := f32 (fp32.decode a).sqrt
def f32div (a b : Nat) : Nat := f32 ((fp32.decode a).div (fp32.decode b))
/-- 1 ÷ (√(a × s) + t): product, root, sum and reciprocal each rounded. -/
def f32rsqa (a s t : Nat) : Nat := f32div 0x3F800000 (f32add (f32sqrt (f32mul a s)) t)
def f32min (a b : Nat) : Nat := f32 ((fp32.decode a).minimum (fp32.decode b))
def f32max (a b : Nat) : Nat := f32 ((fp32.decode a).maximum (fp32.decode b))
def f32nan (a : Nat) : Bool := (fp32.decode a).isNan

end Sys2Proof.Machine
end

