-- ==== Sys2Proof/Machine/StCore.lean ====
section
/-! DEFINITION. State of chapters 05 to 07: cell buffers, queues, spars, routing, arbiters, policers, shapers and
gates. Plain data. -/

set_option Elab.async false

namespace Sys2Proof.Machine

/-- A cell's state word (R107): FREE or USED, its owner, and whether its free-bitmap bit shows it free (R108, R109).
`retired` cells are held USED until KEEL_UP (Table 5-6). -/
structure Cell where
  used : Bool
  owner : Nat
  mapFree : Bool
  retired : Bool
deriving DecidableEq, Repr

/-- A frame held in the buffer: in a leaf queue or waiting for a local consumer. `inL` is the lane-port it arrived on
(none for a frame the die generated), `die` the die that stores it, `poolQ` the quarters charged to its class pool
(R112; its reservation's charge is the credits of its length), `mark` the mark decided at enqueue (R120), `eligible` under R119. -/
structure QEnt where
  id : Nat
  die : Nat
  frame : Frame
  cells : List Nat
  inL : Option Nat
  inVc : Nat
  poolQ : Nat
  mark : Bool
  eligible : Bool
  outL : Nat
  outVc : Nat
  outHops : Nat
deriving DecidableEq, Repr

/-- A cell on a spar or waiting for a slot (Table 6-2), with the frame it belongs to. -/
structure SparCell where
  srcDie : Nat
  dstDie : Nat
  cls : Nat
  sseq : Nat
  age : Nat
  shop : Nat
  first : Bool
  last : Bool
  lanePort : Nat
  fill : Nat
  visited : Nat
  frameId : Nat
  cell : Nat
  waited : Nat
deriving DecidableEq, Repr

/-- One direction of a spar (R137, R159). State: 1 up, 2 down, 4 retrained and not yet up. `sent` and `deflected` count what die d
launched toward die y; `hcrcErr`, `fails` and `underrun` what die d saw of cells from die y. -/
structure Spar where
  st : Nat
  fails : List Nat
  sent : Nat
  deflected : Nat
  hcrcErr : Nat
  underrun : Nat
deriving DecidableEq, Repr

/-- A pending multicast or generated frame that waits for its class pool (R115, R116). -/
structure Waiting where
  frame : Frame
  inL : Option Nat
  inVc : Nat
  outs : List (Nat × Nat × Nat)
deriving DecidableEq, Repr

/-- One die's switch core: pools in quarters, levels (Table 5-5), counters (Table 5-8), the transit store (R134), and
the spar cells waiting to launch, in transit, held, and on its outgoing spars by far die. -/
structure Die where
  clockOn : Bool
  cells : Map Cell
  rrPtr : Nat
  poolOcc : List Nat
  poolFull : List Bool
  level : List Nat
  egressUsed : Nat
  waits : List Waiting
  roundRefuse : Nat
  w3Entries : Nat
  cutThrough : Nat
  storeFwd : Nat
  cellCrc : Nat
  stomped : Nat
  parity : Nat
  doubleFree : Nat
  retired : Nat
  partialDiscard : Nat
  launch : List SparCell
  landing : List SparCell
  store : List SparCell
  flight : Map (List SparCell)
  transitDrop : Nat
  peakLvl : List Nat
  badEntries : List (Nat × Nat)
deriving DecidableEq, Repr

/-- Per-queue counters (Table 7-5). -/
structure QStat where
  frames : Nat
  bytes : Nat
  marked : Nat
deriving DecidableEq, Repr

/-- An arbiter node's pointer and its children's deficits (R165). -/
structure Arb where
  ptr : Nat
  deficits : Map Int
deriving DecidableEq, Repr

/-- A policer's tokens, in units of 1/14,000 byte, with the F cycle of the last refill, and its counters (R168). -/
structure PolState where
  ctok : Nat
  ptok : Nat
  at_ : Nat
  green : Nat
  yellow : Nat
  red : Nat
  discarded : Nat
deriving DecidableEq, Repr

/-- A shaper's tokens, in units of 1/14,000 byte, with the F cycle of the last refill (R170). -/
structure ShapeState where
  tok : Nat
  at_ : Nat
deriving DecidableEq, Repr

/-- State of chapters 05 to 07. Leaf queues are keyed 1,024·L + 128·c + s (R160); consumer queues 64·die + k with k as
in R107 (tile t: 0x20 + t). `heldFrames` are held under R155; `updTx` the frames that the updraft units
offer each lane-port, with their virtual channel and `HOPS`. -/
structure CoreSt where
  dies : Map Die
  leaf : Map (List QEnt)
  cons : Map (List QEnt)
  qstat : Map QStat
  svc : Map Arb
  sub : Map Arb
  pol : Map PolState
  shp : Map ShapeState
  brake : Map ShapeState
  spars : Map Spar
  sseq : Map Nat
  nextId : Nat
  held : Bool
  holdTicket : Option Nat
  heldFrames : List QEnt
  commit : Option (Nat × Nat)
  commits : Nat
  hopDiscard : Nat
  unreachable : Nat
  mapSeq : Nat
  map : List Byte
  peakDepth : Map Nat
  gateWait : Bool
  updTx : Map (List (Frame × Nat × Nat))
deriving DecidableEq, Repr

end Sys2Proof.Machine
end

