-- ==== Sys2Proof/Machine/StNet.lean ====
section
/-! DEFINITION. State of chapters 01 to 04: the part and its straps, lanes, links, optics, cartridges,
bindings in progress. Plain data. -/

set_option Elab.async false

namespace Sys2Proof.Machine

/-- The part's fixed identity (R1, R17, R21, Table 1-5): the letters of the ordering code `QFM-<n><t><f><o>`, the
serial number and the management MAC address. -/
structure Ident where
  n : Nat
  tiles : Bool
  flash : Bool
  optics : Bool
  serial : List Byte
  mac : Nat
deriving DecidableEq, Repr

/-- Lane power states (Table 3-2), with the codes of `LPOWER` (Table 3-9). -/
inductive LanePower where
  | off | powering | active | doze | lifting | test
deriving DecidableEq, Repr

/-- One lane: power state (R60), detectors (Table 3-1), counters (Table 3-10), block lock (R82). -/
structure Lane where
  power : LanePower
  los : Bool
  lol : Bool
  fecCorr : Nat
  fecUncorr : Nat
  losCnt : Nat
  lolCnt : Nat
  lifts : Nat
  dozeMs : Nat
  dozeAt : Nat
  lock : Bool
  goodRun : Nat
  badRun : Nat
  farLane : Nat
  farSeq : Nat
deriving DecidableEq, Repr

/-- Link states (Table 4-10, in the order of its codes). -/
inductive LinkState where
  | disabled | waitLanes | locking | exchange | creditInit | up | miscabled | retrain
deriving DecidableEq, Repr

/-- A frame granted to an egress lane-port: the cells it holds in the egress pool, the die and leaf queue it came from,
the virtual channel and `HOPS` of its decision, the mark decided for it, and how far it has got (R113, R121, R136):
`landed` cells of `total`, when the first landed, started, sent (its link sequence is then in `frame`). `own` says
that the die generated it. -/
structure TxEnt where
  id : Nat
  frame : Frame
  cells : List Nat
  srcDie : Nat
  leaf : Nat
  vc : Nat
  hops : Nat
  mark : Bool
  landed : Nat
  total : Nat
  firstAt : Option Nat
  started : Bool
  sent : Bool
  own : Bool
deriving DecidableEq, Repr

/-- One link of a kite lane-port (R79): training (Table 4-12), credits (R91 to R93), retry (R94 to R96),
doze handshake (R97), counters (Table 4-14), what training has learned (R75, R99). -/
structure Link where
  st : LinkState
  txCred : List Nat
  lastCret : List Nat
  rxFreed : List Nat
  rxSent : List Nat
  txSeq : Nat
  rxNext : Nat
  nakSent : Bool
  resends : Nat
  tetherSeq : Nat
  txq : List TxEnt
  dozeReq : Bool
  idleFrom : Nat
  downAt : Option Nat
  farCoord : Nat
  farPort : Option Nat
  farSplit : Nat
  farVc16 : Bool
  farNext : Nat
  farLaunch : List Int
  lcrcErr : Nat
  nakTx : Nat
  nakRx : Nat
  replays : Nat
  dup : Nat
  protoErr : Nat
  retrains : Nat
  flushed : Nat
  misroute : Nat
deriving DecidableEq, Repr

/-- One lane-map entry of a cartridge record (Table 3-5). -/
structure LaneMap where
  farKind : Nat
  farLane : Nat
  farId : Nat
  lengthCm : Nat
  loss : Nat
  skew : Int
deriving DecidableEq, Repr

/-- A cartridge bay: status (Table 3-6), serial, raw identity memory and the map entries of its lanes (R71 to R74). -/
structure Bay where
  cstatus : Nat
  serial : List Byte
  raw : List Byte
  entries : Map LaneMap
deriving DecidableEq, Repr

/-- A lane test in progress (R77): the lanes, the loop and pattern, its ticket. -/
structure LaneTest where
  ticket : Nat
  first : Nat
  count : Nat
  loop : Nat
  pattern : Nat
deriving DecidableEq, Repr

/-- An active inspection or a clean in progress (R66, R67): ticket, ports still to grade, die being cleaned
(none: inspection only), worst grade so far, cleaning phase (0 inspecting, 1 CLEAN_REQ asserted, 2 waiting). -/
structure Inspect where
  ticket : Nat
  todo : List Nat
  die : Option Nat
  worst : Nat
  phase : Nat
deriving DecidableEq, Repr

/-- A binding in progress (R47): its ticket, kind, range, target, and per object the step reached:
0 fence, 1 drain, 2 scrub, 3 bound. `acked` once every die has acknowledged the fence. -/
structure BindOp where
  ticket : Nat
  kind : Nat
  first : Nat
  count : Nat
  toSlice : Option Nat
  acked : Bool
  steps : Map Nat
deriving DecidableEq, Repr

/-- A RoCEv2 queue pair of a storage port (R102, R103): send sequence, unacknowledged packets, retries, rate in
percent of the port rate. -/
structure QPair where
  target : Nat
  psn : Nat
  ackPsn : Nat
  unacked : List (Nat × List Byte)
  retries : Nat
  ratePct : Nat
  expectPsn : Nat
deriving DecidableEq, Repr

/-- State of chapters 02 to 04. `lanes` are numbered 128·d + lane, `links` by lane-port, `bays` 3·d + b,
`opt` by lane (R65), `refclk` the active lane reference of each die (R58; 2 when both have failed),
`storageOcc` the cells of a storage
port's reservation in use (plus 65,536 since an XOFF), `stale` the stale-frame counters (Table 2-6), `drains` the slice drains in progress (slice, F cycle of its start),
`scrub` the scrub maps: a listed 1 GiB region is marked, but for the listed granules, which are zero-filled since. -/
structure NetSt where
  lanes : Map Lane
  links : Map Link
  bays : Map Bay
  opt : Map OptRead
  grades : Map Nat
  refclk : Map Nat
  cleanReq : Bool
  cleanDie : Option Nat
  tests : List LaneTest
  inspects : List Inspect
  rescans : Map Nat
  misroutes : Nat
  expectSeen : Map (Nat × Nat)
  binds : List BindOp
  drains : Map Nat
  stale : Map Nat
  scrub : Map (List Nat)
  qps : Map QPair
  pfcXoff : Map Nat
  storageOcc : Map Nat
  ethFlushed : Map Nat
deriving DecidableEq, Repr

end Sys2Proof.Machine
end

