-- ==== Sys2Proof/Machine/StOut.lean ====
section
/-! DEFINITION. What the module sends to the outside, in order of sending: the model's own field `State.out` lists it,
oldest first. -/

set_option Elab.async false

namespace Sys2Proof.Machine

/-- One thing sent. -/
inductive Out where
  /-- A frame on a kite lane-port. -/
  | frame (lp : Nat) (f : Frame)
  /-- A control block on a kite lane-port: kind of Table 4-2 and its bits. -/
  | block (lp kind bits : Nat)
  /-- A packet on a storage port. -/
  | eth (port : Nat) (p : EthPkt)
  /-- A command to a tier-3 target: 0 write, 1 flush, 2 read, 3 connect, 4 keep alive. -/
  | nvme (target kind addr : Nat) (bytes : List Byte)
  /-- A completion posted to a ring or session, with its result. -/
  | cpl (dst : RingId) (c : Cpl) (result : List Byte)
  /-- Bytes written to host memory. -/
  | hostWrite (addr : Nat) (bytes : List Byte)
  /-- An MSI-X vector signalled. -/
  | irq (vec : Nat)
  /-- A capsule: transport, session, peer's address, bytes. -/
  | capsule (xp sess dst : Nat) (bytes : List Byte)
  /-- A management Ethernet answer: destination, UDP port or 0, bytes. -/
  | mgmt (dst port : Nat) (bytes : List Byte)
  /-- An SPDM response, over DOE or over the management port. -/
  | spdm (doe : Bool) (bytes : List Byte)
  /-- A memory-device mailbox return: code and payload. -/
  | mailbox (code : Nat) (bytes : List Byte)
  /-- A CXL.mem completion to the host: its tag and data (none for a write). -/
  | hostData (tag : Nat) (bytes : List Byte)
  /-- A value returned by a register read. -/
  | regRead (off val : Nat)
  /-- A mirror record to the twin on a mooring lane-port. -/
  | record (lp : Nat) (bytes : List Byte)
  /-- An ENTRY record to the twin: its journal sequence and what it journals. -/
  | entry (lp jseq : Nat) (e : JEntry)
  /-- The journal from one sequence to another, sent to the twin as ENTRY records. -/
  | journal (lp frm upto : Nat)
  /-- A write to the tray's cleaning actuator. -/
  | actuator (die : Nat)
deriving DecidableEq, Repr

end Sys2Proof.Machine
end

