-- ==== Sys2Proof/Machine/StMem.lean ====
section
/-! DEFINITION. State of chapters 12 to 16: memory, fabric time, schedules, audit digests, snapshot sides, the reel
engine, local flash and the Gemel pair. Plain data. -/

set_option Elab.async false

namespace Sys2Proof.Machine

/-- A refusal mark on a stream, or on a whole lane-port and VC (R298): `stream` is (SRC, DEST, class). -/
structure StreamMark where
  lanePort : Nat
  vc : Nat
  stream : Option (Nat × Nat × Nat)
  cause : Nat
  since : Nat
deriving DecidableEq, Repr

/-- A host access held for a restore (R307, Table 19-3): device address, length, the host's tag, and the bytes of a write. -/
structure HeldRead where
  addr : Nat
  len : Nat
  tag : Nat
  write : Option (List Byte)
deriving DecidableEq, Repr

/-- State of chapter 12. `bad` lists the 512-byte blocks whose CRC-32 is known to fail, `selfRefresh` the stacks in
self-refresh (1) or not (0). -/
structure MemSt where
  hbm : Memory
  bad : Map Bool
  marks : List StreamMark
  selfRefresh : Map Nat
  hostHeld : List HeldRead
deriving DecidableEq, Repr

/-- Time states (Table 13-2), in the order of `TSTATE`. -/
inductive TimeState where
  | freeRun | acquiring | aligned | holdover
deriving DecidableEq, Repr

/-- Fabric time (R310 to R315). `ft` and `rate` are in units of 2^-48 ns; θ and δ in units of 2^-16 ns, the resolution of
`TS`. `adj` holds the θ of the last eight exchanges, which `RATE` removes, newest first; `exch` is the exchange under way
on the parent link: XSEQ, t1, t2, t3. -/
structure TimeSt where
  ft : Nat
  rate : Nat
  st : TimeState
  steps : Nat
  parent : Option Nat
  theta : Int
  delta : Int
  adj : List Int
  good : Nat
  bad : Nat
  xseq : Nat
  exch : Option (Nat × Nat × Nat × Nat)
  farSteps : Map Nat
  stepCnt : Nat
  ppsFt : Nat
deriving DecidableEq, Repr

/-- Schedule states (Table 13-7), in the order of `SSTATE`. -/
inductive SchedState where
  | empty | loaded | armed | running | halted | ended
deriving DecidableEq, Repr

/-- A reservation an enabled image holds: kind of Table 13-5, its fields packed by the handler, and the F cycle it ends. -/
structure Window where
  kind : Nat
  a : Nat
  b : Nat
  c : Nat
  until_ : Nat
deriving DecidableEq, Repr

/-- State of scheduled mode: the images in NOR by slot, the enabled slot (R309), its identity and floor, the run's figures (Table 13-11), windows open, launch barrier
(R319), the tags whose HALT or LAUNCH has been forwarded, audit digests per group (R326). -/
structure SchedSt where
  images : Map (List Byte)
  ident : List Byte
  floorW : Nat
  slot : Option Nat
  st : SchedState
  ticket : Option Nat
  cause : Nat
  haltEntry : Nat
  iter : Nat
  next : Nat
  launchFt : Nat
  startFt : Nat
  launchAt : Option Nat
  periodAt : Nat
  nanSeen : Nat
  haltDiscard : Nat
  stopAtEnd : Bool
  declared : Nat
  windows : List Window
  armed : List (Nat × Nat × Nat)
  fwdLaunch : List Nat
  fwdHalt : List Nat
  digests : Map (List (Nat × List Byte))
  auditLost : Map Nat
deriving DecidableEq, Repr

/-- A side of the state (R332): OPEN when `sealed` is false. `wholeAt` is the step at which it is whole (R278),
`pending` a seal waiting for writes to be performed: step, HOSTSEAL and AUTO flags. -/
structure Side where
  sealed : Bool
  snapId : Nat
  step : Nat
  ftSeal : Nat
  header : List Byte
  acks : Nat
  drained : List Nat
  wholeAt : Option Nat
  pending : Option (Nat × Bool × Bool)
deriving DecidableEq, Repr

/-- A drain in progress (R340): side, tier, target index, seal, its header, per-die cursor in 4 KiB pieces, place, phase
(0 data, 1 flush before the header, 2 header, 3 last flush), its ticket, suspended. -/
structure Drain where
  side : Nat
  tier : Nat
  target : Nat
  snapId : Nat
  header : List Byte
  cursors : List Nat
  place : Nat
  phase : Nat
  ticket : Option Nat
  emergency : Bool
  suspended : Bool
deriving DecidableEq, Repr

/-- A copy that a tier holds (R335): seal, step, seal time, state (0 ACKED, 1 WRITING, 2 DAMAGED), place, target, header. -/
structure Copy where
  snapId : Nat
  step : Nat
  ftSeal : Nat
  st : Nat
  place : Nat
  target : Nat
  header : List Byte
deriving DecidableEq, Repr

/-- A page restore waiting (R342): side, module address of the page, tier being tried, who waits (chunk or host). -/
structure PageRestore where
  side : Nat
  addr : Nat
  tier : Nat
deriving DecidableEq, Repr

/-- A side restore in progress (R343). -/
structure Restore where
  ticket : Nat
  side : Nat
  tier : Nat
  target : Nat
  snapId : Nat
  header : List Byte
deriving DecidableEq, Repr

/-- State of chapter 14: sides A and B, the reel engine, drains, twin slots kept for the twin (R337), seals since
and time (F cycle) of the last drain start per tier 1 to 3, page restores waiting, restores running, and the update
chunks held for a page (page, group, sequence, chunk), `kaWait` the targets whose Keep Alive is unanswered, `hdrRx` the
pieces of a tier-1 header received by slot. -/
structure SnapSt where
  sideA : Side
  sideB : Side
  reelOn : Bool
  drains : List Drain
  sinceSeals : List Nat
  lastStart : List (Option Nat)
  emergency : Bool
  twinSlots : Map Copy
  snapDrop : Nat
  targetUp : Map Bool
  pages : List PageRestore
  restores : List Restore
  stepHeld : List (Nat × Nat × Nat × Nat)
  kaWait : Map Bool
  hdrRx : Map (List Byte)
deriving DecidableEq, Repr

/-- A superblock of the flash (R347, R351): 0 erased and free, 1 held by an object, 2 being erased, 3 retired; its
object, erase count and pages programmed. -/
structure SuperBlock where
  st : Nat
  object : Nat
  erases : Nat
  pages : Nat
deriving DecidableEq, Repr

/-- A tier-2 object (R348, R349), by the seal it copies: its superblocks in order, bytes of one, bytes programmed, header page,
whether durable, and released while read. -/
structure FlashObj where
  blocks : List Nat
  sbBytes : Nat
  bytes : Nat
  hdrPage : Option Nat
  durable : Bool
  releaseDue : Bool
  header : List Byte
deriving DecidableEq, Repr

/-- A page program under way: superblock and page in it, or the header page of the header log. -/
structure PageProg where
  object : Nat
  hdr : Bool
  sb : Nat
  page : Nat
  bytes : List Byte
deriving DecidableEq, Repr

/-- State of chapter 15. Blocks are keyed 4096·(flash die) + block; `repl` gives the spare that stands in for a
superblock's block; `bad` is the bad-block table, `bbt0` and `bbt1` its copies' sequence and soundness; `data` the
programmed bytes by superblock address; `refreshAt` the F cycles of a block's refreshes. -/
structure FlashSt where
  supers : Map SuperBlock
  objs : Map FlashObj
  progs : List PageProg
  data : Memory
  hdrNext : Nat
  repl : Map Nat
  bad : Map Bool
  bbt0 : Nat × Bool
  bbt1 : Nat × Bool
  failed : Map Bool
  written : Nat
  eraseLog : List (Nat × Nat)
  blkErase : Map Nat
  refreshAt : Map (List Nat)
  scanTicket : Option Nat
  scanOn : Bool
  scanFt : Nat
  refreshed : Nat
  uncorr : Nat
  tempC : Int
  lifeSaid : Nat
deriving DecidableEq, Repr

/-- Pair states (Table 16-4), in the order of `PSTATE` (Table 16-8). -/
inductive PairState where
  | unpaired | offering | syncing | paired | solo
deriving DecidableEq, Repr

/-- An offer (Table 16-2). -/
structure Offer where
  serial : List Byte
  order : List Byte
  fitted : Nat
  coord : Nat
  shelf : Nat
  sideGib : Nat
  twin : Nat
  fresh : Bool
  detClass : Nat
  mirOwner : List Byte
deriving DecidableEq, Repr

/-- State of the Gemel pair (chapter 16). `mirror` is the twin's journal image this module keeps, by `JSEQ`, `gap` the
records held because they leave a gap; `acked` the highest `JSEQ` the twin has acknowledged; `syncSeq` the newest entry
when SYNCING was entered; `role` the dies that reported KEEL_LOST while this module holds the twin's role;
`stepWait` and `ackWait` the steps (group, sequence) and tier acknowledgements that wait for a `JSEQ` to be stored (R366). -/
structure GemelSt where
  st : PairState
  offer : Option Offer
  mirOwner : List Byte
  mirCoord : Nat
  mirSeq : Nat
  mirror : Map (List Byte)
  gap : Map (List Byte)
  frozen : Bool
  acked : Nat
  ackAt : Nat
  syncSeq : Nat
  syncTx : Bool
  syncRx : Bool
  lastRx : Nat
  adoptWait : Bool
  holdsRole : Bool
  role : List Nat
  twinUsable : Nat
  lastRefusal : Nat
  waitMax : Nat
  mramOk : Bool
  remote : Bool
  roleReturned : Bool
  stepWait : List (Nat × Nat × Nat)
  ackWait : List (Drain × Nat)
deriving DecidableEq, Repr

end Sys2Proof.Machine
end

