-- ==== Sys2Proof/Machine/StTile.lean ====
section
/-! DEFINITION. State of chapters 08 to 11: tiles, groups, the updraft units, programs and update bindings.
Plain data. -/

set_option Elab.async false

namespace Sys2Proof.Machine

/-- Tile states (Table 8-2), in the order of `TSTATE` (Table 8-13). -/
inductive TileState where
  | gated | lifting | active | fault | isolated
deriving DecidableEq, Repr

/-- The three kinds of tile-queue entry (R261). -/
inductive TileEntry where
  | combine (group seq chunk piece source : Nat)
  | finalise (group seq chunk piece : Nat)
  | update (group seq chunk : Nat)
deriving DecidableEq, Repr

/-- A DMA: for which chunk, a read or a write, scratchpad offset, HBM address, bytes (R266). -/
structure Dma where
  group : Nat
  seq : Nat
  chunk : Nat
  write : Bool
  spad : Nat
  hbm : Nat
  len : Nat
deriving DecidableEq, Repr

/-- The entry a tile is running: its identity, the program counter within its program slot, the region and page
bounds of R266, the DMAs in flight, and whether it waits in `DMAWAIT`. -/
structure Running where
  group : Nat
  seq : Nat
  chunk : Nat
  pc : Nat
  pages : List Nat
  readLo : Nat
  readHi : Nat
  writeLo : Nat
  writeHi : Nat
  block : List Byte
  dmas : List Dma
  waiting : Bool
  nanSeen : Bool
deriving DecidableEq, Repr

/-- One reduction tile (Tables 8-1, 8-2, 8-13, 11-1). Vector registers are 512-bit numbers, scalars 64-bit. -/
structure Tile where
  st : TileState
  lifts : Nat
  activeAt : Nat
  activeMs : Nat
  parity : Nat
  selftest : Nat
  duty : Nat
  throttled : Bool
  queue : List TileEntry
  vregs : Map Nat
  sregs : Map Nat
  imem : Map Nat
  bankPtr : Map Nat
  run : Option Running
  outDma : List Dma
  badPages : List Nat
  idleFrom : Nat
deriving DecidableEq, Repr

/-- A basket's place: a scratchpad page (die-local tile, page) or an HBM block of the die's basket pool (R230). -/
inductive Basket where
  | page (die tile page : Nat)
  | hbm (die block : Nat)
deriving DecidableEq, Repr

/-- Which pool an updraft context was claimed from (R250). -/
inductive Draw where
  | quota | free
deriving DecidableEq, Repr

/-- An input that a chunk holds or awaits: source index (local member entry i, or L + child), piece, sub-frame,
element bytes, epoch. -/
structure Piece where
  source : Nat
  member : Nat
  piece : Nat
  sub : Nat
  epoch : Nat
  bytes : List Byte
deriving DecidableEq, Repr

/-- One chunk of a sequence (R224 to R241): its home die, its basket and staging pages, `bits` the (source·16 + piece)
bitmap, `subs` sub-frames of pieces not yet whole, `staged` whole pieces not yet folded, `waiting` frames that wait in
the cell buffer since `waitSince`, `queued` the (source·16 + piece) whose COMBINE entry is written, `folded` the
sources folded per piece, `finals` the pieces whose FINALISE entry is written, `sent` the pieces whose partial or
result has been generated, `got` the result sub-frames passed on (piece·256 + sub), `relayed` the pieces passed through
(member·16 + piece). -/
structure Chunk where
  epoch : Nat
  home : Nat
  basket : Option Basket
  stages : List Basket
  stageMiB : Nat
  bits : List Nat
  subs : List Piece
  staged : List Piece
  waiting : List QEnt
  waitSince : Option Nat
  queued : List Nat
  folded : Map Nat
  finals : List Nat
  sent : List Nat
  got : List Nat
  relayed : List Nat
  passed : Bool
  recomputed : Bool
  updated : Bool
  finished : Bool
deriving DecidableEq, Repr

/-- A sequence: its opening fields (R219), its descriptor (Table 9-3), its chunks, the trees whose TREE_DONE it has had
and sent (R221), its update block (R271), and the CRC-64 of each local member's contribution (R326). `root` is 65,536
until a contribution fixes it. -/
structure Sequence where
  dstate : Nat
  op : Nat
  oper : Nat
  numctl : Nat
  count : Nat
  root : Nat
  cls : Nat
  byUpdraft : Bool
  ftOpen : Nat
  ftDone : Nat
  status : Nat
  flags : Nat
  chunksDone : Nat
  update : List Byte
  chunks : Map Chunk
  nextClaim : Nat
  treeRx : List Nat
  treeTx : List Nat
  writesDone : Bool
  crcs : Map Nat
deriving DecidableEq, Repr

/-- A group's tree neighbours: coordinate (0 none) and generation (Table 9-1). -/
structure TreeCfg where
  parent : Nat
  parentGen : Nat
  child0 : Nat
  child0Gen : Nat
  child1 : Nat
  child1Gen : Nat
deriving DecidableEq, Repr

/-- A group configuration record (Table 9-1). Members are (index, coordinate). -/
structure GroupCfg where
  mode : Nat
  gflags : Nat
  numctl : Nat
  slot : Nat
  dieMask : Nat
  ops : Nat
  fastQuota : Nat
  hbmQuota : Nat
  stageQuota : Nat
  depth : Nat
  fallbackUs : Nat
  wdogMs : Nat
  members : Nat
  tree0 : TreeCfg
  tree1 : TreeCfg
  entries : List (Nat × Nat)
deriving DecidableEq, Repr

/-- `GROUP.UPDCFG` settings (R260): `reach` and `nbrs` in the order A+, A−, B+, B−. -/
structure UpdCfg where
  updMax : Nat
  updCtx : Nat
  peersA : Nat
  peersB : Nat
  reach : List Nat
  nbrs : List (Nat × Nat)
deriving DecidableEq, Repr

/-- The first-NaN latch of a group (Table 8-8). -/
structure NanLatch where
  valid : Bool
  trapped : Bool
  more : Bool
  origin : Nat
  opcode : Nat
  member : Nat
  seq : Nat
  tile : Nat
  numctl : Nat
  element : Nat
  ft : Nat
deriving DecidableEq, Repr

/-- A group's live state: `GSTATE` 0 UNCONFIGURED, 1 CONFIGURED, 2 ENABLED, 3 DISABLING (Table 9-2), the window base
(R216), the 256 descriptors (keyed by sequence mod 256), counters (Table 9-12) and the latch (R203). -/
structure Group where
  st : Nat
  base : Nat
  seqs : Map (Nat × Sequence)
  updates : Map (List Byte)
  latch : NanLatch
  dup : Nat
  oldEpoch : Nat
  windowDrop : Nat
  badMember : Nat
  fallbacks : Nat
  recomputes : Nat
  failed : Nat
  done : Nat
deriving DecidableEq, Repr

/-- An updraft context (R249): sequence, epoch, the members' and peers' inputs kept for the fixed fold order (R251; members
by index, peers by `ORIGIN`, sub-frames by origin·256 + sub), the folds reached, the result, the sweeps sent (direction,
frame), and who has sent DONE (dimension·16 + origin, R255). `body` counts its body blocks on the home die. -/
structure UpdCtx where
  group : Nat
  seq : Nat
  draw : Draw
  home : Nat
  body : Nat
  epoch : Nat
  members : Map (List Byte)
  peersA : Map (List Nat)
  peersB : Map (List Nat)
  subsA : Map (List Byte)
  subsB : Map (List Byte)
  rack : Option (List Nat)
  foldA : Option (List Nat)
  result : Option (List Byte)
  status : Nat
  delivered : Bool
  sentTo : List (Nat × Frame)
  doneFrom : List Nat
  recomputed : Bool
deriving DecidableEq, Repr

/-- A tile program image in a slot (Table 11-4). -/
structure Image where
  insns : Nat
  stateB : Nat
  cyc16 : Nat
  name : List Byte
  code : List Nat
  digest : Nat
deriving DecidableEq, Repr

/-- An update binding (R272) with its `DONE_STEP`. -/
structure UpdBind where
  group : Nat
  prog : Nat
  wfmt : Nat
  elems : Nat
  sideOff : Nat
  doneStep : Nat
deriving DecidableEq, Repr

/-- State of chapters 08 to 11. `baskets` holds, per basket place, the slice it last served (R40); `spad` the
scratchpads (key tile·0x200000 + byte); `progs` the program slots 16 to 23 in NOR; `slots` the image that each tile
slot 1 to 3 of a die holds (key 4·die + slot); `reruns`, `busyRetry`, `refills` the counters of Tables 11-10 and 10-6;
`claimWait` the (group, sequence, chunk) claims that wait (chunk 2^24: the first claim of the sequence);
`claimAt` per die the F cycle and group of its last claim; `lost` the claims lost under R232. `resend` are the updraft
frames to send again (die, F cycle of the NACK, frame). -/
structure TileSt where
  progs : Map Image
  slots : Map Nat
  tiles : Map Tile
  spad : Memory
  groups : Map Group
  basketSlice : Map Nat
  ctxs : List UpdCtx
  busyRetry : Map Nat
  refills : Map Nat
  reruns : Map Nat
  claimWait : List (Nat × Nat × Nat)
  claimAt : Map (Nat × Nat)
  lost : Map Nat
  resend : List (Nat × Nat × Frame)
deriving DecidableEq, Repr

end Sys2Proof.Machine
end

