-- ==== Sys2Proof/Machine/StSet.lean ====
section
/-! DEFINITION. The journaled settings: everything that commands set and that the journal restores at entry to READY
(R54, R394). `Settings` is held twice, as the settings in force and as the journal's image of them. -/

set_option Elab.async false

namespace Sys2Proof.Machine

/-- Storage-port settings (Table 4-13). -/
structure EthCfg where
  mac : Nat
  ipv4 : Nat
  prefix4 : Nat
  gateway4 : Nat
  ipv6 : Nat
  prefix6 : Nat
  vlan : Nat
  pfcPrio : Nat
  dscp : Nat
deriving DecidableEq, Repr

/-- A port's settings: `ADMIN`, split (0 unsplit, 1 two, 2 four), doze policy and idle time (R61), overrides
(R72), `REPLAY_US` (none: the default of R96) and per-lane-port credit allocations (none: Table 4-9's default). -/
structure PortCfg where
  admin : Bool
  split : Nat
  policy : Nat
  idleUs : Nat
  overRec : Bool
  overSeen : Bool
  replayUs : Option Nat
  cred : Map (List Nat)
  eth : Option EthCfg
deriving DecidableEq, Repr

/-- A binding (Table 2-4): slice, generation, state (0 unbound, 1 bound, 2 rebinding). -/
structure Binding where
  slice : Nat
  gen : Nat
  ost : Nat
deriving DecidableEq, Repr

/-- Pool settings of a die (Table 5-7). -/
structure PoolCfg where
  share : List Nat
  w1 : Nat
  w2 : Nat
  w3 : Nat
  hyst : Nat
  egress : Nat
deriving DecidableEq, Repr

/-- A route bank (Table 6-5): geometry, direction tables (position × 2 bits, 3 for AUTO) and spread lists keyed by
64·direction + index. -/
structure Bank where
  ownA : Nat
  ownB : Nat
  sizeA : Nat
  sizeB : Nat
  dateA : Nat
  dateB : Nat
  hopLimit : Nat
  dirA : Map Nat
  dirB : Map Nat
  spread : Map Nat
deriving DecidableEq, Repr

/-- A shaper's settings (R170), with the `RESET` last given: EMPTY or FULL. -/
structure ShapeCfg where
  rate : Nat
  burst : Nat
  empty : Bool
deriving DecidableEq, Repr

/-- A policer's settings (R168). -/
structure PolCfg where
  on : Bool
  cir : Nat
  pir : Nat
  cbs : Nat
  pbs : Nat
  yellow : Nat
  red : Nat
deriving DecidableEq, Repr

/-- A gate control list (R172, R175): entries (gate mask, duration in ns), start time, ticket of its write. -/
structure GateList where
  entries : List (Nat × Nat)
  startFt : Nat
  ticket : Option Nat
deriving DecidableEq, Repr

/-- Queue settings of chapter 07, by lane-port L: priorities and weights (8·L + c), subscriber weights (leaf key),
shapers (8·L + class, the port's under class 0), policers (8·L + class), operational and pending gate lists. -/
structure QosCfg where
  prio : Map Nat
  weight : Map Nat
  subw : Map Nat
  shape : Map ShapeCfg
  police : Map PolCfg
  gateOp : Map GateList
  gatePend : Map GateList
deriving DecidableEq, Repr

/-- The memory plan (Table 14-1). -/
structure Plan where
  sideGib : Nat
  twin : Nat
  basketGib : Nat
  stageGib : Nat
  jmirDie : Nat
  scrubPct : Nat
deriving DecidableEq, Repr

/-- A tier-3 target (Table 14-7). -/
structure Target where
  addr : List Byte
  service : Nat
  nqn : List Byte
  nsid : Nat
  firstLba : Nat
  lbaCount : Nat
deriving DecidableEq, Repr

/-- The reel policy (Table 14-5). -/
structure ReelPolicy where
  t1Every : Nat
  t2Every : Nat
  keep2 : Nat
  keep3 : Nat
  t3Gbps : Nat
  t2MinS : Nat
  t2MaxS : Nat
  t3MinS : Nat
deriving DecidableEq, Repr

/-- Settings of the unit class of a fault source (R447, Table 21-7). -/
structure ClassCfg where
  action : Nat
  count : Nat
  windowS : Nat
  quietS : Nat
deriving DecidableEq, Repr

/-- An event code's trigger (R456). -/
structure Trigger where
  record : Bool
  int : Bool
  sels : List Nat
  tgen : Nat
deriving DecidableEq, Repr

/-- Envelope and tray settings (Table 22-7); `capW` none when there is no rack cap. -/
structure EnvCfg where
  capW : Option Nat
  slew : Nat
  ramp : Nat
  droguePct : Nat
  pumpPct : Nat
  vinDrogue : Nat
  tjLimit : Nat
  tjRipcord : Nat
  orphanW : Nat
  hbS : Nat
  hbMiss : Nat
  locate : Bool
  psuExpect : Nat
deriving DecidableEq, Repr

/-- Management addresses (Table 19-10, section 0). -/
structure MgmtCfg where
  ipv4 : Nat
  prefix4 : Nat
  gateway4 : Nat
  ipv6 : Nat
  prefix6 : Nat
  vlan : Nat
deriving DecidableEq, Repr

/-- The journaled settings, chapter by chapter. -/
structure Settings where
  ports : Map PortCfg
  binds : Map Binding
  slices : Map Nat
  pools : Map PoolCfg
  marks : Map Nat
  active : Bank
  shadow : Bank
  cmapUs : Nat
  qos : QosCfg
  tilePol : Map (Nat × Nat)
  groups : Map GroupCfg
  enabled : Map Nat
  upd : Map UpdCfg
  updBinds : Map UpdBind
  timeRoot : Bool
  timePps : Bool
  syncUs : Nat
  audited : List Nat
  plan : Plan
  reel : ReelPolicy
  targets : Map Target
  copies : List (Nat × Copy)
  snapId : Nat
  scanH : Nat
  scanPct : Nat
  refreshPct : Nat
  pairIntent : Bool
  pairFlags : Nat
  lostMs : Nat
  mgmt : MgmtCfg
  filter0 : Nat
  filter1 : Nat
  service : Bool
  classes : Map ClassCfg
  isolated : List Nat
  trig : Map Trigger
  env : EnvCfg
deriving DecidableEq, Repr

end Sys2Proof.Machine
end

