-- ==== Sys2Proof/Machine/State.lean ====
section
/-! DEFINITION. The state of a module, the reasons a step can stop, and the state at entry to KEEL_UP. -/

set_option Elab.async false

namespace Sys2Proof.Machine

/-- Where the machine stops. -/
inductive Fault where
  /-- A supply measured beyond its absolute maximum rating (Table 23-2): R491 states no behaviour there. Raised by the
  rows that bring in a supply voltage. Safe: the model stops where the manual states nothing. -/
  | beyondRatings
deriving DecidableEq, Repr

/-- Where the model has no meaning for a command. -/
inductive Refusal where
  /-- A command whose meaning is not written. Raised by `exec` alone. Safe. -/
  | notModelled (mnemonic : String)
deriving DecidableEq, Repr

/-- The module, chapter by chapter. `pending` is the queue of commands that wait, first in, first out; `set` the
settings in force and `jrn` the journal's image of them; `out` what has been sent (the model's own, oldest first);
`mono` the F cycles counted since reset; `freeCtr` the model's own count of free values drawn. -/
structure State where
  pending : List Instr
  id : Ident
  sys : SysSt
  cmd : CmdSt
  host : HostSt
  flt : FltSt
  env : EnvSt
  net : NetSt
  core : CoreSt
  tile : TileSt
  mem : MemSt
  time : TimeSt
  sched : SchedSt
  snap : SnapSt
  flash : FlashSt
  gemel : GemelSt
  set : Settings
  jrn : Settings
  out : List Out
  mono : Nat
  freeCtr : Nat
deriving DecidableEq, Repr

/-- Built-in defaults for a part without a valid configuration copy (R438). -/
def cfgBuiltIn : CfgRec :=
  ⟨false, [], true, 0, 0, 0, 2, 1, [], []⟩

/-- The configuration copy that reset's NOR holds (a model's choice): no keys, no hold, sequence 1. -/
def cfgReset : CfgRec :=
  ⟨true, [], false, 0, 1, 0, 2, 1, [], []⟩

/-- An empty firmware slot, and the slot A of reset's NOR. -/
def fwEmpty : FwSlot := ⟨false, 0, 0, 0, 0, []⟩
def fwReset : FwSlot := ⟨true, 0, 0, 0, 0, []⟩

/-- The default drain policy (Table 14-5). -/
def reelReset : ReelPolicy := ⟨1, 10, 2, 2, 100, 60, 600, 3600⟩

/-- The plan at KEEL_UP (R331): every field 0, the journal mirror on die 0, the scrub share at its default. -/
def planReset : Plan := ⟨0, 0, 0, 0, 0, 25⟩

/-- A route bank at its defaults (Table 6-5). -/
def bankReset : Bank := ⟨0, 0, 1, 1, 0, 0, 1, [], [], []⟩

/-- Envelope settings at their defaults (Table 22-7, R483); the slew of a rack cap is 400 W/ms until one is given. -/
def envCfgReset : EnvCfg := ⟨none, 400, 150, 55, 40, 3600, 95, 100, 0, 1, 3, false, 0⟩

/-- The settings at entry to KEEL_UP, before the journal is read. -/
def setReset : Settings where
  ports := []
  binds := []
  slices := []
  pools := []
  marks := []
  active := bankReset
  shadow := bankReset
  cmapUs := 100
  qos := ⟨[], [], [], [], [], [], []⟩
  tilePol := []
  groups := []
  enabled := []
  upd := []
  updBinds := []
  timeRoot := false
  timePps := false
  syncUs := 100
  audited := []
  plan := planReset
  reel := reelReset
  targets := []
  copies := []
  snapId := 0
  scanH := 24
  scanPct := 10
  refreshPct := 50
  pairIntent := false
  pairFlags := 0
  lostMs := 10
  mgmt := ⟨0, 0, 0, 0, 0, 0xFFFF⟩
  filter0 := 0
  filter1 := 0
  service := false
  classes := []
  isolated := []
  trig := []
  env := envCfgReset

def sideReset : Side := ⟨false, 0, 0, 0, [], 0, [0, 0, 0], none, none⟩
def spdmReset : Spdm := ⟨false, false, false, []⟩

/-- State of chapters 02 to 07 at entry to KEEL_UP. -/
def netReset : NetSt := ⟨[], [], [], [], [], [], false, none, [], [], [], 0, [], [], [], [], [], [], [], [], []⟩
def coreReset : CoreSt :=
  ⟨[], [], [], [], [], [], [], [], [], [], [], 0, false, none, [], none, 0, 0, 0, 0, [], [], false, []⟩

/-- State of chapters 17 and 19 to 23 at entry to KEEL_UP. -/
def sysReset : SysSt where
  st := .keelUp
  hold := 0
  starting := true
  keelLost := false
  trialAt := 0
  startCause := 0
  nextCause := 0
  holdReq := false
  cfg0 := cfgReset
  cfg1 := cfgBuiltIn
  inUse := cfgReset
  chosen := some 0
  cfgSeq := 0
  slotA := fwReset
  slotB := fwEmpty
  active := 0
  trial := none
  tried := false
  floor := 0
  booted := 0
  upAt := 0
  keyOk := true
  plane := 0
  tray := 0
  jrnGone := false
  leaving := none

def cmdReset : CmdSt := ⟨[], [], [], 1, 0, [], [], 0, [], none, [], [], 0, 0, 0⟩

def hostReset : HostSt := ⟨0, 0, 0, false, 0, [], 0, 0, false, 0, 0, spdmReset, spdmReset, false, true, [], [], 0⟩

def fltReset : FltSt where
  src := []
  pend := []
  valid := false
  source := 0
  kind := 0
  mstate := 0
  firstFt := 0
  ovf := false
  ovfCnt := 0
  recoveries := 0
  reports := 0
  onSevere := false
  onFirst := false
  sram := []
  wrPtr := 0
  full := false
  lost := 0
  suppressed := 0
  rseq := 0
  fillThr := 90
  intEn := false
  enable := true
  cursor := 0
  intPend := false
  bucket := []
  supBy := []

def envReset : EnvSt where
  pins := ⟨true, false, false, false, false, false, false⟩
  vsbOk := true
  vinBad := false
  vin := 0
  iin := 0
  vsb := 0
  pin := 0
  prevPin := none
  shelfDrogue := false
  capDrogue := false
  pump := false
  thermal := false
  orphanCap := false
  freeBallast := 0
  schedBallast := 0
  tier2Pct := 100
  brakes := []
  sensors := []
  rise := []
  events := 0
  intEn := 0
  drogues := 0
  rampExceed := 0
  rampFrac := 0
  hbCount := 0
  hbAt := 0
  orphanAt := 0
  capAt := none
  slew := 400
  tripFlag := false
  tripSensor := 0
  stagesOpen := false
  trayStatus := 0
  trayMaxW := 0
  trayBays := 0
  cleanAddr := 0
  psus := []
  shelfId := 0

/-- State of chapters 08 to 16 at entry to KEEL_UP. -/
def tileReset : TileSt := ⟨[], [], [], [], [], [], [], [], [], [], [], [], [], []⟩
def memReset : MemSt := ⟨[], [], [], [], []⟩

/-- The nominal rate of fabric time, 4/7 ns per F cycle, in units of 2^-48 ns. -/
def rateNominal : Nat := 160842843834661

def timeReset : TimeSt where
  ft := 0
  rate := rateNominal
  st := .freeRun
  steps := 31
  parent := none
  theta := 0
  delta := 0
  adj := []
  good := 0
  bad := 0
  xseq := 0
  exch := none
  farSteps := []
  stepCnt := 0
  ppsFt := 0

def schedReset : SchedSt where
  images := []
  ident := []
  floorW := 0
  slot := none
  st := .empty
  ticket := none
  cause := 0
  haltEntry := 0
  iter := 0
  next := 0
  launchFt := 0
  startFt := 0
  launchAt := none
  periodAt := 0
  nanSeen := 0
  haltDiscard := 0
  stopAtEnd := false
  declared := 0
  windows := []
  armed := []
  fwdLaunch := []
  fwdHalt := []
  digests := []
  auditLost := []

def snapReset : SnapSt :=
  ⟨sideReset, sideReset, false, [], [0, 0, 0], [none, none, none], false, [], 0, [], [], [], [], [], []⟩

def flashReset : FlashSt where
  supers := []
  objs := []
  progs := []
  data := []
  hdrNext := 0
  repl := []
  bad := []
  bbt0 := (1, true)
  bbt1 := (0, true)
  failed := []
  written := 0
  eraseLog := []
  blkErase := []
  refreshAt := []
  scanTicket := none
  scanOn := false
  scanFt := 0
  refreshed := 0
  uncorr := 0
  tempC := 0
  lifeSaid := 0

def gemelReset : GemelSt where
  st := .unpaired
  offer := none
  mirOwner := List.replicate 16 0
  mirCoord := 0
  mirSeq := 0
  mirror := []
  gap := []
  frozen := false
  acked := 0
  ackAt := 0
  syncSeq := 0
  syncTx := false
  syncRx := false
  lastRx := 0
  adoptWait := false
  holdsRole := false
  role := []
  twinUsable := 0
  lastRefusal := 0
  waitMax := 0
  mramOk := true
  remote := false
  roleReturned := true
  stepWait := []
  ackWait := []

/-- The flagship (a model's choice; no page of the manual gives its serial number and management MAC). -/
def identReset : Ident := ⟨8, true, true, true, List.replicate 16 0, 0⟩

/-- The module at entry to KEEL_UP, where register fields take their reset values (R12): nothing commanded, the
journal fresh. -/
def State.reset : State where
  pending := []
  id := identReset
  sys := sysReset
  cmd := cmdReset
  host := hostReset
  flt := fltReset
  env := envReset
  net := netReset
  core := coreReset
  tile := tileReset
  mem := memReset
  time := timeReset
  sched := schedReset
  snap := snapReset
  flash := flashReset
  gemel := gemelReset
  set := setReset
  jrn := setReset
  out := []
  mono := 0
  freeCtr := 0

end Sys2Proof.Machine
end

