-- ==== Sys2Proof/Config.lean ====
section
/-! DEFINITION. What one module fixes and the manual leaves open, and the free values: constants without a body, of
which no proof can know anything. -/

set_option Elab.async false

namespace Sys2Proof.Config

/-- A fresh value drawn at random by the module: `State.freeCtr` says which draw (nonces, ephemeral secrets). -/
opaque freeNat : Nat → Nat

/-- The device key's signature over a message (R436): 64 bytes in use. -/
opaque deviceSign : List Byte → List Byte

/-- The module's certificate chain in DER (R437). -/
opaque certChain : List Byte

/-- The digest of the root certificate, as an SPDM chain carries it. -/
opaque rootDigest : List Byte

/-- The digest of the boot ROM (Table 20-2). -/
opaque romDigest : List Byte

/-- The carrier identity record's bytes (R437). -/
opaque carrierRecord : List Byte

/-- The Qorier vendor key, the manufacturing CA's key, and the firmware key (R437, R438, R440). -/
opaque vendorKey : List Byte
opaque vendorKeyId : Nat
opaque firmwareKey : List Byte
opaque firmwareKeyId : Nat

/-- The progress measure of a running operation (Table 17-12), by ticket and by the F cycle of the read. -/
opaque progress : Nat → Nat → Nat

/-- The logical block size of the namespace at a tier-3 target's address (R338). -/
opaque targetBlock : List Byte → Nat

/-- A tier-3 target's answer to a read, by target and logical byte address, as `n` bytes. -/
opaque targetData : Nat → Nat → Nat → List Byte

/-- The twin's copy of a seal of this module, by `SNAP_ID` and byte offset in the copy, as `n` bytes. -/
opaque twinData : Nat → Nat → Nat → List Byte

/-- The journal that the twin's mirror holds of this module, as its settings, by the F cycle of the twin's last
record (none: no mirror of this coordinate). -/
opaque twinJournal : Nat → Option Machine.Settings

/-- The clients' histories, the tickets and the next serial of that journal. -/
opaque twinHistory : Nat → List (Client × List Machine.JEntry)
opaque twinTickets : Nat → List Machine.Ticket
opaque twinSerial : Nat → Nat

/-- The bytes of a journal entry: the manual gives its contents (R395) and not its layout. -/
opaque journalBytes : Machine.JEntry → List Byte

/-- A result the manual states no bits for, by a tag of the place and its operands. -/
opaque unstated : Nat → Nat → Nat

/-- The UUID a module derives from its serial number (R338). -/
opaque hostUuid : List Byte → List Byte

/-- The tile duty, percent, that the envelope controller's load model finds for a die: level in W, F cycle, die. -/
opaque dutyFor : Nat → Nat → Nat → Nat

end Sys2Proof.Config
end

