-- ==== Sys2Proof/Machine/Crc.lean ====
section
/-! DEFINITION. Checksums, hashes and signatures: CRC-16, CRC-8, CRC-32, CRC-32C and CRC-64 as the chapters name them;
SHA-256, HMAC and HKDF; ECDSA verification on P-256. -/

set_option Elab.async false

namespace Sys2Proof.Machine

/-! ### CRCs -/

/-- `n` steps of a most-significant-first CRC register of width `w`. -/
def crcStep (w poly : Nat) : Nat → Nat → Nat
  | 0, r => r
  | k + 1, r =>
    let t := if r.testBit (w - 1) then ((r <<< 1) ^^^ poly) % (1 <<< w) else (r <<< 1) % (1 <<< w)
    crcStep w poly k t

/-- Most-significant-first CRC over bytes. -/
def crcMsb (w poly init : Nat) (bs : List Byte) : Nat :=
  bs.foldl (fun r b => crcStep w poly 8 ((r ^^^ (b.toNat <<< (w - 8))) % (1 <<< w))) init

/-- `n` steps of a reflected CRC register. -/
def crcStepR (poly : Nat) : Nat → Nat → Nat
  | 0, r => r
  | k + 1, r => crcStepR poly k (if r % 2 = 1 then (r >>> 1) ^^^ poly else r >>> 1)

/-- Reflected CRC over bytes. -/
def crcLsb (poly init : Nat) (bs : List Byte) : Nat :=
  bs.foldl (fun r b => crcStepR poly 8 (r ^^^ b.toNat)) init

def crc32c (bs : List Byte) : Nat := crcLsb 0x82F63B78 0xFFFFFFFF bs ^^^ 0xFFFFFFFF
def crc32 (bs : List Byte) : Nat := crcLsb 0xEDB88320 0xFFFFFFFF bs ^^^ 0xFFFFFFFF
/-- CRC-16/CCITT: polynomial 0x1021, initial value 0xFFFF, not reflected. -/
def crc16 (bs : List Byte) : Nat := crcMsb 16 0x1021 0xFFFF bs
/-- CRC-64 of R326: ECMA-182, initial value 0, not reflected. -/
def crc64 (bs : List Byte) : Nat := crcMsb 64 0x42F0E1EBA9EA3693 0 bs

/-! ### SHA-256 (FIPS 180-4) -/

def shaK : List Nat :=
  [0x428a2f98, 0x71374491, 0xb5c0fbcf, 0xe9b5dba5, 0x3956c25b, 0x59f111f1, 0x923f82a4, 0xab1c5ed5,
   0xd807aa98, 0x12835b01, 0x243185be, 0x550c7dc3, 0x72be5d74, 0x80deb1fe, 0x9bdc06a7, 0xc19bf174,
   0xe49b69c1, 0xefbe4786, 0x0fc19dc6, 0x240ca1cc, 0x2de92c6f, 0x4a7484aa, 0x5cb0a9dc, 0x76f988da,
   0x983e5152, 0xa831c66d, 0xb00327c8, 0xbf597fc7, 0xc6e00bf3, 0xd5a79147, 0x06ca6351, 0x14292967] ++
  [0x27b70a85, 0x2e1b2138, 0x4d2c6dfc, 0x53380d13, 0x650a7354, 0x766a0abb, 0x81c2c92e, 0x92722c85,
   0xa2bfe8a1, 0xa81a664b, 0xc24b8b70, 0xc76c51a3, 0xd192e819, 0xd6990624, 0xf40e3585, 0x106aa070,
   0x19a4c116, 0x1e376c08, 0x2748774c, 0x34b0bcb5, 0x391c0cb3, 0x4ed8aa4a, 0x5b9cca4f, 0x682e6ff3,
   0x748f82ee, 0x78a5636f, 0x84c87814, 0x8cc70208, 0x90befffa, 0xa4506ceb, 0xbef9a3f7, 0xc67178f2]

def shaH0 : List Nat :=
  [0x6a09e667, 0xbb67ae85, 0x3c6ef372, 0xa54ff53a, 0x510e527f, 0x9b05688c, 0x1f83d9ab, 0x5be0cd19]

def ror32 (x n : Nat) : Nat := ((x >>> n) ||| (x <<< (32 - n))) % 4294967296
def add32 (a b : Nat) : Nat := (a + b) % 4294967296

/-- The message schedule, newest word first. -/
def shaSched : Nat → List Nat → List Nat
  | 0, w => w
  | k + 1, w =>
    let g := fun i => (w[i]?).getD 0
    let x := g 14
    let y := g 1
    let s0 := ror32 x 7 ^^^ ror32 x 18 ^^^ (x >>> 3)
    let s1 := ror32 y 17 ^^^ ror32 y 19 ^^^ (y >>> 10)
    shaSched k (add32 (add32 s1 (g 6)) (add32 s0 (g 15)) :: w)

/-- One round. -/
def shaRound (st : List Nat) (kw : Nat) : List Nat :=
  match st with
  | [a, b, c, d, e, f, g, h] =>
    let t1 := add32 (add32 h (ror32 e 6 ^^^ ror32 e 11 ^^^ ror32 e 25)) (add32 ((e &&& f) ^^^ ((e ^^^ 0xFFFFFFFF) &&& g)) kw)
    let t2 := add32 (ror32 a 2 ^^^ ror32 a 13 ^^^ ror32 a 22) ((a &&& b) ^^^ (a &&& c) ^^^ (b &&& c))
    [add32 t1 t2, a, b, c, add32 d t1, e, f, g]
  | _ => st

def beNat (bs : List Byte) : Nat := bs.foldl (fun r b => r * 256 + b.toNat) 0
def beBytes (n v : Nat) : List Byte := (leBytes n v).reverse

/-- One block of 64 bytes. -/
def shaBlock (h : List Nat) (blk : List Byte) : List Nat :=
  let w := ((chunksOf 4 blk).map beNat).reverse
  let ws := (shaSched 48 w).reverse
  let r := (List.zipWith add32 ws shaK).foldl shaRound h
  List.zipWith add32 h r

/-- SHA-256. -/
def sha256 (m : List Byte) : List Byte :=
  let z := (119 - m.length % 64) % 64
  let p := m ++ [0x80] ++ List.replicate z 0 ++ beBytes 8 (8 * m.length)
  ((chunksOf 64 p).foldl shaBlock shaH0).flatMap (beBytes 4)

/-- HMAC-SHA-256 (RFC 2104). -/
def hmac (key m : List Byte) : List Byte :=
  let k0 := if key.length > 64 then sha256 key else key
  let k := k0 ++ List.replicate (64 - k0.length) 0
  sha256 (k.map (· ^^^ 0x5c) ++ sha256 (k.map (· ^^^ 0x36) ++ m))

/-- HKDF-SHA-256 (RFC 5869) with 32 bytes of output. -/
def hkdf32 (ikm salt info : List Byte) : List Byte := hmac (hmac salt ikm) (info ++ [1])

/-! ### P-256 -/

def p256p : Nat := 0xffffffff00000001000000000000000000000000ffffffffffffffffffffffff
def p256n : Nat := 0xffffffff00000000ffffffffffffffffbce6faada7179e84f3b9cac2fc632551
def p256b : Nat := 0x5ac635d8aa3a93e7b3ebbd55769886bc651d06b0cc53b0f63bce3c3e27d2604b
def p256g : Nat × Nat :=
  (0x6b17d1f2e12c4247f8bce6e563a440f277037d812deb33a0f4a13945d898c296,
   0x4fe342e2fe1a7f9b8ee7eb4a7c0f9e162bce33576b315ececbb6406837bf51f5)

/-- `b^e mod m`, by `k` binary digits of `e`. -/
def powMod (m : Nat) : Nat → Nat → Nat → Nat
  | 0, _, _ => 1 % m
  | k + 1, b, e =>
    let r := powMod m k (b * b % m) (e / 2)
    if e % 2 = 1 then r * b % m else r

def invMod (m a : Nat) : Nat := powMod m 256 (a % m) (m - 2)

/-- Point addition; `none` is the point at infinity. -/
def ecAdd (a b : Option (Nat × Nat)) : Option (Nat × Nat) :=
  match a, b with
  | none, q => q
  | q, none => q
  | some (x1, y1), some (x2, y2) =>
    let p := p256p
    if x1 = x2 ∧ (y1 + y2) % p = 0 then none
    else
      let l := if x1 = x2 then (3 * x1 * x1 + (p - 3)) % p * invMod p (2 * y1) % p
               else (y2 + p - y1) % p * invMod p ((x2 + p - x1) % p) % p
      let x3 := (l * l + 2 * p - x1 - x2) % p
      some (x3, (l * ((x1 + p - x3) % p) + p - y1) % p)

/-- `k · a`, by `n` binary digits of `k`. -/
def ecMul : Nat → Nat → Option (Nat × Nat) → Option (Nat × Nat)
  | 0, _, _ => none
  | n + 1, k, a =>
    let r := ecMul n (k / 2) (ecAdd a a)
    if k % 2 = 1 then ecAdd r a else r

/-- An uncompressed public key as a point of the curve. -/
def ecPoint (pub : List Byte) : Option (Nat × Nat) :=
  match pub with
  | t :: r =>
    let x := beNat (r.take 32)
    let y := beNat ((r.drop 32).take 32)
    if t = 4 ∧ r.length = 64 ∧ x < p256p ∧ y < p256p ∧ y * y % p256p = (x * x * x + (p256p - 3) * x + p256b) % p256p
    then some (x, y) else none
  | [] => none

/-- ECDSA P-256 verification over SHA-256; `sg` is r then s, big-endian. -/
def ecdsaOk (pub msg sg : List Byte) : Bool :=
  match ecPoint pub with
  | none => false
  | some q =>
    let r := beNat (sg.take 32)
    let w := beNat ((sg.drop 32).take 32)
    if sg.length = 64 ∧ 0 < r ∧ r < p256n ∧ 0 < w ∧ w < p256n then
      let z := beNat (sha256 msg)
      let u := invMod p256n w
      match ecAdd (ecMul 256 (z * u % p256n) (some p256g)) (ecMul 256 (r * u % p256n) (some q)) with
      | none => false
      | some (x, _) => x % p256n == r
    else false

/-- x-coordinate of a shared secret. -/
def ecdhX (secret : Nat) (pub : List Byte) : Option (List Byte) :=
  match ecMul 256 secret (ecPoint pub) with
  | some (x, _) => some (beBytes 32 x)
  | none => none

end Sys2Proof.Machine
end

