-- ==== Sys2Proof/Machine/Maps.lean ====
section
/-! DEFINITION. Sparse tables keyed by a number, in one canonical form: keys strictly rising, and, in a table with a
default, no entry equal to the default. Memory is such a table of bytes with default 0. -/

set_option Elab.async false

namespace Sys2Proof.Machine

/-- Looks a key up. -/
def mfind {α : Type} : Map α → Nat → Option α
  | [], _ => none
  | (k, v) :: r, x => if x = k then some v else mfind r x

/-- Looks a key up, an unlisted one reading as `d`. -/
def mget {α : Type} (d : α) (m : Map α) (k : Nat) : α := (mfind m k).getD d

/-- Lists a value under a key, in key order. -/
def mput {α : Type} : Map α → Nat → α → Map α
  | [], x, v => [(x, v)]
  | (k, w) :: r, x, v =>
    if x < k then (x, v) :: (k, w) :: r
    else if x = k then (x, v) :: r
    else (k, w) :: mput r x v

/-- Takes a key out. -/
def mdel {α : Type} (m : Map α) (k : Nat) : Map α := m.filter fun e => e.1 != k

/-- Sets a key in a table whose unlisted keys read as `d`. -/
def mset {α : Type} [DecidableEq α] (d : α) (m : Map α) (k : Nat) (v : α) : Map α :=
  if v = d then mdel m k else mput m k v

/-- Changes a key's value. -/
def mmod {α : Type} [DecidableEq α] (d : α) (m : Map α) (k : Nat) (f : α → α) : Map α := mset d m k (f (mget d m k))

/-- Changes a listed key's value, leaving an unlisted key unlisted. -/
def mupd {α : Type} (m : Map α) (k : Nat) (f : α → α) : Map α :=
  match mfind m k with
  | some v => mput m k (f v)
  | none => m

def mhas {α : Type} (m : Map α) (k : Nat) : Bool := (mfind m k).isSome

/-- Does every key of the table lie above `x`? -/
def mabove {α : Type} (x : Nat) : Map α → Bool
  | [] => true
  | (k, _) :: r => x < k && mabove x r

/-- Keys strictly rising. -/
def msorted {α : Type} : Map α → Bool
  | [] => true
  | (k, _) :: r => mabove k r && msorted r

/-- The canonical form of a table with a default. -/
def mwf {α : Type} [DecidableEq α] (d : α) (m : Map α) : Bool := msorted m && m.all (fun e => decide (e.2 ≠ d))


/-- Reads one byte; a byte nothing has written reads 0. -/
def memGet (m : Memory) (a : Nat) : Byte := mget 0 m a

/-- Writes one byte. -/
def memSet (m : Memory) (a : Nat) (b : Byte) : Memory := mset 0 m a b

/-- Reads `n` bytes from `a` up. -/
def memRead (m : Memory) (a n : Nat) : List Byte := (List.range n).map fun i => memGet m (a + i)

/-- Writes bytes from `a` up. -/
def memWrite (m : Memory) (a : Nat) : List Byte → Memory
  | [] => m
  | b :: bs => memWrite (memSet m a b) (a + 1) bs

/-- Drops every listed byte of `[a, a + n)`, which then read 0. -/
def memZero (m : Memory) (a n : Nat) : Memory := m.filter fun e => e.1 < a || a + n ≤ e.1

/-- Drops every entry of `[a, a + n)` of a table. -/
def mclear {α : Type} (m : Map α) (a n : Nat) : Map α := m.filter fun e => e.1 < a || a + n ≤ e.1

/-- The canonical form of memory. -/
def Memory.wf (m : Memory) : Bool := mwf 0 m

end Sys2Proof.Machine
end

