-- ==== Sys2Proof/Machine/Units.lean ====
section
/-! DEFINITION. Units and their numbers (R17 to R37, Tables 1-2, 1-8, 2-2, 21-1, 22-2), what is fitted and usable,
times, and what an unlisted entry of each table of the state reads as. -/

set_option Elab.async false

namespace Sys2Proof.Machine

/-! ### Times: one F cycle is 4/7 ns -/

def cycUs (n : Nat) : Nat := n * 1750
def cycMs (n : Nat) : Nat := n * 1750000
def cycS (n : Nat) : Nat := n * 1750000000
/-- Fabric time in ns (R310). -/
def ftNs (s : State) : Nat := s.time.ft >>> 48
/-- Fabric time in units of 2^-16 ns, as a `TS` field holds it. -/
def ftTs (s : State) : Nat := s.time.ft >>> 32
/-- Saturating count of width `w`. -/
def sat (w n : Nat) : Nat := min n (2 ^ w - 1)

/-! ### Module states -/

/-- The codes of R502. -/
def mstCode : MState → Nat
  | .off => 0 | .standby => 1 | .keelUp => 2 | .ready => 3 | .service => 4 | .orphan => 5 | .quenched => 6

/-- READY, SERVICE and ORPHAN (R404). -/
def running (s : State) : Bool :=
  match s.sys.st with | .ready => true | .service => true | .orphan => true | _ => false

/-- KEEL_UP or later, the keel die at work. -/
def keelOn (s : State) : Bool :=
  !s.sys.keelLost && (match s.sys.st with | .off => false | .standby => false | _ => true)

/-! ### Numbers -/

def portDie (p : Nat) : Nat := p / 32
def portLoc (p : Nat) : Nat := p % 32
def lpPort (l : Nat) : Nat := l / 4
def lpDie (l : Nat) : Nat := l / 128
def lpLoc (l : Nat) : Nat := l / 4 % 32
def lpSub (l : Nat) : Nat := l % 4
def isScaleUp (loc : Nat) : Bool := loc < 18
def isScaleOut (loc : Nat) : Bool := 18 ≤ loc && loc < 30
/-- 0 A+, 1 A−, 2 B+, 3 B− (Table 1-8). -/
def scaleOutDir (loc : Nat) : Nat := (loc - 18) / 3
def portEngine (p : Nat) : Nat := 5 * portDie p + portLoc p / 6
def portBay (p : Nat) : Nat := 3 * portDie p + (if portLoc p < 30 then 0 else portLoc p - 29)
/-- The ports of a bay (R67, chapter 03). -/
def bayPorts (b : Nat) : List Nat :=
  let d := b / 3
  match b % 3 with
  | 0 => (List.range 30).map (32 * d + ·)
  | 1 => [32 * d + 30]
  | _ => [32 * d + 31]
def enginePorts (e : Nat) : List Nat := (List.range 6).map (32 * (e / 5) + 6 * (e % 5) + ·)

/-! ### Variants -/

def dieCount (s : State) : Nat := s.id.n
def dies (s : State) : List Nat := List.range s.id.n
/-- Low `n` bits set. -/
def ones (n : Nat) : Nat := 2 ^ n - 1
def bit (b : Bool) (n : Nat) : Nat := if b then 1 <<< n else 0

/-- `FITTED` (Table 1-6). -/
def fitted (s : State) : Nat :=
  let n := s.id.n
  ones n + (if s.id.tiles then ones n <<< 8 else 0) + (if s.id.optics then ones n <<< 16 else 0) +
    bit s.id.flash 24 + bit s.id.optics 25 + (ones (4 * n) <<< 32)

/-- The default of a fault source (Table 21-8). -/
def srcOk : Source := ⟨.ok, false, false, false, [], 0, 0, 0, 0, 0, none⟩
def srcOf (s : State) (id : Nat) : Source := mget srcOk s.flt.src id
/-- ISOLATED or RELEASING. -/
def isIsolated (s : State) (id : Nat) : Bool :=
  match (srcOf s id).st with | .isolated => true | .releasing => true | _ => false
def srcId (cls inst : Nat) : Nat := cls * 256 + inst

/-- A sail die isolated as such or through its updraft unit (Table 21-1). -/
def dieIsolated (s : State) (d : Nat) : Bool := isIsolated s (srcId 1 d) || isIsolated s (srcId 6 d)
def dieFitted (s : State) (d : Nat) : Bool := d < s.id.n
def dieUsable (s : State) (d : Nat) : Bool := dieFitted s d && !dieIsolated s d
def stackUsable (s : State) (k : Nat) : Bool := dieUsable s (k / 4) && !isIsolated s (srcId 5 k)
/-- Is a die's shard valid: the die usable, and none of its stacks isolated (R37, Table 21-1)? -/
def shardOk (s : State) (d : Nat) : Bool := (List.range 4).all fun k => stackUsable s (4 * d + k)
/-- Flash dies fitted: 32 per sail die (Table 15-1). -/
def flashDies (s : State) : Nat := if s.id.flash then 32 * s.id.n else 0
def flashDieOk (s : State) (f : Nat) : Bool := f < flashDies s && !mget false s.flash.failed f

/-- `USABLE` (R22). -/
def usable (s : State) : Nat :=
  let ds := dies s
  let sum := fun (f : Nat → Nat) => ds.foldl (fun a d => a + f d) 0
  sum (fun d => bit (dieUsable s d) d) +
  sum (fun d => bit (s.id.tiles && dieUsable s d) (8 + d)) +
  sum (fun d => bit (s.id.optics && dieUsable s d && (List.range 5).any (fun e => !isIsolated s (srcId 7 (5 * d + e)))) (16 + d)) +
  bit (s.id.flash && (List.range (flashDies s)).any (flashDieOk s)) 24 + bit s.id.optics 25 +
  sum (fun d => (List.range 4).foldl (fun a k => a + bit (stackUsable s (4 * d + k)) (32 + 4 * d + k)) 0)

/-- Tiles: fitted on a `T` module. -/
def tileFitted (s : State) (t : Nat) : Bool := s.id.tiles && t < 32 * s.id.n
def tileDflt : Tile := ⟨.gated, 0, 0, 0, 0, 0, 100, false, [], [], [], [], [], none, [], [], 0⟩
def tileOf (s : State) (t : Nat) : Tile := mget tileDflt s.tile.tiles t
/-- A tile usable under R23 and R207: neither ISOLATED nor in FAULT. -/
def tileUsable (s : State) (t : Nat) : Bool :=
  tileFitted s t && dieUsable s (t / 32) && !isIsolated s (srcId 4 t) &&
    (match (tileOf s t).st with | .fault => false | .isolated => false | _ => true)

/-- Refusal for a unit (R2, R23): absent, or fitted and not usable. -/
def unitChk (fittedU usableU : Bool) : Option Nat :=
  if !fittedU then some 0x0003 else if !usableU then some 0x0005 else none

/-- The first refusal of a list. -/
def firstOf : List (Option Nat) → Option Nat
  | [] => none
  | some r :: _ => some r
  | none :: rs => firstOf rs

/-- A refusal when a condition holds. -/
def refuseIf (b : Bool) (r : Nat) : Option Nat := if b then some r else none

def portFitted (s : State) (p : Nat) : Bool := p < 32 * s.id.n
def portChk (s : State) (p : Nat) : Option Nat := unitChk (portFitted s p) (dieUsable s (portDie p))

/-- Held OFF by the isolation of the port, its engine or its bay (R78). -/
def portIsolated (s : State) (p : Nat) : Bool :=
  isIsolated s (srcId 3 p) || (s.id.optics && portLoc p < 30 && isIsolated s (srcId 7 (portEngine p))) ||
    isIsolated s (srcId 10 (portBay p))

/-! ### Power figures -/

/-- Power rating in W (Table 1-2). -/
def rating (s : State) : Nat :=
  match s.id.n with
  | 8 => if s.id.optics then 2800 else 2440
  | 4 => if s.id.optics then 1450 else 1270
  | _ => if s.id.optics then 760 else 670

/-- Base load in W (Table 22-2). -/
def baseLoad (s : State) : Nat :=
  match s.id.n with
  | 8 => if s.id.optics then 825 else 465
  | 4 => if s.id.optics then 440 else 260
  | _ => if s.id.optics then 245 else 155

/-- The default orphan cap, 5/7 of the rating rounded down to 10 W (R481). -/
def orphanDflt (s : State) : Nat := rating s * 5 / 7 / 10 * 10

/-! ### Coordinates (Table 2-1) -/

def coA (c : Nat) : Nat := (c >>> 26) % 64
def coB (c : Nat) : Nat := (c >>> 20) % 64
def coK (c : Nat) : Nat := (c >>> 17) % 8
def coT (c : Nat) : Nat := (c >>> 11) % 64
def coS (c : Nat) : Nat := (c >>> 8) % 8
def coF (c : Nat) : Nat := c % 256
def mkCoord (a b k t sl f : Nat) : Nat := (a <<< 26) + (b <<< 20) + (k <<< 17) + (t <<< 11) + (sl <<< 8) + f
/-- The module's coordinate of a function. -/
def ownCoord (s : State) (f : Nat) : Nat := mkCoord s.set.active.ownA s.set.active.ownB s.sys.plane 63 0 f

/-! ### Defaults of the tables -/

def laneOff : Lane := ⟨.off, false, false, 0, 0, 0, 0, 0, 0, 0, false, 0, 0, 0, 0⟩
def laneOf (s : State) (l : Nat) : Lane := mget laneOff s.net.lanes l
def z16 : List Nat := List.replicate 16 0
def linkDflt : Link :=
  ⟨.disabled, z16, z16, z16, z16, 0, 0, false, 0, 0, [], false, 0, none, 0, none, 0, false, 0, [], 0, 0, 0, 0, 0, 0, 0, 0,
   0⟩
def linkOf (s : State) (l : Nat) : Link := mget linkDflt s.net.links l
def bayDflt : Bay := ⟨1, [], [], []⟩
def bayOf (s : State) (b : Nat) : Bay := mget bayDflt s.net.bays b
/-- An unset port (R61, Table 3-9): mooring ports PINNED, others AUTO; 50 µs. -/
def portDflt (p : Nat) : PortCfg :=
  ⟨false, 0, if portLoc p = 30 then 1 else 0, 50, false, false, none, [], none⟩
def portOf (s : State) (p : Nat) : PortCfg := mget (portDflt p) s.set.ports p

/-- Does the lane-port exist under its port's split (R34)? -/
def lpExistsAt (split sub : Nat) : Bool :=
  match split with | 0 => sub == 0 | 1 => sub == 0 || sub == 2 | _ => true
def lpExists (s : State) (l : Nat) : Bool := portFitted s (lpPort l) && lpExistsAt (portOf s (lpPort l)).split (lpSub l)
def portLps (s : State) (p : Nat) : List Nat :=
  ((List.range 4).filter (lpExistsAt (portOf s p).split)).map (4 * p + ·)
def allLps (s : State) : List Nat := (List.range (32 * s.id.n)).flatMap (portLps s)
/-- Lanes of a lane-port: as many as its share of the split. -/
def lpLanes (s : State) (l : Nat) : List Nat :=
  (List.range (match (portOf s (lpPort l)).split with | 0 => 4 | 1 => 2 | _ => 1)).map (l + ·)
/-- The lane-port that uses a lane. -/
def laneLp (s : State) (lane : Nat) : Nat :=
  match (portOf s (lane / 4)).split with | 0 => lane / 4 * 4 | 1 => lane / 2 * 2 | _ => lane
def linkUp (s : State) (l : Nat) : Bool := lpExists s l && (linkOf s l).st == .up
/-- The mooring lane-port of a die. -/
def moorLp (d : Nat) : Nat := 4 * (32 * d + 30)
def storLp (d : Nat) : Nat := 4 * (32 * d + 31)

/-! ### Bindings (R39 to R41, R331) -/

def bindDflt : Binding := ⟨0xFFFF, 0, 0⟩
def bindKey (kind idx : Nat) : Nat := kind * 0x100000 + idx
/-- GiB of the memory plan that `SLICE.BIND` may not touch: twin slots, basket pool, staging, journal mirror. -/
def planFixed (p : Plan) (region : Nat) : Bool :=
  let d := region / 96
  let g := region % 96
  let a := 2 * p.sideGib
  let b := a + (if p.twin = 1 then 2 * p.sideGib else 0) + p.basketGib + p.stageGib
  (a ≤ g && g < b) || (d == p.jmirDie && g == 95)
/-- Bound to slice 0 permanently (R41, R162, R331). -/
def roleFixed (s : State) (kind idx : Nat) : Bool :=
  match kind with
  | 1 => 18 ≤ lpLoc idx
  | 2 => idx % 128 == 0
  | 5 => planFixed s.set.plan idx
  | _ => false
def bindOf (s : State) (kind idx : Nat) : Binding :=
  if roleFixed s kind idx then ⟨0, (mget bindDflt s.set.binds (bindKey kind idx)).gen, 1⟩
  else mget bindDflt s.set.binds (bindKey kind idx)
/-- Slice states (Table 2-6): 0 UNUSED, 1 BOUND, 2 ENABLED, 3 DRAINING; slice 0 is always ENABLED (R55). -/
def sliceSt (s : State) (sl : Nat) : Nat := if sl = 0 then 2 else mget 0 s.set.slices sl
/-- Range of a kind (Table 2-4). -/
def kindRange (s : State) (kind : Nat) : Nat :=
  match kind with
  | 1 => 128 * s.id.n
  | 2 => 16384 * s.id.n
  | 3 => 32 * s.id.n
  | 4 => 65536
  | 5 => 96 * s.id.n
  | _ => 0
/-- The same ranges on a module of eight dies: an index beyond them is out of range, one within them and not on this
part names an absent object. -/
def kindMax (kind : Nat) : Nat :=
  match kind with | 1 => 1024 | 2 => 131072 | 3 => 256 | 4 => 65536 | 5 => 768 | _ => 0

/-! ### Memory regions (R37, R329) -/

def gib : Nat := 1073741824
/-- 96 GiB. -/
def shardB : Nat := 96 * gib
def hbmStack (a : Nat) : Nat := 4 * (a / shardB) + ((a % shardB) >>> 12) % 4
/-- Base of a side within a shard. -/
def sideBase (s : State) (side : Nat) : Nat := side * s.set.plan.sideGib * gib
def twinBase (s : State) (slot : Nat) : Nat := (2 + slot) * s.set.plan.sideGib * gib
def basketBase (s : State) : Nat := (2 * (1 + s.set.plan.twin) * s.set.plan.sideGib) * gib
/-- The region role of a module HBM address: 0 side A, 1 side B, 2 twin slots, 3 basket pool, 4 staging, 5 journal
mirror, 6 general HBM. -/
def hbmRole (s : State) (a : Nat) : Nat :=
  let p := s.set.plan
  let g := a % shardB / gib
  let e2 := 2 * p.sideGib
  let e3 := e2 + (if p.twin = 1 then 2 * p.sideGib else 0)
  if a / shardB = p.jmirDie ∧ g = 95 then 5
  else if g < p.sideGib then 0
  else if g < e2 then 1
  else if g < e3 then 2
  else if g < e3 + p.basketGib then 3
  else if g < e3 + p.basketGib + p.stageGib then 4
  else 6

/-! ### Names of events sent by several chapters -/

/-- `ADMIN` of a port (Table 3-9). -/
def adminOf (s : State) (p : Nat) : Nat :=
  if !(portOf s p).admin then 0 else if portIsolated s p then 2 else 1

/-- The eight ordering-code bytes. -/
def orderCode (s : State) : List Byte :=
  let c := fun (n : Nat) => (BitVec.ofNat 8 n : Byte)
  [c 0x51, c 0x46, c 0x4D, c 0x2D, c (0x30 + s.id.n), c (if s.id.tiles then 0x54 else 0x4E),
   c (if s.id.flash then 0x46 else 0x58), c (if s.id.optics then 0x4F else 0x45)]

/-- The firmware slot that runs. -/
def bootedSlot (s : State) : FwSlot := if s.sys.booted = 0 then s.sys.slotA else s.sys.slotB

/-- `DETCLASS` (Table 13-9). -/
def detClass (s : State) : Nat :=
  (0xB0 <<< 56) + (((bootedSlot s).fwBuild % 2 ^ 24) <<< 32) + (1 <<< 24) +
    (if s.id.tiles then (bootedSlot s).ucode % 2 ^ 24 else 0)

/-- Is an image of the schedule enabled (R309)? -/
def schedEnabled (s : State) : Bool := s.sched.slot.isSome

/-- Tickets that are not final. -/
def ticketLive (t : Ticket) : Bool :=
  match t.ost with | .queued => true | .running => true | .suspended => true | .cancelling => true | _ => false
def liveOps (s : State) (opcode : Nat) : List Ticket :=
  (s.cmd.tickets.map (·.2)).filter fun t => ticketLive t && t.opcode == opcode
def begunOps (s : State) (opcode : Nat) : List Ticket :=
  (liveOps s opcode).filter fun t => t.ost != .queued

end Sys2Proof.Machine
end

