-- ==== Sys2Proof/Machine/Flags.lean ====
section
/-! DEFINITION. Status words: every register of BAR0 as it reads (Tables 19-6 to 19-9, 21-4, 21-6, 22-6), and the
figures they show. -/

set_option Elab.async false

namespace Sys2Proof.Machine

/-! ### The envelope's figures (R465 to R477) -/

/-- Is a class-12 source of the list throttled (R448)? -/
def sensThrottled (s : State) (inst : Nat) : Bool := (srcOf s (srcId 12 inst)).throttled
/-- Rack cap, lowered by a throttled module-wide sensor (Table 22-4). -/
def rackCap (s : State) : Option Nat :=
  let low := ([8, 96, 97] ++ (dies s).map (88 + ·)).any (sensThrottled s)
  let l80 := rating s * 80 / 100
  match s.set.env.capW with
  | some c => some (if low then min c l80 else c)
  | none => if low then some l80 else none
def orphanCapW (s : State) : Nat := if s.set.env.orphanW = 0 then orphanDflt s else s.set.env.orphanW
def drogueLevel (s : State) : Nat := rating s * s.set.env.droguePct / 100
def pumpLimit (s : State) : Nat := rating s * s.set.env.pumpPct / 100
/-- The scheduled floor (R466). -/
def schedFloor (s : State) : Nat := baseLoad s + (if schedEnabled s then s.sched.floorW else 0)
/-- The limits other than the drogue and the pump, with their `CAP_SRC`. -/
def softCaps (s : State) : List (Nat × Nat) :=
  [(rating s, 0)] ++ (match rackCap s with | some c => [(c, 1)] | none => []) ++
    (if s.env.orphanCap then [(orphanCapW s, 2)] else [])
def hardCaps (s : State) : List (Nat × Nat) :=
  (if s.env.shelfDrogue then [(drogueLevel s, 3)] else []) ++ (if s.env.pump then [(pumpLimit s, 4)] else [])
/-- The least of a list of limits, the first among equals. -/
def leastCap (l : List (Nat × Nat)) (d : Nat × Nat) : Nat × Nat := l.foldl (fun a b => if b.1 < a.1 then b else a) d
/-- The effective cap and its source (R467). -/
def effCap (s : State) : Nat × Nat :=
  let soft := leastCap (softCaps s) (rating s, 0)
  let r := if soft.1 < schedFloor s then (schedFloor s, 5) else soft
  leastCap (hardCaps s) r

/-- The least limit other than the drogue and the pump. -/
def softCap (s : State) : Nat := (leastCap (softCaps s) (rating s, 0)).1

def brakeDflt : Brake := ⟨100, 100, 100, 100, 100, 100⟩
def brakeOf (s : State) (d : Nat) : Brake := mget brakeDflt s.env.brakes d
/-- Is die d's zone held by a throttled sensor of its own (Table 22-4)? -/
def zoneThrottled (s : State) (d : Nat) : Bool :=
  sensThrottled s d || (List.range 4).any (fun k => sensThrottled s (16 + 4 * d + k)) ||
    (List.range 5).any (fun e => sensThrottled s (48 + 5 * d + e))
/-- Tile duty in force on a die (R189, R448, R472, R477). -/
def dieDuty (s : State) (d : Nat) : Nat :=
  let b := brakeOf s d
  min (min b.duty b.tDuty)
    (if zoneThrottled s d || (srcOf s (srcId 1 d)).throttled then 50 else 100)
def tileDuty (s : State) (t : Nat) : Nat := min (dieDuty s (t / 32)) (if (srcOf s (srcId 4 t)).throttled then 50 else 100)
/-- Port-level brake in force on a die, percent of speed. -/
def diePort (s : State) (d : Nat) : Nat :=
  let b := brakeOf s d
  min (min b.port b.tPort) (if zoneThrottled s d then 50 else 100)
def leastOver (l : List Nat) (f : Nat → Nat) : Nat := l.foldl (fun a d => min a (f d)) 100

/-- Every sensor instance fitted (Table 22-4). -/
def sensorFitted (s : State) (i : Nat) : Bool :=
  if i < 8 then i < s.id.n
  else if i = 8 then true
  else if 16 ≤ i && i < 48 then (i - 16) / 4 < s.id.n
  else if 48 ≤ i && i < 88 then s.id.optics && (i - 48) / 5 < s.id.n
  else if 88 ≤ i && i < 96 then i - 88 < s.id.n
  else if i = 96 || i = 97 then true
  else i == 98 && s.id.flash
def sensorVal (s : State) (i : Nat) : Int := mget 0 s.env.sensors i
/-- The hottest sensor and its instance. -/
def hottest (s : State) : Int × Nat :=
  s.env.sensors.foldl (fun a e => if a.1 < e.2 then (e.2, e.1) else a) (0, 0)
/-- A temperature in whole degrees as an 8-bit field. -/
def deg8 (v : Int) : Nat := ((v / 100) % 256).toNat

/-- The pins as `SIGNALS` shows them (Table 22-6). -/
def pinBits (p : Pins) : Nat :=
  bit p.pwrOk 6 + bit p.drogue 5 + bit p.ripcord 4 + bit p.flow 3 + bit p.leak 2 + bit p.thermtrip 1 + bit p.pmbAlert 0

/-- Word k, 0 to 7, of the envelope status block (Table 22-6). -/
def envWord (s : State) (k : Nat) : Nat :=
  let c := effCap s
  match k with
  | 0 => ((s.env.pin % 65536) <<< 48) + (c.1 <<< 32) + (schedFloor s <<< 16) + c.2
  | 1 => bit s.env.shelfDrogue 63 + bit s.env.capDrogue 62 + bit s.env.pump 61 + bit s.env.thermal 60 +
      (leastOver (dies s) (dieDuty s) <<< 48) + (leastOver (dies s) (diePort s) <<< 40) +
      ((s.env.freeBallast + s.env.schedBallast) <<< 16) + s.env.schedBallast
  | 2 => (deg8 (hottest s).1 <<< 56) + ((hottest s).2 <<< 48) + (deg8 (sensorVal s 96) <<< 40) + (deg8 (sensorVal s 97) <<< 32)
  | 3 => (s.env.vin <<< 48) + (s.env.iin <<< 32) + (s.env.vsb <<< 16) + pinBits s.env.pins
  | 4 => s.env.events
  | 5 => s.env.intEn
  | 6 => (s.env.drogues <<< 32) + s.env.rampExceed
  | 7 => (sat 32 ((s.mono - s.env.hbAt) / 1750000) <<< 32) + s.env.hbCount
  | _ => 0

/-! ### Fault collector (Table 21-4) -/

def srcClass (id : Nat) : Nat := id / 256
def fcode : FState → Nat
  | .ok => 0 | .counting => 1 | .severe => 2 | .isolated => 3 | .releasing => 4
def countSrc (s : State) (p : Source → Bool) : Nat := (s.flt.src.filter fun e => p e.2).length
def classPend (s : State) : Nat :=
  (List.range 14).foldl (fun a c => a + bit (s.flt.src.any fun e => srcClass e.1 == c && e.2.st != .ok) c) 0
def fltWord (s : State) (off : Nat) : Nat :=
  match off with
  | 0x000 => bit s.flt.valid 63 + (s.flt.source <<< 48) + (s.flt.kind <<< 40) + (s.flt.mstate <<< 32)
  | 0x008 => s.flt.firstFt
  | 0x010 => bit s.flt.ovf 63 + s.flt.ovfCnt
  | 0x018 => (countSrc s (fun x => x.st == .severe) <<< 48) +
      (countSrc s (fun x => x.st == .isolated || x.st == .releasing) <<< 32) + classPend s
  | 0x020 => s.flt.recoveries
  | 0x028 => s.flt.reports
  | 0x030 => bit s.flt.onSevere 1 + bit s.flt.onFirst 0
  | _ => 0

/-! ### Event recorder (Table 21-6) -/

def evrWord (s : State) (off : Nat) : Nat :=
  match off with
  | 0x000 => (s.flt.fillThr <<< 8) + bit s.flt.intEn 2 + bit s.flt.enable 0
  | 0x008 => s.flt.wrPtr
  | 0x010 => s.flt.cursor <<< 12
  | 0x018 => bit s.flt.full 63 + s.flt.lost
  | 0x020 => s.flt.suppressed
  | 0x028 => s.flt.rseq
  | 0x030 => bit s.flt.intPend 0
  | _ => 0

/-! ### Identity and state (Table 19-6) -/

def timeCode : TimeState → Nat
  | .freeRun => 0 | .acquiring => 1 | .aligned => 2 | .holdover => 3
def pairCode : PairState → Nat
  | .unpaired => 0 | .offering => 1 | .syncing => 2 | .paired => 3 | .solo => 4
def cxlMemUp (s : State) : Bool := s.host.l0 && s.host.mode == 1
def kstat (s : State) : Nat :=
  (sat 32 ((s.mono - s.sys.upAt) / 1750000000) <<< 32) + bit s.host.mgmtUp 17 + bit (cxlMemUp s) 16 +
    (timeCode s.time.st <<< 8) + (pairCode s.gemel.st <<< 4) + mstCode s.sys.st
def kidWord (s : State) (off : Nat) : Nat :=
  match off with
  | 0x000 => (0xB0 <<< 56) + (1 <<< 48) + (((bootedSlot s).ifMinor % 256) <<< 40) + (0x5358 <<< 16) + 0x1F9C
  | 0x008 => leNat (orderCode s)
  | 0x010 => fitted s
  | 0x018 => usable s
  | 0x020 => rdLe s.id.serial 0 8
  | 0x028 => rdLe s.id.serial 8 8
  | 0x030 => (bootedSlot s).fwBuild % 2 ^ 64
  | 0x038 => detClass s
  | 0x040 => kstat s
  | _ => 0

/-! ### Rings (Table 19-8) -/

def ringDflt : Ring := ⟨0, 0, 0, 0, false, 0, 4, true, 0, 0, 0, .disabled, 0, 0, 0, 0, []⟩
def ringOf (s : State) (r : Nat) : Ring := mget ringDflt s.cmd.rings r
def rcode : RState → Nat
  | .disabled => 0 | .enabled => 1 | .error => 2 | .refused => 3
def ringWord (g : Ring) (off : Nat) : Nat :=
  match off with
  | 0x00 => g.sqBase
  | 0x08 => g.cqBase
  | 0x10 => g.resBase
  | 0x18 => (g.msix <<< 16) + bit g.enable 8 + (g.priv <<< 4) + g.entLog2
  | 0x20 => bit g.phase 48 + (g.cqTail <<< 32) + (g.sqHead <<< 16) + (g.cause <<< 4) + rcode g.rstate
  | 0x28 => (g.taken <<< 32) + g.dbIgnored
  | _ => 0

/-! ### Fabric time (Table 19-9) -/

/-- θ in units of 2^-16 ns as a signed count of ps, in 32 bits. -/
def thetaPs (v : Int) : Nat := ofSigned 32 (v * 1000 / 65536)
def ftWord (s : State) (off : Nat) : Nat :=
  match off with
  | 0x8000 => ftNs s
  | 0x8008 => s.host.ftFrac
  | 0x8010 => (thetaPs s.time.theta <<< 32) + (s.time.parent.getD 0xFFFF <<< 16) + (s.time.steps <<< 8) + timeCode s.time.st
  | 0x8018 => s.time.ppsFt
  | 0x8020 => s.time.stepCnt
  | _ => 0

/-- A 64-bit read of BAR0 at an offset, taken at its aligned register; a reserved offset reads 0 (R13). -/
def bar0Read (s : State) (o : Nat) : Nat :=
  let off := o / 8 * 8
  if off < 0x1000 then kidWord s off
  else if off < 0x2000 then 0
  else if off < 0x3000 then ringWord (ringOf s ((off - 0x2000) / 64)) (off % 64)
  else if 0x4000 ≤ off && off < 0x5000 then fltWord s (off - 0x4000)
  else if 0x5000 ≤ off && off < 0x6000 then evrWord s (off - 0x5000)
  else if 0x6000 ≤ off && off < 0x7000 then leNat (memRead s.flt.sram (s.flt.cursor * 4096 + off - 0x6000) 8)
  else if 0x7000 ≤ off && off < 0x8000 then envWord s ((off - 0x7000) / 8)
  else ftWord s off

end Sys2Proof.Machine
end

