-- ==== Sys2Proof/Machine/SchedImg.lean ====
section
/-! DEFINITION. Schedule images as bytes (Tables 13-3 to 13-5), and what an enabled image names (R309). -/

set_option Elab.async false

namespace Sys2Proof.Machine

/-- An image entry: kind, cycle and the 96-bit body (Table 13-4). -/
structure SEntry where
  kind : Nat
  cycle : Nat
  body : Nat
deriving DecidableEq, Repr

def entryOf (bs : List Byte) : SEntry :=
  let v := leNat bs
  ⟨v >>> 120, (v >>> 96) % 2 ^ 24, v % 2 ^ 96⟩
def imgEntries (img : List Byte) : List SEntry := (chunksOf 16 (img.drop 128)).map entryOf
/-- Bits `[hi:lo]` of an entry's body. -/
def eb (e : SEntry) (hi lo : Nat) : Nat := (e.body >>> lo) % 2 ^ (hi + 1 - lo)

def hdrPeriod (img : List Byte) : Nat := rdLe img 0x14 4
def hdrEntries (img : List Byte) : Nat := rdLe img 0x18 4
def hdrModules (img : List Byte) : Nat := rdLe img 0x1C 4
def hdrIters (img : List Byte) : Nat := rdLe img 0x20 8
def hdrLead (img : List Byte) : Nat := let v := rdLe img 0x28 4; if v = 0 then 50000 else v
def hdrSlice (img : List Byte) : Nat := rdLe img 0x10 2

/-- The image in the enabled slot. -/
def enabledImg (s : State) : List Byte :=
  match s.sched.slot with
  | some k => mget [] s.sched.images k
  | none => []
def enabledEntries (s : State) : List SEntry := imgEntries (enabledImg s)

/-- What an entry names. -/
def entLp (e : SEntry) : Option Nat := if e.kind = 2 then some (eb e 95 86) else none
def entGroup (e : SEntry) : Option Nat :=
  if e.kind = 3 ∨ e.kind = 4 ∨ e.kind = 5 ∨ e.kind = 10 then some (eb e 95 80) else none
def entTile (e : SEntry) : Option Nat :=
  if e.kind = 3 ∨ e.kind = 4 then some (32 * eb e 79 77 + eb e 76 72)
  else if (e.kind = 8 ∨ e.kind = 9) ∧ eb e 92 92 = 0 then some (32 * eb e 95 93 + eb e 91 87)
  else none
def entStack (e : SEntry) : Option Nat :=
  if e.kind = 6 then some (4 * eb e 95 93 + eb e 92 91)
  else if (e.kind = 8 ∨ e.kind = 9) ∧ eb e 92 92 = 1 then some (4 * eb e 95 93 + eb e 91 87)
  else none
/-- Sail dies that an entry names as such. -/
def entDies (e : SEntry) : List Nat :=
  if e.kind = 1 then [eb e 95 93, eb e 92 90] else if e.kind = 10 then [eb e 79 77] else []
/-- The spar of a SPAR entry (source id class 2). -/
def entSpar (e : SEntry) : Option (Nat × Nat) := if e.kind = 1 then some (eb e 95 93, eb e 92 90) else none
/-- A scheduled group is one that a CLAIM or ISSUE entry names. -/
def entSchedGroup (e : SEntry) : Option Nat := if e.kind = 3 ∨ e.kind = 4 then some (eb e 95 80) else none

def namesLp (s : State) (l : Nat) : Bool := (enabledEntries s).any fun e => entLp e == some l
def namesTile (s : State) (t : Nat) : Bool := (enabledEntries s).any fun e => entTile e == some t
def namesStack (s : State) (k : Nat) : Bool := (enabledEntries s).any fun e => entStack e == some k
def namesGroup (s : State) (g : Nat) : Bool := (enabledEntries s).any fun e => entGroup e == some g
def schedGroup (s : State) (g : Nat) : Bool := (enabledEntries s).any fun e => entSchedGroup e == some g
/-- Does an enabled image name the die, or a unit of it? -/
def namesDie (s : State) (d : Nat) : Bool :=
  (enabledEntries s).any fun e =>
    (entDies e).contains d || (entLp e).any (fun l => lpDie l == d) || (entTile e).any (fun t => t / 32 == d) ||
      (entStack e).any (fun k => k / 4 == d)
/-- The identity of an image (R317). -/
def imgIdent (img : List Byte) : List Byte := sha256 img
/-- The tag of `TIME` blocks: bytes 0 to 3 of the identity. -/
def schedTag (s : State) : Nat := rdLe s.sched.ident 0 4
/-- The floor of an image: the largest `WATTS` (R323). -/
def imgFloor (img : List Byte) : Nat :=
  (imgEntries img).foldl (fun a e => if e.kind = 7 then max a (eb e 95 80) else a) 0

end Sys2Proof.Machine
end

