-- ==== Sys2Proof/Machine/QueriesA.lean ====
section
/-! DEFINITION. Results of the query commands of chapters 01, 02, 03, 13 to 17 and 19 to 22, as bytes. -/

set_option Elab.async false

namespace Sys2Proof.Machine

/-- Puts bytes at an offset of a list. -/
def setBytes (bs : List Byte) (off : Nat) (v : List Byte) : List Byte := bs.take off ++ v ++ bs.drop (off + v.length)
/-- `n` bytes with fields (offset, width, value) filled in, little-endian. -/
def fields (n : Nat) (fs : List (Nat × Nat × Nat)) : List Byte :=
  fs.foldl (fun b f => setBytes b f.1 (leBytes f.2.1 f.2.2)) (List.replicate n 0)

/-! ### Chapter 01 -/

/-- The capability record (Table 1-5). -/
def capRecord (s : State) : List Byte :=
  let n := s.id.n
  let r := fields 256
    [(0x00, 2, 1), (0x02, 2, 256), (0x04, 1, 1), (0x05, 1, (bootedSlot s).ifMinor), (0x06, 1, 0xB0),
     (0x10, 8, fitted s), (0x18, 8, usable s), (0x30, 8, (bootedSlot s).fwBuild), (0x38, 8, detClass s),
     (0x40, 2, 96 * n), (0x42, 2, if s.id.tiles then 32 * n else 0), (0x44, 2, 128 * n), (0x46, 2, 32 * n),
     (0x48, 2, 18 * n), (0x4C, 4, 65536), (0x50, 4, if s.id.flash then 4096 * n else 0),
     (0x54, 4, if s.id.flash then 3072 * n else 0), (0x58, 2, 512), (0x5A, 2, 64), (0x5C, 2, rating s),
     (0x5E, 1, s.sys.plane), (0x5F, 1, s.sys.tray)]
  setBytes (setBytes r 0x08 (orderCode s)) 0x20 (sliceBytes s.id.serial 0 16)

/-! ### Chapter 02 -/

/-- Objects of a kind whose binding names a slice, those of a lane-port that does not exist left out (Table 2-9). -/
def countBound (s : State) (kind slice : Nat) : Nat :=
  let own := (s.set.binds.filter fun e =>
    e.1 / 0x100000 == kind && e.2.ost == 1 && e.2.slice == slice && !roleFixed s kind (e.1 % 0x100000) &&
      (kind != 1 || lpExists s (e.1 % 0x100000)) && (kind != 2 || lpExists s (e.1 % 0x100000 / 128))).length
  let fixed := if slice != 0 then 0 else
    match kind with
    | 1 => ((allLps s).filter (roleFixed s 1)).length
    | 2 => (allLps s).length
    | 5 => ((List.range (96 * s.id.n)).filter (roleFixed s 5)).length
    | _ => 0
  own + fixed

/-- `SLICE.QUERY` (Table 2-9). -/
def qSlice (s : State) (p : List Byte) : List Byte :=
  if rdLe p 0 1 = 0 then
    let b := bindOf s (rdLe p 1 1) (rdLe p 4 4)
    fields 8 [(0, 2, b.slice), (2, 2, b.gen), (4, 1, b.ost)]
  else
    let sl := rdLe p 2 2
    fields 32 [(0, 1, sliceSt s sl), (4, 4, countBound s 1 sl), (8, 4, countBound s 2 sl), (12, 4, countBound s 3 sl),
      (16, 4, countBound s 4 sl), (20, 4, countBound s 5 sl), (24, 8, mget 0 s.net.stale sl)]

/-! ### Chapter 03 -/

def powerCode : LanePower → Nat
  | .off => 0 | .powering => 1 | .active => 2 | .doze => 3 | .lifting => 4 | .test => 5
def linkCode : LinkState → Nat
  | .disabled => 0 | .waitLanes => 1 | .locking => 2 | .exchange => 3 | .creditInit => 4 | .up => 5 | .miscabled => 6
  | .retrain => 7
/-- The lane-map entry of a lane. -/
def laneMap (s : State) (lane : Nat) : Option LaneMap := mfind (bayOf s (portBay (lane / 4))).entries lane
/-- The far end a record expects (Table 3-7): kind, coordinate with bits [7:0] zero, port (none: not checked). -/
def recordFar (s : State) (l : Nat) : Nat × Nat × Option Nat :=
  match laneMap s l with
  | none => (0, 0, none)
  | some m =>
    let a := s.set.active.ownA
    let b := s.set.active.ownB
    let k := s.sys.plane
    let d := lpDie l
    match m.farKind with
    | 1 => (1, mkCoord a b k 0 0 0 + (m.farId >>> 8 <<< 8) % 2 ^ 17, none)
    | 2 =>
      let sA := max s.set.active.sizeA 1
      let sB := max s.set.active.sizeB 1
      let c := match m.farId % 4 with
        | 0 => mkCoord ((a + 1) % sA) b k 63 0 0
        | 1 => mkCoord ((a + sA - 1) % sA) b k 63 0 0
        | 2 => mkCoord a ((b + 1) % sB) k 63 0 0
        | _ => mkCoord a ((b + sB - 1) % sB) k 63 0 0
      (2, c, some (32 * d + (m.farId >>> 8) % 32))
    | 3 => (3, mkCoord a b (k ^^^ 1) 63 0 0, some (32 * d + 30))
    | 4 => (4, 0, none)
    | 5 => (5, ownCoord s 0, some (lpPort l))
    | _ => (0, 0, none)
/-- The expected far end, after an `ACCEPT_SEEN` override (R75). -/
def expectFar (s : State) (l : Nat) : Nat × Nat × Option Nat :=
  let r := recordFar s l
  match mfind s.net.expectSeen l with
  | some (c, p) => if (portOf s (lpPort l)).overSeen then (r.1, c, some p) else r
  | none => r
/-- Does an override cover the port (Table 3-9)? -/
def overrides (s : State) (p : Nat) : Bool := (portOf s p).overRec || (portOf s p).overSeen
/-- `PORT.QUERY` (Table 3-9). -/
def qPort (s : State) (p : Nat) : List Byte :=
  let c := portOf s p
  let k := linkOf s (4 * p)
  let pol := if portLoc p = 31 then 3 else if (portLps s p).any (namesLp s) then 2 else c.policy
  fields 0x1C ([(0, 1, adminOf s p), (1, 1, c.split), (2, 1, pol),
    (3, 1, (bayOf s (portBay p)).cstatus + (if overrides s p then 128 else 0)), (4, 1, linkCode k.st),
    (5, 1, mget 0 s.net.grades p), (6, 2, c.idleUs), (0x0C, 4, (expectFar s (4 * p)).2.1), (0x10, 4, k.farCoord),
    (0x14, 1, match k.farPort with | some x => x % 32 | none => 0xFF)] ++
    (List.range 4).map (fun i => (8 + i, 1, powerCode (laneOf s (4 * p + i)).power)) ++
    (List.range 4).map (fun u => (0x18 + u, 1, if lpExistsAt c.split u then linkCode (linkOf s (4 * p + u)).st else 0xFF)))
/-- Time in DOZE of a lane so far, in ms. -/
def dozeMs (s : State) (l : Lane) : Nat :=
  sat 32 (l.dozeMs + (if l.power == .doze then (s.mono - l.dozeAt) / 1750000 else 0))
/-- `LANE.STATS` (Table 3-10). -/
def qLane (s : State) (l : Nat) : List Byte :=
  let x := laneOf s l
  fields 0x20 [(0, 8, x.fecCorr), (8, 8, x.fecUncorr), (0x10, 4, x.losCnt), (0x14, 4, x.lolCnt), (0x18, 4, x.lifts),
    (0x1C, 4, dozeMs s x)]
/-- `OPT.READ` (R65): `0x8000` for a lane that is OFF. -/
def qOpt (s : State) (p : Nat) : List Byte :=
  (List.range 4).flatMap fun i =>
    let l := 4 * p + i
    match (laneOf s l).power, mfind s.net.opt l with
    | .off, _ => fields 6 [(0, 2, 0x8000), (2, 2, 0x8000), (4, 2, 0x8000)]
    | _, none => fields 6 [(0, 2, 0x8000), (2, 2, 0x8000), (4, 2, 0x8000)]
    | _, some r => fields 6 [(0, 2, ofSigned 16 r.launch), (2, 2, ofSigned 16 r.backRefl), (4, 2, ofSigned 16 r.received)]

/-! ### Chapter 13 -/

def schedCode : SchedState → Nat
  | .empty => 0 | .loaded => 1 | .armed => 2 | .running => 3 | .halted => 4 | .ended => 5
/-- `SCHED.QUERY` (Table 13-11). -/
def qSched (s : State) : List Byte :=
  let st := if schedEnabled s then schedCode s.sched.st else if mhas s.sched.images 0 then 1 else 0
  let loaded := (List.range 4).foldl (fun a k => a + bit (mhas s.sched.images k) k) 0
  fields 0x2C [(0, 1, st), (1, 1, s.sched.slot.getD 0xFF), (2, 1, loaded), (3, 1, s.sched.cause), (4, 4, s.sched.haltEntry),
    (8, 8, s.sched.iter), (0x10, 8, s.sched.launchFt), (0x18, 8, rdLe s.sched.ident 0 8), (0x20, 2, s.sched.floorW),
    (0x24, 4, s.sched.nanSeen), (0x28, 4, s.sched.haltDiscard)]
/-- `SCHED.TIMEQUERY` (Table 13-10). -/
def qTime (s : State) : List Byte :=
  fields 12 [(0, 1, timeCode s.time.st), (1, 1, s.time.steps), (2, 2, s.time.parent.getD 0xFFFF), (4, 4, thetaPs s.time.theta),
    (8, 4, thetaPs s.time.delta)]
/-- `SCHED.AUDITREAD`. -/
def digestOf (s : State) (g seq : Nat) : Option (List Byte) :=
  ((mget [] s.sched.digests g).find? fun e => e.1 == seq).map (·.2)
def qAudit (s : State) (g seq : Nat) : List Byte :=
  (digestOf s g seq).getD (List.replicate 32 0) ++ leBytes 4 (mget 0 s.sched.auditLost g)

/-! ### Chapter 14 -/

/-- `SNAP.PLANQUERY` (Table 14-7). -/
def qPlan (s : State) : List Byte :=
  let p := s.set.plan
  fields 0x14 [(0, 1, p.sideGib), (1, 1, p.twin), (2, 1, p.basketGib), (3, 1, p.stageGib), (4, 1, p.jmirDie),
    (5, 1, p.scrubPct), (0x10, 4, s.net.scrub.foldl (fun a e => a + (16384 - e.2.length)) 0)]
/-- `SNAP.LIST`: the first 16 copies of a tier (Table 14-7). -/
def copiesAt (s : State) (tier : Nat) : List Copy := (s.set.copies.filter fun c => c.1 == tier).map (·.2)
def qList (s : State) (tier : Nat) : List Byte :=
  ((copiesAt s tier).take 16).flatMap fun c =>
    fields 32 [(0, 8, c.snapId), (8, 8, c.step), (16, 8, c.ftSeal), (24, 4, c.st), (28, 4, c.place)]
/-- Bytes of a side's seal that a drain has moved at a tier: a running one, else the last. -/
def drained (s : State) (x : Side) (tier : Nat) : Nat :=
  match s.snap.drains.find? (fun d => d.snapId == x.snapId && d.tier == tier) with
  | some d => d.cursors.foldl (· + ·) 0 * 4096
  | none => x.drained.getD (tier - 1) 0
def qSide (s : State) (x : Side) : List Byte :=
  fields 32 ([(0, 1, if x.sealed then 1 else 0), (1, 1, if x.sealed then x.acks else 0), (2, 8, if x.sealed then x.snapId else 0),
    (10, 8, if x.sealed then x.step else 0)] ++
    (List.range 3).map fun t => (18 + 4 * t, 4, if x.sealed then drained s x (t + 1) % 2 ^ 32 else 0))
/-- `SNAP.QUERY` (assumption 31 gives the layout within a side's 32 bytes). -/
def qSnap (s : State) : List Byte :=
  qSide s s.snap.sideA ++ qSide s s.snap.sideB ++ leBytes 1 (bit s.snap.reelOn 0 + bit s.snap.emergency 1)

/-! ### Chapter 15 -/

/-- Superblocks in all, and bytes of one: 32 MiB per flash die (Table 15-1). -/
def superCount : Nat := 3072
def superDflt : SuperBlock := ⟨0, 0, 0, 0⟩
def superBytes (s : State) : Nat :=
  33554432 * ((List.range (flashDies s)).filter (flashDieOk s)).length
def superOf (s : State) (j : Nat) : SuperBlock := mget superDflt s.flash.supers j
def usableSupers (s : State) : Nat := superCount - (s.flash.supers.filter fun e => e.2.st == 3).length
def eraseSum (s : State) : Nat := s.flash.supers.foldl (fun a e => a + e.2.erases) 0
def eraseMean (s : State) : Nat := eraseSum s / superCount
/-- Spares of a flash die (Table 15-2). -/
def spareBlocks (f : Nat) : List Nat := (if f < 8 then [] else [0, 1]) ++ (List.range 1022).map (3074 + ·)
/-- Spares neither bad nor in use; a block that a refresh has left is a spare too (R354). -/
def spareFree (s : State) (f : Nat) : List Nat :=
  let moved := s.flash.repl.filter fun e => e.1 / 4096 == f
  let used := moved.map (·.2)
  let left := moved.map fun e => e.1 % 4096
  (spareBlocks f ++ left).filter fun b => !mget false s.flash.bad (4096 * f + b) && !used.contains b
/-- `FLASH.HEALTH` (Table 15-4). -/
def qHealth (s : State) : List Byte :=
  let fd := List.range (flashDies s)
  let maxE := s.flash.blkErase.foldl (fun a e => max a e.2) (s.flash.supers.foldl (fun a e => max a e.2.erases) 0)
  let day := s.flash.eraseLog.foldl (fun a e => if s.mono < e.1 + 24 * 3600 * 1750000000 then a + e.2 else a) 0
  fields 0x40 [(0, 8, usableSupers s * superBytes s),
    (8, 4, superCount - (s.flash.supers.filter fun e => e.2.st != 0).length),
    (0x0C, 2, sat 16 (eraseSum s * 1000 / (superCount * 3000))),
    (0x0E, 2, fd.foldl (fun a f => min a (spareFree s f).length) 1024), (0x10, 4, eraseMean s), (0x14, 4, maxE),
    (0x18, 8, sat 64 s.flash.written), (0x20, 8, sat 64 day), (0x28, 4, s.flash.bad.length),
    (0x2C, 2, s.flash.failed.length), (0x2E, 2, ofSigned 16 (s.flash.tempC / 100)), (0x30, 8, s.flash.scanFt),
    (0x38, 4, s.flash.refreshed), (0x3C, 4, s.flash.uncorr)]
/-- `FLASH.BBTREAD`: 4,096 bits of a flash die. -/
def qBbt (s : State) (f : Nat) : List Byte :=
  (List.range 512).map fun i =>
    BitVec.ofNat 8 ((List.range 8).foldl (fun a b => a + bit (mget false s.flash.bad (4096 * f + 8 * i + b)) b) 0)

/-! ### Chapter 16 -/

def moorUp (s : State) : List Nat := (dies s).filter fun d => linkUp s (moorLp d)
/-- `GEMEL.QUERY` (Table 16-8). -/
def qGemel (s : State) : List Byte :=
  let g := s.gemel
  let r := fields 0x44 [(0, 1, pairCode g.st), (1, 1, bit g.adoptWait 0 + bit g.remote 1 + bit g.holdsRole 2 + bit g.frozen 3),
    (2, 2, g.lastRefusal), (4, 4, (moorUp s).foldl (fun a d => a + bit true d) 0), (0x28, 8, g.mirSeq), (0x30, 8, s.cmd.jseq),
    (0x38, 8, g.twinUsable), (0x40, 4, sat 32 (g.waitMax / 1750))]
  setBytes (setBytes r 8 (match g.offer with | some o => sliceBytes o.serial 0 16 | none => List.replicate 16 0)) 0x18
    (sliceBytes g.mirOwner 0 16)

/-! ### Chapter 17 -/

def xpCode : Xport → Nat
  | .host => 0 | .mgmt => 1 | .fabric => 2
def sessKey (x : Nat) (n : Nat) : Nat := 64 * (x - 1) + n
def sessOf (s : State) (r : RingId) : Option Session :=
  match r.xport with
  | .host => none
  | x => mfind s.cmd.sessions (sessKey (xpCode x) r.ring)
/-- The client of a ring (R377). -/
def clientOf (s : State) (r : RingId) : Client :=
  match r.xport with
  | .host => ⟨.host, r.ring⟩
  | x => ⟨x, match sessOf s r with | some q => q.peer | none => 0⟩
/-- The privilege of a ring (R378): 0 OBSERVER, 1 OPERATOR, 2 OWNER. -/
def privOf (s : State) (r : RingId) : Nat :=
  match r.xport with
  | .host => (ringOf s r.ring).priv
  | _ => match sessOf s r with | some q => q.priv | none => 0
def openSessions (s : State) (x : Nat) : Nat :=
  (s.cmd.sessions.filter fun e => e.1 / 64 == x - 1 && e.2.openS).length
def owedTo (s : State) (c : Client) : List Cpl := (s.cmd.owed.filter fun e => e.1 == c).map (·.2)
/-- `CAPS` (Table 17-11). -/
def qCaps (s : State) (r : RingId) : List Byte :=
  fields 0x14 [(0, 1, 1), (1, 1, (bootedSlot s).ifMinor), (2, 2, 64), (4, 2, 4096), (6, 2, 256), (8, 4, 63962096),
    (0x0C, 1, privOf s r), (0x0D, 1, xpCode r.xport), (0x0E, 1, openSessions s 1), (0x0F, 1, openSessions s 2),
    (0x10, 2, (s.cmd.tickets.filter fun e => ticketLive e.2).length), (0x12, 2, (owedTo s (clientOf s r)).length)]
def oCode : OState → Nat
  | .queued => 0 | .running => 1 | .suspended => 2 | .cancelling => 3 | .cancelled => 4 | .done => 5 | .failed => 6
/-- A ticket by number, if its slot still holds it (R399). -/
def ticketOf (s : State) (tk : Nat) : Option Ticket :=
  match mfind s.cmd.tickets (tk % 256) with
  | some t => if t.ticket = tk then some t else none
  | none => none
/-- `OP.QUERY` (Table 17-12). -/
def qTicket (t : Ticket) : List Byte :=
  fields 0x28 [(0, 1, oCode t.ost), (1, 1, xpCode t.client.xport), (2, 2, t.opcode), (4, 2, t.reason), (6, 2, t.progress),
    (8, 8, t.cmdId), (0x10, 8, t.client.peer), (0x18, 8, t.ftCreated), (0x20, 8, t.ftChanged)] ++ sliceBytes t.oresult 0 64
/-- `OP.LIST` (R406). -/
def qOpList (s : State) : List Byte :=
  (List.range 256).flatMap fun k =>
    match mfind s.cmd.tickets k with
    | some t => fields 8 [(0, 4, t.ticket), (4, 1, oCode t.ost), (6, 2, t.opcode)]
    | none => List.replicate 8 0

/-! ### Chapter 19 -/

/-- `DEV.HOSTQUERY` (Table 19-11). -/
def decOf (s : State) (k : Nat) : Decoder := mget ⟨0, 0, 0, 0, false, false⟩ s.host.dec k
def qHost (s : State) : List Byte :=
  fields 0x30 [(0, 1, if s.host.l0 then s.host.mode else 0), (1, 1, s.host.width), (2, 1, s.host.rate),
    (3, 1, bit (decOf s 0).committed 0 + bit (decOf s 1).committed 1), (4, 2, s.set.filter0), (6, 2, s.set.filter1),
    (8, 8, s.host.hdmDenied), (0x10, 8, s.host.hdmDropped), (0x18, 4, (s.mem.hostHeld.filter fun h => h.write.isNone).length), (0x1C, 4, s.host.linkDowns),
    (0x20, 1, if s.host.mgmtUp then 1 else 0), (0x24, 4, s.host.mgmtDropped), (0x28, 8, s.host.spdmReq)]

/-! ### Chapter 20 -/

/-- The floor (R442). -/
def floorOf (s : State) : Nat := max s.sys.floor s.sys.inUse.fwFloor
/-- `DEV.STATE` (Table 20-5). -/
def qState (s : State) : List Byte :=
  fields 0x21 [(0, 1, mstCode s.sys.st), (1, 1, s.sys.hold), (2, 1, s.sys.booted),
    (3, 1, bit s.sys.trial.isSome 0 + bit s.sys.tried 1), (4, 4, (bootedSlot s).svn), (8, 4, floorOf s),
    (0x10, 8, s.sys.inUse.seq), (0x18, 8, s.sys.cfgSeq), (0x20, 1, s.sys.startCause)]
def qFwSlot (f : FwSlot) : List Byte :=
  fields 32 [(0, 4, if f.valid then 1 else 0), (4, 4, f.svn), (8, 8, f.fwBuild), (0x10, 4, f.ucode), (0x18, 8, rdLe f.digest 0 8)]
/-- `FW.QUERY` (assumption 32 gives the layout within a slot's 32 bytes). -/
def qFw (s : State) : List Byte := qFwSlot s.sys.slotA ++ qFwSlot s.sys.slotB ++ leBytes 1 s.sys.active

/-! ### Chapter 21 -/

def classDflt (c : Nat) : ClassCfg :=
  ⟨if c = 9 then 3 else if [1, 3, 4, 5, 6, 7, 8].contains c then 2 else 0, 8, 10, 60⟩
def classOf (s : State) (c : Nat) : ClassCfg := mget (classDflt c) s.set.classes c
/-- Does the id name a source (R446)? -/
def srcNames (s : State) (id : Nat) : Bool :=
  let i := id % 256
  let n := s.id.n
  match id / 256 with
  | 0 => i < 6 || (i == 6 && s.id.flash)
  | 1 => i < n
  | 2 => i / 8 < i % 8 && i % 8 < n
  | 3 => i < 32 * n
  | 4 => s.id.tiles && i < 32 * n
  | 5 => i < 4 * n
  | 6 => i < n
  | 7 => s.id.optics && i < 5 * n
  | 8 => i < flashDies s
  | 9 => if i < 24 then i % 8 < n else i < 26 || (i == 26 && s.id.flash) || i == 27
  | 10 => i < 3 * n
  | 11 => i < 8
  | 12 => sensorFitted s i
  | 13 => i < n
  | _ => false
/-- `FAULT.QUERY`, one source (Table 21-8). -/
def qSource (s : State) (id : Nat) : List Byte :=
  let x := srcOf s id
  let c := classOf s (id / 256)
  let inWin := (x.times.filter fun t => s.mono ≤ t + cycS c.windowS).length
  let quiet := match x.st with
    | .severe => c.quietS != 0
    | .isolated => !x.sticky && c.quietS != 0
    | _ => false
  fields 32 [(0, 2, id), (2, 1, fcode x.st), (3, 1, bit x.sticky 0 + bit x.throttled 1 + bit x.lastUsable 2),
    (4, 1, inWin), (5, 1, x.lastKind), (6, 2, sat 16 x.recoveries), (8, 8, x.total), (0x10, 8, x.lastFt),
    (0x18, 8, if quiet then x.lastFt + c.quietS * 1000000000 else 0)]
/-- `FAULT.QUERY` mode 1. -/
def qSources (s : State) (frm len : Nat) : List Byte :=
  (((s.flt.src.filter fun e => frm ≤ e.1 && e.2.st != .ok).take (len / 32)).map (·.1)).flatMap (qSource s)
/-- `EVENT.READ` (Table 21-7). -/
def qEvents (s : State) (off len : Nat) : List Byte :=
  memRead s.flt.sram off len ++ leBytes 8 (evrWord s 0x008) ++ leBytes 8 (evrWord s 0x018)

/-! ### Chapter 22 -/

def qEnv (s : State) : List Byte := (List.range 8).flatMap fun k => leBytes 8 (envWord s k)
def qSensors (s : State) (first count : Nat) : List Byte :=
  (List.range count).flatMap fun i =>
    leBytes 2 (if sensorFitted s (first + i) then ofSigned 16 (sensorVal s (first + i)) else 0x8000)
def psuDflt : Psu := ⟨1, 0, 0, 0, 0, 0, 0, 0⟩
def psuOf (s : State) (b : Nat) : Psu := mget psuDflt s.env.psus b
def qPsu (s : State) (b : Nat) : List Byte :=
  let p := psuOf s b
  fields 16 [(0, 1, p.cstatus), (1, 1, p.status), (2, 2, p.vin), (4, 2, p.vout), (6, 2, p.iout), (8, 2, p.temp), (12, 4, p.shelf)]
def psuPresent (s : State) (b : Nat) : Bool := mhas s.env.psus b && (psuOf s b).cstatus != 1
def qTray (s : State) : List Byte :=
  let bits := fun (f : Nat → Bool) => (List.range 8).foldl (fun a b => a + bit (f b) b) 0
  fields 12 [(0, 1, s.env.trayStatus), (1, 1, s.sys.tray), (2, 1, s.sys.plane), (3, 1, bits (psuPresent s)),
    (4, 1, bits fun b => psuPresent s b && (psuOf s b).cstatus == 0),
    (5, 1, bit s.set.env.locate 0 + bit (s.env.cleanAddr != 0) 1 + bit s.env.pins.leak 2), (8, 4, s.env.shelfId)]

end Sys2Proof.Machine
end

