-- ==== Sys2Proof/Machine/Figures.lean ====
section
/-! DEFINITION. Figures that queries and operations share, taken from the state and changing nothing: cell pools, queues,
groups and their shapes, baskets in use, updraft blocks. -/

set_option Elab.async false

namespace Sys2Proof.Machine

/-- Bits `[hi:lo]` of a number. -/
def bitsAt (x hi lo : Nat) : Nat := (x >>> lo) % 2 ^ (hi + 1 - lo)
def cellsOf (f : Frame) : Nat := (f.len + 255) / 256
def creditsOf (f : Frame) : Nat := (f.len + 63) / 64
/-- Virtual channels of a lane-port's role (R90). -/
def vcCount (l : Nat) : Nat := if isScaleOut (lpLoc l) then 16 else 8
def vcClass (l vc : Nat) : Nat := if isScaleOut (lpLoc l) then vc / 2 else vc

def cellTotal : Nat := 524288
def cellDflt : Cell := ⟨false, 0, true, false⟩
def z8 : List Nat := List.replicate 8 0
def dieDflt : Die where
  clockOn := true
  cells := []
  rrPtr := 0
  poolOcc := z8
  poolFull := List.replicate 8 false
  level := z8
  egressUsed := 0
  waits := []
  roundRefuse := 0
  w3Entries := 0
  cutThrough := 0
  storeFwd := 0
  cellCrc := 0
  stomped := 0
  parity := 0
  doubleFree := 0
  retired := 0
  partialDiscard := 0
  launch := []
  landing := []
  store := []
  flight := []
  transitDrop := 0
  peakLvl := z8
  badEntries := []
def dieSt (s : State) (d : Nat) : Die := mget dieDflt s.core.dies d
def inc32 (n : Nat) : Nat := sat 32 (n + 1)
/-- Table 4-9's default allocation of a VC. -/
def credDflt (l vc : Nat) : Nat :=
  let loc := lpLoc l
  let c := vcClass l vc
  if isScaleOut loc then [64, 128, 512, 1024, 1024, 2048, 2048, 256].getD c 0
  else if loc = 30 then [64, 128, 512, 1024, 512, 1024, 1024, 4096].getD c 0
  else [64, 128, 512, 2048, 1024, 2048, 2048, 0].getD c 0
/-- The allocation of a VC of a port's lane-ports. -/
def credAlloc (s : State) (l vc : Nat) : Nat :=
  if vcCount l ≤ vc then 0
  else match mfind (portOf s (lpPort l)).cred 0 with
    | some vs => vs.getD vc 0
    | none => credDflt l vc
/-- Cells that one enabled lane-port reserves. -/
def lpReserve (s : State) (l : Nat) : Nat :=
  if lpLoc l = 31 then 2048
  else (List.range (vcCount l)).foldl (fun a v =>
    a + (if vcClass l v = 1 then credAlloc s l v else (credAlloc s l v + 3) / 4)) 0
/-- Cells reserved on a die by its enabled ports. -/
def reservedCells (s : State) (d : Nat) : Nat :=
  ((List.range 32).filter fun p => (portOf s (32 * d + p)).admin).foldl
    (fun a p => a + (portLps s (32 * d + p)).foldl (fun b l => b + lpReserve s l) 0) 0
/-- Pool settings at their defaults (Table 5-4, R115, R111). -/
def poolDflt : PoolCfg := ⟨[2, 0, 10, 20, 10, 30, 20, 8], 50, 75, 90, 2, 32768⟩
def poolCfg (s : State) (d : Nat) : PoolCfg := mget poolDflt s.set.pools d
def sharedCells (s : State) (d : Nat) : Nat := cellTotal - reservedCells s d - (poolCfg s d).egress
def poolSize (s : State) (d c : Nat) : Nat := sharedCells s d * (poolCfg s d).share.getD c 0 / 100
def poolOcc (s : State) (d c : Nat) : Nat := (dieSt s d).poolOcc.getD c 0
/-- Quarters that a pool can still take. -/
def poolRoom (s : State) (d c : Nat) : Nat := 4 * poolSize s d c - poolOcc s d c
/-- R114 against a candidate state: the shared region's floor, and a pool smaller than its occupancy. -/
def overcommit (s : State) (d : Nat) : Bool := cellTotal < reservedCells s d + (poolCfg s d).egress + 65536
def poolInUse (s : State) (d : Nat) : Bool := (List.range 8).any fun c => 4 * poolSize s d c < poolOcc s d c
/-- The level that `QOS.POOLQUERY` reports. -/
def levelOf (s : State) (d c : Nat) : Nat :=
  if (dieSt s d).poolFull.getD c false then 4 else (dieSt s d).level.getD c 0
/-- Has the pool stopped the die's own sources (Table 5-5)? A pool at level 4 that holds nothing has nothing to release,
and stops no frame that fits it (assumption 79). -/
def sourcesStop (s : State) (d c : Nat) : Bool :=
  3 ≤ levelOf s d c && !((dieSt s d).poolFull.getD c false && poolOcc s d c == 0)

def leafNo (l c p : Nat) : Nat := 1024 * l + 128 * c + p
def leafQ (s : State) (q : Nat) : List QEnt := mget [] s.core.leaf q
def consQ (s : State) (k : Nat) : List QEnt := mget [] s.core.cons k
/-- Speed of a lane-port in Mb/s. -/
def lpSpeed (s : State) (l : Nat) : Nat := 200000 * (lpLanes s l).length
/-- The frames queued on a lane-port's leaf queues, by leaf queue. -/
def lpQueues (s : State) (l : Nat) : Map (List QEnt) := s.core.leaf.filter fun e => e.1 / 1024 == l
def polCfg (s : State) (l c : Nat) : PolCfg := mget ⟨false, 0, 0, 0, 0, 0, 0⟩ s.set.qos.police (8 * l + c)
def polDflt : PolState := ⟨0, 0, 0, 0, 0, 0, 0⟩

/-- Default content of a spread table (R142). -/
def spreadDflt (n dirn i : Nat) : Nat := 32 * (i % n) + (18 + 3 * dirn) + (i / n) % 3
def spreadEntry (s : State) (b : Bank) (dirn i : Nat) : Nat :=
  mget (spreadDflt s.id.n dirn i) b.spread (64 * dirn + i)
def queueDepth (s : State) (q : Nat) : Nat := (leafQ s q).foldl (fun a e => a + e.cells.length) 0
def qstatDflt : QStat := ⟨0, 0, 0⟩

/-- One number per basket place: `basketSlice`'s key. -/
def basketKey : Basket → Nat
  | .page d t p => 1024 * d + 32 * t + p
  | .hbm d k => 0x100000 * (d + 1) + k
def basketDie : Basket → Nat
  | .page d _ _ => d
  | .hbm d _ => d

def treeNone : TreeCfg := ⟨0, 0, 0, 0, 0, 0⟩
def groupCfgDflt : GroupCfg := ⟨0, 0, 0, 0, 0, 0, 0, 0, 0, 0, 0, 0, 0, treeNone, treeNone, []⟩
def gcfg (s : State) (g : Nat) : GroupCfg := (mfind s.set.groups g).getD groupCfgDflt
def latchDflt : NanLatch := ⟨false, false, false, 0, 0, 0, 0, 0, 0, 0, 0⟩
def groupDflt : Group := ⟨0, 0, [], [], latchDflt, 0, 0, 0, 0, 0, 0, 0, 0⟩
def groupOf (s : State) (g : Nat) : Group := mget groupDflt s.tile.groups g
/-- `GSTATE` (Table 9-12). -/
def groupSt (s : State) (g : Nat) : Nat :=
  if mhas s.tile.groups g then (groupOf s g).st else if mhas s.set.groups g then 1 else 0
def seqOf (s : State) (g seq : Nat) : Option Sequence :=
  match mfind (groupOf s g).seqs (seq % 256) with
  | some (n, q) => if n = seq then some q else none
  | none => none
def seqOpen (s : State) (g seq : Nat) : Bool := match seqOf s g seq with | some q => q.dstate == 1 | none => false
def chunkDflt : Chunk := ⟨0, 0, none, [], 0, [], [], [], [], none, [], [], [], [], [], [], false, false, false, false⟩
def chunkIn (q : Sequence) (c : Nat) : Chunk := mget chunkDflt q.chunks c
def chunkOf (s : State) (g seq c : Nat) : Chunk := match seqOf s g seq with | some q => chunkIn q c | none => chunkDflt
def treeOf (k : GroupCfg) (j : Nat) : TreeCfg := if j = 0 then k.tree0 else k.tree1
def roots (k : GroupCfg) (j : Nat) : Bool := (treeOf k j).parent == 0
def groupSlice (s : State) (g : Nat) : Nat := (bindOf s 4 g).slice
def depthOf (k : GroupCfg) : Nat := if k.depth = 0 then 4 else k.depth
/-- Children in a tree: coordinate and generation, with their source numbers. -/
def childrenOf (k : GroupCfg) (j : Nat) : List (Nat × Nat × Nat) :=
  let t := treeOf k j
  (if t.child0 = 0 then [] else [(t.child0, t.child0Gen, k.entries.length)]) ++
    (if t.child1 = 0 then [] else [(t.child1, t.child1Gen, k.entries.length + 1)])
/-- Tree neighbours: parent, then children. -/
def neighbours (k : GroupCfg) (j : Nat) : List (Nat × Nat) :=
  let t := treeOf k j
  (if t.parent = 0 then [] else [(t.parent, t.parentGen)]) ++ (childrenOf k j).map fun c => (c.1, c.2.1)
/-- Operations that combine inputs; ALL_GATHER, BROADCAST and BARRIER reduce nothing. -/
def opReduces (op : Nat) : Bool := op == 0 || op == 1 || op == 2 || op == 6
/-- The operator in force: ignored by what reduces nothing. -/
def operOf (q : Sequence) : Nat := if opReduces q.op then q.oper else 0
/-- Piece size P. -/
def pieceElems (nc oper : Nat) : Nat :=
  let f := ncFmt nc
  if operIsLoc oper then 4096 / (if f = 9 then 16 else 8)
  else if fmtIsMx f then 4096 / mxGroupBytes f * 256
  else 32768 / fmtWidth f
/-- Pieces per chunk n. -/
def chunkPieces (mode : Nat) (q : Sequence) : Nat :=
  if opReduces q.op then max 1 (min 16 (basketElems mode q.numctl (operOf q) / pieceElems q.numctl (operOf q))) else 1
/-- Chunk size C. -/
def chunkElems (mode : Nat) (q : Sequence) : Nat :=
  let p := pieceElems q.numctl (operOf q)
  if opReduces q.op then min (basketElems mode q.numctl (operOf q)) (chunkPieces mode q * p) else p
/-- Elements in all: M blocks for REDUCE_SCATTER. -/
def seqElems (k : GroupCfg) (q : Sequence) : Nat := if q.op = 2 then k.members * q.count else q.count
def chunkCount (k : GroupCfg) (q : Sequence) : Nat := (seqElems k q + chunkElems k.mode q - 1) / chunkElems k.mode q
def chunkLen (k : GroupCfg) (q : Sequence) (c : Nat) : Nat := min (chunkElems k.mode q) (seqElems k q - c * chunkElems k.mode q)
def piecesIn (k : GroupCfg) (q : Sequence) (c : Nat) : Nat :=
  let p := pieceElems q.numctl (operOf q)
  (chunkLen k q c + p - 1) / p
def pieceLen (k : GroupCfg) (q : Sequence) (c pc : Nat) : Nat :=
  let p := pieceElems q.numctl (operOf q)
  min p (chunkLen k q c - pc * p)
/-- Bytes of an input piece. -/
def inputBytes (k : GroupCfg) (q : Sequence) (c pc : Nat) : Nat := payloadBytes (ncFmt q.numctl) (operOf q) (pieceLen k q c pc)
def subsFor (bytes : Nat) : Nat := max 1 ((bytes + 4095) / 4096)
/-- Sub-frames of a partial of a piece. -/
def partialSubs (k : GroupCfg) (q : Sequence) (c pc : Nat) : Nat :=
  subsFor (pieceLen k q c pc * partialBytes k.mode q.numctl (operOf q))
/-- Bytes of a result piece. -/
def resultBytes (k : GroupCfg) (q : Sequence) (c pc : Nat) : Nat :=
  let n := pieceLen k q c pc
  if operIsLoc (operOf q) then payloadBytes (ncFmt q.numctl) (operOf q) n
  else if outFmt q.numctl = 16 then 8 * n else payloadBytes (outFmt q.numctl) 0 n
/-- Does a block of REDUCE_SCATTER hold whole chunks? -/
def blocksWhole (k : GroupCfg) (q : Sequence) : Bool := q.op != 2 || q.count % chunkElems k.mode q == 0
/-- A payload of 64 bytes or less per member. -/
def smallPayload (q : Sequence) : Bool := payloadBytes (ncFmt q.numctl) (operOf q) q.count ≤ 64
/-- Chunks that pass through from the start (R233), and those of operations without a basket. -/
def passesFromStart (k : GroupCfg) (q : Sequence) : Bool :=
  !opReduces q.op || (k.gflags.testBit 0 && q.op != 6 && !smallPayload q)
/-- Is the sequence an update step at a root of the chunk's tree? -/
def updAt (k : GroupCfg) (q : Sequence) (c : Nat) : Bool := q.op == 6 && roots k (c % 2)
def maskDies (s : State) (k : GroupCfg) : List Nat := (dies s).filter fun d => k.dieMask.testBit d
/-- A usable die of the mask: the wanted one, else the next after it. -/
def nextUsable (s : State) (ds : List Nat) (d : Nat) : Option Nat :=
  ((ds.filter (d ≤ ·)) ++ ds.filter (· < d)).find? (dieUsable s)
/-- Ordinal of a chunk among those that a root owns (R272). -/
def ordinalOf (k : GroupCfg) (c : Nat) : Nat := if roots k 0 && roots k 1 then c else c / 2
/-- The home that R225, or R272 at the root of an update step, gives a chunk. -/
def homeOf (s : State) (k : GroupCfg) (q : Sequence) (seq c : Nat) : Nat :=
  if updAt k q c then (maskDies s k).getD (ordinalOf k c % max 1 (maskDies s k).length) 0
  else
    let ds := (maskDies s k).filter (dieUsable s)
    ds.getD ((seq + c) % max 1 ds.length) ((maskDies s k).headD 0)
/-- Every chunk that the module holds: group and chunk. -/
def heldChunks (s : State) : List (Nat × Chunk) :=
  s.tile.groups.flatMap fun e => e.2.seqs.flatMap fun x => x.2.2.chunks.map fun c => (e.1, c.2)
def basketsOf (ch : Chunk) : List Basket := ch.basket.toList ++ ch.stages
def isPageOn (d : Nat) : Basket → Bool
  | .page d' _ _ => d' == d
  | .hbm _ _ => false
def isBlockOn (d : Nat) : Basket → Bool
  | .page _ _ _ => false
  | .hbm d' _ => d' == d
def countWhere {α : Type} (l : List α) (p : α → Bool) : Nat := (l.filter p).length
/-- Baskets of a kind on a die held by a group. -/
def heldBy (s : State) (p : Basket → Bool) (g : Nat) : Nat :=
  (heldChunks s).foldl (fun a e => if e.1 = g then a + countWhere (basketsOf e.2) p else a) 0
/-- Staging in MiB on a die held by a group. -/
def stagedBy (s : State) (d g : Nat) : Nat :=
  (heldChunks s).foldl (fun a e => if e.1 = g ∧ e.2.basket.elim false (fun b => basketDie b == d) then a + e.2.stageMiB else a) 0
def enabledGroups (s : State) : List Nat := (s.tile.groups.filter fun e => e.2.st == 2 || e.2.st == 3).map (·.1)
/-- What the groups reserve or hold on a die, each the larger of its quota and its use, `n` more for group `g`. -/
def promised (s : State) (d g n : Nat) (quota : GroupCfg → Nat) (use : Nat → Nat) : Nat :=
  (enabledGroups s).foldl (fun a h =>
    let q := if (gcfg s h).dieMask.testBit d then quota (gcfg s h) else 0
    a + max q (use h + (if h = g then n else 0))) 0
def usableTiles (s : State) (d : Nat) : List Nat := ((List.range 32).map (32 * d + ·)).filter (tileUsable s)
def pagesTotal (s : State) (d : Nat) : Nat := 32 * (usableTiles s d).length
def blocksTotal (s : State) : Nat := 16384 * s.set.plan.basketGib
def stageTotal (s : State) : Nat := 1024 * s.set.plan.stageGib
def basketUsed (s : State) (b : Basket) : Bool := (heldChunks s).any fun e => (basketsOf e.2).contains b
/-- Free pages of a tile: none held, none awaiting a rewrite after a parity detection (Table 8-11). -/
def freePages (s : State) (t : Nat) : List Nat :=
  (List.range 32).filter fun p => !(tileOf s t).badPages.contains p && !basketUsed s (.page (t / 32) (t % 32) p)
def bindsOf (s : State) (g : Nat) : List (Nat × UpdBind) := s.set.updBinds.filter fun e => e.2.group == g
def rd (bs : List Byte) (hi lo : Nat) : Nat := bitsAt (leNat bs) hi lo
/-- `STEP` and `BIND` of an update block (Table 11-6). -/
def updStep (q : Sequence) : Nat := rd q.update 511 448
def updBindOf (s : State) (q : Sequence) : Option UpdBind := mfind s.set.updBinds (rd q.update 447 432)
/-- State bytes per element of a program. -/
def progState (s : State) (p : Nat) : Nat :=
  match p with
  | 1 => 4 | 2 => 8 | 3 => 12 | _ => (mfind s.tile.progs p).elim 0 (·.stateB)
/-- Staging pages W of an update chunk (R275). -/
def stagePagesFor (s : State) (k : GroupCfg) (q : Sequence) : Nat :=
  match updBindOf s q with
  | some b => (chunkElems k.mode q * progState s b.prog + 65535) / 65536
  | none => 0
/-- The chunk number that stands for the first claim of a sequence. -/
def firstClaim : Nat := 0x1000000
/-- The latch record (Table 8-8). -/
def latchBytes (g : Nat) (l : NanLatch) : List Byte :=
  if l.valid then
    fields 32 [(0, 1, 1 + bit l.trapped 1 + bit l.more 2), (1, 1, l.origin), (2, 2, l.opcode), (4, 2, g), (6, 2, l.member),
      (8, 4, l.seq), (0xC, 2, l.tile), (0xE, 2, l.numctl), (0x10, 4, l.element), (0x18, 8, l.ft)]
  else fields 32 []

/-- Has a source delivered every piece of its share? Local member entry i, or a child of a tree. -/
def deliveredAll (k : GroupCfg) (q : Sequence) (src member : Nat) (cs : List Nat) : Bool :=
  cs.all fun c =>
    let h := chunkIn q c
    (List.range (piecesIn k q c)).all fun pc =>
      h.bits.contains (src * 16 + pc) || h.relayed.contains (member * 16 + pc) || (h.finished && opReduces q.op && !h.passed)
/-- Missing local members (by entry), and missing children as bits: tree 0 child 0, 1, tree 1 child 0, 1 (`GROUP.MISSING`). -/
def missingOf (k : GroupCfg) (q : Sequence) : List Nat × Nat :=
  let cs := List.range (chunkCount k q)
  let miss := ((k.entries.zipIdx).filter fun e =>
    !(q.op == 4 && e.1.1 != q.root) && !deliveredAll k q e.2 e.1.1 cs).map (·.2)
  let kid := fun (j i : Nat) => (childrenOf k j).any fun x =>
    x.2.2 == k.entries.length + i && !deliveredAll k q x.2.2 0x10000 (cs.filter fun c => c % 2 == j)
  (miss, bit (kid 0 0) 0 + bit (kid 0 1) 1 + bit (kid 1 0) 2 + bit (kid 1 1) 3)
/-- `LOCAL_IN` (Table 9-3). -/
def localIn (k : GroupCfg) (q : Sequence) : Nat :=
  if q.dstate = 2 then k.entries.length else k.entries.length - (missingOf k q).1.length
def popcount (n : Nat) : Nat := countWhere (List.range 8) n.testBit

def updDflt : UpdCfg := ⟨64, 1, 0, 0, [0, 0, 0, 0], [(0, 0), (0, 0), (0, 0), (0, 0)]⟩
def updCfg (s : State) (g : Nat) : UpdCfg := mget updDflt s.set.upd g
/-- Body blocks of a context: P bytes and E elements per member. -/
def bodyBlocks (k : GroupCfg) (u : UpdCfg) (nc oper p e : Nat) : Nat :=
  let q := if k.mode = 2 then 64 * e else partialBytes k.mode nc oper * e
  (if k.mode = 1 then (k.entries.length * p + 255) / 256 else 0) + (if k.mode = 2 then (e * 64 + 255) / 256 else 0) +
    ((u.peersA + u.peersB) * q + 255) / 256
/-- Elements in a payload of `UPD_MAX` bytes. -/
def elemsIn (nc bytes : Nat) : Nat := bytes * 8 / fmtWidth (ncFmt nc)
/-- Blocks that a group reserves on each die of its mask. -/
def reservedBlocks (k : GroupCfg) (u : UpdCfg) : Nat :=
  u.updCtx * (1 + bodyBlocks k u k.numctl 0 u.updMax (elemsIn k.numctl u.updMax))
def blocksReserved (s : State) (d : Nat) : Nat :=
  (enabledGroups s).foldl (fun a g => if (gcfg s g).dieMask.testBit d then a + reservedBlocks (gcfg s g) (updCfg s g) else a) 0
/-- Blocks on a die that contexts outside the reservations hold. -/
def blocksLoose (s : State) (d : Nat) : Nat :=
  (s.tile.ctxs.filter fun c => c.draw == .free && (gcfg s c.group).dieMask.testBit d).foldl
    (fun a c => a + 1 + (if c.home = d then c.body else 0)) 0

end Sys2Proof.Machine
end

