-- ==== Sys2Proof/Machine/QueriesB.lean ====
section
/-! DEFINITION. Results of the query commands of chapters 04 to 11, as bytes. -/

set_option Elab.async false

namespace Sys2Proof.Machine

/-! ### Chapters 04 to 07 -/

/-- `PORT.LSTATS` (Table 4-14). -/
def qLstats (s : State) (l : Nat) : List Byte :=
  if lpLoc l = 31 then fields 32 [(0x1C, 4, mget 0 s.net.ethFlushed (lpPort l))]
  else
    let k := linkOf s l
    fields 32 [(0, 4, k.lcrcErr), (4, 4, k.nakTx), (8, 4, k.nakRx), (12, 4, k.replays), (16, 4, k.dup), (20, 4, k.protoErr),
      (24, 4, k.retrains), (28, 4, k.flushed)]
/-- `QOS.POOLQUERY` (Table 5-8). -/
def qPool (s : State) (d : Nat) : List Byte :=
  let x := dieSt s d
  let used := countWhere x.cells fun c => c.2.used
  fields 96 ([(0, 4, cellTotal - used), (4, 4, reservedCells s d), (8, 4, sharedCells s d), (12, 4, x.egressUsed),
    (0x38, 4, x.roundRefuse), (0x3C, 4, x.w3Entries), (0x40, 4, x.cutThrough), (0x44, 4, x.storeFwd), (0x48, 4, x.cellCrc),
    (0x4C, 4, x.stomped), (0x50, 4, x.parity), (0x54, 4, x.doubleFree), (0x58, 4, x.retired), (0x5C, 4, x.partialDiscard)] ++
    (List.range 8).map (fun c => (0x10 + 4 * c, 4, poolOcc s d c)) ++
    (List.range 8).map (fun c => (0x30 + c, 1, levelOf s d c)))
/-- The seven geometry fields of a bank, in `ROUTE.WRITE` order. -/
def bankGeo (b : Bank) : List Nat := [b.ownA, b.ownB, b.sizeA, b.sizeB, b.dateA, b.dateB, b.hopLimit]
/-- Direction entries of a bank as 32 bits. -/
def bankDirs (b : Bank) (dim : Nat) : Nat :=
  (List.range 16).foldl (fun a x => a + (mget 0 (if dim = 0 then b.dirA else b.dirB) x <<< (2 * x))) 0
/-- `ROUTE.QUERY` (Table 6-11). -/
def qRoute (s : State) (bank sec sub : Nat) : List Byte :=
  let b := if bank = 0 then s.set.active else s.set.shadow
  match sec with
  | 0 =>
    fields 28 ([(0, 1, bit s.core.held 0 + bit (s.set.active != s.set.shadow) 1), (12, 4, s.core.commits),
      (16, 4, s.core.hopDiscard), (20, 4, s.core.unreachable), (24, 4, s.net.misroutes)] ++
      (bankGeo b).zipIdx.map fun e => (2 + e.2, 1, e.1))
  | 1 => leBytes 4 (bankDirs b sub)
  | _ => (List.range 48).map fun i => BitVec.ofNat 8 (spreadEntry s b sub i)
/-- An unlisted spar: up (R137). -/
def sparDflt : Spar := ⟨1, [], 0, 0, 0, 0⟩
/-- The spar from die `d` to die `y`. -/
def sparOf (s : State) (d y : Nat) : Spar := mget sparDflt s.core.spars (8 * d + y)
def sparState (s : State) (d y : Nat) : Nat :=
  if d = y || !dieFitted s y then 0
  else if (sparOf s d y).st ≠ 1 ∨ !dieUsable s d ∨ !dieUsable s y then 2 else if (dieSt s y).clockOn then 1 else 3
/-- `ROUTE.SPARSTATS` (Table 6-10). -/
def qSpars (s : State) (d : Nat) : List Byte :=
  fields 136 ((List.range 8).flatMap (fun y =>
    let p := sparOf s d y
    [(16 * y, 4, p.sent), (16 * y + 4, 4, p.deflected), (16 * y + 8, 2, p.hcrcErr), (16 * y + 10, 1, sparState s d y),
      (16 * y + 12, 4, p.underrun)]) ++ [(0x80, 4, (dieSt s d).store.length), (0x84, 4, (dieSt s d).transitDrop)])
/-- `ROUTE.CONGMAP` (Table 6-9). -/
def qCongmap (s : State) : List Byte := sliceBytes s.core.map 0 176
/-- `QOS.QSTATS` (Table 7-5). -/
def qQstats (s : State) (q : Nat) : List Byte :=
  let x := mget qstatDflt s.core.qstat q
  let a := mget ⟨0, []⟩ s.core.sub (q / 128)
  fields 32 [(0, 4, queueDepth s q), (4, 4, ofSigned 32 (mget 0 a.deficits (q % 128))), (8, 8, x.frames), (16, 8, x.bytes),
    (24, 8, x.marked)]
/-- `QOS.PSTATS` (Table 7-4). -/
def qPstats (s : State) (l c : Nat) : List Byte :=
  let p := mget polDflt s.core.pol (8 * l + c)
  fields 32 [(0, 8, p.green), (8, 8, p.yellow), (16, 8, p.red), (24, 8, p.discarded)]
/-- A gate list entry (Table 7-3). -/
def gateEntry (e : Nat × Nat) : List Byte := fields 8 [(0, 4, e.2), (7, 1, e.1)]
/-- `QOS.GATEQUERY` (Table 7-4): without a list the result is empty of entries. -/
def qGate (s : State) (l which : Nat) : List Byte :=
  match mfind (if which = 0 then s.set.qos.gateOp else s.set.qos.gatePend) l with
  | some g => fields 16 [(0, 2, g.entries.length), (8, 8, g.startFt)] ++ g.entries.flatMap gateEntry
  | none => fields 16 []

/-! ### Chapters 08 to 11 -/

/-- Policy and idle time of a tile (R208). -/
def tilePolOf (s : State) (t : Nat) : Nat × Nat := mget (0, 20) s.set.tilePol t
def tileCode : TileState → Nat
  | .gated => 0 | .lifting => 1 | .active => 2 | .fault => 3 | .isolated => 4
/-- `TILE.QUERY` (Table 8-13). -/
def qTile (s : State) (t : Nat) : List Byte :=
  let x := tileOf s t
  let held := countWhere (List.range 32) fun p => basketUsed s (.page (t / 32) (t % 32) p)
  let ms := x.activeMs + (if x.st = .active then (s.mono - x.activeAt) / 1750000 else 0)
  fields 32 [(0, 1, tileCode x.st), (1, 1, if namesTile s t then 2 else (tilePolOf s t).1), (2, 2, (tilePolOf s t).2),
    (4, 1, min 64 x.queue.length), (5, 1, held), (6, 1, tileDuty s t), (8, 4, x.lifts), (12, 4, sat 32 ms), (16, 4, x.parity),
    (20, 4, (bootedSlot s).ucode), (24, 4, x.selftest)]
/-- Is a group in ENABLED or DISABLING? -/
def groupOn (s : State) (g : Nat) : Bool := groupSt s g == 2 || groupSt s g == 3
/-- `GROUP.QUERY` (Table 9-12). -/
def qGroup (s : State) (g : Nat) : List Byte :=
  let x := groupOf s g
  let on := groupOn s g
  fields 48 [(0, 1, groupSt s g), (1, 1, if on then (gcfg s g).slot else 0),
    (2, 2, if on then countWhere x.seqs (fun e => e.2.2.dstate == 1) else 0), (4, 4, x.base),
    (8, 4, if on then heldBy s (fun _ => true) g else 0), (12, 4, x.dup), (16, 4, x.oldEpoch), (20, 4, x.windowDrop),
    (24, 4, x.badMember), (28, 4, x.fallbacks), (32, 4, x.recomputes), (36, 4, x.failed), (40, 8, x.done)]
/-- `GROUP.NANREAD` (Table 8-8, R211). -/
def qLatch (s : State) (g : Nat) : List Byte := if groupOn s g then latchBytes g (groupOf s g).latch else fields 32 []
/-- `GROUP.MISSING` (Table 9-11): of a sequence that has not opened every source is missing, of an ended one none
(assumption 55). -/
def qMissing (s : State) (g seq : Nat) : List Byte :=
  let k := gcfg s g
  let m := match seqOf s g seq with
    | some q => if q.dstate = 1 then missingOf k q else ([], 0)
    | none =>
      let kid := fun (j i : Nat) => (childrenOf k j).any fun x => x.2.2 == k.entries.length + i
      (List.range k.entries.length, bit (kid 0 0) 0 + bit (kid 0 1) 1 + bit (kid 1 0) 2 + bit (kid 1 1) 3)
  leBytes 18 (m.1.foldl (fun a i => a + (1 <<< i)) 0) ++ leBytes 1 m.2
/-- The die that a waiting claim needs a basket on. -/
def claimDie (s : State) (e : Nat × Nat × Nat) : Nat :=
  match seqOf s e.1 e.2.1 with
  | some q => homeOf s (gcfg s e.1) q e.2.1 (if e.2.2 = firstClaim then 0 else e.2.2)
  | none => 0
/-- Quotas that the enabled groups reserve on a die. -/
def quotaSum (s : State) (d : Nat) (quota : GroupCfg → Nat) : Nat :=
  (enabledGroups s).foldl (fun a h => a + (if (gcfg s h).dieMask.testBit d then quota (gcfg s h) else 0)) 0
/-- `GROUP.POOLQUERY` (Table 9-11). -/
def qGroupPool (s : State) (d : Nat) : List Byte :=
  let free := (usableTiles s d).foldl (fun a t => a + (freePages s t).length) 0
  let held := countWhere ((heldChunks s).flatMap fun e => basketsOf e.2) (isBlockOn d)
  let staged := (enabledGroups s).foldl (fun a g => a + stagedBy s d g) 0
  fields 28 [(0, 4, free), (4, 4, quotaSum s d (·.fastQuota)), (8, 4, blocksTotal s - held), (12, 4, quotaSum s d (·.hbmQuota)),
    (16, 4, stageTotal s - staged), (20, 4, countWhere s.tile.claimWait fun e => claimDie s e == d), (24, 4, mget 0 s.tile.lost d)]
/-- `GROUP.UPDQUERY` (Table 10-6). -/
def qUpd (s : State) (d : Nat) : List Byte :=
  let rsv := blocksReserved s d
  let open_ := countWhere s.tile.ctxs fun c => (gcfg s c.group).dieMask.testBit d
  fields 16 [(0, 2, 256 - (rsv + blocksLoose s d)), (2, 2, rsv), (4, 4, open_), (8, 4, mget 0 s.tile.busyRetry d),
    (12, 4, mget 0 s.tile.refills d)]
/-- `TILE.PROGQUERY` (Table 11-10). -/
def qProg (s : State) (p : Nat) : List Byte :=
  match mfind s.tile.progs p with
  | some i => setBytes (fields 56 [(0, 1, 1), (2, 2, i.insns), (4, 1, i.stateB), (5, 1, i.cyc16)]) 0x10
      (sliceBytes i.name 0 32 ++ (beBytes 32 i.digest).take 8)
  | none => fields 56 []
/-- F cycles per 16 elements of a program (Tables 11-4, 11-5). -/
def progCyc (s : State) (p : Nat) : Nat :=
  match p with | 1 => 1 | 2 => 3 | 3 => 7 | _ => (mfind s.tile.progs p).elim 1 (·.cyc16)
/-- The sequence that a binding serves: its group's `NUMCTL`, SUM, `ELEMS` elements. -/
def bindSeq (s : State) (b : UpdBind) : Sequence :=
  ⟨0, 6, 0, (gcfg s b.group).numctl, b.elems, 0, 5, false, 0, 0, 0, 0, 0, [], [], 0, [], [], false, []⟩
/-- Chunks that a binding owns (R272). -/
def ownedChunks (s : State) (b : UpdBind) : Nat :=
  let k := gcfg s b.group
  let n := chunkCount k (bindSeq s b)
  (if roots k 0 then (n + 1) / 2 else 0) + (if roots k 1 then n / 2 else 0)
/-- State bytes per die and side. -/
def bindState (s : State) (b : UpdBind) : Nat :=
  let k := gcfg s b.group
  let ds := max 1 (maskDies s k).length
  (ownedChunks s b + ds - 1) / ds * (chunkElems k.mode (bindSeq s b) * progState s b.prog)
/-- Parameters per second at `CYC16`, on every tile of the group's dies (assumption 54). -/
def bindRate (s : State) (b : UpdBind) : Nat :=
  let k := gcfg s b.group
  let c := chunkElems k.mode (bindSeq s b)
  32 * (maskDies s k).length * c * 1750000000 / (c / 16 * progCyc s b.prog + 64)
/-- `TILE.UPDQUERY` (Table 11-10). -/
def qUpdBind (s : State) (n : Nat) : List Byte :=
  match mfind s.set.updBinds n with
  | none => fields 40 []
  | some b =>
    let busy := (groupOf s b.group).seqs.any fun e => e.2.2.dstate == 1 && e.2.2.op == 6
    fields 40 [(0, 1, if busy then 2 else 1), (1, 1, b.prog), (2, 2, b.group), (8, 8, b.doneStep), (16, 4, ownedChunks s b),
      (20, 4, mget 0 s.tile.reruns n), (24, 8, bindState s b), (32, 8, bindRate s b)]

end Sys2Proof.Machine
end

