-- ==== Sys2Proof/Machine/Queries.lean ====
section
/-! DEFINITION. Snapshot selectors (R456): the 8 bytes that a selector reads, from BAR0 or from a query's result. -/

set_option Elab.async false

namespace Sys2Proof.Machine

/-- The result of a query command for an object formed from one item, where the item forms one (R456). -/
def queryFor (s : State) (opcode item : Nat) : Option (List Byte) :=
  match opcode with
  | 0x0101 => some (capRecord s)
  | 0x0102 => some (qState s)
  | 0x0107 => some (qHost s)
  | 0x0205 => if portFitted s item then some (qPort s item) else none
  | 0x0206 => if item < 128 * s.id.n then some (qLane s item) else none
  | 0x0208 => if portFitted s item && s.id.optics && portLoc item < 30 then some (qOpt s item) else none
  | 0x020C => if lpExists s item then some (qLstats s item) else none
  | 0x0405 => some (qRoute s 0 0 0)
  | 0x0406 => some (qCongmap s)
  | 0x0408 => if dieFitted s item then some (qSpars s item) else none
  | 0x0606 => if lpExists s item then some (qGate s item 0) else none
  | 0x0607 => if lpExists s (item / 1024) then some (qQstats s item) else none
  | 0x0608 => if lpExists s item then some (qPstats s item 0) else none
  | 0x0641 => if dieFitted s item then some (qPool s item) else none
  | 0x0705 => if item < 65536 then some (qGroup s item) else none
  | 0x0706 => if groupSt s item = 2 then some (qMissing s item 0) else none
  | 0x0707 => if dieFitted s item then some (qGroupPool s item) else none
  | 0x0709 => if dieFitted s item then some (qUpd s item) else none
  | 0x0780 => if item < 65536 then some (qLatch s item) else none
  | 0x0803 => if s.id.tiles && 16 ≤ item && item < 24 then some (qProg s item) else none
  | 0x0806 => if s.id.tiles && item < 256 then some (qUpdBind s item) else none
  | 0x0840 => if tileFitted s item then some (qTile s item) else none
  | 0x0906 => some (qSched s)
  | 0x0908 => some (qTime s)
  | 0x0A02 => some (qPlan s)
  | 0x0A09 => some (qList s item)
  | 0x0A0A => some (qSnap s)
  | 0x0B01 => if s.id.flash then some (qHealth s) else none
  | 0x0B04 => if item < flashDies s then some (qBbt s item) else none
  | 0x0C03 => some (qGemel s)
  | 0x0D06 => some (qEnv s)
  | 0x0D08 => if item < 8 then some (qPsu s item) else none
  | 0x0D0B => some (qTray s)
  | 0x0E01 => if srcNames s item then some (qSource s item) else none
  | 0x0F05 => some (qFw s)
  | 0x1001 => (ticketOf s item).map qTicket
  | _ => none

/-- One snapshot word. -/
def snapWord (s : State) (sel item : Nat) : Nat :=
  if sel / 65536 = 0 then bar0Read s (sel % 65536)
  else match queryFor s (sel / 65536) item with
    | some r => rdLe r (sel % 65536) 8
    | none => 0

end Sys2Proof.Machine
end

