-- ==== Sys2Proof/Machine/FrameBits.lean ====
section
/-! DEFINITION. Kite frames as bits (R84 to R87, Tables 4-4, 4-6): headers, trailers, the frames a module builds. Fields
travel most significant byte first (R8). -/

set_option Elab.async false

namespace Sys2Proof.Machine

/-! ### Frames -/

/-- The base header as 192 bits (Table 4-4). -/
def hdrBits (f : Frame) : Nat :=
  (f.dest <<< 160) + (f.src <<< 128) + (f.ver <<< 126) + bit f.ext.isSome 125 + (f.vc <<< 121) + bit f.ce 120 +
    (f.cls <<< 117) + (f.typ <<< 112) + (f.len <<< 99) + (f.slice <<< 87) + (f.gen <<< 71) + (f.seq <<< 59) +
    (f.ack <<< 47) + bit f.ackValid 46 + bit f.nak 45 + (f.hops <<< 40) + f.tag
def extBytes (f : Frame) : List Byte := match f.ext with | some e => beBytes 32 e | none => []
/-- Header, extension and payload. -/
def frameBody (f : Frame) : List Byte := beBytes 24 (hdrBits f) ++ extBytes f ++ f.payload
/-- The link fields zeroed (R87). -/
def clearLink (f : Frame) : Frame :=
  { f with vc := 0, ce := false, seq := 0, ack := 0, ackValid := false, nak := false, hops := 0 }
def ecrcOf (f : Frame) : Nat := crc32 (frameBody (clearLink f))
def lcrcOf (f : Frame) : Nat := crc32c (frameBody f ++ beBytes 4 f.ecrc)
/-- The length a frame really has: header, extension, payload, trailer. -/
def realLen (f : Frame) : Nat := 32 + (extBytes f).length + f.payload.length
def lcrcOk (f : Frame) : Bool := f.lcrc == lcrcOf f
def ecrcOk (f : Frame) : Bool := f.ecrc == ecrcOf f
/-- A payload padded with zeros to a frame of at least 64 bytes and a multiple of 8 (R85). -/
def padTo (head : Nat) (p : List Byte) : List Byte :=
  let n := p.length
  let t := max (64 - head) ((n + head + 7) / 8 * 8 - head)
  p ++ List.replicate (t - n) 0
/-- A frame that the module builds, with its `ECRC`. -/
def mkFrame (dest src cls typ slice gen tag : Nat) (ext : Option Nat) (p : List Byte) : Frame :=
  let pay := padTo (32 + (if ext.isSome then 32 else 0)) p
  let f : Frame := ⟨dest, src, 1, ext, 0, false, cls, typ, 0, slice, gen, 0, 0, false, false, 0, tag, pay, 0, 0⟩
  let f := { f with len := realLen f }
  { f with ecrc := ecrcOf f }

end Sys2Proof.Machine
end

