-- ==== Sys2Proof/Machine/Ops.lean ====
section
/-! DEFINITION. The named operations that every family shares: sending, interrupts, event records (R455 to R458), fault
reports (R446), journaled settings, completions (R381, R389, R398), tickets (R399 to R401), and one F cycle. -/

set_option Elab.async false

namespace Sys2Proof.Machine

/-! ### Sending -/

/-- Sends one thing. -/
def emit (o : Out) (s : State) : State := { s with out := s.out ++ [o] }
/-- Signals an MSI-X vector. -/
def irq (v : Nat) (s : State) : State := emit (.irq v) s
/-- Draws a free value (assumption 3). -/
def draw (s : State) : Nat × State := (Config.freeNat s.freeCtr, { s with freeCtr := s.freeCtr + 1 })

/-! ### Updates of the parts of the state -/

def onSys (f : SysSt → SysSt) (s : State) : State := { s with sys := f s.sys }
def onCmd (f : CmdSt → CmdSt) (s : State) : State := { s with cmd := f s.cmd }
def onHost (f : HostSt → HostSt) (s : State) : State := { s with host := f s.host }
def onFlt (f : FltSt → FltSt) (s : State) : State := { s with flt := f s.flt }
def onEnv (f : EnvSt → EnvSt) (s : State) : State := { s with env := f s.env }
def onNet (f : NetSt → NetSt) (s : State) : State := { s with net := f s.net }
def onCore (f : CoreSt → CoreSt) (s : State) : State := { s with core := f s.core }
def onTile (f : TileSt → TileSt) (s : State) : State := { s with tile := f s.tile }
def onMem (f : MemSt → MemSt) (s : State) : State := { s with mem := f s.mem }
def onTime (f : TimeSt → TimeSt) (s : State) : State := { s with time := f s.time }
def onSched (f : SchedSt → SchedSt) (s : State) : State := { s with sched := f s.sched }
def onSnap (f : SnapSt → SnapSt) (s : State) : State := { s with snap := f s.snap }
def onFlash (f : FlashSt → FlashSt) (s : State) : State := { s with flash := f s.flash }
def onGemel (f : GemelSt → GemelSt) (s : State) : State := { s with gemel := f s.gemel }
/-- Changes a journaled setting: in force, and in the journal. -/
def modSet (f : Settings → Settings) (s : State) : State := { s with set := f s.set, jrn := f s.jrn }
/-- Changes the settings in force alone, and the journal's alone. -/
def onSet (f : Settings → Settings) (s : State) : State := { s with set := f s.set }
def onJrn (f : Settings → Settings) (s : State) : State := { s with jrn := f s.jrn }

def onLane (l : Nat) (f : Lane → Lane) (s : State) : State := onNet (fun n => { n with lanes := mmod laneOff n.lanes l f }) s
def onLink (l : Nat) (f : Link → Link) (s : State) : State := onNet (fun n => { n with links := mmod linkDflt n.links l f }) s
def onPort (p : Nat) (f : PortCfg → PortCfg) (s : State) : State :=
  modSet (fun t => { t with ports := mmod (portDflt p) t.ports p f }) s
def onTileU (t : Nat) (f : Tile → Tile) (s : State) : State := onTile (fun x => { x with tiles := mmod tileDflt x.tiles t f }) s
def onSrc (id : Nat) (f : Source → Source) (s : State) : State := onFlt (fun x => { x with src := mmod srcOk x.src id f }) s
def onRing (r : Nat) (f : Ring → Ring) (s : State) : State := onCmd (fun c => { c with rings := mmod ringDflt c.rings r f }) s

/-- Applies an operation to each of a list of numbers, in order. -/
def forEach {α : Type} (l : List α) (f : α → State → State) (s : State) : State := l.foldl (fun t x => f x t) s
/-- Applies an operation when a condition holds. -/
def whenS (b : Bool) (f : State → State) (s : State) : State := if b then f s else s

/-! ### The event recorder (R455 to R459) -/

def trigDflt : Trigger := ⟨true, false, [], 0⟩
def trigOf (s : State) (code : Nat) : Trigger := mget trigDflt s.set.trig code
/-- The tokens of a code now: 16 at KEEL_UP, one more each 100 ms (R457). -/
def tokensNow (s : State) (code : Nat) : Nat × Nat :=
  let b := mget (16, 0) s.flt.bucket code
  let k := (s.mono - b.2) / cycMs 100
  if 16 ≤ b.1 + k then (16, s.mono) else (b.1 + k, b.2 + k * cycMs 100)
/-- An interrupt condition of vector 65. -/
def evrInt (s : State) : State :=
  let s := onFlt (fun x => { x with intPend := true }) s
  whenS s.flt.intEn (irq 65) s
/-- 8 MiB of recorder SRAM. -/
def evrSize : Nat := 0x800000
/-- Drops a record for want of a token, or while recording is off (R457, Table 21-6). -/
def evrDrop (code : Nat) (s : State) : State :=
  onFlt (fun x => { x with suppressed := sat 32 (x.suppressed + 1), supBy := mmod 0 x.supBy code (fun n => n + 1) }) s
/-- The items of a record as bytes, filled to 40. -/
def detailBytes (items : List (Nat × Nat)) : List Byte := sliceBytes (items.flatMap fun e => leBytes e.1 e.2) 0 40
/-- The bytes of a record (Table 21-5). -/
def recordBytes (s : State) (code src : Nat) (items : List (Nat × Nat)) : List Byte :=
  let t := trigOf s code
  let item := (items.head?.map (·.2)).getD 0
  fields 24 [(0, 2, code), (2, 1, t.sels.length), (3, 1, 0x5A), (4, 4, s.flt.rseq), (8, 8, ftNs s), (0x10, 2, src),
    (0x12, 1, mstCode s.sys.st), (0x13, 1, min 255 (mget 0 s.flt.supBy code)), (0x14, 2, t.tgen)] ++ detailBytes items ++
    t.sels.flatMap fun sel => leBytes 8 (snapWord s sel item)
/-- Where a record of `n` bytes in its slot goes: it never crosses a 4 KiB page. -/
def recordAt (ptr slot : Nat) : Nat := if ptr % 4096 + slot > 4096 then (ptr / 4096 + 1) * 4096 else ptr
/-- Writes a record that has its token, or stops the recorder (R458). -/
def evrWrite (code src : Nat) (items : List (Nat × Nat)) (s : State) : State :=
  let bs := recordBytes s code src items
  let slot := (bs.length + 63) / 64 * 64
  let at_ := recordAt s.flt.wrPtr slot
  if s.flt.full then onFlt (fun x => { x with lost := sat 32 (x.lost + 1) }) s
  else if evrSize < at_ + slot then
    evrInt (onFlt (fun x => { x with full := true, lost := sat 32 (x.lost + 1) }) s)
  else
    let thr := evrSize * s.flt.fillThr / 100
    let hit := s.flt.wrPtr < thr && thr ≤ at_ + slot
    let s' := onFlt (fun x => { x with
      sram := memWrite x.sram at_ bs, wrPtr := at_ + slot, rseq := (x.rseq + 1) % 2 ^ 32,
      supBy := mset 0 x.supBy code 0 }) s
    whenS ((trigOf s code).int || hit) evrInt s'
/-- Records an event: its code, its fault source or 0xFFFF, and the items its chapter names, each with its width in
bytes. Nothing is recorded while the keel die is lost. -/
def recordSrc (code src : Nat) (items : List (Nat × Nat)) (s : State) : State :=
  if s.sys.keelLost then s
  else if !(trigOf s code).record then s
  else if !s.flt.enable then evrDrop code s
  else
    let tk := tokensNow s code
    if tk.1 = 0 then evrDrop code s
    else evrWrite code src items (onFlt (fun x => { x with bucket := mput x.bucket code (tk.1 - 1, tk.2) }) s)
def record (code : Nat) (items : List (Nat × Nat)) (s : State) : State := recordSrc code 0xFFFF items s
/-- Restarts the recorder (R458). -/
def evrRestart (s : State) : State :=
  let lost := s.flt.lost
  let sup := s.flt.suppressed
  let s := onFlt (fun x => { x with sram := [], wrPtr := 0, rseq := 0, full := false, lost := 0, suppressed := 0 }) s
  record 0x0EC5 [(4, lost), (4, sup)] s

/-! ### Fault reports (R446) -/

/-- A detection reported to the collector, which takes it with its next batch (R452). A sail die without its keel die
sends the report to the twin instead (R454). -/
def report (src kind : Nat) (s : State) : State :=
  if s.sys.keelLost then emit (.block (moorLp 0) 0xF (src * 256 + kind)) s
  else onFlt (fun x => { x with pend := x.pend ++ [(ftNs s, src, kind)] }) s

/-! ### Envelope events (Table 22-6) -/

/-- Sets a bit of `ENV_EVENTS`, signalling vector 66 when it is enabled (R487). -/
def envEvent (b : Nat) (s : State) : State :=
  let s := onEnv (fun e => { e with events := e.events ||| (1 <<< b) }) s
  whenS (s.env.intEn.testBit b) (irq 66) s

/-- Scheduled ballast, which the free ballast gives way to (R471). -/
def setBallast (w : Nat) (s : State) : State :=
  onEnv (fun e => { e with schedBallast := w, freeBallast := min e.freeBallast (400 - w) }) s
/-- A cap that lies below the scheduled floor (R467): `CAP_MISSED` with cause FLOOR. -/
def floorMissed (s : State) : State :=
  record 0x0DC2 [(2, softCap s), (2, s.env.pin), (1, 1)] (envEvent 1 s)

/-! ### The journal (R365, R366, R394) -/

/-- The lowest-numbered mooring lane-port whose link is UP (R361). -/
def mirrorLp (s : State) : Option Nat := (moorUp s).head?.map moorLp
/-- Does the module mirror its entries now? -/
def mirroring (s : State) : Bool :=
  match s.gemel.st with | .syncing => true | .paired => true | _ => false
/-- Must an entry be acknowledged by the twin before the module acts on it (R366)? -/
def mustAck (s : State) : Bool := s.gemel.st == .paired || (s.gemel.st == .syncing && s.gemel.syncTx)
/-- Writes a journal entry and mirrors it. -/
def journalE (e : JEntry) (s : State) : State :=
  let fresh := s.gemel.acked = s.cmd.jseq
  let s := onCmd (fun c => { c with jseq := c.jseq + 1 }) s
  match mirroring s, mirrorLp s with
  | true, some lp => emit (.entry lp s.cmd.jseq e) (whenS fresh (onGemel fun g => { g with ackAt := s.mono }) s)
  | _, _ => s
/-- An entry that the module writes of its own accord (bindings, `DONE_STEP`, acknowledgements, ticket states). -/
def ownEntry (tag : Nat) (param : List Byte) : JEntry :=
  ⟨⟨.host, 0xFFFF⟩, tag, 0xFFFF, param, [], ⟨0, 0xFFFF, .done, false, 0, 0, 0, 0, false⟩⟩
def journalOwn (tag : Nat) (param : List Byte) (s : State) : State := journalE (ownEntry tag param) s

/-! ### Completions -/

def stCode : CStatus → Nat
  | .done => 0 | .accepted => 1 | .refused => 2 | .failed => 3 | .cancelled => 4
/-- The 32 bytes of a completion (Table 17-6). -/
def cplBytes (c : Cpl) : List Byte :=
  fields 32 [(0, 8, c.cmdId), (8, 2, c.opcode), (10, 1, stCode c.status + bit c.final 3 + bit c.phase 7), (12, 2, c.reason),
    (14, 2, c.sqHead), (16, 4, c.ticket), (20, 4, c.rlen)]
/-- The body of a message cut into segments of `first`, then 976 bytes. -/
def segments (first : Nat) (bs : List Byte) : List (List Byte) := bs.take first :: chunksOf 976 (bs.drop first)
/-- A capsule's bytes before its `MAC` (Table 17-3). -/
def capHead (kind sess bodyLen seg nseg cseq : Nat) : List Byte :=
  fields 16 [(0, 1, kind), (1, 1, sess), (2, 2, bodyLen), (4, 2, seg), (6, 2, nseg), (8, 8, cseq)]
def capBytes (key : List Byte) (kind sess seg nseg cseq : Nat) (body : List Byte) : List Byte :=
  let m := capHead kind sess body.length seg nseg cseq ++ body
  m ++ hmac key m
/-- The capsules of a message that the module sends. -/
def capsOf (key : List Byte) (kind sess seq : Nat) (segs : List (List Byte)) : List (List Byte) :=
  (segs.zipIdx).map fun e => capBytes key kind sess e.2 segs.length (seq + 1 + e.2) e.1

/-- Where a FABRIC peer takes its capsules: coordinate in the low 32 bits, `REPLY_OFF` above. -/
def capsuleFrame (s : State) (dst : Nat) (b : List Byte) : Frame :=
  mkFrame (dst % 2 ^ 32) (ownCoord s 0xF0) 0 9 0 0 0 (some (((dst / 2 ^ 32) <<< 208) + (b.length <<< 195))) b
/-- Sends a capsule: a datagram on MGMT, on FABRIC a `MGT` frame from the lowest usable die (R383). -/
def sendCapsule (xp sess dst : Nat) (b : List Byte) (s : State) : State :=
  if xp = 1 then emit (.capsule xp sess dst b) s
  else
    let d := ((dies s).find? (dieUsable s)).getD 0
    onCore (fun c => { c with
      dies := mmod dieDflt c.dies d fun x => { x with waits := x.waits ++ [⟨capsuleFrame s dst b, none, 0, []⟩] } }) s

/-- Is the ring enabled, or the session open? -/
def ringServes (s : State) (r : RingId) : Bool :=
  match r.xport with
  | .host => (ringOf s r.ring).rstate == .enabled
  | _ => match sessOf s r with | some q => q.openS | none => false

/-- Writes a completion into a host ring's completion queue and signals its interrupt (R381). -/
def postHost (r : Nat) (c : Cpl) (s : State) : State :=
  let g := ringOf s r
  let s := emit (.cpl ⟨.host, r⟩ { c with phase := g.phase } []) s
  let s := emit (.hostWrite (g.cqBase + 32 * g.cqTail) (cplBytes { c with phase := g.phase })) s
  let nxt := (g.cqTail + 1) % 2 ^ g.entLog2
  let s := onRing r (fun g => { g with cqTail := nxt, phase := if nxt = 0 then !g.phase else g.phase }) s
  irq g.msix s

/-- Sends a REPLY on a session and keeps it with its command's sequence numbers (R385, R386). -/
def postSess (r : RingId) (c : Cpl) (result : List Byte) (cseqs : List Nat) (s : State) : State :=
  match sessOf s r with
  | none => s
  | some q =>
    let x := xpCode r.xport
    let segs := segments 976 (cplBytes { c with phase := false, sqHead := 0 } ++ result)
    let caps := capsOf q.modKey 4 r.ring q.txSeq segs
    let s := emit (.cpl r { c with phase := false, sqHead := 0 } result) s
    let q' : Session := { q with
      txSeq := q.txSeq + caps.length, replies := if cseqs.isEmpty then q.replies else (cseqs, caps) :: q.replies.take 63 }
    let s := onCmd (fun k => { k with sessions := mput k.sessions (sessKey x r.ring) q' }) s
    forEach caps (fun b => sendCapsule x r.ring q.replyTo b) s

/-- Posts a completion with its result to a ring or session; one whose client has none is owed (R398). `dst` is the host
address the result goes to. -/
def post (r : RingId) (client : Client) (c : Cpl) (result : List Byte) (dst : Nat) (cseqs : List Nat) (s : State) : State :=
  if ringServes s r && clientOf s r == client then
    match r.xport with
    | .host => postHost r.ring c (whenS (!result.isEmpty) (emit (.hostWrite dst result)) s)
    | _ => postSess r c result cseqs s
  else onCmd (fun k => { k with owed := k.owed ++ [(client, c)] }) s

/-- Posts what is owed to a client on its ring, in order (R398). -/
def postOwed (r : RingId) (s : State) : State :=
  let c := clientOf s r
  let l := owedTo s c
  let s := onCmd (fun k => { k with owed := k.owed.filter fun e => e.1 != c }) s
  forEach l (fun x => post r c x [] 0 []) s

/-- Any serving ring or session of a client. -/
def ringFor (s : State) (c : Client) (pref : RingId) : RingId :=
  if ringServes s pref && clientOf s pref == c then pref
  else
    match (List.range 64).find? fun n => ringServes s ⟨c.xport, n⟩ && clientOf s ⟨c.xport, n⟩ == c with
    | some n => ⟨c.xport, n⟩
    | none => pref

/-! ### Tickets (R399 to R401) -/

/-- The slot that a new ticket takes: the first never used, else the free one whose ticket became final longest ago. -/
def freeSlot (s : State) : Option Nat :=
  match (List.range 256).find? fun k => !mhas s.cmd.tickets k with
  | some k => some k
  | none =>
    ((s.cmd.tickets.filter fun e => !ticketLive e.2 && e.2.posted).foldl
      (fun a e => match a with
        | some (k, n) => if e.2.finalNo < n then some (e.1, e.2.finalNo) else some (k, n)
        | none => some (e.1, e.2.finalNo)) (none : Option (Nat × Nat))).map (·.1)

def onTicket (tk : Nat) (f : Ticket → Ticket) (s : State) : State :=
  match ticketOf s tk with
  | some t => onCmd (fun c => { c with tickets := mput c.tickets (tk % 256) (f t) }) s
  | none => s

/-- A change of a ticket's state, journaled. -/
def setOst (tk : Nat) (o : OState) (s : State) : State :=
  onTicket tk (fun t => { t with ost := o, ftChanged := ftNs s, progress := if o == .done then 1000 else t.progress })
    (journalOwn tk (leBytes 1 (oCode o)) s)

/-- The final completion of a ticket (R401). -/
def finalCpl (t : Ticket) (st : CStatus) (reason : Nat) : Cpl :=
  ⟨t.cmdId, t.opcode, st, true, reason, t.ticket, t.bufLen, 0, false⟩

/-- Posts a ticket's final completion. -/
def postFinal (tk : Nat) (st : CStatus) (reason : Nat) (s : State) : State :=
  match ticketOf s tk with
  | none => s
  | some t =>
    let s := onTicket tk (fun t => { t with posted := true, finalNo := s.cmd.finals }) s
    let s := onCmd (fun c => { c with finals := c.finals + 1 }) s
    post (ringFor s t.client t.ring) t.client (finalCpl t st reason) [] 0 [] s
/-- Ends a ticket: journals its final state and posts the final completion, once the entry is stored (R366, R394, R401). -/
def endTicket (tk : Nat) (o : OState) (st : CStatus) (reason : Nat) (s : State) : State :=
  match ticketOf s tk with
  | none => s
  | some t =>
    if !ticketLive t then s
    else
      let s := setOst tk o s
      let s := onTicket tk (fun t => { t with reason := reason, suspReq := false }) s
      if mustAck s then onCmd (fun c => { c with postWait := c.postWait ++ [(tk, s.cmd.jseq, st, reason)] }) s
      else postFinal tk st reason s

def ticketDone (tk : Nat) (s : State) : State := endTicket tk .done .done 0 s
def ticketFail (tk reason : Nat) (s : State) : State := endTicket tk .failed .failed reason s
/-- Sets a ticket's `ORESULT`. -/
def ticketResult (tk : Nat) (bs : List Byte) (s : State) : State := onTicket tk (fun t => { t with oresult := bs }) s
/-- The newest running ticket of an opcode. -/
def runningOp (s : State) (opcode : Nat) : Option Ticket := (begunOps s opcode).head?
def runningTk (s : State) (tk opcode : Nat) : Bool :=
  match ticketOf s tk with | some t => t.ost == .running && t.opcode == opcode | none => false

/-! ### One F cycle -/

/-- An F cycle with no command waiting: the cycle count and fabric time advance (assumption 2, R310). -/
def tick (s : State) : State :=
  { s with mono := s.mono + 1, time := { s.time with ft := (s.time.ft + s.time.rate) % 2 ^ 112 } }

end Sys2Proof.Machine
end

