-- ==== Sys2Proof/Machine/Operands.lean ====
section
/-! DEFINITION. The operand forms of Onreham commands: the catalogue (Table 18-3 with each chapter's parameter layout),
parameters, buffers and command data (R388, R389). -/

set_option Elab.async false

namespace Sys2Proof.Machine

/-- One row of the catalogue: opcode, least privilege (0 OBSERVER, 1 OPERATOR, 2 OWNER), long, accepted in KEEL_UP and in
QUENCHED, the parameter fields assigned (offset, bytes, assigned bits of the field), the offset of `BUF_ADDR`
(48: none), and whether the buffer is written. -/
structure CmdSpec where
  opcode : Nat
  priv : Nat
  long : Bool
  keelUp : Bool
  quenched : Bool
  flds : List (Nat × Nat × Nat)
  buf : Nat
  bufOut : Bool
deriving DecidableEq, Repr

/-- All bits of a field of `n` bytes. -/
def full (n : Nat) : Nat := 2 ^ (8 * n) - 1
def fb (o n : Nat) : Nat × Nat × Nat := (o, n, full n)
def fm (o n m : Nat) : Nat × Nat × Nat := (o, n, m)

/-- Catalogue rows by how they are accepted: in no extra state, in KEEL_UP, in KEEL_UP and QUENCHED. -/
def cmd (op pr : Nat) (fl : List (Nat × Nat × Nat)) : CmdSpec := ⟨op, pr, false, false, false, fl, 48, false⟩
def cmdK (op pr : Nat) (fl : List (Nat × Nat × Nat)) : CmdSpec := ⟨op, pr, false, true, false, fl, 48, false⟩
def cmdKQ (op pr : Nat) (fl : List (Nat × Nat × Nat)) : CmdSpec := ⟨op, pr, false, true, true, fl, 48, false⟩
def CmdSpec.asLong (c : CmdSpec) : CmdSpec := { c with long := true }
/-- With an output buffer, or an input buffer, at an offset. -/
def CmdSpec.out (c : CmdSpec) (o : Nat) : CmdSpec := { c with buf := o, bufOut := true, flds := fb o 8 :: fb (o + 8) 4 :: c.flds }
def CmdSpec.inp (c : CmdSpec) (o : Nat) : CmdSpec := { c with buf := o, flds := fb o 8 :: fb (o + 8) 4 :: c.flds }
def CmdSpec.inpAddr (c : CmdSpec) (o : Nat) : CmdSpec := { c with buf := o, flds := fb o 8 :: c.flds }

/-- Chapters 01 to 04, 17 and 19. -/
def catalogueA : List CmdSpec :=
  [cmdKQ 0x0000 0 [], cmdKQ 0x0001 0 [], cmdKQ 0x0002 0 [fb 0 8],
   { cmdKQ 0x0101 0 [fb 0 8, fb 8 4] with buf := 0, bufOut := true },
   cmdKQ 0x0102 0 [], cmd 0x0103 2 [fb 0 1], (cmdKQ 0x0104 2 [fb 0 1, fm 1 1 1]).asLong, (cmdK 0x0105 1 []).asLong,
   cmdK 0x0106 2 [fb 0 1, fb 4 4, fb 8 1, fb 12 4, fb 16 16, fb 32 1, fb 34 2], cmdKQ 0x0107 0 [],
   cmd 0x0201 1 [fb 0 2], cmd 0x0202 1 [fb 0 2], cmd 0x0203 1 [fb 0 2, fb 2 1], cmd 0x0204 1 [fb 0 2, fb 2 1, fb 4 2],
   cmd 0x0205 0 [fb 0 2], cmd 0x0206 0 [fb 0 2, fm 2 1 1],
   (cmd 0x0207 1 [fb 0 2, fb 2 1, fb 3 1, fb 4 1, fb 8 4]).asLong, cmd 0x0208 0 [fb 0 2],
   (cmd 0x0209 1 [fb 0 2, fb 2 2, fb 4 1]).asLong, (cmd 0x020A 1 [fb 0 1, fb 4 2]).asLong,
   (cmd 0x0301 0 [fb 0 2, fb 16 4]).inpAddr 8, cmd 0x0302 2 [fb 0 2, fb 2 2, fm 4 1 0x83], (cmd 0x0303 1 [fb 0 2]).asLong] ++
  [(cmd 0x0501 1 [fb 0 1, fm 1 1 1, fb 2 2, fb 4 4, fb 8 4, fb 12 2]).asLong, cmd 0x0502 1 [fm 0 2 0xFFF],
   (cmd 0x0503 1 [fm 0 2 0xFFF]).asLong, cmd 0x0504 0 [fb 0 1, fb 1 1, fb 2 2, fb 4 4],
   cmdKQ 0x1001 0 [fb 0 4], cmd 0x1002 0 [fb 0 4], cmd 0x1003 0 [fb 0 4], cmd 0x1004 0 [fb 0 4], (cmdKQ 0x1005 0 []).out 8]

/-- Chapters 13 to 16. -/
def catalogueB : List CmdSpec :=
  [((cmd 0x0901 1 [fb 0 1]).inp 8).asLong, cmd 0x0902 1 [fb 0 1], (cmd 0x0903 1 [fb 0 1, fb 8 8]).asLong,
   cmd 0x0904 1 [fb 0 1], cmd 0x0905 1 [], cmd 0x0906 0 [], cmd 0x0907 2 [fm 0 1 3, fb 4 4], cmd 0x0908 0 [],
   cmd 0x0909 1 [fb 0 2, fm 2 1 1], cmd 0x090A 0 [fb 0 2, fb 4 4],
   cmd 0x0A01 2 [fb 0 1, fb 1 1, fb 2 1, fb 3 1, fb 4 1, fb 5 1], cmd 0x0A02 0 [], cmd 0x0A03 1 [fb 0 1, fb 8 8],
   cmd 0x0A04 2 [fb 0 1, fb 1 1, fb 2 1, fb 3 1, fb 4 2, fb 8 4, fb 12 4, fb 16 4], cmd 0x0A05 2 [fm 0 1 1],
   (cmd 0x0A06 2 [fb 0 1, fm 1 1 1, fb 4 4, fb 8 8, fb 16 8]).inpAddr 24,
   (cmd 0x0A07 1 [fb 0 1, fb 1 1, fb 2 1]).asLong, (cmd 0x0A08 2 [fb 0 1, fb 1 1, fb 2 1, fb 8 8]).asLong,
   cmd 0x0A09 0 [fb 0 1], cmd 0x0A0A 0 []] ++
  [cmd 0x0B01 0 [], (cmd 0x0B02 1 []).asLong, cmd 0x0B03 1 [fb 0 1, fb 1 1, fb 2 1], (cmd 0x0B04 0 [fb 0 2]).out 8,
   (cmd 0x0B05 2 []).asLong, (cmd 0x0C01 2 [fm 0 1 3, fb 4 2]).asLong, cmd 0x0C02 2 [], cmd 0x0C03 0 [],
   (cmd 0x0C04 2 []).asLong, (cmd 0x0C05 1 []).asLong]

/-- Chapters 20 to 22. -/
def catalogueC : List CmdSpec :=
  [cmdK 0x0D01 2 [fb 0 2, fb 2 2], cmd 0x0D02 2 [fb 0 2], cmd 0x0D03 2 [fb 0 1, fb 1 1, fb 2 2, fb 4 1, fb 5 1],
   cmd 0x0D04 2 [fb 0 2, fb 2 1, fb 3 1], cmdKQ 0x0D05 1 [fb 0 8], cmdKQ 0x0D06 0 [], cmdKQ 0x0D07 0 [fb 0 1, fb 1 1],
   cmdKQ 0x0D08 0 [fb 0 1], cmdKQ 0x0D09 2 [fb 0 1], cmdK 0x0D0A 1 [fm 0 1 1, fb 1 1], cmdKQ 0x0D0B 0 [],
   (cmdKQ 0x0E01 0 [fb 0 1, fb 2 2]).out 8, cmd 0x0E02 2 [fb 0 1, fb 1 1, fb 2 1, fb 4 2, fb 6 2, fm 8 1 1],
   (cmd 0x0E03 2 [fb 0 2]).asLong, (cmd 0x0E04 2 [fb 0 2]).asLong, cmdKQ 0x0E05 1 [fm 0 1 3],
   (cmdK 0x0E06 1 [fb 0 2, fm 2 1 7, fb 3 1]).inpAddr 8, (cmdKQ 0x0E07 0 [fb 0 4, fb 4 4]).out 8, cmdKQ 0x0E08 1 []] ++
  [((cmdK 0x0F01 2 []).inp 8).asLong, (cmdKQ 0x0F02 0 [fb 0 1]).out 8, ((cmdK 0x0F03 2 []).inp 8).asLong,
   (cmdK 0x0F04 2 [fm 0 1 1]).asLong, cmdKQ 0x0F05 0 [], (cmdKQ 0x0F06 0 []).out 8, cmd 0x0F07 2 [fb 0 4],
   (cmdK 0x0F08 2 []).asLong]

/-- Chapters 04 to 07. -/
def catalogueD : List CmdSpec :=
  [cmd 0x020B 1 [fb 0 2, fb 2 2, fm 4 1 1, fb 16 32], cmd 0x020C 0 [fb 0 2, fm 2 1 1],
   cmd 0x020D 2 [fb 0 2, fb 2 6, fb 8 4, fb 16 16, fb 32 2, fb 34 1, fb 35 1],
   cmd 0x0401 2 [fb 0 1, fb 1 1, fb 2 1, fb 3 1, fb 4 7, fb 16 32], (cmd 0x0402 2 [fb 4 2]).asLong, (cmd 0x0403 2 []).asLong,
   cmd 0x0404 2 [], cmd 0x0405 0 [fb 0 1, fb 1 1, fb 2 1], (cmd 0x0406 0 []).out 0, cmd 0x0407 1 [fb 0 4],
   cmd 0x0408 0 [fb 0 1, fm 1 1 1]] ++
  [cmd 0x0601 1 [fb 0 2, fb 2 2, fb 4 1, fb 5 1, fb 6 1], cmd 0x0602 1 [fb 0 2, fb 2 1, fb 3 1, fb 4 1, fb 5 1],
   cmd 0x0603 1 [fb 0 2, fb 2 1, fb 3 1, fb 4 4, fb 8 4],
   cmd 0x0604 1 [fb 0 2, fb 2 1, fm 3 1 15, fb 4 4, fb 8 4, fb 12 4, fb 16 4],
   ((cmd 0x0605 1 [fb 0 2, fb 2 2, fb 8 8]).inpAddr 16).asLong, (cmd 0x0606 1 [fb 0 2, fb 2 1]).out 8,
   cmd 0x0607 1 [fb 0 4, fm 4 1 1], cmd 0x0608 1 [fb 0 2, fb 2 1, fm 3 1 1],
   cmd 0x0640 2 [fb 0 1, fm 1 1 1, fb 2 2, fb 4 8, fb 12 1, fb 13 1, fb 14 1, fb 15 1], cmd 0x0641 0 [fb 0 1, fm 1 1 1],
   cmd 0x0642 1 [fb 0 4, fb 4 4, fb 8 4]]

/-- Chapters 08 to 11. -/
def catalogueE : List CmdSpec :=
  [(cmd 0x0701 1 [fb 0 2]).inp 8, cmd 0x0702 1 [fb 0 2, fb 4 4], (cmd 0x0703 1 [fb 0 2]).asLong, cmd 0x0704 1 [fb 0 2, fb 4 4],
   cmd 0x0705 0 [fb 0 2, fm 2 1 1], cmd 0x0706 0 [fb 0 2, fb 4 4], cmd 0x0707 0 [fb 0 1],
   cmd 0x0708 1 [fb 0 2, fb 2 1, fb 3 1, fb 4 1, fb 5 1, fb 6 4, fb 16 6, fb 24 6, fb 32 6, fb 40 6], cmd 0x0709 0 [fb 0 1],
   cmd 0x0780 0 [fb 0 2, fm 2 1 1]] ++
  [((cmd 0x0801 2 [fb 0 1]).inp 8).asLong, cmd 0x0802 2 [fb 0 1], cmd 0x0803 0 [fb 0 1],
   cmd 0x0804 1 [fb 0 1, fb 1 1, fb 2 2, fb 4 1, fb 8 8, fb 16 8, fb 24 4], cmd 0x0805 1 [fb 0 1], cmd 0x0806 0 [fb 0 1],
   cmd 0x0840 0 [fb 0 1, fb 1 1], cmd 0x0841 1 [fb 0 1, fb 1 1, fb 2 1, fb 4 2], (cmd 0x0842 1 [fb 0 1, fb 1 1]).asLong]

def catalogue : List CmdSpec := catalogueA ++ catalogueB ++ catalogueC ++ catalogueD ++ catalogueE

/-- The row of an opcode; an unassigned opcode has a row that nothing is accepted under. -/
def cat (op : Nat) : CmdSpec := (catalogue.find? fun c => c.opcode == op).getD ⟨op, 3, false, false, false, [], 48, false⟩
def assigned (op : Nat) : Bool := catalogue.any fun c => c.opcode == op

/-- Does a command journal once accepted (R501)? -/
def journals (c : CmdSpec) : Bool :=
  (c.long || 1 ≤ c.priv) &&
    !([0x1002, 0x1003, 0x1004, 0x0D05, 0x0D09, 0x0E05, 0x0E08, 0x0404, 0x0904, 0x0905, 0x0704].contains c.opcode)

/-- A parameter of `n` bytes at an offset. -/
def prm (q : Req) (o n : Nat) : Nat := rdLe q.entry.param o n
/-- The bits of `PARAM` that no field assigns. -/
def rsvdBits (c : CmdSpec) (p : List Byte) : Bool :=
  let used := c.flds.foldl (fun a f => a ||| (f.2.2 <<< (8 * f.1))) 0
  (leNat p &&& (used ^^^ (2 ^ 384 - 1))) != 0
/-- Is the command on a host ring? -/
def onHostRing (q : Req) : Bool := q.from_.xport == .host
/-- The bytes of an input buffer (R389). -/
def inData (q : Req) : List Byte := if onHostRing q then q.bufIn else q.entry.data
/-- `BUF_LEN`, which follows `BUF_ADDR`. -/
def bufLen (c : CmdSpec) (q : Req) : Nat := prm q (c.buf + 8) 4
/-- `DATA_LEN` against the transport (step 2 of Table 17-7). -/
def dataLenOk (q : Req) : Bool := if onHostRing q then q.entry.dataLen == 0 else q.entry.dataLen == q.entry.data.length
/-- Does the command's result go to its buffer? `DEV.CAPS` without a buffer and mode 0 of `FAULT.QUERY` use the result area
(Tables 1-4 and 21-7). -/
def toBuffer (c : CmdSpec) (q : Req) : Bool :=
  c.bufOut && !(c.opcode == 0x0101 && prm q 0 8 == 0) && !(c.opcode == 0x0E01 && prm q 0 1 != 1)
/-- Where a result goes in host memory: the buffer, or the result area at the command's slot (R389). -/
def resultAddr (c : CmdSpec) (q : Req) (s : State) (slot : Nat) : Nat :=
  if toBuffer c q then prm q c.buf 8 else (ringOf s q.from_.ring).resBase + 512 * slot

end Sys2Proof.Machine
end

