-- ==== Sys2Proof/Machine/Onreham.lean ====
section
/-! DEFINITION. The serial order of commands (R390 to R398): taking a command, its checks (Table 17-7), journaling,
applying, completing; acceptance of long operations (R399, R400). -/

set_option Elab.async false

namespace Sys2Proof.Machine

/-- Live tickets whose final completion a ring holds a slot for (R381). -/
def ringTickets (s : State) (r : RingId) : Nat := (s.cmd.tickets.filter fun e => ticketLive e.2 && e.2.ring == r).length
/-- Completions written and not yet freed. -/
def unfreed (g : Ring) : Nat := (g.cqTail + 2 ^ g.entLog2 - g.cqHead) % 2 ^ g.entLog2
/-- The reserve of R381: is there room for this command's completions? -/
def reserveOk (c : CmdSpec) (q : Req) (s : State) : Bool :=
  match q.from_.xport with
  | .host =>
    let g := ringOf s q.from_.ring
    unfreed g + ringTickets s q.from_ + (s.cmd.tickets.filter fun e => !ticketLive e.2 && !e.2.posted && e.2.ring == q.from_).length + 1 + (if c.long then 1 else 0) ≤ 2 ^ g.entLog2 - 1
  | _ => true
/-- `BARRIER`: passed over while an earlier ticket of the ring is not final (R390). -/
def barrierOk (q : Req) (s : State) : Bool := !q.entry.barrier || ringTickets s q.from_ == 0
/-- Commands that wait on the ring before a new one. -/
def ringWaiting (s : State) (r : RingId) : List Req :=
  match r.xport with
  | .host => (ringOf s r.ring).waiting
  | _ => match sessOf s r with | some x => x.waiting.map (·.2) | none => []
/-- May the module take this command from its ring now? One command at a time (R391), from a serving ring, in the
ring's order, with its reserve. -/
def canTake (c : CmdSpec) (q : Req) (s : State) : Bool :=
  keelOn s && s.cmd.storing.isEmpty && ringServes s q.from_ && reserveOk c q s && barrierOk q s &&
    (match ringWaiting s q.from_ with | [] => true | h :: _ => h == q)

/-- The sequence numbers of the capsules that carried the command. -/
def takenSeqs (q : Req) (s : State) : List Nat :=
  match sessOf s q.from_ with
  | some x => match x.waiting with | h :: _ => h.1 | [] => []
  | none => []
/-- Takes the command: advances `SQ_HEAD` and counts it (R380, Table 19-8). -/
def takeCmd (q : Req) (s : State) : State :=
  match q.from_.xport with
  | .host =>
    onRing q.from_.ring (fun g =>
      let h := (g.sqHead + 1) % 2 ^ g.entLog2
      { g with sqHead := h, sqTail := if g.waiting.isEmpty then h else g.sqTail, taken := sat 32 (g.taken + 1),
               waiting := g.waiting.drop 1 }) s
  | x =>
    match sessOf s q.from_ with
    | some y => onCmd (fun c => { c with sessions := mput c.sessions (sessKey (xpCode x) q.from_.ring) { y with waiting := y.waiting.drop 1 } }) s
    | none => s

/-! ### History (R395, R396) -/

def histOf (s : State) (c : Client) : List JEntry := ((s.cmd.history.find? fun e => e.1 == c).map (·.2)).getD []
def histFind (s : State) (c : Client) (cmdId : Nat) : Option JEntry := (histOf s c).find? fun e => e.cmdId == cmdId
/-- Adds an entry: the client becomes the most recently active of at most 256, with at most 1,024 entries. -/
def histAdd (e : JEntry) (s : State) : State :=
  let l := (e :: histOf s e.client).take 1024
  onCmd (fun c => { c with history := ((e.client, l) :: c.history.filter fun x => x.1 != e.client).take 256 }) s

/-! ### Checks (Table 17-7) -/

/-- Commands of families QOS, GROUP and TILE wait for the stage-controller role (R182, R209, R242, R370). -/
def roleOk (c : CmdSpec) (s : State) : Bool := s.gemel.roleReturned || !([6, 7, 8].contains (c.opcode / 256))
/-- Is the command accepted in the module's state (R404, R411)? -/
def stateOk (c : CmdSpec) (s : State) : Bool :=
  (running s && roleOk c s) || (s.sys.st == .keelUp && c.keelUp) || (s.sys.st == .quenched && c.quenched)

/-- The first refusal of Table 17-7. `lenOk` and `priv` are the owner's conditions at steps 2 and 3, `chk` its
conditions of steps 5 to 7. -/
def verdict (c : CmdSpec) (lenOk : Bool) (priv : Nat) (chk : Option Nat) (q : Req) (s : State) : Option Nat :=
  if !dataLenOk q || !lenOk then some 0x0002
  else if privOf s q.from_ < priv then some 0x0004
  else if !stateOk c s then some 0x0005
  else if q.entry.rsvd != 0 || rsvdBits c q.entry.param || (!onHostRing q && c.buf < 48 && prm q c.buf 8 != 0) then some 0x0007
  else match chk with
    | some r => some r
    | none => if c.long && (freeSlot s).isNone then some 0x1001 else none

/-- No journal device and no twin to journal to (R368). -/
def journalLost (s : State) : Bool := !s.gemel.mramOk && !(s.gemel.remote && s.gemel.st == .paired)

/-! ### Completions of commands -/

def newCpl (c : CmdSpec) (q : Req) (st : CStatus) (reason tk rlen : Nat) (s : State) : Cpl :=
  ⟨q.entry.cmdId, c.opcode, st, false, reason, tk, rlen, if onHostRing q then (ringOf s q.from_.ring).sqHead else 0, false⟩
/-- Posts a command's completion. `slot` is the slot it was taken from. -/
def complete (c : CmdSpec) (q : Req) (cl : Client) (slot : Nat) (seqs : List Nat) (st : CStatus) (reason tk : Nat)
    (res : List Byte) (s : State) : State :=
  post q.from_ cl (newCpl c q st reason tk res.length s) res (resultAddr c q s slot) seqs s

/-- The journal entry of a command (R395). -/
def entryFor (c : CmdSpec) (q : Req) (s : State) (cpl : Cpl) : JEntry :=
  ⟨clientOf s q.from_, q.entry.cmdId, c.opcode, q.entry.param, sha256 q.entry.data, cpl⟩

/-- A new ticket, QUEUED (R399). -/
def newTicket (c : CmdSpec) (q : Req) (slot : Nat) (s : State) : Ticket :=
  ⟨slot + 256 * s.cmd.serial, .queued, c.opcode, q.entry.cmdId, clientOf s q.from_, q.from_, 0, 0, ftNs s, ftNs s, [], 0,
   inData q, q.entry.param, q.entry.data, c.priv, false, 0, false, false, true⟩
def nextSerial (n : Nat) : Nat := if n = 0xFFFFFF then 1 else n + 1

/-- Applies a checked command and completes it: DONE with its result, or ACCEPTED with a ticket. -/
def commit (c : CmdSpec) (apply : State → State × List Byte) (jnl : Bool) (q : Req) (cl : Client) (slot : Nat) (seqs : List Nat)
    (s : State) : State :=
  if c.long then
    match freeSlot s with
    | none => complete c q cl slot seqs .refused 0x1001 0 [] s
    | some k =>
      let t := newTicket c q k s
      let e := entryFor c q s (newCpl c q .accepted 0 t.ticket 0 s)
      let s := histAdd e (whenS jnl (journalE e) s)
      let s := onCmd (fun x => { x with tickets := mput x.tickets k t, serial := nextSerial x.serial }) s
      complete c q cl slot seqs .accepted 0 t.ticket [] s
  else
    let r := apply s
    let e := entryFor c q s (newCpl c q .done 0 0 r.2.length s)
    let s := if journals c then histAdd e (whenS jnl (journalE e) r.1) else r.1
    complete c q cl slot seqs .done 0 0 r.2 s

/-- Repeats a stored completion, with the ticket's final completion if that has been posted (R396). -/
def replayCmd (e : JEntry) (q : Req) (cl : Client) (seqs : List Nat) (s : State) : State :=
  let s := post q.from_ cl { e.cpl with sqHead := if onHostRing q then (ringOf s q.from_.ring).sqHead else 0 } [] 0 seqs s
  match ticketOf s e.cpl.ticket with
  | some t =>
    if t.posted then post q.from_ cl (finalCpl t (match t.ost with | .done => .done | .failed => .failed | _ => .cancelled) t.reason) [] 0 [] s
    else s
  | none => s

/-- Handles one command (R391): takes it; repeats a stored completion under `REPLAY`; refuses it under Table 17-7 (with
`refRes` the result that an owner gives its refusals); else journals, applies and completes it, or, where the twin must
acknowledge the entry first (R366), leaves it stored in part. -/
def runCommand (c : CmdSpec) (lenOk : Bool) (priv : Nat) (chk : Option Nat) (refRes : List Byte)
    (apply : State → State × List Byte) (q : Req) (s : State) : State :=
  let c' := if c.long then { c with priv := priv } else c
  match s.cmd.finishing with
  | some x => commit c' apply false x.req x.client x.slot x.seqs (onCmd (fun k => { k with finishing := none }) s)
  | none =>
  if !canTake c q s then s
  else
    let cl := clientOf s q.from_
    let slot := (ringOf s q.from_.ring).sqHead
    let seqs := takenSeqs q s
    let s := takeCmd q s
    match (if q.entry.replay then histFind s cl q.entry.cmdId else none) with
    | some e => replayCmd e q cl seqs s
    | none =>
      match verdict c lenOk priv chk q s with
      | some r => complete c q cl slot seqs .refused r 0 refRes s
      | none =>
        if journals c && journalLost s then complete c q cl slot seqs .refused 0x0C06 0 [] s
        else if journals c && mustAck s then
          let e := entryFor c q s (newCpl c q (if c.long then .accepted else .done) 0 0 0 s)
          let s := journalE e s
          onCmd (fun x => { x with storing := [⟨s.cmd.jseq, q, cl, slot, seqs, !s.gemel.mramOk, false⟩] }) s
        else commit c' apply true q cl slot seqs s

/-- A command of its catalogue row's own privilege, without a length condition of its owner. -/
def plain (op : Nat) (chk : Option Nat) (apply : State → State × List Byte) (q : Req) (s : State) : State :=
  runCommand (cat op) true (cat op).priv chk [] apply q s
/-- Is there room for a result of `n` bytes in the host buffer named? A session carries it in the REPLY (R389). -/
def outRoom (c : CmdSpec) (n : Nat) (q : Req) : Bool := !onHostRing q || n ≤ bufLen c q
/-- A change without a result. -/
def act (f : State → State) : State → State × List Byte := fun s => (f s, [])
/-- A query: the state unchanged. -/
def ans (f : State → List Byte) : State → State × List Byte := fun s => (s, f s)
/-- A long operation, which does nothing more at its acceptance. -/
def longOp (op : Nat) (priv : Nat) (lenOk : Bool) (chk : Option Nat) (q : Req) (s : State) : State :=
  runCommand (cat op) lenOk priv chk [] (fun s => (s, [])) q s

end Sys2Proof.Machine
end

