-- ==== Sys2Proof/Machine/Frames.lean ====
section
/-! DEFINITION. Frame extensions, control blocks and NACKs (R84 to R88, Tables 4-2, 4-3, 4-6 to 4-8, 4-11). -/

set_option Elab.async false

namespace Sys2Proof.Machine

/-! ### Frame extensions -/

def extOf (f : Frame) : Nat := f.ext.getD 0
/-- Fields shared by the extensions of `CONTRIB`, `RESULT` and `UPDRAFT` (Tables 9-4, 9-5, 10-1). -/
def xGroup (f : Frame) : Nat := bitsAt (extOf f) 255 240
def xSeq (f : Frame) : Nat := bitsAt (extOf f) 239 208
def xMember (f : Frame) : Nat := bitsAt (extOf f) 207 192
def xKind (f : Frame) : Nat := bitsAt (extOf f) 191 188
def xOp (f : Frame) : Nat := bitsAt (extOf f) 187 184
def xOper (f : Frame) : Nat := bitsAt (extOf f) 183 180
def xNote (f : Frame) : Nat := bitsAt (extOf f) 179 176
def xNumctl (f : Frame) : Nat := bitsAt (extOf f) 175 160
/-- Fields of a request or response (Table 4-6). -/
def xOffset (f : Frame) : Nat := bitsAt (extOf f) 255 208
def xRlen (f : Frame) : Nat := bitsAt (extOf f) 207 195
def xScope (f : Frame) : Nat := bitsAt (extOf f) 194 193
def xRel (f : Frame) : Bool := (extOf f).testBit 192
def xAcq (f : Frame) : Bool := (extOf f).testBit 191

/-- The classes a type may use (Table 4-5); none for an unassigned type. -/
def typeClasses (t : Nat) : Option (List Nat) :=
  match t with
  | 0 => some [2, 6] | 1 => some [2, 4] | 2 => some [2, 4] | 3 => some [3] | 4 => some [3] | 5 => some [3]
  | 6 => some [2, 5] | 7 => some [2, 5] | 8 => some [1] | 9 => some [0] | 10 => some [7] | _ => none
/-- Types that need an extension: all but `DATA`. -/
def needsExt (t : Nat) : Bool := t != 0
/-- The discards of R86. -/
def protoBad (l : Nat) (f : Frame) : Bool :=
  f.ver != 1 || f.len < 64 || 4160 < f.len || f.len != realLen f || (needsExt f.typ && f.ext.isNone) ||
    vcCount l ≤ f.vc || vcClass l f.vc != f.cls ||
    (match typeClasses f.typ with | some cs => !cs.contains f.cls | none => true)

/-! ### Control blocks -/

/-- A control block from bits `[255:16]`, closed with its CRC (R84). -/
def closeBlock (hi : Nat) : Nat := (hi <<< 16) + crc16 (beBytes 30 hi)
def blockOk (b : Nat) : Bool := b < 2 ^ 256 && b % 65536 == crc16 (beBytes 30 (b >>> 16))
def blkType (b : Nat) : Nat := bitsAt b 255 248
/-- A block of a type with fields given at their bit positions. -/
def ctlBlock (ty : Nat) (fs : List (Nat × Nat)) : Nat :=
  closeBlock (((ty <<< 248) + fs.foldl (fun a f => a + (f.2 <<< f.1)) 0) >>> 16)
/-- `LINK_CTL` (Table 4-3) with up to four credit slots (VC, total). -/
def linkCtl (ack : Nat) (ackValid nak : Bool) (slots : List (Nat × Nat)) : Nat :=
  ctlBlock 1 ([(236, ack), (235, bit ackValid 0), (234, bit nak 0)] ++
    (slots.zipIdx).map fun e => (168 + 16 * e.2, (e.1.1 <<< 12) + e.1.2))
/-- `DOZE`: 0 REQ, 1 ACK, 2 NAK, 3 LIFT. -/
def dozeBlk (msg : Nat) : Nat := ctlBlock 3 [(246, msg)]

/-! ### NACKs (R88) -/

/-- Does a coordinate name this module's tray 63, slot 0? -/
def ownModule (s : State) (d : Nat) : Bool := d >>> 8 == ownCoord s 0 >>> 8
/-- A NACK for a frame. Its `SRC` is the function addressed, or function 0 of the
module for a frame addressed elsewhere (assumption 41). -/
def nackFor (s : State) (f : Frame) (cause : Nat) : Frame :=
  let ext := (cause <<< 248) + (f.typ <<< 243) + (f.cls <<< 240) + (f.dest <<< 208) + (f.gen <<< 192) + (extOf f >>> 64)
  mkFrame f.src (if ownModule s f.dest then f.dest else ownCoord s 0) 3 5 f.slice 0 f.tag (some ext) []
/-- A response (Table 4-6): `OFFSET`, `RLEN`, `SCOPE`, `REL` and `ACQ` echoed. -/
def respFor (f : Frame) (typ : Nat) (p : List Byte) : Frame :=
  mkFrame f.src f.dest 3 typ f.slice f.gen f.tag (some (extOf f >>> 191 <<< 191)) p

end Sys2Proof.Machine
end

