-- ==== Sys2Proof/Machine/Cells.lean ====
section
/-! DEFINITION. The cell buffer of a sail die (R107 to R116): cells and the free store, reservations, class pools and
their levels, detections. -/

set_option Elab.async false

namespace Sys2Proof.Machine

def onDie (d : Nat) (f : Die → Die) (s : State) : State := onCore (fun c => { c with dies := mmod dieDflt c.dies d f }) s
/-- Changes one element of a list. -/
def lmod (l : List Nat) (i : Nat) (f : Nat → Nat) : List Nat := l.set i (f (l.getD i 0))

/-! ### The free store (R108, R109) -/

/-- The lowest-numbered cell from `k` up whose bitmap bit shows it free. -/
def firstFree : Map Cell → Nat → Nat
  | [], k => k
  | (i, c) :: r, k => if i ≠ k then k else if c.mapFree then k else firstFree r (k + 1)
/-- Allocates one cell; a cell that its bitmap bit shows free and its state bit USED is an allocation conflict and is passed
over, at most `fuel` times. -/
def allocOne : Nat → Die → Nat → Option (Nat × Die)
  | 0, _, _ => none
  | fuel + 1, d, owner =>
    let k := firstFree d.cells 0
    if cellTotal ≤ k then none
    else
      let c := mget cellDflt d.cells k
      if c.used then
        allocOne fuel { d with cells := mset cellDflt d.cells k { c with mapFree := false }, doubleFree := inc32 d.doubleFree } owner
      else some (k, { d with cells := mset cellDflt d.cells k ⟨true, owner, false, false⟩ })
/-- Allocates `n` cells, in order. -/
def allocN : Nat → Die → Nat → Option (List Nat × Die)
  | 0, d, _ => some ([], d)
  | n + 1, d, owner =>
    match allocOne (d.cells.length + 1) d owner with
    | none => none
    | some (k, d) => match allocN n d owner with | none => none | some (ks, d) => some (k :: ks, d)
/-- A general requester's allocation on die `d`; a grant moves the round-robin pointer past it (R108). -/
def allocCells (d req n owner : Nat) (s : State) : Option (List Nat × State) :=
  match allocN n (dieSt s d) owner with
  | none => none
  | some (ks, x) => some (ks, onDie d (fun _ => { x with rrPtr := req + 1 }) s)
/-- A switch-core detection: reported as an event of the die's source (R123). -/
def coreReport (d kind : Nat) (s : State) : State := report (srcId 1 d) kind s
/-- Frees one cell (R109). -/
def freeCell (d k : Nat) (s : State) : State :=
  let c := mget cellDflt (dieSt s d).cells k
  if c.retired then s
  else if c.used then onDie d (fun x => { x with cells := mset cellDflt x.cells k { c with used := false, mapFree := true } }) s
  else
    coreReport d 2 (record 0x06C4 [(1, d), (4, k), (3, c.owner)]
      (onDie d (fun x => { x with doubleFree := inc32 x.doubleFree }) s))
def freeCells (d : Nat) (ks : List Nat) (s : State) : State := forEach ks (freeCell d) s
/-- Retires a cell: held USED and allocated to nothing until KEEL_UP (Table 5-6). -/
def retireCell (d k : Nat) (s : State) : State :=
  let c := mget cellDflt (dieSt s d).cells k
  coreReport d 2 (onDie d (fun x => { x with
    cells := mset cellDflt x.cells k { c with used := true, mapFree := false, retired := true }, retired := inc32 x.retired }) s)

/-! ### Sizes (R111 to R114) -/

/-! ### Levels (R115, R116) -/

/-- A threshold in cells. -/
def poolW (s : State) (d c n : Nat) : Nat :=
  let p := poolCfg s d
  poolSize s d c * (match n with | 1 => p.w1 | 2 => p.w2 | _ => p.w3) / 100
/-- The highest level whose threshold an occupancy reaches. -/
def rawLevel (s : State) (d c : Nat) : Nat :=
  let o := poolOcc s d c
  if poolSize s d c = 0 then 0
  else if 4 * poolW s d c 3 ≤ o then 3 else if 4 * poolW s d c 2 ≤ o then 2 else if 4 * poolW s d c 1 ≤ o then 1 else 0
/-- The level of a pool once its occupancy is compared again: it leaves a level only past its hysteresis. -/
def nextLevel (s : State) (d c : Nat) : Nat :=
  let cur := (dieSt s d).level.getD c 0
  let raw := rawLevel s d c
  if cur ≤ raw then raw
  else
    let hy := poolSize s d c * (poolCfg s d).hyst / 100
    if poolOcc s d c ≤ 4 * (poolW s d c cur - hy) then raw else cur
/-- Takes a pool's level anew, recording an entry to level 3. -/
def relevel (d c : Nat) (s : State) : State :=
  let old := (dieSt s d).level.getD c 0
  let new := nextLevel s d c
  let s := onDie d (fun x => { x with
    level := x.level.set c new, peakLvl := lmod x.peakLvl c (fun p => max p new) }) s
  if old < 3 ∧ new = 3 then
    record 0x06C1 [(1, d), (1, c), (4, poolOcc s d c)] (onDie d (fun x => { x with w3Entries := inc32 x.w3Entries }) s)
  else s
/-- Charges quarters to a class pool. -/
def chargePool (d c q : Nat) (s : State) : State :=
  relevel d c (onDie d (fun x => { x with poolOcc := lmod x.poolOcc c (· + q) }) s)
/-- Releases quarters from a class pool, which leaves level 4. -/
def releasePool (d c q : Nat) (s : State) : State :=
  if q = 0 then s
  else relevel d c (onDie d (fun x => { x with poolOcc := lmod x.poolOcc c (· - q), poolFull := x.poolFull.set c false }) s)
/-- Level 4 is entered. -/
def poolTooFull (d c : Nat) (s : State) : State :=
  onDie d (fun x => { x with poolFull := x.poolFull.set c true, peakLvl := lmod x.peakLvl c (fun _ => 4) }) s
/-- Levels of every pool of a die taken anew, after its sizes change. -/
def relevelDie (d : Nat) (s : State) : State := forEach (List.range 8) (relevel d) s

/-- Frees the upstream credits of a frame received on a link (R91, R113). -/
def freeCredits (l vc n : Nat) (s : State) : State :=
  onLink l (fun k => { k with rxFreed := lmod k.rxFreed vc (fun t => (t + n) % 4096) }) s
/-- Releases what a held frame is charged, and its sender's credits. -/
def releaseCharge (e : QEnt) (s : State) : State :=
  let s := releasePool e.die e.frame.cls e.poolQ s
  match e.inL with
  | some l => freeCredits l e.inVc (creditsOf e.frame) s
  | none => s
/-- Discards a held frame: its cells, its charge and its credits are freed. -/
def dropEnt (e : QEnt) (s : State) : State := releaseCharge e (freeCells e.die e.cells s)

end Sys2Proof.Machine
end

