-- ==== Sys2Proof/Machine/Queues.lean ====
section
/-! DEFINITION. Leaf queues, policers, shapers, time gates, the arbiters and the cut-through rule (R119, R160 to R181). -/

set_option Elab.async false

namespace Sys2Proof.Machine

/-! ### Numbers -/

def onLeaf (q : Nat) (f : List QEnt → List QEnt) (s : State) : State :=
  onCore (fun c => { c with leaf := mmod [] c.leaf q f }) s
def onCons (k : Nat) (f : List QEnt → List QEnt) (s : State) : State :=
  onCore (fun c => { c with cons := mmod [] c.cons k f }) s
/-- Frames of a lane-port that its neighbour has not acknowledged: sent ones; and granted ones. -/
def sentEnts (k : Link) : List TxEnt := k.txq.filter (·.sent)
def unsentEnts (k : Link) : List TxEnt := k.txq.filter fun t => !t.sent

/-! ### Scheduled C2 (R138, R161, R321) -/

/-- A C2 frame that an enabled image places: one of a group the image names by CLAIM or ISSUE. -/
def placedC2 (s : State) (f : Frame) : Bool := f.cls == 2 && (f.typ == 6 || f.typ == 7) && schedGroup s (xGroup f)
/-- The EGRESS window open on a lane-port now. -/
def openWindow (s : State) (l : Nat) : Option Window :=
  s.sched.windows.find? fun w => w.kind == 2 && w.a == l && s.mono < w.until_
/-- The EGRESS entries of the enabled image that name a lane-port. -/
def egressEntries (s : State) (l : Nat) : List SEntry := (enabledEntries s).filter fun e => entLp e == some l
/-- The subscriber position of a placed C2 frame (assumption 48). -/
def placedPos (s : State) (l : Nat) : Nat :=
  match openWindow s l with
  | some w => w.b
  | none => match egressEntries s l with | e :: _ => eb e 85 79 | [] => 0
/-- Transmission time of a frame in units of 2^-48 ns, times 1,000 N (R174). -/
def txPicoN (len : Nat) : Nat := 1344 * ((len + 31) / 32)
/-- F cycles that a frame takes on a lane-port, rounded up. -/
def txCycles (s : State) (l len : Nat) : Nat := (txPicoN len * 7 + 4000 * (lpLanes s l).length - 1) / (4000 * (lpLanes s l).length)
/-- Would a transmission that starts now overlap an EGRESS window on a named lane-port (Table 13-8)? -/
def overlapsWindow (s : State) (l len : Nat) : Bool :=
  (openWindow s l).isSome ||
    (s.sched.st == .running &&
      (egressEntries s l).any fun e =>
        let t := s.sched.periodAt + e.cycle
        let t := if t < s.mono then t + hdrPeriod (enabledImg s) else t
        t < s.mono + txCycles s l len)

/-! ### Subscriber positions (R161) -/

/-- The slot of a group that is enabled here, else 0 (Table 7-1). -/
def groupSt0 (s : State) (g : Nat) : Nat := (mfind s.tile.groups g).elim 0 (·.st)
def groupSlot (s : State) (g : Nat) : Nat :=
  if groupSt0 s g == 2 || groupSt0 s g == 3 then (mfind s.set.groups g).elim 0 (·.slot) else 0
/-- The lowest position of a lane-port bound to a slice, else 0; a position being rebound takes no frame. -/
def subPos (s : State) (l slice : Nat) : Nat :=
  let base := bindKey 2 (128 * l)
  match s.set.binds.find? fun e => base < e.1 && e.1 < base + 128 && e.2.ost == 1 && e.2.slice == slice with
  | some e => if (bindOf s 2 (128 * l)).slice = slice then 0 else e.1 - base
  | none => 0
def position (s : State) (l : Nat) (f : Frame) : Nat :=
  if f.cls = 0 then 0
  else if placedC2 s f then placedPos s l
  else if f.cls = 5 then groupSlot s (xGroup f)
  else subPos s l f.slice

/-! ### Token buckets, in units of 1/14,000 byte, filled by `RATE` Mb/s in each F cycle -/

def bucketNow (tok at_ rate cap now : Nat) : Nat := min (14000 * cap) (tok + rate * (now - at_))

/-- What a policer decides (R168). -/
inductive Colour where
  | green | yellow | red
deriving DecidableEq, Repr
/-- Is a frame policed (R167)? -/
def policed (s : State) (l : Nat) (f : Frame) : Bool :=
  isScaleUp (lpLoc l) && (f.cls == 2 || (4 ≤ f.cls && f.cls ≤ 7)) && !placedC2 s f
/-- Colours a frame and charges the buckets (R168). -/
def policeFrame (l : Nat) (f : Frame) (s : State) : Colour × State :=
  let key := 8 * l + f.cls
  let g := polCfg s l f.cls
  let p := mget polDflt s.core.pol key
  let ct := bucketNow p.ctok p.at_ g.cir g.cbs s.mono
  let pt := bucketNow p.ptok p.at_ g.pir g.pbs s.mono
  let n := 14000 * f.len
  let put := fun (x : PolState) => onCore (fun c => { c with pol := mset polDflt c.pol key x }) s
  if g.cir = 0 then (.green, put { p with green := sat 64 (p.green + 1) })
  else if pt < n then (.red, put { p with ctok := ct, ptok := pt, at_ := s.mono, red := sat 64 (p.red + 1) })
  else if ct < n then (.yellow, put { p with ctok := ct, ptok := pt - n, at_ := s.mono, yellow := sat 64 (p.yellow + 1) })
  else (.green, put { p with ctok := ct - n, ptok := pt - n, at_ := s.mono, green := sat 64 (p.green + 1) })
/-- The action set for a colour: 0 PASS, 1 MARK, 2 DISCARD. -/
def polAction (s : State) (l c : Nat) : Colour → Nat
  | .green => 0
  | .yellow => (polCfg s l c).yellow
  | .red => (polCfg s l c).red

/-- A shaper's key: 8·L + c, the port shaper under class 0. -/
def shapeCfg (s : State) (k : Nat) : ShapeCfg := mget ⟨0, 0, false⟩ s.set.qos.shape k
def shapeTok (s : State) (k : Nat) : Nat :=
  let g := shapeCfg s k
  let x := mget ⟨0, 0⟩ s.core.shp k
  bucketNow x.tok x.at_ g.rate g.burst s.mono
def shapeOk (s : State) (k len : Nat) : Bool := (shapeCfg s k).rate == 0 || 14000 * len ≤ shapeTok s k
def shapeCharge (k len : Nat) (s : State) : State :=
  if (shapeCfg s k).rate = 0 then s
  else onCore (fun c => { c with shp := mset ⟨0, 0⟩ c.shp k ⟨shapeTok s k - 14000 * len, s.mono⟩ }) s
/-- The port-level brake of a lane-port, an extra shaper over C4 to C7 (R181, assumption 42): its rate in Mb/s. -/
def brakeRate (s : State) (l : Nat) : Nat := lpSpeed s l * diePort s (lpDie l) / 100
def brakeBurst : Nat := 4160
def brakeTok (s : State) (l : Nat) : Nat :=
  let x := mget ⟨14000 * brakeBurst, 0⟩ s.core.brake l
  bucketNow x.tok x.at_ (brakeRate s l) brakeBurst s.mono
def braked (s : State) (l c : Nat) : Bool := 4 ≤ c && diePort s (lpDie l) != 100
def brakeOk (s : State) (l c len : Nat) : Bool := !braked s l c || 14000 * len ≤ brakeTok s l
def brakeCharge (l c len : Nat) (s : State) : State :=
  if braked s l c then
    onCore (fun x => { x with brake := mput x.brake l ⟨brakeTok s l - 14000 * len, s.mono⟩ }) s
  else s
/-- Do the shapers admit a frame of a class (R170)? Placed C2 is exempt. -/
def shapersAdmit (s : State) (l : Nat) (f : Frame) : Bool :=
  placedC2 s f || f.cls == 0 || f.cls == 1 ||
    (shapeOk s (8 * l + f.cls) f.len && shapeOk s (8 * l) f.len && brakeOk s l f.cls f.len)
def chargeShapers (l : Nat) (f : Frame) (s : State) : State :=
  if placedC2 s f || f.cls == 0 || f.cls == 1 then s
  else brakeCharge l f.cls f.len (shapeCharge (8 * l) f.len (shapeCharge (8 * l + f.cls) f.len s))

/-! ### Time gates (R172 to R175), times in units of 2^-48 ns -/

def gateCycle (es : List (Nat × Nat)) : Nat := es.foldl (fun a e => a + e.2) 0
/-- How long class `c` stays open from `t` ns into a list of entries, the stretch running on into the entries that follow. -/
def openRun (c : Nat) : List (Nat × Nat) → Nat
  | [] => 0
  | (m, d) :: r => if m.testBit c then d + openRun c r else 0
/-- The entries from a position on, with what remains of the first; none when the position lies beyond the list. -/
def entriesFrom : List (Nat × Nat) → Nat → Option (List (Nat × Nat) × Nat)
  | [], _ => none
  | (m, d) :: r, t => if t < d then some ((m, d) :: r, t) else entriesFrom r (t - d)
/-- Time that class `c` stays open from a position `p` (units of 2^-48 ns) in a list; none: for ever. -/
def gateOpenFor (es : List (Nat × Nat)) (c p : Nat) : Option Nat :=
  if es.isEmpty || es.all (fun e => e.1.testBit c) then none
  else
    let u := 1 <<< 48
    match entriesFrom es (p / u) with
    | none => some 0
    | some (rest, off) => some (openRun c (rest ++ es) * u - off * u - p % u)
/-- The list in force on a lane-port; one restored at READY (its ticket is gone) opens every gate while it waits for aligned
time (R179). -/
def gateOpList (s : State) (l : Nat) : Option GateList :=
  (mfind s.set.qos.gateOp l).filter fun g => !(s.core.gateWait && g.ticket.isNone)
def gatePendList (s : State) (l : Nat) : Option GateList :=
  (mfind s.set.qos.gatePend l).filter fun g => !(s.core.gateWait && g.ticket.isNone)
def gatePos (s : State) (g : GateList) : Nat :=
  let cyc := gateCycle g.entries <<< 48
  if cyc = 0 then 0
  else
    let st := g.startFt <<< 48
    if st ≤ s.time.ft then (s.time.ft - st) % cyc else (cyc - (st - s.time.ft) % cyc) % cyc
/-- How long class `c` is open on a lane-port from now, across a pending takeover; none: for ever. -/
def gateOpen (s : State) (l c : Nat) : Option Nat :=
  let cur := match gateOpList s l with
    | some g => gateOpenFor g.entries c (gatePos s g)
    | none => none
  match gatePendList s l with
  | none => cur
  | some p =>
    let wait := (p.startFt <<< 48) - s.time.ft
    let next := gateOpenFor p.entries c 0
    match cur, next with
    | some x, _ => if x < wait then some x else next.map (wait + ·)
    | none, _ => next.map (wait + ·)
/-- May a frame start under the gates (R174), or in its EGRESS window (Table 13-8)? -/
def gateAdmits (s : State) (l : Nat) (f : Frame) : Bool :=
  if namesLp s l then
    if placedC2 s f then (openWindow s l).any fun w => w.b == placedPos s l
    else !(f.cls == 2) && !overlapsWindow s l f.len
  else if f.cls == 0 || f.cls == 1 || placedC2 s f then true
  else match gateOpen s l f.cls with
    | none => true
    | some x => txPicoN f.len <<< 48 ≤ x * 1000 * (lpLanes s l).length

/-! ### Conditions of a grant (R91, R94, R113, R164) -/

/-- Credits of a VC not yet promised to a granted frame. -/
def credFree (s : State) (l vc : Nat) : Nat :=
  let k := linkOf s l
  k.txCred.getD vc 0 - ((k.txq.filter fun t => !t.started && t.vc == vc).foldl (fun a t => a + creditsOf t.frame) 0)
def lanesActive (s : State) (l : Nat) : Bool := (lpLanes s l).all fun i => (laneOf s i).power == .active
/-- Egress-pool cells that a lane-port holds, and its share (R113). -/
def egressHeld (s : State) (l : Nat) : Nat := (linkOf s l).txq.foldl (fun a t => a + t.cells.length) 0
def egressShare (s : State) (l : Nat) : Nat := (poolCfg s (lpDie l)).egress * lpSpeed s l / (32 * 800000)
/-- The conditions of R91, R94, R113, the gate and the shapers, for a frame with its virtual channel. -/
def grantOk (s : State) (l vc : Nat) (f : Frame) : Bool :=
  linkUp s l && lanesActive s l && creditsOf f ≤ credFree s l vc && (linkOf s l).txq.length < 2048 &&
    egressHeld s l + cellsOf f ≤ egressShare s l && gateAdmits s l f && shapersAdmit s l f
/-- An eligible head (R164). -/
def eligible (s : State) (l : Nat) (e : QEnt) : Bool := e.eligible && grantOk s l e.outVc e.frame
/-- The cut-through rule (R119). -/
def cutTest (s : State) (inp out vc : Nat) (f : Frame) : Bool :=
  lpSpeed s out ≤ lpSpeed s inp && (unsentEnts (linkOf s out)).isEmpty && (lpQueues s out).all (fun e => e.2.isEmpty) &&
    (mget [] s.core.updTx out).isEmpty && grantOk s out vc f &&
    (if placedC2 s f then (openWindow s out).any (fun w => w.c == 1) else true)

/-! ### The weighted arbiter (R165) -/

/-- A child that is backlogged with an eligible head: its number, the head's `LEN`, whether the grant empties it. -/
structure Child where
  no : Nat
  len : Nat
  last : Bool
deriving DecidableEq, Repr

/-- One pass over the children in their order: the deficits, and the child granted if any. -/
def arbPass (w : Nat → Nat) : List Child → Map Int → Map Int × Option Child
  | [], d => (d, none)
  | x :: r, d =>
    let v := mget 0 d x.no
    let v := if v ≤ 0 then v + (w x.no * 512 : Nat) else v
    if v ≤ 0 then arbPass w r (mset 0 d x.no v)
    else
      let v := v - (x.len : Nat)
      (mset 0 d x.no (if x.last then 0 else v), some x)
/-- Passes until a grant, at most `fuel`. -/
def arbLoop (w : Nat → Nat) (cs : List Child) : Nat → Map Int → Map Int × Option Child
  | 0, d => (d, none)
  | n + 1, d => match arbPass w cs d with
    | (d, some x) => (d, some x)
    | (d, none) => arbLoop w cs n d
/-- One decision among `n` children, those with eligible heads given in ascending order. -/
def arbDecide (n : Nat) (w : Nat → Nat) (cs : List Child) (a : Arb) : Option (Nat × Arb) :=
  let order := (cs.filter fun c => a.ptr ≤ c.no) ++ (cs.filter fun c => c.no < a.ptr)
  if order.isEmpty then none
  else match arbLoop w order 10 a.deficits with
    | (d, some x) => some (x.no, ⟨if 0 < mget 0 d x.no && !x.last then x.no else (x.no + 1) % n, d⟩)
    | (_, none) => none

def arbDflt : Arb := ⟨0, []⟩
def prioDflt (c : Nat) : Nat := [0, 0, 1, 2, 3, 3, 3, 3].getD c 3
def weightDflt (c : Nat) : Nat := [1, 1, 1, 1, 2, 4, 3, 1].getD c 1
def prioOf (s : State) (l c : Nat) : Nat := mget (prioDflt c) s.set.qos.prio (8 * l + c)
def weightOf (s : State) (l c : Nat) : Nat := mget (weightDflt c) s.set.qos.weight (8 * l + c)
def subWeight (s : State) (q : Nat) : Nat := mget 1 s.set.qos.subw q
/-- The subscriber level of (L, c): the position it would grant, and the node after it. -/
def subDecide (s : State) (l c : Nat) : Option (Nat × Arb) :=
  let kids := (lpQueues s l).filterMap fun e =>
    if e.1 / 128 % 8 = c then
      match e.2 with
      | h :: r => if eligible s l h then some (⟨e.1 % 128, h.frame.len, r.isEmpty⟩ : Child) else none
      | [] => none
    else none
  arbDecide 128 (fun p => subWeight s (leafNo l c p)) kids (mget arbDflt s.core.sub (8 * l + c))
/-- The classes of a lane-port with an eligible frame, each with its subscriber level's choice. -/
def classKids (s : State) (l : Nat) : List (Child × Nat × Arb) :=
  (List.range 8).filterMap fun c =>
    (subDecide s l c).bind fun x =>
      match leafQ s (leafNo l c x.1) with
      | h :: _ =>
        let more := (lpQueues s l).foldl (fun a e => if e.1 / 128 % 8 = c then a + e.2.length else a) 0
        some (⟨c, h.frame.len, more == 1⟩, x.1, x.2)
      | [] => none
/-- The service level: the leaf queue granted, and both nodes after the grant. -/
def svcDecide (s : State) (l : Nat) : Option (Nat × Nat × Arb × Arb) :=
  let ks := classKids s l
  match ks.foldl (fun a k => match a with
      | none => some (prioOf s l k.1.no)
      | some p => some (min p (prioOf s l k.1.no))) (none : Option Nat) with
  | none => none
  | some p =>
    let ks := ks.filter fun k => prioOf s l k.1.no == p
    (arbDecide 8 (weightOf s l) (ks.map (·.1)) (mget arbDflt s.core.svc l)).bind fun r =>
      (ks.find? fun k => k.1.no == r.1).map fun k => (r.1, k.2.1, r.2, k.2.2)

end Sys2Proof.Machine
end

