-- ==== Sys2Proof/Machine/Fabric.lean ====
section
/-! DEFINITION. The forwarding decision (R139 to R146), storing and enqueueing of frames, frames that a die generates, and
the sending of a granted frame (R121, R122). -/

set_option Elab.async false

namespace Sys2Proof.Machine

/-! ### The forwarding decision -/

/-- What the lookup decides. -/
inductive Route where
  | out (l vc hops : Nat)
  | loc (fn : Nat)
  | misroute
  | unreachable
  | hopLimit
deriving DecidableEq, Repr

/-- The flow hash (R142). -/
def flowHash (f : Frame) : Nat := crc16 (beBytes 4 f.src ++ beBytes 4 f.dest ++ [BitVec.ofNat 8 f.cls])
/-- PLUS (true), MINUS, or none, in a dimension (0 A, 1 B) toward a position (R143). -/
def bankDirection (b : Bank) (dim x h : Nat) : Option Bool :=
  let own := if dim = 0 then b.ownA else b.ownB
  let size := max 1 (if dim = 0 then b.sizeA else b.sizeB)
  match mget 0 (if dim = 0 then b.dirA else b.dirB) x with
  | 0 =>
    let plus := (x + size - own) % size
    let minus := (own + size - x) % size
    if plus < minus then some true else if minus < plus then some false else some (h % 2 == 0)
  | 1 => some true
  | 2 => some false
  | _ => none
/-- Lane-ports of a port whose link is UP. -/
def upLps (s : State) (p : Nat) : List Nat := (portLps s p).filter (linkUp s)
/-- May the lookup take this port (R142)? -/
def portUsable (s : State) (p : Nat) : Bool :=
  portFitted s p && dieUsable s (portDie p) && (portOf s p).admin && !portIsolated s p && !(upLps s p).isEmpty
/-- The port of a direction for a hash, with substitution. -/
def spreadPort (s : State) (dirn h : Nat) : Option Nat :=
  ((List.range 48).map fun i => spreadEntry s s.set.active dirn ((h % 48 + i) % 48)).find? (portUsable s)
def isDateline (b : Bank) (dim : Nat) (plus : Bool) : Bool :=
  let own := if dim = 0 then b.ownA else b.ownB
  let line := if dim = 0 then b.dateA else b.dateB
  let size := max 1 (if dim = 0 then b.sizeA else b.sizeB)
  if plus then own == line else own == (line + 1) % size
/-- Did the frame arrive on a ring lane-port of the dimension? -/
def onRing_ (dim l : Nat) : Bool := let loc := lpLoc l; if dim = 0 then 18 ≤ loc && loc < 24 else 24 ≤ loc && loc < 30
/-- The decision in one dimension that the frame has still to travel. -/
def routeDim (s : State) (inp : Option (Nat × Nat)) (f : Frame) (dim x : Nat) : Route :=
  let b := s.set.active
  let h := flowHash f
  if (if dim = 0 then b.sizeA else b.sizeB) ≤ x then .misroute
  else match bankDirection b dim x h with
    | none => .unreachable
    | some plus =>
      match spreadPort s (2 * dim + (if plus then 0 else 1)) h with
      | none => .unreachable
      | some p =>
        if b.hopLimit ≤ f.hops then .hopLimit
        else
          let post := (match inp with | some (l, vc) => onRing_ dim l && vc % 2 == 1 | none => false) || isDateline b dim plus
          let ls := upLps s p
          .out (ls.getD (h % ls.length) 0) (2 * f.cls + (if post then 1 else 0)) (f.hops + 1)
/-- Lane-ports that expect the endpoint of a tray and slot, their link UP, ascending (Table 3-7). -/
def endpointLps (s : State) (t sl : Nat) : List Nat :=
  (s.net.links.filter fun e => linkUp s e.1 && isScaleUp (lpLoc e.1) &&
    (let x := expectFar s e.1; x.1 == 1 && coT x.2.1 == t && coS x.2.1 == sl)).map (·.1)
/-- The lookup of R141. -/
def lookup (s : State) (inp : Option (Nat × Nat)) (f : Frame) : Route :=
  let d := f.dest
  let b := s.set.active
  if coK d ≠ s.sys.plane ∨ 15 < coA d ∨ 15 < coB d ∨ (coT d = 63 ∧ coS d ≠ 0) then .misroute
  else if coA d ≠ b.ownA then routeDim s inp f 0 (coA d)
  else if coB d ≠ b.ownB then routeDim s inp f 1 (coB d)
  else if coT d = 63 then
    if (f.typ = 6 ∨ f.typ = 7) ∧ coF d ≠ 0xF3 then .misroute else .loc (coF d)
  else
    let ls := endpointLps s (coT d) (coS d)
    if ls.isEmpty then .unreachable else .out (ls.getD (flowHash f % ls.length) 0) f.cls f.hops
/-- Does a frame name another rack (R155)? -/
def otherRack (s : State) (f : Frame) : Bool := coA f.dest != s.set.active.ownA || coB f.dest != s.set.active.ownB

/-- Counts a misroute on the ingress lane-port (R31). -/
def countMisroute (inp : Option Nat) (s : State) : State :=
  let s := onNet (fun n => { n with misroutes := inc32 n.misroutes }) s
  match inp with
  | some l => onLink l (fun k => { k with misroute := inc32 k.misroute }) s
  | none => s
/-- The counts and records of R145. -/
def countLost (r : Route) (inp : Option Nat) (f : Frame) (s : State) : State :=
  match r with
  | .misroute => countMisroute inp s
  | .unreachable =>
    record 0x0484 [(4, f.dest), (2, inp.getD 0xFFFF)] (onCore (fun c => { c with unreachable := inc32 c.unreachable }) s)
  | .hopLimit =>
    record 0x0483 [(4, f.dest), (2, inp.getD 0xFFFF)] (onCore (fun c => { c with hopDiscard := inc32 c.hopDiscard }) s)
  | _ => s

/-! ### Lifting a lane-port (R62) -/

/-- Starts the lift of a dozing lane-port, or ends a doze handshake under way. -/
def liftLp (l : Nat) (s : State) : State :=
  let s := onLink l (fun k => { k with dozeReq := false }) s
  if (lpLanes s l).any fun i => (laneOf s i).power == .doze then
    emit (.block l 3 (dozeBlk 3)) (forEach (lpLanes s l) (fun i => onLane i fun x =>
      if x.power == .doze then
        { x with power := .lifting, lifts := inc32 x.lifts, dozeMs := sat 32 (x.dozeMs + (s.mono - x.dozeAt) / 1750000) }
      else x) s)
  else s

/-! ### Storing and enqueueing -/

def markDepth (s : State) (q : Nat) : Nat := mget 64 s.set.marks q
/-- Is a frame to be marked at the egress edit (R120)? -/
def markNow (s : State) (d q : Nat) (f : Frame) : Bool :=
  f.cls != 0 && f.cls != 1 && !placedC2 s f &&
    ((markDepth s q != 0xFFFFFFFF && markDepth s q ≤ queueDepth s q) || 1 ≤ levelOf s d f.cls)
/-- Appends a stored frame to its leaf queue, lifting the lane-port if it dozes. -/
def enqueue (d q : Nat) (e : QEnt) (s : State) : State :=
  let e := { e with mark := e.mark || markNow s d q e.frame }
  let s := onLeaf q (· ++ [e]) s
  let p := lpPort e.outL
  let s := onCore (fun c => { c with peakDepth := mmod 0 c.peakDepth p (fun n => max n (queueDepth s q)) }) s
  liftLp e.outL s
def nextId (s : State) : Nat × State := (s.core.nextId, onCore (fun c => { c with nextId := c.nextId + 1 }) s)

/-- Stores a frame received on a link: its cells, its charge (R112), then its leaf queue or consumer queue. Answers none
when no cell can be had. -/
def storeRx (l : Nat) (f : Frame) (vc : Nat) (mark : Bool) (dst : Nat × Bool) (r : Nat × Nat × Nat) (elig : Bool)
    (s : State) : Option State :=
  let d := lpDie l
  let n := cellsOf f
  let owner := if dst.2 then dst.1 else 0x100000 + dst.1 % 64
  match allocCells d (l % 128) n owner s with
  | none => none
  | some (ks, s) =>
    let x := nextId s
    let pq := if f.cls = 1 then 0 else 4 * n - creditsOf f
    let e : QEnt := ⟨x.1, d, f, ks, some l, vc, pq, mark, elig, r.1, r.2.1, r.2.2⟩
    let s := chargePool d f.cls pq x.2
    some (if dst.2 then enqueue d dst.1 e s else onCons dst.1 (· ++ [e]) s)
/-- Stores a frame that the die generated, charged to its class pool in full (R112). -/
def storeGen (d : Nat) (f : Frame) (dst : Nat × Bool) (r : Nat × Nat × Nat) (s : State) : Option State :=
  let n := cellsOf f
  let owner := if dst.2 then dst.1 else 0x100000 + dst.1 % 64
  match allocCells d 128 n owner s with
  | none => none
  | some (ks, s) =>
    let x := nextId s
    let e : QEnt := ⟨x.1, d, f, ks, none, 0, 4 * n, false, true, r.1, r.2.1, r.2.2⟩
    let s := chargePool d f.cls (4 * n) x.2
    some (if dst.2 then enqueue d dst.1 e s else onCons dst.1 (· ++ [e]) s)
/-- The consumer queue of a module function on a die; the offset names a tile for function 0xF1. -/
def consKey (d fn : Nat) (f : Frame) : Nat :=
  64 * d + (match fn with
    | 0xF0 => 0
    | 0xF1 => 0x20 + (xOffset f >>> 16) % 32
    | 0xF2 => 1
    | _ => 2)
/-- Can a die source start a frame of this class now (R115, R116)? -/
def genRoom (s : State) (d : Nat) (f : Frame) : Bool :=
  4 * cellsOf f ≤ poolRoom s d f.cls && !sourcesStop s d f.cls && (dieSt s d).waits.all fun w => w.frame.cls != f.cls
/-- Puts a generated frame on its way once its decision is known. -/
def placeGen (d : Nat) (f : Frame) (s : State) : Option State :=
  match lookup s none f with
  | .out l vc h => storeGen d f (leafNo l f.cls (position s l f), true) (l, vc, h) s
  | .loc fn => storeGen d f (if f.typ = 10 then 64 * d + 4 else consKey d fn f, false) (0, 0, 0) s
  | r => some (countLost r none f s)
/-- Sends a frame that die `d` generates: held for another rack under a hold (R155), else stored, else its source waits
for the pool (R116). -/
def inject (d : Nat) (f : Frame) (s : State) : State :=
  let wait := fun (s : State) => onDie d (fun x => { x with waits := x.waits ++ [⟨f, none, 0, []⟩] }) s
  if s.core.held && otherRack s f && f.cls != 1 then
    onCore (fun c => { c with heldFrames := c.heldFrames ++ [⟨0, d, f, [], none, 0, 0, false, false, 0, 0, 0⟩] }) s
  else if genRoom s d f then (placeGen d f s).getD (wait s)
  else wait (if 4 * cellsOf f ≤ poolRoom s d f.cls then s else poolTooFull d f.cls s)
/-- Answers a frame with a NACK (R88). -/
def nack (d : Nat) (f : Frame) (cause : Nat) (s : State) : State := inject d (nackFor s f cause) s

/-! ### Sending a granted frame (R121, R122) -/

/-- The frame as it leaves: link fields of this hop, `CE`, and a fresh `LCRC`; a stomped one with its `ECRC` complemented. -/
def wireFrame (s : State) (l : Nat) (t : TxEnt) (stomp : Bool) : Frame :=
  let k := linkOf s l
  let f := { t.frame with
    vc := t.vc, ce := t.frame.ce || t.mark, seq := k.txSeq, ack := (k.rxNext + 4095) % 4096, ackValid := true, nak := false,
    hops := t.hops, ecrc := if stomp then t.frame.ecrc ^^^ 0xFFFFFFFF else t.frame.ecrc }
  { f with lcrc := lcrcOf f }
def onQstat (q : Nat) (f : QStat → QStat) (s : State) : State :=
  onCore (fun c => { c with qstat := mmod qstatDflt c.qstat q f }) s
/-- Puts an entry after the sent ones of the list. -/
def afterSent (t : TxEnt) (l : List TxEnt) : List TxEnt :=
  l.filter (·.sent) ++ t :: l.filter (fun x => !x.sent && x.id != t.id)
/-- Sends an entry of a lane-port's egress list: steps 2 to 5 of R121. -/
def sendEnt (l : Nat) (t : TxEnt) (stomp : Bool) (s : State) : State :=
  let f := wireFrame s l t stomp
  let s := whenS (t.mark && !t.frame.ce && t.leaf < 0x100000) (onQstat t.leaf fun q => { q with marked := sat 64 (q.marked + 1) }) s
  let s := chargeShapers l t.frame s
  let s := onLink l (fun k => { k with
    txSeq := (k.txSeq + 1) % 4096, txCred := lmod k.txCred t.vc (· - creditsOf t.frame), idleFrom := s.mono,
    txq := afterSent { t with frame := f, started := true, sent := true } k.txq }) s
  let s := emit (.frame l f) s
  if stomp then
    record 0x06C6 [(1, lpDie l), (2, l), (1, 1)] (onDie (lpDie l) (fun x => { x with stomped := inc32 x.stomped }) s)
  else s
/-- Frees an entry's egress-pool cells and takes it off the list. -/
def dropTx (l : Nat) (t : TxEnt) (s : State) : State :=
  let s := freeCells (lpDie l) t.cells s
  let s := onDie (lpDie l) (fun x => { x with egressUsed := x.egressUsed - t.cells.length }) s
  onLink l (fun k => { k with txq := k.txq.filter fun x => x.id != t.id }) s
/-- Is sequence `q` at or before `n`, in the window of R94? -/
def seqLe (q n : Nat) : Bool := (n + 4096 - q) % 4096 < 2048
/-- A cumulative acknowledgement (R95): frees the frames up to `n`. -/
def ackUpTo (l n : Nat) (s : State) : State :=
  let done := (sentEnts (linkOf s l)).filter fun t => seqLe t.frame.seq n
  let s := forEach done (dropTx l) s
  whenS (!done.isEmpty) (onLink l fun k => { k with resends := 0 }) s

end Sys2Proof.Machine
end

