-- ==== Sys2Proof/Machine/Links.lean ====
section
/-! DEFINITION. Lanes and links (R57 to R63, R74 to R76, R93 to R100): powering ports up and down, training, credits,
retry, and the flush of a link. -/

set_option Elab.async false

namespace Sys2Proof.Machine

/-- The events of chapter 04: lane-port, state left, far coordinate seen. -/
def linkEvent (code l : Nat) (left : LinkState) (s : State) : State :=
  record code [(2, l), (1, linkCode left), (4, (linkOf s l).farCoord)] s
/-- Resends the unacknowledged journal records when the mirror lane-port has changed (R366). -/
def mirrorMoved (was : Option Nat) (s : State) : State :=
  match mirrorLp s with
  | some lp =>
    if was != some lp && mirroring s && s.gemel.acked < s.cmd.jseq then emit (.journal lp (s.gemel.acked + 1) s.cmd.jseq) s else s
  | none => s
def setLink (l : Nat) (st : LinkState) (s : State) : State :=
  let was := mirrorLp s
  let s := onLink l (fun k => { k with st := st }) s
  if lpLoc l = 30 then mirrorMoved was s else s
/-- Notes when a link leaves UP (R100). -/
def leaveUp (l : Nat) (s : State) : State :=
  whenS ((linkOf s l).st == .up) (onLink l fun k => { k with downAt := some s.mono }) s

/-! ### Blocks sent -/

/-- Launch power of a lane as a `TRAIN` block carries it (Table 4-11). -/
def launchField (s : State) (lane : Nat) : Nat :=
  if s.id.optics && lane / 4 % 32 < 30 then
    match mfind s.net.opt lane with | some r => ofSigned 16 r.launch | none => 0x8000
  else 0x8000
/-- A `TRAIN` block (Table 4-11): phase 0 IDENT, 1 READY, 2 RETRAIN request. -/
def trainBlk (s : State) (l phase : Nat) : Nat :=
  let p := lpPort l
  ctlBlock 2 ([(246, phase), (214, ownCoord s 0), (211, lpDie l), (206, lpLoc l), (204, lpSub l),
    (202, (portOf s p).split), (201, if vcCount l = 16 then 1 else 0), (200, 1), (188, (linkOf s l).rxNext)] ++
    (List.range 4).map fun i => (124 + 16 * i, launchField s (4 * p + i)))
def sendTrain (l phase : Nat) (s : State) : State := emit (.block l 2 (trainBlk s l phase)) s
/-- `LINK_CTL` with the current cumulative acknowledgement (R95). -/
def sendAck (l : Nat) (nak : Bool) (s : State) : State :=
  emit (.block l 1 (linkCtl (((linkOf s l).rxNext + 4095) % 4096) true nak [])) s
/-- A `NAK`, sent once until an expected frame arrives (R95). -/
def sendNak (l : Nat) (s : State) : State :=
  if (linkOf s l).nakSent then s
  else sendAck l true (onLink l (fun k => { k with nakSent := true, nakTx := inc32 k.nakTx }) s)

/-! ### Flushing and powering down -/

/-- Discards every frame queued on a lane-port and not granted; answers how many with the state. -/
def discardQueued (l : Nat) (s : State) : Nat × State :=
  let qs := lpQueues s l
  let es := qs.flatMap (·.2)
  let s := forEach es dropEnt s
  (es.length, onCore (fun c => { c with leaf := mclear c.leaf (1024 * l) 1024 }) s)
/-- Flushes a link (Table 4-12, last row): the unacknowledged frames and every frame queued, counted in `FLUSHED`. -/
def flushLink (l : Nat) (s : State) : State :=
  let ts := (linkOf s l).txq
  let s := forEach ts (dropTx l) s
  let r := discardQueued l s
  let s := onCore (fun c => { c with updTx := mdel c.updTx l }) r.2
  onLink l (fun k => { k with flushed := sat 32 (k.flushed + ts.length + r.1) }) s
/-- A link DISABLED, its sequences and credits gone and its counters kept. -/
def disableLink (l : Nat) (s : State) : State :=
  let s := flushLink l s
  onLink l (fun k => { linkDflt with
    lcrcErr := k.lcrcErr, nakTx := k.nakTx, nakRx := k.nakRx, replays := k.replays, dup := k.dup, protoErr := k.protoErr,
    retrains := k.retrains, flushed := k.flushed, misroute := k.misroute, farLaunch := k.farLaunch }) s
/-- A lane goes to OFF. -/
def laneDown (i : Nat) (s : State) : State :=
  onLane i (fun x => { x with
    power := .off, lock := false, goodRun := 0, badRun := 0,
    dozeMs := if x.power == .doze then sat 32 (x.dozeMs + (s.mono - x.dozeAt) / 1750000) else x.dozeMs }) s
/-- A lane-port loses its lanes: they go to OFF together, and its link waits for them (Table 4-12). -/
def lanesDown (l : Nat) (s : State) : State :=
  let s := forEach (lpLanes s l) laneDown s
  if (linkOf s l).st = .disabled then s
  else onLink l (fun k => { k with st := .waitLanes, tetherSeq := 0 }) (leaveUp l s)
/-- A port goes down: its links DISABLED, its lanes OFF (R60, Table 4-12). -/
def portDown (p : Nat) (s : State) : State :=
  forEach ((List.range 4).map (4 * p + ·)) laneDown (forEach (portLps s p) disableLink s)

/-! ### Powering up -/

def powerLane (i : Nat) (s : State) : State :=
  onLane i (fun x => if x.power == .off then { x with power := .powering, los := false, lol := false } else x) s
/-- Is the port's bay VALID, or does an override cover the port (R72)? -/
def cartOk (s : State) (p : Nat) : Bool := (bayOf s (portBay p)).cstatus == 0 || overrides s p
/-- May a port's lanes be powered: enabled, its cartridge good, held OFF by no isolation, its stages closed? -/
def portLive (s : State) (p : Nat) : Bool :=
  (portOf s p).admin && cartOk s p && portFitted s p && dieUsable s (portDie p) && !portIsolated s p && !s.env.stagesOpen &&
    s.sys.st != .quenched
/-- A port's links leave DISABLED and its lanes power up; the die's fast clock lifts (R60, R125). -/
def portUp (p : Nat) (s : State) : State :=
  if portLive s p then
    let s := forEach (portLps s p) (fun l s =>
      if (linkOf s l).st = .disabled && !(lpLoc l == 30 && isIsolated s (srcId 13 (lpDie l))) then
        onLink l (fun k => { k with st := .waitLanes, tetherSeq := 0 }) s else s) s
    forEach ((List.range 4).map (4 * p + ·)) powerLane s
  else s

/-! ### Training (R99) -/

/-- A link goes to RETRAIN (Table 4-12); from UP it asks the far end and the loss is reported (assumption 45). -/
def retrain (l : Nat) (s : State) : State :=
  let left := (linkOf s l).st
  let s := if left = .up then report (srcId 3 (lpPort l)) 3 (sendTrain l 2 (leaveUp l s)) else s
  let s := linkEvent 0x0288 l left s
  onLink l (fun k => { k with st := .retrain, retrains := inc32 k.retrains }) s
/-- Credits and totals at 0 (R93). -/
def creditZero (l : Nat) (s : State) : State :=
  onLink l (fun k => { k with txCred := z16, lastCret := z16, rxFreed := z16, rxSent := z16 }) s
/-- Cumulative totals that advertise `n` credits in steps of at most 2,048. -/
def advSteps : Nat → Nat → Nat → List Nat
  | 0, _, _ => []
  | fuel + 1, done, n => if n ≤ 2048 then [(done + n) % 4096] else (done + 2048) % 4096 :: advSteps fuel (done + 2048) (n - 2048)
/-- Advertises each VC's allocation (R93). -/
def advertise (l : Nat) (s : State) : State :=
  forEach (List.range (vcCount l)) (fun v s =>
    let n := credAlloc s l v
    if n = 0 then s
    else
      let s := forEach (advSteps 17 0 n) (fun t => emit (.block l 1 (linkCtl 0 false false [(v, t)]))) s
      onLink l (fun k => { k with rxFreed := lmod k.rxFreed v (fun t => (t + n) % 4096), rxSent := lmod k.rxSent v (fun t => (t + n) % 4096) }) s) s
/-- READY: the link goes to CREDIT_INIT. -/
def goReady (l : Nat) (s : State) : State := setLink l .creditInit (creditZero l (sendTrain l 1 s))
/-- Records a miscabling: expected and seen far ends, with the far `SPLIT` and `VC16` (R75, R99). -/
def recordMiscabled (l : Nat) (s : State) : State :=
  let k := linkOf s l
  record 0x0383 [(2, lpPort l), (4, (expectFar s l).2.1), (4, k.farCoord), (2, k.farPort.getD 0xFFFF), (1, k.farSplit),
    (1, bit k.farVc16 0)] s
/-- Does the far end seen match the expected one in bits [31:8] and port (R75)? -/
def farMatches (s : State) (l : Nat) : Bool :=
  let k := linkOf s l
  let x := expectFar s l
  x.1 != 0 && x.2.1 >>> 8 == k.farCoord >>> 8 && (match x.2.2 with | some p => k.farPort == some p | none => true)
/-- Its `SPLIT` and `VC16` fit. -/
def farFits (s : State) (l : Nat) : Bool :=
  let k := linkOf s l
  k.farSplit == (portOf s (lpPort l)).split && k.farVc16 == (vcCount l == 16)
/-- Is a far end that does not match admitted by `ACCEPT_SEEN`, none having been seen under it before (R75)? -/
def seenAdmits (s : State) (l : Nat) : Bool := (portOf s (lpPort l)).overSeen && !mhas s.net.expectSeen l
/-- The far end seen becomes the expected one. -/
def takeSeen (l : Nat) (s : State) : State :=
  let k := linkOf s l
  onNet (fun n => { n with expectSeen := mput n.expectSeen l (k.farCoord, k.farPort.getD 0xFFFF) }) s
/-- Order of the far end's lanes against the record's `FAR_LANE` fields (R76). -/
def laneOrder (s : State) (l : Nat) : Bool :=
  (lpLanes s l).any fun i => (laneMap s i).any fun m => m.farLane != (laneOf s i).farLane % 4
/-- Judges the far identity in EXCHANGE or MISCABLED. -/
def judgeFar (l : Nat) (s : State) : State :=
  let st := (linkOf s l).st
  if !farFits s l then (if st = .exchange then setLink l .miscabled (recordMiscabled l s) else s)
  else if farMatches s l then
    goReady l (whenS (laneOrder s l) (record 0x0384 [(2, lpPort l)]) s)
  else if seenAdmits s l then goReady l (takeSeen l s)
  else if st = .exchange then setLink l .miscabled (recordMiscabled l s)
  else s
/-- Resends a lane-port's unacknowledged frames in order. -/
def resendAll (l : Nat) (s : State) : State :=
  let s := forEach (sentEnts (linkOf s l)) (fun t => emit (.frame l t.frame)) s
  onLink l (fun k => { k with replays := inc32 k.replays, idleFrom := s.mono }) s
/-- Far READY: retry resumes from the far `NEXT_RX` and credits are advertised (R93, R99, R100). -/
def enterUp (l nextRx : Nat) (s : State) : State :=
  let old := (sentEnts (linkOf s l)).filter fun t => !seqLe nextRx t.frame.seq
  let s := forEach old (dropTx l) s
  let held := sentEnts (linkOf s l)
  let s := if held.isEmpty then onLink l (fun k => { k with txSeq := nextRx }) s
    else forEach held (fun t => emit (.frame l t.frame)) s
  let s := advertise l s
  let s := linkEvent 0x0287 l .creditInit s
  onLink l (fun k => { k with st := .up, downAt := none, resends := 0, nakSent := false, dozeReq := false, idleFrom := s.mono }) s
/-- A link whose lanes are all ACTIVE starts to lock (Table 4-12). -/
def lanesReady (l : Nat) (s : State) : State :=
  if (linkOf s l).st = .waitLanes && lanesActive s l then onLink l (fun k => { k with st := .locking, tetherSeq := 0 }) s else s
/-- The resend limit of R96: after eight resends without a new acknowledgement the link retrains. -/
def resendOrRetrain (l : Nat) (s : State) : State :=
  if 8 ≤ (linkOf s l).resends then retrain l s
  else resendAll l (onLink l (fun k => { k with resends := k.resends + 1 }) s)

end Sys2Proof.Machine
end

