-- ==== Sys2Proof/Machine/Mem.lean ====
section
/-! DEFINITION. Memory operations: HBM behind the scrub map (R37, R48), bad blocks (R307), scratchpads, baskets' places. -/

set_option Elab.async false

namespace Sys2Proof.Machine

/-! ### HBM, by module address -/

/-- Is the 64 KiB granule of an address marked (R48)? -/
def marked (s : State) (a : Nat) : Bool :=
  match mfind s.net.scrub (a / gib) with
  | some filled => !filled.contains (a % gib / 65536)
  | none => false
/-- One byte as a window shows it: a marked granule reads 0 (R48, R288). -/
def hbmByte (s : State) (a : Nat) : Byte := if marked s a then 0 else memGet s.mem.hbm a
def hbmRead (s : State) (a n : Nat) : List Byte := (List.range n).map fun i => hbmByte s (a + i)
/-- Zero-fills a marked granule and clears its mark (R48). -/
def fillGranule (a : Nat) (s : State) : State :=
  if marked s a then
    let g := a / 65536 * 65536
    let s := onMem (fun m => { m with hbm := memZero m.hbm g 65536, bad := mclear m.bad (g / 512) 128 }) s
    onNet (fun n => { n with scrub := mput n.scrub (a / gib) (a % gib / 65536 :: (mfind n.scrub (a / gib)).getD []) }) s
  else s
/-- Marks every granule of a 1 GiB region. -/
def markRegion (r : Nat) (s : State) : State := onNet (fun n => { n with scrub := mput n.scrub r [] }) s
/-- The units of `w` bytes that `[a, a + n)` touches. -/
def unitsOf (w a n : Nat) : List Nat := if n = 0 then [] else (List.range ((a + n - 1) / w - a / w + 1)).map (a / w + ·)
/-- The 512-byte blocks that `[a, a + n)` covers whole. -/
def wholeBlocks (a n : Nat) : List Nat := (unitsOf 512 a n).filter fun b => a ≤ 512 * b && 512 * b + 512 ≤ a + n
/-- Writes bytes: marked granules are zero-filled first; a block covered whole gets a fresh CRC (R307). -/
def hbmWrite (a : Nat) (bs : List Byte) (s : State) : State :=
  let s := forEach (unitsOf 65536 a bs.length) (fun g => fillGranule (65536 * g)) s
  onMem (fun m => { m with
    hbm := memWrite m.hbm a bs, bad := (wholeBlocks a bs.length).foldl mdel m.bad }) s
/-- Does a block that `[a, a + n)` touches fail its CRC-32 (R307)? -/
def hbmBad (s : State) (a n : Nat) : Bool := (unitsOf 512 a n).any fun b => mget false s.mem.bad b
/-- Does a write of `[a, a + n)` merge into a bad block? -/
def mergesBad (s : State) (a n : Nat) : Bool :=
  ((unitsOf 512 a n).filter fun b => !(wholeBlocks a n).contains b).any fun b => mget false s.mem.bad b
/-- A block found bad: noted, and reported as an uncorrectable error of its stack. -/
def badBlock (a : Nat) (s : State) : State :=
  report (srcId 5 (hbmStack a)) 7 (onMem (fun m => { m with bad := mput m.bad (a / 512) true }) s)

/-! ### Scratchpads (R185): tile·2 MiB + byte -/

def spadRead (s : State) (t o n : Nat) : List Byte := memRead s.tile.spad (t * 0x200000 + o) n
def spadWrite (t o : Nat) (bs : List Byte) (s : State) : State :=
  onTile (fun x => { x with spad := memWrite x.spad (t * 0x200000 + o) bs }) s
def spadZero (t o n : Nat) (s : State) : State := onTile (fun x => { x with spad := memZero x.spad (t * 0x200000 + o) n }) s

/-! ### Baskets -/

/-- The module HBM address of a basket block. -/
def basketAddr (s : State) (d blk : Nat) : Nat := d * shardB + basketBase s + 65536 * blk
def basketRead (s : State) (b : Basket) (o n : Nat) : List Byte :=
  match b with
  | .page d t p => spadRead s (32 * d + t) (65536 * p + o) n
  | .hbm d k => hbmRead s (basketAddr s d k + o) n
def basketWrite (b : Basket) (o : Nat) (bs : List Byte) (s : State) : State :=
  match b with
  | .page d t p => spadWrite (32 * d + t) (65536 * p + o) bs s
  | .hbm d k => hbmWrite (basketAddr s d k + o) bs s
def basketZero (b : Basket) (s : State) : State :=
  match b with
  | .page d t p => spadZero (32 * d + t) (65536 * p) 65536 s
  | .hbm d k => hbmWrite (basketAddr s d k) (List.replicate 65536 0) s

end Sys2Proof.Machine
end

