-- ==== Sys2Proof/Machine/Sides.lean ====
section
/-! DEFINITION. Sides of the state: seals asked for, sides reopened, drains abandoned, page restores asked for
(R332 to R334, R336, R342). -/

set_option Elab.async false

namespace Sys2Proof.Machine

def sideOf (s : State) (sd : Nat) : Side := if sd = 0 then s.snap.sideA else s.snap.sideB
def onSide (sd : Nat) (f : Side → Side) (s : State) : State :=
  onSnap (fun x => if sd = 0 then { x with sideA := f x.sideA } else { x with sideB := f x.sideB }) s
/-- The side whose region holds an address. -/
def sideAt (s : State) (a : Nat) : Option Nat :=
  if hbmRole s a = 0 then some 0 else if hbmRole s a = 1 then some 1 else none
/-- Slices bound to a side's regions on a die. -/
def sideSlices (s : State) (sd d : Nat) : List Nat :=
  (List.range s.set.plan.sideGib).map fun g => (bindOf s 5 (96 * d + sd * s.set.plan.sideGib + g)).slice
def oneSlice (l : List Nat) : Bool := match l with | [] => true | a :: r => r.all (· == a)
/-- Why a side cannot be sealed (R332, R334). -/
def sealRefusal (s : State) (sd : Nat) : Option Nat :=
  if !s.set.updBinds.isEmpty && (sideOf s sd).wholeAt.isNone then some 0x0A03
  else if !(dies s).all (fun d => oneSlice (sideSlices s sd d)) then some 0x0A07
  else none
/-- The step that a seal names: the one at which the side is whole, or the command's. -/
def sealStep (s : State) (sd step : Nat) : Nat :=
  if s.set.updBinds.isEmpty then step else (sideOf s sd).wholeAt.getD 0
/-- Asks for a seal, which takes effect once every write to the side has been performed (R333). -/
def askSeal (sd step : Nat) (auto : Bool) (s : State) : State :=
  let k := sealStep s sd step
  if (sideOf s sd).sealed && (sideOf s sd).step == k then s
  else onSide sd (fun x => { x with pending := some (k, s.set.updBinds.isEmpty, auto) }) s
/-- An object's superblocks are erased in the background and it is gone from the array (R351). -/
def freeObj (id : Nat) (s : State) : State :=
  match mfind s.flash.objs id with
  | some o => onFlash (fun x => { x with
      supers := o.blocks.foldl (fun m b => mmod superDflt m b fun y => { y with st := if y.st = 3 then 3 else 2 }) x.supers,
      objs := mdel x.objs id, progs := x.progs.filter (·.object != id) }) s
  | none => s
def sameDrain (a b : Drain) : Bool := a.tier == b.tier && a.target == b.target && a.snapId == b.snapId
/-- Takes a drain, and the copy it was writing, away. -/
def dropDrain (d : Drain) (s : State) : State :=
  let s := onSnap (fun x => { x with
    drains := x.drains.filter (fun y => !sameDrain y d), lastStart := x.lastStart.set (d.tier - 1) none }) s
  let s := modSet (fun t => { t with
    copies := t.copies.filter fun c => !(c.1 == d.tier && c.2.snapId == d.snapId && c.2.target == d.target && c.2.st == 1) }) s
  if d.tier = 2 then freeObj d.snapId s else s
/-- Abandons a drain; its ticket, if it has one, fails (assumption 50). -/
def abandonDrain (d : Drain) (s : State) : State :=
  let s := dropDrain d s
  let s := record 0x0AC3 [(8, d.snapId), (1, d.tier)] s
  match d.ticket with
  | some tk => ticketFail tk 0x0005 s
  | none => s
def abandonSeal (snapId : Nat) (s : State) : State :=
  forEach (s.snap.drains.filter fun d => d.snapId == snapId) abandonDrain s
/-- A side returns to OPEN. -/
def reopenSide (sd : Nat) (s : State) : State :=
  let x := sideOf s sd
  if x.sealed then
    onSide sd (fun y => { y with sealed := false, snapId := 0, step := 0, ftSeal := 0, header := [], acks := 0 }) (abandonSeal x.snapId s)
  else s
/-- A write reaches an address: a SEALED side that it falls in returns to OPEN (R333). -/
def sideWritten (a : Nat) (s : State) : State := match sideAt s a with | some sd => reopenSide sd s | none => s
/-- A write of a step reaches a side, which is whole no more (R279, R332). -/
def stepWritten (a : Nat) (s : State) : State :=
  match sideAt s a with
  | some sd => onSide sd (fun y => { y with wholeAt := none }) (reopenSide sd s)
  | none => s

/-! ### Pages (R342) -/

/-- Bytes of a sealed side that a copy holds on a die (R335): its header's `EXTENT` field. -/
def extentOf (h : List Byte) (d : Nat) : Nat := rdLe h (0x60 + 8 * d) 8
/-- Does a tier hold an acknowledged copy of a seal? A DAMAGED object's readable pages still serve (R356). -/
def tierHas (s : State) (tier snapId : Nat) : Bool :=
  s.set.copies.any fun c => c.1 == tier && c.2.snapId == snapId && (c.2.st == 0 || (tier == 2 && c.2.st == 2))
def nextTier (s : State) (after snapId : Nat) : Option Nat := [1, 2, 3].find? fun t => after < t && tierHas s t snapId
def snapExt (snapId kind slot addr : Nat) : Nat := (snapId <<< 192) + (kind <<< 188) + (slot <<< 187) + (addr <<< 136)
/-- The twin slot of a tier-1 copy. -/
def copySlot (s : State) (tier snapId : Nat) : Nat :=
  ((s.set.copies.find? fun c => c.1 == tier && c.2.snapId == snapId).map (·.2.place)).getD 0
/-- Sends a `SNAP` frame to the twin from a die's mover, over the die's mooring port (R337). -/
def snapFrame (s : State) (snapId kind slot addr : Nat) (p : List Byte) : Frame :=
  mkFrame ((s.gemel.mirCoord >>> 8 <<< 8) + 0xF0) (ownCoord s 0xF0) 7 10 0 0 0 (some (snapExt snapId kind slot addr)) p
/-- A `SNAP` frame in the mooring lane-port's leaf queue. -/
def sendSnap (d : Nat) (f : Frame) (s : State) : State :=
  let l := moorLp d
  if genRoom s d f then (storeGen d f (leafNo l 7 0, true) (l, 7, 0) s).getD s
  else onDie d (fun x => { x with waits := x.waits ++ [⟨f, none, 0, [(l, 7, 0)]⟩] }) s
/-! ### Commands to tier-3 targets (R102, R103, R338) -/

/-- The storage port in use: the lowest-numbered die's whose link is UP. -/
def storPort (s : State) : Nat := 32 * (((dies s).find? fun d => linkUp s (storLp d)).getD 0) + 31
def qpDflt : QPair := ⟨0, 0, 0, [], 0, 100, 0⟩
def onQp (t : Nat) (f : QPair → QPair) (s : State) : State := onNet (fun n => { n with qps := mput n.qps t (f (mget qpDflt n.qps t)) }) s
/-- Sends a packet on the storage port, or keeps it while its priority is paused. -/
def sendEth (p : EthPkt) (s : State) : State := if mget 0 s.net.pfcXoff (storPort s) = 1 then s else emit (.eth (storPort s) p) s
/-- A command to a target: 0 write, 1 flush, 2 read, 3 connect, 4 keep alive; its capsule goes on the target's queue pair. -/
def nvmeSend (t kind addr : Nat) (bs : List Byte) (s : State) : State :=
  let psn := (mget qpDflt s.net.qps t).psn
  let cap := leBytes 1 kind ++ leBytes 8 addr
  let s := onQp t (fun q => { q with target := t, psn := (psn + 1) % 2 ^ 24, unacked := q.unacked ++ [(psn, cap)] }) s
  sendEth (.roce t psn false 4 addr cap) (emit (.nvme t kind addr bs) s)

/-- The page cannot be had (R342). -/
def pageLost (p : PageRestore) (s : State) : State :=
  record 0x0AC5 [(1, p.side), (8, p.addr), (1, p.tier)]
    (onSnap (fun x => { x with pages := x.pages.filter (· != p) }) s)
/-- Asks a tier for a page: PAGE_REQ to the twin, a read of local flash or of the target. -/
def askPage (p : PageRestore) (s : State) : State :=
  let x := sideOf s p.side
  let s := onSnap (fun y => { y with pages := p :: y.pages.filter fun q => !(q.side == p.side && q.addr == p.addr) }) s
  match p.tier with
  | 1 => sendSnap (p.addr / shardB) (snapFrame s x.snapId 3 (copySlot s 1 x.snapId) p.addr []) s
  | 3 =>
    let t := ((s.set.copies.find? fun c => c.1 == 3 && c.2.snapId == x.snapId).map (·.2.target)).getD 0
    nvmeSend t 2 p.addr [] s
  | _ => s
/-- Requests the restore of the page of a bad block (R342). -/
def restorePage (a : Nat) (s : State) : State :=
  match sideAt s a with
  | none => record 0x0AC5 [(1, 0xFF), (8, a), (1, 0)] s
  | some sd =>
    let x := sideOf s sd
    let pg := a / 4096 * 4096
    let w := pg % shardB - sideBase s sd
    if s.snap.pages.any (fun p => p.side == sd && p.addr == pg) then s
    else if !x.sealed || extentOf x.header (a / shardB) ≤ w then pageLost ⟨sd, pg, 0⟩ s
    else match nextTier s 0 x.snapId with
      | some t => askPage ⟨sd, pg, t⟩ s
      | none => pageLost ⟨sd, pg, 0⟩ s

end Sys2Proof.Machine
end

