-- ==== Sys2Proof/Machine/Groups.lean ====
section
/-! DEFINITION. Groups (chapter 09): shapes, sources, frames, tiles' queues, baskets and their claims. -/

set_option Elab.async false

namespace Sys2Proof.Machine

/-! ### Records -/

def onGroup (g : Nat) (f : Group → Group) (s : State) : State :=
  onTile (fun x => { x with groups := mput x.groups g (f (mget groupDflt x.groups g)) }) s
def onSeq (g seq : Nat) (f : Sequence → Sequence) (s : State) : State :=
  match seqOf s g seq with
  | some q => onGroup g (fun x => { x with seqs := mput x.seqs (seq % 256) (seq, f q) }) s
  | none => s
def onChunk (g seq c : Nat) (f : Chunk → Chunk) (s : State) : State :=
  onSeq g seq (fun q => { q with chunks := mput q.chunks c (f (chunkIn q c)) }) s

/-! ### Shapes (R222, R224) -/

/-- Members that a chunk's results are owed to (R223). -/
def owedTo_ (k : GroupCfg) (q : Sequence) (c : Nat) : List (Nat × Nat) :=
  match q.op with
  | 1 => k.entries.filter fun e => e.1 == q.root
  | 2 => k.entries.filter fun e => e.1 == c * chunkElems k.mode q / max 1 q.count
  | _ => k.entries
/-- Sources of a chunk (R226). -/
def sourcesOf (k : GroupCfg) (c : Nat) : List Nat := List.range k.entries.length ++ (childrenOf k (c % 2)).map (·.2.2)
/-- The fold order of ORDERED (R226): ascending member index, then the children. -/
def foldOrder (k : GroupCfg) (c : Nat) : List Nat :=
  let L := k.entries.length
  let ins := (k.entries.zipIdx).foldl (fun (l : List (Nat × Nat)) e =>
    (l.filter fun x => x.1 < e.1.1) ++ (e.1.1, e.2) :: l.filter fun x => e.1.1 < x.1) []
  ins.map (·.2) ++ (childrenOf k (c % 2)).map (fun x => x.2.2) |>.filter fun i => i < L + 2

/-! ### Homes (R225, R242, R272) -/

/-! ### Frames -/

def contribExt (g seq member kind : Nat) (q : Sequence) (note chunk piece epoch status sub : Nat) : Nat :=
  (g <<< 240) + (seq <<< 208) + (member <<< 192) + (kind <<< 188) + (q.op <<< 184) + (q.oper <<< 180) + (note <<< 176) +
    (q.numctl <<< 160) + (q.count <<< 128) + (chunk <<< 104) + (piece <<< 100) + (epoch <<< 92) + ((q.root % 65536) <<< 76) +
    (status <<< 72) + (sub <<< 68)
def resultExt (g seq member kind : Nat) (q : Sequence) (status chunk piece epoch n flags sub : Nat) : Nat :=
  (g <<< 240) + (seq <<< 208) + (member <<< 192) + (kind <<< 188) + (q.op <<< 184) + (q.oper <<< 180) + (status <<< 176) +
    (q.numctl <<< 160) + (q.count <<< 128) + (chunk <<< 104) + (piece <<< 100) + (epoch <<< 92) + (n <<< 76) +
    (flags <<< 72) + (sub <<< 68)
def xCount (f : Frame) : Nat := bitsAt (extOf f) 159 128
def xChunk (f : Frame) : Nat := bitsAt (extOf f) 127 104
def xPiece (f : Frame) : Nat := bitsAt (extOf f) 103 100
def xEpoch (f : Frame) : Nat := bitsAt (extOf f) 99 92
def xRoot (f : Frame) : Nat := bitsAt (extOf f) 91 76
def xStatus (f : Frame) : Nat := bitsAt (extOf f) 75 72
def xSub (f : Frame) : Nat := bitsAt (extOf f) 71 68
/-- The die that sends what belongs to no chunk: the lowest usable one of the mask. -/
def groupDie (s : State) (k : GroupCfg) : Nat := (nextUsable s (maskDies s k) 0).getD 0
/-- Sends a frame of the group path to a coordinate from a die. -/
def sendGroup (d g dest gen typ cls ext : Nat) (p : List Byte) (s : State) : State :=
  inject d (mkFrame dest (ownCoord s 0xF3) cls typ (groupSlice s g) gen 0 (some ext) p) s
/-- A notice (R233, R240, R221) to a neighbour: 0 FALLBACK, 1 RECOMPUTE, 2 TREE_DONE. -/
def sendNote (g seq : Nat) (dst : Nat × Nat) (note c epoch status : Nat) (s : State) : State :=
  match seqOf s g seq with
  | some q => sendGroup (groupDie s (gcfg s g)) g dst.1 dst.2 6 q.cls (contribExt g seq 0xFFFF 2 q note c 0 epoch status 0) [] s
  | none => s
def noteParent (g seq c note epoch status : Nat) (s : State) : State :=
  let t := treeOf (gcfg s g) (c % 2)
  if t.parent = 0 then s else sendNote g seq (t.parent, t.parentGen) note c epoch status s
def noteChildren (g seq j note c epoch status : Nat) (s : State) : State :=
  forEach (childrenOf (gcfg s g) j) (fun x => sendNote g seq (x.1, x.2.1) note c epoch status) s
/-- A NACK of cause `RESEND` for every piece of a chunk, to one local member (R233, R240). -/
def resendNack (g seq c epoch : Nat) (e : Nat × Nat) (s : State) : State :=
  match seqOf s g seq with
  | some q =>
    let gen := (bindOf s 4 g).gen
    let x := contribExt g seq e.1 3 q 0 c 0 epoch 0 0
    let ext := (5 <<< 248) + (6 <<< 243) + (q.cls <<< 240) + (ownCoord s 0xF3 <<< 208) + (gen <<< 192) + (x >>> 64)
    inject (groupDie s (gcfg s g)) (mkFrame e.2 (ownCoord s 0xF3) 3 5 (groupSlice s g) 0 0 (some ext) []) s
  | none => s

/-! ### Updraft frames (Table 10-1) -/

/-- The extension of an `UPDRAFT` frame. -/
def updExt (g seq member kind : Nat) (q : Sequence) (note dim reach origin status epoch n sub : Nat) (rec_ : Bool) : Nat :=
  (g <<< 240) + (seq <<< 208) + (member <<< 192) + (kind <<< 188) + (q.op <<< 184) + (q.oper <<< 180) + (note <<< 176) +
    (q.numctl <<< 160) + ((q.count % 256) <<< 152) + (dim <<< 150) + (reach <<< 144) + (origin <<< 140) + (status <<< 136) +
    (epoch <<< 128) + ((q.root % 65536) <<< 112) + (n <<< 96) + (sub <<< 88) + bit rec_ 87
/-- Offers a C1 frame at the port level of the lane-port that its destination lies behind (R164). -/
def sendC1 (f : Frame) (s : State) : State :=
  match lookup s none f with
  | .out l vc h => liftLp l (onCore (fun c => { c with updTx := mmod [] c.updTx l (· ++ [(f, vc, h)]) }) s)
  | r => countLost r none f s
/-- A `RESULT` of the updraft path to a member: its COMPLETE (R252). -/
def updResult (g seq : Nat) (q : Sequence) (status epoch : Nat) (rec_ : Bool) (p : List Byte) (e : Nat × Nat) (s : State) : State :=
  let parts := if p.isEmpty then [[]] else chunksOf 64 p
  forEach (parts.zipIdx) (fun x s =>
    sendC1 (mkFrame e.2 (ownCoord s 0xF3) 1 8 (groupSlice s g) (bindOf s 4 g).gen 0
      (some (updExt g seq 0xFFFF 2 q 0 0 0 0 status epoch (gcfg s g).members x.2 rec_)) x.1) s) s

/-! ### Tiles (R187, R188, R261) -/

/-- Starts a gated tile's lift; its die's fast clock lifts first when it is stopped. -/
def liftTile (t : Nat) (s : State) : State :=
  if (tileOf s t).st = .gated ∧ tileUsable s t then
    onTileU t (fun x => { x with st := .lifting, lifts := inc32 x.lifts }) s
  else s
/-- Writes an entry to a tile's queue, which lifts a gated tile. -/
def pushEntry (t : Nat) (e : TileEntry) (s : State) : State :=
  liftTile t (onTileU t (fun x => { x with queue := x.queue ++ [e], idleFrom := s.mono }) s)
/-- The tile that serves a basket: its own, or for an HBM basket the die's tile (number mod 32). -/
def basketTile : Basket → Nat
  | .page d t _ => 32 * d + t
  | .hbm d k => 32 * d + k % 32
/-- Is the entry of a sequence? -/
def entryIn (g seq : Nat) (c : Option Nat) : TileEntry → Bool
  | .combine g' s' c' _ _ => g' == g && s' == seq && (c == none || c == some c')
  | .finalise g' s' c' _ => g' == g && s' == seq && (c == none || c == some c')
  | .update g' s' c' => g' == g && s' == seq && (c == none || c == some c')
/-- Takes a chunk's (or a whole sequence's) entries, and an entry running for it, off every tile. -/
def dropEntries (g seq : Nat) (c : Option Nat) (s : State) : State :=
  forEach (s.tile.tiles.map (·.1)) (fun t => onTileU t fun x => { x with
    queue := x.queue.filter fun e => !entryIn g seq c e,
    run := match x.run with
      | some r => if r.group = g && r.seq = seq && (c == none || c == some r.chunk) then none else x.run
      | none => none,
    outDma := x.outDma.filter fun m => !(m.group == g && m.seq == seq && (c == none || c == some m.chunk)) }) s

/-! ### Baskets in use (R230) -/

def fastRoom (s : State) (g d n : Nat) : Bool := promised s d g n (·.fastQuota) (heldBy s (isPageOn d)) ≤ pagesTotal s d
def hbmRoom (s : State) (g d : Nat) : Bool := promised s d g 1 (·.hbmQuota) (heldBy s (isBlockOn d)) ≤ blocksTotal s
def stageRoom (s : State) (g d n : Nat) : Bool := promised s d g n (·.stageQuota) (stagedBy s d) ≤ stageTotal s
/-- The lowest tile with `n` free pages that may serve a slice, and its lowest pages. -/
def findPages (s : State) (d slice n : Nat) : Option (List Basket) :=
  ((usableTiles s d).find? fun t =>
      let b := (bindOf s 3 t).slice
      (b == slice || b == 0) && !namesTile s t && n ≤ (freePages s t).length).map fun t =>
    ((freePages s t).take n).map (.page d (t % 32))
/-- A page and `w` consecutive pages for staging, lowest first, on one tile (assumption 52). -/
def findStages (s : State) (d slice w : Nat) : Option (List Basket) :=
  (usableTiles s d).findSome? fun t =>
    let b := (bindOf s 3 t).slice
    if !(b == slice || b == 0) || namesTile s t then none
    else
      let fr := freePages s t
      fr.head?.bind fun p =>
        ((List.range 32).find? fun a => (List.range w).all fun i => a + i != p && fr.contains (a + i)).map fun a =>
          (p :: (List.range w).map (a + ·)).map (.page d (t % 32))
def lowestBlock (s : State) (d : Nat) : Nat → Nat → Option Nat
  | 0, _ => none
  | n + 1, k => if basketUsed s (.hbm d k) then lowestBlock s d n (k + 1) else some k
def findBlock (s : State) (d : Nat) : Option Nat :=
  (lowestBlock s d ((heldChunks s).length + 1) 0).bind fun k => if k < blocksTotal s then some k else none

/-! ### Update regions (R272, R273, R277) -/

/-- The state region of a chunk on a side. -/
def stateRegion (s : State) (k : GroupCfg) (q : Sequence) (b : UpdBind) (c side : Nat) : Nat :=
  let ds := maskDies s k
  let r := ordinalOf k c
  ds.getD (r % max 1 ds.length) 0 * shardB + sideBase s side + b.sideOff +
    r / max 1 ds.length * (chunkElems k.mode q * progState s b.prog)
/-- The side-X read that the claim of an update chunk starts (R277, step 1). -/
def startStateRead (g seq c : Nat) (s : State) : State :=
  match seqOf s g seq with
  | none => s
  | some q =>
    match updBindOf s q with
    | none => s
    | some b =>
      let k := gcfg s g
      let a := stateRegion s k q b c ((updStep q + 1) % 2)
      let len := chunkElems k.mode q * progState s b.prog
      forEach ((chunkIn q c).stages.zipIdx) (fun e s =>
        match e.1 with
        | .page d t p =>
          onTileU (32 * d + t) (fun x => { x with
            outDma := x.outDma ++ [⟨g, seq, c, false, 65536 * p, a + 65536 * e.2, min 65536 (len - 65536 * e.2)⟩] }) s
        | .hbm _ _ => s) s

/-! ### Claims (R230 to R232, R235, R275) -/

/-- Gives a claimed chunk its basket; a basket last claimed by another slice is zeroed first (R40). -/
def grantBasket (g seq c : Nat) (b : Basket) (stages : List Basket) (mib : Nat) (s : State) : State :=
  let sl := groupSlice s g
  let s := forEach (b :: stages) (fun b s =>
    let s := whenS (mget 0 s.tile.basketSlice (basketKey b) != sl) (basketZero b) s
    onTile (fun x => { x with basketSlice := mset 0 x.basketSlice (basketKey b) sl }) s) s
  let s := onChunk g seq c (fun h => { h with
    basket := some b, stages := stages, stageMiB := mib, waitSince := none, home := basketDie b }) s
  let s := onTile (fun x => { x with claimAt := mput x.claimAt (basketDie b) (s.mono, g) }) s
  liftTile (basketTile b) (startStateRead g seq c s)
/-- Staging that an ORDERED chunk takes, in MiB (R226). -/
def stageNeed (k : GroupCfg) (q : Sequence) : Nat :=
  if k.mode = 1 then
    (k.entries.length * payloadBytes (ncFmt q.numctl) (operOf q) (chunkElems k.mode q) + 1048575) / 1048576
  else 0
/-- One chunk's claim; none when the die has no basket or staging for it. -/
def claimOne (g seq c : Nat) (s : State) : Option State :=
  match seqOf s g seq with
  | none => some s
  | some q =>
    let k := gcfg s g
    let ch := chunkIn q c
    let upd := updAt k q c
    if ch.basket.isSome || ch.passed || ch.finished then some s
    else
      let d? := if upd then (if shardOk s (homeOf s k q seq c) then some (homeOf s k q seq c) else none)
        else nextUsable s (maskDies s k) (if ch.recomputed then ch.home else homeOf s k q seq c)
      d?.bind fun d =>
        let n := 1 + (if upd then stagePagesFor s k q else 0)
        let mib := stageNeed k q
        if !stageRoom s g d mib then none
        else
          match (if fastRoom s g d n then (if upd then findStages s d (groupSlice s g) (n - 1) else findPages s d (groupSlice s g) n)
              else none) with
          | some (b :: r) => some (grantBasket g seq c b r mib s)
          | _ =>
            if upd || !k.gflags.testBit 1 || !shardOk s d || !hbmRoom s g d then none
            else (findBlock s d).map fun blk => grantBasket g seq c (.hbm d blk) [] mib s
/-- A claim of several chunks, all or nothing. -/
def claimAll (g seq : Nat) : List Nat → State → Option State
  | [], s => some s
  | c :: r, s => (claimOne g seq c s).bind (claimAll g seq r)
def claimChunks (s : State) (g seq c : Nat) : List Nat :=
  match seqOf s g seq with
  | some q => if c = firstClaim then List.range (min (depthOf (gcfg s g)) (chunkCount (gcfg s g) q)) else [c]
  | none => []
/-- May a sequence claim at all: dynamic groups only (R235), an update step only at the window base (R275)? -/
def mayClaim (s : State) (g seq : Nat) : Bool :=
  match seqOf s g seq with
  | some q => q.dstate == 1 && !schedGroup s g && opReduces q.op && !passesFromStart (gcfg s g) q &&
      (q.op != 6 || seq == (groupOf s g).base)
  | none => false

/-! ### The first-NaN latch (R203) -/

/-- TRAP acts as PROPAGATE for a scheduled group. -/
def traps (s : State) (g : Nat) : Bool := ncTrap (gcfg s g).numctl && !namesGroup s g
/-- A NaN found: fills the latch, or sets `MORE`; a scheduled group's is counted in `NAN_SEEN`. -/
def latchNan (g seq origin opcode member tile nc element : Nat) (s : State) : State :=
  let s := whenS (namesGroup s g) (onSched fun x => { x with nanSeen := inc32 x.nanSeen }) s
  if (groupOf s g).latch.valid then onGroup g (fun x => { x with latch := { x.latch with more := true } }) s
  else
    let l : NanLatch := ⟨true, traps s g, false, origin, opcode, member, seq, tile, nc, element, ftNs s⟩
    let s := onGroup g (fun x => { x with latch := l }) s
    record 0x08C0 [(2, g), (32, leNat (latchBytes g l))] s

end Sys2Proof.Machine
end

