-- ==== Sys2Proof/Machine/Reduce.lean ====
section
/-! DEFINITION. Sequences of a group: opening, results, pieces, completion, failure, pass-through and recomputation
(R216 to R221, R226 to R241, R277, R278). -/

set_option Elab.async false

namespace Sys2Proof.Machine

/-! ### Window and descriptors (R216, R217) -/

/-- Is a sequence in the window of 256? -/
def inWindow (s : State) (g seq : Nat) : Bool := (seq + 2 ^ 32 - (groupOf s g).base) % 2 ^ 32 < 256
def nextSeq (n : Nat) : Nat := (n + 1) % 2 ^ 32
/-- Moves the base past what is DONE or FAILED. -/
def advanceBase : Nat → Nat → State → State
  | 0, _, s => s
  | n + 1, g, s =>
    let b := (groupOf s g).base
    match seqOf s g b with
    | some q => if 2 ≤ q.dstate then advanceBase n g (onGroup g (fun x => { x with base := nextSeq b }) s) else s
    | none => s
/-- Opens a sequence with the fields of the frame that opens it; `root` is 65,536 while no contribution has given it. -/
def openSeq (g seq root : Nat) (f : Frame) (s : State) : State :=
  let q : Sequence := {
    dstate := 1, op := xOp f, oper := xOper f, numctl := xNumctl f, count := xCount f, root := root, cls := f.cls,
    byUpdraft := f.typ == 8, ftOpen := ftNs s, ftDone := 0, status := 0, flags := 0, chunksDone := 0,
    update := mget (List.replicate 64 0) (groupOf s g).updates (seq % 256), chunks := [], nextClaim := 0, treeRx := [],
    treeTx := [], writesDone := false, crcs := [] }
  onGroup g (fun x => { x with seqs := mput x.seqs (seq % 256) (seq, q) }) s

/-! ### Releasing what a chunk holds -/

/-- Takes a chunk's basket and staging away. -/
def dropBasket (g seq c : Nat) (s : State) : State :=
  onChunk g seq c (fun h => { h with basket := none, stages := [], stageMiB := 0 }) s
/-- Discards the frames that wait for a chunk. -/
def dropWaiting (g seq c : Nat) (s : State) : State :=
  let ws := (chunkOf s g seq c).waiting
  onChunk g seq c (fun h => { h with waiting := [], waitSince := none }) (forEach ws dropEnt s)
def dropSeq (g seq : Nat) (s : State) : State :=
  match seqOf s g seq with
  | none => s
  | some q =>
    let s := dropEntries g seq none s
    let s := forEach (q.chunks.map (·.1)) (fun c s => dropBasket g seq c (dropWaiting g seq c s)) s
    onTile (fun x => { x with
      claimWait := x.claimWait.filter fun e => !(e.1 == g && e.2.1 == seq),
      ctxs := x.ctxs.filter fun c => !(c.group == g && c.seq == seq) }) s

/-! ### Audit digests (R326) -/

def audited (s : State) (g : Nat) : Bool := s.set.audited.contains g
/-- Adds a piece of a local member's contribution at byte `pos` of `total` to its CRC-64. -/
def auditPiece (g seq member pos total : Nat) (bs : List Byte) (s : State) : State :=
  if audited s g then
    let v := crc64 (bs ++ List.replicate (total - pos - bs.length) 0)
    onSeq g seq (fun q => { q with crcs := mset 0 q.crcs member (mget 0 q.crcs member ^^^ v) }) s
  else s
/-- The image identity, the update program's digest or zeros. -/
def auditIdent (s : State) (g : Nat) (q : Sequence) : List Byte :=
  if namesGroup s g then s.sched.ident
  else match (if q.op = 6 then updBindOf s q else (bindsOf s g).head?.map (·.2)) with
    | some b => (mfind s.tile.progs b.prog).elim (List.replicate 32 0) fun i => beBytes 32 i.digest
    | none => List.replicate 32 0
def auditSide (s : State) (g : Nat) (q : Sequence) : List Byte :=
  if q.op = 6 && (roots (gcfg s g) 0 || roots (gcfg s g) 1) then sha256 (sideOf s ((updStep q + 1) % 2)).header
  else List.replicate 32 0
/-- Forms a sequence's digest and keeps the last 256 of its group. -/
def auditEnd (g seq : Nat) (s : State) : State :=
  match seqOf s g seq with
  | none => s
  | some q =>
    if audited s g then
      let k := gcfg s g
      let L := k.entries.length
      let ms := (foldOrder { k with tree0 := treeNone, tree1 := treeNone } 0).filterMap fun i => if i < L then k.entries[i]? else none
      let dg := sha256 (auditIdent s g q ++ auditSide s g q ++ ms.flatMap fun e => leBytes 8 (mget 0 q.crcs e.1))
      let old := mget [] s.sched.digests g
      onSched (fun x => { x with
        digests := mput x.digests g (((seq, dg) :: old).take 256),
        auditLost := if old.length < 256 then x.auditLost else mmod 0 x.auditLost g inc32 }) s
    else s

/-! ### Ending a sequence (R220, R221) -/

def resFlags (q : Sequence) : Nat := bit (q.flags.testBit 0) 0 + bit (q.flags.testBit 2) 1
/-- COMPLETE to every local member; of an updraft sequence its `RESULT` without payload. -/
def sendComplete (g seq : Nat) (q : Sequence) (s : State) : State :=
  let k := gcfg s g
  let gen := (bindOf s 4 g).gen
  if q.byUpdraft then forEach k.entries (updResult g seq q q.status 0 false []) s
  else forEach k.entries (fun e =>
    sendGroup (groupDie s k) g e.2 gen 7 q.cls (resultExt g seq 0xFFFF 2 q q.status 0 0 0 k.members (resFlags q) 0) []) s
/-- A DISABLING group that holds nothing (Table 9-2). -/
def groupIdle (s : State) (g : Nat) : Bool :=
  (groupOf s g).seqs.all (fun x => x.2.2.dstate != 1 && x.2.2.chunks.all fun c => (basketsOf c.2).isEmpty && c.2.waiting.isEmpty) &&
    !s.tile.ctxs.any (fun x => x.group == g)
/-- Ends a sequence: its descriptor's last fields at once (R294), COMPLETE where it is still to be sent, the digest, the
window (R216). -/
def closeSeq (g seq status : Nat) (tell : Bool) (s : State) : State :=
  match seqOf s g seq with
  | none => s
  | some q =>
    let st := max q.status status
    let s := onSeq g seq (fun q => { q with dstate := if st = 0 then 2 else 3, status := st, ftDone := ftNs s }) s
    let s := onGroup g (fun x => if st = 0 then { x with done := sat 64 (x.done + 1) } else { x with failed := inc32 x.failed }) s
    let s := whenS tell (sendComplete g seq { q with status := st }) s
    let s := auditEnd g seq s
    let s := onTile (fun x => { x with claimWait := x.claimWait.filter fun e => !(e.1 == g && e.2.1 == seq) }) s
    advanceBase 256 g s
def endSeq (g seq status : Nat) (s : State) : State := closeSeq g seq status true s
/-- Ends a sequence that has failed on this module: TREE_DONE with the status down both trees, baskets discarded,
COMPLETE to the local members. -/
def failSeq (g seq status : Nat) (s : State) : State :=
  if seqOpen s g seq then
    let up := (seqOf s g seq).elim false (·.byUpdraft)
    let s := if up then s else noteChildren g seq 1 2 1 0 status (noteChildren g seq 0 2 0 0 status s)
    endSeq g seq status (dropSeq g seq s)
  else s
/-- The members' contributions differ, or a value is refused (R219). -/
def mismatch (g seq member field : Nat) (s : State) : State :=
  failSeq g seq 3 (record 0x07C5 [(2, g), (4, seq), (2, member), (1, field)] s)

/-! ### `DONE_STEP` (R278) -/

/-- A side is whole when every binding has the step. -/
def sideWhole (step : Nat) (auto : Bool) (s : State) : State :=
  if s.set.updBinds.all (fun e => e.2.doneStep == step) then
    let sd := step % 2
    let s := onSide sd (fun x => { x with wholeAt := some step }) s
    let s := record 0x08C6 [(1, sd), (8, step)] s
    whenS (auto && (sealRefusal s sd).isNone) (askSeal sd step true) s
  else s
/-- The root's `DONE_STEP` after its last chunk's writes; a re-run leaves it. -/
def doneStep (g seq : Nat) (s : State) : State :=
  match seqOf s g seq with
  | none => s
  | some q =>
    let b := rd q.update 447 432
    match updBindOf s q with
    | none => s
    | some u =>
      let s := onSeq g seq (fun x => { x with writesDone := true }) s
      if updStep q = u.doneStep then onTile (fun x => { x with reruns := mmod 0 x.reruns b inc32 }) s
      else
        let s := modSet (fun t => { t with updBinds := mput t.updBinds b { u with doneStep := updStep q } }) s
        let s := journalOwn 0x0804 (leBytes 1 b ++ leBytes 8 (updStep q)) s
        let s := whenS (mustAck s) (onGemel fun x => { x with stepWait := x.stepWait ++ [(g, seq, s.cmd.jseq)] }) s
        sideWhole (updStep q) ((leNat q.update).testBit 424) s

/-! ### Completion of trees and sequences (R221) -/

def finishedIn (q : Sequence) (j : Nat) : Nat := countWhere q.chunks fun c => c.1 % 2 == j && c.2.finished
def chunksOfTree (k : GroupCfg) (q : Sequence) (j : Nat) : Nat := (chunkCount k q + 1 - j) / 2
def treeFinished (k : GroupCfg) (q : Sequence) (j : Nat) : Bool := chunksOfTree k q j ≤ finishedIn q j
/-- Is a result of the sequence still waiting for its class pool on some die? -/
def resultWaits (s : State) (g seq : Nat) : Bool :=
  s.core.dies.any fun d => d.2.waits.any fun w => w.frame.typ == 7 && xGroup w.frame == g && xSeq w.frame == seq
/-- TREE_DONE, with the tree's number as `CHUNK` (assumption 51), by the root of each finished tree, then COMPLETE once everything owed is sent. -/
def checkDone (g seq : Nat) (s : State) : State :=
  match seqOf s g seq with
  | none => s
  | some q =>
    let k := gcfg s g
    let own := (List.range 2).filter (roots k)
    if q.dstate ≠ 1 || q.byUpdraft || (q.op = 6 && s.sys.keelLost && !own.isEmpty) then s
    else
      let ready := own.filter fun j => treeFinished k q j && !q.treeTx.contains j
      let s := whenS (q.op == 6 && !own.isEmpty && own.all (treeFinished k q) && !q.writesDone && q.status == 0) (doneStep g seq) s
      let held := s.gemel.stepWait.any fun e => e.1 == g && e.2.1 == seq
      let ready := if held || (q.op = 6 && !own.all (treeFinished k q) && q.status = 0) then [] else ready
      let s := forEach ready (fun j s =>
        onSeq g seq (fun x => { x with treeTx := j :: x.treeTx }) (noteChildren g seq j 2 j 0 q.status s)) s
      if !held && treeFinished k q 0 && treeFinished k q 1 && (List.range 2).all (fun j => roots k j || q.treeRx.contains j) &&
          !resultWaits s g seq then endSeq g seq 0 s
      else s
/-- A chunk's results have left this module. -/
def finishChunk (g seq c : Nat) (s : State) : State :=
  if (chunkOf s g seq c).finished then s
  else
    let s := onChunk g seq c (fun h => { h with finished := true }) s
    checkDone g seq (onSeq g seq (fun q => { q with chunksDone := q.chunksDone + 1 }) s)
/-- Every chunk of a tree ends with a status other than OK (NaN trap at its root, TREE_DONE from its parent). -/
def endTree (g seq j status : Nat) (s : State) : State :=
  match seqOf s g seq with
  | none => s
  | some q =>
    let k := gcfg s g
    let s := onSeq g seq (fun x => { x with status := max x.status status }) s
    let cs := (List.range (chunkCount k q)).filter fun c => c % 2 == j
    forEach cs (fun c s => finishChunk g seq c (dropBasket g seq c (dropWaiting g seq c (dropEntries g seq (some c) s)))) s

/-! ### Results and partials (R223, R227) -/

/-- A result piece's sub-frames from a die: to the children of the chunk's tree, and to the members it is owed to. -/
def sendResult (d g seq c pc kind member : Nat) (skip : Nat) (bs : List Byte) (s : State) : State :=
  match seqOf s g seq with
  | none => s
  | some q =>
    let k := gcfg s g
    let ep := (chunkIn q c).epoch
    let gen := (bindOf s 4 g).gen
    let nb := if kind = 1 then neighbours k (c % 2) else (childrenOf k (c % 2)).map fun x => (x.1, x.2.1)
    let dst := (nb.filter fun x => x.1 >>> 8 != skip) ++ (owedTo_ k q c).map fun e => (e.2, gen)
    let parts := if bs.isEmpty then [] else chunksOf 4096 bs
    forEach (parts.zipIdx) (fun p s =>
      forEach dst (fun x => sendGroup d g x.1 x.2 7 q.cls
        (resultExt g seq member kind q 0 c pc ep k.members (resFlags q) p.2) p.1) s) s
/-- One sub-frame of a parent's result, sent on. -/
def relayResult (d g seq c pc sub : Nat) (f : Frame) (s : State) : State :=
  match seqOf s g seq with
  | none => s
  | some q =>
    let k := gcfg s g
    let gen := (bindOf s 4 g).gen
    let dst := ((childrenOf k (c % 2)).map fun x => (x.1, x.2.1)) ++ (owedTo_ k q c).map fun e => (e.2, gen)
    let ext := (extOf f &&& ((2 ^ 256 - 1) ^^^ (3 <<< 72))) ||| ((bitsAt (extOf f) 73 72 ||| resFlags q) <<< 72)
    let s := onSeq g seq (fun x => { x with
      flags := x.flags ||| bit ((extOf f).testBit 72) 0 ||| bit ((extOf f).testBit 73) 2 }) s
    let s := forEach dst (fun x => sendGroup d g x.1 x.2 7 q.cls ext f.payload) s
    onChunk g seq c (fun h => { h with got := (pc * 256 + sub) :: h.got }) s
/-- Partials of a piece in a basket. -/
def basketPartials (s : State) (b : Basket) (k : GroupCfg) (q : Sequence) (c pc : Nat) : List Nat :=
  let w := partialBytes k.mode q.numctl (operOf q)
  let n := pieceLen k q c pc
  streamPartials k.mode q.numctl (operOf q) (basketRead s b (pc * pieceElems q.numctl (operOf q) * w) (n * w)) n
/-- A complete piece goes up to the parent as kind PARTIAL. -/
def sendPartial (g seq c pc : Nat) (s : State) : State :=
  match seqOf s g seq with
  | none => s
  | some q =>
    let k := gcfg s g
    let h := chunkIn q c
    match h.basket with
    | none => s
    | some b =>
      let bs := partialStream k.mode q.numctl (operOf q) (basketPartials s b k q c pc)
      let t := treeOf k (c % 2)
      let s := forEach ((chunksOf 4096 bs).zipIdx) (fun p =>
        sendGroup (basketDie b) g t.parent t.parentGen 6 q.cls (contribExt g seq 0xFFFF 1 q 0 c pc h.epoch 0 p.2) p.1) s
      onChunk g seq c (fun x => { x with sent := pc :: x.sent }) s

/-! ### Pieces into baskets (R226, R238, R261) -/

/-- The entries that a chunk may write to its tile's queue now: pieces in their fold order, then, at a root, the FINALISE
entries of complete pieces (for an update step one, for the whole basket). -/
def nextEntries (k : GroupCfg) (q : Sequence) (g seq c : Nat) : List TileEntry :=
  let h := chunkIn q c
  let src := sourcesOf k c
  let key := fun (p : Piece) => p.source * 16 + p.piece
  let ready := h.staged.filter fun p => !h.queued.contains (key p)
  let ordered := (List.range (piecesIn k q c)).flatMap fun pc =>
    if src.all fun i => h.bits.contains (i * 16 + pc) then
      (foldOrder k c).filterMap fun i => ready.find? fun p => p.source == i && p.piece == pc
    else []
  let cs := (if k.mode = 1 then ordered else ready).map fun p => TileEntry.combine g seq c p.piece p.source
  let full := (List.range (piecesIn k q c)).filter fun pc => mget 0 h.folded pc == src.length && !h.finals.contains pc
  let fs := if !roots k (c % 2) then []
    else if q.op = 6 then (if full.length = piecesIn k q c then [TileEntry.finalise g seq c 0] else [])
    else full.map (TileEntry.finalise g seq c)
  fs ++ cs
/-- Notes that an entry is written. -/
def noteEntry (g seq c : Nat) (n : Nat) : TileEntry → State → State
  | .combine _ _ _ pc i => onChunk g seq c fun h => { h with queued := (i * 16 + pc) :: h.queued }
  | .finalise _ _ _ pc => onChunk g seq c fun h => { h with finals := if n = 1 then List.range 16 else pc :: h.finals }
  | .update _ _ _ => fun s => s
/-- Writes what entries there is room for in the tile's 64-entry queue. -/
def feedChunk (g seq c : Nat) (s : State) : State :=
  match seqOf s g seq with
  | none => s
  | some q =>
    match (chunkIn q c).basket with
    | none => s
    | some b =>
      if schedGroup s g then s
      else
        let t := basketTile b
        let room := 64 - (tileOf s t).queue.length
        forEach ((nextEntries (gcfg s g) q g seq c).take room) (fun e s =>
          noteEntry g seq c (if q.op = 6 then 1 else 0) e (pushEntry t e s)) s
/-- Does the tile's queue, or staging in HBM, take a piece now? -/
def tileTakes (s : State) (k : GroupCfg) (h : Chunk) : Bool :=
  match h.basket with
  | some b => k.mode == 1 || (tileOf s (basketTile b)).queue.length < 64
  | none => false
/-- A counted piece enters the chunk: a whole piece is staged for its fold, a sub-frame waits for the rest (R238). -/
def stagePiece (g seq c : Nat) (p : Piece) (s : State) : State :=
  match seqOf s g seq with
  | none => s
  | some q =>
    let k := gcfg s g
    let L := k.entries.length
    let h := chunkIn q c
    if p.epoch ≠ h.epoch then onGroup g (fun x => { x with oldEpoch := inc32 x.oldEpoch }) s
    else if h.bits.contains (p.source * 16 + p.piece) ||
        h.subs.any (fun x => x.source == p.source && x.piece == p.piece && x.sub == p.sub) then
      onGroup g (fun x => { x with dup := inc32 x.dup }) s
    else
      let need := if p.source < L then 1 else partialSubs k q c p.piece
      let have_ := p :: h.subs.filter fun x => x.source == p.source && x.piece == p.piece
      if have_.length < need then onChunk g seq c (fun h => { h with subs := p :: h.subs }) s
      else
        let bs := (List.range need).flatMap fun i => ((have_.find? fun x => x.sub == i).map (·.bytes)).getD []
        let n := if p.source < L then inputBytes k q c p.piece
          else pieceLen k q c p.piece * partialBytes k.mode q.numctl (operOf q)
        let pos := c * payloadBytes (ncFmt q.numctl) (operOf q) (chunkElems k.mode q) + p.piece * 4096
        let s := whenS (p.source < L) (auditPiece g seq p.member
          (if fmtIsMx (ncFmt q.numctl) then c * payloadBytes (ncFmt q.numctl) (operOf q) (chunkElems k.mode q) +
            p.piece * payloadBytes (ncFmt q.numctl) (operOf q) (pieceElems q.numctl (operOf q)) else pos)
          (payloadBytes (ncFmt q.numctl) (operOf q) (seqElems k q)) (bs.take n)) s
        onChunk g seq c (fun h => { h with
          bits := (p.source * 16 + p.piece) :: h.bits,
          subs := h.subs.filter fun x => !(x.source == p.source && x.piece == p.piece),
          staged := h.staged ++ [{ p with bytes := bs.take n, sub := 0 }] }) s
/-- A contribution frame as a piece. -/
def pieceOf (src : Nat) (f : Frame) : Piece := ⟨src, xMember f, xPiece f, xSub f, xEpoch f, f.payload⟩
/-- The source that a frame comes from: a local member entry, or a child (R219, R226). -/
def sourceOf (k : GroupCfg) (f : Frame) : Option Nat :=
  if xKind f = 0 then
    ((k.entries.zipIdx).find? fun e => e.1.1 == xMember f && e.1.2 >>> 8 == f.src >>> 8).map (·.2)
  else ((childrenOf k (xChunk f % 2)).find? fun x => x.1 >>> 8 == f.src >>> 8).map (·.2.2)
/-- A frame's cells freed once its piece is taken. -/
def takeFrame (g seq c : Nat) (e : QEnt) (s : State) : State :=
  match sourceOf (gcfg s g) e.frame with
  | some i => stagePiece g seq c (pieceOf i e.frame) (dropEnt e s)
  | none => dropEnt e s
/-- Takes in the frames that wait for a chunk, as far as its tile's queue has room, in order. -/
def drainWaiting : Nat → Nat → Nat → Nat → State → State
  | 0, g, seq, c, s => feedChunk g seq c s
  | n + 1, g, seq, c, s =>
    let h := chunkOf s g seq c
    match h.waiting with
    | [] => feedChunk g seq c s
    | e :: r =>
      if tileTakes s (gcfg s g) h then
        let s := onChunk g seq c (fun x => { x with waiting := r, waitSince := if r.isEmpty then none else x.waitSince }) s
        drainWaiting n g seq c (feedChunk g seq c (takeFrame g seq c e s))
      else s
def serveChunk (g seq c : Nat) (s : State) : State := drainWaiting (chunkOf s g seq c).waiting.length g seq c s

/-! ### Pass-through (R233) -/

/-- Passes one piece of a chunk on, unreduced: to every other neighbour and to the local members. -/
def passPiece (d g seq c : Nat) (f : Frame) (s : State) : State :=
  match seqOf s g seq with
  | none => s
  | some q =>
    let k := gcfg s g
    let key := xMember f * 16 + xPiece f
    if (chunkIn q c).relayed.contains key then onGroup g (fun x => { x with dup := inc32 x.dup }) s
    else
      let bs := f.payload.take (inputBytes k q c (xPiece f))
      let s := sendResult d g seq c (xPiece f) 1 (xMember f) (f.src >>> 8) bs s
      let s := onChunk g seq c (fun h => { h with relayed := key :: h.relayed }) s
      let need := (if q.op = 4 then 1 else k.members) * piecesIn k q c
      if need ≤ (chunkOf s g seq c).relayed.length then finishChunk g seq c s else s
/-- The chunk passes through on this module (steps 3 and 4 of R233). -/
def passChunk (g seq c : Nat) (s : State) : State :=
  match seqOf s g seq with
  | none => s
  | some q =>
    let k := gcfg s g
    let h := chunkIn q c
    if h.passed || h.finished || q.dstate ≠ 1 then s
    else
      let L := k.entries.length
      let had := (k.entries.zipIdx).filter fun e =>
        h.bits.any (fun b => b / 16 == e.2 && e.2 < L) || h.subs.any (fun p => p.source == e.2)
      let ws := h.waiting
      let s := dropEntries g seq (some c) s
      let s := onChunk g seq c (fun h => { chunkDflt with epoch := h.epoch, home := h.home, recomputed := h.recomputed, passed := true }) s
      let s := onSeq g seq (fun x => { x with flags := x.flags ||| 1 }) s
      let s := onTile (fun x => { x with claimWait := x.claimWait.filter (· != (g, seq, c)) }) s
      let s := onGroup g (fun x => { x with fallbacks := inc32 x.fallbacks }) s
      let s := record 0x07C2 [(2, g), (4, seq), (3, c), (1, homeOf s k q seq c)] s
      let s := forEach had (fun e => resendNack g seq c h.epoch e.1) s
      forEach ws (fun e s => passPiece e.die g seq c e.frame (dropEnt e s)) s
/-- The chunk must pass through: the root starts it and tells its tree; another module tells the root. -/
def startFallback (g seq c : Nat) (s : State) : State :=
  if roots (gcfg s g) (c % 2) then passChunk g seq c (noteChildren g seq (c % 2) 0 c (chunkOf s g seq c).epoch 0 s)
  else noteParent g seq c 0 (chunkOf s g seq c).epoch 0 s

/-! ### Claims -/

/-- Puts a claim on the waiting list, in order of arrival. -/
def waitClaim (g seq c : Nat) (s : State) : State :=
  onTile (fun x => if x.claimWait.contains (g, seq, c) then x else { x with claimWait := x.claimWait ++ [(g, seq, c)] }) s
/-- A claim that finds no basket while another group took one of its dies in the same F cycle has lost the tie (R232): the
piece that triggered it is refused. -/
def loseTie (g seq : Nat) (cs : List Nat) (s : State) : State :=
  let k := gcfg s g
  let d? := (maskDies s k).find? fun d => match mfind s.tile.claimAt d with | some (m, h) => m == s.mono && h != g | none => false
  match d?, cs.findSome? fun c => (chunkOf s g seq c).waiting.head?.map fun e => (c, e) with
  | some d, some (c, e) =>
    let s := onTile (fun x => { x with lost := mmod 0 x.lost d inc32 }) s
    let s := onChunk g seq c (fun h => { h with
      waiting := h.waiting.drop 1, waitSince := if h.waiting.length = 1 then none else h.waitSince }) s
    nack e.die e.frame 6 (dropEnt e s)
  | some d, none => onTile (fun x => { x with lost := mmod 0 x.lost d inc32 }) s
  | none, _ => s
/-- Tries one claim; a claim that fails waits, and tries again. -/
def tryClaim (g seq c : Nat) (s : State) : State :=
  if mayClaim s g seq then
    let cs := claimChunks s g seq c
    match claimAll g seq cs s with
    | some s' =>
      let s' := onTile (fun x => { x with claimWait := x.claimWait.filter (· != (g, seq, c)) }) s'
      forEach cs (serveChunk g seq) s'
    | none => loseTie g seq cs (waitClaim g seq c s)
  else s
/-- The first claim of a sequence (R231); an update step's waits for the window base (R275). -/
def firstClaimOf (g seq : Nat) (s : State) : State :=
  match seqOf s g seq with
  | some q =>
    if q.nextClaim = 0 && opReduces q.op && !passesFromStart (gcfg s g) q && !schedGroup s g then
      let s := onSeq g seq (fun x => { x with nextClaim := min (depthOf (gcfg s g)) (chunkCount (gcfg s g) q) }) s
      if mayClaim s g seq then tryClaim g seq firstClaim s else waitClaim g seq firstClaim s
    else s
  | none => s
/-- The next chunk's claim, when a chunk releases its basket. -/
def nextClaimOf (g seq : Nat) (s : State) : State :=
  match seqOf s g seq with
  | some q =>
    if q.nextClaim < chunkCount (gcfg s g) q && mayClaim s g seq then
      tryClaim g seq q.nextClaim (onSeq g seq (fun x => { x with nextClaim := q.nextClaim + 1 }) s)
    else s
  | none => s

/-! ### Recomputation (R240, R241) -/

/-- Restarts a chunk on this module under a new epoch (steps 4 and 5 of R240). -/
def recompute (g seq c epoch detection : Nat) (s : State) : State :=
  match seqOf s g seq with
  | none => s
  | some q =>
    if q.dstate ≠ 1 then s
    else
      let k := gcfg s g
      let h := chunkIn q c
      let s := dropWaiting g seq c (dropEntries g seq (some c) s)
      let s := onSeq g seq (fun x => { x with
        flags := x.flags ||| 4, chunksDone := if h.finished then x.chunksDone - 1 else x.chunksDone }) s
      let s := onChunk g seq c (fun h => { chunkDflt with epoch := epoch, home := h.home, recomputed := true }) s
      let s := onGroup g (fun x => { x with recomputes := inc32 x.recomputes }) s
      let s := record 0x07C3 [(2, g), (4, seq), (3, c), (1, epoch), (1, detection)] s
      let s := forEach k.entries (resendNack g seq c epoch) s
      whenS (c < q.nextClaim) (tryClaim g seq c) s
/-- The sequence fails to every member (R241). -/
def interrupt (g seq c : Nat) (s : State) : State := failSeq g seq 1 (record 0x07C4 [(2, g), (4, seq), (3, c)] s)
/-- The root's part: a FREE chunk with a finalised result, or a 256th epoch, fails the sequence. -/
def rootRecompute (g seq c detection : Nat) (s : State) : State :=
  let k := gcfg s g
  let h := chunkOf s g seq c
  if (k.mode = 0 && !h.sent.isEmpty) || 255 ≤ h.epoch then interrupt g seq c s
  else recompute g seq c (h.epoch + 1) detection (noteChildren g seq (c % 2) 1 c (h.epoch + 1) 0 s)
/-- A basket or a result copy is lost (R240). A chunk that passes through is not affected. -/
def loseChunk (g seq c detection : Nat) (s : State) : State :=
  if !seqOpen s g seq || (chunkOf s g seq c).passed then s
  else if roots (gcfg s g) (c % 2) then rootRecompute g seq c detection s
  else noteParent g seq c 1 (chunkOf s g seq c).epoch 0 s
/-- A NaN under TRAP at a tree's root: no result of the collective is delivered (R203). -/
def nanTrap (g seq j tile : Nat) (s : State) : State :=
  endTree g seq j 2 (record 0x08C1 [(2, g), (4, seq), (2, tile)] s)

end Sys2Proof.Machine
end

