-- ==== Sys2Proof/Machine/Halt.lean ====
section
/-! DEFINITION. The halt of an enabled image (R322), and detections that lead to one (Table 13-8). -/

set_option Elab.async false

namespace Sys2Proof.Machine

/-- Is the module the time parent on a lane-port (R312)? -/
def timeParentOn (s : State) (l : Nat) : Bool :=
  linkUp s l && (isScaleUp (lpLoc l) || (isScaleOut (lpLoc l) && s.time.steps < mget 31 s.time.farSteps l))
/-- Lane-ports that carry `TIME` blocks. -/
def timeLps (s : State) : List Nat := (allLps s).filter fun l => timeParentOn s l || s.time.parent == some l
/-- A `TIME` block (Table 13-1). -/
def timeBlk (s : State) (msg xseq ts tag count : Nat) : Nat :=
  ctlBlock 4 [(245, msg), (240, s.time.steps), (224, xseq), (144, ts % 2 ^ 80), (112, tag), (96, count)]
def sendTime (l msg xseq ts tag count : Nat) (s : State) : State := emit (.block l 4 (timeBlk s msg xseq ts tag count)) s
/-- Enters a time state and records it (Table 13-2); aligned time starts the gate lists that wait for it (R179). -/
def timeTo (st : TimeState) (s : State) : State :=
  let s := onTime (fun t => { t with st := st, good := 0, bad := 0 }) s
  let s := whenS (st == .aligned) (onCore fun c => { c with gateWait := false }) s
  record 0x09C1 [(1, timeCode st), (2, s.time.parent.getD 0xFFFF), (4, thetaPs s.time.theta)] s
def farSteps (s : State) (l : Nat) : Nat := mget 31 s.time.farSteps l
/-- The lane-port that a module without a root's role takes as its parent (R313): the least far `STEPS`, then number. -/
def bestParent (s : State) : Option Nat :=
  (s.time.farSteps.filter fun e => linkUp s e.1 && isScaleOut (lpLoc e.1) && e.2 < 31).foldl (fun a e =>
    match a with
    | some l => if e.2 < farSteps s l then some e.1 else some l
    | none => some e.1) none
/-- May the present parent stay: its link UP, its root known, no smaller `STEPS` elsewhere? -/
def parentStays (s : State) : Bool :=
  s.time.parent.any fun l => linkUp s l && farSteps s l < 31 && (bestParent s).all fun b => farSteps s l ≤ farSteps s b
/-- Chooses the parent again, if need be (R313); a parent that changes moves ALIGNED time to HOLDOVER. -/
def chooseParent (s : State) : State :=
  let own := fun (s : State) => onTime (fun t => { t with
    steps := match t.parent with | some l => min 31 (farSteps s l + 1) | none => 31 }) s
  if s.set.timeRoot || !running s then s
  else if parentStays s then own s
  else
    let p := bestParent s
    let same := p == s.time.parent
    let s := own (onTime (fun t => { t with parent := p, exch := none, good := 0, bad := 0 }) s)
    match s.time.st with
    | .freeRun => if p.isSome then onTime (fun t => { t with st := .acquiring }) s else s
    | .aligned => if same then s else timeTo .holdover s
    | _ => s
/-- ARMED or RUNNING: an image that a halt cause stops. -/
def haltable (s : State) : Bool :=
  schedEnabled s && (match s.sched.st with | .armed => true | .running => true | _ => false)
/-- HALT of a tag, once, on every lane-port that carries `TIME` blocks but one. -/
def forwardHalt (tag cause : Nat) (but : Option Nat) (s : State) : State :=
  if s.sched.fwdHalt.contains tag then s
  else
    let s := forEach ((timeLps s).filter fun l => but != some l) (fun l => sendTime l 5 0 0 tag cause) s
    onSched (fun x => { x with fwdHalt := (tag :: x.fwdHalt).take 16 }) s
/-- Discards the scheduled C2 frames queued, counted in `HALT_DISCARD`. -/
def discardPlaced (s : State) : State :=
  forEach (s.core.leaf.map (·.1)) (fun q s =>
    let gone := (leafQ s q).filter fun e => placedC2 s e.frame
    let keep := (leafQ s q).filter fun e => !placedC2 s e.frame
    if gone.isEmpty then s
    else
      let s := onLeaf q (fun _ => keep) (forEach gone dropEnt s)
      onSched (fun x => { x with haltDiscard := sat 32 (x.haltDiscard + gone.length) }) s) s
/-- Groups that the image schedules. -/
def imageGroups (s : State) : List Nat := (enabledGroups s).filter (schedGroup s)
/-- Ends a group's open sequences INTERRUPTED. -/
def interruptGroup (g : Nat) (s : State) : State :=
  forEach (((groupOf s g).seqs.filter fun e => e.2.2.dstate == 1).map (·.2.1)) (fun n s => endSeq g n 1 (dropSeq g n s)) s
/-- The halt (R322). -/
def haltImage (cause : Nat) (s : State) : State :=
  if haltable s then
    let cyc := if s.sched.st == .running then s.mono - s.sched.periodAt else 0
    let s := onSched (fun x => { x with st := .halted, cause := cause, haltEntry := x.next, windows := [], launchAt := none }) s
    let s := discardPlaced s
    let s := forwardHalt (schedTag s) cause none s
    let s := forEach (imageGroups s) interruptGroup s
    let s := record 0x09C3 [(1, cause), (8, s.sched.iter), (4, cyc), (4, s.sched.haltEntry)] s
    setBallast s.sched.floorW s
  else s
/-- A detection on scheduled work of a group halts the image instead of resending or recomputing (Table 13-8). -/
def detectOn (g : Nat) (f : State → State) (s : State) : State :=
  if namesGroup s g && haltable s then haltImage 6 s else f s
/-- The basket of a chunk is lost. -/
def chunkLost (g seq c detection : Nat) (s : State) : State := detectOn g (loseChunk g seq c detection) s
/-- A link that leaves UP, or a port substituted, on a scheduled path (PATH_LOST); a time parent is chosen again. -/
def pathLost (l : Nat) (s : State) : State :=
  chooseParent (onTime (fun t => { t with farSteps := mdel t.farSteps l }) (whenS (namesLp s l) (haltImage 2) s))
/-- Collects what a frame's loss means to an image: a placed frame, or one of a named group. -/
def frameLost (f : Frame) (s : State) : State :=
  whenS (placedC2 s f || ((f.typ == 6 || f.typ == 7 || f.typ == 8) && namesGroup s (xGroup f))) (haltImage 6) s

/-! ### Local consumers -/

/-- A cell CRC that fails as a local consumer reads its frame (Table 5-6). -/
def cellBad (e : QEnt) (s : State) : State :=
  let f := e.frame
  let s := onDie e.die (fun x => { x with cellCrc := inc32 x.cellCrc }) s
  let s := coreReport e.die 1 (record 0x06C3 [(1, e.die), (4, e.cells.headD 0), (1, f.cls), (4, f.dest)] s)
  let s := frameLost f (dropEnt e s)
  whenS (f.typ == 1 || f.typ == 2 || f.typ == 6 || f.typ == 9) (nack e.die f 7) s
/-- The consumer of a queue takes its head, if the head is of its kind; `bad` says that a cell failed its CRC. -/
def consume (key : Nat) (bad : Bool) (p : Frame → Bool) (f : QEnt → State → State) (s : State) : State :=
  match consQ s key with
  | e :: r =>
    if p e.frame then
      let s := onCons key (fun _ => r) s
      if bad then cellBad e s else f e s
    else s
  | [] => s

end Sys2Proof.Machine
end

