-- ==== Sys2Proof/Machine/Tiles.lean ====
section
/-! DEFINITION. Reduction tiles at work: queue entries, detections, update entries and their DMA (R187, R206, R261 to
R277, Tables 8-11 and 11-7). -/

set_option Elab.async false

namespace Sys2Proof.Machine

/-! ### Detections in a tile (Table 8-11) -/

/-- A parity detection of a tile, reported as an event of its source. -/
def tileParity (t : Nat) (s : State) : State :=
  report (srcId 4 t) 2 (onTileU t (fun x => { x with parity := inc32 x.parity }) s)
/-- The page of a basket is not used again until it is rewritten in full. -/
def badPage : Option Basket → State → State
  | some (.page d t p) => onTileU (32 * d + t) fun x => { x with badPages := p :: x.badPages.filter (· != p) }
  | _ => id
/-- What an entry reads that can fail its parity: 0 the queue entry itself, 1 the scratchpad, 2 a register or long
accumulator, 3 the instruction memory. -/
def entryParity (t what : Nat) (e : TileEntry) (s : State) : State :=
  let s := tileParity t s
  match e, what with
  | .combine g n c pc i, 0 =>
    detectOn g (fun s => feedChunk g n c (onChunk g n c (fun h => { h with queued := h.queued.filter (· != i * 16 + pc) }) s)) s
  | .finalise g n c pc, 0 =>
    detectOn g (fun s => feedChunk g n c (onChunk g n c (fun h => { h with finals := h.finals.filter (· != pc) }) s)) s
  | .update g _ _, 0 => detectOn g (pushEntry t e) s
  | .combine g n c _ _, w => chunkLost g n c w (whenS (w == 1) (badPage (chunkOf s g n c).basket) s)
  | .finalise g n c _, w => chunkLost g n c w (whenS (w == 1) (badPage (chunkOf s g n c).basket) s)
  | .update g n c, w =>
    let s := whenS (w == 1) (badPage (chunkOf s g n c).basket) s
    let s := whenS (w == 3) (onTileU t fun x => { x with st := .fault, run := none }) s
    chunkLost g n c w s
/-- Runs the entry at the head of an ACTIVE tile's queue, when the tile runs none and the entry is of the kind asked for.
-/
def runEntry (t : Nat) (parity : Option Nat) (p : TileEntry → Bool) (f : TileEntry → State → State) (s : State) : State :=
  let x := tileOf s t
  match x.queue, x.st, x.run with
  | e :: r, .active, none =>
    if p e then
      let s := onTileU t (fun x => { x with queue := r, idleFrom := s.mono }) s
      match parity with
      | some w => entryParity t w e s
      | none => f e s
    else s
  | _, _, _ => s

/-! ### COMBINE (R226, R261) -/

/-- Element index of a chunk's element within the collective's payload. -/
def elementNo (k : GroupCfg) (q : Sequence) (c i : Nat) : Nat := c * chunkElems k.mode q + i
/-- Latches the first NaN of a list of folds. -/
def latchFolds (g seq t member : Nat) (nc oper base : Nat) (rs : List (Bool × Bool)) (s : State) : State :=
  forEach ((rs.zipIdx).filter fun e => e.1.1 || e.1.2)
    (fun e => latchNan g seq (if e.1.1 then 0 else 1) oper (if e.1.1 then member else 0xFFFF) t nc (base + e.2)) s
/-- Folds one staged piece into its basket. -/
def combinePiece (t g seq c pc src : Nat) (s : State) : State :=
  match seqOf s g seq with
  | none => s
  | some q =>
    let k := gcfg s g
    let h := chunkIn q c
    match h.basket, h.staged.find? (fun p => p.source == src && p.piece == pc) with
    | some b, some p =>
      let oper := operOf q
      let w := partialBytes k.mode q.numctl oper
      let n := pieceLen k q c pc
      let at_ := pc * pieceElems q.numctl oper * w
      let ins := if src < k.entries.length then (List.range n).map (elemPartial k.mode q.numctl oper p.bytes)
        else streamPartials k.mode q.numctl oper p.bytes n
      let first := mget 0 h.folded pc == 0
      let old := basketPartials s b k q c pc
      let rs : List Folded := if first then ins.map fun v => ⟨v, partialNan k.mode q.numctl oper v, false⟩
        else (old.zip ins).map fun e => foldPartial k.mode q.numctl oper e.1 e.2
      let nans := (ins.zip rs).map fun e => (partialNan k.mode q.numctl oper e.1, e.2.produced)
      let s := basketWrite b at_ (partialStream k.mode q.numctl oper (rs.map (·.val))) s
      let s := latchFolds g seq t (if src < k.entries.length then p.member else 0xFFFF) q.numctl oper
        (elementNo k q c (pc * pieceElems q.numctl oper)) nans s
      let s := onChunk g seq c (fun h => { h with
        staged := h.staged.filter fun x => !(x.source == src && x.piece == pc), folded := mmod 0 h.folded pc (· + 1) }) s
      let s := whenS (traps s g && nans.any (fun e => e.1 || e.2) && q.status < 2)
        (fun s => onSeq g seq (fun x => { x with status := max x.status 2 }) (record 0x08C1 [(2, g), (4, seq), (2, t)] s)) s
      let s := whenS (mget 0 (chunkOf s g seq c).folded pc == (sourcesOf k c).length && !roots k (c % 2)) (sendPartial g seq c pc) s
      serveChunk g seq c s
    | _, _ => s

/-! ### FINALISE (R196, R197, R202, R203, R227) -/

/-- The FP32 gradient of an element (R262), from its partial. -/
def gradient (mode nc oper n p : Nat) : Nat :=
  match finalValue mode nc oper n p with
  | .int v => fp32.round false false (.fin (v < 0) v.natAbs 0)
  | .num v => fp32.round false (ncOvfSat nc) v
/-- Rounds one completed piece at a root and sends its results. -/
def finalisePiece (t g seq c pc : Nat) (s : State) : State :=
  match seqOf s g seq with
  | none => s
  | some q =>
    let k := gcfg s g
    match (chunkIn q c).basket with
    | none => s
    | some b =>
      let oper := operOf q
      let ps := basketPartials s b k q c pc
      let base := elementNo k q c (pc * pieceElems q.numctl oper)
      let bad := (ps.zipIdx).filter fun e => finalNan k.mode q.numctl oper k.members e.1
      let s := forEach bad (fun e => latchNan g seq 3 oper 0xFFFF t q.numctl (base + e.2)) s
      if traps s g && (2 ≤ q.status || !bad.isEmpty || ps.any (partialNan k.mode q.numctl oper)) then nanTrap g seq (c % 2) t s
      else
        let s := sendResult (basketDie b) g seq c pc 0 0xFFFF 0 (finaliseBytes k.mode q.numctl oper k.members ps) s
        let s := onChunk g seq c (fun h => { h with sent := pc :: h.sent }) s
        let s := whenS ((chunkOf s g seq c).sent.length == piecesIn k q c) (finishChunk g seq c) s
        serveChunk g seq c s
/-- Rounds a whole basket of an update step to the FP32 gradient and writes the UPDATE entry (R277, step 2). -/
def finaliseUpdate (t g seq c : Nat) (s : State) : State :=
  match seqOf s g seq with
  | none => s
  | some q =>
    let k := gcfg s g
    match (chunkIn q c).basket with
    | none => s
    | some b =>
      let ps := (List.range (piecesIn k q c)).flatMap (basketPartials s b k q c)
      let gs := ps.map (gradient k.mode q.numctl (operOf q) k.members)
      let bad := (ps.zipIdx).filter fun e => finalNan k.mode q.numctl (operOf q) k.members e.1
      let s := forEach bad (fun e => latchNan g seq 3 (operOf q) 0xFFFF t q.numctl (elementNo k q c e.2)) s
      if traps s g && (2 ≤ q.status || ps.any (partialNan k.mode q.numctl (operOf q)) || !bad.isEmpty) then nanTrap g seq (c % 2) t s
      else
        let s := basketWrite b 0 (gs.flatMap (leBytes 4)) s
        whenS (!schedGroup s g) (pushEntry t (.update g seq c)) s

/-! ### UPDATE (R262, R269, R270, R277) -/

def f32one : Nat := 0x3F800000
def f32neg (a : Nat) : Nat := a ^^^ 0x80000000
/-- Scalars of an update block: LR, BETA1, BETA2, EPS, WD, BC1, BC2, GSCALE. -/
def updScalar (q : Sequence) (i : Nat) : Nat := rd q.update (383 - 32 * i) (352 - 32 * i)
/-- One element of a built-in program: the new state arrays, and every value computed with its opcode, in order. -/
def builtIn (prog : Nat) (u : Nat → Nat) (g w m v : Nat) : List Nat × List (Nat × Nat) :=
  let lr := u 0; let b1 := u 1; let b2 := u 2; let eps := u 3; let wd := u 4; let bc1 := u 5; let bc2 := u 6; let gs := u 7
  let kw := f32sub f32one (f32mul lr wd)
  match prog with
  | 1 =>
    let w' := f32axpby w kw g (f32neg (f32mul lr gs))
    ([w'], [(0x15, w')])
  | 2 =>
    let g' := f32mul g gs
    let m' := f32axpby m b1 g' f32one
    let w' := f32axpby w kw m' (f32neg lr)
    ([w', m'], [(0x12, g'), (0x15, m'), (0x15, w')])
  | _ =>
    let g' := f32mul g gs
    let g2 := f32mul g' g'
    let m' := f32ema m g' (f32sub f32one b1)
    let v' := f32ema v g2 (f32sub f32one b2)
    let r := f32rsqa v' bc2 eps
    let x := f32mul m' r
    let w' := f32axpby w kw x (f32neg (f32mul lr bc1))
    ([w', m', v'], [(0x12, g'), (0x12, g2), (0x14, m'), (0x14, v'), (0x16, r), (0x12, x), (0x15, w')])
/-- The scratchpad offset of byte `o` of a chunk's staging. -/
def stageOff (h : Chunk) : Nat := match h.stages with | .page _ _ p :: _ => 65536 * p | _ => 0
def basketOff (h : Chunk) : Nat := match h.basket with | some (.page _ _ p) => 65536 * p | _ => 0
/-- The bytes of a weight in `WFMT` (6 FP16, 7 BF16, 8 FP32). -/
def weightBytes (fmt v : Nat) : List Byte :=
  leBytes (fmtWidth fmt / 8) ((fmtFp fmt).round false false (fp32.decode v))
/-- `END` of an UPDATE entry: the weights leave as result pieces, unless `NO_WEIGHTS` (R277, step 4). -/
def sendWeights (d g seq c fmt : Nat) (s : State) : State :=
  match seqOf s g seq with
  | none => s
  | some q =>
    let k := gcfg s g
    if (leNat q.update).testBit 425 then s
    else
      match (chunkIn q c).basket with
      | none => s
      | some b =>
        let w := fmtWidth fmt / 8
        let p := pieceElems q.numctl (operOf q)
        forEach (List.range (piecesIn k q c)) (fun pc s =>
          sendResult d g seq c pc 0 0xFFFF 0 (basketRead s b (pc * p * w) (pieceLen k q c pc * w)) s) s
/-- Finishes an update chunk once its entry has ended and its writes have completed. -/
def checkWrites (g seq c : Nat) (s : State) : State :=
  let busy := s.tile.tiles.any fun e => e.2.outDma.any fun m => m.group == g && m.seq == seq && m.chunk == c && m.write
  whenS ((chunkOf s g seq c).updated && !busy) (finishChunk g seq c) s
/-- Ends an UPDATE entry, its writes still in flight. -/
def endUpdate (t g seq c : Nat) (s : State) : State :=
  match seqOf s g seq with
  | none => s
  | some q =>
    let fmt := (updBindOf s q).elim 8 (·.wfmt)
    let s := onChunk g seq c (fun h => { h with updated := true, sent := List.range 16 }) s
    checkWrites g seq c (sendWeights (t / 32) g seq c fmt s)
/-- A DMA write toward side Y starts (R279). -/
def startWrite (t : Nat) (m : Dma) (s : State) : State :=
  stepWritten m.hbm (onTileU t (fun x => { x with outDma := x.outDma ++ [m] }) s)
/-- Runs a built-in program over one chunk to its `END`. -/
def runBuiltIn (t g seq c : Nat) (b : UpdBind) (s : State) : State :=
  match seqOf s g seq with
  | none => s
  | some q =>
    let k := gcfg s g
    let h := chunkIn q c
    let st := chunkElems k.mode q
    let n := chunkLen k q c
    let lanes := (n + 15) / 16 * 16
    let gOff := basketOff h
    let sOff := stageOff h
    let word := fun (o : Nat) => leNat (spadRead s t o 4)
    let arrays := progState s b.prog / 4
    let rs := (List.range lanes).map fun i =>
      builtIn b.prog (updScalar q) (word (gOff + 4 * i)) (word (sOff + 4 * i)) (word (sOff + 4 * (st + i)))
        (word (sOff + 4 * (2 * st + i)))
    let inNan := fun (i : Nat) => f32nan (word (gOff + 4 * i)) ||
      (List.range arrays).any fun a => f32nan (word (sOff + 4 * (a * st + i)))
    let found := ((rs.take n).zipIdx).filterMap fun e => (e.1.2.find? fun x => f32nan x.2).map fun x => (e.2, x.1)
    let s := forEach (found.filter fun e => !inNan e.1) (fun e => latchNan g seq 1 e.2 0xFFFF t q.numctl (elementNo k q c e.1)) s
    if traps s g && !found.isEmpty then nanTrap g seq (c % 2) t s
    else
      let s := forEach (List.range arrays) (fun a =>
        spadWrite t (sOff + 4 * a * st) (rs.flatMap fun e => leBytes 4 (e.1.getD a 0))) s
      let s := spadWrite t gOff (rs.flatMap fun e => weightBytes b.wfmt (e.1.headD 0)) s
      let y := stateRegion s k q b c (updStep q % 2)
      let len := st * progState s b.prog
      let s := forEach (List.range ((len + 65535) / 65536)) (fun i =>
        startWrite t ⟨g, seq, c, true, sOff + 65536 * i, y + 65536 * i, min 65536 (len - 65536 * i)⟩) s
      endUpdate t g seq c s
/-- The scalar registers at the start of an UPDATE entry (Table 11-1). -/
def startScalars (s : State) (k : GroupCfg) (q : Sequence) (b : UpdBind) (c : Nat) : Map Nat :=
  let h := chunkIn q c
  let vals := [basketOff h, stageOff h, stateRegion s k q b c ((updStep q + 1) % 2), stateRegion s k q b c (updStep q % 2),
    chunkLen k q c, chunkElems k.mode q] ++ (List.range 8).map (updScalar q) ++ [updStep q]
  (vals.zipIdx).foldl (fun m e => mset 0 m e.2 e.1) []
/-- The first instruction of the tile slot that holds a loaded image on a die; 2,048 where none does. -/
def tileSlot (s : State) (d prog : Nat) : Nat :=
  (([1, 2, 3].find? fun i => mfind s.tile.slots (4 * d + i) == some prog).map (512 * ·)).getD 2048
/-- Starts an UPDATE entry: registers zeroed and loaded; a built-in program runs to its `END`, a loaded one starts. -/
def startUpdate (t g seq c : Nat) (s : State) : State :=
  match seqOf s g seq with
  | none => s
  | some q =>
    match updBindOf s q with
    | none => s
    | some b =>
      let k := gcfg s g
      let h := chunkIn q c
      let s := onTileU t (fun x => { x with vregs := [], sregs := startScalars s k q b c }) s
      if b.prog < 16 then runBuiltIn t g seq c b s
      else
        let len := chunkElems k.mode q * progState s b.prog
        let x := stateRegion s k q b c ((updStep q + 1) % 2)
        let y := stateRegion s k q b c (updStep q % 2)
        let pages := (basketsOf h).filterMap fun p => match p with | .page _ _ n => some n | _ => none
        onTileU t (fun z => { z with run := some ⟨g, seq, c, tileSlot s (t / 32) b.prog, pages, x, x + len, y, y + len, q.update, [], false, false⟩ }) s
/-- Has the side-X read that an update chunk's claim started completed? -/
def readDone (s : State) (t g seq c : Nat) : Bool :=
  !(tileOf s t).outDma.any (fun m => m.group == g && m.seq == seq && m.chunk == c && !m.write) &&
    !s.snap.stepHeld.any fun e => e.2 == (g, seq, c)

def isCombine : TileEntry → Bool | .combine .. => true | _ => false
def isFinalise : TileEntry → Bool | .finalise .. => true | _ => false
def isUpdate : TileEntry → Bool | .update .. => true | _ => false
/-- What a COMBINE entry does. -/
def doCombine (t : Nat) : TileEntry → State → State
  | .combine g n c pc i => combinePiece t g n c pc i
  | _ => id
def doFinalise (t : Nat) : TileEntry → State → State
  | .finalise g n c pc => fun s =>
    if (seqOf s g n).elim false (fun q => q.op == 6) then finaliseUpdate t g n c s else finalisePiece t g n c pc s
  | _ => id
def doUpdate (t : Nat) : TileEntry → State → State
  | .update g n c => startUpdate t g n c
  | _ => id
/-- An UPDATE entry whose side-X state has been read. -/
def updateReady (s : State) (t : Nat) : TileEntry → Bool
  | .update g n c => readDone s t g n c
  | _ => false

/-! ### DMA completions (R266, R277) -/

/-- Moves the bytes of a DMA. -/
def moveDma (t : Nat) (m : Dma) (s : State) : State :=
  if m.write then hbmWrite m.hbm (spadRead s t m.spad m.len) s else spadWrite t m.spad (hbmRead s m.hbm m.len) s
/-- A side-X read finds a bad block: the chunk is held, and its page's restore requested (Table 11-7). -/
def readBad (m : Dma) (s : State) : State :=
  let pg := m.hbm / 4096 * 4096
  let s := badBlock m.hbm s
  detectOn m.group (fun s =>
    let s := restorePage m.hbm (onSnap (fun x => { x with stepHeld := (pg, m.group, m.seq, m.chunk) :: x.stepHeld }) s)
    if s.snap.pages.any (fun p => p.addr == pg) then s
    else
      let s := onSnap (fun x => { x with stepHeld := x.stepHeld.filter (·.1 != pg) }) s
      interrupt m.group m.seq m.chunk s) s
/-- The n-th DMA in flight of a tile completes; the running entry's come first. -/
def dmaDone (t n : Nat) (crcBad : Bool) (s : State) : State :=
  let x := tileOf s t
  let own := match x.run with | some r => r.dmas | none => []
  match own[n]? with
  | some m =>
    let s := onTileU t (fun x => { x with run := x.run.map fun r => { r with
      dmas := r.dmas.eraseIdx n, waiting := r.waiting && r.dmas.length != 1 } }) s
    if crcBad && !m.write then readBad m (dropEntries m.group m.seq (some m.chunk) s) else moveDma t m s
  | none =>
    match x.outDma[n - own.length]? with
    | some m =>
      let s := onTileU t (fun x => { x with outDma := x.outDma.eraseIdx (n - own.length), idleFrom := s.mono }) s
      if crcBad && !m.write then readBad m s
      else
        let s := moveDma t m s
        if m.write then checkWrites m.group m.seq m.chunk s else s
    | none => s

end Sys2Proof.Machine
end

