-- ==== Sys2Proof/Machine/GroupEvents.lean ====
section
/-! DEFINITION. The rows of chapter 09 that are events: contributions, results, notices, claims, releases, timeouts. -/

set_option Elab.async false

namespace Sys2Proof.Machine

/-! ### Contributions (R216 to R219) -/

def badMember (g : Nat) (e : QEnt) (s : State) : State := onGroup g (fun x => { x with badMember := inc32 x.badMember }) (dropEnt e s)
def countDup (g : Nat) (e : QEnt) (s : State) : State := onGroup g (fun x => { x with dup := inc32 x.dup }) (dropEnt e s)
/-- The sequence that a frame's own fields describe. -/
def frameSeq (f : Frame) : Sequence :=
  { dstate := 1, op := xOp f, oper := xOper f, numctl := xNumctl f, count := xCount f, root := xRoot f, cls := f.cls,
    byUpdraft := false, ftOpen := 0, ftDone := 0, status := 0, flags := 0, chunksDone := 0, update := [],
    chunks := [], nextClaim := 0, treeRx := [], treeTx := [], writesDone := false, crcs := [] }
/-- Does a piece lie in the shape of R224? -/
def inShape (k : GroupCfg) (q : Sequence) (src : Nat) (f : Frame) : Bool :=
  xChunk f < chunkCount k q && xPiece f < piecesIn k q (xChunk f) &&
    (if src < k.entries.length then xSub f == 0 else xSub f < partialSubs k q (xChunk f) (xPiece f))
def maskNan (nc : Nat) : Nat := nc - bit (ncTrap nc) 11
/-- The first field in which a contribution differs from its sequence: 0 `OP`, 1 `OPER`, 2 `NUMCTL`, 3 `COUNT`, 4 `ROOT`. -/
def differs (q : Sequence) (f : Frame) : Option Nat :=
  if q.op ≠ xOp f then some 0
  else if opReduces q.op && q.oper != xOper f then some 1
  else if maskNan q.numctl ≠ maskNan (xNumctl f) then some 2
  else if q.count ≠ xCount f then some 3
  else if q.root ≠ 65536 && q.root != xRoot f then some 4
  else none
/-- Values refused at the opening: an operation not in `OPS`, BARRIER by `CONTRIB`, R198, R192, R224. -/
def refusedOpen (k : GroupCfg) (q : Sequence) : Option Nat :=
  if !k.ops.testBit q.op || q.op == 5 then some 0
  else if (numctlCheck q.numctl k.mode (if opReduces q.op then some q.oper else none)).isSome then some 2
  else if numCountBad q.numctl q.count || !blocksWhole k q then some 3
  else none
/-- The causes of R274 at a root. -/
def updateRefused (s : State) (g : Nat) (q : Sequence) : Option Nat :=
  let k := gcfg s g
  if q.op ≠ 6 || !(roots k 0 || roots k 1) then none
  else match updBindOf s q with
    | none => some 1
    | some b =>
      if b.group ≠ g then some 1
      else if updStep q ≠ b.doneStep + 1 && updStep q ≠ b.doneStep then some 2
      else if q.count ≠ b.elems then some 3
      else if !operIsSum q.oper then some 4
      else if ncFmt q.numctl ≠ ncFmt k.numctl || ncFmt q.numctl == 9 then some 5
      else none
/-- Pages that an image claimed for the sequence before it opened (R235). -/
def claimedPages (s : State) (g seq : Nat) : List Window :=
  s.sched.windows.filter fun w => w.kind == 3 && w.a == g && w.c / 65536 == seq && s.mono < w.until_
/-- A page, by its key, as the basket of a chunk of an image's group; the staging of an update follows it (assumption 69). -/
def claimPage (g seq c key : Nat) (s : State) : State :=
  match seqOf s g seq with
  | none => s
  | some q =>
    let k := gcfg s g
    let d := key / 1024
    let t := key / 32 % 32
    let n := if updAt k q c then stagePagesFor s k q else 0
    let h := chunkIn q c
    if q.dstate ≠ 1 ∨ h.basket.isSome ∨ h.finished then s
    else serveChunk g seq c (grantBasket g seq c (.page d t (key % 32))
      ((List.range n).map fun i => .page d t ((key % 32 + 1 + i) % 32)) 0 s)
def takeClaims (g seq : Nat) (s : State) : State :=
  forEach (claimedPages s g seq) (fun w s =>
    claimPage g seq w.b (w.c % 65536) (onSched (fun x => { x with windows := x.windows.filter (· != w) }) s)) s
/-- Opens a sequence with a frame, failing it at once where its values are refused (R219, R274). -/
def openWith (g seq root : Nat) (f : Frame) (s : State) : State :=
  let s := openSeq g seq root f s
  match seqOf s g seq with
  | none => s
  | some q =>
    match refusedOpen (gcfg s g) q with
    | some n => mismatch g seq (xMember f) n s
    | none =>
      match updateRefused s g q with
      | some c => failSeq g seq 3 (record 0x08C4 [(2, g), (4, seq), (1, rd q.update 447 432), (1, c)] s)
      | none =>
        let s := whenS (passesFromStart (gcfg s g) q && opReduces q.op) (onSeq g seq fun x => { x with flags := x.flags ||| 1 }) s
        takeClaims g seq (checkDone g seq s)
/-- A piece of an open sequence, in shape: passed on, taken in, or left to wait for a basket. -/
def placePiece (g seq : Nat) (src : Nat) (e : QEnt) (s : State) : State :=
  match seqOf s g seq with
  | none => dropEnt e s
  | some q =>
    let k := gcfg s g
    let f := e.frame
    let c := xChunk f
    let h := chunkIn q c
    if q.dstate ≠ 1 then countDup g e s
    else if passesFromStart k q || h.passed then
      if src < k.entries.length then passPiece e.die g seq c f (dropEnt e s) else dropEnt e s
    else if h.finished then countDup g e s
    else if tileTakes s k h && h.waiting.isEmpty then feedChunk g seq c (takeFrame g seq c e s)
    else
      onChunk g seq c (fun x => { x with
        waiting := x.waiting ++ [e], waitSince := if x.basket.isNone && x.waitSince.isNone then some s.mono else x.waitSince }) s
/-- The group path takes a contribution (R219). -/
def takeContrib (e : QEnt) (s : State) : State :=
  let f := e.frame
  let g := xGroup f
  let seq := xSeq f
  let k := gcfg s g
  if groupSt s g ≠ 2 then badMember g e s
  else if !inWindow s g seq then onGroup g (fun x => { x with windowDrop := inc32 x.windowDrop }) (dropEnt e s)
  else match (if xKind f < 2 then sourceOf k f else none) with
    | none => badMember g e s
    | some src =>
      if !inShape k (frameSeq f) src f then badMember g e s
      else
        let s := if (seqOf s g seq).isNone then openWith g seq (xRoot f) f s else s
        match seqOf s g seq with
        | none => dropEnt e s
        | some q =>
          if q.dstate ≠ 1 then countDup g e s
          else if q.byUpdraft then mismatch g seq (xMember f) 0 (dropEnt e s)
          else match differs q f with
            | some n => mismatch g seq (xMember f) n (dropEnt e s)
            | none =>
              let s := onSeq g seq (fun x => { x with root := xRoot f }) s
              firstClaimOf g seq (placePiece g seq src e s)
def execContribRx (d : Nat) (bad : Bool) (s : State) : Host.Outcome State Fault Refusal :=
  .next (consume (64 * d + 2) bad (fun f => f.typ == 6 && xKind f != 2) takeContrib s)

/-! ### Results from other modules (R227, R233) -/

/-- Has every result sub-frame of a chunk been passed on? -/
def allRelayed (k : GroupCfg) (q : Sequence) (c : Nat) : Bool :=
  (List.range (piecesIn k q c)).all fun pc =>
    (List.range (subsFor (resultBytes k q c pc))).all fun sb => (chunkIn q c).got.contains (pc * 256 + sb)
def takeData (e : QEnt) (s : State) : State :=
  let f := e.frame
  let g := xGroup f
  let seq := xSeq f
  let c := xChunk f
  let k := gcfg s g
  let h := chunkOf s g seq c
  if (treeOf k (c % 2)).parent = 0 || (treeOf k (c % 2)).parent >>> 8 != f.src >>> 8 || h.finished then dropEnt e s
  else if xEpoch f ≠ h.epoch then onGroup g (fun x => { x with oldEpoch := inc32 x.oldEpoch }) (dropEnt e s)
  else if h.got.contains (xPiece f * 256 + xSub f) then dropEnt e s
  else
    let s := relayResult e.die g seq c (xPiece f) (xSub f) f (dropEnt e s)
    match seqOf s g seq with
    | some q => if q.op ≠ 6 && allRelayed k q c then finishChunk g seq c s else s
    | none => s
def takePassthru (e : QEnt) (s : State) : State :=
  let f := e.frame
  let g := xGroup f
  let seq := xSeq f
  let c := xChunk f
  let k := gcfg s g
  if !(neighbours k (c % 2)).any (fun x => x.1 >>> 8 == f.src >>> 8) then dropEnt e s
  else
    let s := match seqOf s g seq with
      | some q => if passesFromStart k q then s else passChunk g seq c s
      | none => s
    passPiece e.die g seq c f (dropEnt e s)
/-- Must a result wait for a contribution that fixes the root of a REDUCE? -/
def resultTooEarly (s : State) (f : Frame) : Bool :=
  xOp f == 1 && groupSt s (xGroup f) == 2 && inWindow s (xGroup f) (xSeq f) &&
    (match seqOf s (xGroup f) (xSeq f) with | some q => q.dstate == 1 && q.root == 65536 | none => true)
def takeResult (e : QEnt) (s : State) : State :=
  let f := e.frame
  let g := xGroup f
  let seq := xSeq f
  if groupSt s g ≠ 2 || !inWindow s g seq || 2 ≤ xKind f then dropEnt e s
  else
    let s := if (seqOf s g seq).isNone then openWith g seq 65536 f s else s
    if !seqOpen s g seq then dropEnt e s
    else if xKind f = 0 then takeData e s else takePassthru e s
def execResultRx (d : Nat) (bad : Bool) (s : State) : Host.Outcome State Fault Refusal :=
  .next (consume (64 * d + 2) bad (fun f => f.typ == 7 && !resultTooEarly s f) takeResult s)

/-! ### Notices (R221, R233, R240) -/

/-- Is a frame a notice of a kind: 0 FALLBACK, 1 RECOMPUTE, 2 TREE_DONE? -/
def isNote (n : Nat) (f : Frame) : Bool := f.typ == 6 && xKind f == 2 && xNote f == n
def fromParent (k : GroupCfg) (f : Frame) : Bool :=
  let p := (treeOf k (xChunk f % 2)).parent
  p != 0 && p >>> 8 == f.src >>> 8
def fromChild (k : GroupCfg) (f : Frame) : Bool := (childrenOf k (xChunk f % 2)).any fun x => x.1 >>> 8 == f.src >>> 8
/-- Handles a notice of an enabled group's sequence, opening the sequence when it is not. -/
def withNote (f : QEnt → State → State) (e : QEnt) (s : State) : State :=
  let fr := e.frame
  let g := xGroup fr
  let s := dropEnt e s
  if groupSt s g ≠ 2 || !inWindow s g (xSeq fr) then s
  else
    let s := if (seqOf s g (xSeq fr)).isNone then openWith g (xSeq fr) (xRoot fr) fr s else s
    if seqOpen s g (xSeq fr) then f e s else s
def noteFallback (e : QEnt) (s : State) : State :=
  let f := e.frame
  let g := xGroup f
  let k := gcfg s g
  if fromParent k f then
    passChunk g (xSeq f) (xChunk f) (noteChildren g (xSeq f) (xChunk f % 2) 0 (xChunk f) (xEpoch f) 0 s)
  else if fromChild k f then startFallback g (xSeq f) (xChunk f) s
  else s
def noteRecompute (e : QEnt) (s : State) : State :=
  let f := e.frame
  let g := xGroup f
  let k := gcfg s g
  if fromParent k f then
    recompute g (xSeq f) (xChunk f) (xEpoch f) 0 (noteChildren g (xSeq f) (xChunk f % 2) 1 (xChunk f) (xEpoch f) 0 s)
  else if fromChild k f then
    if roots k (xChunk f % 2) then detectOn g (rootRecompute g (xSeq f) (xChunk f) 0) s
    else noteParent g (xSeq f) (xChunk f) 1 (xEpoch f) 0 s
  else s
/-- TREE_DONE from the parent of a tree: passed on, and noted; a status other than OK ends the tree's chunks. -/
def noteTreeDone (e : QEnt) (s : State) : State :=
  let f := e.frame
  let g := xGroup f
  let seq := xSeq f
  let j := xChunk f % 2
  match seqOf s g seq with
  | none => s
  | some q =>
    if !fromParent (gcfg s g) f || q.treeRx.contains j then s
    else
      let s := onSeq g seq (fun x => { x with treeRx := j :: x.treeRx, status := max x.status (xStatus f) }) s
      let s := noteChildren g seq j 2 j 0 (xStatus f) s
      if xStatus f ≠ 0 || q.op == 6 then endTree g seq j (xStatus f) s else checkDone g seq s
def execFallbackNoticeRx (d : Nat) (bad : Bool) (s : State) : Host.Outcome State Fault Refusal :=
  .next (consume (64 * d + 2) bad (isNote 0) (withNote noteFallback) s)
def execRecomputeNoticeRx (d : Nat) (bad : Bool) (s : State) : Host.Outcome State Fault Refusal :=
  .next (consume (64 * d + 2) bad (isNote 1) (withNote noteRecompute) s)
def execTreeDoneRx (d : Nat) (bad : Bool) (s : State) : Host.Outcome State Fault Refusal :=
  .next (consume (64 * d + 2) bad (isNote 2) (withNote noteTreeDone) s)

/-! ### Claims and releases (R229 to R232) -/

/-- Waiting claims in ascending (slice, group) order, those of one group in order of arrival. -/
def claimOrder (s : State) : List (Nat × Nat × Nat) :=
  s.tile.claimWait.foldl (fun l e =>
    let key := fun (x : Nat × Nat × Nat) => groupSlice s x.1 * 65536 + x.1
    (l.filter fun x => key x ≤ key e) ++ e :: l.filter fun x => key e < key x) []
/-- Every waiting claim tries again, in order (R231, R232). -/
def execClaimRetry (s : State) : Host.Outcome State Fault Refusal :=
  .next (forEach (claimOrder s) (fun e => tryClaim e.1 e.2.1 e.2.2) s)
/-- Every frame that the module holds, queued, granted, sent and not acknowledged, or waiting. -/
def heldFramesAll (s : State) : List Frame :=
  (s.core.leaf.flatMap fun e => e.2.map (·.frame)) ++ (s.core.cons.flatMap fun e => e.2.map (·.frame)) ++
    (s.net.links.flatMap fun e => e.2.txq.map (·.frame)) ++ (s.core.dies.flatMap fun e => e.2.waits.map (·.frame)) ++
    s.core.heldFrames.map (·.frame)
/-- Is a partial or a result copy of a chunk, generated here, not yet acknowledged (R229)? -/
def copiesOut (s : State) (g seq c : Nat) : Bool :=
  let own := ownCoord s 0xF3
  let rt := roots (gcfg s g) (c % 2)
  (heldFramesAll s).any fun f =>
    f.src == own && (if rt then f.typ == 7 && xKind f == 0 else f.typ == 6 && xKind f == 1) && xGroup f == g && xSeq f == seq &&
      xChunk f == c
/-- Has a chunk generated all that its basket is for? -/
def basketSpent (s : State) (g seq c : Nat) : Bool :=
  match seqOf s g seq with
  | none => false
  | some q =>
    let k := gcfg s g
    let h := chunkIn q c
    if updAt k q c then h.finished else h.finished || (!roots k (c % 2) && h.sent.length == piecesIn k q c)
def execBasketRelease (g seq c : Nat) (s : State) : Host.Outcome State Fault Refusal :=
  .next (if (chunkOf s g seq c).basket.isSome && basketSpent s g seq c && !copiesOut s g seq c then
    nextClaimOf g seq (dropBasket g seq c s) else s)

/-! ### Timeouts (R233, R237) and the end of DISABLING -/

/-- A chunk that has had a piece waiting without a basket for `FALLBACK_US` passes through. -/
def execFallbackTimeout (g seq c : Nat) (s : State) : Host.Outcome State Fault Refusal :=
  .next (match seqOf s g seq with
    | some q =>
      let h := chunkIn q c
      if q.dstate == 1 && q.op != 6 && !schedGroup s g && h.basket.isNone && h.waitSince.isSome then
        startFallback g seq c s else s
    | none => s)
/-- The watchdog: `STALLED`, recorded once. -/
def execGroupWatchdog (g seq : Nat) (s : State) : Host.Outcome State Fault Refusal :=
  .next (match seqOf s g seq with
    | some q =>
      if q.dstate == 1 && !q.flags.testBit 1 && !s.sys.keelLost then
        let m := missingOf (gcfg s g) q
        record 0x07C1 [(2, g), (4, seq), (2, m.1.length + popcount m.2)]
          (onSeq g seq (fun x => { x with flags := x.flags ||| 2 }) s)
      else s
    | none => s)
/-- The `GROUP.DISABLE` ticket of a group. -/
def disableTicket (s : State) (g : Nat) : Option Nat :=
  ((begunOps s 0x0703).find? fun t => rdLe t.param 0 2 == g).map (·.ticket)
/-- A DISABLING group that holds no basket, staging or cell returns to CONFIGURED, its quotas and slot released, unless
its ticket is SUSPENDED. -/
def execGroupDisableDone (g : Nat) (s : State) : Host.Outcome State Fault Refusal :=
  .next (if groupSt s g = 3 && groupIdle s g && (disableTicket s g).all (runningTk s · 0x0703) then
    let s := onGroup g (fun x => { x with st := 1 }) s
    match disableTicket s g with | some tk => ticketDone tk s | none => s
  else s)

/-! ### Tile-queue entries (R261) and DMA -/

def execCombineEntry (t : Nat) (parity : Option Nat) (s : State) : Host.Outcome State Fault Refusal :=
  .next (runEntry t parity isCombine (doCombine t) s)
def execFinaliseEntry (t : Nat) (parity : Option Nat) (s : State) : Host.Outcome State Fault Refusal :=
  .next (runEntry t parity isFinalise (doFinalise t) s)
def execUpdateEntry (t : Nat) (parity : Option Nat) (s : State) : Host.Outcome State Fault Refusal :=
  .next (runEntry t parity (updateReady s t) (doUpdate t) s)
def execDmaComplete (t n : Nat) (crcBad : Bool) (s : State) : Host.Outcome State Fault Refusal := .next (dmaDone t n crcBad s)

end Sys2Proof.Machine
end

