-- ==== Sys2Proof/Machine/Updraft.lean ====
section
/-! DEFINITION. The updraft path (chapter 10): contexts, the fixed fold, sweeps across racks, recovery. -/

set_option Elab.async false

namespace Sys2Proof.Machine

/-! ### Fields (Table 10-1) and settings -/

def uCount (f : Frame) : Nat := bitsAt (extOf f) 159 152
def uDim (f : Frame) : Nat := bitsAt (extOf f) 151 150
def uReach (f : Frame) : Nat := bitsAt (extOf f) 147 144
def uOrigin (f : Frame) : Nat := bitsAt (extOf f) 143 140
def uStatus (f : Frame) : Nat := bitsAt (extOf f) 139 136
def uEpoch (f : Frame) : Nat := bitsAt (extOf f) 135 128
def uRoot (f : Frame) : Nat := bitsAt (extOf f) 127 112
def uSub (f : Frame) : Nat := bitsAt (extOf f) 95 88

/-! ### Blocks (Table 10-2, R250) -/

def ctxOf (s : State) (g seq : Nat) : Option UpdCtx := s.tile.ctxs.find? fun c => c.group == g && c.seq == seq
def onCtx (g seq : Nat) (f : UpdCtx → UpdCtx) (s : State) : State :=
  onTile (fun x => { x with ctxs := x.ctxs.map fun c => if c.group = g && c.seq = seq then f c else c }) s
def dropCtx (g seq : Nat) (s : State) : State :=
  onTile (fun x => { x with ctxs := x.ctxs.filter fun c => !(c.group == g && c.seq == seq) }) s
/-- Claims a context: on the group's reservation, whose last one serves only the base sequence, then on unreserved blocks. -/
def claimCtx (g seq : Nat) (q : Sequence) (s : State) : Option State :=
  let k := gcfg s g
  let u := updCfg s g
  let used := countWhere s.tile.ctxs fun c => c.group == g && c.draw == .quota
  let home := (nextUsable s (maskDies s k) (homeOf s k { q with op := 0 } seq 0)).getD 0
  let body := if q.op = 5 then 0 else bodyBlocks k u q.numctl (operOf q) (payloadBytes (ncFmt q.numctl) (operOf q) q.count) q.count
  let mk := fun (d : Draw) => onTile (fun x => { x with ctxs := x.ctxs ++
    [⟨g, seq, d, home, body, 0, [], [], [], [], [], none, none, none, 0, false, [], [], false⟩] }) s
  if used < u.updCtx ∧ (used + 1 < u.updCtx ∨ seq = (groupOf s g).base) then some (mk .quota)
  else if ((maskDies s k).filter (dieUsable s)).all fun d =>
      blocksReserved s d + blocksLoose s d + 1 + (if d = home then body else 0) ≤ 256 then some (mk .free)
  else none

/-! ### Partials on the wire -/

/-- A member's payload, or a peer's, as partials: elements, or for BROADCAST the bytes themselves. -/
def ownPartial (k : GroupCfg) (q : Sequence) (bs : List Byte) : List Nat :=
  if q.op = 4 then (bs.take (payloadBytes (ncFmt q.numctl) 0 q.count)).map (·.toNat)
  else (List.range q.count).map (elemPartial k.mode q.numctl (operOf q) bs)
def partialOut (k : GroupCfg) (q : Sequence) (ps : List Nat) : List Byte :=
  if q.op = 4 then ps.map (BitVec.ofNat 8) else partialStream k.mode q.numctl (operOf q) ps
def partialIn (k : GroupCfg) (q : Sequence) (bs : List Byte) : List Nat :=
  if q.op = 4 then (bs.take (payloadBytes (ncFmt q.numctl) 0 q.count)).map (·.toNat)
  else if q.op = 5 then [] else streamPartials k.mode q.numctl (operOf q) bs q.count
/-- Sub-frames of a sweep partial (R247); a BROADCAST module without the root sends an empty one (assumption 53). -/
def sweepSubs (k : GroupCfg) (q : Sequence) : Nat :=
  if q.op = 4 || q.op = 5 then 1 else max 1 ((q.count * partialBytes k.mode q.numctl (operOf q) + 63) / 64)
/-- Folds two lists of partials; for BROADCAST the one that is not empty. -/
def foldLists (k : GroupCfg) (q : Sequence) (a b : List Nat) : List Folded :=
  if q.op = 4 || q.op = 5 then (if a.isEmpty then b else a).map fun v => ⟨v, false, false⟩
  else (a.zip b).map fun e => foldPartial k.mode q.numctl (operOf q) e.1 e.2

/-! ### Folding (R251) -/

/-- Folds a list of inputs in order, latching NaNs. `who` gives the member of each input. -/
def foldInputs (g seq : Nat) (home : Nat) (ins : List (Nat × List Nat)) (s : State) : List Nat × State :=
  match seqOf s g seq with
  | none => ([], s)
  | some q =>
    let k := gcfg s g
    let lat := fun (who : Nat) (ps : List Nat) (s : State) =>
      if q.op = 4 || q.op = 5 then s
      else latchFolds g seq (0x8000 + home) who q.numctl (operOf q) 0
        (ps.map fun p => (partialNan k.mode q.numctl (operOf q) p, false)) s
    match ins with
    | [] => ([], s)
    | x :: r =>
      r.foldl (fun a y =>
        let rs := foldLists k q a.1 y.2
        let s := lat y.1 y.2 a.2
        let s := latchFolds g seq (0x8000 + home) 0xFFFF q.numctl (operOf q) 0 (rs.map fun e => (false, e.produced)) s
        (rs.map (·.val), s)) (x.2, lat x.1 x.2 s)

/-! ### Sweeps (R253) -/

/-- The home die's lowest ring lane-port in a direction whose link is UP. -/
def sweepLp (s : State) (home dirn : Nat) : Option Nat :=
  ((List.range 3).flatMap fun i => portLps s (32 * home + 18 + 3 * dirn + i)).find? (linkUp s)
/-- Sends a frame along a direction (0 A+, 1 A−, 2 B+, 3 B−) to the group's sweep neighbour there. -/
def sendSweep (g : Nat) (home dirn : Nat) (post : Bool) (ext : Nat) (p : List Byte) (s : State) : State :=
  let nb := (updCfg s g).nbrs.getD dirn (0, 0)
  let f := mkFrame nb.1 (ownCoord s 0xF3) 1 8 (groupSlice s g) nb.2 0 (some ext) p
  let s := onCtx g (xSeq f) (fun c => { c with sentTo := c.sentTo ++ [(dirn, f)] }) s
  match sweepLp s home dirn with
  | some l =>
    let b := s.set.active
    let vc := 2 + (if post || isDateline b (dirn / 2) (dirn % 2 == 0) then 1 else 0)
    liftLp l (onCore (fun c => { c with updTx := mmod [] c.updTx l (· ++ [(f, vc, 1)]) }) s)
  | none => countLost .unreachable none f s
/-- The module's position in a dimension. -/
def ringPos (s : State) (dim : Nat) : Nat := if dim = 0 then s.set.active.ownA else s.set.active.ownB
/-- Sends a partial along both directions of a dimension. -/
def sweepOut (g seq dim : Nat) (ps : List Nat) (s : State) : State :=
  match seqOf s g seq, ctxOf s g seq with
  | some q, some c =>
    let k := gcfg s g
    let bs := partialOut k q ps
    let parts := if bs.isEmpty then [[]] else chunksOf 64 bs
    forEach [2 * dim, 2 * dim + 1] (fun dr s =>
      let reach := (updCfg s g).reach.getD dr 0
      if reach = 0 then s
      else forEach (parts.zipIdx) (fun x s =>
        sendSweep g c.home dr false (updExt g seq 0xFFFF 1 q 0 dim reach (ringPos s dim) 0 c.epoch 0 x.2 false) x.1 s) s) s
  | _, _ => s
/-- A notice along every direction with a reach: DONE (0), or INTERRUPTED (2). -/
def sweepNotice (g seq note : Nat) (s : State) : State :=
  match seqOf s g seq, ctxOf s g seq with
  | some q, some c =>
    forEach (List.range 4) (fun dr s =>
      let reach := (updCfg s g).reach.getD dr 0
      if reach = 0 then s
      else sendSweep g c.home dr false (updExt g seq 0xFFFF 3 q note (dr / 2) reach (ringPos s (dr / 2)) 0 c.epoch 0 0 false) [] s) s
  | _, _ => s

/-! ### Delivery (R252, R255) -/

/-- Frees a context that has delivered and has heard DONE from all its peers. -/
def checkCtx (g seq : Nat) (s : State) : State :=
  match ctxOf s g seq with
  | some c =>
    let u := updCfg s g
    if c.delivered && u.peersA + u.peersB ≤ c.doneFrom.length then dropCtx g seq s else s
  | none => s
/-- Finalises and delivers: one `RESULT` per local member (R252). -/
def deliverUpd (g seq : Nat) (ps : List Nat) (s : State) : State :=
  match seqOf s g seq, ctxOf s g seq with
  | some q, some c =>
    let k := gcfg s g
    let oper := operOf q
    let red := !(q.op = 4 || q.op = 5)
    let bad := if red then (ps.zipIdx).filter fun e => finalNan k.mode q.numctl oper k.members e.1 else []
    let s := forEach bad (fun e => latchNan g seq 3 oper 0xFFFF (0x8000 + c.home) q.numctl e.2) s
    let trap := traps s g && red && (!bad.isEmpty || ps.any (partialNan k.mode q.numctl oper))
    let bs := if q.op = 5 || trap then [] else if q.op = 4 then ps.map (BitVec.ofNat 8)
      else finaliseBytes k.mode q.numctl oper k.members ps
    let st := if trap then 2 else 0
    let s := whenS trap (record 0x08C1 [(2, g), (4, seq), (2, 0x8000 + c.home)]) s
    let s := forEach k.entries (fun e s =>
      updResult g seq q st c.epoch c.recomputed (if q.op = 1 && e.1 != q.root then [] else bs) e s) s
    let s := onCtx g seq (fun c => { c with delivered := true, result := some bs, status := st }) s
    checkCtx g seq (closeSeq g seq st false (sweepNotice g seq 0 s))
  | _, _ => s
/-- The members whose input a rack fold awaits. -/
def awaited (k : GroupCfg) (q : Sequence) : List Nat :=
  (k.entries.map (·.1)).filter fun m => q.op != 4 || m == q.root
/-- Advances a context through its three folds as far as its inputs allow. -/
def advanceRack (g seq : Nat) (s : State) : State :=
  match seqOf s g seq, ctxOf s g seq with
  | some q, some c =>
    let k := gcfg s g
    if q.dstate ≠ 1 || c.rack.isSome || !(awaited k q).all (mhas c.members) then s
    else
      let ins := c.members.map fun e => (e.1, if q.op = 5 then [] else ownPartial k q e.2)
      let r := foldInputs g seq c.home ins s
      sweepOut g seq 0 r.1 (onCtx g seq (fun c => { c with rack := some r.1 }) r.2)
  | _, _ => s
/-- Peers of a dimension and the module's own partial, in ascending `ORIGIN`. -/
def withOwn (pos : Nat) (own : List Nat) (ps : Map (List Nat)) : List (Nat × List Nat) :=
  (mput ps pos own).map fun e => (0xFFFF, e.2)
def advanceA (g seq : Nat) (s : State) : State :=
  match seqOf s g seq, ctxOf s g seq with
  | some q, some c =>
    match c.rack with
    | some own =>
      if q.dstate ≠ 1 || c.foldA.isSome || c.peersA.length < (updCfg s g).peersA then s
      else
        let r := foldInputs g seq c.home (withOwn (ringPos s 0) own c.peersA) s
        sweepOut g seq 1 r.1 (onCtx g seq (fun c => { c with foldA := some r.1 }) r.2)
    | none => s
  | _, _ => s
def advanceB (g seq : Nat) (s : State) : State :=
  match seqOf s g seq, ctxOf s g seq with
  | some q, some c =>
    match c.foldA with
    | some own =>
      if q.dstate ≠ 1 || c.delivered || c.peersB.length < (updCfg s g).peersB then s
      else
        let r := foldInputs g seq c.home (withOwn (ringPos s 1) own c.peersB) s
        deliverUpd g seq r.1 r.2
    | none => s
  | _, _ => s
def advanceCtx (g seq : Nat) (s : State) : State := advanceB g seq (advanceA g seq (advanceRack g seq s))

/-! ### Opening (R246, R250) -/

/-- The sequence fields that an `UPDRAFT` frame carries, at the places where `openSeq` reads them. -/
def asContrib (f : Frame) : Frame :=
  let x := extOf f
  { f with ext := some ((x >>> 160 <<< 160) + (uCount f <<< 128)) }
/-- What the updraft path refuses at the opening (R246, R198, R192). -/
def refusedUpd (k : GroupCfg) (u : UpdCfg) (q : Sequence) : Option Nat :=
  if q.op = 2 || q.op = 3 || q.op == 6 || !k.ops.testBit q.op || 7 ≤ q.op then some 0
  else if (numctlCheck q.numctl k.mode (if opReduces q.op then some q.oper else none)).isSome && q.op != 5 then some 2
  else if q.op != 5 && (fmtIsMx (ncFmt q.numctl) || numCountBad q.numctl q.count ||
      u.updMax < payloadBytes (ncFmt q.numctl) (operOf q) q.count) then some 3
  else none
/-- No context is free: the frame is refused (R250). -/
def busyUpd (e : QEnt) (s : State) : State :=
  let f := e.frame
  let s := onTile (fun x => { x with busyRetry := mmod 0 x.busyRetry e.die inc32 }) s
  let s := record 0x07C6 [(2, xGroup f), (4, xSeq f), (1, e.die)] s
  nack e.die f 6 (dropEnt e s)
/-- Runs an action on an open updraft sequence with its context, opening both for the first frame. -/
def withCtx (e : QEnt) (act : State → State) (s : State) : State :=
  let f := e.frame
  let g := xGroup f
  let seq := xSeq f
  let k := gcfg s g
  match seqOf s g seq with
  | some q =>
    if q.dstate ≠ 1 then onGroup g (fun x => { x with dup := inc32 x.dup }) (dropEnt e s)
    else if !q.byUpdraft then mismatch g seq (xMember f) 0 (dropEnt e s)
    else if (ctxOf s g seq).isSome then act (dropEnt e s)
    else match claimCtx g seq q s with
      | some s => act (dropEnt e s)
      | none => busyUpd e s
  | none =>
    let q := { frameSeq (asContrib f) with count := uCount f, root := uRoot f, byUpdraft := true, cls := 1 }
    match refusedUpd k (updCfg s g) q with
    | some n => mismatch g seq (xMember f) n (openSeq g seq (uRoot f) (asContrib f) (dropEnt e s))
    | none =>
      match claimCtx g seq q s with
      | some s => act (openSeq g seq (uRoot f) (asContrib f) (dropEnt e s))
      | none => busyUpd e s
/-- The first field in which an updraft frame differs from its sequence. -/
def updDiffers (q : Sequence) (f : Frame) : Option Nat :=
  differs q { f with ext := some ((extOf (asContrib f)) + (uRoot f <<< 76)) }
/-- Checks every updraft frame passes first: the group ENABLED, the sequence in its window. -/
def updGate (e : QEnt) (f : QEnt → State → State) (s : State) : State :=
  let g := xGroup e.frame
  if groupSt s g ≠ 2 then badMember g e s
  else if !inWindow s g (xSeq e.frame) then onGroup g (fun x => { x with windowDrop := inc32 x.windowDrop }) (dropEnt e s)
  else f e s

/-! ### Detections (Table 10-3) -/

/-- REFILL to each sweep neighbour. -/
def sendRefill (g seq : Nat) (s : State) : State :=
  match seqOf s g seq, ctxOf s g seq with
  | some q, some c =>
    forEach (List.range 4) (fun dr s =>
      if (updCfg s g).reach.getD dr 0 = 0 then s
      else sendSweep g c.home dr false (updExt g seq 0xFFFF 3 q 1 (dr / 2) 1 (ringPos s (dr / 2)) 0 c.epoch 0 0 false) [] s) s
  | _, _ => s
/-- A context's SRAM fails its parity, or its home die is isolated. -/
def loseCtx (g seq : Nat) (s : State) : State :=
  match seqOf s g seq, ctxOf s g seq with
  | some q, some c =>
    let k := gcfg s g
    let s := coreReport c.home 2 s
    let refilled := fun (s : State) => onTile (fun x => { x with refills := mmod 0 x.refills c.home inc32 }) s
    if c.delivered then
      let s := forEach (List.range 4) (fun dr s =>
        if (updCfg s g).reach.getD dr 0 = 0 then s
        else record 0x07C7 [(2, g), (4, seq), (4, ((updCfg s g).nbrs.getD dr (0, 0)).1)] s) s
      refilled (sendRefill g seq (onCtx g seq (fun c => { c with result := none, peersA := [], peersB := [], members := [] }) s))
    else if namesGroup s g && haltable s then haltImage 6 s
    else if k.mode = 0 || 255 ≤ c.epoch then
      let s := record 0x07C4 [(2, g), (4, seq), (3, 0)] (sweepNotice g seq 2 s)
      endSeq g seq 1 (dropSeq g seq s)
    else
      let ep := c.epoch + 1
      let home := (nextUsable s (maskDies s k) c.home).getD c.home
      let s := onCtx g seq (fun c => { c with
        epoch := ep, home := home, members := [], peersA := [], peersB := [], subsA := [], subsB := [], rack := none, foldA := none,
        sentTo := [], recomputed := true }) s
      let s := onSeq g seq (fun x => { x with flags := x.flags ||| 4 }) s
      let s := onGroup g (fun x => { x with recomputes := inc32 x.recomputes }) s
      let s := record 0x07C3 [(2, g), (4, seq), (3, 0), (1, ep), (1, 2)] s
      let s := forEach k.entries (fun e s =>
        let x := updExt g seq e.1 0 q 0 0 0 0 0 ep 0 0 false
        let ext := (5 <<< 248) + (8 <<< 243) + (1 <<< 240) + (ownCoord s 0xF3 <<< 208) + ((bindOf s 4 g).gen <<< 192) + (x >>> 64)
        inject home (mkFrame e.2 (ownCoord s 0xF3) 3 5 (groupSlice s g) 0 0 (some ext) []) s) s
      refilled (sendRefill g seq s)
  | _, _ => s
/-- A cell of a C1 reservation fails its CRC. -/
def updBad (e : QEnt) (s : State) : State :=
  let s := onDie e.die (fun x => { x with cellCrc := inc32 x.cellCrc }) s
  nack e.die e.frame 7 (frameLost e.frame (dropEnt e (coreReport e.die 1 s)))
/-- Is a die's updraft unit held by the UPD window of another group (Table 13-8)? -/
def updHeld (s : State) (d g : Nat) : Bool :=
  s.sched.windows.any fun w => w.kind == 10 && w.a == d && s.mono < w.until_ && w.b != g
/-- The updraft unit of a die takes the head of its C1 queue. `parity`: the context it reads fails its parity. -/
def consumeC1 (d : Nat) (bad parity : Bool) (p : Frame → Bool) (f : QEnt → State → State) (s : State) : State :=
  match consQ s (64 * d + 3) with
  | e :: r =>
    if p e.frame && !updHeld s d (xGroup e.frame) then
      let s := onCons (64 * d + 3) (fun _ => r) s
      if bad then updBad e s
      else updGate e f (whenS parity
        (loseCtx (xGroup e.frame) (xSeq e.frame)) s)
    else s
  | [] => s

/-! ### Rows -/

/-- A member's input, counted once at the current epoch. -/
def takeMember (e : QEnt) (s : State) : State :=
  let f := e.frame
  let g := xGroup f
  let seq := xSeq f
  let k := gcfg s g
  if !k.entries.any (fun x => x.1 == xMember f && x.2 >>> 8 == f.src >>> 8) then badMember g e s
  else withCtx e (fun s =>
    match seqOf s g seq, ctxOf s g seq with
    | some q, some c =>
      match updDiffers q f with
      | some n => mismatch g seq (xMember f) n s
      | none =>
        if uEpoch f ≠ c.epoch then onGroup g (fun x => { x with oldEpoch := inc32 x.oldEpoch }) s
        else if mhas c.members (xMember f) || (q.op = 4 && xMember f != q.root) then
          onGroup g (fun x => { x with dup := inc32 x.dup }) s
        else
          let n := if q.op = 5 then 0 else payloadBytes (ncFmt q.numctl) (operOf q) q.count
          let s := auditPiece g seq (xMember f) 0 n (f.payload.take n) s
          advanceCtx g seq (onCtx g seq (fun c => { c with members := mput c.members (xMember f) (f.payload.take n) }) s)
    | _, _ => s) s
def execUpdraftMemberRx (d : Nat) (bad parity : Bool) (s : State) : Host.Outcome State Fault Refusal :=
  .next (consumeC1 d bad parity (fun f => xKind f == 0 || 4 ≤ xKind f) takeMember s)
/-- The direction in which a frame from a neighbour travels on. -/
def onward (s : State) (g : Nat) (f : Frame) : Option Nat :=
  let u := updCfg s g
  [(0, 1), (1, 0), (2, 3), (3, 2)].findSome? fun p =>
    if p.1 / 2 = uDim f && (u.nbrs.getD p.2 (0, 0)).1 >>> 8 == f.src >>> 8 then some p.1 else none
/-- Sends a sweep frame or notice on with its `REACH` reduced by one. -/
def passOn (g : Nat) (home : Nat) (post : Bool) (f : Frame) (s : State) : State :=
  if uReach f ≤ 1 then s
  else match onward s g f with
    | some dr => sendSweep g home dr post (extOf f - (1 <<< 144)) (f.payload) s
    | none => s
/-- A peer's partial: kept, sent on, and folded when all are there. -/
def takeSweep (e : QEnt) (s : State) : State :=
  let f := e.frame
  let g := xGroup f
  let seq := xSeq f
  withCtx e (fun s =>
    match seqOf s g seq, ctxOf s g seq with
    | some q, some c =>
      let k := gcfg s g
      match updDiffers q f with
      | some n => mismatch g seq (xMember f) n s
      | none =>
        let s := passOn g c.home (e.inVc % 2 == 1) f s
        let ps := if uDim f = 0 then c.peersA else c.peersB
        let sb := if uDim f = 0 then c.subsA else c.subsB
        if mhas ps (uOrigin f) then onGroup g (fun x => { x with dup := inc32 x.dup }) s
        else
          let sb := mput sb (uOrigin f * 256 + uSub f) f.payload
          let n := sweepSubs k q
          let got := (List.range n).all fun i => mhas sb (uOrigin f * 256 + i)
          let bs := (List.range n).flatMap fun i => mget [] sb (uOrigin f * 256 + i)
          let ps := if got then mput ps (uOrigin f) (partialIn k q bs) else ps
          let s := onCtx g seq (fun c => if uDim f = 0 then { c with peersA := ps, subsA := sb } else { c with peersB := ps, subsB := sb }) s
          advanceCtx g seq s
    | _, _ => s) s
/-- A neighbour's final result, kept to answer the module's own neighbours (Table 10-3). -/
def takeFinal (e : QEnt) (s : State) : State :=
  let f := e.frame
  onCtx (xGroup f) (xSeq f) (fun c => { c with result := some f.payload, status := uStatus f }) (dropEnt e s)
def execSweepRx (d : Nat) (bad parity : Bool) (s : State) : Host.Outcome State Fault Refusal :=
  .next (consumeC1 d bad parity (fun f => xKind f == 1 || xKind f == 2)
    (fun e s => if xKind e.frame = 1 then takeSweep e s else takeFinal e s) s)
def isUpdNote (n : Nat) (f : Frame) : Bool := xKind f == 3 && xNote f == n
def takeDone (e : QEnt) (s : State) : State :=
  let f := e.frame
  let g := xGroup f
  let seq := xSeq f
  let s := dropEnt e s
  match ctxOf s g seq with
  | some c =>
    let s := passOn g c.home (e.inVc % 2 == 1) f s
    let key := 16 * uDim f + uOrigin f
    checkCtx g seq (onCtx g seq (fun c => { c with doneFrom := if c.doneFrom.contains key then c.doneFrom else key :: c.doneFrom }) s)
  | none => s
def execUpdraftDoneNoticeRx (d : Nat) (bad : Bool) (s : State) : Host.Outcome State Fault Refusal :=
  .next (consumeC1 d bad false (isUpdNote 0) takeDone s)
/-- A REFILL: the sweep frames that had been sent to the requester, or the final result once delivered. -/
def takeRefill (e : QEnt) (s : State) : State :=
  let f := e.frame
  let g := xGroup f
  let seq := xSeq f
  let s := dropEnt e s
  match seqOf s g seq, ctxOf s g seq with
  | some q, some c =>
    let dr? := (List.range 4).find? fun dr => ((updCfg s g).nbrs.getD dr (0, 0)).1 >>> 8 == f.src >>> 8
    match dr? with
    | none => s
    | some dr =>
      if c.delivered then
        match c.result with
        | some bs =>
          let parts := if bs.isEmpty then [[]] else chunksOf 64 bs
          forEach (parts.zipIdx) (fun x s =>
            sendSweep g c.home dr false (updExt g seq 0xFFFF 2 q 0 0 0 0 c.status c.epoch (gcfg s g).members x.2 c.recomputed) x.1 s) s
        | none => s
      else
        forEach (c.sentTo.filter fun x => x.1 == dr && xKind x.2 == 1) (fun x s =>
          match sweepLp s c.home dr with
          | some l =>
            let vc := 2 + (if isDateline s.set.active (dr / 2) (dr % 2 == 0) then 1 else 0)
            liftLp l (onCore (fun k => { k with updTx := mmod [] k.updTx l (· ++ [(x.2, vc, 1)]) }) s)
          | none => s) s
  | _, _ => s
def execRefillRx (d : Nat) (bad : Bool) (s : State) : Host.Outcome State Fault Refusal :=
  .next (consumeC1 d bad false (isUpdNote 1) takeRefill s)
/-- INTERRUPTED: the sequence is FAILED, and the notice passed on. -/
def takeInterrupted (e : QEnt) (s : State) : State :=
  let f := e.frame
  let g := xGroup f
  let seq := xSeq f
  let s := dropEnt e s
  match ctxOf s g seq with
  | some c =>
    let s := passOn g c.home (e.inVc % 2 == 1) f s
    if seqOpen s g seq then endSeq g seq 1 (dropSeq g seq (sweepNotice g seq 2 s)) else s
  | none => s
def execInterruptedNoticeRx (d : Nat) (bad : Bool) (s : State) : Host.Outcome State Fault Refusal :=
  .next (consumeC1 d bad false (fun f => xKind f == 3 && 2 ≤ xNote f) takeInterrupted s)
/-- A module's own frame, refused BUSY_RETRY, goes out again (R250). -/
def execUpdraftResend (d : Nat) (s : State) : Host.Outcome State Fault Refusal :=
  .next (match s.tile.resend.find? (fun x => x.1 == d) with
    | some x =>
      let s := onTile (fun y => { y with resend := y.resend.erase x }) s
      let f := x.2.2
      let dr? := (List.range 4).find? fun dr => ((updCfg s (xGroup f)).nbrs.getD dr (0, 0)).1 >>> 8 == f.dest >>> 8
      match dr?.bind fun dr => (sweepLp s d dr).map fun l => (dr, l) with
      | some (dr, l) =>
        let vc := 2 + (if isDateline s.set.active (dr / 2) (dr % 2 == 0) then 1 else 0)
        liftLp l (onCore (fun k => { k with updTx := mmod [] k.updTx l (· ++ [(f, vc, 1)]) }) s)
      | none => sendC1 f s
    | none => s)

end Sys2Proof.Machine
end

