-- ==== Sys2Proof/Machine/GroupCmds.lean ====
section
/-! DEFINITION. The commands of groups (R211 to R215, R237, R245, R250, R260, R276). -/

set_option Elab.async false

namespace Sys2Proof.Machine

/-! ### The configuration record (Table 9-1) -/

def treeRec (bs : List Byte) (o : Nat) : TreeCfg :=
  ⟨rdLe bs o 4, rdLe bs (o + 4) 2, rdLe bs (o + 8) 4, rdLe bs (o + 12) 2, rdLe bs (o + 16) 4, rdLe bs (o + 20) 2⟩
/-- The record in a buffer; zero stands for the default of `DEPTH`, `FALLBACK_US` and `WDOG_MS`. -/
def groupRec (bs : List Byte) : GroupCfg where
  mode := rdLe bs 2 1
  gflags := rdLe bs 3 1
  numctl := rdLe bs 4 2
  slot := rdLe bs 6 1
  dieMask := rdLe bs 7 1
  ops := rdLe bs 8 2
  fastQuota := rdLe bs 10 2
  hbmQuota := rdLe bs 12 4
  stageQuota := rdLe bs 16 2
  depth := rdLe bs 18 1
  fallbackUs := rdLe bs 20 2
  wdogMs := rdLe bs 22 2
  members := rdLe bs 24 2
  tree0 := treeRec bs 0x20
  tree1 := treeRec bs 0x40
  entries := (List.range (rdLe bs 26 2)).map fun i => (rdLe bs (0x100 + 8 * i) 2, rdLe bs (0x104 + 8 * i) 4)
/-- Are the reserved bytes of the record zero (R14)? -/
def groupRsvdOk (bs : List Byte) : Bool :=
  let z := fun (o n : Nat) => rdLe bs o n == 0
  z 0x13 1 && z 0x1C 4 && [0x20, 0x40].all (fun o => z (o + 6) 2 && z (o + 14) 2 && z (o + 22) 10) && z 0x60 160 &&
    (List.range (rdLe bs 26 2)).all fun i => z (0x102 + 8 * i) 2
def inRange (v lo hi : Nat) : Bool := lo ≤ v && v ≤ hi
/-- Every field in its range, and L not above M. -/
def groupRanges (k : GroupCfg) : Bool :=
  k.mode ≤ 2 && k.gflags < 4 && k.numctl < 4096 && !k.numctl.testBit 4 && inRange k.slot 1 127 && k.dieMask != 0 && k.ops < 128 &&
    k.fastQuota ≤ 1024 && k.hbmQuota ≤ 131072 && k.stageQuota ≤ 8192 && k.depth ≤ 16 &&
    (k.fallbackUs == 0 || inRange k.fallbackUs 10 10000) && k.wdogMs ≤ 60000 && 1 ≤ k.members && k.entries.length ≤ k.members
def distinct (l : List Nat) : Bool := match l with | [] => true | a :: r => !r.contains a && distinct r
/-- Member entries that R213 refuses. -/
def membersBad (s : State) (k : GroupCfg) : Bool :=
  !distinct (k.entries.map (·.1)) || !distinct (k.entries.map (·.2)) ||
    k.entries.any fun e =>
      k.members ≤ e.1 || e.2 >>> 17 != ownCoord s 0 >>> 17 || coT e.2 == 63
/-- Tree fields that R213 refuses. -/
def treesBad (s : State) (k : GroupCfg) : Bool :=
  let bad := fun (t : TreeCfg) =>
    let ns := [t.parent, t.child0, t.child1].filter (· != 0)
    !distinct ns || ns.any fun c =>
      coK c != s.sys.plane || coT c != 63 || coS c != 0 || coF c != 0xF3 ||
        (coA c == s.set.active.ownA && coB c == s.set.active.ownB)
  bad k.tree0 || bad k.tree1 ||
    (k.entries.isEmpty && (childrenOf k 0).isEmpty && (childrenOf k 1).isEmpty)
/-- `ACCEL_MAX` (Table 1-5). -/
def accelMax (s : State) : Nat := 18 * s.id.n
/-- The checks of R212 and R213. -/
def chkGroupConfig (q : Req) (s : State) : Option Nat :=
  let bs := inData q
  let g := prm q 0 2
  let k := groupRec bs
  firstOf [refuseIf (!groupRsvdOk bs || !groupRanges k || accelMax s < k.entries.length) 0x0007,
    refuseIf ((List.range 8).any fun d => k.dieMask.testBit d && !dieFitted s d) 0x0003,
    refuseIf ((bindOf s 4 g).ost == 0) 0x0701, refuseIf ((bindOf s 4 g).ost == 2) 0x0006,
    refuseIf (groupOn s g) 0x0005, refuseIf (membersBad s k) 0x0705, refuseIf (treesBad s k) 0x0704,
    numctlCheck k.numctl k.mode none]
def execGroupConfig (q : Req) (s : State) : Host.Outcome State Fault Refusal :=
  let c := cat 0x0701
  let bs := inData q
  let len := 256 + 8 * rdLe bs 26 2
  let ok := len ≤ bs.length && (!onHostRing q || len ≤ bufLen c q)
  .next (runCommand c ok c.priv (chkGroupConfig q s) []
    (act (modSet fun t => { t with groups := mput t.groups (prm q 0 2) (groupRec bs) })) q s)

/-! ### Enabling (R215, R250, R276) -/

/-- Does the operation set name a reduction that needs a basket, on a module without tiles? -/
def opsNeedTiles (k : GroupCfg) : Bool :=
  k.ops.testBit 6 || (!k.gflags.testBit 0 && (k.ops.testBit 0 || k.ops.testBit 1 || k.ops.testBit 2))
/-- Pages of a die's tiles bound to a slice or to slice 0. -/
def slicePages (s : State) (d sl : Nat) : Nat :=
  32 * countWhere (usableTiles s d) fun t => (bindOf s 3 t).slice == sl || (bindOf s 3 t).slice == 0
/-- The quota row of R215 on one die. -/
def quotaBad (s : State) (g d : Nat) (k : GroupCfg) : Bool :=
  pagesTotal s d < quotaSum s d (·.fastQuota) + k.fastQuota || slicePages s d (groupSlice s g) < k.fastQuota ||
    blocksTotal s < quotaSum s d (·.hbmQuota) + k.hbmQuota || stageTotal s < quotaSum s d (·.stageQuota) + k.stageQuota ||
    (k.mode == 1 && k.stageQuota < (k.entries.length + 15) / 16)
/-- R276. -/
def updQuotaBad (s : State) (g : Nat) (k : GroupCfg) : Bool :=
  k.ops.testBit 6 &&
    (if roots k 0 || roots k 1 then
      match bindsOf s g with
      | [] => true
      | bs => bs.any fun b =>
          let w := (chunkElems k.mode (bindSeq s b.2) * progState s b.2.prog + 65535) / 65536
          k.fastQuota < depthOf k * (1 + w)
    else k.fastQuota + (if k.gflags.testBit 1 then k.hbmQuota else 0) < depthOf k)
/-- The group's reservation with what the enabled groups reserve passes a die's 256 blocks (R250). -/
def updBlocksBad (s : State) (g : Nat) (k : GroupCfg) : Bool :=
  (maskDies s k).any fun d => 256 < blocksReserved s d + reservedBlocks k (updCfg s g)
def chkGroupEnable (q : Req) (s : State) : Option Nat :=
  let g := prm q 0 2
  let k := gcfg s g
  firstOf [refuseIf (groupSt s g != 1) 0x0005, refuseIf ((bindOf s 4 g).ost == 2) 0x0006,
    refuseIf (!s.id.tiles && opsNeedTiles k) 0x0003, refuseIf (!(maskDies s k).all (dieUsable s)) 0x0005,
    refuseIf ((enabledGroups s).any fun h => (gcfg s h).slot == k.slot && groupSlice s h != groupSlice s g) 0x0702,
    refuseIf ((maskDies s k).any fun d => quotaBad s g d k) 0x0703, numctlCheck k.numctl k.mode none,
    refuseIf (updQuotaBad s g k) 0x0807, refuseIf (updBlocksBad s g k) 0x0707]
/-- Enables a group: window base, counters at 0, every descriptor FREE but its `UPDATE` field (assumption 56). -/
def enableGroup (g base : Nat) (s : State) : State :=
  let s := onGroup g (fun x => { groupDflt with st := 2, base := base, updates := x.updates, latch := x.latch }) s
  modSet (fun t => { t with enabled := mput t.enabled g base }) s
def execGroupEnable (q : Req) (s : State) : Host.Outcome State Fault Refusal :=
  .next (plain 0x0702 (chkGroupEnable q s) (act (enableGroup (prm q 0 2) (prm q 4 4))) q s)

/-! ### Disabling, aborting -/

def chkGroupDisable (q : Req) (s : State) : Option Nat := refuseIf (groupSt s (prm q 0 2) != 2) 0x0005
def execGroupDisable (q : Req) (s : State) : Host.Outcome State Fault Refusal :=
  .next (longOp 0x0703 1 true (chkGroupDisable q s) q s)
/-- Open sequences of a group, oldest first in the window. -/
def openSeqs (s : State) (g : Nat) : List Nat :=
  ((groupOf s g).seqs.filter fun e => e.2.2.dstate == 1).map (·.2.1)
/-- The start of a `GROUP.DISABLE`: every open sequence ends ABORTED. -/
def startGroupDisable (tk g : Nat) (s : State) : State :=
  if groupSt s g = 2 then
    let s := forEach (openSeqs s g) (fun n => failSeq g n 4) (onGroup g (fun x => { x with st := 3 }) s)
    modSet (fun t => { t with enabled := mdel t.enabled g }) s
  else ticketFail tk 0x0005 s

def chkGroupAbort (q : Req) (s : State) : Option Nat :=
  refuseIf (groupSt s (prm q 0 2) != 2 || !seqOpen s (prm q 0 2) (prm q 4 4)) 0x0005
def execGroupAbort (q : Req) (s : State) : Host.Outcome State Fault Refusal :=
  .next (plain 0x0704 (chkGroupAbort q s) (act (failSeq (prm q 0 2) (prm q 4 4) 4)) q s)

/-! ### Queries -/

/-- Zeroes the counters of a group's query. -/
def clearGroup (g : Nat) (s : State) : State :=
  if mhas s.tile.groups g then
    onGroup g (fun x => { x with
      dup := 0, oldEpoch := 0, windowDrop := 0, badMember := 0, fallbacks := 0, recomputes := 0, failed := 0, done := 0 }) s
  else s
def execGroupQuery (q : Req) (s : State) : Host.Outcome State Fault Refusal :=
  .next (plain 0x0705 none (fun s =>
    (whenS (prm q 2 1 == 1) (clearGroup (prm q 0 2)) s, qGroup s (prm q 0 2))) q s)
def execGroupMissing (q : Req) (s : State) : Host.Outcome State Fault Refusal :=
  .next (plain 0x0706 (refuseIf (groupSt s (prm q 0 2) != 2) 0x0005) (ans fun s => qMissing s (prm q 0 2) (prm q 4 4)) q s)
/-- The range and fitting of a named die, 0 to 7. -/
def dieChk (s : State) (d : Nat) : Option Nat :=
  if 8 ≤ d then some 0x0007 else unitChk (dieFitted s d) (dieUsable s d)
def execGroupPoolquery (q : Req) (s : State) : Host.Outcome State Fault Refusal :=
  .next (plain 0x0707 (dieChk s (prm q 0 1)) (ans fun s => qGroupPool s (prm q 0 1)) q s)
def execGroupUpdquery (q : Req) (s : State) : Host.Outcome State Fault Refusal :=
  .next (plain 0x0709 (dieChk s (prm q 0 1)) (ans fun s => qUpd s (prm q 0 1)) q s)
def clearLatch (g : Nat) (s : State) : State := onGroup g (fun x => { x with latch := latchDflt }) s
/-- `GROUP.NANREAD` (R211): OPERATOR with `CLEAR`. -/
def execGroupNanread (q : Req) (s : State) : Host.Outcome State Fault Refusal :=
  let clr := prm q 2 1 == 1
  .next (runCommand (cat 0x0780) true (if clr then 1 else 0) none []
    (fun s => (whenS (clr && groupOn s (prm q 0 2)) (clearLatch (prm q 0 2)) s, qLatch s (prm q 0 2))) q s)

/-! ### The updraft settings (R260) -/

def updRec (p : List Byte) : UpdCfg where
  updMax := let v := rdLe p 2 1; if v = 0 then 64 else v
  updCtx := let v := rdLe p 3 1; if v = 0 then 1 else v
  peersA := rdLe p 4 1
  peersB := rdLe p 5 1
  reach := (List.range 4).map fun i => rdLe p (6 + i) 1
  nbrs := (List.range 4).map fun i => (rdLe p (16 + 8 * i) 4, rdLe p (20 + 8 * i) 2)
/-- The module one step along a direction under the route geometry. -/
def stepCoord (s : State) (dirn : Nat) : Nat :=
  let b := s.set.active
  let mv := fun (own size : Nat) (plus : Bool) => if plus then (own + 1) % max 1 size else (own + size - 1) % max 1 size
  match dirn with
  | 0 => mkCoord (mv b.ownA b.sizeA true) b.ownB s.sys.plane 63 0 0xF3
  | 1 => mkCoord (mv b.ownA b.sizeA false) b.ownB s.sys.plane 63 0 0xF3
  | 2 => mkCoord b.ownA (mv b.ownB b.sizeB true) s.sys.plane 63 0 0xF3
  | _ => mkCoord b.ownA (mv b.ownB b.sizeB false) s.sys.plane 63 0 0xF3
def sweepBad (s : State) (u : UpdCfg) : Bool :=
  (List.range 4).any fun i =>
    u.reach.getD i 0 != 0 && ((u.nbrs.getD i (0, 0)).1 != stepCoord s i || stepCoord s i == ownCoord s 0xF3)
def chkGroupUpdcfg (q : Req) (s : State) : Option Nat :=
  let u := updRec q.entry.param
  let g := prm q 0 2
  firstOf [refuseIf (64 < u.updMax || u.updMax % 8 != 0 || 16 < u.updCtx || 15 < u.peersA || 15 < u.peersB ||
      u.reach.any (15 < ·)) 0x0007,
    refuseIf (groupSt s g != 1) 0x0005, refuseIf ((bindOf s 4 g).ost == 2) 0x0006, refuseIf (sweepBad s u) 0x0706]
def execGroupUpdcfg (q : Req) (s : State) : Host.Outcome State Fault Refusal :=
  .next (plain 0x0708 (chkGroupUpdcfg q s)
    (act (modSet fun t => { t with upd := mset updDflt t.upd (prm q 0 2) (updRec q.entry.param) })) q s)

/-- The scrub of a group (R48, R214, R260): its communication queue, sequences, latch, statistics and records. -/
def scrubGroup (g : Nat) (s : State) : State :=
  let s := onTile (fun x => { x with groups := mdel x.groups g }) s
  modSet (fun t => { t with groups := mdel t.groups g, upd := mdel t.upd g, enabled := mdel t.enabled g }) s

end Sys2Proof.Machine
end

