-- ==== Sys2Proof/Machine/TileCmds.lean ====
section
/-! DEFINITION. The commands of tiles, programs and update bindings (R206 to R211, R267 to R283), the states of a tile
(Table 8-2), and the scrub of a tile (R48). -/

set_option Elab.async false

namespace Sys2Proof.Machine

/-! ### Instruction memory (R263, R268) -/

/-- Loaded images that bindings name on a die, in slot order. -/
def diePrograms (s : State) (d : Nat) : List Nat :=
  (List.range 8).map (16 + ·) |>.filter fun p =>
    s.set.updBinds.any fun e => e.2.prog == p && (gcfg s e.2.group).dieMask.testBit d
/-- The slot of instruction memory that holds image `p` on a die. -/
def holdsSlot (s : State) (d p : Nat) : Option Nat := [1, 2, 3].find? fun i => mfind s.tile.slots (4 * d + i) == some p
def freeImem (s : State) (d : Nat) : Option Nat := [1, 2, 3].find? fun i => !mhas s.tile.slots (4 * d + i)
/-- Copies an image into a slot of a tile, the rest of the slot zero. -/
def copyImage (t i p : Nat) (s : State) : State :=
  let code := (mfind s.tile.progs p).elim [] (·.code)
  onTileU t (fun x => { x with
    imem := ((List.range 512).zip (code ++ List.replicate (512 - code.length) 0)).foldl
      (fun m e => mset 0 m (512 * i + e.1) e.2) x.imem }) s
/-- Copies every image that a die's slots hold into one of its tiles. -/
def loadImem (t : Nat) (s : State) : State :=
  forEach [1, 2, 3] (fun i s => match mfind s.tile.slots (4 * (t / 32) + i) with | some p => copyImage t i p s | none => s) s
/-- Makes the slots of a die agree with its bindings: slots of images no longer named are freed, and a newly named image
is copied into the lowest free slot of every tile of the die. -/
def syncDie (d : Nat) (s : State) : State :=
  let want := diePrograms s d
  let s := onTile (fun x => { x with slots := x.slots.filter fun e => e.1 / 4 != d || want.contains e.2 }) s
  forEach (want.filter fun p => (holdsSlot s d p).isNone) (fun p s =>
    match freeImem s d with
    | some i =>
      let s := onTile (fun x => { x with slots := mput x.slots (4 * d + i) p }) s
      forEach ((List.range 32).map (32 * d + ·)) (fun t => copyImage t i p) s
    | none => s) s
def syncImem (s : State) : State := forEach (dies s) syncDie s

/-! ### States of a tile (Table 8-2) -/

/-- A tile stops being ACTIVE: its time counts. -/
def stopActive (t : Nat) (s : State) : State :=
  onTileU t (fun x =>
    if x.st = .active then { x with activeMs := sat 32 (x.activeMs + (s.mono - x.activeAt) / 1750000) } else x) s
/-- The chunks whose basket or staging lies on a tile. -/
def chunksOn (s : State) (t : Nat) : List (Nat × Nat × Nat) :=
  s.tile.groups.flatMap fun e => e.2.seqs.flatMap fun x => (x.2.2.chunks.filter fun c =>
    (basketsOf c.2).any fun b => match b with | .page d i _ => 32 * d + i == t | .hbm _ _ => false).map fun c => (e.1, x.2.1, c.1)
/-- The baskets on a tile are lost (R189, R240). -/
def loseTile (t : Nat) (s : State) : State := forEach (chunksOn s t) (fun c => chunkLost c.1 c.2.1 c.2.2 5) s
/-- The collector isolates a tile: gated, its queue discarded. -/
def isolateTile (t : Nat) (s : State) : State :=
  let s := onTileU t (fun x => { x with st := .isolated, queue := [], run := none, outDma := [], vregs := [] }) (stopActive t s)
  loseTile t s
/-- Tile power removed (ripcord, die isolated): retention is lost. -/
def unpowerTile (t : Nat) (s : State) : State :=
  let s := onTileU t (fun x => { x with
    st := .gated, queue := [], run := none, outDma := [], vregs := [], sregs := [], imem := [] }) (stopActive t s)
  loseTile t (spadZero t 0 0x200000 s)
/-- The scrub of a tile (R48): lifted if gated, then zeroed; its images are loaded again (assumption 59). -/
def scrubTile (t : Nat) (s : State) : State :=
  let s := onTileU t (fun x => { x with
    vregs := [], sregs := [], queue := [], imem := [], bankPtr := [], run := none, outDma := [], badPages := [] }) (liftTile t s)
  loadImem t (spadZero t 0 0x200000 s)
/-- The isolation of a tile ends. -/
def releaseTile (t : Nat) (s : State) : State :=
  onTileU t (fun x => { x with st := .gated }) (scrubTile t s)

/-- Does a contribution wait for a basket on the tile? -/
def tileAwaited (s : State) (t : Nat) : Bool :=
  (heldChunks s).any fun e => !e.2.waiting.isEmpty && e.2.basket.elim false (fun b => basketTile b == t)
/-- May an ACTIVE tile be gated? -/
def gateOk (s : State) (t : Nat) : Bool :=
  let x := tileOf s t
  x.st == .active && (tilePolOf s t).1 == 0 && !namesTile s t && x.queue.isEmpty && x.run.isNone && x.outDma.isEmpty &&
    !tileAwaited s t
def execTileIdleGate (t : Nat) (s : State) : Host.Outcome State Fault Refusal :=
  .next (if gateOk s t then onTileU t (fun x => { x with st := .gated }) (stopActive t s) else s)
/-- A lift ends once the die's fast clock runs (R188). -/
def execTileLiftDone (t : Nat) (s : State) : Host.Outcome State Fault Refusal :=
  .next (if (tileOf s t).st = .lifting ∧ (dieSt s (t / 32)).clockOn then
    onTileU t (fun x => { x with st := .active, activeAt := s.mono, idleFrom := s.mono, vregs := [] }) s else s)
/-- The firmware's reload of a FAULT tile, not while the keel die is lost (R209). -/
def execTileReloadDone (t : Nat) (s : State) : Host.Outcome State Fault Refusal :=
  .next (if (tileOf s t).st = .fault ∧ !s.sys.keelLost then
    loadImem t (onTileU t (fun x => { x with st := .active, activeAt := s.mono, idleFrom := s.mono, vregs := [], sregs := [] }) s)
    else s)

/-! ### `TILE.QUERY`, `TILE.POWER`, `TILE.SELFTEST` (R211) -/

/-- The tiles that a die and a tile field name: fitted ones under a wildcard, the one named otherwise. -/
def namedTiles (s : State) (d t : Nat) : List Nat :=
  let ds := if d = 0xFF then dies s else [d]
  let ts := if t = 0xFF then List.range 32 else [t]
  ds.flatMap fun d => ts.map fun t => 32 * d + t
def tileFieldsBad (q : Req) (dieAll tileAll : Bool) : Bool :=
  !(prm q 0 1 < 8 || (dieAll && prm q 0 1 == 0xFF)) || !(prm q 1 1 < 32 || (tileAll && prm q 1 1 == 0xFF))
/-- Fitting and use of a named tile, or of the named die under a wildcard for its tiles. -/
def tileChk (s : State) (d t : Nat) : Option Nat :=
  if !s.id.tiles then some 0x0003
  else if d = 0xFF then none
  else if t = 0xFF then (if dieFitted s d then none else some 0x0003)
  else unitChk (dieFitted s d) (tileUsable s (32 * d + t))
/-- `TILE.QUERY` reports a tile in FAULT or ISOLATED too (R207, assumption 58). -/
def chkTileQuery (q : Req) (s : State) : Option Nat :=
  firstOf [refuseIf (tileFieldsBad q false false) 0x0007,
    unitChk (s.id.tiles && dieFitted s (prm q 0 1)) (dieUsable s (prm q 0 1))]
def execTileQuery (q : Req) (s : State) : Host.Outcome State Fault Refusal :=
  .next (plain 0x0840 (chkTileQuery q s) (ans fun s => qTile s (32 * prm q 0 1 + prm q 1 1)) q s)

/-- Is a self-test that names the tile begun and not final (R393)? -/
def inSelftest (s : State) (t : Nat) : Bool :=
  (begunOps s 0x0842).any fun k => (namedTiles s (rdLe k.param 0 1) (rdLe k.param 1 1)).contains t
def chkTilePower (q : Req) (s : State) : Option Nat :=
  let d := prm q 0 1
  let t := prm q 1 1
  firstOf [refuseIf (tileFieldsBad q true true || 1 < prm q 2 1 || 10000 < prm q 4 2) 0x0007, tileChk s d t,
    refuseIf ((namedTiles s d t).any fun t => tileUsable s t && inSelftest s t) 0x0006]
/-- Sets policy and idle time; PINNED lifts a gated tile. -/
def setTilePower (t pol idle : Nat) (s : State) : State :=
  let old := tilePolOf s t
  let s := modSet (fun x => { x with tilePol := mset (0, 20) x.tilePol t (pol, if idle = 0 then old.2 else idle) }) s
  whenS (pol == 1 && !namesTile s t) (liftTile t) s
def execTilePower (q : Req) (s : State) : Host.Outcome State Fault Refusal :=
  .next (plain 0x0841 (chkTilePower q s)
    (act (forEach (namedTiles s (prm q 0 1) (prm q 1 1)) fun t => setTilePower t (prm q 2 1) (prm q 4 2))) q s)

def tileBusy (s : State) (t : Nat) : Bool :=
  let b := bindOf s 3 t
  !((b.ost == 0 || b.slice == 0) && (List.range 32).all (fun p => !basketUsed s (.page (t / 32) (t % 32) p)) && !namesTile s t)
def chkTileSelftest (q : Req) (s : State) : Option Nat :=
  let d := prm q 0 1
  let t := prm q 1 1
  let ts := (namedTiles s d t).filter (tileUsable s)
  firstOf [refuseIf (tileFieldsBad q false true) 0x0007, tileChk s d t, refuseIf (ts.any (inSelftest s)) 0x0006,
    refuseIf (ts.any (tileBusy s)) 0x0503]
def execTileSelftest (q : Req) (s : State) : Host.Outcome State Fault Refusal :=
  .next (longOp 0x0842 1 true (chkTileSelftest q s) q s)
/-- A tile's result: bit f of `failed` for a format that failed; the tile is left scrubbed. -/
def noteSelftest (t failed : Nat) (s : State) : State :=
  let s := onTileU t (fun x => { x with selftest := (1 <<< 31) + failed % 0x4000 }) (scrubTile t s)
  if failed % 0x4000 = 0 then s else report (srcId 4 t) 5 (record 0x08C3 [(2, t), (2, failed % 0x4000)] s)
/-- The self-test of a ticket ends: the failed formats of each named usable tile, in order. -/
def execTileSelftestDone (tk : Nat) (failed : List Nat) (s : State) : Host.Outcome State Fault Refusal :=
  .next (match ticketOf s tk with
    | some k =>
      if runningTk s tk 0x0842 then
        let ts := (namedTiles s (rdLe k.param 0 1) (rdLe k.param 1 1)).filter (tileUsable s)
        ticketDone tk (forEach ts.zipIdx (fun e => noteSelftest e.1 (failed.getD e.2 0)) s)
      else s
    | none => s)

/-! ### Images (R267, R268) -/

/-- The image in a buffer. -/
def imageOf (bs : List Byte) : Image :=
  let n := rdLe bs 6 2
  ⟨n, rdLe bs 8 1, rdLe bs 9 1, sliceBytes bs 0x10 32, (List.range n).map (fun i => rdLe bs (0x30 + 8 * i) 8),
   beNat (sha256 bs)⟩
/-- Fields that R267 refuses. -/
def imageBad (bs : List Byte) : Bool :=
  let n := rdLe bs 6 2
  let sb := rdLe bs 8 1
  bs.length < 0x30 || rdLe bs 0 4 != 0x47505451 || rdLe bs 4 2 != 1 || n == 0 || 512 < n || sb < 4 || 32 < sb || sb % 4 != 0 ||
    rdLe bs 10 6 != 0 || bs.length != 0x30 + 8 * n + 72
/-- Does the signature verify under a program-signing key of the configuration record? -/
def imageSigned (s : State) (bs : List Byte) : Bool :=
  let n := bs.length - 72
  match s.sys.inUse.keys.find? fun k => k.keyId == rdLe bs n 8 && k.role.testBit 1 with
  | some k => ecdsaOk k.pub (bs.take (n + 8)) (bs.drop (n + 8))
  | none => false
def slotBad (q : Req) : Bool := prm q 0 1 < 16 || 23 < prm q 0 1
/-- Is the slot being written by a `TILE.LOAD` (R393)? -/
def slotLoading (s : State) (p : Nat) : Bool := (begunOps s 0x0801).any fun k => rdLe k.param 0 1 == p
def chkTileLoad (q : Req) (s : State) : Option Nat :=
  firstOf [refuseIf (slotBad q) 0x0007, refuseIf (!s.id.tiles) 0x0003, refuseIf (slotLoading s (prm q 0 1)) 0x0006,
    refuseIf (imageBad (inData q)) 0x0802, refuseIf (!imageSigned s (inData q)) 0x0008]
def execTileLoad (q : Req) (s : State) : Host.Outcome State Fault Refusal :=
  .next (longOp 0x0801 2 true (chkTileLoad q s) q s)
/-- The NOR write of a `TILE.LOAD` ends. -/
def finishTileLoad (tk : Nat) (s : State) : State :=
  match ticketOf s tk with
  | some k => ticketDone tk (onTile (fun x => { x with progs := mput x.progs (rdLe k.param 0 1) (imageOf k.buf) }) s)
  | none => s
def chkTileUnload (q : Req) (s : State) : Option Nat :=
  let p := prm q 0 1
  firstOf [refuseIf (slotBad q) 0x0007, refuseIf (!s.id.tiles) 0x0003, refuseIf (slotLoading s p) 0x0006,
    refuseIf (s.set.updBinds.any fun e => e.2.prog == p) 0x0503]
def execTileUnload (q : Req) (s : State) : Host.Outcome State Fault Refusal :=
  .next (plain 0x0802 (chkTileUnload q s) (act (onTile fun x => { x with progs := mdel x.progs (prm q 0 1) })) q s)
def execTileProgquery (q : Req) (s : State) : Host.Outcome State Fault Refusal :=
  .next (plain 0x0803 (firstOf [refuseIf (slotBad q) 0x0007, refuseIf (!s.id.tiles) 0x0003])
    (ans fun s => qProg s (prm q 0 1)) q s)

/-! ### Bindings (R272, R283) -/

def bindRec (q : Req) : UpdBind := ⟨prm q 2 2, prm q 1 1, prm q 4 1, prm q 24 4, prm q 8 8, prm q 16 8⟩
/-- The state bytes of a binding on a die of its group's mask. -/
def stateBytes (s : State) (b : UpdBind) (d : Nat) : Nat :=
  let k := gcfg s b.group
  let ds := maskDies s k
  match ds.zipIdx.find? fun e => e.1 == d with
  | some (_, i) =>
    (ownedChunks s b + ds.length - 1 - i) / max 1 ds.length * (chunkElems k.mode (bindSeq s b) * progState s b.prog)
  | none => 0
def progKnown (s : State) (p : Nat) : Bool := inRange p 1 3 || (inRange p 16 23 && mhas s.tile.progs p)
/-- Would a die need more than three loaded images? -/
def progSpaceBad (s : State) (n : Nat) (b : UpdBind) : Bool :=
  16 ≤ b.prog && (maskDies s (gcfg s b.group)).any fun d =>
    let others := (s.set.updBinds.filter fun e => e.1 != n && 16 ≤ e.2.prog && (gcfg s e.2.group).dieMask.testBit d).map (·.2.prog)
    let all := b.prog :: others
    3 < countWhere ((List.range 8).map (16 + ·)) all.contains
/-- Does a state region overlap one of another binding? -/
def regionOverlaps (s : State) (n : Nat) (b : UpdBind) : Bool :=
  s.set.updBinds.any fun e => e.1 != n && (dies s).any fun d =>
    let x := stateBytes s b d
    let y := stateBytes s e.2 d
    x != 0 && y != 0 && b.sideOff < e.2.sideOff + y && e.2.sideOff < b.sideOff + x
/-- Does a state region lie in an HBM region not bound to the group's slice? -/
def regionForeign (s : State) (b : UpdBind) : Bool :=
  (dies s).any fun d =>
    let x := stateBytes s b d
    [0, 1].any fun sd =>
      (unitsOf gib (sideBase s sd + b.sideOff) x).any fun g => (bindOf s 5 (96 * d + g)).slice != groupSlice s b.group
def chkTileUpdbind (q : Req) (s : State) : Option Nat :=
  let b := bindRec q
  let n := prm q 0 1
  firstOf [refuseIf (!inRange b.wfmt 6 8 || b.sideOff % 65536 != 0) 0x0007, refuseIf (!s.id.tiles) 0x0003,
    refuseIf (groupSt s b.group != 1) 0x0005, refuseIf ((bindOf s 4 b.group).ost == 2) 0x0006,
    refuseIf ((mfind s.set.updBinds n).elim false fun o => groupOn s o.group) 0x0005,
    refuseIf (!progKnown s b.prog) 0x0801, refuseIf (progSpaceBad s n b) 0x0803,
    refuseIf ((gcfg s b.group).tree0.parent != 0 && (gcfg s b.group).tree1.parent != 0) 0x0806,
    refuseIf (s.set.plan.sideGib == 0) 0x0808,
    refuseIf ((dies s).any fun d => stateBytes s b d != 0 && s.set.plan.sideGib * gib < b.sideOff + stateBytes s b d) 0x0804,
    refuseIf (regionOverlaps s n b) 0x0805, refuseIf (regionForeign s b) 0x0808]
def execTileUpdbind (q : Req) (s : State) : Host.Outcome State Fault Refusal :=
  .next (plain 0x0804 (chkTileUpdbind q s) (act fun s =>
    syncImem (modSet (fun t => { t with updBinds := mput t.updBinds (prm q 0 1) (bindRec q) }) s)) q s)
def chkTileUpdunbind (q : Req) (s : State) : Option Nat :=
  firstOf [refuseIf (!s.id.tiles) 0x0003,
    refuseIf ((mfind s.set.updBinds (prm q 0 1)).elim true fun b => groupSt s b.group != 1) 0x0005]
def execTileUpdunbind (q : Req) (s : State) : Host.Outcome State Fault Refusal :=
  .next (plain 0x0805 (chkTileUpdunbind q s) (act fun s =>
    syncImem (modSet (fun t => { t with updBinds := mdel t.updBinds (prm q 0 1) }) s)) q s)
def execTileUpdquery (q : Req) (s : State) : Host.Outcome State Fault Refusal :=
  .next (plain 0x0806 (refuseIf (!s.id.tiles) 0x0003) (ans fun s => qUpdBind s (prm q 0 1)) q s)

end Sys2Proof.Machine
end

