-- ==== Sys2Proof/Machine/TileInsns.lean ====
section
/-! DEFINITION. Tile instructions (R263 to R266): an ACTIVE tile that runs an UPDATE entry of a loaded program issues the
instruction at its program counter. -/

set_option Elab.async false

namespace Sys2Proof.Machine

/-! ### The instruction word (Table 11-2) -/

def iOpc (w : Nat) : Nat := bitsAt w 63 56
def iD (w : Nat) : Nat := bitsAt w 55 51
def iA (w : Nat) : Nat := bitsAt w 50 46
def iB (w : Nat) : Nat := bitsAt w 45 41
def iC (w : Nat) : Nat := bitsAt w 40 36
def iS (w : Nat) : Nat := bitsAt w 35 32
def iImm (w : Nat) : Nat := bitsAt w 31 0
/-- A word of fields. -/
def insn (opc d a b c sc imm : Nat) : Nat :=
  (opc <<< 56) + (d <<< 51) + (a <<< 46) + (b <<< 41) + (c <<< 36) + (sc <<< 32) + imm
/-- An assigned opcode with no reserved bit set and, for `VMUL`, `VSTC`, `VAXPBY` and `VRSQA`, a `C` that means something
(Table 11-3, assumption 60). -/
def insnOk (w : Nat) : Bool :=
  let low := fun (x : Nat) => x < 16
  match iOpc w with
  | 0x00 => low (iD w) && low (iA w) && low (iB w)
  | 0x01 => true
  | 0x02 => true
  | 0x03 => inRange (iC w) 6 8
  | 0x10 => true
  | 0x11 => true
  | 0x12 => iC w == 0 || (iC w == 1 && iB w == 0)
  | 0x13 => true
  | 0x14 => true
  | 0x15 => low (iC w)
  | 0x16 => low (iC w)
  | 0x17 => true
  | 0x18 => true
  | 0x20 => true
  | 0x30 => low (iD w) && low (iA w) && low (iB w)
  | 0x31 => low (iD w) && low (iA w) && low (iB w)
  | 0x32 => low (iD w) && low (iA w) && low (iB w)
  | 0x33 => low (iD w) && low (iA w) && low (iB w)
  | 0x34 => low (iD w) && low (iA w) && low (iB w)
  | 0x40 => low (iD w) && low (iA w) && low (iB w)
  | 0x41 => low (iD w) && low (iA w) && low (iB w)
  | 0x42 => low (iD w) && low (iA w) && low (iB w)
  | 0x50 => low (iD w) && low (iA w) && low (iB w)
  | 0x51 => low (iD w) && low (iA w) && low (iB w)
  | _ => false

/-! ### Issuing -/

/-- The running entry of a tile that can issue now. -/
def issuing (s : State) (t : Nat) : Option Running :=
  let x := tileOf s t
  match x.st, x.run with
  | .active, some r => if r.waiting then none else some r
  | _, _ => none
/-- The first instruction of the slot that a program counter lies in. -/
def slotBase (pc : Nat) : Nat := pc / 512 * 512
/-- The instruction at the program counter; none outside the loaded slots (assumption 61). -/
def fetchInsn (s : State) (t : Nat) (r : Running) : Option Nat :=
  if 512 ≤ r.pc ∧ r.pc < 2048 then some (mget 0 (tileOf s t).imem r.pc) else none
/-- Stops the entry; the sequence fails INTERRUPTED (Table 11-7). -/
def stopEntry (r : Running) (s : State) : State :=
  interrupt r.group r.seq r.chunk (dropEntries r.group r.seq (some r.chunk) s)
/-- A refused access (R266): the tile, the group, the program and the address. -/
def denied (t addr : Nat) (r : Running) (s : State) : State :=
  let prog := (mfind s.tile.slots (4 * (t / 32) + r.pc / 512)).getD 0
  stopEntry r (record 0x08C5 [(2, t), (2, r.group), (1, prog), (8, addr)] s)
def onRun (t : Nat) (f : Running → Running) (s : State) : State := onTileU t (fun x => { x with run := x.run.map f }) s
def nextPc (t : Nat) (s : State) : State := onRun t (fun r => { r with pc := r.pc + 1 }) s
/-- Issues the instruction that the tile's program counter names, if its fields are those given: `mask` selects the fields
that the instruction uses. A word that names no instruction stops the entry, whatever was asked for. -/
def issue (t word mask : Nat) (f : Running → State → State) (s : State) : State :=
  match issuing s t with
  | none => s
  | some r =>
    match fetchInsn s t r with
    | none => stopEntry r s
    | some w => if !insnOk w then stopEntry r s else if w &&& mask = word then f r s else s
/-- Masks of the fields an instruction uses. -/
def mOpc : Nat := 255 <<< 56
def mD : Nat := 31 <<< 51
def mA : Nat := 31 <<< 46
def mB : Nat := 31 <<< 41
def mC : Nat := 31 <<< 36
def mS : Nat := 15 <<< 32
def mImm : Nat := 4294967295

/-! ### Registers -/

def vreg (s : State) (t n : Nat) : Nat := mget 0 (tileOf s t).vregs n
def sreg (s : State) (t n : Nat) : Nat := mget 0 (tileOf s t).sregs n
def setV (t n v : Nat) (s : State) : State := onTileU t (fun x => { x with vregs := mset 0 x.vregs n v }) s
def setS (t n v : Nat) (s : State) : State := onTileU t (fun x => { x with sregs := mset 0 x.sregs n (v % 2 ^ 64) }) s
/-- The 16 FP32 lanes of a register. -/
def lanesOf (v : Nat) : List Nat := (List.range 16).map fun i => (v >>> (32 * i)) % 2 ^ 32
def ofLanes (l : List Nat) : Nat := l.zipIdx.foldl (fun a e => a + (e.1 <<< (32 * e.2))) 0
/-- An immediate, sign-extended to 64 bits. -/
def sext (i : Nat) : Nat := if i.testBit 31 then i + (2 ^ 64 - 2 ^ 32) else i
def f32of (v : Nat) : Nat := v % 2 ^ 32

/-! ### Arithmetic (R264, R265) -/

/-- Ends an arithmetic instruction: the result, and a NaN that it received or produced. -/
def arith (t opc vd : Nat) (ins : List (List Nat)) (out : List Nat) (r : Running) (s : State) : State :=
  let inNan := fun (i : Nat) => ins.any fun l => f32nan (l.getD i 0)
  let outNan := (List.range 16).filter fun i => f32nan (out.getD i 0)
  let made := outNan.filter fun i => !inNan i
  let s := setV t vd (ofLanes out) (nextPc t s)
  let q := seqOf s r.group r.seq
  let s := forEach made (fun i => latchNan r.group r.seq 1 opc 0xFFFF t (q.elim 0 (·.numctl)) (Config.unstated 61 i % 2 ^ 32)) s
  if traps s r.group && (!outNan.isEmpty || (List.range 16).any inNan) then
    nanTrap r.group r.seq (r.chunk % 2) t (dropEntries r.group r.seq (some r.chunk) s)
  else s
def map2 (f : Nat → Nat → Nat) (a b : List Nat) : List Nat := (a.zip b).map fun e => f e.1 e.2
/-- An instruction of two vectors. -/
def vec2 (opc t vd va vb : Nat) (f : Nat → Nat → Nat) (s : State) : State :=
  issue t (insn opc vd va vb 0 0 0) (mOpc + mD + mA + mB) (fun r s =>
    let a := lanesOf (vreg s t va)
    let b := lanesOf (vreg s t vb)
    arith t opc vd [a, b] (map2 f a b) r s) s
/-- A scalar in every lane. -/
def splat (v : Nat) : List Nat := List.replicate 16 (f32of v)

def execTileNop (t : Nat) (s : State) : Host.Outcome State Fault Refusal := .next (issue t 0 mOpc (fun _ => nextPc t) s)
def execVadd (t vd va vb : Nat) (s : State) : Host.Outcome State Fault Refusal := .next (vec2 0x10 t vd va vb f32add s)
def execVsub (t vd va vb : Nat) (s : State) : Host.Outcome State Fault Refusal := .next (vec2 0x11 t vd va vb f32sub s)
/-- `VMUL`: by a vector, or, with `scalar`, by the scalar register that `vb` then names. -/
def execVmul (t vd va vb : Nat) (scalar : Bool) (s : State) : Host.Outcome State Fault Refusal :=
  .next (if scalar then
    issue t (insn 0x12 vd va 0 1 vb 0) (mOpc + mD + mA + mB + mC + mS) (fun r s =>
      let a := lanesOf (vreg s t va)
      let b := splat (sreg s t vb)
      arith t 0x12 vd [a, b] (map2 f32mul a b) r s) s
  else
    issue t (insn 0x12 vd va vb 0 0 0) (mOpc + mD + mA + mB + mC) (fun r s =>
      let a := lanesOf (vreg s t va)
      let b := lanesOf (vreg s t vb)
      arith t 0x12 vd [a, b] (map2 f32mul a b) r s) s)
def execVfma (t vd va vb vc : Nat) (s : State) : Host.Outcome State Fault Refusal :=
  .next (issue t (insn 0x13 vd va vb vc 0 0) (mOpc + mD + mA + mB + mC) (fun r s =>
    let a := lanesOf (vreg s t va)
    let b := lanesOf (vreg s t vb)
    let c := lanesOf (vreg s t vc)
    arith t 0x13 vd [a, b, c] ((a.zip (b.zip c)).map fun e => f32fma e.1 e.2.1 e.2.2) r s) s)
def execVema (t vd va vb sc : Nat) (s : State) : Host.Outcome State Fault Refusal :=
  .next (issue t (insn 0x14 vd va vb 0 sc 0) (mOpc + mD + mA + mB + mS) (fun r s =>
    let a := lanesOf (vreg s t va)
    let b := lanesOf (vreg s t vb)
    let k := f32of (sreg s t sc)
    arith t 0x14 vd [a, b, splat k] (map2 (fun x y => f32ema x y k) a b) r s) s)
def execVaxpby (t vd va vb sa sb : Nat) (s : State) : Host.Outcome State Fault Refusal :=
  .next (issue t (insn 0x15 vd va vb sb sa 0) (mOpc + mD + mA + mB + mC + mS) (fun r s =>
    let a := lanesOf (vreg s t va)
    let b := lanesOf (vreg s t vb)
    let k := f32of (sreg s t sa)
    let m := f32of (sreg s t sb)
    arith t 0x15 vd [a, b, splat k, splat m] (map2 (fun x y => f32axpby x k y m) a b) r s) s)
def execVrsqa (t vd va sa sb : Nat) (s : State) : Host.Outcome State Fault Refusal :=
  .next (issue t (insn 0x16 vd va 0 sb sa 0) (mOpc + mD + mA + mC + mS) (fun r s =>
    let a := lanesOf (vreg s t va)
    let k := f32of (sreg s t sa)
    let m := f32of (sreg s t sb)
    arith t 0x16 vd [a, splat k, splat m] (a.map fun x => f32rsqa x k m) r s) s)
def execVmin (t vd va vb : Nat) (s : State) : Host.Outcome State Fault Refusal := .next (vec2 0x17 t vd va vb f32min s)
def execVmax (t vd va vb : Nat) (s : State) : Host.Outcome State Fault Refusal := .next (vec2 0x18 t vd va vb f32max s)
def execVzero (t vd : Nat) (s : State) : Host.Outcome State Fault Refusal :=
  .next (issue t (insn 0x20 vd 0 0 0 0 0) (mOpc + mD) (fun _ s => setV t vd 0 (nextPc t s)) s)

/-! ### Scalars -/

def execSli (t sd imm : Nat) (s : State) : Host.Outcome State Fault Refusal :=
  .next (issue t (insn 0x30 sd 0 0 0 0 imm) (mOpc + mD + mImm) (fun _ s => setS t sd (sext imm) (nextPc t s)) s)
/-- The immediate is sign-extended, as for `SLI` (assumption 62). -/
def execSaddi (t sd sa imm : Nat) (s : State) : Host.Outcome State Fault Refusal :=
  .next (issue t (insn 0x31 sd sa 0 0 0 imm) (mOpc + mD + mA + mImm)
    (fun _ s => setS t sd (sreg s t sa + sext imm) (nextPc t s)) s)
def execSfmul (t sd sa sb : Nat) (s : State) : Host.Outcome State Fault Refusal :=
  .next (issue t (insn 0x32 sd sa sb 0 0 0) (mOpc + mD + mA + mB)
    (fun _ s => setS t sd (f32mul (f32of (sreg s t sa)) (f32of (sreg s t sb))) (nextPc t s)) s)
def execSfadd (t sd sa sb : Nat) (s : State) : Host.Outcome State Fault Refusal :=
  .next (issue t (insn 0x33 sd sa sb 0 0 0) (mOpc + mD + mA + mB)
    (fun _ s => setS t sd (f32add (f32of (sreg s t sa)) (f32of (sreg s t sb))) (nextPc t s)) s)
/-- `SLDU`: beyond the block's 64 bytes the value is free. -/
def execSldu (t sd off : Nat) (s : State) : Host.Outcome State Fault Refusal :=
  .next (issue t (insn 0x34 sd 0 0 0 0 off) (mOpc + mD + mImm) (fun r s =>
    let v := if off ≤ 60 then rdLe r.block off 4 else Config.unstated 62 off % 2 ^ 32
    setS t sd v (nextPc t s)) s)

/-! ### Memory and DMA (R266) -/

/-- The bytes of a scratchpad access lie in the entry's pages. -/
def spadOk (r : Running) (o n : Nat) : Bool := (unitsOf 65536 o n).all r.pages.contains
/-- A memory instruction's address. -/
def spadAddr (s : State) (t sa off : Nat) : Nat := (sreg s t sa + off) % 2 ^ 64
def execVld (t vd sa off : Nat) (s : State) : Host.Outcome State Fault Refusal :=
  .next (issue t (insn 0x01 vd 0 0 0 sa off) (mOpc + mD + mS + mImm) (fun r s =>
    let o := spadAddr s t sa off
    if spadOk r o 64 then setV t vd (leNat (spadRead s t o 64)) (nextPc t s) else denied t o r s) s)
def execVst (t vs sa off : Nat) (s : State) : Host.Outcome State Fault Refusal :=
  .next (issue t (insn 0x02 0 vs 0 0 sa off) (mOpc + mA + mS + mImm) (fun r s =>
    let o := spadAddr s t sa off
    if spadOk r o 64 then spadWrite t o (leBytes 64 (vreg s t vs)) (nextPc t s) else denied t o r s) s)
def execVstc (t vs sa off fmt : Nat) (s : State) : Host.Outcome State Fault Refusal :=
  .next (issue t (insn 0x03 0 vs 0 fmt sa off) (mOpc + mA + mC + mS + mImm) (fun r s =>
    let o := spadAddr s t sa off
    let bs := (lanesOf (vreg s t vs)).flatMap (weightBytes fmt)
    if spadOk r o bs.length then spadWrite t o bs (nextPc t s) else denied t o r s) s)
/-- A DMA of a multiple of 512 bytes, at an aligned address, within a region. -/
def dmaOk (r : Running) (sp h n lo hi : Nat) : Bool :=
  n % 512 == 0 && h % 512 == 0 && lo ≤ h && h + n ≤ hi && spadOk r sp n
def startDma (t : Nat) (m : Dma) (s : State) : State := onRun t (fun r => { r with dmas := r.dmas ++ [m] }) s
def execDmard (t sa sb len : Nat) (s : State) : Host.Outcome State Fault Refusal :=
  .next (issue t (insn 0x40 sa sb 0 0 0 len) (mOpc + mD + mA + mImm) (fun r s =>
    let sp := sreg s t sa
    let h := sreg s t sb
    if dmaOk r sp h len r.readLo r.readHi then startDma t ⟨r.group, r.seq, r.chunk, false, sp, h, len⟩ (nextPc t s)
    else denied t h r s) s)
def execDmawr (t sa sb len : Nat) (s : State) : Host.Outcome State Fault Refusal :=
  .next (issue t (insn 0x41 sa sb 0 0 0 len) (mOpc + mD + mA + mImm) (fun r s =>
    let sp := sreg s t sa
    let h := sreg s t sb
    if dmaOk r sp h len r.writeLo r.writeHi then
      stepWritten h (startDma t ⟨r.group, r.seq, r.chunk, true, sp, h, len⟩ (nextPc t s))
    else denied t h r s) s)

/-! ### Control -/

def execDmawait (t : Nat) (s : State) : Host.Outcome State Fault Refusal :=
  .next (issue t (insn 0x42 0 0 0 0 0 0) mOpc (fun _ s => onRun t (fun r => { r with waiting := !r.dmas.isEmpty }) (nextPc t s)) s)
/-- `LOOP`: a target outside the program's slot stops the entry (assumption 61). -/
def execLoop (t sd off : Nat) (s : State) : Host.Outcome State Fault Refusal :=
  .next (issue t (insn 0x50 sd 0 0 0 0 off) (mOpc + mD + mImm) (fun r s =>
    let v := (sreg s t sd + 2 ^ 64 - 1) % 2 ^ 64
    let s := setS t sd v s
    if v = 0 then nextPc t s
    else if slotBase r.pc + off ≤ r.pc then onRun t (fun r => { r with pc := r.pc - off }) s
    else stopEntry r s) s)
/-- `END`: the writes still in flight continue, the weights leave. -/
def execEndEntry (t : Nat) (s : State) : Host.Outcome State Fault Refusal :=
  .next (issue t (insn 0x51 0 0 0 0 0 0) mOpc (fun r s =>
    let s := onTileU t (fun x => { x with run := none, outDma := x.outDma ++ r.dmas.filter (·.write), idleFrom := s.mono }) s
    endUpdate t r.group r.seq r.chunk s) s)

end Sys2Proof.Machine
end

