-- ==== Sys2Proof/Machine/Slices.lean ====
section
/-! DEFINITION. Slices and bindings (R39 to R56): the slice commands, the steps of a rebinding, the scrub, slice states, and
the restore of bindings at entry to READY. -/

set_option Elab.async false

namespace Sys2Proof.Machine

/-! ### Records -/

/-- The generation after another: from 0xFFFF to 0x0001 (R39). -/
def nextGen (g : Nat) : Nat := if 0xFFFF ≤ g then 1 else g + 1
def rawBind (s : State) (kind i : Nat) : Binding := mget bindDflt s.set.binds (bindKey kind i)
def onBind (kind i : Nat) (f : Binding → Binding) (s : State) : State :=
  modSet (fun t => { t with binds := mmod bindDflt t.binds (bindKey kind i) f }) s
def setSlice (sl st : Nat) (s : State) : State := modSet (fun t => { t with slices := mset 0 t.slices sl st }) s
/-- Does any object name the slice? -/
def sliceHeld (s : State) (sl : Nat) : Bool := s.set.binds.any fun e => e.2.ost != 0 && e.2.slice == sl
/-- Lane-ports bound to a slice. -/
def sliceLps (s : State) (sl : Nat) : List Nat :=
  (s.set.binds.filter fun e => e.1 / 0x100000 == 1 && e.2.ost == 1 && e.2.slice == sl).map (·.1 % 0x100000)
/-- Adds to a slice's stale-frame counter, which exists while the slice is not UNUSED (Table 2-6). -/
def countStale (sl : Nat) (s : State) : State :=
  if sl < 0x1000 ∧ sliceSt s sl ≠ 0 then onNet (fun n => { n with stale := mmod 0 n.stale sl (fun k => sat 64 (k + 1)) }) s else s
def dropStale (sl : Nat) (s : State) : State := onNet (fun n => { n with stale := mdel n.stale sl }) s
/-- An object of a chapter-02 event: kind, index, slice and generation. -/
def objEvent (code kind i : Nat) (s : State) : State :=
  let b := bindOf s kind i
  record code [(1, kind), (4, i), (2, b.slice), (2, b.gen)] s

/-! ### Units (R56) -/

/-- Why an object's unit refuses: none, absent or not usable. -/
def objChk (s : State) (kind i : Nat) : Option Nat :=
  match kind with
  | 1 => portChk s (lpPort i)
  | 2 => portChk s (lpPort (i / 128))
  | 3 => unitChk (tileFitted s i) (tileUsable s i)
  | 5 => unitChk (i / 96 < s.id.n) (shardOk s (i / 96))
  | _ => none
def objRange (kind first count : Nat) : List Nat := if kindMax kind < first + count then [] else (List.range count).map (first + ·)
/-- R50: in use by an enabled group, or named by an enabled image. -/
def objInUse (s : State) (kind i : Nat) : Bool :=
  match kind with
  | 1 => namesLp s i
  | 2 => (enabledGroups s).any (fun g => (gcfg s g).slot == i % 128) ||
      (egressEntries s (i / 128)).any fun e => eb e 85 79 == i % 128
  | 3 => namesTile s i || (heldChunks s).any fun e => (basketsOf e.2).any fun b =>
      match b with | .page d t _ => 32 * d + t == i | .hbm _ _ => false
  | 4 => groupOn s i || namesGroup s i
  | 5 => (heldChunks s).any fun e => (basketsOf e.2).any fun b =>
      match b with | .page _ _ _ => false | .hbm d k => basketAddr s d k / gib == i
  | _ => false
/-- Objects of unfinished binds. -/
def inBind (s : State) (kind i : Nat) : Bool :=
  (s.net.binds.any fun b => b.kind == kind && b.first ≤ i && i < b.first + b.count) ||
    (liveOps s 0x0501).any fun t => rdLe t.param 0 1 == kind && rdLe t.param 4 4 ≤ i && i < rdLe t.param 4 4 + rdLe t.param 8 4

/-! ### SLICE.BIND -/

def chkSliceBind (q : Req) (s : State) : Option Nat :=
  let kind := prm q 0 1
  let first := prm q 4 4
  let count := prm q 8 4
  let objs := objRange kind first count
  firstOf [refuseIf (kindMax kind == 0 || count == 0 || kindMax kind < first + count) 0x0007,
    refuseIf (0x1000 ≤ prm q 2 2 && prm q 2 2 != 0xFFFF) 0x0007,
    refuseIf (objs.any fun i => objChk s kind i == some 0x0003) 0x0003,
    refuseIf (objs.any fun i => (objChk s kind i).isSome) 0x0005,
    refuseIf (kind == 1 && !objs.all (lpExists s)) 0x0005,
    refuseIf (kind == 2 && !objs.all fun i => lpExists s (i / 128)) 0x0005,
    refuseIf ((prm q 1 1).testBit 0 && objs.any fun i => (bindOf s kind i).gen != prm q 0xC 2) 0x0501,
    refuseIf (objs.any (inBind s kind)) 0x0006, refuseIf (objs.any (roleFixed s kind)) 0x0504,
    refuseIf (objs.any (objInUse s kind)) 0x0503]
/-- OWNER for slice 0, OPERATOR otherwise (Table 2-7). -/
def sliceBindPriv (q : Req) (s : State) : Nat :=
  let kind := prm q 0 1
  if prm q 2 2 = 0 || (objRange kind (prm q 4 4) (prm q 8 4)).any fun i => (bindOf s kind i).slice == 0 then 2 else 1
def execSliceBind (q : Req) (s : State) : Host.Outcome State Fault Refusal :=
  .next (longOp 0x0501 (sliceBindPriv q s) true (chkSliceBind q s) q s)

/-- The start of a bind: the fence writes the new generation of every object (R47). -/
def startSliceBind (t : Ticket) (s : State) : State :=
  let kind := rdLe t.param 0 1
  let first := rdLe t.param 4 4
  let count := rdLe t.param 8 4
  let dst := rdLe t.param 2 2
  let objs := objRange kind first count
  let s := forEach objs (fun i => onBind kind i fun b => { b with gen := nextGen b.gen, ost := 2 }) s
  onNet (fun n => { n with
    binds := n.binds ++ [⟨t.ticket, kind, first, count, if dst = 0xFFFF then none else some dst, false, objs.map fun i => (i, 0)⟩] }) s
/-- The bind in progress of an object, at a step. -/
def bindAt (s : State) (kind i step : Nat) : Option BindOp :=
  s.net.binds.find? fun b => b.kind == kind && mfind b.steps i == some step
def setStep (b : BindOp) (i step : Nat) (s : State) : State :=
  onNet (fun n => { n with binds := n.binds.map fun x => if x.ticket = b.ticket then { x with steps := mput x.steps i step } else x }) s
def execBindFenceAcked (tk : Nat) (s : State) : Host.Outcome State Fault Refusal :=
  .next (onNet (fun n => { n with
    binds := n.binds.map fun b =>
      if b.ticket = tk ∧ b.acked = false then
        { b with acked := true, steps := b.steps.map fun e => (e.1, if e.2 = 0 then 1 else e.2) }
      else b }) s)

/-- Is there nothing queued on a lane-port? -/
def lpIdle (s : State) (l : Nat) : Bool :=
  (lpQueues s l).all (fun e => e.2.isEmpty) && (unsentEnts (linkOf s l)).isEmpty && (mget [] s.core.updTx l).isEmpty
/-- Is a region's request of an old generation still with its consumer? -/
def regionBusy (s : State) (r : Nat) : Bool :=
  let g := (rawBind s 5 r).gen
  (dies s).any (fun d => (consQ s (64 * d + 1)).any fun e => xOffset e.frame / gib == r && e.frame.gen != g) ||
    (s.tile.tiles.any fun e => e.2.outDma.any fun m => m.hbm / gib == r)
/-- Does an object hold no work of its old generation (R49)? -/
def drainedObj (s : State) (kind i : Nat) : Bool :=
  match kind with
  | 1 => lpIdle s i
  | 2 => (List.range 8).all fun c => (leafQ s (leafNo (i / 128) c (i % 128))).isEmpty
  | 3 => let x := tileOf s i; x.queue.isEmpty && x.run.isNone && x.outDma.isEmpty
  | 4 => (openSeqs s i).isEmpty
  | _ => !regionBusy s i
def execBindDrainEnd (kind obj : Nat) (s : State) : Host.Outcome State Fault Refusal :=
  match bindAt s kind obj 1 with
  | some b => .next (if drainedObj s kind obj then setStep b obj 2 s else s)
  | none => .next s

/-- Lane-ports that drain: being rebound, or of a DRAINING slice. -/
def draining (s : State) (l : Nat) : Bool :=
  (bindAt s 1 l 1).isSome || (s.net.drains.any fun e => (sliceLps s e.1).contains l)
def execDrainForced (lp : Nat) (s : State) : Host.Outcome State Fault Refusal :=
  .next (if draining s lp && !lpIdle s lp then
    let un := unsentEnts (linkOf s lp)
    let r := discardQueued lp (forEach un (dropTx lp) s)
    let s := onCore (fun c => { c with updTx := mdel c.updTx lp }) r.2
    objEvent 0x0583 1 lp (onLink lp (fun k => { k with flushed := sat 32 (k.flushed + un.length + r.1) }) s)
  else s)

/-! ### The scrub (R48) -/

/-- Fails the ticket of a gate list that is taken away. -/
def dropGates (l : Nat) (s : State) : State :=
  let tk := (mfind s.set.qos.gatePend l).bind (·.ticket)
  let s := modSet (fun t => { t with qos := { t.qos with gateOp := mclear t.qos.gateOp l 1, gatePend := mclear t.qos.gatePend l 1 } }) s
  match tk with
  | some k => ticketFail k 0x0005 s
  | none => s
/-- A lane-port's settings of chapter 07 at their defaults (R180). -/
def qosDefault (l : Nat) (s : State) : State :=
  modSet (fun t => { t with
    qos := { t.qos with
      prio := mclear t.qos.prio (8 * l) 8, weight := mclear t.qos.weight (8 * l) 8, subw := mclear t.qos.subw (1024 * l) 1024,
      shape := mclear t.qos.shape (8 * l) 8, police := mclear t.qos.police (8 * l) 8 } }) s
/-- The queues of a lane-port emptied, their counters, its buckets, its settings and its gates at their reset values. -/
def scrubLp (l : Nat) (s : State) : State :=
  let s := qosDefault l (discardQueued l s).2
  dropGates l (onCore (fun c => { c with
    qstat := mclear c.qstat (1024 * l) 1024, pol := mclear c.pol (8 * l) 8, shp := mclear c.shp (8 * l) 8,
    brake := mdel c.brake l, svc := mdel c.svc l, sub := mclear c.sub (8 * l) 8 }) s)
def scrubSub (i : Nat) (s : State) : State :=
  forEach (List.range 8) (fun c s =>
    let k := leafNo (i / 128) c (i % 128)
    let es := leafQ s k
    let s := modSet (fun t => { t with qos := { t.qos with subw := mclear t.qos.subw k 1 } }) s
    onCore (fun x => { x with leaf := mdel x.leaf k, qstat := mdel x.qstat k }) (forEach es dropEnt s)) s
def scrubObj (kind i : Nat) (s : State) : State :=
  match kind with
  | 1 => scrubLp i s
  | 2 => scrubSub i s
  | 3 => scrubTile i s
  | 4 => scrubGroup i s
  | _ => markRegion i s

/-- A slice gains its first object, or loses its last (Table 2-6). -/
def joinSlice (sl : Nat) (s : State) : State :=
  if sl = 0 ∨ 0x1000 ≤ sl ∨ sliceSt s sl ≠ 0 then s else setSlice sl 1 s
def leaveSlice (sl : Nat) (s : State) : State :=
  if sl ≠ 0 ∧ sliceSt s sl = 1 ∧ sliceHeld s sl = false then dropStale sl (setSlice sl 0 s) else s
/-- An object takes a slice, or none. -/
def bindObj (kind i : Nat) (dst : Option Nat) (scrubbed : Bool) (s : State) : State :=
  let old := (rawBind s kind i).slice
  let s := match dst with | some sl => joinSlice sl s | none => s
  let s := onBind kind i (fun b => { b with
    slice := dst.getD 0xFFFF, ost := if !scrubbed then 3 else if dst.isSome then 1 else 0 }) s
  leaveSlice old s
/-- Ends a bind whose objects have all taken their slice. -/
def finishBind (b : BindOp) (s : State) : State :=
  if b.steps.all fun e => e.2 == 3 then
    let s := onNet (fun n => { n with binds := n.binds.filter fun x => x.ticket != b.ticket }) s
    match ticketOf s b.ticket with
    | some t =>
      if ticketLive t then
        ticketDone b.ticket (record 0x0584 [(1, b.kind), (4, b.first), (4, b.count), (2, b.toSlice.getD 0xFFFF),
          (2, (rawBind s b.kind b.first).gen)] s)
      else s
    | none => s
  else s
def execBindScrubEnd (kind obj : Nat) (s : State) : Host.Outcome State Fault Refusal :=
  match bindAt s kind obj 2 with
  | some b =>
    let s := setStep b obj 3 (bindObj kind obj b.toSlice true (scrubObj kind obj s))
    .next (finishBind { b with steps := mput b.steps obj 3 } s)
  | none => .next s
/-- The sail die of an object; a group has none. -/
def objDie (kind i : Nat) : Option Nat :=
  match kind with
  | 1 => some (lpDie i) | 2 => some (lpDie (i / 128)) | 3 => some (i / 32) | 5 => some (i / 96) | _ => none
/-- A die isolated during binds (R52): the binds fail, and the die's objects take their new slice unscrubbed. -/
def bindDieLost (d : Nat) (s : State) : State :=
  forEach s.net.binds (fun b s =>
    let mine := (b.steps.filter fun e => e.2 != 3 && objDie b.kind e.1 == some d).map (·.1)
    if mine.isEmpty then s
    else
      let s := forEach mine (fun i s => setStep b i 3 (bindObj b.kind i b.toSlice false s)) (ticketFail b.ticket 0x0005 s)
      match s.net.binds.find? fun x => x.ticket == b.ticket with
      | some x => finishBind x s
      | none => s) s
/-- Unscrubbed objects of a die are scrubbed before it becomes usable again (R52). -/
def scrubDie (d : Nat) (s : State) : State :=
  forEach (s.set.binds.filter fun e => e.2.ost == 3 && objDie (e.1 / 0x100000) (e.1 % 0x100000) == some d) (fun e s =>
    let k := e.1 / 0x100000
    let i := e.1 % 0x100000
    onBind k i (fun b => { b with ost := if b.slice = 0xFFFF then 0 else 1 }) (scrubObj k i s)) s
def execScrubGranuleFill (die granule : Nat) (s : State) : Host.Outcome State Fault Refusal :=
  .next (if dieUsable s die ∧ 65536 * granule < shardB then fillGranule (die * shardB + 65536 * granule) s else s)

/-! ### Slice states -/

/-- Least credits of a VC (Table 6-7). -/
def credMin (l vc : Nat) : Nat :=
  match vcClass l vc with
  | 0 => 17
  | 1 => 2
  | 7 => if isScaleUp (lpLoc l) then 0 else 65
  | _ => 65
/-- Is an allocation of a lane-port below a class minimum (R147)? Storage ports have no credits. -/
def creditShort (s : State) (l : Nat) : Bool :=
  lpLoc l != 31 && (List.range (vcCount l)).any fun v => credAlloc s l v < credMin l v
/-- The enable check of a slice (R55). -/
def sliceCheck (s : State) (sl : Nat) : Option Nat :=
  let ls := (sliceLps s sl).filter (lpExists s)
  firstOf [refuseIf ls.isEmpty 0x0505, refuseIf (ls.any (creditShort s)) 0x0412]
def chkSliceEnable (q : Req) (s : State) : Option Nat :=
  let sl := prm q 0 2
  firstOf [refuseIf (sl == 0) 0x0504, refuseIf ((begunOps s 0x0503).any fun t => rdLe t.param 0 2 == sl) 0x0006,
    refuseIf (2 ≤ sliceSt s sl) 0x0005, sliceCheck s sl]
def execSliceEnable (q : Req) (s : State) : Host.Outcome State Fault Refusal :=
  .next (plain 0x0502 (chkSliceEnable q s) (act (setSlice (prm q 0 2) 2)) q s)
def chkSliceDisable (q : Req) (s : State) : Option Nat :=
  let sl := prm q 0 2
  firstOf [refuseIf (sl == 0) 0x0504, refuseIf ((begunOps s 0x0503).any fun t => rdLe t.param 0 2 == sl) 0x0006,
    refuseIf (sliceSt s sl != 2) 0x0005]
def execSliceDisable (q : Req) (s : State) : Host.Outcome State Fault Refusal :=
  .next (longOp 0x0503 1 true (chkSliceDisable q s) q s)
/-- The start of a disable: admission stops and the queues drain. -/
def startSliceDisable (tk sl : Nat) (s : State) : State :=
  if sliceSt s sl = 2 then onNet (fun n => { n with drains := mput n.drains sl s.mono }) (setSlice sl 3 s)
  else ticketFail tk 0x0005 s
def execSliceDrainEnd (slice : Nat) (s : State) : Host.Outcome State Fault Refusal :=
  .next (if mhas s.net.drains slice && (sliceLps s slice).all (lpIdle s) then
    let s := onNet (fun n => { n with drains := mdel n.drains slice }) s
    let s := if sliceHeld s slice then setSlice slice 1 s else dropStale slice (setSlice slice 0 s)
    match (begunOps s 0x0503).find? fun t => rdLe t.param 0 2 == slice with
    | some t => ticketDone t.ticket s
    | none => s
  else s)

/-! ### SLICE.QUERY -/

def chkSliceQuery (q : Req) (s : State) : Option Nat :=
  let kind := prm q 1 1
  match prm q 0 1 with
  | 0 => firstOf [refuseIf (prm q 2 2 != 0 || kindMax kind == 0 || kindMax kind ≤ prm q 4 4) 0x0007,
      refuseIf (objChk s kind (prm q 4 4) == some 0x0003) 0x0003]
  | 1 => refuseIf (kind != 0 || prm q 4 4 != 0 || 0xFFF < prm q 2 2) 0x0007
  | _ => some 0x0007
def execSliceQuery (q : Req) (s : State) : Host.Outcome State Fault Refusal :=
  .next (plain 0x0504 (chkSliceQuery q s) (ans fun s => qSlice s q.entry.param) q s)

/-! ### Entry to READY (R54) -/

/-- Bindings restored: an interrupted rebinding leaves its old slice, every generation other than 0 advances, and every
object is scrubbed. -/
def restoreBinds (s : State) : State :=
  let f := fun (t : Settings) => { t with
    binds := t.binds.map fun e => (e.1, (⟨e.2.slice, if e.2.gen = 0 then 0 else nextGen e.2.gen, if e.2.slice = 0xFFFF then 0 else 1⟩ : Binding)),
    slices := t.slices.map fun e => (e.1, if e.2 = 3 then 1 else e.2) }
  modSet f (forEach (List.range (96 * s.id.n)) markRegion s)
/-- Slices recorded as ENABLED run the enable check once, after every other setting. -/
def restoreSlices (s : State) : State :=
  forEach ((s.set.slices.filter fun e => e.2 == 2).map (·.1)) (fun sl s =>
    if (sliceCheck s sl).isSome then setSlice sl 1 s else s) s

end Sys2Proof.Machine
end

