-- ==== Sys2Proof/Machine/PortCmds.lean ====
section
/-! DEFINITION. Port, lane and link commands (R34, R61, R77, R78, R104). -/

set_option Elab.async false

namespace Sys2Proof.Machine

/-! ### Checks shared -/

/-- A port by number: 0 to 255, fitted, on a usable die. -/
def portNoChk (s : State) (p : Nat) : Option Nat := if 256 ≤ p then some 0x0007 else portChk s p
/-- A lane or lane-port by number. -/
def laneNoChk (s : State) (l : Nat) : Option Nat := if 1024 ≤ l then some 0x0007 else portChk s (l / 4)
/-- A range of ports. -/
def portRange (first count : Nat) : List Nat := if 256 < first + count then [] else (List.range count).map (first + ·)
def portRangeChk (s : State) (first count : Nat) : Option Nat :=
  let ps := portRange first count
  firstOf [refuseIf (count == 0 || 256 < first + count) 0x0007, refuseIf (ps.any fun p => portChk s p == some 0x0003) 0x0003,
    refuseIf (ps.any fun p => (portChk s p).isSome) 0x0005]
/-- Does a running operation have the port (R393): a lane test, an ACTIVE inspection, a clean? -/
def portTaken (s : State) (p : Nat) : Bool :=
  (begunOps s 0x0207).any (fun t => rdLe t.param 0 2 / 4 == p) ||
    (begunOps s 0x0209).any (fun t => rdLe t.param 4 1 == 1 && rdLe t.param 0 2 ≤ p && p < rdLe t.param 0 2 + rdLe t.param 2 2) ||
    (portLoc p < 30 && (begunOps s 0x020A).any fun t => rdLe t.param 0 1 == portDie p)
def ownerFrom (lo hi p : Nat) : Nat := if lo ≤ portLoc p ∧ portLoc p ≤ hi then 2 else 1
/-- Pools of a die after a change of its settings (R114). -/
def poolChk (d : Nat) (t : State) : Option Nat := firstOf [refuseIf (overcommit t d) 0x0642, refuseIf (poolInUse t d) 0x0643]

/-! ### PORT.ENABLE and PORT.DISABLE -/

def withAdmin (p : Nat) (b : Bool) (s : State) : State := onPort p (fun c => { c with admin := b }) s
def chkPortEnable (q : Req) (s : State) : Option Nat :=
  let p := prm q 0 2
  match portNoChk s p with
  | some r => some r
  | none =>
    if (portOf s p).admin then none
    else firstOf [refuseIf (portTaken s p) 0x0006, refuseIf (!cartOk s p) 0x0203, refuseIf ((portLps s p).any (creditShort s)) 0x0412,
      poolChk (portDie p) (withAdmin p true s)]
def enablePort (p : Nat) (s : State) : State :=
  if (portOf s p).admin then s else portUp p (relevelDie (portDie p) (withAdmin p true s))
def execPortEnable (q : Req) (s : State) : Host.Outcome State Fault Refusal :=
  .next (runCommand (cat 0x0201) true (ownerFrom 18 31 (prm q 0 2)) (chkPortEnable q s) [] (act (enablePort (prm q 0 2))) q s)
def chkPortDisable (q : Req) (s : State) : Option Nat :=
  let p := prm q 0 2
  match portNoChk s p with
  | some r => some r
  | none => if (portOf s p).admin then refuseIf (poolInUse (withAdmin p false s) (portDie p)) 0x0643 else none
/-- A port goes down, its scheduled paths lost with it. -/
def dropPort (p : Nat) (s : State) : State :=
  let ups := (portLps s p).filter (linkUp s)
  forEach ups pathLost (portDown p s)
def disablePort (p : Nat) (s : State) : State :=
  if (portOf s p).admin then relevelDie (portDie p) (dropPort p (withAdmin p false s)) else s
def execPortDisable (q : Req) (s : State) : Host.Outcome State Fault Refusal :=
  .next (runCommand (cat 0x0202) true (ownerFrom 18 31 (prm q 0 2)) (chkPortDisable q s) [] (act (disablePort (prm q 0 2))) q s)

/-! ### PORT.SPLIT, PORT.POWER, PORT.QUERY -/

/-- The lanes of a lane-port under a split. -/
def lanesAt (p split sub : Nat) : List Nat :=
  (List.range (match split with | 0 => 4 | 1 => 2 | _ => 1)).map (4 * p + sub + ·)
/-- Does a split send lanes of one lane-port to different far ports in the record? -/
def splitMismatch (s : State) (p split : Nat) : Bool :=
  ((List.range 4).filter (lpExistsAt split)).any fun sub =>
    let far := (lanesAt p split sub).map fun l => (laneMap s l).map fun m => (m.farKind, m.farId)
    !(far.all fun x => x == far.headD none)
def chkPortSplit (q : Req) (s : State) : Option Nat :=
  let p := prm q 0 2
  firstOf [refuseIf (2 < prm q 2 1) 0x0007, portNoChk s p, refuseIf (portTaken s p) 0x0006, refuseIf (30 ≤ portLoc p) 0x0202,
    refuseIf (portOf s p).admin 0x0201,
    refuseIf ((List.range 4).any fun i => let b := bindOf s 1 (4 * p + i); b.slice != 0xFFFF && b.slice != 0) 0x0207,
    refuseIf (splitMismatch s p (prm q 2 1)) 0x0204]
def execPortSplit (q : Req) (s : State) : Host.Outcome State Fault Refusal :=
  .next (plain 0x0203 (chkPortSplit q s) (act (onPort (prm q 0 2) fun c => { c with split := prm q 2 1 })) q s)
def chkPortPower (q : Req) (s : State) : Option Nat :=
  let p := prm q 0 2
  let u := prm q 4 2
  firstOf [refuseIf (1 < prm q 2 1 || (u != 0 && (u < 10 || 1000 < u))) 0x0007, portNoChk s p, refuseIf (portLoc p == 31) 0x0202]
def execPortPower (q : Req) (s : State) : Host.Outcome State Fault Refusal :=
  .next (plain 0x0204 (chkPortPower q s) (act (onPort (prm q 0 2) fun c => { c with
    policy := prm q 2 1, idleUs := if prm q 4 2 = 0 then c.idleUs else prm q 4 2 })) q s)
def execPortQuery (q : Req) (s : State) : Host.Outcome State Fault Refusal :=
  .next (plain 0x0205 (portNoChk s (prm q 0 2)) (ans fun s => qPort s (prm q 0 2)) q s)

/-! ### LANE.STATS and LANE.TEST -/

def clearLane (l : Nat) (s : State) : State :=
  onLane l (fun x => { x with fecCorr := 0, fecUncorr := 0, losCnt := 0, lolCnt := 0, lifts := 0, dozeMs := 0,
                              dozeAt := if x.power = .doze then s.mono else x.dozeAt }) s
def execLaneStats (q : Req) (s : State) : Host.Outcome State Fault Refusal :=
  .next (plain 0x0206 (laneNoChk s (prm q 0 2)) (fun s =>
    (whenS (prm q 2 1 == 1) (clearLane (prm q 0 2)) s, qLane s (prm q 0 2))) q s)
def chkLaneTest (q : Req) (s : State) : Option Nat :=
  let l := prm q 0 2
  let p := l / 4
  let c := prm q 2 1
  firstOf [refuseIf (l % 4 != 0 || c == 0 || 4 < c || 3 < prm q 3 1 || 1 < prm q 4 1) 0x0007,
    refuseIf (prm q 8 4 == 0 || 60000 < prm q 8 4) 0x0007, laneNoChk s l, refuseIf (portTaken s p) 0x0006,
    refuseIf (portOf s p).admin 0x0201, refuseIf (portIsolated s p) 0x0005]
def execLaneTest (q : Req) (s : State) : Host.Outcome State Fault Refusal :=
  .next (longOp 0x0207 1 true (chkLaneTest q s) q s)
/-- The lanes of a test. -/
def testLanes (t : LaneTest) : List Nat := (List.range t.count).map (t.first + ·)
def testOff (t : LaneTest) (s : State) : State :=
  let s := forEach (testLanes t) (fun l => onLane l fun x => if x.power = .test then { x with power := .off } else x) s
  onNet (fun n => { n with tests := n.tests.filter fun x => x.ticket != t.ticket }) s
/-- The start of a lane test, on a port still disabled and not held OFF. -/
def startLaneTest (t : Ticket) (s : State) : State :=
  let x : LaneTest := ⟨t.ticket, rdLe t.param 0 2, rdLe t.param 2 1, rdLe t.param 3 1, rdLe t.param 4 1⟩
  if (portOf s (x.first / 4)).admin || portIsolated s (x.first / 4) then ticketFail t.ticket 0x0005 s
  else
    let s := forEach (testLanes x) (fun l => onLane l fun y => { y with power := .test }) s
    onNet (fun n => { n with tests := n.tests ++ [x] }) s
/-- The end of a lane test: bits and errors of each lane, none counted for a lane that had not locked (assumption 63). -/
def execLaneTestEnd (tk : Nat) (counts : List (Nat × Nat × Bool)) (s : State) : Host.Outcome State Fault Refusal :=
  .next (match s.net.tests.find? fun x => x.ticket == tk with
    | some x =>
      if runningTk s tk 0x0207 then
        let res := (List.range x.count).flatMap fun i =>
          let c := counts.getD i (0, 0, false)
          if x.loop = 0 || c.2.2 then leBytes 8 (sat 64 c.1) ++ leBytes 8 (sat 64 c.2.1) else leBytes 16 0
        ticketDone tk (ticketResult tk res (testOff x s))
      else s
    | none => s)

/-! ### Link commands (R104) -/

def credField (q : Req) : List Nat := (List.range 16).map fun v => prm q (16 + 2 * v) 2
/-- Does a port's role lack a VC? -/
def vcsOf (p : Nat) : Nat := if isScaleOut (portLoc p) then 16 else 8
def chkPortLinkcfg (q : Req) (s : State) : Option Nat :=
  let p := prm q 0 2
  let cr := credField q
  firstOf [refuseIf (100 < prm q 2 2) 0x0007, portNoChk s p, refuseIf (portTaken s p) 0x0006, refuseIf (portOf s p).admin 0x0201,
    refuseIf (portLoc p == 31) 0x0202,
    refuseIf (prm q 4 1 == 0 && (32768 < cr.foldl (· + ·) 0 || (cr.drop (vcsOf p)).any (· != 0))) 0x0205]
def execPortLinkcfg (q : Req) (s : State) : Host.Outcome State Fault Refusal :=
  .next (runCommand (cat 0x020B) true (ownerFrom 18 30 (prm q 0 2)) (chkPortLinkcfg q s) [] (act (onPort (prm q 0 2) fun c => { c with
    replayUs := if prm q 2 2 = 0 then c.replayUs else some (prm q 2 2),
    cred := if prm q 4 1 = 1 then [] else [(0, credField q)] })) q s)
def clearLstats (l : Nat) (s : State) : State :=
  if lpLoc l = 31 then onNet (fun n => { n with ethFlushed := mdel n.ethFlushed (lpPort l) }) s
  else onLink l (fun k => { k with
    lcrcErr := 0, nakTx := 0, nakRx := 0, replays := 0, dup := 0, protoErr := 0, retrains := 0, flushed := 0 }) s
def execPortLstats (q : Req) (s : State) : Host.Outcome State Fault Refusal :=
  .next (plain 0x020C (laneNoChk s (prm q 0 2)) (fun s =>
    (whenS (prm q 2 1 == 1) (clearLstats (prm q 0 2)) s, qLstats s (prm q 0 2))) q s)
/-- A MAC that is zero or multicast: the group bit is that of the first octet (assumption 66). -/
def macBad (m : Nat) : Bool := m == 0 || m.testBit 40
def chkPortEthcfg (q : Req) (s : State) : Option Nat :=
  let p := prm q 0 2
  let v := prm q 32 2
  firstOf [refuseIf ((4095 < v && v != 0xFFFF) || 7 < prm q 34 1 || 63 < prm q 35 1) 0x0007, portNoChk s p,
    refuseIf (portTaken s p) 0x0006, refuseIf (portOf s p).admin 0x0201, refuseIf (portLoc p != 31) 0x0202,
    refuseIf (macBad (prm q 2 6) || prm q 8 4 == 0 || v == 4095) 0x0206]
def execPortEthcfg (q : Req) (s : State) : Host.Outcome State Fault Refusal :=
  .next (plain 0x020D (chkPortEthcfg q s) (act (onPort (prm q 0 2) fun c => { c with
    eth := some ⟨prm q 2 6, prm q 8 4, 0, 0, prm q 16 16, 0, prm q 32 2, prm q 34 1, prm q 35 1⟩ })) q s)

end Sys2Proof.Machine
end

