-- ==== Sys2Proof/Machine/Optics.lean ====
section
/-! DEFINITION. Optical engines and cartridges: readings, inspection, cleaning (R64 to R67), identity records, bays,
overrides (R68 to R75). -/

set_option Elab.async false

namespace Sys2Proof.Machine

/-! ### Readings -/

/-- Has the port fibres? -/
def optical (s : State) (p : Nat) : Bool := s.id.optics && portLoc p < 30
def chkOptRead (q : Req) (s : State) : Option Nat :=
  let p := prm q 0 2
  firstOf [refuseIf (256 ≤ p) 0x0007, refuseIf (!s.id.optics || 30 ≤ portLoc p) 0x0003, portChk s p]
def execOptRead (q : Req) (s : State) : Host.Outcome State Fault Refusal :=
  .next (plain 0x0208 (chkOptRead q s) (ans fun s => qOpt s (prm q 0 2)) q s)
/-- An engine's readings of its 24 lanes, in lane order. -/
def execOptReadingUpdate (engine : Nat) (rds : List OptRead) (s : State) : Host.Outcome State Fault Refusal :=
  .next (if s.id.optics && dieUsable s (engine / 5) then
    forEach ((rds.take 24).zipIdx) (fun e => onNet fun n => { n with
      opt := mput n.opt (128 * (engine / 5) + 24 * (engine % 5) + e.2) e.1 }) s
  else s)

/-! ### Grades (Table 3-3): 0 UNGRADED, 1 CLEAN, 2 DIRTY, 3 DAMAGED -/

def gradeBack (v : Int) : Nat := if v ≤ -350 then 1 else if v ≤ -260 then 2 else 3
def gradeLoss (v : Int) : Nat := if v ≤ 150 then 1 else if v ≤ 400 then 2 else 3
/-- The far end's launch power on a lane, as training reported it. -/
def farLaunch (s : State) (lane : Nat) : Option Int :=
  (linkOf s (laneLp s lane)).farLaunch[lane % 4]?.bind fun v => if v = -32768 then none else some v
/-- One lane's two fibres; a loss that cannot be measured leaves the transmit fibre's grade (assumption 64). -/
def gradeLane (s : State) (lane : Nat) (r : OptRead) : Nat :=
  match farLaunch s lane, laneMap s lane with
  | some v, some m => max (gradeBack r.backRefl) (gradeLoss (v - r.received - m.loss))
  | _, _ => gradeBack r.backRefl
/-- A connector's grade from readings of its four lanes. -/
def gradePort (s : State) (p : Nat) (rds : List OptRead) : Nat :=
  ((rds.take 4).zipIdx).foldl (fun a e => max a (gradeLane s (4 * p + e.2) e.1)) 0
/-- Keeps a grade, recording a change. -/
def setGrade (p g : Nat) (s : State) : State :=
  if mget 0 s.net.grades p = g then s
  else record 0x0285 [(2, p)] (onNet (fun n => { n with grades := mset 0 n.grades p g }) s)
/-- A PASSIVE grade from live readings. -/
def passiveGrade (s : State) (p : Nat) : Nat :=
  let ls := (List.range 4).map (4 * p + ·)
  if ls.all fun l => (laneOf s l).power == .active && mhas s.net.opt l then
    gradePort s p (ls.map fun l => mget ⟨0, 0, 0⟩ s.net.opt l)
  else 0

/-! ### OPT.INSPECT and OPT.CLEAN -/

def chkOptInspect (q : Req) (s : State) : Option Nat :=
  let ps := portRange (prm q 0 2) (prm q 2 2)
  firstOf [refuseIf (1 < prm q 4 1) 0x0007, refuseIf (prm q 2 2 == 0 || 256 < prm q 0 2 + prm q 2 2) 0x0007,
    refuseIf (!s.id.optics || ps.any fun p => 30 ≤ portLoc p) 0x0003, portRangeChk s (prm q 0 2) (prm q 2 2),
    refuseIf (ps.any (portTaken s)) 0x0006, refuseIf (prm q 4 1 == 1 && ps.any fun p => (portOf s p).admin) 0x0201,
    refuseIf (prm q 4 1 == 1 && ps.any (portIsolated s)) 0x0005]
def execOptInspect (q : Req) (s : State) : Host.Outcome State Fault Refusal :=
  .next (longOp 0x0209 1 true (chkOptInspect q s) q s)
/-- The start of an inspection: a PASSIVE one grades its connectors at once. -/
def startInspect (t : Ticket) (s : State) : State :=
  let ps := portRange (rdLe t.param 0 2) (rdLe t.param 2 2)
  if rdLe t.param 4 1 = 0 then ticketDone t.ticket (forEach ps (fun p s => setGrade p (passiveGrade s p) s) s)
  else if ps.any fun p => (portOf s p).admin || portIsolated s p then ticketFail t.ticket 0x0005 s
  else onNet (fun n => { n with inspects := n.inspects ++ [⟨t.ticket, ps, none, 0, 0⟩] }) s
/-- An inspection that has graded its last connector ends. -/
def finishInspect (x : Inspect) (s : State) : State :=
  let s := onNet (fun n => { n with inspects := n.inspects.filter fun y => y.ticket != x.ticket }) s
  match x.die with
  | some d => ticketDone x.ticket (record 0x0286 [(1, d), (1, x.worst)] (onNet (fun n => { n with cleanDie := none }) s))
  | none => ticketDone x.ticket s
def onInspect (tk : Nat) (f : Inspect → Inspect) (s : State) : State :=
  onNet (fun n => { n with inspects := n.inspects.map fun y => if y.ticket = tk then f y else y }) s
def inspectStep (x : Inspect) (port g : Nat) (s : State) : State :=
  let x' := { x with todo := x.todo.filter (· != port), worst := max x.worst g }
  let s := onInspect x.ticket (fun _ => x') (setGrade port g s)
  if x'.todo.isEmpty then finishInspect x' s else s
/-- Is a ticket RUNNING? -/
def tkRunning (s : State) (tk : Nat) : Bool := (ticketOf s tk).any fun t => t.ost == .running
def execInspectConnectorDone (port : Nat) (rds : List OptRead) (s : State) : Host.Outcome State Fault Refusal :=
  .next (match s.net.inspects.find? fun x => x.phase == 0 && x.todo.contains port with
    | some x =>
      if tkRunning s x.ticket then inspectStep x port (gradePort s port rds) s else s
    | none => s)
def rowPorts (d : Nat) : List Nat := (List.range 30).map (32 * d + ·)
def chkOptClean (q : Req) (s : State) : Option Nat :=
  let d := prm q 0 1
  let u := prm q 4 2
  firstOf [refuseIf (8 ≤ d || (u != 0 && (u < 100 || 2000 < u))) 0x0007, refuseIf (!s.id.optics) 0x0003,
    unitChk (dieFitted s d) (dieUsable s d), refuseIf ((rowPorts d).any (portTaken s)) 0x0006,
    refuseIf ((rowPorts d).any fun p => (portOf s p).admin) 0x0201]
def execOptClean (q : Req) (s : State) : Host.Outcome State Fault Refusal :=
  .next (longOp 0x020A 1 true (chkOptClean q s) q s)
/-- Is the actuator free for a clean to start? -/
def cleanFree (s : State) : Bool := s.net.cleanDie.isNone
/-- The start of a clean (R67, steps 1 and 2). -/
def startClean (t : Ticket) (s : State) : State :=
  let d := rdLe t.param 0 1
  if (rowPorts d).any fun p => (portOf s p).admin then ticketFail t.ticket 0x0005 s
  else
    emit (.actuator d) (onNet (fun n => { n with
      cleanReq := true, cleanDie := some d, inspects := n.inspects ++ [⟨t.ticket, [], some d, 0, 1⟩] }) s)
def execCleanDurationEnd (s : State) : Host.Outcome State Fault Refusal :=
  .next (match s.net.inspects.find? fun x => x.phase == 1 with
    | some x => onInspect x.ticket (fun y => { y with phase := 2 }) (onNet (fun n => { n with cleanReq := false }) s)
    | none => s)
/-- The row's ACTIVE inspection; ports held OFF are left UNGRADED (R78). -/
def execCleanWaitEnd (s : State) : Host.Outcome State Fault Refusal :=
  .next (match s.net.inspects.find? fun x => x.phase == 2 with
    | some x =>
      match x.die with
      | some d =>
        let s := forEach ((rowPorts d).filter (portIsolated s)) (fun p => setGrade p 0) s
        let x' := { x with phase := 0, todo := (rowPorts d).filter fun p => !portIsolated s p }
        let s := onInspect x.ticket (fun _ => x') s
        if x'.todo.isEmpty then finishInspect x' s else s
      | none => s
    | none => s)

/-! ### Identity records (R69 to R71) -/

def recLen (r : List Byte) : Nat := rdLe r 6 2
/-- The status of a record that answers, with its owner's test of the layout. -/
def recordStatus (s : State) (role : Nat) (r : List Byte) (ok : Bool) : Nat :=
  let n := recLen r
  let sig := sliceBytes r (n - 64) 64
  if n < 136 ∨ 8192 < n ∨ sig.all (· == 0) = true then 2
  else
    match s.sys.inUse.keys.find? fun k => k.keyId == rdLe r (n - 72) 8 && k.role.testBit role with
    | none => 2
    | some k =>
      if !ecdsaOk k.pub (r.take (n - 64)) sig then 3
      else if rdLe r 0 4 != 0x52494351 || rdLe r 4 2 != 1 || rdLe r 9 1 != 0 || !ok then 4
      else 0
/-- Lanes of a bay, die-local. -/
def bayLanes (b : Nat) : List Nat :=
  match b % 3 with
  | 0 => List.range 120
  | 1 => (List.range 4).map (120 + ·)
  | _ => (List.range 4).map (124 + ·)
def mapEntry (r : List Byte) (i : Nat) : Nat × LaneMap :=
  let o := 0x40 + 16 * i
  (rdLe r o 1, ⟨rdLe r (o + 1) 1, rdLe r (o + 2) 1, rdLe r (o + 4) 4, rdLe r (o + 8) 2, rdLe r (o + 10) 2, toSigned 16 (rdLe r (o + 12) 2)⟩)
def mapEntries (r : List Byte) : List (Nat × LaneMap) := (List.range (min 128 (rdLe r 0xA 2))).map (mapEntry r)
/-- Far kinds that a port's role allows. -/
def farKindOk (lane kind : Nat) : Bool :=
  let loc := lane / 4
  kind == 0 || kind == 5 || kind == (if isScaleUp loc then 1 else if isScaleOut loc then 2 else if loc == 30 then 3 else 4)
/-- Is a bay's record consistent (Table 3-6, R68)? -/
def bayConsistent (s : State) (b : Nat) (r : List Byte) : Bool :=
  let ct := rdLe r 8 1
  let es := mapEntries r
  let n := rdLe r 0xA 2
  ct == (if b % 3 = 0 then (if s.id.optics then 1 else 3) else 2) && recLen r == 0x40 + 16 * n + 72 &&
    n == (bayLanes b).length && (bayLanes b).all (fun l => (es.map (·.1)).contains l) &&
    es.all (fun e => farKindOk e.1 e.2.farKind &&
      (if ct = 2 then e.2.loss ≤ 2500 && e.2.lengthCm ≤ 150 else e.2.loss ≤ 400)) &&
    (List.range n).all fun i => rdLe r (0x40 + 16 * i + 3) 1 == 0 && rdLe r (0x40 + 16 * i + 14) 2 == 0
/-- A bay as its identity memory reads. -/
def bayFrom (s : State) (b : Nat) (raw : Option (List Byte)) : Bay :=
  match raw with
  | none => bayDflt
  | some r =>
    ⟨recordStatus s 0 r (bayConsistent s b r), sliceBytes r 0x10 32, sliceBytes r 0 8192,
      (mapEntries r).foldl (fun m e => if (bayLanes b).contains e.1 then mput m (128 * (b / 3) + e.1) e.2 else m) []⟩
def setBay (b : Nat) (x : Bay) (s : State) : State := onNet (fun n => { n with bays := mset bayDflt n.bays b x }) s
/-- Records a bay that is not VALID. -/
def bayEvent (b : Nat) (s : State) : State :=
  whenS ((bayOf s b).cstatus != 0) (record 0x0382 [(2, b), (1, (bayOf s b).cstatus)]) s

/-! ### Overrides and changes of a bay (R72, R73, R75) -/

/-- Sends the lanes of a port to OFF, its links waiting for them. -/
def portOff (p : Nat) (s : State) : State :=
  let ups := (portLps s p).filter (linkUp s)
  forEach ups pathLost (forEach (portLps s p) lanesDown s)
/-- A link retrains, a scheduled path lost with it. -/
def retrainLp (l : Nat) (s : State) : State :=
  let up := linkUp s l
  whenS up (pathLost l) (retrain l s)
/-- An override of a port ends: the record's expectations return, and its UP links are checked again. -/
def endOverride (p : Nat) (s : State) : State :=
  if overrides s p then
    let s := onPort p (fun c => { c with overRec := false, overSeen := false }) s
    let s := forEach ((List.range 4).map (4 * p + ·)) (fun l => onNet fun n => { n with expectSeen := mdel n.expectSeen l }) s
    forEach ((portLps s p).filter (linkUp s)) retrainLp s
  else s
/-- A port works or not under its bay and override. -/
def settlePort (p : Nat) (s : State) : State := if cartOk s p then portUp p s else portOff p s
def setOverride (p bits : Nat) (s : State) : State :=
  if bits.testBit 7 then settlePort p (endOverride p s)
  else
    let s := onPort p (fun c => { c with overRec := bits.testBit 0, overSeen := bits.testBit 1 }) s
    let s := forEach ((portLps s p).filter fun l => (linkOf s l).st == .miscabled) judgeFar s
    settlePort p s
def execCartOverride (q : Req) (s : State) : Host.Outcome State Fault Refusal :=
  .next (plain 0x0302 (portRangeChk s (prm q 0 2) (prm q 2 2))
    (act (forEach (portRange (prm q 0 2) (prm q 2 2)) fun p => setOverride p (prm q 4 1))) q s)
/-- A bay stops answering or shows another serial number: its lanes go to OFF and its record is read (R73). -/
def bayChanged (b : Nat) (s : State) : State :=
  record 0x0381 [(2, b)] (forEach (bayPorts b) portOff s)
def execCartPoll (bay : Nat) (serial : Option (List Byte)) (s : State) : Host.Outcome State Fault Refusal :=
  .next (if keelOn s && bay < 3 * s.id.n && !mhas s.net.rescans bay &&
      (serial.map fun x => sliceBytes x 0 32) != (if (bayOf s bay).cstatus = 1 then none else some (bayOf s bay).serial) then
    onNet (fun n => { n with rescans := mput n.rescans bay 0 }) (bayChanged bay s)
  else s)
/-- Takes a bay's new record: overrides end with another serial number, and the ports that were enabled return. -/
def takeBay (b : Nat) (raw : Option (List Byte)) (s : State) : State :=
  let x := bayFrom s b raw
  let other := x.serial != (bayOf s b).serial
  let s := bayEvent b (setBay b x s)
  let s := whenS other (forEach (bayPorts b) endOverride) s
  forEach (bayPorts b) settlePort s
def execCartRecordReadDone (bay : Nat) (raw : Option (List Byte)) (s : State) : Host.Outcome State Fault Refusal :=
  .next (match mfind s.net.rescans bay with
    | none => s
    | some tk =>
      if !keelOn s then s
      else
        let s := whenS (tk != 0 && (bayFrom s bay raw).serial != (bayOf s bay).serial) (bayChanged bay) s
        let s := takeBay bay raw (onNet (fun n => { n with rescans := mdel n.rescans bay }) s)
        if tk ≠ 0 && !(s.net.rescans.any fun e => e.2 == tk) then ticketDone tk s else s)

/-! ### CART.READ and CART.RESCAN -/

def bayChk (s : State) (b : Nat) : Option Nat := if 24 ≤ b then some 0x0007 else unitChk (b < 3 * s.id.n) (dieUsable s (b / 3))
/-- The raw memory goes to the buffer, or after the status into the REPLY of a session (assumption 65). -/
def readBay (q : Req) (s : State) : State × List Byte :=
  let x := bayOf s (prm q 0 2)
  let raw := sliceBytes x.raw 0 8192
  let st : List Byte := leBytes 1 x.cstatus
  if onHostRing q then (emit (.hostWrite (prm q 8 8) raw) s, st) else (s, st ++ raw)
def execCartRead (q : Req) (s : State) : Host.Outcome State Fault Refusal :=
  .next (runCommand (cat 0x0301) (!onHostRing q || 8192 ≤ prm q 16 4) 0 (bayChk s (prm q 0 2)) [] (readBay q) q s)
def rescanBays (s : State) (b : Nat) : List Nat :=
  if b = 0xFFFF then (List.range (3 * s.id.n)).filter fun b => dieUsable s (b / 3) else [b]
def chkCartRescan (q : Req) (s : State) : Option Nat :=
  let b := prm q 0 2
  firstOf [if b = 0xFFFF then none else bayChk s b,
    refuseIf ((begunOps s 0x0303).any fun t => (rescanBays s (rdLe t.param 0 2)).any (rescanBays s b).contains) 0x0006]
def execCartRescan (q : Req) (s : State) : Host.Outcome State Fault Refusal :=
  .next (longOp 0x0303 1 true (chkCartRescan q s) q s)
def startRescan (t : Ticket) (s : State) : State :=
  let bs := rescanBays s (rdLe t.param 0 2)
  if bs.isEmpty then ticketDone t.ticket s
  else forEach bs (fun b => onNet fun n => { n with rescans := mput n.rescans b t.ticket }) s

end Sys2Proof.Machine
end

