-- ==== Sys2Proof/Machine/LaneEvents.lean ====
section
/-! DEFINITION. What befalls lanes and links: power-up, detectors, doze, block lock, training, acknowledgements, credits
and timers (R58 to R62, R76, R82, R91 to R100). -/

set_option Elab.async false

namespace Sys2Proof.Machine

/-! ### Lanes -/

def lpHas (s : State) (l : Nat) (p : LanePower) : Bool := lpExists s l && (lpLanes s l).all fun i => (laneOf s i).power == p
def setPower (l : Nat) (p : LanePower) (s : State) : State := forEach (lpLanes s l) (fun i => onLane i fun x => { x with power := p }) s
/-- A power-up that ended without lock: recorded and counted on every lane (R59). -/
def noLock (l : Nat) (s : State) : State :=
  forEach (lpLanes s l) (fun i s =>
    record 0x0282 [(2, i)] (onLane i (fun x => { x with power := .off, lolCnt := inc32 x.lolCnt }) s)) s
def execLanePowerUpEnd (lp : Nat) (locked : Bool) (s : State) : Host.Outcome State Fault Refusal :=
  .next (if lpHas s lp .powering then (if locked then lanesReady lp (setPower lp .active s) else noLock lp s) else s)
/-- A lane-port of an enabled port powers again, its lanes having gone to OFF. -/
def execLaneRetry (lp : Nat) (s : State) : Host.Outcome State Fault Refusal :=
  .next (if lpHas s lp .off && portLive s (lpPort lp) && (linkOf s lp).st != .disabled then
    forEach (lpLanes s lp) powerLane s else s)
/-- A lane-port loses its lanes, a scheduled path lost with it. -/
def dropLanes (l : Nat) (s : State) : State :=
  let up := linkUp s l
  whenS up (pathLost l) (lanesDown l s)
/-- A detector of a lane asserts (R59). -/
def detect (lane code : Nat) (f : Lane → Lane) (s : State) : State :=
  match (laneOf s lane).power with
  | .active | .doze | .lifting =>
    let s := report (srcId 3 (lane / 4)) 3 (record code [(2, lane)] (onLane lane f s))
    dropLanes (laneLp s lane) s
  | _ => s
def execLossOfSignal (lane : Nat) (s : State) : Host.Outcome State Fault Refusal :=
  .next (detect lane 0x0281 (fun x => { x with los := true, losCnt := inc32 x.losCnt }) s)
def execLossOfLock (lane : Nat) (s : State) : Host.Outcome State Fault Refusal :=
  .next (detect lane 0x0282 (fun x => { x with lol := true, lolCnt := inc32 x.lolCnt }) s)
/-- The active lane reference of a die is lost (R58): it switches, or, both having failed, its lanes go to OFF. -/
def execRefclkLoss (die : Nat) (otherGood : Bool) (s : State) : Host.Outcome State Fault Refusal :=
  let cur := mget 0 s.net.refclk die
  .next (if !dieFitted s die || cur == 2 then s
  else if otherGood then
    record 0x0283 [(1, die)] (onNet (fun n => { n with refclk := mset 0 n.refclk die (1 - cur) }) s)
  else
    let s := onNet (fun n => { n with refclk := mset 0 n.refclk die 2 }) s
    report (srcId 1 die) 6 (forEach ((List.range 32).map (32 * die + ·)) portOff s))

/-! ### Doze (R61, R62, R97) -/

def execLiftComplete (lp : Nat) (s : State) : Host.Outcome State Fault Refusal :=
  .next (if lpHas s lp .lifting then onLink lp (fun k => { k with idleFrom := s.mono }) (setPower lp .active s) else s)
/-- May a lane-port doze, its idle time aside? -/
def dozeOk (s : State) (l : Nat) : Bool :=
  linkUp s l && lanesActive s l && (portOf s (lpPort l)).policy == 0 && lpLoc l != 31 && !namesLp s l && lpIdle s l &&
    (linkOf s l).txq.isEmpty
def idleLong (s : State) (l : Nat) : Bool := (linkOf s l).idleFrom + cycUs (portOf s (lpPort l)).idleUs ≤ s.mono
def execDozeIdleTimeout (lp : Nat) (s : State) : Host.Outcome State Fault Refusal :=
  .next (if dozeOk s lp && !(linkOf s lp).dozeReq then
    emit (.block lp 3 (dozeBlk 0)) (onLink lp (fun k => { k with dozeReq := true }) s)
  else s)
def enterDoze (l : Nat) (s : State) : State :=
  let s := forEach (lpLanes s l) (fun i => onLane i fun x => { x with power := .doze, dozeAt := s.mono }) s
  onLink l (fun k => { k with dozeReq := false }) s
/-- A control block that is discarded (R84). -/
def badBlk (l : Nat) (s : State) : State := onLink l (fun k => { k with protoErr := inc32 k.protoErr }) s
/-- Handles a control block of a type; one that fails its CRC or has an unassigned type is discarded. -/
def ctlRx (l blk ty : Nat) (f : State → State) (s : State) : State :=
  if !lpExists s l || lpLoc l == 31 then s
  else if !blockOk blk || 4 < blkType blk then badBlk l s
  else if blkType blk = ty then f s else s
/-- The far end lifts: no LIFT goes back. -/
def farLift (l : Nat) (s : State) : State :=
  let s := onLink l (fun k => { k with dozeReq := false }) s
  forEach (lpLanes s l) (fun i => onLane i fun x =>
    if x.power = .doze then
      { x with power := .lifting, lifts := inc32 x.lifts, dozeMs := sat 32 (x.dozeMs + (s.mono - x.dozeAt) / 1750000) }
    else x) s
def dozeMsg (l m : Nat) (s : State) : State :=
  match m with
  | 0 =>
    if (linkOf s l).dozeReq then enterDoze l s
    else if dozeOk s l && idleLong s l then enterDoze l (emit (.block l 3 (dozeBlk 1)) s)
    else emit (.block l 3 (dozeBlk 2)) s
  | 1 => if (linkOf s l).dozeReq && linkUp s l then enterDoze l s else s
  | 2 => onLink l (fun k => { k with dozeReq := false, idleFrom := s.mono }) s
  | _ => farLift l s
def execDozeBlockRx (lp blk : Nat) (s : State) : Host.Outcome State Fault Refusal :=
  .next (ctlRx lp blk 3 (fun s => if linkUp s lp then dozeMsg lp (bitsAt blk 247 246) s else s) s)

/-! ### Block lock (R81, R82) -/

/-- CRC-16/CCITT over the low `n` bits of a number, most significant first. -/
def crc16Bits : Nat → Nat → Nat → Nat
  | 0, _, r => r
  | n + 1, v, r =>
    let t := bit (r.testBit 15 != v.testBit n) 0
    crc16Bits n v (((r <<< 1) % 65536) ^^^ (if t = 1 then 0x1021 else 0))
def tetherComma : Nat := 0x7E9D3A6CC59362B14F0A
def tetherOk (b : Nat) : Bool := b >>> 177 == tetherComma && b % 65536 == crc16Bits 241 (b >>> 16) 0xFFFF
/-- One tether block that should have come: good, or bad or missing. -/
def tetherStep (good : Bool) (id seq : Nat) (x : Lane) : Lane :=
  if good then
    { x with goodRun := min 3 (x.goodRun + 1), badRun := 0, farLane := id, farSeq := seq, lock := x.lock || 2 ≤ x.goodRun }
  else { x with goodRun := 0, badRun := min 4 (x.badRun + 1), lock := x.lock && x.badRun < 3 }
/-- Every lane in lock, and deskewed by their sequence. -/
def lpLocked (s : State) (l : Nat) : Bool :=
  (lpLanes s l).all fun i => (laneOf s i).lock && (laneOf s i).farSeq == (laneOf s l).farSeq
/-- Block lock gained or lost, as the link sees it (Table 4-12). -/
def lockMoves (l : Nat) (had : Bool) (s : State) : State :=
  match (linkOf s l).st with
  | .locking => if lpLocked s l then sendTrain l 0 (setLink l .exchange s) else s
  | .exchange | .creditInit | .up | .miscabled =>
    if had && !(lpLanes s l).all (fun i => (laneOf s i).lock) then retrainLp l s else s
  | _ => s
def execTetherBlockRx (lane : Nat) (blk : Option Nat) (s : State) : Host.Outcome State Fault Refusal :=
  let l := laneLp s lane
  .next (if lpLoc l = 31 ∨ lane / 4 ≥ 32 * s.id.n then s
  else match (laneOf s lane).power with
    | .active | .doze | .lifting =>
      let had := (laneOf s lane).lock
      let b := blk.getD 0
      lockMoves l had (onLane lane (tetherStep (blk.any tetherOk) (bitsAt b 176 167) (bitsAt b 166 151)) s)
    | _ => s)

/-! ### LINK_CTL, credits and retry (R91 to R96) -/

/-- One credit-return slot. -/
def takeCret (l slot : Nat) (s : State) : State :=
  let vc := slot >>> 12
  let tot := slot % 4096
  if slot = 0 then s
  else onLink l (fun k => { k with
    txCred := lmod k.txCred vc (fun c => c + (tot + 4096 - k.lastCret.getD vc 0) % 4096), lastCret := k.lastCret.set vc tot }) s
def resendLp (l : Nat) (s : State) : State :=
  let up := linkUp s l
  let s := resendOrRetrain l s
  whenS (up && !linkUp s l) (pathLost l) s
/-- An acknowledgement that comes with a block or a frame: `NAK` asks for a resend. -/
def takeAck (l ack : Nat) (valid nak : Bool) (s : State) : State :=
  let s := whenS valid (ackUpTo l ack) s
  if nak then resendLp l (onLink l (fun k => { k with nakRx := inc32 k.nakRx }) s) else s
def execLinkCtlRx (lp : Nat) (blk : Nat) (s : State) : Host.Outcome State Fault Refusal :=
  .next (ctlRx lp blk 1 (fun s =>
    let credits := fun (s : State) => forEach (List.range 4) (fun i => takeCret lp (bitsAt blk (183 + 16 * i) (168 + 16 * i))) s
    match (linkOf s lp).st with
    | .up => takeAck lp (bitsAt blk 247 236) (blk.testBit 235) (blk.testBit 234) (credits s)
    | .creditInit => credits s
    | _ => s) s)
/-- VCs with freed credits not yet reported; a total of 0 on VC 0 would read as an empty slot. -/
def cretDue (k : Link) : List (Nat × Nat) :=
  (List.range 16).filterMap fun v =>
    let t := k.rxFreed.getD v 0
    if t = k.rxSent.getD v 0 ∨ (v = 0 ∧ t = 0) then none else some (v, t)
def execCreditReturnDue (lp : Nat) (s : State) : Host.Outcome State Fault Refusal :=
  .next (if linkUp s lp then
    let due := cretDue (linkOf s lp)
    let s := forEach (chunksOf 4 due) (fun c s =>
      if c.isEmpty then s
      else emit (.block lp 1 (linkCtl (((linkOf s lp).rxNext + 4095) % 4096) true false c)) s) s
    onLink lp (fun k => { k with rxSent := due.foldl (fun a e => a.set e.1 e.2) k.rxSent }) s
  else s)
def execReplayTimeout (lp : Nat) (s : State) : Host.Outcome State Fault Refusal :=
  .next (if linkUp s lp && !(sentEnts (linkOf s lp)).isEmpty then resendLp lp s else s)

/-! ### Training (R98 to R100) -/

/-- Keeps the far identity of a `TRAIN` block. -/
def keepFar (l blk : Nat) (s : State) : State :=
  onLink l (fun k => { k with
    farCoord := bitsAt blk 245 214, farPort := some (32 * bitsAt blk 213 211 + bitsAt blk 210 206), farSplit := bitsAt blk 203 202,
    farVc16 := blk.testBit 201, farNext := bitsAt blk 199 188,
    farLaunch := (List.range 4).map fun i => toSigned 16 (bitsAt blk (139 + 16 * i) (124 + 16 * i)) }) s
def trainMsg (l blk : Nat) (s : State) : State :=
  let ph := bitsAt blk 247 246
  match (linkOf s l).st with
  | .exchange => if ph < 2 then judgeFar l (keepFar l blk s) else s
  | .miscabled => if ph < 2 then keepFar l blk s else s
  | .creditInit => if ph = 1 then enterUp l (bitsAt blk 199 188) (keepFar l blk s) else if ph = 0 then keepFar l blk s else s
  | .up => if ph = 2 then retrainLp l s else s
  | _ => s
def execTrainRx (lp blk : Nat) (s : State) : Host.Outcome State Fault Refusal := .next (ctlRx lp blk 2 (trainMsg lp blk) s)
def execTrainBlockDue (lp : Nat) (s : State) : Host.Outcome State Fault Refusal :=
  .next (if !lpExists s lp || lpLoc lp == 31 then s
  else match (linkOf s lp).st with
    | .locking | .exchange | .miscabled => sendTrain lp 0 s
    | .creditInit => sendTrain lp 1 s
    | .retrain => sendTrain lp 2 s
    | _ => s)
def execLockingTimeout (lp : Nat) (s : State) : Host.Outcome State Fault Refusal :=
  .next (if (linkOf s lp).st = .locking ∧ lpLoc lp ≠ 31 then retrain lp s else s)
def execExchangeTimeout (lp : Nat) (s : State) : Host.Outcome State Fault Refusal :=
  .next (if (linkOf s lp).st = .exchange then retrain lp s else s)
def execRetrainEnd (lp : Nat) (s : State) : Host.Outcome State Fault Refusal :=
  .next (if (linkOf s lp).st = .retrain then
    let s := creditZero lp s
    onLink lp (fun k => { k with st := if lanesActive s lp then .locking else .waitLanes, tetherSeq := 0 }) s
  else s)
def execMiscabledRecheck (lp : Nat) (s : State) : Host.Outcome State Fault Refusal :=
  .next (if (linkOf s lp).st = .miscabled then judgeFar lp s else s)
/-- 250 ms after leaving UP (R100). -/
def execLinkFlushTimeout (lp : Nat) (s : State) : Host.Outcome State Fault Refusal :=
  .next (if (linkOf s lp).downAt.isSome && !linkUp s lp then
    let ts := sentEnts (linkOf s lp)
    let s := forEach ts (dropTx lp) s
    let s := onLink lp (fun k => { k with downAt := none, flushed := sat 32 (k.flushed + ts.length) }) s
    linkEvent 0x0289 lp (linkOf s lp).st s
  else s)
/-- The storage link locks, or loses its lock (R101). -/
def execStorageLinkLock (port : Nat) (locked : Bool) (s : State) : Host.Outcome State Fault Refusal :=
  let l := 4 * port
  .next (if portLoc port ≠ 31 ∨ portFitted s port = false then s
  else match (linkOf s l).st, locked with
    | .locking, true => linkEvent 0x0287 l .locking (setLink l .up s)
    | .up, false => setLink l .locking s
    | _, _ => s)

end Sys2Proof.Machine
end

