-- ==== Sys2Proof/Machine/Ingress.lean ====
section
/-! DEFINITION. The ingress pipeline (R31, R35 to R38, R43, R44, R47, R86, R87, R95, R105, R116, R119, R149, R155, R167, R280,
R289, R298): from a frame's arrival to its leaf queue or its consumer's. -/

set_option Elab.async false

namespace Sys2Proof.Machine

/-! ### Checks -/

/-- The outcome of a slice or generation check: passed; refused without a NACK, counted for a slice; refused for its slice or
its generation, naming the object. -/
inductive Check where
  | pass
  | quiet (slice : Nat)
  | deny (kind index : Nat)
  | stale (kind index : Nat)
deriving DecidableEq, Repr

/-- The slice check of a scale-up lane-port (Table 2-5). `bad`: its binding-table entry is invalid (Table 5-6). -/
def sliceGate (s : State) (l : Nat) (f : Frame) (bad : Bool) : Check :=
  let b := bindOf s 1 l
  if bad then .quiet b.slice
  else if !isScaleUp (lpLoc l) then .pass
  else if b.ost ≠ 1 ∨ sliceSt s b.slice ≠ 2 then .quiet b.slice
  else if f.cls = 7 then .deny 1 l
  else if f.slice ≠ (if f.cls = 0 then 0 else b.slice) then .deny 1 l
  else .pass
/-- The check against the object that a frame is for (R43, R47): its slice, then its generation. -/
def objGate (s : State) (kind i : Nat) (f : Frame) : Check :=
  let b := bindOf s kind i
  if b.ost = 2 then (if f.gen = b.gen then .deny kind i else .stale kind i)
  else if b.ost ≠ 1 ∨ f.slice ≠ b.slice then .deny kind i
  else if f.gen ≠ b.gen then .stale kind i
  else .pass

/-! ### Stream marks (R298, R300) -/

/-- Set by an endpoint with a scope narrower than FABRIC, `REL` and `ACQ` mean nothing (R300). -/
def narrow (f : Frame) : Bool := (xRel f || xAcq f) && xScope f != 3
def relOf (f : Frame) : Bool := xRel f && xScope f == 3
def acqOf (f : Frame) : Bool := xAcq f && xScope f == 3
/-- A `READ` or `WRITE` of C2 or C4 for one of the module's functions (R295). -/
def isReq (s : State) (f : Frame) : Bool := (f.typ == 1 || f.typ == 2) && (f.cls == 2 || f.cls == 4) && ownModule s f.dest
def streamOf (f : Frame) : Nat × Nat × Nat := (f.src, f.dest, f.cls)
/-- Marks the stream of a refused request; with 4,096 marks on the die, the whole lane-port and VC. -/
def markStream (l vc : Nat) (f : Frame) (cause : Nat) (s : State) : State :=
  if isReq s f && !narrow f then
    let keep := s.mem.marks.filter fun m => !(m.lanePort == l && m.vc == vc && m.stream == some (streamOf f))
    let used := (keep.filter fun m => lpDie m.lanePort == lpDie l && m.stream.isSome).length
    onMem (fun m => { m with
      marks := keep ++ [⟨l, vc, if used < 4096 then some (streamOf f) else none, cause, s.mono⟩] }) s
  else s
/-- The cause with which a `REL` request is refused, its stream or its lane-port and VC being marked. -/
def markCause (s : State) (l vc : Nat) (f : Frame) : Option Nat :=
  if isReq s f && relOf f then
    (s.mem.marks.find? fun m => m.lanePort == l &&
      (match m.stream with
        | some x => x == streamOf f
        | none => m.vc == vc && s.mono < m.since + cycMs 1)).map (·.cause)
  else none

/-! ### Refusals -/

/-- Answers a refused frame with a NACK; C3 and C7 frames get none (R44). A refused request marks its stream. -/
def refuse (l : Nat) (f : Frame) (cause : Nat) (s : State) : State :=
  if f.cls = 3 ∨ f.cls = 7 then s else nack (lpDie l) f cause (markStream l f.vc f cause s)
/-- Acts on a failed check (R44). -/
def failCheck (l : Nat) (f : Frame) (c : Check) (s : State) : State :=
  match c with
  | .pass => s
  | .quiet sl => countStale sl s
  | .deny k i => refuse l f 2 (objEvent 0x0582 k i (countStale (bindOf s k i).slice s))
  | .stale k i => refuse l f 1 (objEvent 0x0581 k i (countStale (bindOf s k i).slice s))

/-! ### Policing (R167, R168) -/

def colourNo : Colour → Nat
  | .green => 0 | .yellow => 1 | .red => 2
/-- Polices a frame: none when it is discarded, else whether it is to be marked. -/
def police (l : Nat) (f : Frame) (s : State) : Option Bool × State :=
  if policed s l f then
    let r := policeFrame l f s
    match polAction r.2 l f.cls r.1 with
    | 0 => (some false, r.2)
    | 1 => (some true, r.2)
    | _ =>
      let s := onCore (fun c => { c with
        pol := mmod polDflt c.pol (8 * l + f.cls) fun p => { p with discarded := sat 64 (p.discarded + 1) } }) r.2
      (none, record 0x0682 [(2, l), (1, f.cls), (1, colourNo r.1)] s)
  else (some false, s)

/-! ### Requests to the module's functions (R35 to R38, R217, R280, R289) -/

/-- Does `[a, a + n)` of HBM meet a state region of a binding whose group is ENABLED (R280)? -/
def inBindRegion (s : State) (a n : Nat) : Bool :=
  s.set.updBinds.any fun e =>
    groupSt s e.2.group == 2 &&
      (let d := a / shardB
       let size := stateBytes s e.2 d
       [0, 1].any fun side =>
        let lo := d * shardB + sideBase s side + e.2.sideOff
        a < lo + size && lo < a + n)
/-- Does a scratchpad page hold a basket or staging of an enabled group (R289)? -/
def pageInUse (s : State) (t p : Nat) : Bool := basketUsed s (.page (t / 32) (t % 32) p)
def winTile (o : Nat) : Nat := 32 * ((o >>> 21) % 8) + (o >>> 16) % 32
def winPage (o : Nat) : Nat := (o >>> 24) % 32
/-- May a write reach these bytes of a descriptor: within `UPDATE` of one that is not OPEN (R217, Table 9-3)? -/
def descWritable (s : State) (o n : Nat) : Bool :=
  let b := o % 128
  let g := (o >>> 15) % 65536
  64 ≤ b && b + n ≤ 128 &&
    (match mfind (groupOf s g).seqs ((o >>> 7) % 256) with | some e => e.2.dstate != 1 | none => true)
/-- The cause that refuses a request's offset, if any (R35, R36, R38, R280, R289, R383). -/
def windowCause (s : State) (f : Frame) (fn : Nat) : Option Nat :=
  let o := xOffset f
  let n := xRlen f
  let wr := f.typ != 1
  if fn < 0xF0 ∨ 0xF3 < fn then some 3
  else if n = 0 ∨ 4096 < n ∨ 4096 < o % 4096 + n ∨ (f.typ = 9 ∧ fn ≠ 0xF0) then some 4
  else if fn = 0xF0 then
    if o / 4096 = 1 ∧ f.slice ≠ 0 then some 2
    else if o = 0x1000 ∨ o = 0x1800 then
      if f.typ ≠ 9 then some 4
      else if o = 0x1000 ∧ (n < 16 ∨ 1024 < n) then some 4
      else none
    else if 4096 ≤ o ∨ wr then some 4
    else none
  else if fn = 0xF1 then
    if o >>> 29 ≠ 0 ∨ !tileUsable s (winTile o) ∨ namesTile s (winTile o) ∨ (wr ∧ pageInUse s (winTile o) (winPage o)) then some 4
    else none
  else if fn = 0xF2 then
    if s.id.n * shardB ≤ o ∨ !shardOk s (o / shardB) ∨ (wr ∧ inBindRegion s o n) then some 4
    else none
  else if o >>> 31 ≠ 0 ∨ (wr ∧ !descWritable s o n) then some 4
  else none
/-- The object that a request is for (Table 2-5). -/
def windowObj (f : Frame) (fn : Nat) : Option (Nat × Nat) :=
  let o := xOffset f
  match fn with
  | 0xF1 => some (3, winTile o)
  | 0xF2 => some (5, o / gib)
  | 0xF3 => some (4, (o >>> 15) % 65536)
  | _ => none

/-! ### Where a frame goes -/

/-- What becomes of a frame after the lookup: a leaf queue with its lane-port, VC and `HOPS`; a consumer queue; a failed check;
a refusal; a loss of R145; an integrity detection; a silent discard; a frame the keel die or the updraft unit takes at once. -/
inductive Fate where
  | queue (q l vc hops : Nat)
  | cons (key : Nat)
  | check (c : Check)
  | cause (n : Nat)
  | lost (r : Route)
  | ecrc
  | quiet
  | ours
deriving DecidableEq, Repr

def reqFate (s : State) (l : Nat) (f : Frame) (fn : Nat) : Fate :=
  match windowCause s f fn with
  | some c => .cause c
  | none =>
    if f.typ = 9 then .ours
    else match (windowObj f fn).elim Check.pass (fun x => objGate s x.1 x.2 f) with
      | .pass =>
        match markCause s l f.vc f with
        | some c => .cause c
        | none => .cons (consKey (lpDie l) fn f)
      | c => .check c
/-- A frame for one of the module's functions; its `ECRC` is checked first (R87). -/
def localFate (s : State) (l : Nat) (f : Frame) (fn : Nat) : Fate :=
  if !ecrcOk f then .ecrc
  else match f.typ with
    | 0 => .quiet
    | 3 | 4 => .quiet
    | 5 => .ours
    | 6 | 7 => match objGate s 4 (xGroup f) f with | .pass => .cons (64 * lpDie l + 2) | c => .check c
    | 10 => .cons (64 * lpDie l + 4)
    | _ => reqFate s l f fn
/-- Does the owner of a lane-port check generations of this frame (Table 2-5)? -/
def portChecked (f : Frame) : Bool := f.cls == 4 || f.cls == 6 || (f.cls == 2 && (f.typ == 1 || f.typ == 2))
/-- The decision for a frame received on a lane-port; `bad`: its lookup entry is invalid. -/
def fate (s : State) (l : Nat) (f : Frame) (bad : Bool) : Fate :=
  if bad then .lost .misroute
  else match lookup s (some (l, f.vc)) f with
    | .out o vc h =>
      if lpLoc l = 30 then .lost .misroute
      else match (if portChecked f && isScaleUp (lpLoc o) then objGate s 1 o f else .pass) with
        | .pass => .queue (leafNo o f.cls (position s o f)) o vc h
        | c => .check c
    | .loc fn => localFate s l f fn
    | r => .lost r

/-- A NACK for a frame that the module itself sent: an updraft frame or a partial goes out again (R239, R250, Table 10-3). -/
def takeNack (d : Nat) (f : Frame) (s : State) : State :=
  let cause := bitsAt (extOf f) 255 248
  let ty := bitsAt (extOf f) 247 243
  let o := { f with ext := some ((extOf f % 2 ^ 192) <<< 64) }
  let g := xGroup o
  let seq := xSeq o
  if f.dest ≠ ownCoord s 0xF3 ∨ (cause ≠ 6 ∧ cause ≠ 7) then s
  else if ty = 8 then
    match s.tile.ctxs.find? fun c => c.group == g && c.seq == seq with
    | some c =>
      match c.sentTo.find? fun e => e.2.dest == bitsAt (extOf f) 239 208 && extOf e.2 >>> 64 == extOf o >>> 64 with
      | some e => onTile (fun x => { x with resend := x.resend ++ [(d, s.mono, e.2)] }) s
      | none => s
    | none => s
  else if ty = 6 ∧ xKind o = 1 then
    let h := chunkOf s g seq (xChunk o)
    if h.basket.isSome then sendPartial g seq (xChunk o) (xPiece o) s
    else if seqOpen s g seq then chunkLost g seq (xChunk o) 0 s else s
  else s
/-- What else follows when a frame is not stored. -/
def dropFate (l : Nat) (f : Frame) (x : Fate) (s : State) : State :=
  match x with
  | .check c => failCheck l f c s
  | .cause n => refuse l f n s
  | .lost r => countLost r (some l) f s
  | .ecrc => refuse l f 7 (frameLost f (coreReport (lpDie l) 1 s))
  | .ours =>
    if f.typ = 5 then takeNack (lpDie l) f s
    else if xOffset f = 0x1800 ∧ lpLoc l ≠ 30 then onCmd (fun c => { c with twinDrop := inc32 c.twinDrop }) s
    else s
  | _ => s

/-! ### Storing -/

/-- The credits of a frame that the link accepted and the module does not keep (R91). -/
def lose (l : Nat) (f : Frame) (s : State) : State := freeCredits l f.vc (creditsOf f) s
/-- Can the class pool take a received frame's last-cell quarters (R112, R116)? -/
def poolTakes (s : State) (d : Nat) (f : Frame) : Bool := f.cls == 1 || 4 * cellsOf f - creditsOf f ≤ poolRoom s d f.cls
def storeIn (l : Nat) (f : Frame) (mark : Bool) (dst : Nat × Bool) (r : Nat × Nat × Nat) (elig : Bool) (s : State) : Option State :=
  if poolTakes s (lpDie l) f then storeRx l f f.vc mark dst r elig s else none
/-- Is a frame held at the lookup stage (R155): bound for another rack from a scale-up lane-port, or behind such a frame? -/
def holds (s : State) (l : Nat) (f : Frame) : Bool :=
  s.core.held && isScaleUp (lpLoc l) &&
    (otherRack s f || s.core.heldFrames.any fun e => e.inL == some l && e.inVc == f.vc)
/-- A held frame keeps its cells, which its ingress lane-port's leaf queue of its class owns. -/
def storeHeld (l : Nat) (f : Frame) (mark : Bool) (s : State) : Option State :=
  let d := lpDie l
  let pq := 4 * cellsOf f - creditsOf f
  if !poolTakes s d f then none
  else (allocCells d (l % 128) (cellsOf f) (leafNo l f.cls 0) s).map fun r =>
    let x := nextId r.2
    let e : QEnt := ⟨x.1, d, f, r.1, some l, f.vc, pq, mark, false, 0, 0, 0⟩
    onCore (fun c => { c with heldFrames := c.heldFrames ++ [e] }) (chargePool d f.cls pq x.2)
def countCut (d : Nat) (cut : Bool) (s : State) : State :=
  onDie d (fun x => if cut then { x with cutThrough := inc32 x.cutThrough } else { x with storeFwd := inc32 x.storeFwd }) s
/-- A C1 frame goes to the updraft unit straight after the slice check (R106, R246). -/
def arriveC1 (l : Nat) (f : Frame) (s : State) : Option State :=
  if f.dest ≠ ownCoord s 0xF3 then some (countMisroute (some l) (lose l f s))
  else if !ecrcOk f then some (dropFate l f .ecrc (lose l f s))
  else match objGate s 4 (xGroup f) f with
    | .pass => storeIn l f false (64 * lpDie l + 3, false) (0, 0, 0) true s
    | c => some (failCheck l f c (lose l f s))
/-- Is a table entry invalid: by parity now, or since an earlier detection? Tables: 0 lookup, 1 binding. -/
def entryBad (s : State) (l : Nat) (f : Frame) (par : Option Nat) (table : Nat) : Bool :=
  par == some table || (dieSt s (lpDie l)).badEntries.contains (table, if table = 0 then f.dest >>> 8 else l)
/-- The pipeline from the slice check on; none when the frame is refused under R116. -/
def ingest (l : Nat) (f : Frame) (par : Option Nat) (s : State) : Option State :=
  match sliceGate s l f (entryBad s l f par 1) with
  | .pass =>
    if f.cls = 1 then arriveC1 l f s
    else match police l f s with
      | (none, s) => some (lose l f s)
      | (some m, s) =>
        if holds s l f then storeHeld l f m s
        else match fate s l f (entryBad s l f par 0) with
          | .queue q o vc h =>
            let cut := cutTest s l o vc f
            (storeIn l f m (q, true) (o, vc, h) cut s).map (countCut (lpDie l) cut)
          | .cons k => storeIn l f m (k, false) (0, 0, 0) true s
          | x => some (dropFate l f x (lose l f s))
  | c => some (failCheck l f c (lose l f s))

/-! ### Arrival -/

/-- Where a frame would cut through to, were it good. -/
def cutTo (s : State) (l : Nat) (f : Frame) (par : Option Nat) : Option (Nat × Nat × Nat × Nat) :=
  match sliceGate s l f (entryBad s l f par 1) with
  | .pass =>
    if f.cls = 1 || protoBad l f || (linkOf s l).rxNext != f.seq || holds s l f then none
    else match fate s l f (entryBad s l f par 0) with
      | .queue q o vc h => if cutTest s l o vc f then some (q, o, vc, h) else none
      | _ => none
  | _ => none
/-- Sends on, stomped, a frame that had started to cut through when its `LCRC` failed (Table 5-6). -/
def stompOut (l : Nat) (f : Frame) (x : Nat × Nat × Nat × Nat) (s : State) : State :=
  let o := x.2.1
  match allocCells (lpDie o) (l % 128) (cellsOf f) x.1 s with
  | none => s
  | some (ks, s) =>
    let i := nextId s
    let n := cellsOf f
    let t : TxEnt := ⟨i.1, f, ks, lpDie l, x.1, x.2.2.1, x.2.2.2, false, n, n, some s.mono, true, false, false⟩
    let s := onDie (lpDie o) (fun y => { y with egressUsed := y.egressUsed + n }) (countCut (lpDie l) true i.2)
    let s := onQstat x.1 (fun q => { q with frames := sat 64 (q.frames + 1), bytes := sat 64 (q.bytes + f.len) }) s
    sendEnt o t true (onLink o (fun k => { k with txq := k.txq ++ [t] }) s)
/-- A frame whose `LCRC` fails: dropped, `NAK` sent. -/
def badLcrc (l : Nat) (f : Frame) (par : Option Nat) (s : State) : State :=
  let s := onLink l (fun k => { k with lcrcErr := inc32 k.lcrcErr }) s
  let s := sendNak l (coreReport (lpDie l) 1 s)
  match cutTo s l f par with
  | some x => stompOut l f x s
  | none => s
/-- The link accepts a sequence and acknowledges it (assumption 47). -/
def acceptSeq (l : Nat) (s : State) : State :=
  sendAck l false (onLink l (fun k => { k with rxNext := (k.rxNext + 1) % 4096, nakSent := false, idleFrom := s.mono }) s)
/-- A parity failure of the lookup or binding entry that a frame hits (Table 5-6). -/
def notePar (l : Nat) (f : Frame) (par : Option Nat) (s : State) : State :=
  match par with
  | none => s
  | some t =>
    let e := (t, if t = 0 then f.dest >>> 8 else l)
    coreReport (lpDie l) 2 (onDie (lpDie l) (fun x => { x with
      parity := inc32 x.parity, badEntries := if x.badEntries.contains e then x.badEntries else e :: x.badEntries }) s)
/-- A frame with the sequence expected and its `LCRC` good. -/
def takeRx (l : Nat) (f : Frame) (par : Option Nat) (s : State) : State :=
  if protoBad l f then
    acceptSeq l (lose l f (onLink l (fun k => { k with protoErr := inc32 k.protoErr }) s))
  else match ingest l f par (notePar l f par s) with
    | some s => acceptSeq l s
    | none =>
      let d := lpDie l
      let s := if poolTakes s d f then s else poolTooFull d f.cls s
      sendNak l (onDie d (fun x => { x with roundRefuse := inc32 x.roundRefuse }) s)
def arrive (l : Nat) (f : Frame) (par : Option Nat) (s : State) : State :=
  if !linkUp s l || lpLoc l == 31 || !lanesActive s l then s
  else if !lcrcOk f then badLcrc l f par s
  else
    let s := takeAck l f.ack f.ackValid f.nak s
    let k := linkOf s l
    if k.st ≠ .up then s
    else if f.seq = k.rxNext then takeRx l f par s
    else if seqLe f.seq ((k.rxNext + 4095) % 4096) then
      sendAck l false (onLink l (fun k => { k with dup := inc32 k.dup }) s)
    else sendNak l s
def execFrameArrival (lp : Nat) (f : Frame) (par : Option Nat) (s : State) : Host.Outcome State Fault Refusal :=
  .next (arrive lp f par s)

/-- A store-and-forward frame's last cell is written and its `LCRC` good (R119). -/
def execFrameStored (lp fid : Nat) (s : State) : Host.Outcome State Fault Refusal :=
  .next (onCore (fun c => { c with
    leaf := c.leaf.map fun e => (e.1, e.2.map fun x =>
      if x.id = fid ∧ x.inL = some lp then { x with eligible := true } else x) }) s)

/-! ### The end of a route hold (R155) -/

def ownCells (d owner : Nat) (ks : List Nat) (s : State) : State :=
  forEach ks (fun k => onDie d fun x => { x with cells := mmod cellDflt x.cells k fun c => { c with owner := owner } }) s
/-- A held frame is looked up under the active bank. -/
def placeHeld (e : QEnt) (s : State) : State :=
  match e.inL with
  | none => inject e.die e.frame s
  | some l =>
    match fate s l e.frame false with
    | .queue q o vc h =>
      enqueue e.die q { e with eligible := true, outL := o, outVc := vc, outHops := h } (ownCells e.die q e.cells s)
    | .cons k => onCons k (· ++ [{ e with eligible := true }]) (ownCells e.die (0x100000 + k % 64) e.cells s)
    | x => dropFate l e.frame x (dropEnt e s)
def releaseHold (s : State) : State :=
  let es := s.core.heldFrames
  forEach es placeHeld (onCore (fun c => { c with held := false, holdTicket := none, heldFrames := [] }) s)

end Sys2Proof.Machine
end

