-- ==== Sys2Proof/Machine/Egress.lean ====
section
/-! DEFINITION. Grants and transmission (R113, R121, R122, R136, R164), sources that wait for a pool (R115, R116), and the
detections and clocks of a sail die (R123, R125). -/

set_option Elab.async false

namespace Sys2Proof.Machine

/-! ### Grants -/

/-- The cells of a granted frame as they will cross a spar, numbered in their stream (Table 6-2, R136). -/
def sparCells (src dst l id first : Nat) (f : Frame) (ks : List Nat) : List SparCell :=
  let n := ks.length
  (ks.zipIdx).map fun e =>
    let bytes := min 256 (f.len - 256 * e.2)
    ⟨src, dst, f.cls, (first + e.2) % 65536, 0, 0, e.2 == 0, e.2 + 1 == n, l, (bytes + 63) / 64 - 1, 0, id, e.1, 0⟩
def streamKey (src dst cls : Nat) : Nat := 64 * src + 8 * dst + cls
/-- Counts a grant on its leaf queue (Table 7-5). -/
def countGrant (q : Nat) (f : Frame) (s : State) : State :=
  onQstat q (fun x => { x with frames := sat 64 (x.frames + 1), bytes := sat 64 (x.bytes + f.len) }) s
/-- The egress entry of a queue entry. -/
def txOf (e : QEnt) (q : Nat) (ks : List Nat) (landed : Nat) (s : State) : TxEnt :=
  ⟨e.id, e.frame, ks, e.die, q, e.outVc, e.outHops, e.mark, landed, e.cells.length, if landed = 0 then none else some s.mono,
    false, false, e.inL.isNone⟩
def pushTx (l : Nat) (t : TxEnt) (s : State) : State :=
  onLink l (fun k => { k with txq := k.txq ++ [t] })
    (onDie (lpDie l) (fun x => { x with egressUsed := x.egressUsed + t.cells.length }) s)
/-- Grants the head of a leaf queue (R113): its charge moves to the egress pool, its sender's credits are freed, and for another
die its cells wait for the spars. -/
def grantHead (l q : Nat) (s : State) : Option State :=
  match leafQ s q with
  | [] => none
  | e :: r =>
    let d := lpDie l
    let take := fun (s : State) => countGrant q e.frame (releaseCharge e (onLeaf q (fun _ => r) s))
    if e.die = d then some (pushTx l (txOf e q e.cells e.cells.length s) (take s))
    else (allocCells d (128 + e.die) e.cells.length q s).map fun x =>
      let key := streamKey e.die d e.frame.cls
      let first := mget 0 x.2.core.sseq key
      let s := onCore (fun c => { c with sseq := mset 0 c.sseq key ((first + e.cells.length) % 65536) }) x.2
      let s := pushTx l (txOf e q x.1 0 s) (take s)
      onDie e.die (fun y => { y with launch := y.launch ++ sparCells e.die d l e.id first e.frame e.cells }) s
/-- Starts the frame that the updraft unit offers (R164). -/
def grantUpd (l : Nat) (s : State) : Option State :=
  match mget [] s.core.updTx l with
  | [] => none
  | (f, vc, h) :: r =>
    if linkUp s l && lanesActive s l && creditsOf f ≤ credFree s l vc && (linkOf s l).txq.length < 2048 &&
        !overlapsWindow s l f.len then
      let i := nextId s
      let s := onCore (fun c => { c with updTx := mset [] c.updTx l r }) i.2
      some (pushTx l ⟨i.1, f, [], lpDie l, 0x100000 + 3, vc, h, false, 1, 1, some s.mono, false, false, true⟩ s)
    else none
/-- A leaf queue whose descriptor fails its parity: flushed (Table 5-6). -/
def flushLeaf (q : Nat) (s : State) : State :=
  let es := leafQ s q
  let d := (es.head?.map (·.die)).getD (lpDie (q / 1024))
  let s := forEach es (fun e s => frameLost e.frame (dropEnt e s)) (onCore (fun c => { c with leaf := mdel c.leaf q }) s)
  coreReport d 2 (record 0x06C5 [(1, d), (1, 0), (4, q)] (onDie d (fun x => { x with parity := inc32 x.parity }) s))
/-- One decision of a lane-port's scheduler (R164, R165). -/
def grantNext (l : Nat) (s : State) : State :=
  match grantUpd l s with
  | some s => s
  | none =>
    match svcDecide s l with
    | none => s
    | some (c, p, svc, sub) =>
      match grantHead l (leafNo l c p) s with
      | none => s
      | some s => onCore (fun x => { x with svc := mset arbDflt x.svc l svc, sub := mset arbDflt x.sub (8 * l + c) sub }) s
def execEgressGrant (lp : Nat) (parity : Option Nat) (s : State) : Host.Outcome State Fault Refusal :=
  .next (if !lpExists s lp then s
  else match parity with
    | some q => if q / 1024 = lp then flushLeaf q s else s
    | none => grantNext lp s)

/-! ### Transmission -/

/-- The next granted frame to send: one under way, else the first whose first cell has landed and whose stream has no earlier
frame here (R136). -/
def nextTx (k : Link) : Option TxEnt :=
  match (unsentEnts k).find? (·.started) with
  | some t => some t
  | none => (unsentEnts k).find? fun t => 0 < t.landed &&
      ((unsentEnts k).takeWhile fun u => u.id != t.id).all fun u => !(u.srcDie == t.srcDie && u.frame.cls == t.frame.cls)
def onTx (l id : Nat) (f : TxEnt → TxEnt) (s : State) : State :=
  onLink l (fun k => { k with txq := k.txq.map fun t => if t.id = id then f t else t }) s
/-- A frame that the die generated is generated again: a tile's from its basket, a page by the reel engine, an updraft frame
from its context (Tables 5-6, 10-3). -/
def regenerate (l : Nat) (t : TxEnt) (s : State) : State :=
  match t.frame.typ with
  | 8 => onCore (fun c => { c with updTx := mmod [] c.updTx l (· ++ [(t.frame, t.vc, t.hops)]) }) s
  | 10 => sendSnap (lpDie l) t.frame s
  | _ => inject t.srcDie t.frame s
/-- A cell that fails before the frame's first bit is sent (Table 5-6). -/
def txBad (l : Nat) (t : TxEnt) (k : Nat) (s : State) : State :=
  let d := lpDie l
  let f := t.frame
  let s := onDie d (fun x => { x with cellCrc := inc32 x.cellCrc }) (dropTx l t s)
  let s := frameLost f (coreReport d 1 (record 0x06C3 [(1, d), (4, k), (1, f.cls), (4, f.dest)] s))
  if t.own && (6 ≤ f.typ && f.typ ≤ 8 || f.typ == 10) then regenerate l t s
  else whenS (f.typ == 1 || f.typ == 2 || f.typ == 6 || f.typ == 9) (nack d f 7) s
/-- The egress stage works on the next granted frame: it waits for its cells under `IDLE`, or sends it. `bad` names a cell of
the frame that fails its CRC, or (true) whose state word fails. -/
def transmit (l : Nat) (bad : Option (Nat × Bool)) (s : State) : State :=
  match nextTx (linkOf s l) with
  | none => s
  | some t =>
    match bad with
    | some (i, word) =>
      let k := t.cells.getD i 0
      let s := whenS (word && i < t.cells.length) (retireCell (lpDie l) k) s
      if i = 0 ∧ t.started = false then txBad l t k s
      else coreReport (lpDie l) 1 (frameLost t.frame (sendEnt l t true s))
    | none =>
      if t.total ≤ t.landed then sendEnt l t false s
      else
        let x := 8 * lpDie l + t.srcDie
        let s := onCore (fun c => { c with spars := mmod sparDflt c.spars x fun p => { p with underrun := inc32 p.underrun } }) s
        onTx l t.id (fun t => { t with started := true }) s
def execFrameTransmit (lp : Nat) (bad : Option (Nat × Bool)) (s : State) : Host.Outcome State Fault Refusal :=
  .next (if linkUp s lp && lanesActive s lp then transmit lp bad s else s)
/-- 1 µs after its first cell landed, a frame still incomplete is discarded, or completed stomped (R136). -/
def execPartialFrameTimeout (lp fid : Nat) (s : State) : Host.Outcome State Fault Refusal :=
  .next (match (unsentEnts (linkOf s lp)).find? (fun t => t.id == fid) with
    | none => s
    | some t =>
      if t.firstAt.isNone || t.total ≤ t.landed then s
      else if t.started && linkUp s lp then frameLost t.frame (sendEnt lp t true s)
      else
        frameLost t.frame (onDie (lpDie lp) (fun x => { x with partialDiscard := inc32 x.partialDiscard }) (dropTx lp t s)))

/-! ### Sources that wait for a pool (R115, R116) -/

def roomNow (s : State) (d : Nat) (f : Frame) : Bool := 4 * cellsOf f ≤ poolRoom s d f.cls && !sourcesStop s d f.cls
/-- Places a frame that waited: on the lane-port it names, or by the lookup. -/
def placeWait (d : Nat) (w : Waiting) (s : State) : Option State :=
  match w.outs with
  | (l, vc, h) :: _ => storeGen d w.frame (leafNo l w.frame.cls 0, true) (l, vc, h) s
  | [] =>
    if s.core.held && otherRack s w.frame && w.frame.cls != 1 then
      some (onCore (fun c => { c with
        heldFrames := c.heldFrames ++ [⟨0, d, w.frame, [], none, 0, 0, false, false, 0, 0, 0⟩] }) s)
    else placeGen d w.frame s
def restartWaits : Nat → Nat → Nat → State → State
  | 0, _, _, s => s
  | n + 1, d, c, s =>
    match (dieSt s d).waits.find? fun w => w.frame.cls == c with
    | none => s
    | some w =>
      if roomNow s d w.frame then
        match placeWait d w (onDie d (fun x => { x with waits := x.waits.erase w }) s) with
        | some s => restartWaits n d c s
        | none => s
      else s
/-- Sequences whose results waited for a pool are done once the results have left (R219, R223). -/
def settleSeqs (s : State) : State :=
  forEach (enabledGroups s) (fun g s =>
    forEach (((groupOf s g).seqs.filter fun e => e.2.2.dstate == 1).map (·.2.1)) (checkDone g) s) s
def execPoolRoomAvailable (die cls : Nat) (s : State) : Host.Outcome State Fault Refusal :=
  .next (if dieFitted s die ∧ cls < 8 ∧ ((dieSt s die).waits.any fun w => w.frame.cls == cls) then
    settleSeqs (restartWaits (dieSt s die).waits.length die cls (relevel die cls s))
  else s)

/-! ### Detections (Table 5-6) -/

/-- The word of the free bitmap that holds a cell's bit, rebuilt from the state words. -/
def rebuildWord (d cell : Nat) (s : State) : State :=
  let w := cell / 64
  coreReport d 2 (onDie d (fun x => { x with
    parity := inc32 x.parity,
    cells := (x.cells.map fun e => (e.1, if e.1 / 64 = w then { e.2 with mapFree := !e.2.used } else e.2)).filter
      fun e => e.2 != cellDflt }) s)
/-- The frame that holds a retired cell is treated as after a cell CRC failure. -/
def dropHolder (d cell : Nat) (s : State) : State :=
  let mine := fun (e : QEnt) => e.die == d && e.cells.contains cell
  match (s.core.leaf ++ s.core.cons).findSome? fun e => e.2.find? mine with
  | some e =>
    cellBad e (onCore (fun c => { c with
      leaf := (c.leaf.map fun x => (x.1, x.2.filter fun y => !mine y)).filter fun x => !x.2.isEmpty,
      cons := (c.cons.map fun x => (x.1, x.2.filter fun y => !mine y)).filter fun x => !x.2.isEmpty }) s)
  | none => s
def execFreeStoreAudit (die cell : Nat) (agree mapOk : Bool) (s : State) : Host.Outcome State Fault Refusal :=
  .next (if !dieFitted s die || cellTotal ≤ cell || !(dieSt s die).clockOn then s
  else
    let s := whenS (!mapOk) (rebuildWord die cell) s
    if agree then s
    else
      let used := (mget cellDflt (dieSt s die).cells cell).used
      let s := onDie die (fun x => { x with parity := inc32 x.parity }) (retireCell die cell s)
      if used then dropHolder die cell s else s)
def execTableEntryRewrite (die table entry : Nat) (s : State) : Host.Outcome State Fault Refusal :=
  .next (if s.sys.keelLost then s
  else onDie die (fun x => { x with badEntries := x.badEntries.filter fun e => e != (table, entry) }) s)

/-! ### The fast clock (R125) -/

/-- Is a tile gated, or without power? -/
def tileDown (s : State) (t : Nat) : Bool :=
  match (tileOf s t).st with | .gated => true | .isolated => true | _ => false
def mayStop (s : State) (d : Nat) : Bool :=
  (List.range 128).all (fun i => (laneOf s (128 * d + i)).power == .off) &&
    (dieSt s d).cells.all (fun e => !e.2.used || e.2.retired) &&
    (!s.id.tiles || (List.range 32).all fun t => tileDown s (32 * d + t)) &&
    (List.range 4).all (fun k => mget 0 s.mem.selfRefresh (4 * d + k) == 1) && !namesDie s d
def execDieClockStop (die : Nat) (s : State) : Host.Outcome State Fault Refusal :=
  .next (if dieFitted s die && mayStop s die then onDie die (fun x => { x with clockOn := false }) s else s)
def execDieClockLiftDone (die : Nat) (s : State) : Host.Outcome State Fault Refusal :=
  .next (if dieFitted s die then onDie die (fun x => { x with clockOn := true }) s else s)

end Sys2Proof.Machine
end

