-- ==== Sys2Proof/Machine/Spars.lean ====
section
/-! DEFINITION. Spars (R129 to R138): slots and ranks, deflection, the transit store, landing, spars down and up. -/

set_option Elab.async false

namespace Sys2Proof.Machine

/-! ### Topology and slots (R129, R130, R138) -/

/-- Is the spar between two dies short (Table 6-1)? -/
def sparShort (n x y : Nat) : Bool :=
  if n = 8 then
    (x / 4 == y / 4 && (x % 4 + 1 == y % 4 || y % 4 + 1 == x % 4)) || x % 4 == y % 4
  else if n = 4 then x / 2 == y / 2 || x % 2 == y % 2
  else true
/-- F cycles from launch to landing. -/
def sparTime (n x y : Nat) : Nat := if sparShort n x y then 6 else 14
/-- Do the spars stand in their control positions? -/
def inControl (s : State) : Bool := 25 ≤ s.mono % 28
def sparReady (s : State) (x y : Nat) : Bool :=
  x != y && dieUsable s y && dieUsable s x && (dieSt s y).clockOn && (sparOf s x y).st == 1
/-- Slots of a spar that an open window reserves. -/
def slotsReserved (s : State) (x y : Nat) : Nat :=
  countWhere s.sched.windows fun w => w.kind == 1 && w.a == x && w.b == y && s.mono < w.until_
/-- Free slots of each outgoing spar of a die, before any cell. -/
def slotsOf (s : State) (x : Nat) : List Nat :=
  (List.range 8).map fun y => if inControl s || !sparReady s x y then 0 else 2 - slotsReserved s x y
def onSpar (x y : Nat) (f : Spar → Spar) (s : State) : State :=
  onCore (fun c => { c with spars := mmod sparDflt c.spars (8 * x + y) f }) s

/-! ### Ranks (R132, Table 6-3) -/

/-- The higher `AGE` first, then the lower `SRC_DIE`, then the lower `SSEQ`. -/
def cellBefore (a b : SparCell) : Bool :=
  b.age < a.age || (a.age == b.age && (a.srcDie < b.srcDie || (a.srcDie == b.srcDie && a.sseq < b.sseq)))
def sortCells (l : List SparCell) : List SparCell :=
  l.foldl (fun r c => (r.takeWhile fun x => !cellBefore c x) ++ c :: r.dropWhile fun x => !cellBefore c x) []

/-- A launch from die x toward die y. -/
def launchCell (x y : Nat) (deflected : Bool) (c : SparCell) (s : State) : State :=
  let c := { c with visited := c.visited ||| (1 <<< x), shop := if deflected then c.shop + 1 else c.shop }
  let s := onSpar x y (fun p => { p with
    sent := inc32 p.sent, deflected := if deflected then inc32 p.deflected else p.deflected }) s
  onDie x (fun k => { k with flight := mmod [] k.flight y (· ++ [c]) }) s
/-- The slots still free, the cells that won none, and the state. -/
abbrev Slots := List Nat × List SparCell × State
/-- Offers each cell a slot on its direct spar. -/
def directAll (x : Nat) (cs : List SparCell) (a : List Nat × State) : Slots :=
  cs.foldl (fun r c =>
    if 0 < r.1.getD c.dstDie 0 then (lmod r.1 c.dstDie (· - 1), r.2.1, launchCell x c.dstDie false c r.2.2)
    else (r.1, r.2.1 ++ [c], r.2.2)) (a.1, [], a.2)
/-- The die a cell is deflected to (R133). `closed`: spars on which local cells may not launch. -/
def deflectTo (s : State) (x : Nat) (free : List Nat) (closed : Nat → Bool) (c : SparCell) : Option Nat :=
  let n := s.id.n
  ((List.range n).map fun i => (c.dstDie + 1 + i) % n).find? fun y =>
    y != x && y != c.dstDie && !c.visited.testBit y && 0 < free.getD y 0 && !closed y
/-- Holds a transit cell in the store, or discards it when the store is full (R134). -/
def holdCell (x : Nat) (c : SparCell) (s : State) : State :=
  if (dieSt s x).store.length < 64 then onDie x (fun d => { d with store := d.store ++ [c] }) s
  else
    let s := onDie x (fun d => { d with transitDrop := inc32 d.transitDrop }) s
    report (srcId 1 x) 0xB (record 0x0486 [(1, x), (1, c.srcDie), (1, c.dstDie), (1, c.cls)] s)
/-- A transit cell that won no direct slot: deflected, else held. -/
def passTransit (x : Nat) (c : SparCell) (a : List Nat × State) : List Nat × State :=
  if c.shop = 2 ∨ inControl a.2 then (a.1, holdCell x c a.2)
  else match deflectTo a.2 x a.1 (fun _ => false) c with
    | some y => (lmod a.1 y (· - 1), launchCell x y true c a.2)
    | none => (a.1, holdCell x c a.2)
/-- Does the enabled image place a local cell (R138)? -/
def cellPlaced (s : State) (c : SparCell) : Bool :=
  c.cls == 2 && (linkOf s c.lanePort).txq.any fun t => t.id == c.frameId && placedC2 s t.frame
/-- Placed cells leave in the reserved slots of their spar, in order. -/
def launchPlaced (x : Nat) (cs : List SparCell) (s : State) : List SparCell × State :=
  let quota := (List.range 8).map fun y => if inControl s || !sparReady s x y then 0 else slotsReserved s x y
  let r := directAll x cs (quota, s)
  (r.2.1, r.2.2)
/-- A local cell deflected after two cycles of waiting (rank 5), else kept. -/
def passLocal (x : Nat) (c : SparCell) (a : Slots) : Slots :=
  let closed := fun y => (dieSt a.2.2 x).store.any fun t => t.dstDie == y
  if 2 ≤ c.waited then
    match deflectTo a.2.2 x a.1 closed c with
    | some y => (lmod a.1 y (· - 1), a.2.1, launchCell x y true c a.2.2)
    | none => (a.1, a.2.1 ++ [c], a.2.2)
  else (a.1, a.2.1 ++ [c], a.2.2)
def aged (c : SparCell) : SparCell := { c with age := min 127 (c.age + 1) }
/-- One F cycle of a die's outgoing spars. -/
def fillSlots (x : Nat) (s : State) : State :=
  let d := dieSt s x
  let s := onDie x (fun d => { d with store := [], landing := [], launch := [] }) s
  let r0 := directAll x (sortCells (d.store.map aged)) (slotsOf s x, s)
  let s := onDie x (fun y => { y with store := r0.2.1 }) r0.2.2
  let landing := d.landing.map aged
  let r1 := directAll x (sortCells (landing.filter fun c => c.shop == 2)) (r0.1, s)
  let r2 := directAll x (sortCells (landing.filter fun c => c.shop != 2)) (r1.1, r1.2.2)
  let r3 := (sortCells (r1.2.1 ++ r2.2.1)).foldl (fun a c => passTransit x c a) (r2.1, r2.2.2)
  let r4 := launchPlaced x (d.launch.filter (cellPlaced s)) r3.2
  let held := fun (y : Nat) => (dieSt r4.2 x).store.any fun t => t.dstDie == y
  let mine := sortCells (d.launch.filter fun c => !cellPlaced s c)
  let r5 := directAll x (mine.filter fun c => !held c.dstDie) (r3.1, r4.2)
  let wait := sortCells (r5.2.1 ++ mine.filter fun c => held c.dstDie)
  let r6 := wait.foldl (fun a c => passLocal x { c with waited := c.waited + 1 } a) (r5.1, [], r5.2.2)
  onDie x (fun y => { y with launch := r4.1 ++ r6.2.1 }) r6.2.2
def execSparSlotFill (die : Nat) (s : State) : Host.Outcome State Fault Refusal :=
  .next (if dieUsable s die && (dieSt s die).clockOn then fillSlots die s else s)

/-! ### Landing (R136, R137) -/

/-- A direction's failure: counted, reported, and, the sixteenth within 1 ms, the spar taken down both ways. -/
def sparFail (die far : Nat) (s : State) : State :=
  let s := onSpar die far (fun p => { p with
    hcrcErr := sat 16 (p.hcrcErr + 1), fails := s.mono :: (p.fails.filter fun t => s.mono < t + cycMs 1) }) s
  let s := report (srcId 2 (8 * far + die)) 1 s
  if 16 ≤ (sparOf s die far).fails.length ∧ (sparOf s die far).st ≠ 2 then
    let s := onSpar far die (fun p => { p with st := 2 }) (onSpar die far (fun p => { p with st := 2, fails := [] }) s)
    record 0x0481 [(1, min die far), (1, max die far)] s
  else s
/-- The cell is written to the place its frame reserved; the ingress die frees its copy. -/
def landCell (c : SparCell) (s : State) : State :=
  let s := freeCell c.srcDie c.cell s
  onLink c.lanePort (fun k => { k with
    txq := k.txq.map fun t =>
      if t.id = c.frameId then { t with landed := t.landed + 1, firstAt := some (t.firstAt.getD s.mono) } else t }) s
def execSparCellLand (die far : Nat) (hcrcOk : Bool) (s : State) : Host.Outcome State Fault Refusal :=
  .next (match mget [] (dieSt s far).flight die with
    | [] => s
    | c :: r =>
      let s := onDie far (fun k => { k with flight := mset [] k.flight die r }) s
      if !hcrcOk then sparFail die far (freeCell c.srcDie c.cell s)
      else
        let c := { c with age := min 127 (c.age + sparTime s.id.n far die) }
        if c.dstDie = die then landCell c s else onDie die (fun d => { d with landing := d.landing ++ [c] }) s)

/-! ### Down and up (R137): state 4 is retrained, waiting for 1 ms without a failure -/

/-- Is the spar between two dies isolated? -/
def sparHeld (s : State) (x y : Nat) : Bool := isIsolated s (srcId 2 (8 * min x y + max x y))
def execSparRetrain (die far : Nat) (ok : Bool) (s : State) : Host.Outcome State Fault Refusal :=
  .next (if (sparOf s die far).st = 2 && ok && dieUsable s die && dieUsable s far && !sparHeld s die far then
    onSpar far die (fun p => { p with st := 4, fails := [] }) (onSpar die far (fun p => { p with st := 4, fails := [] }) s)
  else s)
def execSparUp (die far : Nat) (s : State) : Host.Outcome State Fault Refusal :=
  .next (if (sparOf s die far).st = 4 && (sparOf s die far).fails.isEmpty && (sparOf s far die).fails.isEmpty then
    record 0x0482 [(1, min die far), (1, max die far)]
      (onSpar far die (fun p => { p with st := 1 }) (onSpar die far (fun p => { p with st := 1 }) s))
  else s)
/-- Cells between a die that leaves and the others are gone (R126); the dies that stay free their copies. -/
def dropSpars (d : Nat) (s : State) : State :=
  let touch := fun (c : SparCell) => c.dstDie == d || c.srcDie == d
  let s := forEach (dies s) (fun y s =>
    let x := dieSt s y
    let gone := (x.launch ++ x.store ++ x.landing).filter touch ++ mget [] x.flight d
    let s := forEach (gone.filter fun c => c.srcDie != d) (fun c => freeCell c.srcDie c.cell) s
    onDie y (fun x => { x with
      launch := x.launch.filter fun c => !touch c, store := x.store.filter fun c => !touch c,
      landing := x.landing.filter fun c => !touch c, flight := mdel x.flight d }) s) s
  onDie d (fun x => { x with launch := [], store := [], landing := [], flight := [] }) s

end Sys2Proof.Machine
end

