-- ==== Sys2Proof/Machine/Routing.lean ====
section
/-! DEFINITION. Routing commands, holds, commits and congestion maps (R153 to R159). -/

set_option Elab.async false

namespace Sys2Proof.Machine

/-! ### ROUTE.WRITE (R153, Tables 6-10, 6-12) -/

/-- The parameter bytes a section assigns: `[from, to)` ranges. -/
def sectionBytes (sec count : Nat) : List (Nat × Nat) :=
  match sec with
  | 0 => [(0, 1), (4, 11)]
  | 1 => [(0, 2), (4, 8)]
  | _ => [(0, 4), (0x10, 0x10 + count)]
/-- Is a byte that the section leaves reserved non-zero? -/
def sectionRsvd (q : Req) (sec count : Nat) : Bool :=
  (List.range 48).any fun i => prm q i 1 != 0 && !(sectionBytes sec count).any fun r => r.1 ≤ i && i < r.2
def routeGeo (q : Req) : List Nat := (List.range 7).map fun i => prm q (4 + i) 1
/-- Sizes 1 to 16, positions and date lines below them, `HOP_LIMIT` 1 to 30. -/
def geoBad (g : List Nat) : Bool :=
  let v := fun i => g.getD i 0
  v 2 == 0 || 16 < v 2 || v 3 == 0 || 16 < v 3 || v 2 ≤ v 0 || v 3 ≤ v 1 || v 2 ≤ v 4 || v 3 ≤ v 5 || v 6 == 0 || 30 < v 6
def spreadPorts (q : Req) : List Nat := (List.range (prm q 3 1)).map fun i => prm q (16 + i) 1
def chkRouteWrite (q : Req) (s : State) : Option Nat :=
  let sec := prm q 0 1
  match sec with
  | 0 => firstOf [refuseIf (sectionRsvd q 0 0) 0x0007, refuseIf (geoBad (routeGeo q)) 0x0401]
  | 1 => refuseIf (sectionRsvd q 1 0 || 1 < prm q 1 1) 0x0007
  | 2 =>
    let n := prm q 3 1
    firstOf [refuseIf (n == 0 || 32 < n || 47 < prm q 2 1 || 3 < prm q 1 1 || sectionRsvd q 2 n) 0x0007,
      refuseIf ((spreadPorts q).any fun p => !portFitted s p) 0x0003,
      refuseIf (48 < prm q 2 1 + n) 0x0401,
      refuseIf ((spreadPorts q).any fun p => !isScaleOut (portLoc p) || scaleOutDir (portLoc p) != prm q 1 1) 0x0402]
  | _ => some 0x0007
/-- The shadow bank after a write. -/
def writeBank (q : Req) (n : Nat) (b : Bank) : Bank :=
  let v := fun i => prm q (4 + i) 1
  match prm q 0 1 with
  | 0 => { b with ownA := v 0, ownB := v 1, sizeA := v 2, sizeB := v 3, dateA := v 4, dateB := v 5, hopLimit := v 6 }
  | 1 =>
    let dirs := (List.range 16).foldl (fun m x => mset 0 m x ((prm q 4 4 >>> (2 * x)) % 4)) []
    if prm q 1 1 = 0 then { b with dirA := dirs } else { b with dirB := dirs }
  | _ =>
    let d := prm q 1 1
    { b with
      spread := ((spreadPorts q).zipIdx).foldl (fun m e =>
        mset (spreadDflt n d (prm q 2 1 + e.2)) m (64 * d + prm q 2 1 + e.2) e.1) b.spread }
def execRouteWrite (q : Req) (s : State) : Host.Outcome State Fault Refusal :=
  .next (plain 0x0401 (chkRouteWrite q s)
    (act fun s => modSet (fun t => { t with shadow := writeBank q s.id.n t.shadow }) s) q s)

/-! ### ROUTE.COMMIT (R154, R157) -/

def spreadOnly (a b : Bank) : Bool := { a with spread := [] } == { b with spread := [] }
def ownOrSize (a b : Bank) : Bool := a.ownA != b.ownA || a.ownB != b.ownB || a.sizeA != b.sizeA || a.sizeB != b.sizeB
def scaleOutLive (s : State) : Bool := (List.range (32 * s.id.n)).any fun p => isScaleOut (portLoc p) && (portOf s p).admin
def commitRefusal (s : State) : Option Nat :=
  firstOf [refuseIf (schedEnabled s) 0x0405,
    refuseIf (!spreadOnly s.set.active s.set.shadow && !s.core.held) 0x0403,
    refuseIf (ownOrSize s.set.active s.set.shadow && scaleOutLive s) 0x0406]
def chkRouteCommit (q : Req) (s : State) : Option Nat :=
  firstOf [refuseIf (1000 < prm q 4 2) 0x0007, refuseIf (!(begunOps s 0x0402).isEmpty) 0x0006, commitRefusal s]
def execRouteCommit (q : Req) (s : State) : Host.Outcome State Fault Refusal :=
  .next (longOp 0x0402 2 true (chkRouteCommit q s) q s)
/-- The fields in which two banks differ: bits 0 to 6 the geometry in `ROUTE.WRITE` order, 7 and 8 the direction tables, 9 the
spread tables (assumption 67). -/
def changedFields (a b : Bank) : Nat :=
  (List.range 7).foldl (fun n i => n + bit ((bankGeo a).getD i 0 != (bankGeo b).getD i 0) i) 0 + bit (a.dirA != b.dirA) 7 +
    bit (a.dirB != b.dirB) 8 + bit (a.spread != b.spread) 9
/-- The shadow bank becomes active on every die. -/
def commitBank (tk : Nat) (s : State) : State :=
  let m := changedFields s.set.active s.set.shadow
  let s := modSet (fun t => { t with active := t.shadow }) s
  let s := onCore (fun c => { c with commit := none, commits := inc32 c.commits }) s
  ticketDone tk (record 0x0485 [(4, m)] s)
/-- A commit starts: at once when only spread tables change, else it waits for the drain. -/
def startCommit (t : Ticket) (s : State) : State :=
  match commitRefusal s with
  | some r => ticketFail t.ticket r s
  | none =>
    if spreadOnly s.set.active s.set.shadow then commitBank t.ticket s
    else
      let ms := rdLe t.param 4 2
      onCore (fun c => { c with commit := some (t.ticket, s.mono + cycMs (if ms = 0 then 10 else ms)) }) s
/-- Is nothing queued for, or unacknowledged on, any scale-out lane-port? -/
def scaleOutIdle (s : State) : Bool :=
  (s.core.leaf.all fun e => e.2.isEmpty || !isScaleOut (lpLoc (e.1 / 1024))) &&
    (s.net.links.all fun e => e.2.txq.isEmpty || !isScaleOut (lpLoc e.1)) &&
    s.core.updTx.all fun e => e.2.isEmpty || !isScaleOut (lpLoc e.1)
def execCommitDrained (s : State) : Host.Outcome State Fault Refusal :=
  .next (match s.core.commit with
    | some (tk, _) => if scaleOutIdle s then commitBank tk s else s
    | none => s)
def execCommitDrainTimeout (s : State) : Host.Outcome State Fault Refusal :=
  .next (match s.core.commit with
    | some (tk, _) => ticketFail tk 0x0404 (onCore (fun c => { c with commit := none }) s)
    | none => s)

/-! ### ROUTE.HOLD and ROUTE.RELEASE (R155) -/

def chkRouteHold (s : State) : Option Nat := refuseIf (s.core.held || !(liveOps s 0x0403).isEmpty) 0x0005
def execRouteHold (q : Req) (s : State) : Host.Outcome State Fault Refusal :=
  .next (longOp 0x0403 2 true (chkRouteHold s) q s)
def startHold (t : Ticket) (s : State) : State := onCore (fun c => { c with held := true, holdTicket := some t.ticket }) s
def execHoldDrained (s : State) : Host.Outcome State Fault Refusal :=
  .next (match s.core.holdTicket with
    | some tk =>
      if s.core.held && scaleOutIdle s then ticketDone tk (onCore (fun c => { c with holdTicket := none }) s) else s
    | none => s)
/-- Ends the hold; one that had not drained is cancelled. -/
def endHold (s : State) : State :=
  let s' := releaseHold s
  match s.core.holdTicket with
  | some tk => endTicket tk .cancelled .cancelled 0 s'
  | none => s'
def execRouteRelease (q : Req) (s : State) : Host.Outcome State Fault Refusal :=
  .next (plain 0x0404 (refuseIf (!s.core.held) 0x0005) (act endHold) q s)

/-! ### Queries and the congestion map -/

def chkRouteQuery (q : Req) : Option Nat :=
  let sub := prm q 2 1
  refuseIf (1 < prm q 0 1 || (match prm q 1 1 with | 0 => sub != 0 | 1 => 1 < sub | 2 => 3 < sub | _ => true)) 0x0007
def execRouteQuery (q : Req) (s : State) : Host.Outcome State Fault Refusal :=
  .next (plain 0x0405 (chkRouteQuery q) (ans fun s => qRoute s (prm q 0 1) (prm q 1 1) (prm q 2 1)) q s)
/-- The buffer holds at least the map. -/
def mapRoom (q : Req) : Bool := !onHostRing q || 176 ≤ prm q 8 4
def execRouteCongmap (q : Req) (s : State) : Host.Outcome State Fault Refusal :=
  .next (runCommand (cat 0x0406) (mapRoom q) 0 none [] (ans qCongmap) q s)
def execRouteCmapcfg (q : Req) (s : State) : Host.Outcome State Fault Refusal :=
  .next (plain 0x0407 (refuseIf (prm q 0 4 < 10 || 10000 < prm q 0 4) 0x0007)
    (act (modSet fun t => { t with cmapUs := prm q 0 4 })) q s)
/-- Clears the counters that `ROUTE.SPARSTATS` reports. -/
def clearSpars (d : Nat) (s : State) : State :=
  let s := forEach (List.range 8) (fun y => onSpar d y fun p => { p with sent := 0, deflected := 0, hcrcErr := 0, underrun := 0 }) s
  onDie d (fun x => { x with transitDrop := 0 }) s
def execRouteSparstats (q : Req) (s : State) : Host.Outcome State Fault Refusal :=
  let d := prm q 0 1
  .next (plain 0x0408 (dieChk s d)
    (fun s => (whenS ((prm q 1 1).testBit 0) (clearSpars d) s, qSpars s d)) q s)

/-- The greatest leaf-queue depth of a port now. -/
def depthNow (s : State) (p : Nat) : Nat :=
  s.core.leaf.foldl (fun a e => if e.1 / 4096 = p then max a (queueDepth s e.1) else a) 0
/-- The map of the period that ends (Table 6-9). -/
def congMap (s : State) : List Byte :=
  let lvl := (List.range 8).flatMap fun d => (List.range 8).map fun c =>
    (BitVec.ofNat 8 (if dieUsable s d then (dieSt s d).peakLvl.getD c 0 else 0) : Byte)
  let dep := (List.range 8).flatMap fun d => (List.range 12).map fun i =>
    (BitVec.ofNat 8 (if dieUsable s d then min 255 (mget 0 s.core.peakDepth (32 * d + 18 + i) / 64) else 0) : Byte)
  leBytes 8 (ftNs s) ++ leBytes 4 s.core.mapSeq ++ leBytes 4 0 ++ lvl ++ dep
/-- The peaks of the next period start at the present figures. -/
def restartPeaks (s : State) : State :=
  let s := forEach (dies s) (fun d => fun s => onDie d (fun x => { x with peakLvl := (List.range 8).map (levelOf s d) }) s) s
  let ps := (List.range (32 * s.id.n)).filter fun p => isScaleOut (portLoc p)
  let m := ps.foldl (fun m p => mset 0 m p (depthNow s p)) []
  onCore (fun c => { c with peakDepth := m }) s
def execCongestionMapPeriod (s : State) : Host.Outcome State Fault Refusal :=
  .next (if running s && !s.sys.keelLost then
    let m := congMap s
    restartPeaks (onCore (fun c => { c with map := m, mapSeq := (c.mapSeq + 1) % 2 ^ 32 }) s)
  else s)

end Sys2Proof.Machine
end

