-- ==== Sys2Proof/Machine/Qos.lean ====
section
/-! DEFINITION. Commands of the switch core and of chapter 07 (R127, R128, R166 to R183), and the takeover of gate lists. -/

set_option Elab.async false

namespace Sys2Proof.Machine

/-! ### Pools and marks (Tables 5-7, 5-9) -/

/-- The dies that a `DIE` field names: 0xFF every fitted die. -/
def dieField (s : State) (d : Nat) : List Nat := if d = 0xFF then dies s else [d]
def dieFieldChk (s : State) (d : Nat) : Option Nat := if d = 0xFF then none else dieChk s d
def poolShares (q : Req) : List Nat := (List.range 8).map fun c => prm q (4 + c) 1
/-- The settings a `QOS.POOLCFG` gives a die. -/
def poolRec (q : Req) (old : PoolCfg) : PoolCfg :=
  if (prm q 1 1).testBit 0 then poolDflt
  else ⟨poolShares q, prm q 12 1, prm q 13 1, prm q 14 1, prm q 15 1, if prm q 2 2 = 0 then old.egress else 1024 * prm q 2 2⟩
def setPool (q : Req) (d : Nat) (s : State) : State :=
  modSet (fun t => { t with pools := mmod poolDflt t.pools d (poolRec q) }) s
def sharesBad (p : PoolCfg) : Bool := p.share.foldl (· + ·) 0 != 100 || p.share.getD 1 0 != 0
def thresholdsBad (p : PoolCfg) : Bool := !(0 < p.w1 && p.w1 < p.w2 && p.w2 < p.w3 && p.w3 < 100 && p.hyst < p.w1)
def chkQosPoolcfg (q : Req) (s : State) : Option Nat :=
  let ds := dieField s (prm q 0 1)
  let live := ds.filter (dieUsable s)
  let dflt := (prm q 1 1).testBit 0
  firstOf [refuseIf (!dflt && prm q 2 2 != 0 && (prm q 2 2 < 16 || 64 < prm q 2 2)) 0x0007, dieFieldChk s (prm q 0 1),
    refuseIf (ds.any (namesDie s)) 0x0005,
    refuseIf (sharesBad (poolRec q poolDflt)) 0x0640, refuseIf (thresholdsBad (poolRec q poolDflt)) 0x0641,
    firstOf (live.map fun d => poolChk d (setPool q d s))]
def execQosPoolcfg (q : Req) (s : State) : Host.Outcome State Fault Refusal :=
  .next (plain 0x0640 (chkQosPoolcfg q s)
    (act fun s => forEach (dieField s (prm q 0 1)) (fun d s => relevelDie d (setPool q d s)) s) q s)
/-- Clears the counters of `QOS.POOLQUERY` (Table 5-8). -/
def clearPool (d : Nat) (s : State) : State :=
  onDie d (fun x => { x with
    roundRefuse := 0, w3Entries := 0, cutThrough := 0, storeFwd := 0, cellCrc := 0, stomped := 0, parity := 0, doubleFree := 0,
    retired := 0, partialDiscard := 0 }) s
def execQosPoolquery (q : Req) (s : State) : Host.Outcome State Fault Refusal :=
  let d := prm q 0 1
  .next (plain 0x0641 (dieChk s d) (fun s => (whenS ((prm q 1 1).testBit 0) (clearPool d) s, qPool s d)) q s)

/-- Dies whose queues a range names, flagship numbering (R160). -/
def queueDies (first count : Nat) : List Nat :=
  (List.range 8).filter fun d => first < 131072 * (d + 1) && 131072 * d < first + count
def queueChk (s : State) (first count : Nat) : Option Nat :=
  let ds := queueDies first count
  firstOf [refuseIf (1048576 < first + count) 0x0007, refuseIf (ds.any fun d => !dieFitted s d) 0x0003,
    refuseIf (ds.any fun d => !dieUsable s d) 0x0005]
/-- Does a range of queues meet local ports 18 to 31? -/
def ownerQueues (first count : Nat) : Bool :=
  (List.range 8).any fun d => first < 131072 * (d + 1) && 131072 * d + 73728 < first + count
def chkQosMarkcfg (q : Req) (s : State) : Option Nat :=
  let m := prm q 8 4
  firstOf [refuseIf (prm q 4 4 == 0 || m == 0 || (524288 < m && m != 0xFFFFFFFF)) 0x0007, queueChk s (prm q 0 4) (prm q 4 4)]
/-- A setting for a range of keys; the default lists nothing. -/
def setRange (d : Nat) (m : Map Nat) (first count v : Nat) : Map Nat :=
  (m.filter fun e => e.1 < first) ++ (if v = d then [] else (List.range count).map fun i => (first + i, v)) ++
    m.filter fun e => first + count ≤ e.1
def execQosMarkcfg (q : Req) (s : State) : Host.Outcome State Fault Refusal :=
  .next (runCommand (cat 0x0642) true (if ownerQueues (prm q 0 4) (prm q 4 4) then 2 else 1) (chkQosMarkcfg q s) []
    (act (modSet fun t => { t with marks := setRange 64 t.marks (prm q 0 4) (prm q 4 4) (prm q 8 4) })) q s)

/-! ### Lane-ports of chapter 07 (R183) -/

def lpRange (first count : Nat) : List Nat := if 1024 < first + count then [] else (List.range count).map (first + ·)
def lpRangeChk (s : State) (first count : Nat) : Option Nat :=
  let ls := lpRange first count
  firstOf [refuseIf (count == 0 || 1024 < first + count) 0x0007, refuseIf (ls.any fun l => laneNoChk s l == some 0x0003) 0x0003,
    refuseIf (ls.any fun l => (laneNoChk s l).isSome) 0x0005]
/-- OPERATOR, or OWNER when a lane-port belongs to local ports 18 to 31. -/
def qosPriv (first count : Nat) : Nat := if (List.range 1024).any (fun l => first ≤ l && l < first + count && !isScaleUp (lpLoc l)) then 2 else 1
/-- Is an object of the lane-port being rebound (R393)? -/
def lpRebinding (s : State) (l : Nat) : Bool :=
  s.net.binds.any fun b =>
    (b.kind == 1 && b.first ≤ l && l < b.first + b.count) ||
      (b.kind == 2 && b.first ≤ 128 * l + 127 && 128 * l < b.first + b.count)
def onQos (f : QosCfg → QosCfg) (s : State) : State := modSet (fun t => { t with qos := f t.qos }) s
/-- A settings command on lane-ports: range, units, rebinding, and the enabled image. -/
def lpSetChk (s : State) (first count : Nat) (fieldsBad fixed : Bool) (own : Option Nat) : Option Nat :=
  let ls := lpRange first count
  firstOf [refuseIf fieldsBad 0x0007, lpRangeChk s first count, refuseIf (ls.any (lpRebinding s)) 0x0006,
    refuseIf fixed 0x0601, refuseIf (ls.any (namesLp s)) 0x0005, own]

def chkQosServicecfg (q : Req) (s : State) : Option Nat :=
  let c := prm q 4 1
  lpSetChk s (prm q 0 2) (prm q 2 2) (7 < c || prm q 5 1 == 0 || 3 < prm q 5 1 || prm q 6 1 == 0) (c < 2) none
def execQosServicecfg (q : Req) (s : State) : Host.Outcome State Fault Refusal :=
  let c := prm q 4 1
  .next (runCommand (cat 0x0601) true (qosPriv (prm q 0 2) (prm q 2 2)) (chkQosServicecfg q s) []
    (act fun s => forEach (lpRange (prm q 0 2) (prm q 2 2)) (fun l => onQos fun x => { x with
      prio := mset (prioDflt c) x.prio (8 * l + c) (prm q 5 1), weight := mset (weightDflt c) x.weight (8 * l + c) (prm q 6 1) }) s)
    q s)
def chkQosSubcfg (q : Req) (s : State) : Option Nat :=
  let c := prm q 2 1
  lpSetChk s (prm q 0 2) 1 (7 < c || prm q 4 1 == 0 || 128 < prm q 3 1 + prm q 4 1 || prm q 5 1 == 0) (c == 1) none
def execQosSubcfg (q : Req) (s : State) : Host.Outcome State Fault Refusal :=
  .next (runCommand (cat 0x0602) true (qosPriv (prm q 0 2) 1) (chkQosSubcfg q s) []
    (act (onQos fun x => { x with
      subw := setRange 1 x.subw (leafNo (prm q 0 2) (prm q 2 1) (prm q 3 1)) (prm q 4 1) (prm q 5 1) })) q s)

/-- A rate in Mb/s above the lane-port's speed. -/
def rateBad (s : State) (l r : Nat) : Bool := lpSpeed s l < r
def chkQosShapecfg (q : Req) (s : State) : Option Nat :=
  let l := prm q 0 2
  let t := prm q 2 1
  let r := prm q 4 4
  lpSetChk s l 1 ((7 < t && t != 0xFF) || 1 < prm q 3 1) (t < 2) (refuseIf (r != 0 && (prm q 8 4 < 4160 || rateBad s l r)) 0x0603)
/-- A shaper's tokens as `RESET` sets them (R171). -/
def resetShaper (k : Nat) (s : State) : State :=
  let g := shapeCfg s k
  onCore (fun c => { c with shp := mset ⟨0, 0⟩ c.shp k ⟨if g.empty then 0 else 14000 * g.burst, s.mono⟩ }) s
def execQosShapecfg (q : Req) (s : State) : Host.Outcome State Fault Refusal :=
  let k := 8 * prm q 0 2 + (if prm q 2 1 = 0xFF then 0 else prm q 2 1)
  .next (runCommand (cat 0x0603) true (qosPriv (prm q 0 2) 1) (chkQosShapecfg q s) []
    (act fun s => resetShaper k (onQos (fun x => { x with
      shape := mset ⟨0, 0, false⟩ x.shape k ⟨prm q 4 4, prm q 8 4, prm q 3 1 == 1⟩ }) s)) q s)

/-- The actions of a policer: 0 PASS, 1 MARK, 2 DISCARD. -/
def polActs (q : Req) : Nat × Nat := (prm q 3 1 % 4, prm q 3 1 / 4 % 4)
def chkQosPolicecfg (q : Req) (s : State) : Option Nat :=
  let l := prm q 0 2
  let c := prm q 2 1
  let a := polActs q
  let cir := prm q 4 4
  let pir := prm q 8 4
  firstOf [refuseIf (7 < c || a.1 == 3 || a.2 == 3) 0x0007, lpRangeChk s l 1, refuseIf (lpRebinding s l) 0x0006,
    refuseIf (!isScaleUp (lpLoc l)) 0x0202, refuseIf (c == 0 || c == 1 || c == 3) 0x0601,
    refuseIf (c == 5 && (a.1 == 2 || a.2 == 2)) 0x0602,
    refuseIf (cir != 0 && (pir < cir || prm q 12 4 < 4160 || prm q 16 4 < 4160 || rateBad s l cir || rateBad s l pir)) 0x0602]
/-- Both buckets of a policer full (R169). -/
def fillPolicer (k : Nat) (s : State) : State :=
  let g := polCfg s (k / 8) (k % 8)
  onCore (fun c => { c with
    pol := mmod polDflt c.pol k fun p => { p with ctok := 14000 * g.cbs, ptok := 14000 * g.pbs, at_ := s.mono } }) s
def execQosPolicecfg (q : Req) (s : State) : Host.Outcome State Fault Refusal :=
  let k := 8 * prm q 0 2 + prm q 2 1
  let a := polActs q
  .next (runCommand (cat 0x0604) true (qosPriv (prm q 0 2) 1) (chkQosPolicecfg q s) []
    (act fun s => fillPolicer k (onQos (fun x => { x with
      police := mset ⟨false, 0, 0, 0, 0, 0, 0⟩ x.police k
        ⟨prm q 4 4 != 0, prm q 4 4, prm q 8 4, prm q 12 4, prm q 16 4, a.1, a.2⟩ }) s)) q s)

/-! ### Gate lists (R175, R176) -/

def gateEntries (bs : List Byte) (n : Nat) : List (Nat × Nat) :=
  (List.range n).map fun i => (rdLe bs (8 * i + 7) 1, rdLe bs (8 * i) 4)
def gateRsvd (bs : List Byte) (n : Nat) : Bool := (List.range n).any fun i => rdLe bs (8 * i + 4) 3 != 0
/-- The longest stretch, in ns, that a class is open in a list, consecutive entries of the repeating list taken together. -/
def longestOpen (es : List (Nat × Nat)) (c : Nat) : Nat :=
  (List.range es.length).foldl (fun a i => max a (openRun c (es.drop i ++ es.take i))) 0
/-- A class with credits that is never open for a 4,160-byte frame. -/
def neverOpen (s : State) (l : Nat) (es : List (Nat × Nat)) : Bool :=
  !es.isEmpty && (List.range (vcCount l)).any fun v =>
    2 ≤ vcClass l v && credAlloc s l v != 0 && longestOpen es (vcClass l v) * 1000 * (lpLanes s l).length < txPicoN 4160
def chkQosGatewrite (q : Req) (s : State) : Option Nat :=
  let l := prm q 0 2
  let n := prm q 2 2
  let es := gateEntries (inData q) n
  let t := prm q 8 8
  let now := ftNs s
  firstOf [refuseIf (256 < n || gateRsvd (inData q) n) 0x0007, lpRangeChk s l 1, refuseIf (lpRebinding s l) 0x0006,
    refuseIf (namesLp s l) 0x0005,
    refuseIf (t < now + 100000 || now + 10000000000 < t || (es.any fun e => e.2 < 32 || 1000000000 < e.2) ||
      1000000000 < gateCycle es) 0x0604,
    refuseIf (neverOpen s l es) 0x0605]
def execQosGatewrite (q : Req) (s : State) : Host.Outcome State Fault Refusal :=
  .next (longOp 0x0605 (qosPriv (prm q 0 2) 1) (8 * prm q 2 2 ≤ (inData q).length) (chkQosGatewrite q s) q s)
/-- The list becomes pending; one it replaces ends its ticket CANCELLED. -/
def startGatewrite (t : Ticket) (s : State) : State :=
  let l := rdLe t.param 0 2
  let old := (mfind s.set.qos.gatePend l).bind (·.ticket)
  let s := onQos (fun x => { x with
    gatePend := mput x.gatePend l ⟨gateEntries t.buf (rdLe t.param 2 2), rdLe t.param 8 8, some t.ticket⟩ }) s
  match old with
  | some tk => endTicket tk .cancelled .cancelled 0 s
  | none => s
/-- `OP.CANCEL` of a pending list discards it. -/
def dropPending (t : Ticket) (s : State) : State :=
  let l := rdLe t.param 0 2
  match mfind s.set.qos.gatePend l with
  | some g => if g.ticket = some t.ticket then onQos (fun x => { x with gatePend := mdel x.gatePend l }) s else s
  | none => s
/-- At `START_FT` a pending list takes over; one of no entries removes the operational list. -/
def execGateTakeover (lp : Nat) (s : State) : Host.Outcome State Fault Refusal :=
  .next (match gatePendList s lp with
    | none => s
    | some g =>
      if g.startFt ≤ ftNs s then
        let s := onQos (fun x => { x with
          gateOp := if g.entries.isEmpty then mdel x.gateOp lp else mput x.gateOp lp g, gatePend := mdel x.gatePend lp }) s
        let s := record 0x0681 [(2, lp), (8, g.startFt), (4, gateCycle g.entries)] s
        match g.ticket with
        | some tk => ticketDone tk s
        | none => s
      else s)
/-- Restored lists of a die. -/
def restoredOn (m : Map GateList) (d : Nat) : Map GateList := m.filter fun e => lpDie e.1 == d && e.2.ticket.isNone
/-- 1 s after READY without any source of time, restored lists start on the module's own time (R179). -/
def execGateFreeRunStart (s : State) : Host.Outcome State Fault Refusal :=
  .next (if s.core.gateWait && running s && !s.set.timeRoot && s.time.parent.isNone then
    let ns := (dies s).map fun d => (d, (restoredOn s.set.qos.gateOp d).length, (restoredOn s.set.qos.gatePend d).length)
    let now := ftNs s
    let s := onQos (fun x => { x with
      gateOp := x.gateOp.map fun e => (e.1, if e.2.ticket.isNone then { e.2 with startFt := now } else e.2),
      gatePend := x.gatePend.filter fun e => e.2.ticket.isSome }) s
    let s := onCore (fun c => { c with gateWait := false }) s
    forEach (ns.filter fun e => e.2.1 + e.2.2 != 0) (fun e => record 0x0683 [(1, e.1), (2, e.2.1), (2, e.2.2)]) s
  else s)

/-! ### Queries -/

def chkQosGatequery (q : Req) (s : State) : Option Nat := firstOf [refuseIf (1 < prm q 2 1) 0x0007, lpRangeChk s (prm q 0 2) 1]
def execQosGatequery (q : Req) (s : State) : Host.Outcome State Fault Refusal :=
  let r := qGate s (prm q 0 2) (prm q 2 1)
  .next (runCommand (cat 0x0606) (outRoom (cat 0x0606) r.length q) (qosPriv (prm q 0 2) 1) (chkQosGatequery q s) []
    (ans fun s => qGate s (prm q 0 2) (prm q 2 1)) q s)
def execQosQstats (q : Req) (s : State) : Host.Outcome State Fault Refusal :=
  let k := prm q 0 4
  .next (runCommand (cat 0x0607) true (if ownerQueues k 1 then 2 else 1) (queueChk s k 1) []
    (fun s => (whenS (prm q 4 1 == 1) (onCore fun c => { c with qstat := mdel c.qstat k }) s, qQstats s k)) q s)
def execQosPstats (q : Req) (s : State) : Host.Outcome State Fault Refusal :=
  let l := prm q 0 2
  let c := prm q 2 1
  .next (runCommand (cat 0x0608) true (qosPriv l 1) (firstOf [refuseIf (7 < c) 0x0007, lpRangeChk s l 1]) []
    (fun s => (whenS (prm q 3 1 == 1) (onCore fun x => { x with
      pol := mmod polDflt x.pol (8 * l + c) fun p => { p with green := 0, yellow := 0, red := 0, discarded := 0 } }) s, qPstats s l c)) q s)

end Sys2Proof.Machine
end

