-- ==== Sys2Proof/Machine/Windows.lean ====
section
/-! DEFINITION. The windows (chapter 12): requests to the module's functions performed in the order of R290 and R295, fences,
stream marks, and the host's CXL.mem accesses (R304 to R307, R417, R418). -/

set_option Elab.async false

namespace Sys2Proof.Machine

/-! ### Order (R290, R295) -/

/-- The fence of R295. -/
def isFence (f : Frame) : Bool :=
  f.typ == 1 && f.cls == 4 && coF f.dest == 0xF0 && xOffset f / 4096 == 0 && xRlen f == 1 && relOf f && acqOf f
/-- Requests held on a die that arrived on the same lane-port and VC before one. -/
def earlierReqs (s : State) (d : Nat) (e : QEnt) : List QEnt :=
  (s.core.cons.filter fun q => q.1 / 64 == d).flatMap fun q => q.2.filter fun x =>
    x.inL == e.inL && x.inVc == e.inVc && x.id < e.id && (x.frame.typ == 1 || x.frame.typ == 2)
/-- Must a request wait for an earlier one? -/
def mustWait (s : State) (d : Nat) (e : QEnt) : Bool :=
  (earlierReqs s d e).any fun x =>
    relOf x.frame || acqOf x.frame || (relOf e.frame && streamOf x.frame == streamOf e.frame) ||
      (isFence e.frame && x.frame.src == e.frame.src && x.frame.cls == e.frame.cls)

/-! ### What the windows hold -/

/-- The identity mirror (region 0 of function 0xF0). -/
def mirrorByte (s : State) (o : Nat) : Byte := BitVec.ofNat 8 (kidWord s (o / 8 * 8) >>> (8 * (o % 8)))
/-- A descriptor (Table 9-3). -/
def descBytes (s : State) (g slot : Nat) : List Byte :=
  let x := groupOf s g
  let head := match mfind x.seqs slot with
    | some (n, q) => fields 64 [(0, 4, n), (4, 1, q.dstate), (5, 1, q.op), (6, 1, q.oper), (7, 1, q.flags), (8, 2, q.numctl),
        (10, 2, q.root % 65536), (12, 4, q.count), (16, 1, q.status), (18, 2, localIn (gcfg s g) q), (20, 4, q.chunksDone),
        (24, 8, q.ftOpen), (32, 8, q.ftDone)]
    | none => fields 64 []
  head ++ sliceBytes (mget [] x.updates slot) 0 64
/-- Writes bytes of a descriptor's `UPDATE`. -/
def writeUpdate (g slot o : Nat) (bs : List Byte) (s : State) : State :=
  onGroup g (fun x => { x with
    updates := mput x.updates slot (setBytes (sliceBytes (mget [] x.updates slot) 0 64) o bs) }) s
/-- Stacks in self-refresh that an access touches leave it (R288). -/
def wakeStack (a : Nat) (s : State) : State := onMem (fun m => { m with selfRefresh := mset 0 m.selfRefresh (hbmStack a) 0 }) s
/-- Ends a request: its answer leaves, its cells and its charge are freed. -/
def answer (d : Nat) (e : QEnt) (typ : Nat) (p : List Byte) (s : State) : State := dropEnt e (inject d (respFor e.frame typ p) s)
/-- Refuses a held request with a cause, marking its stream (R298). -/
def refuseReq (d : Nat) (e : QEnt) (cause : Nat) (s : State) : State :=
  dropEnt e (match e.inL with | some l => refuse l e.frame cause s | none => nack d e.frame cause s)

/-! ### Performing a request -/

/-- A read (R291, R307); `memBad`: the memory read fails its parity or its CRC-32. -/
def performRead (d : Nat) (memBad : Bool) (e : QEnt) (s : State) : State :=
  let f := e.frame
  let o := xOffset f
  let n := xRlen f
  match coF f.dest with
  | 0xF0 => answer d e 3 ((List.range n).map fun i => mirrorByte s (o + i)) s
  | 0xF1 =>
    if memBad then refuseReq d e 7 (tileParity (winTile o) s)
    else answer d e 3 (spadRead s (winTile o) (65536 * winPage o + o % 65536) n) s
  | 0xF2 =>
    let s := wakeStack o (if memBad then badBlock o s else s)
    if !marked s o && hbmBad s o n then refuseReq d e 7 (restorePage o s) else answer d e 3 (hbmRead s o n) s
  | _ => answer d e 3 (sliceBytes (descBytes s ((o >>> 15) % 65536) ((o >>> 7) % 256)) (o % 128) n) s
/-- A write (R286, R291, R307): its bytes are those of its payload. -/
def performWrite (d : Nat) (memBad : Bool) (e : QEnt) (s : State) : State :=
  let f := e.frame
  let o := xOffset f
  let bs := f.payload.take (xRlen f)
  match coF f.dest with
  | 0xF1 => answer d e 4 [] (spadWrite (winTile o) (65536 * winPage o + o % 65536) bs s)
  | 0xF2 =>
    let s := wakeStack o (if memBad && !marked s o then badBlock o s else s)
    if !marked s o && mergesBad s o bs.length then refuseReq d e 7 (restorePage o s)
    else answer d e 4 [] (hbmWrite o bs (sideWritten o s))
  | 0xF3 => answer d e 4 [] (writeUpdate ((o >>> 15) % 65536) ((o >>> 7) % 256) (o % 128 - 64) bs s)
  | _ => refuseReq d e 4 s
/-- Takes a request whose turn it is: a failed cell, a `REL` of a marked stream and a window closed since it arrived are
refused; the rest is performed. -/
def perform (d : Nat) (bad memBad : Bool) (e : QEnt) (s : State) : State :=
  let f := e.frame
  if bad then
    cellBad e (match e.inL with | some l => markStream l e.inVc f 7 s | none => s)
  else match e.inL.bind fun l => markCause s l e.inVc f with
    | some c => refuseReq d e c s
    | none =>
      match windowCause s f (coF f.dest) with
      | some c => refuseReq d e c s
      | none => if f.typ = 1 then performRead d memBad e s else performWrite d memBad e s
/-- The tile that a request waits for: gated, or still lifting (R188, R288). -/
def tileAsleep (s : State) (f : Frame) : Bool :=
  coF f.dest == 0xF1 && tileUsable s (winTile (xOffset f)) &&
    (match (tileOf s (winTile (xOffset f))).st with | .gated => true | .lifting => true | _ => false)
/-- The head of a consumer queue, if it is of a kind and its turn has come. -/
def windowStep (d k : Nat) (bad memBad : Bool) (p : Frame → Bool) (s : State) : State :=
  match consQ s (64 * d + k) with
  | e :: r =>
    if k < 64 && k != 3 && k != 4 && p e.frame && !mustWait s d e then
      if tileAsleep s e.frame then liftTile (winTile (xOffset e.frame)) s
      else perform d bad memBad e (onCons (64 * d + k) (fun _ => r) s)
    else s
  | [] => s
def execWindowRead (die key : Nat) (bad memBad : Bool) (s : State) : Host.Outcome State Fault Refusal :=
  .next (windowStep die key bad memBad (fun f => f.typ == 1 && !isFence f) s)
def execWindowWrite (die key : Nat) (bad memBad : Bool) (s : State) : Host.Outcome State Fault Refusal :=
  .next (windowStep die key bad memBad (fun f => f.typ == 2) s)
def execFence (die : Nat) (bad : Bool) (s : State) : Host.Outcome State Fault Refusal :=
  .next (windowStep die 0 bad false isFence s)
/-- Marks of a stream on a die, and whole-lane marks there, older than 1 ms, end. -/
def execStreamMarkExpire (die src dest cls : Nat) (s : State) : Host.Outcome State Fault Refusal :=
  .next (onMem (fun m => { m with
    marks := m.marks.filter fun k => !(lpDie k.lanePort == die &&
      (match k.stream with | some x => x == (src, dest, cls) | none => k.since + cycMs 1 ≤ s.mono)) }) s)

/-! ### CXL.mem -/

/-- The device address of a host address and the filter of its decoder (R417). -/
def decodeHost (s : State) (a : Nat) : Option (Nat × Nat) :=
  let d0 := decOf s 0
  let d1 := decOf s 1
  if d0.committed && d0.base ≤ a && a < d0.base + d0.size then some (d0.dpa + a - d0.base, s.set.filter0)
  else if d1.committed && d1.base ≤ a && a < d1.base + d1.size then some (d1.dpa + a - d1.base, s.set.filter1)
  else none
/-- Is the region's rebinding fencing host accesses (R418)? -/
def regionFenced (s : State) (a : Nat) : Bool := (bindOf s 5 (a / gib)).ost == 2
/-- Does the region's binding pass a filter? -/
def filterPasses (s : State) (fil a : Nat) : Bool :=
  let b := bindOf s 5 (a / gib)
  fil == 0xFFFF || (b.ost == 1 && b.slice == fil)
/-- What Table 19-3 says of an access: 0 denied, 1 performed, 2 held, 3 dropped (R306). -/
def hostVerdict (s : State) (a n fil : Nat) (wr : Bool) : Nat :=
  if s.id.n * shardB ≤ a then 0
  else if !shardOk s (a / shardB) || regionFenced s a then 2
  else
    let r := hbmRole s a
    if r = 3 ∨ r = 4 then 0
    else if r = 2 ∨ r = 5 then (if !wr && fil == 0xFFFF then 1 else 0)
    else if !filterPasses s fil a then 0
    else if wr && inBindRegion s a n then 3
    else 1
def holdHost (h : HeldRead) (s : State) : State := onMem (fun m => { m with hostHeld := m.hostHeld ++ [h] }) s
/-- An access that Table 19-3 lets through: performed and completed, or held for the restore of a bad block (R307). -/
def hostAccess (h : HeldRead) (s : State) : State :=
  let s := wakeStack h.addr s
  match h.write with
  | none =>
    if !marked s h.addr && hbmBad s h.addr h.len then restorePage h.addr (holdHost h s)
    else emit (.hostData h.tag (hbmRead s h.addr h.len)) s
  | some bs =>
    if !marked s h.addr && mergesBad s h.addr h.len then restorePage h.addr (holdHost h s)
    else emit (.hostData h.tag []) (hbmWrite h.addr bs (sideWritten h.addr s))
/-- Acts on the verdict of an access. -/
def hostTake (h : HeldRead) (fil : Nat) (s : State) : State :=
  match hostVerdict s h.addr h.len fil h.write.isSome with
  | 0 => emit (.hostData h.tag (if h.write.isSome then [] else List.replicate h.len 0))
      (onHost (fun x => { x with hdmDenied := sat 64 (x.hdmDenied + 1) }) s)
  | 1 => hostAccess h s
  | 2 => holdHost h s
  | _ => emit (.hostData h.tag []) (onHost (fun x => { x with hdmDropped := sat 64 (x.hdmDropped + 1) }) s)
/-- Accesses held for a restore, once bytes of a range have been restored: each is tried again. -/
def serveHeld (lo hi : Nat) (s : State) : State :=
  let mine := s.mem.hostHeld.filter fun h => h.addr < hi && lo < h.addr + h.len
  let s := onMem (fun m => { m with hostHeld := m.hostHeld.filter fun h => !(h.addr < hi && lo < h.addr + h.len) }) s
  forEach mine (fun h s => if shardOk s (h.addr / shardB) then hostAccess h s else holdHost h s) s
/-- A CXL.mem access: the host link carries CXL, and a committed decoder covers the address. -/
def hostMem (addr len tag : Nat) (wr : Option (List Byte)) (crcBad : Bool) (s : State) : State :=
  if cxlMemUp s && running s && !s.sys.keelLost then
    match decodeHost s addr with
    | some (a, fil) =>
      let h : HeldRead := ⟨a, len, tag, wr⟩
      let bad := crcBad && hostVerdict s a len fil wr.isSome == 1 && !marked s a
      hostTake h fil (if bad then badBlock a s else s)
    | none => s
  else s
def execCxlMemRead (addr len tag : Nat) (crcBad : Bool) (s : State) : Host.Outcome State Fault Refusal :=
  .next (hostMem addr len tag none crcBad s)
def execCxlMemWrite (addr : Nat) (bytes : List Byte) (tag : Nat) (crcBad : Bool) (s : State) :
    Host.Outcome State Fault Refusal :=
  .next (hostMem addr bytes.length tag (some bytes) crcBad s)

end Sys2Proof.Machine
end

