-- ==== Sys2Proof/Machine/Timing.lean ====
section
/-! DEFINITION. Fabric time exchanged (R312 to R315), the launch barrier and its `TIME` blocks (R319, R322), and the commands over
time and audit digests. -/

set_option Elab.async false

namespace Sys2Proof.Machine

/-! ### Adjusting the counter (R312) -/

/-- `RATE` within 200 ppm of nominal. -/
def clampRate (r : Int) : Nat :=
  let w := rateNominal * 200 / 1000000
  (max (min r (rateNominal + w : Nat)) (rateNominal - w : Nat)).toNat
/-- Each of the last eight offsets is being removed over the eight exchanges that follow it, `cyc` F cycles apart. -/
def rateFor (adj : List Int) (cyc : Nat) : Nat :=
  clampRate ((rateNominal : Int) - adj.foldl (· + ·) 0 * (2 ^ 32 : Nat) / (8 * cyc : Nat))
/-- Removes an offset: by a step when it exceeds 1 µs and no image is enabled, else by `RATE`. -/
def removeOffset (cyc : Nat) (v : Int) (s : State) : State :=
  if 1000 * 65536 < v.natAbs ∧ schedEnabled s = false then
    onTime (fun t => { t with
      ft := (((t.ft : Int) - v * (2 ^ 32 : Nat)) % (2 ^ 112 : Nat)).toNat, stepCnt := sat 32 (t.stepCnt + 1), adj := [] }) s
  else
    onTime (fun t => let a := (v :: t.adj).take 8; { t with adj := a, rate := rateFor a cyc }) s

/-! ### Exchanges -/

/-- A signed difference of two timestamps. -/
def tsDiff (a b : Nat) : Int := toSigned 80 ((a + 2 ^ 80 - b % 2 ^ 80) % 2 ^ 80)
def execSyncDue (lp : Nat) (s : State) : Host.Outcome State Fault Refusal :=
  .next (if timeParentOn s lp then
    sendTime lp 0 s.time.xseq (ftTs s) 0 0 (onTime (fun t => { t with xseq := (t.xseq + 1) % 65536 }) s)
  else s)
/-- `SYNC` from the far end of a scale-out lane-port tells its `STEPS`; from the parent it starts an exchange. -/
def execSyncRx (lp xseq ts steps : Nat) (s : State) : Host.Outcome State Fault Refusal :=
  .next (if linkUp s lp && isScaleOut (lpLoc lp) then
    let s := chooseParent (onTime (fun t => { t with farSteps := mput t.farSteps lp (min 31 steps) }) s)
    if s.time.parent = some lp then
      let now := ftTs s
      sendTime lp 1 xseq now 0 0 (onTime (fun t => { t with exch := some (xseq, ts, now, now) }) s)
    else s
  else s)
def execDelayReqRx (lp xseq _ts : Nat) (s : State) : Host.Outcome State Fault Refusal :=
  .next (if timeParentOn s lp then sendTime lp 2 xseq (ftTs s) 0 0 s else s)
/-- The states that an offset moves (Table 13-2): within 0.1 ns eight times in a row, beyond 1 ns twice in a row. -/
def judgeOffset (cyc : Nat) (v : Int) (s : State) : State :=
  let small := 10 * v.natAbs ≤ 65536
  let s := onTime (fun t => { t with
    good := if small then t.good + 1 else 0, bad := if 65536 < v.natAbs then t.bad + 1 else 0 }) s
  match s.time.st with
  | .aligned => if 2 ≤ s.time.bad then timeTo .holdover s else removeOffset cyc v s
  | .freeRun => removeOffset cyc v s
  | _ => whenS (decide (8 ≤ s.time.good)) (timeTo .aligned) (removeOffset cyc v s)
def execDelayRespRx (lp xseq ts : Nat) (s : State) : Host.Outcome State Fault Refusal :=
  .next (match s.time.exch with
    | some (x, t1, t2, t3) =>
      if s.time.parent = some lp ∧ x = xseq then
        let down := tsDiff t2 t1
        let up := tsDiff ts t3
        let s := onTime (fun t => { t with
          theta := (down - up) / 2, delta := (down + up) / 2, exch := none }) s
        judgeOffset (cycUs s.set.syncUs) s.time.theta s
      else s
    | none => s)
/-- No exchange in four periods: ALIGNED time is held. -/
def execExchangeMissing (s : State) : Host.Outcome State Fault Refusal :=
  .next (if s.time.st = .aligned ∧ s.set.timeRoot = false then timeTo .holdover s else s)
/-- 1 ms in HOLDOVER. -/
def execHoldoverTimeout (s : State) : Host.Outcome State Fault Refusal :=
  .next (if s.time.st = .holdover then
    haltImage 3 (timeTo (if s.time.parent.isSome then .acquiring else .freeRun) s)
  else s)
/-- Distance of the counter from the nearest whole second, in units of 2^-16 ns. -/
def ppsError (s : State) : Int :=
  let sec := 1000000000 * 65536
  let r := ftTs s % sec
  if 2 * r ≤ sec then (r : Int) else (r : Int) - (sec : Nat)
/-- A rising edge of `SYNC_PPS_IN` (R315). -/
def execSyncPpsEdge (s : State) : Host.Outcome State Fault Refusal :=
  .next (if keelOn s then
    let e := ppsError s
    let s := onTime (fun t => { t with ppsFt := ftNs s }) s
    if s.set.timeRoot && s.set.timePps then removeOffset (cycS 1) e (onTime (fun t => { t with theta := e }) s) else s
  else s)

/-! ### The launch barrier (R319) -/

/-- Does the enabled image, once ARMED, have this tag? -/
def countsFor (s : State) (tag : Nat) : Bool :=
  schedEnabled s && s.sched.st != .loaded && s.sched.st != .empty && schedTag s == tag && hdrModules (enabledImg s) != 0
/-- The sum of a tag: this module, and the latest counts of its children. -/
def armedSum (s : State) (tag : Nat) : Nat :=
  s.sched.armed.foldl (fun a e => if e.1 = tag then a + e.2.2 else a) (if countsFor s tag then 1 else 0)
/-- The root launches: T is its time plus the lead. -/
def rootLaunch (s : State) : State :=
  let img := enabledImg s
  if s.set.timeRoot && s.sched.st == .armed && s.sched.launchAt.isNone && hdrModules img != 0 &&
      hdrModules img ≤ armedSum s (schedTag s) then
    let t := ftTs s + hdrLead img * 65536
    let s := onSched (fun x => { x with launchAt := some t, fwdLaunch := (schedTag s :: x.fwdLaunch).take 16 }) s
    forEach ((allLps s).filter (timeParentOn s)) (fun l => sendTime l 4 0 t (schedTag s) 0) s
  else s
/-- A sum that has changed goes to the parent; the root compares it. -/
def tellArmed (tag : Nat) (s : State) : State :=
  if s.set.timeRoot then rootLaunch s
  else match s.time.parent with
    | some l => sendTime l 3 0 0 tag (armedSum s tag % 65536) s
    | none => s
/-- Tags with counts, newest first. -/
def armedTags (s : State) : List Nat := (s.sched.armed.map (·.1)).eraseDups
def execArmedRx (lp tag count : Nat) (s : State) : Host.Outcome State Fault Refusal :=
  .next (if timeParentOn s lp && isScaleOut (lpLoc lp) then
    let old := armedSum s tag
    let keep := ((armedTags s).filter (· != tag)).take 15
    let s := onSched (fun x => { x with
      armed := (tag, lp, count) :: x.armed.filter fun e => (e.1 == tag && e.2.1 != lp) || keep.contains e.1 }) s
    if armedSum s tag = old then s else tellArmed tag s
  else s)
/-- `LAUNCH` with T, in the units of `TS`: forwarded to the children once. -/
def execLaunchRx (lp tag time : Nat) (s : State) : Host.Outcome State Fault Refusal :=
  .next (if linkUp s lp then
    let s := if s.sched.fwdLaunch.contains tag then s
      else forEach ((allLps s).filter fun l => timeParentOn s l && l != lp) (fun l => sendTime l 4 0 time tag 0)
        (onSched (fun x => { x with fwdLaunch := (tag :: x.fwdLaunch).take 16 }) s)
    if schedEnabled s && s.sched.st == .armed && schedTag s == tag && hdrModules (enabledImg s) != 0 then
      if time ≤ ftTs s then haltImage 4 s else onSched (fun x => { x with launchAt := some time }) s
    else s
  else s)
/-- `HALT` of a tag: forwarded once, and a halt cause for the image that has it. -/
def execHaltRx (lp tag cause : Nat) (s : State) : Host.Outcome State Fault Refusal :=
  .next (if linkUp s lp then
    let s := forwardHalt tag cause (some lp) s
    if haltable s && schedTag s == tag then haltImage 5 s else s
  else s)

/-! ### Commands -/

/-- Root or not: a root is ALIGNED at `STEPS` 0; one that is none any more looks for a parent (R314, R315). -/
def setRoot (root : Bool) (s : State) : State :=
  let was := s.time.steps == 0
  if root then
    let s := onTime (fun t => { t with steps := 0, parent := none, exch := none }) s
    if s.time.st = .aligned then s else timeTo .aligned s
  else if was then
    let s := onTime (fun t => { t with steps := 31, parent := none }) s
    chooseParent (timeTo .holdover s)
  else s
def chkSchedTimecfg (q : Req) : Option Nat :=
  let u := prm q 4 4
  refuseIf (u != 0 && (u < 10 || 10000 < u)) 0x0007
def timecfg (q : Req) (s : State) : State :=
  let u := prm q 4 4
  let s := modSet (fun t => { t with
    timeRoot := (prm q 0 1).testBit 0, timePps := (prm q 0 1).testBit 1, syncUs := if u = 0 then 100 else u }) s
  setRoot s.set.timeRoot s
def execSchedTimecfg (q : Req) (s : State) : Host.Outcome State Fault Refusal :=
  .next (plain 0x0907 (chkSchedTimecfg q) (act (timecfg q)) q s)
def execSchedTimequery (q : Req) (s : State) : Host.Outcome State Fault Refusal := .next (plain 0x0908 none (ans qTime) q s)

/-- Auditing of a group goes on or off; the digests of a group no longer audited are kept. -/
def setAudit (g : Nat) (on_ : Bool) (s : State) : State :=
  let put := fun (l : List Nat) => if on_ then (if l.contains g then l else l ++ [g]) else l.filter (· != g)
  modSet (fun t => { t with audited := put t.audited }) s
def chkSchedAuditcfg (q : Req) (s : State) : Option Nat :=
  let g := prm q 0 2
  refuseIf ((prm q 2 1).testBit 0 && !s.set.audited.contains g && 64 ≤ s.set.audited.length) 0x0007
def execSchedAuditcfg (q : Req) (s : State) : Host.Outcome State Fault Refusal :=
  .next (plain 0x0909 (chkSchedAuditcfg q s) (act (setAudit (prm q 0 2) ((prm q 2 1).testBit 0))) q s)
def chkSchedAuditread (q : Req) (s : State) : Option Nat := refuseIf (digestOf s (prm q 0 2) (prm q 4 4)).isNone 0x0005
def execSchedAuditread (q : Req) (s : State) : Host.Outcome State Fault Refusal :=
  .next (plain 0x090A (chkSchedAuditread q s) (ans fun s => qAudit s (prm q 0 2) (prm q 4 4)) q s)

end Sys2Proof.Machine
end

