-- ==== Sys2Proof/Machine/Sched.lean ====
section
/-! DEFINITION. The schedule check (R303, R318, Tables 13-3 to 13-6). -/

set_option Elab.async false

namespace Sys2Proof.Machine

/-! ### The image's form (Tables 13-3 to 13-5) -/

/-- Bits of the body that an entry kind assigns. -/
def bodyMask (k : Nat) : Nat :=
  let m := fun (hi lo : Nat) => (2 ^ (hi + 1 - lo) - 1) <<< lo
  match k with
  | 1 => m 95 73 | 2 => m 95 62 | 3 => m 95 67 + m 63 16 | 4 => m 95 40 | 5 => m 95 40 | 6 => m 95 75 | 7 => m 95 80
  | 8 => m 95 87 | 9 => m 95 87 | 10 => m 95 61 | 11 => m 95 51 + m 49 40 | _ => 0
/-- The agent of a FLAG entry: a tile, a window port, an endpoint. -/
def agentOk (a : Nat) : Bool := a < 256 || (0x300 ≤ a && a < 0x308) || a == 0x3FF
def entryOk (period : Nat) (e : SEntry) : Bool :=
  1 ≤ e.kind && e.kind ≤ 11 && e.cycle < period && (e.body &&& bodyMask e.kind) == e.body &&
    (match e.kind with
      | 1 => eb e 95 93 != eb e 92 90
      | 4 => eb e 71 70 ≤ 2 && eb e 69 64 < 16
      | 8 => eb e 92 92 == 0 || eb e 91 87 < 4
      | 9 => eb e 92 92 == 0 || eb e 91 87 < 4
      | 11 => agentOk (eb e 49 40)
      | _ => true)
def ascending : List SEntry → Bool
  | a :: b :: r => a.cycle ≤ b.cycle && ascending (b :: r)
  | _ => true
/-- Is every byte of a range 0? -/
def zeros (bs : List Byte) (o n : Nat) : Bool := rdLe bs o n == 0
def headerOk (img : List Byte) : Bool :=
  let lead := rdLe img 0x28 4
  rdLe img 0 4 == 0x44435351 && rdLe img 4 2 == 1 && rdLe img 6 2 == 128 && 1 ≤ hdrSlice img && hdrSlice img ≤ 4095 &&
    zeros img 0x12 2 && 1024 ≤ hdrPeriod img && hdrPeriod img ≤ 16777216 && 1 ≤ hdrEntries img && hdrEntries img ≤ 1048560 &&
    hdrModules img ≤ 2048 && (lead == 0 || (10000 ≤ lead && lead ≤ 1000000)) && zeros img 0x2C 4 && zeros img 0x40 64 &&
    (sliceBytes img 0x30 16).all (fun b => b.toNat < 128) && img.length == 128 + 16 * hdrEntries img
def imageOk (img : List Byte) : Bool :=
  headerOk img && (imgEntries img).all (entryOk (hdrPeriod img)) && ascending (imgEntries img)

/-! ### Units and objects -/

/-- Does an entry name a unit that is not fitted? -/
def entAbsent (s : State) (e : SEntry) : Bool :=
  (entDies e).any (fun d => !dieFitted s d) || (entLp e).any (fun l => !portFitted s (lpPort l)) ||
    (entTile e).any (fun t => !tileFitted s t) || (entStack e).any (fun k => !dieFitted s (k / 4)) ||
    (e.kind == 11 && eb e 49 40 < 256 && !tileFitted s (eb e 49 40)) ||
    (e.kind == 11 && 0x300 ≤ eb e 49 40 && eb e 49 40 < 0x308 && !dieFitted s (eb e 49 40 - 0x300))
/-- Is a named object unusable, not of the image's slice, not enabled, or not UP? -/
def entBadObject (s : State) (sl : Nat) (e : SEntry) : Bool :=
  let bad := fun (kind i want : Nat) => let b := bindOf s kind i; b.ost != 1 || b.slice != want
  (entDies e).any (fun d => !dieUsable s d) ||
    (entSpar e).any (fun x => sparState s x.1 x.2 != 1) ||
    (entLp e).any (fun l => !portUsable s (lpPort l) || !linkUp s l || (isScaleUp (lpLoc l) && bad 1 l sl) ||
      (isScaleUp (lpLoc l) && eb e 85 79 != 0 && bad 2 (128 * l + eb e 85 79) sl)) ||
    (entTile e).any (fun t => !tileUsable s t || bad 3 t sl) ||
    (entStack e).any (fun k => !stackUsable s k) ||
    (entGroup e).any fun g => groupSt s g != 2 || bad 4 g sl

/-! ### Time -/

/-- START_FT less than floor ÷ R + 100 µs after the check, or more than 10 s after it. -/
def startBad (s : State) (img : List Byte) (startFt : Nat) : Bool :=
  let lead := imgFloor img * 1000000 / max 1 s.set.env.ramp + 100000
  hdrModules img == 0 && (startFt < ftNs s + lead || ftNs s + 10000000000 < startFt)

/-! ### Slots (R130, R186, R264) -/

/-- A claim on a resource for some cycles of the period. -/
structure Claim where
  key : Nat
  at_ : Nat
  len : Nat
deriving DecidableEq, Repr

/-- Do two claims share an F cycle, modulo the period? -/
def overlap (p : Nat) (a b : Claim) : Bool :=
  a.key == b.key && ((b.at_ + p - a.at_) % p < a.len || (a.at_ + p - b.at_) % p < b.len)
def anyOverlap (p : Nat) : List Claim → Bool
  | [] => false
  | a :: r => p < a.len || r.any (overlap p a) || anyOverlap p r
/-- F cycles of an update over a chunk: its passes and the fixed 64 (R262). -/
def updateCycles (s : State) (g : Nat) : Nat :=
  let k := gcfg s g
  match bindsOf s g with
  | (_, b) :: _ => (basketElems k.mode k.numctl 0 + 15) / 16 * progCyc s b.prog + 64
  | [] => 64
/-- F cycles of a tile-queue entry (Table 8-1, R264). -/
def issueCycles (s : State) (e : SEntry) : Nat :=
  let k := gcfg s (eb e 95 80)
  if eb e 71 70 = 2 then updateCycles s (eb e 95 80)
  else
    let lanes := if k.mode = 2 then 4 else max 1 (512 / max 1 (fmtWidth (ncFmt k.numctl)))
    (pieceElems k.numctl 0 + lanes - 1) / lanes
def claimOf (s : State) (e : SEntry) : List Claim :=
  match e.kind with
  | 1 => [⟨0x100000 + 16 * eb e 95 93 + 2 * eb e 92 90 + eb e 89 89, e.cycle, eb e 88 73⟩]
  | 2 => [⟨0x200000 + eb e 95 86, e.cycle, eb e 77 62⟩]
  | 3 => [⟨0x300000 + 1024 * eb e 79 77 + 32 * eb e 76 72 + eb e 71 67, e.cycle, eb e 39 16⟩]
  | 4 => [⟨0x400000 + 32 * eb e 79 77 + eb e 76 72, e.cycle, issueCycles s e⟩]
  | 10 => [⟨0x500000 + eb e 79 77, e.cycle, eb e 76 61⟩]
  | _ => []
/-- Spar runs that land on a die at a cycle. -/
def landingAt (p d c : Nat) (es : List SEntry) : Nat :=
  countWhere es fun e => e.kind == 1 && eb e 92 90 == d && (c + p - e.cycle) % p < eb e 88 73
def landsTooMany (p : Nat) (es : List SEntry) : Bool :=
  (es.filter fun e => e.kind == 1).any fun e => 8 < landingAt p (eb e 92 90) e.cycle es
/-- Cells that a run carries: 25 in each 28 F cycles. -/
def runCells (r : Nat) : Nat := r / 28 * 25 + min (r % 28) 25
/-- A frame that a group sends or receives, as the lookup sees it. -/
def probeFrame (dest src : Nat) : Frame := ⟨dest, src, 1, none, 0, false, 2, 7, 0, 0, 0, 0, 0, false, false, 0, 0, [], 0, 0⟩
def outDie (s : State) (dest : Nat) : Option Nat :=
  match lookup s none (probeFrame dest (ownCoord s 0xF3)) with | .out l _ _ => some (lpDie l) | _ => none
/-- The member of the last DUE entry of a chunk before a COMBINE. -/
def dueBefore (g c : Nat) (before : List SEntry) : Option Nat :=
  (before.reverse.find? fun e => e.kind == 5 && eb e 95 80 == g && eb e 63 40 == c).map fun e => eb e 79 64
/-- Dies (from, to) that a scheduled piece crosses: 17 cells each time. -/
def crossings (s : State) (before : List SEntry) (e : SEntry) : List (Nat × Nat) :=
  let g := eb e 95 80
  let c := eb e 63 40
  let x := eb e 79 77
  let k := gcfg s g
  if e.kind ≠ 4 then []
  else match eb e 71 70 with
    | 0 =>
      let m := (dueBefore g c before).bind fun m => k.entries.find? fun y => y.1 == m
      match m.map fun y => (endpointLps s (coT y.2) (coS y.2)).map lpDie with
      | some (z :: zs) => if (z :: zs).contains x then [] else [(z, x)]
      | _ => []
    | 1 =>
      let dests := if roots k (c % 2) then k.entries.map (·.2) else [(treeOf k (c % 2)).parent]
      (dests.filterMap (outDie s)).filterMap fun y => if y = x then none else some (x, y)
    | _ => []
def crossAll (s : State) : List SEntry → List SEntry → List (Nat × Nat)
  | _, [] => []
  | before, e :: r => crossings s before e ++ crossAll s (before ++ [e]) r
/-- Is there a cross-die frame with no SPAR run covering its cells? -/
def sparsShort (s : State) (es : List SEntry) : Bool :=
  let need := crossAll s [] es
  need.any fun x =>
    es.foldl (fun a e => if entSpar e = some x then a + runCells (eb e 88 73) else a) 0 < 17 * countWhere need (· == x)
/-- Bytes that the UPDATE entries move on a die in a period, and what a stack carries outside its refresh windows. -/
def dmaBytes (s : State) (d : Nat) (es : List SEntry) : Nat :=
  es.foldl (fun a e =>
    if e.kind = 4 ∧ eb e 71 70 = 2 ∧ eb e 79 77 = d then
      let g := eb e 95 80
      a + 2 * basketElems (gcfg s g).mode (gcfg s g).numctl 0 * (match bindsOf s g with | (_, b) :: _ => progState s b.prog | [] => 0)
    else a) 0
def dmaTooMuch (s : State) (p : Nat) (es : List SEntry) : Bool :=
  (dies s).any fun d => (List.range 4).any fun k =>
    let quiet := es.foldl (fun a e => if e.kind = 6 ∧ entStack e = some (4 * d + k) then a + eb e 90 75 else a) 0
    3277 * (p - quiet) < 7 * dmaBytes s d es
def slotConflict (s : State) (p : Nat) (es : List SEntry) : Bool :=
  anyOverlap p (es.flatMap (claimOf s)) || landsTooMany p es || dmaTooMuch s p es || sparsShort s es

/-! ### Refresh, lifts, egress windows -/

def namedStacks (es : List SEntry) : List Nat := (es.filterMap entStack).eraseDups
/-- Does a stack lack a window of 224 F cycles in some 1,706? -/
def refreshBad (p : Nat) (es : List SEntry) (k : Nat) : Bool :=
  let ws := es.filter fun e => e.kind == 6 && entStack e == some k && 224 ≤ eb e 90 75
  ws.isEmpty || ws.any fun a =>
    (ws.filter (· != a)).all (fun b => 1706 < (b.cycle + p - a.cycle) % p) && (1 < ws.length || 1706 < p)
/-- Does an entry use a unit: 0 tile, 1 stack? -/
def usesUnit (unit i : Nat) (e : SEntry) : Bool :=
  if unit = 0 then (e.kind == 3 || e.kind == 4) && entTile e == some i
  else e.kind == 4 && eb e 71 70 == 2 && eb e 79 77 == i / 4
def movesUnit (unit i : Nat) (e : SEntry) : Bool :=
  (e.kind == 8 || e.kind == 9) && eb e 92 92 == unit && (if unit = 0 then entTile e == some i else entStack e == some i)
/-- The LIFT or GATE in force at a use: the last before it, or the last of the period before. -/
def moveBefore (unit i : Nat) (before after : List SEntry) : Option SEntry :=
  match before.reverse.find? (movesUnit unit i) with
  | some e => some e
  | none => after.reverse.find? (movesUnit unit i)
/-- Is a use too early after its LIFT, or of a gated unit? -/
def useBad (p unit i : Nat) (before after : List SEntry) (e : SEntry) : Bool :=
  usesUnit unit i e &&
    match moveBefore unit i before after with
    | none => false
    | some m => m.kind == 9 || (e.cycle + p - m.cycle) % p < (if unit = 0 then 2100 else 3500)
def usesBad (p unit i : Nat) : List SEntry → List SEntry → Bool
  | _, [] => false
  | before, e :: r => useBad p unit i before r e || usesBad p unit i (before ++ [e]) r
def movedUnits (es : List SEntry) : List (Nat × Nat) :=
  ((es.filter fun e => e.kind == 8 || e.kind == 9).map fun e =>
    (eb e 92 92, if eb e 92 92 = 0 then 32 * eb e 95 93 + eb e 91 87 else 4 * eb e 95 93 + eb e 91 87)).eraseDups
def liftBad (p : Nat) (es : List SEntry) : Bool := (movedUnits es).any fun u => usesBad p u.1 u.2 [] es

def namedLps (es : List SEntry) : List Nat := (es.filterMap entLp).eraseDups
def lpWindows (es : List SEntry) (l : Nat) : List SEntry := es.filter fun e => entLp e == some l
/-- One-way delay of a lane-port in ns (assumption 70): the exchange's δ on the parent link, else from the cartridge's length. -/
def linkDelay (s : State) (l : Nat) : Nat :=
  if s.time.parent = some l then s.time.delta.toNat / 65536
  else 136 + (match laneMap s ((lpLanes s l).headD l) with | some m => m.lengthCm / 20 | none => 0)
/-- Open F cycles of a lane-port's windows in a span of `n` from `c`. -/
def openIn (p c n : Nat) (ws : List SEntry) : Nat :=
  ws.foldl (fun a e =>
    let r := eb e 77 62
    let off := (e.cycle + p - c) % p
    a + n / p * r + (min (n % p) (off + r) - min (n % p) off) + (off + r - p - (off + r - p - n % p))) 0
/-- Do the C2 bytes of some span exceed the credits? -/
def creditBad (s : State) (p : Nat) (es : List SEntry) (l : Nat) : Bool :=
  let ws := lpWindows es l
  let span := (2 * linkDelay s l + 150) * 7 / 4
  let vc := if vcCount l = 16 then 4 else 2
  ws.any fun e => 64 * credAlloc s l vc * 7 < 100 * (lpLanes s l).length * openIn p e.cycle span ws
/-- Is there no gap for a 4,160-byte frame? -/
def gapBad (s : State) (p : Nat) (es : List SEntry) (l : Nat) : Bool :=
  let ws := lpWindows es l
  !(ws.any fun a =>
    let last := a.cycle + eb a 77 62
    ws.all fun b => txCycles s l 4160 ≤ (if b = a then p - eb a 77 62 else (b.cycle + 2 * p - last) % p))

/-! ### Scopes and orders -/

/-- Does the scope instance of one agent contain the other (Table 12-1, R299)? Scopes: 0 TILE, 1 DIE, 2 MODULE, 3 FABRIC. -/
def agentDie (a : Nat) : Option Nat := if a < 256 then some (a / 32) else if a < 0x308 then some (a - 0x300) else none
def scopeHolds (sc a b : Nat) : Bool :=
  match sc with
  | 0 => a == b && a < 256
  | 1 => agentDie a == agentDie b && (agentDie a).isSome
  | 2 => (agentDie a).isSome && (agentDie b).isSome
  | _ => true
def scopeBad (es : List SEntry) : Bool :=
  let fs := es.filter fun e => e.kind == 11
  fs.any fun a => (a.body.testBit 52) && fs.any fun b =>
    (b.body.testBit 51) && eb a 95 55 == eb b 95 55 &&
      !scopeHolds (min (eb a 54 53) (eb b 54 53)) (eb a 49 40) (eb b 49 40)
/-- The place of the first DUE entry of a group and member. -/
def duePos (es : List SEntry) (g m : Nat) : Option Nat := es.findIdx? fun e => e.kind == 5 && eb e 95 80 == g && eb e 79 64 == m
/-- Groups of the image that order two local members differently; members are told apart by coordinate. -/
def orderBad (s : State) (es : List SEntry) : Bool :=
  let gs := ((es.filter fun e => e.kind == 5).map fun e => eb e 95 80).eraseDups
  let before := fun (x y : Option Nat) => match x, y with | some a, some b => a < b | _, _ => false
  gs.any fun g => gs.any fun h => (gcfg s g).entries.any fun x => (gcfg s g).entries.any fun y =>
    match (gcfg s h).entries.find? (fun z => z.2 == x.2), (gcfg s h).entries.find? fun z => z.2 == y.2 with
    | some xh, some yh =>
      g != h && x.2 != y.2 && before (duePos es g x.1) (duePos es h xh.1) && before (duePos es h yh.1) (duePos es g y.1)
    | _, _ => false

/-! ### The check -/

/-- Table 13-6 after its first row. -/
def schedCheck (s : State) (img : List Byte) (startFt : Nat) : Option Nat :=
  let es := imgEntries img
  let p := max 1 (hdrPeriod img)
  firstOf [refuseIf (es.any (entAbsent s)) 0x0003,
    refuseIf (!imageOk img) 0x0901,
    refuseIf (rdLe img 8 8 != detClass s) 0x0902,
    refuseIf (es.any (entBadObject s (hdrSlice img))) 0x0903,
    refuseIf (s.time.st != .aligned || startBad s img startFt) 0x0904,
    refuseIf (slotConflict s p es) 0x0905,
    refuseIf ((namedStacks es).any (refreshBad p es)) 0x0906,
    refuseIf (liftBad p es) 0x0907,
    refuseIf ((namedLps es).any (creditBad s p es)) 0x0908,
    refuseIf ((namedLps es).any (gapBad s p es)) 0x0909,
    refuseIf (400 < imgFloor img) 0x090A,
    refuseIf (scopeBad es) 0x0912,
    refuseIf (orderBad s es) 0x0914]

end Sys2Proof.Machine
end

