-- ==== Sys2Proof/Machine/SchedRun.lean ====
section
/-! DEFINITION. Schedule images loaded, enabled, run and stopped (R317 to R323, R327, R328): the `SCHED` commands and the entries. -/

set_option Elab.async false

namespace Sys2Proof.Machine

/-! ### SCHED.LOAD, SCHED.UNLOAD -/

/-- OWNER when the image names a lane-port of local ports 18 to 31. -/
def imagePriv (img : List Byte) : Nat := if ((imgEntries img).filterMap entLp).any (fun l => !isScaleUp (lpLoc l)) then 2 else 1
def slotBusy (s : State) (k : Nat) : Bool :=
  ((begunOps s 0x0901).any fun t => rdLe t.param 0 1 == k) || ((begunOps s 0x0903).any fun t => rdLe t.param 0 1 == k)
def chkSchedLoad (q : Req) (s : State) : Option Nat :=
  let k := prm q 0 1
  firstOf [refuseIf (3 < k || 16777216 < (inData q).length) 0x0007, refuseIf (s.sched.slot == some k) 0x0005, refuseIf (slotBusy s k) 0x0006]
def execSchedLoad (q : Req) (s : State) : Host.Outcome State Fault Refusal :=
  .next (longOp 0x0901 (imagePriv (inData q)) true (chkSchedLoad q s) q s)
/-- The NOR write of a load ends. -/
def finishSchedLoad (t : Ticket) (s : State) : State :=
  let k := rdLe t.param 0 1
  if s.sched.slot = some k then ticketFail t.ticket 0x0005 s
  else ticketDone t.ticket (onSched (fun x => { x with images := mput x.images k t.buf }) s)
def chkSchedUnload (q : Req) (s : State) : Option Nat :=
  let k := prm q 0 1
  firstOf [refuseIf (3 < k) 0x0007, refuseIf (s.sched.slot == some k || !mhas s.sched.images k) 0x0005, refuseIf (slotBusy s k) 0x0006]
def execSchedUnload (q : Req) (s : State) : Host.Outcome State Fault Refusal :=
  .next (plain 0x0902 (chkSchedUnload q s) (act (onSched fun x => { x with images := mdel x.images (prm q 0 1) })) q s)

/-! ### SCHED.ENABLE -/

/-- The first row of Table 13-6, then the rest. -/
def enableCheck (s : State) (k startFt : Nat) : Option Nat :=
  if s.sched.slot.isSome || !mhas s.sched.images k then some 0x0005 else schedCheck s (mget [] s.sched.images k) startFt
def chkSchedEnable (q : Req) (s : State) : Option Nat :=
  let k := prm q 0 1
  firstOf [refuseIf (3 < k) 0x0007, refuseIf (slotBusy s k) 0x0006, enableCheck s k (prm q 8 8)]
def execSchedEnable (q : Req) (s : State) : Host.Outcome State Fault Refusal :=
  .next (longOp 0x0903 (imagePriv (mget [] s.sched.images (prm q 0 1))) true (chkSchedEnable q s) q s)
/-- The start of an enable: the unit lifts begin and the image's figures restart. -/
def startSchedEnable (t : Ticket) (s : State) : State :=
  let k := rdLe t.param 0 1
  match enableCheck s k (rdLe t.param 8 8) with
  | some r => ticketFail t.ticket r s
  | none =>
    let img := mget [] s.sched.images k
    let tag := rdLe (imgIdent img) 0 4
    let es := imgEntries img
    let s := onSched (fun x => { x with
      ident := imgIdent img, floorW := imgFloor img, slot := some k, st := .loaded, ticket := some t.ticket, cause := 0,
      haltEntry := 0, iter := 0, next := 0, launchFt := 0, startFt := rdLe t.param 8 8, launchAt := none, nanSeen := 0,
      haltDiscard := 0, stopAtEnd := false, declared := 0, windows := [], fwdLaunch := x.fwdLaunch.filter (· != tag),
      fwdHalt := x.fwdHalt.filter (· != tag) }) s
    let s := whenS (softCap s < schedFloor s) floorMissed s
    let s := forEach (es.filterMap entTile).eraseDups liftTile s
    let s := forEach (namedStacks es) (fun k => onMem fun m => { m with selfRefresh := mset 0 m.selfRefresh k 0 }) s
    forEach (namedLps es) liftLp s
/-- Are the units that the image names lifted? -/
def unitsUp (s : State) : Bool :=
  let es := enabledEntries s
  (es.filterMap entTile).all (fun t => (tileOf s t).st == .active) && (namedLps es).all (lanesActive s) &&
    (namedStacks es).all fun k => mget 0 s.mem.selfRefresh k == 0
/-- Lifts and the ballast's ramp done (R319, R323): ARMED. -/
def execSchedArmed (s : State) : Host.Outcome State Fault Refusal :=
  .next (if schedEnabled s && s.sched.st == .loaded && unitsUp s then
    let s := setBallast s.sched.floorW (onSched (fun x => { x with st := .armed }) s)
    let s := match s.sched.ticket with
      | some tk => ticketDone tk s
      | none => s
    if hdrModules (enabledImg s) = 0 then s else tellArmed (schedTag s) s
  else s)

/-! ### SCHED.STOP, SCHED.DISABLE, SCHED.QUERY -/

def chkSchedStop (q : Req) (s : State) : Option Nat :=
  let m := prm q 0 1
  firstOf [refuseIf (1 < m) 0x0007,
    refuseIf (!schedEnabled s || (if m = 0 then s.sched.st != .running else !haltable s)) 0x0005]
def execSchedStop (q : Req) (s : State) : Host.Outcome State Fault Refusal :=
  .next (plain 0x0904 (chkSchedStop q s)
    (act fun s => if prm q 0 1 = 0 then onSched (fun x => { x with stopAtEnd := true }) s else haltImage 9 s) q s)
def chkSchedDisable (s : State) : Option Nat :=
  refuseIf (!schedEnabled s || s.sched.st == .running || s.sched.st == .loaded) 0x0005
/-- Releases reservations, pins and held units, and lowers the ARMED counts. -/
def disableImage (s : State) : State :=
  let tag := schedTag s
  let told := countsFor s tag
  let s := onSched (fun x => { x with slot := none, st := .loaded, ticket := none, windows := [], launchAt := none, stopAtEnd := false, declared := 0 }) s
  if told then tellArmed tag s else s
def execSchedDisable (q : Req) (s : State) : Host.Outcome State Fault Refusal :=
  .next (plain 0x0905 (chkSchedDisable s) (act disableImage) q s)
def execSchedQuery (q : Req) (s : State) : Host.Outcome State Fault Refusal := .next (plain 0x0906 none (ans qSched) q s)

/-! ### Launch -/

/-- The time at or after which an ARMED image launches, in the units of `TS`. -/
def launchTime (s : State) : Option Nat :=
  if hdrModules (enabledImg s) = 0 then some (s.sched.startFt * 65536) else s.sched.launchAt
def execSchedLaunchTime (s : State) : Host.Outcome State Fault Refusal :=
  .next (if schedEnabled s && s.sched.st == .armed && (launchTime s).any (fun t => t ≤ ftTs s) then
    let t := (launchTime s).getD 0 / 65536
    let s := onSched (fun x => { x with
      st := .running, iter := 1, next := 0, launchFt := ftNs s, periodAt := s.mono, declared := 0, launchAt := none }) s
    record 0x09C2 [(1, s.sched.slot.getD 0), (8, t), (8, rdLe s.sched.ident 0 8)] s
  else s)

/-! ### Entries (Table 13-5) -/

/-- The entry that a RUNNING image issues next, if it is entry `n` of a kind: acted on, and passed. -/
def issueEntry (n kind : Nat) (f : SEntry → State → State) (s : State) : State :=
  if schedEnabled s && s.sched.st == .running && s.sched.next == n then
    match (enabledEntries s)[n]? with
    | some e =>
      if e.kind = kind then
        let s := f e s
        if s.sched.st = .running then onSched (fun x => { x with next := n + 1 }) s else s
      else s
    | none => s
  else s
/-- Opens a window of a number of F cycles. -/
def openWin (kind a b c run : Nat) (s : State) : State :=
  onSched (fun x => { x with windows := x.windows.filter (fun w => s.mono < w.until_) ++ [⟨kind, a, b, c, s.mono + run⟩] }) s
/-- The sequence of a named group in this iteration (R317). -/
def iterSeq (s : State) (g : Nat) : Nat := (mget 0 s.set.enabled g + s.sched.iter - 1) % 2 ^ 32

def execSchedSparEntry (n : Nat) (s : State) : Host.Outcome State Fault Refusal :=
  .next (issueEntry n 1 (fun e => openWin 1 (eb e 95 93) (eb e 92 90) (eb e 89 89) (eb e 88 73)) s)
def execSchedEgressEntry (n : Nat) (s : State) : Host.Outcome State Fault Refusal :=
  .next (issueEntry n 2 (fun e => openWin 2 (eb e 95 86) (eb e 85 79) (eb e 78 78) (eb e 77 62)) s)
/-- CLAIM: at once for an open sequence, else kept until it opens or the hold ends. -/
def schedClaim (e : SEntry) (s : State) : State :=
  let g := eb e 95 80
  let c := eb e 63 40
  let key := 1024 * eb e 79 77 + 32 * eb e 76 72 + eb e 71 67
  let seq := iterSeq s g
  if seqOpen s g seq then claimPage g seq c key s else openWin 3 g c (65536 * seq + key) (eb e 39 16) s
def execSchedClaimEntry (n : Nat) (s : State) : Host.Outcome State Fault Refusal := .next (issueEntry n 3 schedClaim s)
/-- The source index of the member of the DUE entry that a COMBINE follows. -/
def issueSource (s : State) (n g c : Nat) : Option Nat :=
  (dueBefore g c ((enabledEntries s).take n)).bind fun m => (gcfg s g).entries.findIdx? fun x => x.1 == m
/-- ISSUE: the tile-queue entry. -/
def schedIssue (n : Nat) (e : SEntry) (s : State) : State :=
  let g := eb e 95 80
  let c := eb e 63 40
  let seq := iterSeq s g
  let t := 32 * eb e 79 77 + eb e 76 72
  let pc := eb e 69 64
  match eb e 71 70 with
  | 0 =>
    match issueSource s n g c with
    | some i => let x := TileEntry.combine g seq c pc i; noteEntry g seq c 0 x (pushEntry t x s)
    | none => s
  | 1 => let x := TileEntry.finalise g seq c pc; noteEntry g seq c 0 x (pushEntry t x s)
  | _ => pushEntry t (.update g seq c) s
def execSchedIssueEntry (n : Nat) (s : State) : Host.Outcome State Fault Refusal := .next (issueEntry n 4 (schedIssue n) s)
/-- Has every piece of a member's contribution to a chunk arrived? -/
def dueMet (s : State) (g seq m c : Nat) : Bool :=
  match seqOf s g seq with
  | none => false
  | some q =>
    let k := gcfg s g
    let h := chunkIn q c
    match k.entries.findIdx? fun x => x.1 == m with
    | none => false
    | some i =>
      h.finished || q.dstate != 1 ||
        (List.range (piecesIn k q c)).all fun pc => h.bits.contains (16 * i + pc) || h.relayed.contains (16 * i + pc) ||
          h.waiting.any fun e => xMember e.frame == m && xPiece e.frame == pc
def execSchedDueEntry (n : Nat) (s : State) : Host.Outcome State Fault Refusal :=
  .next (issueEntry n 5 (fun e s =>
    let g := eb e 95 80
    if dueMet s g (iterSeq s g) (eb e 79 64) (eb e 63 40) then s else haltImage 1 s) s)
def execSchedRefreshEntry (n : Nat) (s : State) : Host.Outcome State Fault Refusal :=
  .next (issueEntry n 6 (fun e => openWin 6 (4 * eb e 95 93 + eb e 92 91) 0 0 (eb e 90 75)) s)
/-- POWER: ballast is the floor less the declared power (R323). -/
def execSchedPowerEntry (n : Nat) (s : State) : Host.Outcome State Fault Refusal :=
  .next (issueEntry n 7 (fun e s =>
    let w := eb e 95 80
    setBallast (s.sched.floorW - w) (onSched (fun x => { x with declared := w }) s)) s)
def setStack (k v : Nat) (s : State) : State := onMem (fun m => { m with selfRefresh := mset 0 m.selfRefresh k v }) s
def execSchedLiftEntry (n : Nat) (s : State) : Host.Outcome State Fault Refusal :=
  .next (issueEntry n 8 (fun e s =>
    if eb e 92 92 = 0 then liftTile (32 * eb e 95 93 + eb e 91 87) s else setStack (4 * eb e 95 93 + eb e 91 87) 0 s) s)
/-- GATE: an ACTIVE tile is gated, a stack goes to self-refresh. -/
def schedGate (e : SEntry) (s : State) : State :=
  let t := 32 * eb e 95 93 + eb e 91 87
  if eb e 92 92 = 1 then setStack (4 * eb e 95 93 + eb e 91 87) 1 s
  else if (tileOf s t).st = .active then onTileU t (fun x => { x with st := .gated, vregs := [], run := none }) (stopActive t s)
  else s
def execSchedGateEntry (n : Nat) (s : State) : Host.Outcome State Fault Refusal := .next (issueEntry n 9 schedGate s)
def execSchedUpdEntry (n : Nat) (s : State) : Host.Outcome State Fault Refusal :=
  .next (issueEntry n 10 (fun e => openWin 10 (eb e 79 77) (eb e 95 80) 0 (eb e 76 61)) s)
/-- FLAG declares; nothing moves. -/
def execSchedFlagEntry (n : Nat) (s : State) : Host.Outcome State Fault Refusal := .next (issueEntry n 11 (fun _ s => s) s)

/-- The last cycle of a period: the next iteration, or the end of the image. -/
def execSchedPeriodEnd (s : State) : Host.Outcome State Fault Refusal :=
  let img := enabledImg s
  .next (if schedEnabled s && s.sched.st == .running && s.sched.next == hdrEntries img then
    if s.sched.stopAtEnd || (hdrIters img != 0 && s.sched.iter == hdrIters img) then
      let s := onSched (fun x => { x with st := .ended, windows := [], stopAtEnd := false }) s
      record 0x09C4 [(8, s.sched.iter)] (setBallast s.sched.floorW s)
    else onSched (fun x => { x with iter := x.iter + 1, next := 0, periodAt := x.periodAt + hdrPeriod img }) s
  else s)

end Sys2Proof.Machine
end

