-- ==== Sys2Proof/Machine/Snaps.lean ====
section
/-! DEFINITION. Snapshot sides and the reel engine (chapter 14): the plan, seals, drains and their tiers, page restores. -/

set_option Elab.async false

namespace Sys2Proof.Machine

/-! ### The memory plan (R329 to R331) -/

def planRec (q : Req) : Plan :=
  ⟨prm q 0 1, prm q 1 1, prm q 2 1, prm q 3 1, prm q 4 1, if prm q 5 1 = 0 then 25 else prm q 5 1⟩
def planTotal (p : Plan) (d : Nat) : Nat :=
  2 * p.sideGib * (1 + p.twin) + p.basketGib + p.stageGib + (if d = p.jmirDie then 1 else 0)
/-- Regions (96·die + GiB) whose role a plan changes. -/
def roleChanges (p : Plan) (s : State) : List Nat :=
  let t := { s with set := { s.set with plan := p } }
  (List.range (96 * s.id.n)).filter fun r => hbmRole s (r * gib) != hbmRole t (r * gib)
def planInUse (p : Plan) (s : State) : Bool :=
  !s.set.updBinds.isEmpty || s.snap.reelOn ||
    (enabledGroups s).any (fun g => (gcfg s g).hbmQuota != 0 || (gcfg s g).stageQuota != 0) ||
    (roleChanges p s).any fun r => (bindOf s 5 r).ost != 0 && (bindOf s 5 r).slice != 0
def chkSnapPlan (q : Req) (s : State) : Option Nat :=
  let p := planRec q
  firstOf [refuseIf (40 < p.sideGib || 1 < p.twin || 8 < p.basketGib || 8 < p.stageGib || s.id.n ≤ p.jmirDie ||
      !inRange p.scrubPct 5 50) 0x0007,
    refuseIf ((dies s).any fun d => 96 < planTotal p d) 0x0A01,
    refuseIf (!s.id.tiles && (p.basketGib != 0 || p.stageGib != 0)) 0x0003,
    refuseIf (planInUse p s) 0x0A02]
/-- Sets the plan and marks the regions whose role changes; sides of another size start OPEN. -/
def setPlan (p : Plan) (s : State) : State :=
  let rs := roleChanges p s
  let s := if p.sideGib = s.set.plan.sideGib then s else forEach [0, 1] (fun sd s => onSide sd (fun _ => sideReset) (reopenSide sd s)) s
  forEach rs markRegion (modSet (fun t => { t with plan := p }) s)
def execSnapPlan (q : Req) (s : State) : Host.Outcome State Fault Refusal :=
  .next (plain 0x0A01 (chkSnapPlan q s) (act (setPlan (planRec q))) q s)
def execSnapPlanquery (q : Req) (s : State) : Host.Outcome State Fault Refusal := .next (plain 0x0A02 none (ans qPlan) q s)

/-! ### Seals (R332 to R335) -/

def chkSnapSeal (q : Req) (s : State) : Option Nat :=
  if 1 < prm q 0 1 then some 0x0007 else sealRefusal s (prm q 0 1)
def execSnapSeal (q : Req) (s : State) : Host.Outcome State Fault Refusal :=
  .next (plain 0x0A03 (chkSnapSeal q s) (act (askSeal (prm q 0 1) (prm q 8 8) false)) q s)

/-- Bytes of a side that a copy holds on a die now (R335). -/
def extentNow (s : State) (d : Nat) : Nat :=
  if s.set.updBinds.isEmpty then s.set.plan.sideGib * gib
  else s.set.updBinds.foldl (fun a e =>
    let n := stateBytes s e.2 d
    if n = 0 then a else max a ((e.2.sideOff + n + 4095) / 4096 * 4096)) 0
/-- The `SLICES` word of a die. -/
def sliceWord (s : State) (sd d : Nat) : Nat :=
  match sideSlices s sd d with
  | [] => 0
  | a :: r => a % 4096 + 4096 * (r.filter (· == a)).length
/-- A binding entry of a header. -/
def bindEntry (e : Nat × UpdBind) : List Byte :=
  let b := e.2
  fields 32 [(0, 1, e.1), (1, 1, b.prog), (2, 2, b.group), (4, 1, b.wfmt), (8, 4, b.elems), (16, 8, b.sideOff), (24, 8, b.doneStep)]
/-- The snapshot header of Table 14-2. -/
def headerFor (s : State) (sd snapId step ft : Nat) (host auto : Bool) : List Byte :=
  let all := List.range 8
  let h := fields 0xA0 ([(0, 4, 0x484E5351), (4, 2, 1), (6, 2, s.set.updBinds.length), (8, 8, snapId), (0x10, 8, step), (0x18, 8, ft),
      (0x20, 8, detClass s), (0x28, 1, sd), (0x29, 1, s.id.n), (0x2A, 1, s.set.plan.sideGib), (0x2B, 1, bit host 0 + bit auto 1),
      (0x2C, 4, ownCoord s 0), (0x30, 8, rdLe s.id.serial 0 8), (0x38, 8, rdLe s.id.serial 8 8)] ++
    all.map (fun d => (0x40 + 4 * d, 4, if d < s.id.n then sliceWord s sd d else 0)) ++
    all.map fun d => (0x60 + 8 * d, 8, if d < s.id.n then extentNow s d else 0)) ++ s.set.updBinds.flatMap bindEntry
  h ++ leBytes 4 (crc32c h)
def headerLen (h : List Byte) : Nat := 0xA4 + 32 * rdLe h 6 2
def hcrcOk (h : List Byte) : Bool :=
  let n := headerLen h
  rdLe h 0 4 == 0x484E5351 && h.length == n && rdLe h (n - 4) 4 == crc32c (h.take (n - 4))
/-- Is a write to a side not yet performed? -/
def writesWait (s : State) (sd : Nat) : Bool :=
  let at_ := fun a => sideAt s a == some sd
  (s.tile.tiles.any fun e => (e.2.outDma ++ (match e.2.run with | some r => r.dmas | none => [])).any fun m => m.write && at_ m.hbm) ||
    (s.core.cons.any fun e => e.2.any fun x => x.frame.typ == 2 && coF x.frame.dest == 0xF2 && at_ (xOffset x.frame)) ||
    s.mem.hostHeld.any fun h => h.write.isSome && at_ h.addr

/-! ### Copies and drains (R335 to R341) -/

def ackedAt (s : State) (tier target : Nat) : List Copy :=
  (s.set.copies.filter fun c => c.1 == tier && c.2.target == target && c.2.st != 1).map (·.2)
/-- Newest first. -/
def byNewest (l : List Copy) : List Copy :=
  l.foldl (fun a c => (a.filter fun x => c.snapId < x.snapId) ++ c :: a.filter fun x => x.snapId ≤ c.snapId) []
/-- Blocks of a target's slot, and how many slots its range holds (R338). -/
def targetOf (s : State) (t : Nat) : Option Target := mfind s.set.targets t
def slotBytes (s : State) (bs : Nat) : Nat := 65536 + (s.id.n * s.set.plan.sideGib * gib + bs - 1) / max 1 bs * bs
def targetSlots (s : State) (t : Target) : Nat := t.lbaCount * Config.targetBlock t.addr / slotBytes s (Config.targetBlock t.addr)
/-- The place that a drain takes at its tier (R336). -/
def drainPlace (s : State) (tier target : Nat) : Nat :=
  let acked := byNewest (ackedAt s tier target)
  match tier with
  | 1 => match acked with | c :: _ => 1 - c.place | [] => 0
  | 3 =>
    let n := match targetOf s target with | some t => targetSlots s t | none => 0
    match (List.range n).find? fun p => acked.all fun c => c.place != p with
    | some p => p
    | none => ((acked.drop s.set.reel.keep3).getLast?.map (·.place)).getD 0
  | _ => 0
def tierFlag (tier : Nat) : Nat := 1 <<< (tier - 1)
/-- Starts a drain of a seal to a tier; the copy in its place is invalid from here on. -/
def startDrain (sd tier target snapId : Nat) (header : List Byte) (ticket : Option Nat) (emergency : Bool) (s : State) : State :=
  let p := drainPlace s tier target
  let c : Copy := ⟨snapId, rdLe header 0x10 8, rdLe header 0x18 8, 1, p, target, header⟩
  let s := modSet (fun t => { t with copies := (t.copies.filter fun x =>
    !(x.1 == tier && x.2.target == target && (x.2.snapId == snapId || (tier != 2 && x.2.place == p)))) ++ [(tier, c)] }) s
  let s := onSnap (fun x => { x with
    drains := x.drains ++ [⟨sd, tier, target, snapId, header, List.replicate 8 0, p, 0, ticket, emergency, x.emergency && !emergency⟩],
    sinceSeals := x.sinceSeals.set (tier - 1) 0, lastStart := x.lastStart.set (tier - 1) (some s.mono) }) s
  match tier with
  | 2 => onFlash (fun x => { x with objs := mput x.objs snapId ⟨[], superBytes s, 0, none, false, false, header⟩ }) s
  | 3 => match targetOf s target with
    | some t => nvmeSend target 0 (t.firstLba * Config.targetBlock t.addr + p * slotBytes s (Config.targetBlock t.addr))
        (List.replicate 4096 0) s
    | none => s
  | _ => s
def onDrain (d : Drain) (f : Drain → Drain) (s : State) : State :=
  onSnap (fun x => { x with drains := x.drains.map fun y => if sameDrain y d then f y else y }) s
/-- Is a tier-2 object read by a page restore or a side restore (R351)? -/
def objRead (s : State) (id : Nat) : Bool :=
  (s.snap.pages.any fun p => p.tier == 2 && (sideOf s p.side).snapId == id) || s.snap.restores.any fun r => r.tier == 2 && r.snapId == id
/-- Releases tier-2 copies beyond `KEEP2`: oldest first, each once nothing reads it. -/
def releaseOld (s : State) : State :=
  let old := (byNewest (ackedAt s 2 0)).drop s.set.reel.keep2
  forEach old (fun c s =>
    let s := modSet (fun t => { t with copies := t.copies.filter fun x => !(x.1 == 2 && x.2.snapId == c.snapId) }) s
    if objRead s c.snapId then onFlash (fun x => { x with objs := mupd x.objs c.snapId fun o => { o with releaseDue := true } }) s
    else freeObj c.snapId s) s
/-- Is a drain's ticket SUSPENDED? -/
def drainHeld (s : State) (d : Drain) : Bool := d.ticket.any fun tk => (ticketOf s tk).any fun t => t.ost == .suspended
/-- Drains that an emergency suspended go on, but for those that `OP.SUSPEND` holds. -/
def resumeDrains (s : State) : State :=
  onSnap (fun x => { x with drains := x.drains.map fun d => { d with suspended := drainHeld s d } }) s
def endEmergency (s : State) : State := resumeDrains (onSnap (fun x => { x with emergency := false }) s)
/-- A tier's acknowledgement is stored: it is recorded and takes effect (R335). -/
def ackDone (d : Drain) (s : State) : State :=
  let s := modSet (fun t => { t with
    copies := t.copies.map fun c => if c.1 = d.tier ∧ c.2.snapId = d.snapId ∧ c.2.target = d.target then (c.1, { c.2 with st := 0 }) else c }) s
  let s := record 0x0AC2 [(8, d.snapId), (1, d.tier)] s
  let s := onSnap (fun x => { x with drains := x.drains.filter fun y => !sameDrain y d }) s
  let total := d.cursors.foldl (· + ·) 0 * 4096
  let s := whenS ((sideOf s d.side).snapId == d.snapId) (onSide d.side fun x => { x with
    acks := x.acks ||| tierFlag d.tier, drained := x.drained.set (d.tier - 1) total }) s
  let s := whenS (d.tier == 2) releaseOld s
  let s := whenS d.emergency endEmergency s
  match d.ticket with
  | some tk => ticketDone tk s
  | none => s

/-- A tier acknowledges a copy: journaled and mirrored first (Table 16-5). -/
def ackCopy (d : Drain) (s : State) : State :=
  let s := journalOwn 0x0A02 (leBytes 8 d.snapId ++ leBytes 1 d.tier ++ leBytes 1 d.target) s
  if mustAck s then
    onDrain d (fun x => { x with phase := 4 }) (onGemel (fun g => { g with ackWait := g.ackWait ++ [(d, s.cmd.jseq)] }) s)
  else ackDone d s

def reelTier (s : State) (tier : Nat) : Bool :=
  let r := s.set.reel
  match tier with | 1 => 0 < r.t1Every | 2 => 0 < r.t2Every | _ => 0 < r.t3MinS
/-- Is a drain due at a seal (Table 14-5)? -/
def drainDue (s : State) (tier : Nat) : Bool :=
  let r := s.set.reel
  let n := s.snap.sinceSeals.getD (tier - 1) 0
  reelTier s tier && match s.snap.lastStart.getD (tier - 1) none with
    | none => true
    | some at_ =>
      let past := fun sec => at_ + cycS sec ≤ s.mono
      match tier with
      | 1 => r.t1Every ≤ n
      | 2 => past r.t2MinS && (r.t2Every ≤ n || past r.t2MaxS)
      | _ => past r.t3MinS
/-- Targets that a tier-3 drain of the policy goes to: those configured and up. -/
def upTargets (s : State) : List Nat := (s.set.targets.map (·.1)).filter fun t => mget true s.snap.targetUp t
/-- Starts the drains due at a seal; one still running at a tier leaves the tier's due (assumption 71). -/
def startDue (sd snapId : Nat) (header : List Byte) (s : State) : State :=
  if s.snap.reelOn then
    forEach [1, 2, 3] (fun tier s =>
      if drainDue s tier && !s.snap.drains.any (·.tier == tier) then
        if tier = 3 then forEach (upTargets s) (fun t => startDrain sd 3 t snapId header none false) s
        else startDrain sd tier 0 snapId header none false s
      else s) s
  else s
/-- A side is sealed at step `k` (R333, R335): the seal's number is counted and journaled, the header made, the drains due
at it started. -/
def takeSeal (side k : Nat) (host auto : Bool) (s : State) : State :=
  let id := s.set.snapId + 1
  let s := journalOwn 0x0A01 (leBytes 8 id) (modSet (fun t => { t with snapId := id }) s)
  let h := headerFor s side id k (ftNs s) host auto
  let s := onSide side (fun x => { x with
    sealed := true, snapId := id, step := k, ftSeal := ftNs s, header := h, acks := 0, drained := [0, 0, 0], pending := none }) s
  let s := record 0x0AC1 [(1, side), (8, id), (8, k)] s
  let s := onSnap (fun x => { x with sinceSeals := x.sinceSeals.map (· + 1) }) s
  startDue side id h s
/-- Can a seal asked for not take effect? -/
def sealDropped (side k : Nat) (host : Bool) (s : State) : Bool :=
  s.sys.keelLost || (sealRefusal s side).isSome || (!host && (sideOf s side).wholeAt != some k)
/-- Every write performed, a pending seal takes effect (R333). -/
def execSealTakeEffect (side : Nat) (s : State) : Host.Outcome State Fault Refusal :=
  .next (match (sideOf s side).pending with
    | none => s
    | some (k, host, auto) =>
      if 1 < side || writesWait s side then s
      else if sealDropped side k host s then onSide side (fun x => { x with pending := none }) s
      else takeSeal side k host auto s)

/-! ### SNAP.REELCFG, SNAP.REELENABLE, SNAP.DRAIN -/

def reelRec (q : Req) : ReelPolicy := ⟨prm q 0 1, prm q 1 1, prm q 2 1, prm q 3 1, prm q 4 2, prm q 8 4, prm q 12 4, prm q 16 4⟩
def chkSnapReelcfg (q : Req) (s : State) : Option Nat :=
  let r := reelRec q
  firstOf [refuseIf (!inRange r.keep2 1 16 || !inRange r.keep3 1 16 || !inRange r.t3Gbps 1 800 || 86400 < r.t3MinS) 0x0007,
    refuseIf s.snap.reelOn 0x0A08]
def execSnapReelcfg (q : Req) (s : State) : Host.Outcome State Fault Refusal :=
  .next (plain 0x0A04 (chkSnapReelcfg q s) (act (modSet fun t => { t with reel := reelRec q })) q s)
/-- Is there no twin that tier 1 can use (R339)? -/
def noTwin (s : State) : Bool :=
  s.gemel.st != .paired || !(s.gemel.offer.any fun o => o.sideGib == s.set.plan.sideGib && o.twin == s.set.plan.twin)
/-- Superblocks of a whole copy. -/
def superNeed (s : State) : Nat := (s.id.n * s.set.plan.sideGib * gib + superBytes s - 1) / max 1 (superBytes s)
def chkReelOn (s : State) : Option Nat :=
  firstOf [refuseIf (reelTier s 2 && !s.id.flash) 0x0003, refuseIf (reelTier s 1 && noTwin s) 0x0A04,
    refuseIf (reelTier s 3 && s.set.targets.isEmpty) 0x0A05, refuseIf (s.set.plan.sideGib == 0) 0x0A02,
    refuseIf (reelTier s 2 && usableSupers s < (s.set.reel.keep2 + 1) * superNeed s) 0x0B03]
def chkSnapReelenable (q : Req) (s : State) : Option Nat := if (prm q 0 1).testBit 0 then chkReelOn s else none
def setReel (on_ : Bool) (s : State) : State :=
  if on_ then onSnap (fun x => { x with reelOn := true }) s
  else forEach s.snap.drains abandonDrain (onSnap (fun x => { x with reelOn := false }) s)
def execSnapReelenable (q : Req) (s : State) : Host.Outcome State Fault Refusal :=
  .next (plain 0x0A05 (chkSnapReelenable q s) (act (setReel ((prm q 0 1).testBit 0))) q s)
/-- Why a tier cannot take a drain. -/
def tierChk (s : State) (tier target : Nat) : Option Nat :=
  match tier with
  | 1 => firstOf [refuseIf s.gemel.holdsRole 0x0C05, refuseIf (noTwin s) 0x0A04]
  | 2 => refuseIf (!s.id.flash) 0x0003
  | _ => refuseIf (targetOf s target).isNone 0x0A05
def drainChk (s : State) (sd tier target : Nat) : Option Nat :=
  firstOf [tierChk s tier target, refuseIf (!(sideOf s sd).sealed) 0x0005,
    refuseIf (s.snap.drains.any fun d => d.tier == tier && d.target == (if tier = 3 then target else 0)) 0x0006]
def chkSnapDrain (q : Req) (s : State) : Option Nat :=
  let tier := prm q 1 1
  firstOf [refuseIf (1 < prm q 0 1 || !inRange tier 1 3 || 7 < prm q 2 1) 0x0007, drainChk s (prm q 0 1) tier (prm q 2 1)]
def execSnapDrain (q : Req) (s : State) : Host.Outcome State Fault Refusal := .next (longOp 0x0A07 1 true (chkSnapDrain q s) q s)
def startSnapDrain (t : Ticket) (s : State) : State :=
  let sd := rdLe t.param 0 1
  let tier := rdLe t.param 1 1
  let tg := rdLe t.param 2 1
  match drainChk s sd tier tg with
  | some r => ticketFail t.ticket r s
  | none => startDrain sd tier (if tier = 3 then tg else 0) (sideOf s sd).snapId (sideOf s sd).header (some t.ticket) false s

/-! ### SNAP.TARGET (R338) -/

def targetRec (q : Req) : Target :=
  let b := inData q
  ⟨b.take 16, if rdLe b 16 2 = 0 then 4420 else rdLe b 16 2, sliceBytes b 18 223, prm q 4 4, prm q 8 8, prm q 16 8⟩
def targetBad (s : State) (t : Target) : Bool :=
  let bs := Config.targetBlock t.addr
  (bs != 512 && bs != 4096) || targetSlots s t < s.set.reel.keep3 + 1
def chkSnapTarget (q : Req) (s : State) : Option Nat :=
  let clr := (prm q 1 1).testBit 0
  firstOf [refuseIf (7 < prm q 0 1 || (!clr && rdLe (inData q) 241 15 != 0)) 0x0007,
    refuseIf (s.snap.drains.any fun d => d.tier == 3 && d.target == prm q 0 1) 0x0006,
    refuseIf (!clr && targetBad s (targetRec q)) 0x0A05]
/-- Names a target, or clears it; the copies of another target at its index are no longer known. -/
def setTarget (i : Nat) (t : Option Target) (s : State) : State :=
  if mfind s.set.targets i = t then s
  else
    let s := modSet (fun x => { x with
      targets := (match t with | some y => mput x.targets i y | none => mdel x.targets i),
      copies := x.copies.filter fun c => !(c.1 == 3 && c.2.target == i) }) s
    let s := onSnap (fun x => { x with targetUp := mdel x.targetUp i, kaWait := mdel x.kaWait i }) s
    if t.isSome then nvmeSend i 3 0 [] s else onNet (fun n => { n with qps := mdel n.qps i }) s
def execSnapTarget (q : Req) (s : State) : Host.Outcome State Fault Refusal :=
  let clr := (prm q 1 1).testBit 0
  .next (runCommand (cat 0x0A06) (clr || (inData q).length == 256) 2 (chkSnapTarget q s) []
    (act (setTarget (prm q 0 1) (if clr then none else some (targetRec q)))) q s)

/-! ### Movers (R340) -/

/-- A bad block that a mover finds: the seal is abandoned at every tier, and the step that reads the side fails (Table 14-6). -/
def moverBad (d : Drain) (a : Nat) (s : State) : State :=
  let s := abandonSeal d.snapId (badBlock a s)
  forEach (s.set.updBinds.map (·.2.group)).eraseDups (fun g s =>
    forEach (openSeqs s g) (fun n s =>
      if (seqOf s g n).any fun q => q.op == 6 && (updStep q + 1) % 2 == d.side then failSeq g n 1 s else s) s) s
/-- Bytes of a copy on the dies before one. -/
def extentBefore (h : List Byte) (d : Nat) : Nat := (List.range d).foldl (fun a x => a + extentOf h x) 0
def copyBytes (h : List Byte) : Nat := extentBefore h 8
def dataMoved (d : Drain) : Bool := (List.range 8).all fun i => extentOf d.header i ≤ 4096 * d.cursors.getD i 0
/-- Free superblocks in the order of R351. -/
def freeSupers (s : State) : List Nat := (List.range superCount).filter fun j => (superOf s j).st == 0
def nextSuper (s : State) : Option Nat :=
  (freeSupers s).foldl (fun a j => match a with
    | some k => if (superOf s j).erases < (superOf s k).erases then some j else some k
    | none => some j) none
def flashWidth (s : State) : Nat := ((List.range (flashDies s)).filter (flashDieOk s)).length
/-- Does an object need another superblock before its next piece? -/
def needsSuper (o : FlashObj) : Bool := o.blocks.length * o.sbBytes ≤ o.bytes
/-- The superblock and page that the object's byte `n` falls in. -/
def objPage (o : FlashObj) (n : Nat) : Nat × Nat :=
  (o.blocks.getD (n / max 1 o.sbBytes) 0, n % max 1 o.sbBytes / 16384)
/-- A piece goes to the page being filled. -/
def flashPut (id : Nat) (o : FlashObj) (bs : List Byte) (s : State) : State :=
  let x := objPage o o.bytes
  let old := s.flash.progs.find? fun p => !p.hdr && p.sb == x.1 && p.page == x.2
  let p : PageProg := ⟨id, false, x.1, x.2, (match old with | some p => p.bytes | none => []) ++ bs⟩
  onFlash (fun f => { f with
    progs := (f.progs.filter fun y => y.hdr || y.sb != x.1 || y.page != x.2) ++ [p],
    objs := mput f.objs id { o with bytes := o.bytes + bs.length } }) s
/-- A tier-2 drain that finds no superblock is abandoned (R352). -/
def flashFull (d : Drain) (s : State) : State := record 0x0BC7 [(8, d.snapId)] (abandonDrain d s)
/-- Where a drain's piece goes: none when it must wait. -/
def putPiece (d : Drain) (die : Nat) (bs : List Byte) (s : State) : Option State :=
  let off := extentBefore d.header die + 4096 * d.cursors.getD die 0
  let a := die * shardB + sideBase s d.side + 4096 * d.cursors.getD die 0
  match d.tier with
  | 1 => some (sendSnap die (snapFrame s d.snapId 0 d.place a bs) s)
  | 2 =>
    match mfind s.flash.objs d.snapId with
    | none => none
    | some o =>
      if needsSuper o then
        match nextSuper s with
        | none => none
        | some j =>
          let o := { o with blocks := o.blocks ++ [j] }
          some (flashPut d.snapId o bs (onFlash (fun f => { f with
            supers := mput f.supers j { superOf s j with st := 1, object := d.snapId, pages := 0 } }) s))
      else some (flashPut d.snapId o bs s)
  | _ => (targetOf s d.target).map fun t =>
      let b := Config.targetBlock t.addr
      nvmeSend d.target 0 (t.firstLba * b + d.place * slotBytes s b + 65536 + off) bs s
/-- Do the lower dies' pieces come first (R348)? -/
def lowerDone (d : Drain) (die : Nat) : Bool :=
  d.tier != 2 || (List.range die).all fun i => extentOf d.header i ≤ 4096 * d.cursors.getD i 0
/-- Is there room on the flash, or a superblock on its way? -/
def flashStuck (s : State) (d : Drain) : Bool :=
  d.tier == 2 && (mfind s.flash.objs d.snapId).any needsSuper && (freeSupers s).isEmpty && !s.flash.supers.any fun e => e.2.st == 2
/-- Has every tier-1 data frame left and been acknowledged by the link? -/
def snapQuiet (s : State) : Bool :=
  (dies s).all fun d => (lpQueues s (moorLp d)).all (fun e => e.2.all fun x => x.frame.typ != 10) &&
    (linkOf s (moorLp d)).txq.all fun t => t.frame.typ != 10
/-- After the data: the header of tier 1, the first flush of tier 3. -/
def afterData (d : Drain) (s : State) : State :=
  match d.tier with
  | 1 =>
    if snapQuiet s then
      let m := ((moorUp s).head?).getD 0
      onDrain d (fun x => { x with phase := 3 })
        (forEach (chunksOf 4096 d.header) (fun p s => sendSnap m (snapFrame s d.snapId 1 d.place 0 p) s) s)
    else s
  | 3 => onDrain d (fun x => { x with phase := 1 }) (nvmeSend d.target 1 0 [] s)
  | _ => s
/-- A mover's step: the next piece of its die, or what follows the last. `bad`: the read fails its CRC-32. -/
def moverStep (d : Drain) (die : Nat) (bad : Bool) (s : State) : State :=
  let c := d.cursors.getD die 0
  if extentOf d.header die ≤ 4096 * c then (if dataMoved d then afterData d s else s)
  else
    let a := die * shardB + sideBase s d.side + 4096 * c
    if !shardOk s die || !lowerDone d die then s
    else
      let s := wakeStack a s
      if !marked s a && (bad || hbmBad s a 4096) then moverBad d a s
      else if flashStuck s d then flashFull d s
      else match putPiece d die (hbmRead s a 4096) s with
        | some s => onDrain d (fun x => { x with cursors := lmod x.cursors die (· + 1) }) s
        | none => s
def execMoverPiece (tier die : Nat) (bad : Bool) (s : State) : Host.Outcome State Fault Refusal :=
  .next (if s.sys.keelLost then s
  else match s.snap.drains.find? fun d => d.tier == tier && !d.suspended && d.phase == 0 &&
      (4096 * d.cursors.getD die 0 < extentOf d.header die || dataMoved d) with
    | some d => moverStep d die bad s
    | none => s)

/-! ### Tier-1 frames (R337, R342) -/

def xSnapId (f : Frame) : Nat := bitsAt (extOf f) 255 192
def xSkind (f : Frame) : Nat := bitsAt (extOf f) 191 188
def xSlot (f : Frame) : Nat := bitsAt (extOf f) 187 187
def xAddr (f : Frame) : Nat := bitsAt (extOf f) 175 136
/-- Did the frame come over port 30 from the twin? -/
def fromTwin (s : State) (e : QEnt) : Bool :=
  (e.inL.any fun l => lpLoc l == 30) && s.gemel.mirCoord != 0 && e.frame.src >>> 8 == s.gemel.mirCoord >>> 8
/-- Where in this module's twin slot an address of the sender's side lies. -/
def twinAddr (s : State) (slot a : Nat) : Option Nat :=
  let n := s.set.plan.sideGib * gib
  let w := a % shardB
  if s.set.plan.twin = 1 ∧ a / shardB < s.id.n ∧ w < 2 * n then some (a / shardB * shardB + twinBase s slot + w % n) else none
def snapDrop (s : State) : State := onSnap (fun x => { x with snapDrop := sat 32 (x.snapDrop + 1) }) s
/-- The head of a die's `SNAP` queue, if it is of a kind. -/
def takeSnap (die kind : Nat) (bad : Bool) (f : QEnt → State → State) (s : State) : State :=
  consume (64 * die + 4) bad (fun x => xSkind x == kind || 5 < xSkind x)
    (fun e s => let s := dropEnt e s; if fromTwin s e && xSkind e.frame == kind then f e s else snapDrop s) s
/-- A copy in this module's slots is being overwritten: its header is no longer valid. -/
def slotWritten (slot snapId : Nat) (s : State) : State :=
  if (mfind s.snap.twinSlots slot).any (·.snapId == snapId) then s
  else onSnap (fun x => { x with
    twinSlots := mput x.twinSlots slot ⟨snapId, 0, 0, 1, slot, 0, []⟩, hdrRx := mdel x.hdrRx slot }) s
def execSnapDataRx (die : Nat) (bad : Bool) (s : State) : Host.Outcome State Fault Refusal :=
  .next (takeSnap die 0 bad (fun e s =>
    let f := e.frame
    if s.gemel.holdsRole then snapDrop s
    else match twinAddr s (xSlot f) (xAddr f), twinAddr s (xSlot f) (xAddr f + f.payload.length - 1) with
    | some a, some b =>
      if b + 1 = a + f.payload.length then hbmWrite a f.payload (slotWritten (xSlot f) (xSnapId f) s) else snapDrop s
    | _, _ => snapDrop s) s)
/-- The pieces of a header, in order; the last brings the ACK. -/
def execSnapHeaderRx (die : Nat) (bad : Bool) (s : State) : Host.Outcome State Fault Refusal :=
  .next (takeSnap die 1 bad (fun e s =>
    let f := e.frame
    if s.set.plan.twin ≠ 1 ∨ s.gemel.holdsRole then snapDrop s
    else
      let k := xSlot f
      let s := slotWritten k (xSnapId f) s
      let h := mget [] s.snap.hdrRx k ++ f.payload
      let n := headerLen h
      if h.length < n then onSnap (fun x => { x with hdrRx := mput x.hdrRx k h }) s
      else
        let h := h.take n
        let s := onSnap (fun x => { x with hdrRx := mdel x.hdrRx k }) s
        if hcrcOk h && rdLe h 8 8 == xSnapId f then
          let s := onSnap (fun x => { x with
            twinSlots := mput x.twinSlots k ⟨xSnapId f, rdLe h 0x10 8, rdLe h 0x18 8, 0, k, 0, h⟩ }) s
          sendSnap die (snapFrame s (xSnapId f) 2 k 0 []) s
        else snapDrop s) s)
def execSnapAckRx (die : Nat) (bad : Bool) (s : State) : Host.Outcome State Fault Refusal :=
  .next (takeSnap die 2 bad (fun e s =>
    match s.snap.drains.find? fun d => d.tier == 1 && d.snapId == xSnapId e.frame && d.phase == 3 with
    | some d => ackCopy d s
    | none => snapDrop s) s)
/-- The twin answers for a page of its slot; `memBad`: its block CRC fails as it is read. -/
def execPageReqRx (die : Nat) (bad memBad : Bool) (s : State) : Host.Outcome State Fault Refusal :=
  .next (takeSnap die 3 bad (fun e s =>
    let f := e.frame
    let k := xSlot f
    let answer := fun (kind : Nat) (p : List Byte) (s : State) => sendSnap die (snapFrame s (xSnapId f) kind k (xAddr f) p) s
    match twinAddr s k (xAddr f) with
    | some a =>
      let held := (mfind s.snap.twinSlots k).any fun c => c.snapId == xSnapId f && c.st == 0
      if !held then answer 5 [] s
      else if memBad || hbmBad s a 4096 then answer 5 [] (whenS memBad (badBlock a) s)
      else answer 4 (hbmRead s a 4096) s
    | none => answer 5 [] s) s)

/-! ### Pages (R342) -/

/-- A page that cannot be had also ends the steps that wait for it. -/
def pageGone (p : PageRestore) (s : State) : State :=
  let s := pageLost p s
  let hit := s.snap.stepHeld.filter (·.1 == p.addr)
  let s := onSnap (fun x => { x with stepHeld := x.stepHeld.filter (·.1 != p.addr) }) s
  forEach hit (fun h s => if seqOpen s h.2.1 h.2.2.1 then interrupt h.2.1 h.2.2.1 h.2.2.2 s else s) s
/-- The next tier in turn, or none is left. -/
def nextPage (p : PageRestore) (s : State) : State :=
  match nextTier s p.tier (sideOf s p.side).snapId with
  | some t => askPage { p with tier := t } s
  | none => pageGone p s
/-- Writes a restored page whole; what waited for it goes on. -/
def pageBack (p : PageRestore) (bs : List Byte) (s : State) : State :=
  let s := onSnap (fun x => { x with pages := x.pages.filter (· != p) }) s
  if (sideOf s p.side).sealed then
    let s := record 0x0AC4 [(1, p.side), (8, p.addr), (1, p.tier)] (hbmWrite p.addr (sliceBytes bs 0 4096) s)
    let hit := s.snap.stepHeld.filter (·.1 == p.addr)
    let s := onSnap (fun x => { x with stepHeld := x.stepHeld.filter (·.1 != p.addr) }) s
    let s := forEach hit (fun h s => if seqOpen s h.2.1 h.2.2.1 then chunkLost h.2.1 h.2.2.1 h.2.2.2 0 s else s) s
    serveHeld p.addr (p.addr + 4096) s
  else pageGone p s
def pageAsked (s : State) (tier addr : Nat) : Option PageRestore := s.snap.pages.find? fun p => p.tier == tier && p.addr == addr
def execPageDataRx (die : Nat) (bad : Bool) (s : State) : Host.Outcome State Fault Refusal :=
  .next (takeSnap die 4 bad (fun e s =>
    match pageAsked s 1 (xAddr e.frame) with
    | some p => if (sideOf s p.side).snapId = xSnapId e.frame then pageBack p e.frame.payload s else snapDrop s
    | none => snapDrop s) s)
def execNoCopyRx (die : Nat) (bad : Bool) (s : State) : Host.Outcome State Fault Refusal :=
  .next (takeSnap die 5 bad (fun e s =>
    match pageAsked s 1 (xAddr e.frame) with
    | some p => nextPage p s
    | none => snapDrop s) s)

/-! ### Tier 3, restores, emergencies -/

/-- A target that fails: its drain is abandoned (R338), and its page restores go on. -/
def targetDown (t : Nat) (s : State) : State :=
  let ds := s.snap.drains.filter fun d => d.tier == 3 && d.target == t
  let s := forEach ds abandonDrain s
  let s := onSnap (fun x => { x with targetUp := mput x.targetUp t false, kaWait := mdel x.kaWait t }) s
  let s := onNet (fun n => { n with qps := mdel n.qps t }) s
  let s := record 0x0AC7 [(1, t)] s
  forEach (s.snap.pages.filter fun p => p.tier == 3) nextPage s
/-- A flush of a target completes: the first brings the header and the second flush, the second the acknowledgement. -/
def execTargetFlushDone (tgt : Nat) (ok : Bool) (s : State) : Host.Outcome State Fault Refusal :=
  .next (match s.snap.drains.find? fun d => d.tier == 3 && d.target == tgt && (d.phase == 1 || d.phase == 3) with
    | none => s
    | some d =>
      if !ok then targetDown tgt s
      else if d.phase = 3 then ackCopy d s
      else match targetOf s tgt with
        | some t =>
          let b := Config.targetBlock t.addr
          onDrain d (fun x => { x with phase := 3 })
            (nvmeSend tgt 1 0 [] (nvmeSend tgt 0 (t.firstLba * b + d.place * slotBytes s b) d.header s))
        | none => s)
def execTargetReconnect (tgt : Nat) (ok : Bool) (s : State) : Host.Outcome State Fault Refusal :=
  .next (if mhas s.set.targets tgt && !mget true s.snap.targetUp tgt then
    let s := nvmeSend tgt 3 0 [] s
    whenS ok (onSnap fun x => { x with targetUp := mdel x.targetUp tgt }) s
  else s)
/-- The Keep Alive timer: unanswered since the last one, the target has failed; else the next one goes out. -/
def execNvmeKeepAlive (tgt : Nat) (s : State) : Host.Outcome State Fault Refusal :=
  .next (if mhas s.set.targets tgt && mget true s.snap.targetUp tgt then
    if mget false s.snap.kaWait tgt then targetDown tgt s
    else nvmeSend tgt 4 0 [] (onSnap (fun x => { x with kaWait := mput x.kaWait tgt true }) s)
  else s)

/-- The copy that a restore names. -/
def copyFor (s : State) (tier target snapId : Nat) : Option Copy :=
  (s.set.copies.find? fun c => c.1 == tier && c.2.snapId == snapId && (tier != 3 || c.2.target == target)).map (·.2)
/-- Is a header at odds with the plan, the bindings of the side or the update bindings (R343)? -/
def headerUnfit (s : State) (sd : Nat) (h : List Byte) : Bool :=
  let ents := (List.range (rdLe h 6 2)).map fun i => sliceBytes h (0xA0 + 32 * i) 24
  rdLe h 0x29 1 != s.id.n || rdLe h 0x2A 1 != s.set.plan.sideGib || rdLe h 0x2C 4 != ownCoord s 0 ||
    (List.range 8).any (fun d => rdLe h (0x40 + 4 * d) 4 != (if d < s.id.n then sliceWord s sd d else 0)) ||
    ents != s.set.updBinds.map fun e => (bindEntry e).take 24
def restoreChk (s : State) (sd tier target snapId : Nat) : Option Nat :=
  match copyFor s tier target snapId with
  | none => some 0x0A06
  | some c =>
    firstOf [refuseIf (c.st != 0 || !hcrcOk c.header) 0x0A06, refuseIf (headerUnfit s sd c.header) 0x0A07,
      refuseIf (s.set.updBinds.any (fun e => groupSt s e.2.group == 2) || s.snap.drains.any (·.side == sd)) 0x0A09]
def chkSnapRestore (q : Req) (s : State) : Option Nat :=
  let sd := prm q 0 1
  firstOf [refuseIf (1 < sd || !inRange (prm q 1 1) 1 3 || 7 < prm q 2 1) 0x0007,
    refuseIf (s.snap.restores.any (·.side == sd)) 0x0006, restoreChk s sd (prm q 1 1) (prm q 2 1) (prm q 8 8)]
def execSnapRestore (q : Req) (s : State) : Host.Outcome State Fault Refusal := .next (longOp 0x0A08 2 true (chkSnapRestore q s) q s)
def startRestore (t : Ticket) (s : State) : State :=
  let sd := rdLe t.param 0 1
  let tier := rdLe t.param 1 1
  let tg := rdLe t.param 2 1
  let id := rdLe t.param 8 8
  match restoreChk s sd tier tg id, copyFor s tier tg id with
  | none, some c =>
    onSnap (fun x => { x with restores := x.restores ++ [⟨t.ticket, sd, tier, tg, id, c.header⟩] }) (reopenSide sd s)
  | some r, _ => ticketFail t.ticket r s
  | _, none => ticketFail t.ticket 0x0A06 s
/-- Where byte `n` of an object lies in the array's data. -/
def flashAddr (o : FlashObj) (n : Nat) : Nat :=
  (o.blocks.getD (n / max 1 o.sbBytes) 0 <<< 33) + n % max 1 o.sbBytes
def flashBytes (s : State) (id n len : Nat) : List Byte :=
  match mfind s.flash.objs id with
  | some o => memRead s.flash.data (flashAddr o n) len
  | none => List.replicate len 0
/-- A page of a copy as its tier gives it: byte offset in the copy. The twin's and the target's contents are free. -/
def copyPage (s : State) (r : Restore) (off : Nat) : List Byte :=
  match r.tier with
  | 1 => Config.twinData r.snapId off 4096
  | 2 => flashBytes s r.snapId off 4096
  | _ => Config.targetData r.target off 4096
/-- Writes a copy's extent on a die and marks the granules beyond it. -/
def restoreDie (r : Restore) (d : Nat) (s : State) : State :=
  let n := extentOf r.header d
  let base := d * shardB + sideBase s r.side
  let s := forEach (List.range s.set.plan.sideGib) (fun g => markRegion ((base + g * gib) / gib)) s
  let s := forEach (List.range ((n + 65535) / 65536)) (fun k => fillGranule (base + 65536 * k)) s
  forEach (List.range (n / 4096)) (fun k s =>
    hbmWrite (base + 4096 * k) (sliceBytes (copyPage s r (extentBefore r.header d + 4096 * k)) 0 4096) s) s
def headerDone (h : List Byte) (b : Nat) : Option Nat :=
  ((List.range (rdLe h 6 2)).find? fun i => rdLe h (0xA0 + 32 * i) 1 == b).map fun i => rdLe h (0xA0 + 32 * i + 24) 8
/-- The steps that a restored copy's header gives its bindings, journaled. -/
def restoreSteps (h : List Byte) (s : State) : State :=
  let s := modSet (fun t => { t with updBinds := t.updBinds.map fun e =>
    (e.1, match headerDone h e.1 with | some k => { e.2 with doneStep := k } | none => e.2) }) s
  forEach s.set.updBinds (fun e => journalOwn 0x0804 (leBytes 1 e.1 ++ leBytes 8 e.2.doneStep)) s
/-- A restore ends: the side is sealed with the copy's snapshot, and the accesses that waited for it go on. -/
def endRestore (r : Restore) (s : State) : State :=
  let s := restoreSteps r.header (forEach (dies s) (restoreDie r) s)
  let k := rdLe r.header 0x10 8
  let s := onSide r.side (fun _ => { sideReset with
    sealed := true, snapId := r.snapId, step := k, ftSeal := rdLe r.header 0x18 8, header := r.header,
    acks := tierFlag r.tier, wholeAt := if s.set.updBinds.isEmpty then none else some k }) s
  let s := onSnap (fun x => { x with restores := x.restores.filter (· != r) }) s
  let s := record 0x0AC6 [(8, r.snapId), (1, r.tier), (8, detClass s), (8, rdLe r.header 0x20 8)] s
  let s := forEach (dies s) (fun d => serveHeld (d * shardB + sideBase s r.side) (d * shardB + sideBase s r.side + s.set.plan.sideGib * gib)) s
  ticketDone r.ticket s
/-- The last writes of a restore (R343). -/
def execRestoreComplete (side : Nat) (s : State) : Host.Outcome State Fault Refusal :=
  .next (match s.snap.restores.find? fun r => r.side == side && runningTk s r.ticket 0x0A08 with
    | none => s
    | some r => endRestore r s)

/-- The newest SEALED side that a tier has not acknowledged. -/
def newestSeal (s : State) (tier : Nat) : Option Nat :=
  let ok := fun sd => (sideOf s sd).sealed && !(sideOf s sd).acks.testBit (tier - 1)
  if ok 0 && (!ok 1 || s.snap.sideB.snapId < s.snap.sideA.snapId) then some 0 else if ok 1 then some 1 else none
/-- Tier and target of an emergency drain. -/
def emergencyTier (s : State) : Option (Nat × Nat) :=
  if s.id.flash then some (2, 0)
  else if s.gemel.st = .paired then some (1, 0)
  else (s.set.targets.map (·.1)).head?.map fun t => (3, t)
/-- The emergency drain (R341). -/
def startEmergency (s : State) : State :=
  let s := onSnap (fun x => { x with drains := x.drains.map fun d => { d with suspended := true } }) s
  match emergencyTier s with
  | none => resumeDrains s
  | some (tier, tg) =>
    match newestSeal s tier with
    | none => resumeDrains s
    | some sd =>
      let x := sideOf s sd
      let s := record 0x0AC8 [(8, x.snapId), (1, tier)] (onSnap (fun y => { y with emergency := true }) s)
      match s.snap.drains.find? fun d => d.tier == tier && d.target == tg && d.snapId == x.snapId with
      | some d => onDrain d (fun y => { y with emergency := true, suspended := false }) s
      | none => startDrain sd tier tg x.snapId x.header none true s

/-! ### Queries -/

def chkSnapList (q : Req) : Option Nat := refuseIf (!inRange (prm q 0 1) 1 3) 0x0007
def execSnapList (q : Req) (s : State) : Host.Outcome State Fault Refusal :=
  .next (plain 0x0A09 (chkSnapList q) (ans fun s => qList s (prm q 0 1)) q s)
def execSnapQuery (q : Req) (s : State) : Host.Outcome State Fault Refusal := .next (plain 0x0A0A none (ans qSnap) q s)

end Sys2Proof.Machine
end

