-- ==== Sys2Proof/Machine/Flash.lean ====
section
/-! DEFINITION. Local flash (chapter 15): programs, erases, bad blocks, the retention scan, the flash commands. -/

set_option Elab.async false

namespace Sys2Proof.Machine

/-! ### Places -/

/-- The superblock number under which the pages of the header log stand (R349). -/
def hdrLog : Nat := 3072
def hdrPages : Nat := 32768
/-- The usable flash dies, over which pages are striped (R348). -/
def okDies (s : State) : List Nat := (List.range (flashDies s)).filter (flashDieOk s)
/-- Flash die, block number and page of a page of a superblock or of the header log. -/
def pagePlace (s : State) (sb page : Nat) : Nat × Nat × Nat :=
  if sb = hdrLog then (page % 8, page / 8 / 2048, page / 8 % 2048)
  else
    let ds := okDies s
    (ds.getD (page % max 1 ds.length) 0, sb + 2, page / max 1 ds.length)
/-- The block that stands at a block number of a die (R347). -/
def physBlock (s : State) (f blk : Nat) : Nat := mget blk s.flash.repl (4096 * f + blk)
/-- The drain that writes an object. -/
def objDrain (s : State) (id : Nat) : Option Drain := s.snap.drains.find? fun d => d.tier == 2 && d.snapId == id

/-! ### Bad blocks (R356 to R358) -/

/-- An object becomes DAMAGED; the drain that writes it is abandoned. -/
def damageObj (id : Nat) (s : State) : State :=
  let s := modSet (fun t => { t with
    copies := t.copies.map fun c => if c.1 = 2 ∧ c.2.snapId = id ∧ c.2.st = 0 then (c.1, { c.2 with st := 2 }) else c }) s
  match objDrain s id with
  | some d => abandonDrain d s
  | none => s
/-- Writes the bad-block table: the two copies in turn, each with a sequence one above the other's (R358). -/
def writeBbt (s : State) : State :=
  onFlash (fun x => if x.bbt0.1 < x.bbt1.1 then { x with bbt0 := (x.bbt1.1 + 1, true) } else { x with bbt1 := (x.bbt0.1 + 1, true) }) s
/-- No spare is left: the superblock is retired and its object DAMAGED (R357). -/
def retireSuper (sb : Nat) (s : State) : State :=
  let id := (superOf s sb).object
  let held := (superOf s sb).st = 1
  let s := onFlash (fun x => { x with supers := mput x.supers sb { superOf s sb with st := 3 } }) s
  if held then damageObj id s else s
/-- A block number of a die points to a spare, or its superblock is retired. -/
def toSpare (f blk : Nat) (s : State) : State :=
  match (spareFree s f).head? with
  | some sp => onFlash (fun x => { x with repl := mput x.repl (4096 * f + blk) sp }) s
  | none => if 2 ≤ blk then retireSuper (blk - 2) s else s
/-- A block goes bad (R356): cause 0 a failed erase or program, 1 uncorrectable, 2 refreshed a third time in 30 days. -/
def retireBlock (f blk cause : Nat) (s : State) : State :=
  let b := physBlock s f blk
  let s := onFlash (fun x => { x with bad := mput x.bad (4096 * f + b) true }) s
  let s := writeBbt (writeBbt (toSpare f blk s))
  record 0x0BC1 [(2, f), (2, b), (1, cause)] s
/-- A page that cannot be read. -/
def flashUncorr (f blk page id : Nat) (s : State) : State :=
  let s := onFlash (fun x => { x with uncorr := sat 32 (x.uncorr + 1) }) s
  let s := record 0x0BC2 [(2, f), (2, physBlock s f blk), (2, page), (8, id)] (damageObj id s)
  retireBlock f blk 1 s

/-! ### Programs and erases (R349 to R353) -/

/-- Next page of the header log that holds no live object's header. -/
def hdrSlot (s : State) : Nat :=
  let used := s.flash.objs.filterMap fun e => e.2.hdrPage
  match (List.range hdrPages).find? fun i => !used.contains ((s.flash.hdrNext + i) % hdrPages) with
  | some i => (s.flash.hdrNext + i) % hdrPages
  | none => s.flash.hdrNext
/-- After the last data page, the header page of the object. -/
def afterPage (id : Nat) (s : State) : State :=
  match objDrain s id with
  | some d =>
    if d.phase = 0 && dataMoved d && !s.flash.progs.any (·.object == id) then
      let h := hdrSlot s
      onDrain d (fun x => { x with phase := 2 }) (onFlash (fun x => { x with
        progs := x.progs ++ [⟨id, true, hdrLog, h, d.header⟩], hdrNext := (h + 1) % hdrPages }) s)
    else s
  | none => s
/-- Is a page under way: full, or the object's last? -/
def pageWhole (s : State) (p : PageProg) : Bool :=
  p.hdr || 16384 ≤ p.bytes.length || (objDrain s p.object).any dataMoved
/-- A page stands programmed. -/
def pageStored (p : PageProg) (s : State) : State :=
  onFlash (fun x => { x with
    data := memWrite x.data ((p.sb <<< 33) + 16384 * p.page) p.bytes, written := sat 64 (x.written + 16384),
    progs := x.progs.filter (· != p),
    supers := if p.hdr then x.supers else mupd x.supers p.sb fun y => { y with pages := y.pages + 1 } }) s
/-- A page program completes; `ok` is its status. -/
def execPageProgramDone (sb page : Nat) (ok : Bool) (s : State) : Host.Outcome State Fault Refusal :=
  .next (match s.flash.progs.find? fun p => p.sb == sb && p.page == page && pageWhole s p with
    | none => s
    | some p =>
      if s.sys.keelLost then s
      else if !ok then
        let x := pagePlace s sb page
        retireBlock x.1 x.2.1 0 s
      else if p.hdr then
        let s := pageStored p s
        let s := onFlash (fun x => { x with objs := mupd x.objs p.object fun o => { o with durable := true, hdrPage := some page } }) s
        match objDrain s p.object with
        | some d => ackCopy d s
        | none => s
      else afterPage p.object (pageStored p s))
/-- Life used, in percent (R353). -/
def lifePct (s : State) : Nat := eraseSum s * 100 / (superCount * 3000)
def sayLife (s : State) : State :=
  forEach [80, 90, 100] (fun n s =>
    if n ≤ lifePct s ∧ s.flash.lifeSaid < n then record 0x0BC5 [(1, n)] (onFlash (fun x => { x with lifeSaid := n }) s) else s) s
/-- `FLASH.FORMAT` ends when nothing is being erased. -/
def formatEnd (s : State) : State :=
  match runningOp s 0x0B05 with
  | some t => if t.ost == .running && !s.flash.supers.any (fun e => e.2.st == 2) then ticketDone t.ticket s else s
  | none => s
/-- A superblock's erase completes; one that fails on `fdie` goes on with that die's spare. -/
def execEraseComplete (sb : Nat) (ok : Bool) (fdie : Nat) (s : State) : Host.Outcome State Fault Refusal :=
  .next (if s.sys.keelLost || superCount ≤ sb || (superOf s sb).st != 2 then s
  else if ok then
    let s := onFlash (fun x => { x with
      supers := mput x.supers sb ⟨0, 0, (superOf s sb).erases + 1, 0⟩, data := memZero x.data (sb <<< 33) (1 <<< 33),
      eraseLog := x.eraseLog ++ [(s.mono, superBytes s)] }) s
    formatEnd (sayLife s)
  else if flashDieOk s fdie then formatEnd (retireBlock fdie (sb + 2) 0 s)
  else s)
/-- A release that waited for a read of its object. -/
def execReleaseAfterRead (obj : Nat) (s : State) : Host.Outcome State Fault Refusal :=
  .next (match mfind s.flash.objs obj with
    | some o => if o.releaseDue && !objRead s obj && !s.sys.keelLost then freeObj obj s else s
    | none => s)

/-! ### The retention scan (R354, R355) -/

def flashChk (s : State) : Option Nat := refuseIf (!s.id.flash) 0x0003
def beginScan (tk : Option Nat) (s : State) : State := onFlash (fun x => { x with scanOn := true, scanTicket := tk }) s
def execScanDue (s : State) : Host.Outcome State Fault Refusal :=
  .next (if s.id.flash && running s && !s.sys.keelLost && !s.flash.scanOn then beginScan none s else s)
def chkFlashScan (s : State) : Option Nat :=
  firstOf [flashChk s, refuseIf (s.flash.scanOn || !(liveOps s 0x0B02).isEmpty) 0x0006]
def execFlashScan (q : Req) (s : State) : Host.Outcome State Fault Refusal := .next (longOp 0x0B02 1 true (chkFlashScan s) q s)
def startScan (t : Ticket) (s : State) : State :=
  if s.flash.scanOn then ticketFail t.ticket 0x0006 s else beginScan (some t.ticket) s
/-- The object with data or a header page at a block and page of a die, among those that a scan reads. -/
def scanned (s : State) (f blk page : Nat) : Option Nat :=
  if 2 ≤ blk then
    let x := superOf s (blk - 2)
    if x.st = 1 ∧ (mfind s.flash.objs x.object).any (fun o => o.durable && !o.releaseDue) then some x.object else none
  else if f < 8 then (s.flash.objs.find? fun e => e.2.durable && e.2.hdrPage == some (8 * (2048 * blk + page) + f)).map (·.1)
  else none
/-- Refreshes of a block number in the last 30 days. -/
def recentRefresh (s : State) (f blk : Nat) : List Nat :=
  (mget [] s.flash.refreshAt (4096 * f + blk)).filter fun t => s.mono < t + cycS (30 * 86400)
/-- A block is refreshed (R354), and goes bad with its third refresh within 30 days (R356). -/
def refreshBlock (f blk share : Nat) (s : State) : State :=
  let l := s.mono :: recentRefresh s f blk
  let b := physBlock s f blk
  let e := max (mget 0 s.flash.blkErase (4096 * f + b)) (if 2 ≤ blk then (superOf s (blk - 2)).erases else 0)
  let s := onFlash (fun x => { x with
    refreshAt := mput x.refreshAt (4096 * f + blk) l, refreshed := sat 32 (x.refreshed + 1),
    written := sat 64 (x.written + 16384 * (if 2 ≤ blk then (superOf s (blk - 2)).pages / max 1 (flashWidth s) else 1)) }) s
  let s := record 0x0BC4 [(2, f), (2, b), (1, share)] s
  if 3 ≤ l.length then retireBlock f blk 2 s
  else onFlash (fun x => { x with blkErase := mput x.blkErase (4096 * f + b) (e + 1) }) (toSpare f blk s)
/-- The scan has read a block: its worst codeword, on `page`, had `errs` percent of the LDPC limit corrected, more than
100 for uncorrectable. `endScan`: it was the last block. -/
def execScanBlockRead (fdie blk page errs : Nat) (endScan : Bool) (s : State) : Host.Outcome State Fault Refusal :=
  let paused := match s.flash.scanTicket with
    | some tk => !runningTk s tk 0x0B02
    | none => false
  .next (if !s.flash.scanOn || s.snap.emergency || s.sys.keelLost || paused then s
  else
    let s := match scanned s fdie blk page with
      | none => s
      | some id =>
        if 100 < errs then flashUncorr fdie blk page id s
        else if s.set.refreshPct < errs then refreshBlock fdie blk errs s
        else s
    if endScan then
      let tk := s.flash.scanTicket
      let s := onFlash (fun x => { x with scanOn := false, scanTicket := none, scanFt := ftNs s }) s
      match tk with
      | some tk => ticketDone tk s
      | none => s
    else s)
/-- A flash die fails (R357). -/
def failFlashDie (f : Nat) (s : State) : State :=
  let ids := (s.flash.objs.filter fun e => !e.2.blocks.isEmpty).map (·.1)
  forEach ids damageObj (record 0x0BC6 [(2, f)] (onFlash (fun x => { x with failed := mput x.failed f true }) s))
def execFlashDieUnresponsive (fdie : Nat) (s : State) : Host.Outcome State Fault Refusal :=
  .next (if flashDieOk s fdie && !s.sys.keelLost then report (srcId 8 fdie) 8 (failFlashDie fdie s) else s)

/-! ### Reads for page restores (R342) -/

/-- A read for a page restore completes: none means that it could not be read. -/
def execFlashReadDone (addr tier : Nat) (bytes : Option (List Byte)) (s : State) : Host.Outcome State Fault Refusal :=
  .next (match pageAsked s tier addr with
    | none => s
    | some p =>
      let x := sideOf s p.side
      let d := addr / shardB
      let off := extentBefore x.header d + (addr % shardB - sideBase s p.side)
      match tier, bytes with
      | 2, some _ => if s.sys.keelLost then s else pageBack p (flashBytes s x.snapId off 4096) s
      | 2, none =>
        if s.sys.keelLost then s
        else
          let o := (mfind s.flash.objs x.snapId).getD ⟨[], 0, 0, none, false, false, []⟩
          let pp := objPage o off
          let at_ := pagePlace s pp.1 pp.2
          nextPage p (flashUncorr at_.1 at_.2.1 at_.2.2 x.snapId s)
      | 3, some bs => pageBack p bs s
      | 3, none => nextPage p s
      | _, _ => s)

/-! ### Commands (Table 15-3) -/

def execFlashHealth (q : Req) (s : State) : Host.Outcome State Fault Refusal :=
  .next (plain 0x0B01 (flashChk s) (ans qHealth) q s)
def chkFlashScancfg (q : Req) (s : State) : Option Nat :=
  let ok := fun (v lo hi : Nat) => v == 0 || inRange v lo hi
  firstOf [refuseIf (!ok (prm q 0 1) 1 168 || !ok (prm q 1 1) 1 50 || !ok (prm q 2 1) 20 90) 0x0007, flashChk s]
def execFlashScancfg (q : Req) (s : State) : Host.Outcome State Fault Refusal :=
  let d := fun (v n : Nat) => if v = 0 then n else v
  .next (plain 0x0B03 (chkFlashScancfg q s) (act (modSet fun t => { t with
    scanH := d (prm q 0 1) 24, scanPct := d (prm q 1 1) 10, refreshPct := d (prm q 2 1) 50 })) q s)
def chkFlashBbtread (q : Req) (s : State) : Option Nat :=
  firstOf [refuseIf (256 ≤ prm q 0 2) 0x0007, refuseIf (flashDies s ≤ prm q 0 2) 0x0003]
def execFlashBbtread (q : Req) (s : State) : Host.Outcome State Fault Refusal :=
  .next (runCommand (cat 0x0B04) (outRoom (cat 0x0B04) 512 q) 0 (chkFlashBbtread q s) []
    (ans fun s => qBbt s (prm q 0 2)) q s)
def formatBusy (s : State) : Option Nat := refuseIf (s.snap.reelOn || !s.snap.restores.isEmpty) 0x0B01
def execFlashFormat (q : Req) (s : State) : Host.Outcome State Fault Refusal :=
  .next (longOp 0x0B05 2 true (firstOf [flashChk s, formatBusy s]) q s)
/-- Releases every tier-2 copy and erases every superblock (R360). -/
def startFormat (t : Ticket) (s : State) : State :=
  match formatBusy s with
  | some r => ticketFail t.ticket r s
  | none =>
    let s := forEach (s.snap.drains.filter (·.tier == 2)) abandonDrain s
    let s := modSet (fun x => { x with copies := x.copies.filter (·.1 != 2) }) s
    onFlash (fun x => { x with
      objs := [], progs := [],
      supers := (List.range superCount).map fun j =>
        (j, let y := superOf s j; { y with st := if y.st = 3 then 3 else 2, object := 0, pages := 0 }) }) s

end Sys2Proof.Machine
end

