-- ==== Sys2Proof/Machine/Storage.lean ====
section
/-! DEFINITION. The storage port above its MAC (R101 to R103, R117): addressing, RoCEv2, the replies of tier-3 targets. -/

set_option Elab.async false

namespace Sys2Proof.Machine

def ethOf (s : State) (p : Nat) : EthCfg := (portOf s p).eth.getD ⟨0, 0, 0, 0, 0, 0, 0xFFFF, 0, 0⟩
/-- 256-byte cells that a packet takes in the port's reservation (R117). -/
def pktCells (p : EthPkt) : Nat :=
  match p with
  | .roce _ _ _ _ _ bs => (bs.length + 58 + 255) / 256
  | .echo _ _ bs => (bs.length + 255) / 256
  | .other _ n => (n + 255) / 256
  | _ => 1
/-- The 802.1p priority of a packet: RoCEv2 runs on the configured one. -/
def pktPrio (s : State) (port : Nat) (p : EthPkt) : Nat :=
  match p with
  | .other prio _ => prio
  | .resolve _ _ => 0
  | .echo _ _ _ => 0
  | _ => (ethOf s port).pfcPrio
def ethDrop (port : Nat) (s : State) : State :=
  onNet (fun n => { n with ethFlushed := mmod 0 n.ethFlushed port (fun x => sat 32 (x + 1)) }) s
/-- Cells that the reservation holds. -/
def ethCells (s : State) (port : Nat) : Nat := mget 0 s.net.storageOcc port % 65536
/-- Has the port sent XOFF since its last XON? -/
def ethXoff (s : State) (port : Nat) : Bool := 65536 ≤ mget 0 s.net.storageOcc port
def setEth (port n : Nat) (xoff : Bool) (s : State) : State :=
  onNet (fun x => { x with storageOcc := mset 0 x.storageOcc port (n + bit xoff 16) }) s
/-- Charges a packet to the reservation, with XOFF as it reaches 1,536 cells. -/
def chargeEth (port n : Nat) (s : State) : State :=
  let a := ethCells s port + n
  if 1536 ≤ a && !ethXoff s port then emit (.eth port (.pfc (ethOf s port).pfcPrio true)) (setEth port a true s)
  else setEth port a (ethXoff s port) s
/-- Resends a queue pair's unacknowledged packets from the oldest on (go-back-N). -/
def goBackN (q : Nat) (s : State) : State :=
  forEach (mget qpDflt s.net.qps q).unacked (fun e s => sendEth (.roce q e.1 false 4 0 e.2) s) s
/-- Is a sequence number at or before another, in 24 bits? -/
def psnLe (a b : Nat) : Bool := (b + 2 ^ 24 - a) % 2 ^ 24 < 2 ^ 23
def qpAcked (q psn : Nat) (s : State) : State :=
  if mhas s.net.qps q then
    onQp q (fun x => { x with
      unacked := x.unacked.filter fun e => !psnLe e.1 psn, ackPsn := psn, retries := 0 }) s
  else s
/-- A target's answer to a command (0 write, 1 flush, 2 read, 3 connect, 4 keep alive). -/
def targetAnswer (t cid : Nat) (ok : Bool) (s : State) : State :=
  if !mhas s.set.targets t then s
  else if !ok then targetDown t s
  else match cid with
    | 2 =>
      match s.snap.pages.find? fun p => p.tier == 3 with
      | some p =>
        let h := (sideOf s p.side).header
        let d := p.addr / shardB
        pageBack p (Config.targetData t (extentBefore h d + (p.addr % shardB - sideBase s p.side)) 4096) s
      | none => s
    | 3 => onSnap (fun x => { x with targetUp := mdel x.targetUp t }) s
    | 4 => onSnap (fun x => { x with kaWait := mdel x.kaWait t }) s
    | _ => s
/-- What a packet does once it is in the buffer. -/
def handleEth (port : Nat) (pkt : EthPkt) (s : State) : State :=
  let e := ethOf s port
  let mine := fun (v6 : Bool) (a : Nat) => a != 0 && a == (if v6 then e.ipv6 else e.ipv4)
  match pkt with
  | .roce qp psn ce _ _ _ =>
    match mfind s.net.qps qp with
    | none => ethDrop port s
    | some q =>
      let s := whenS ce (emit (.eth port (.cnp qp))) s
      if psn = q.expectPsn then
        emit (.eth port (.ackRoce qp psn)) (onQp qp (fun x => { x with expectPsn := (psn + 1) % 2 ^ 24 }) s)
      else if psnLe psn q.expectPsn then emit (.eth port (.ackRoce qp ((q.expectPsn + 2 ^ 24 - 1) % 2 ^ 24))) s
      else s
  | .ackRoce qp psn => qpAcked qp psn s
  | .cnp qp => if mhas s.net.qps qp then onQp qp (fun x => { x with ratePct := x.ratePct / 2 }) s else s
  | .resolve v6 a => if mine v6 a then emit (.eth port pkt) s else s
  | .echo v6 a _ => if mine v6 a then emit (.eth port pkt) s else s
  | .nvmeCpl t cid ok => targetAnswer t cid ok s
  | .other _ _ => ethDrop port s
  | .pfc _ _ => s
  | .pause => s
/-- The far end's XOFF and XON, on the configured priority alone. -/
def farPfc (port prio : Nat) (xoff : Bool) (s : State) : State :=
  if prio = (ethOf s port).pfcPrio then
    let s := onNet (fun n => { n with pfcXoff := mset 0 n.pfcXoff port (if xoff then 1 else 0) }) s
    if xoff then s else forEach (s.net.qps.map (·.1)) goBackN s
  else s
/-- A packet arrives. -/
def execEthPacketRx (port : Nat) (pkt : EthPkt) (s : State) : Host.Outcome State Fault Refusal :=
  .next (if portLoc port != 31 || !portFitted s port || (linkOf s (4 * port)).st != .up then s
  else match pkt with
    | .pause => s
    | .pfc prio xoff => farPfc port prio xoff s
    | _ =>
      if 2048 < ethCells s port + pktCells pkt && pktPrio s port pkt != (ethOf s port).pfcPrio then ethDrop port s
      else handleEth port pkt (chargeEth port (pktCells pkt) s))
/-- No acknowledgement for 131 µs: go-back-N, up to 7 retries; then the target has failed. -/
def execRoceAckTimeout (qp : Nat) (s : State) : Host.Outcome State Fault Refusal :=
  .next (match mfind s.net.qps qp with
    | none => s
    | some q =>
      if q.unacked.isEmpty then s
      else if 7 ≤ q.retries then targetDown q.target s
      else goBackN qp (onQp qp (fun x => { x with retries := x.retries + 1 }) s))
/-- Every 55 µs a reduced rate rises by 5 % of the port rate. -/
def execRoceRateRestore (qp : Nat) (s : State) : Host.Outcome State Fault Refusal :=
  .next (if mhas s.net.qps qp then onQp qp (fun x => { x with ratePct := min 100 (x.ratePct + 5) }) s else s)

/-- One F cycle of the storage ports: each hands one cell of its reservation on, with XON at 1,024. -/
def drainEth (s : State) : State :=
  forEach (s.net.storageOcc.map (·.1)) (fun p s =>
    let a := ethCells s p - 1
    if ethXoff s p && a ≤ 1024 then emit (.eth p (.pfc (ethOf s p).pfcPrio false)) (setEth p a false s)
    else setEth p a (ethXoff s p) s) s

end Sys2Proof.Machine
end

