-- ==== Sys2Proof/Machine/Gemel.lean ====
section
/-! DEFINITION. The Gemel pair (chapter 16): mirror records, offers, pair states, the stage-controller role. -/

set_option Elab.async false

namespace Sys2Proof.Machine

/-! ### Mirror records (Table 16-1) -/

def recKind (r : List Byte) : Nat := rdLe r 0 1
def recSeq (r : List Byte) : Nat := rdLe r 8 8
def recBody (r : List Byte) : List Byte := r.drop 32
/-- `RCRC`, over bytes 0x00 to 0x1B and the body. -/
def recCrc (r : List Byte) : Nat := crc32c (r.take 28 ++ r.drop 32)
def recOk (r : List Byte) : Bool := 32 ≤ r.length && r.length ≤ 1024 && rdLe r 4 4 == r.length - 32 && rdLe r 28 4 == recCrc r
def makeRec (s : State) (kind jseq : Nat) (body : List Byte) : List Byte :=
  let r := fields 32 [(0, 1, kind), (4, 4, body.length), (8, 8, jseq), (16, 8, ftNs s)] ++ body
  setBytes r 28 (leBytes 4 (recCrc r))
/-- Sends a mirror record on the lowest mooring lane-port that is UP (R361). -/
def sendRec (kind jseq : Nat) (body : List Byte) (s : State) : State :=
  match mirrorLp s with
  | some lp => emit (.record lp (makeRec s kind jseq body)) s
  | none => s
/-- A sound record of a kind comes in over a mooring link. -/
def takeRec (lp kind : Nat) (r : List Byte) (f : State → State) (s : State) : State :=
  if keelOn s && lpLoc lp == 30 && linkUp s lp && recOk r && recKind r == kind then
    f (onGemel (fun g => { g with lastRx := s.mono }) s)
  else s

/-! ### Pair states (Table 16-4) -/

def pairIn (s : State) (l : List PairState) : Bool := l.contains s.gemel.st
/-- A change of state, journaled unless into SOLO. -/
def setPair (st : PairState) (s : State) : State :=
  let s := onGemel (fun g => { g with st := st }) s
  if st = .solo then s else journalOwn 0x0C01 (leBytes 1 (pairCode st)) s
def twinSerial (s : State) : Nat := match s.gemel.offer with | some o => leNat (sliceBytes o.serial 0 16) | none => 0
/-- The pair is up. -/
def pairUp (s : State) : State :=
  let s := record 0x0CC1 [(16, twinSerial s), (8, s.gemel.mirSeq)] (setPair .paired s)
  match runningOp s 0x0C01 with
  | some t => ticketDone t.ticket s
  | none => s
/-- SYNC_DONE, once the twin has the whole journal (R364). -/
def trySync (s : State) : State :=
  if s.gemel.st == .syncing && !s.gemel.syncTx && s.cmd.jseq ≤ s.gemel.acked then
    let s := sendRec 5 s.cmd.jseq [] (onGemel (fun g => { g with syncTx := true }) s)
    whenS s.gemel.syncRx pairUp s
  else s

/-! ### Offers (R362) -/

/-- Does the journal hold no entry beyond first initialisation, pairing itself apart? -/
def fresh (s : State) : Bool :=
  { s.jrn with pairIntent := false, pairFlags := 0, lostMs := 10 } == setReset &&
    s.cmd.history.all fun e => e.2.all fun x => x.opcode == 0x0C01 || x.opcode == 0x0C04
/-- The own offer (Table 16-2). -/
def offerBody (s : State) : List Byte :=
  let r := fields 72 [(0x18, 8, fitted s), (0x20, 4, ownCoord s 0), (0x24, 4, s.env.shelfId), (0x28, 1, s.set.plan.sideGib),
    (0x29, 1, s.set.plan.twin), (0x2A, 1, bit (fresh s) 0), (0x30, 8, detClass s)]
  setBytes (setBytes (setBytes r 0 (sliceBytes s.id.serial 0 16)) 0x10 (orderCode s)) 0x38 (sliceBytes s.gemel.mirOwner 0 16)
def readOffer (b : List Byte) : Offer :=
  ⟨sliceBytes b 0 16, sliceBytes b 16 8, rdLe b 0x18 8, rdLe b 0x20 4, rdLe b 0x24 4, rdLe b 0x28 1, rdLe b 0x29 1,
    rdLe b 0x2A 1 == 1, rdLe b 0x30 8, sliceBytes b 0x38 16⟩
/-- Table 16-3: a refusal. -/
def offerBad (s : State) (o : Offer) : Option Nat :=
  firstOf [refuseIf ((o.coord ^^^ ownCoord s 0) != 1 <<< 17) 0x0C04,
    refuseIf ((o.order.drop 4).take 2 != ((orderCode s).drop 4).take 2) 0x0C01,
    refuseIf (o.shelf == s.env.shelfId && !s.set.pairFlags.testBit 0) 0x0C03]
/-- The mirror belongs to another serial, and the twin is fresh: adoption is awaited, unless `DISCARD` was given. -/
def mustAdopt (s : State) (o : Offer) : Bool :=
  o.serial != s.gemel.mirOwner && !s.gemel.mirror.isEmpty && o.fresh && !s.set.pairFlags.testBit 1
/-- The headless twin is back (R370). -/
def roleReturns (s : State) : State :=
  if s.gemel.holdsRole then
    record 0x0CC4 [(16, twinSerial s)] (onGemel (fun g => { g with holdsRole := false, frozen := false, role := [] }) s)
  else s
/-- Into SYNCING: the whole journal goes to the twin's mirror, and the own mirror is the twin's from here on. -/
def startSync (o : Offer) (s : State) : State :=
  let s := roleReturns s
  let s := onGemel (fun g => { g with
    adoptWait := false, syncTx := false, acked := 0, ackAt := s.mono, lastRefusal := 0, roleReturned := true,
    mirror := if g.mirOwner = o.serial then g.mirror else [], mirSeq := if g.mirOwner = o.serial then g.mirSeq else 0,
    gap := [], mirOwner := o.serial, mirCoord := o.coord >>> 8 <<< 8 }) s
  let s := setPair .syncing s
  let s := onGemel (fun g => { g with syncSeq := s.cmd.jseq }) s
  match mirrorLp s with
  | some lp => emit (.journal lp 1 s.cmd.jseq) s
  | none => s
def pairRefused (code : Nat) (s : State) : State :=
  let s := record 0x0CC6 [(2, code)] (onGemel (fun g => { g with lastRefusal := code }) s)
  match runningOp s 0x0C01 with
  | some t => ticketFail t.ticket code s
  | none => s
def judgeOffer (o : Offer) (s : State) : State :=
  match offerBad s o with
  | some r => pairRefused r s
  | none => if mustAdopt s o then onGemel (fun g => { g with adoptWait := true }) s else startSync o s
/-- An offer, but for what it does to a hold (R433): kept, and judged where the module pairs. -/
def takeOffer (b : List Byte) (s : State) : State :=
  let o := readOffer b
  let s := onGemel (fun g => { g with offer := some o }) s
  if s.set.pairIntent && running s && pairIn s [.offering, .solo] then judgeOffer o s else s
def execOfferDue (s : State) : Host.Outcome State Fault Refusal :=
  .next (if s.set.pairIntent && running s && keelOn s && s.gemel.st != .paired && !(moorUp s).isEmpty then
    sendRec 3 s.cmd.jseq (offerBody s) s else s)

/-! ### Mirroring (R365, R366) -/

/-- Stores records that follow the newest in order. -/
def absorbGap : Nat → GemelSt → GemelSt
  | 0, g => g
  | n + 1, g =>
    match mfind g.gap (g.mirSeq + 1) with
    | some b => absorbGap n { g with mirror := mput g.mirror (g.mirSeq + 1) b, mirSeq := g.mirSeq + 1, gap := mdel g.gap (g.mirSeq + 1) }
    | none => g
def storeMirror (seq : Nat) (b : List Byte) (g : GemelSt) : GemelSt :=
  if seq ≤ g.mirSeq then g else absorbGap (g.gap.length + 1) { g with gap := mput g.gap seq b }
def execMirrorEntryRx (lp : Nat) (rec : List Byte) (s : State) : Host.Outcome State Fault Refusal :=
  .next (takeRec lp 0 rec (fun s =>
    if pairIn s [.syncing, .paired] && !s.gemel.frozen then
      let s := onGemel (storeMirror (recSeq rec) (recBody rec)) s
      sendRec 1 s.gemel.mirSeq [] s
    else s) s)
/-- Steps and acknowledgements that waited for entries up to `n` go on. -/
def storedUpTo (n : Nat) (s : State) : State :=
  let steps := s.gemel.stepWait.filter fun e => e.2.2 ≤ n
  let acks := s.gemel.ackWait.filter fun e => e.2 ≤ n
  let posts := s.cmd.postWait.filter fun e => e.2.1 ≤ n
  let s := onGemel (fun g => { g with
    stepWait := g.stepWait.filter (fun e => n < e.2.2), ackWait := g.ackWait.filter fun e => n < e.2 }) s
  let s := onCmd (fun c => { c with postWait := c.postWait.filter fun e => n < e.2.1 }) s
  let s := forEach steps (fun e => checkDone e.1 e.2.1) s
  let s := forEach acks (fun e s => if s.snap.drains.any (sameDrain e.1) then ackDone e.1 s else s) s
  forEach posts (fun e => postFinal e.1 e.2.2.1 e.2.2.2) s
/-- An ACK's effect on all but the stored command. -/
def ackRecords (n : Nat) (s : State) : State :=
  let wait := s.mono - s.gemel.ackAt
  let s := onGemel (fun g => { g with acked := max g.acked n, ackAt := s.mono, waitMax := max g.waitMax wait }) s
  let s := storedUpTo s.gemel.acked s
  let s := match runningOp s 0x0C05 with
    | some t => if t.ost == .running && s.gemel.syncSeq ≤ s.gemel.acked then ticketDone t.ticket s else s
    | none => s
  trySync s
def execHeartbeatRx (lp : Nat) (rec : List Byte) (s : State) : Host.Outcome State Fault Refusal :=
  .next (takeRec lp 2 rec (fun s => s) s)
def execHeartbeatDue (s : State) : Host.Outcome State Fault Refusal :=
  .next (if keelOn s && pairIn s [.syncing, .paired] then sendRec 2 s.cmd.jseq [] s else s)
def execSyncDoneRx (lp : Nat) (rec : List Byte) (s : State) : Host.Outcome State Fault Refusal :=
  .next (takeRec lp 5 rec (fun s =>
    if pairIn s [.offering, .syncing, .solo] then
      let s := onGemel (fun g => { g with syncRx := true }) s
      if s.gemel.st == .syncing && s.gemel.syncTx then pairUp s else s
    else s) s)
/-- No new ACK for 100 µs: records go again from the first unacknowledged one. -/
def execMirrorResendTimeout (s : State) : Host.Outcome State Fault Refusal :=
  .next (if keelOn s && mirroring s && s.gemel.acked < s.cmd.jseq then
    match mirrorLp s with
    | some lp => emit (.journal lp (s.gemel.acked + 1) s.cmd.jseq) s
    | none => s
  else s)
/-- Into SOLO, all but the stored command: page restores from the twin go on to the next tier, tier-1 drains are
abandoned, waiting entries count as stored. -/
def goSolo (s : State) : State :=
  let s := record 0x0CC2 [(1, if (moorUp s).isEmpty then 1 else 0)] (setPair .solo s)
  let s := onGemel (fun g => { g with syncTx := false, syncRx := false }) s
  let s := storedUpTo s.cmd.jseq s
  let s := forEach (s.snap.drains.filter (·.tier == 1)) abandonDrain s
  let s := forEach (s.snap.pages.filter (·.tier == 1)) nextPage s
  match runningOp s 0x0C05 with
  | some t => ticketFail t.ticket 0x0005 s
  | none => s

/-! ### The role (R369, R370) -/

def execKeelLostRx (lp : Nat) (rec : List Byte) (s : State) : Host.Outcome State Fault Refusal :=
  .next (takeRec lp 4 rec (fun s =>
    let d := lpDie lp
    if s.gemel.st == .unpaired || s.gemel.role.contains d then s
    else
      let s := onGemel (fun g => { g with
        frozen := true, holdsRole := true, role := g.role ++ [d], twinUsable := rdLe (recBody rec) 0 8 }) s
      record 0x0CC3 [(16, twinSerial s), (1, s.gemel.role.foldl (fun a x => a + bit true x) 0)] s) s)
/-- A fault report of the headless twin's die, relayed into the own recorder. -/
def execHeadlessFaultReportRx (die src kind ft : Nat) (s : State) : Host.Outcome State Fault Refusal :=
  .next (if keelOn s && s.gemel.holdsRole && s.gemel.role.contains die then
    record 0x0CC7 [(1, die), (2, src), (1, kind), (8, ft)] s else s)
/-- Ten seconds from READY without a pair: the role is the own journal's (R370). -/
def execSoloRoleRestore (s : State) : Host.Outcome State Fault Refusal :=
  .next (if running s && !pairIn s [.syncing, .paired] then onGemel (fun g => { g with roleReturned := true }) s else s)
/-- Ten seconds without a mooring link fail `GEMEL.PAIR`; the intent stays. -/
def execPairTimeout (s : State) : Host.Outcome State Fault Refusal :=
  .next (match runningOp s 0x0C01 with
    | some t => if (moorUp s).isEmpty then ticketFail t.ticket 0x0C02 s else s
    | none => s)

/-! ### Commands (Table 16-7) -/

def chkGemelPair (q : Req) (s : State) : Option Nat :=
  let n := prm q 4 2
  firstOf [refuseIf (n != 0 && !inRange n 2 1000) 0x0007, refuseIf (s.gemel.st == .paired) 0x0005,
    refuseIf (!(liveOps s 0x0C01).isEmpty) 0x0006]
def execGemelPair (q : Req) (s : State) : Host.Outcome State Fault Refusal := .next (longOp 0x0C01 2 true (chkGemelPair q s) q s)
/-- The intent and its flags are set; the ticket ends at PAIRED. -/
def startPair (t : Ticket) (s : State) : State :=
  let n := rdLe t.param 4 2
  let s := modSet (fun x => { x with
    pairIntent := true, pairFlags := rdLe t.param 0 1, lostMs := if n = 0 then 10 else n }) s
  let s := if s.gemel.st = .unpaired then setPair .offering s else s
  if s.gemel.st = .paired then ticketDone t.ticket s else s
def chkGemelUnpair (s : State) : Option Nat :=
  refuseIf ((s.snap.reelOn && reelTier s 1) || s.gemel.holdsRole) 0x0C05
/-- Clears the intent and the mirror. -/
def unpair (s : State) : State :=
  let s := modSet (fun x => { x with pairIntent := false, pairFlags := 0, lostMs := 10 }) s
  let s := onGemel (fun g => { g with
    mirror := [], gap := [], mirSeq := 0, mirOwner := List.replicate 16 0, mirCoord := 0, adoptWait := false,
    syncTx := false, syncRx := false, frozen := false }) s
  let s := if s.gemel.st = .unpaired then s else setPair .unpaired s
  let s := storedUpTo s.cmd.jseq s
  let s := forEach (s.snap.drains.filter (·.tier == 1)) abandonDrain s
  let s := forEach (s.snap.pages.filter (·.tier == 1)) nextPage s
  forEach (liveOps s 0x0C01 ++ liveOps s 0x0C05) (fun t => ticketFail t.ticket 0x0005) s
def execGemelUnpair (q : Req) (s : State) : Host.Outcome State Fault Refusal :=
  .next (plain 0x0C02 (chkGemelUnpair s) (act unpair) q s)
def execGemelQuery (q : Req) (s : State) : Host.Outcome State Fault Refusal := .next (plain 0x0C03 none (ans qGemel) q s)
/-- The journal that `GEMEL.ADOPT` takes over, as the twin's mirror holds it. -/
def adopted (s : State) : Option Settings := Config.twinJournal s.gemel.lastRx
def adoptChk (s : State) : Option Nat := refuseIf (!fresh s || (adopted s).isNone) 0x0C07
def execGemelAdopt (q : Req) (s : State) : Host.Outcome State Fault Refusal :=
  .next (longOp 0x0C04 2 true (firstOf [refuseIf (!(liveOps s 0x0C04).isEmpty) 0x0006, adoptChk s]) q s)
def execGemelResync (q : Req) (s : State) : Host.Outcome State Fault Refusal :=
  .next (longOp 0x0C05 1 true (firstOf [refuseIf (s.gemel.st != .paired) 0x0005, refuseIf (!(liveOps s 0x0C05).isEmpty) 0x0006]) q s)
/-- Sends the whole journal again. -/
def startResync (t : Ticket) (s : State) : State :=
  if s.gemel.st = .paired then
    let s := onGemel (fun g => { g with syncSeq := s.cmd.jseq }) s
    match mirrorLp s with
    | some lp => emit (.journal lp 1 s.cmd.jseq) s
    | none => s
  else ticketFail t.ticket 0x0005 s

end Sys2Proof.Machine
end

