-- ==== Sys2Proof/Machine/Rings.lean ====
section
/-! DEFINITION. Transports (chapter 17, R425, R426): host rings and their doorbells, sessions and their capsules, the generic
commands. -/

set_option Elab.async false

namespace Sys2Proof.Machine

/-! ### Host rings (R379 to R382, R425, R426) -/

def ringEntries (g : Ring) : Nat := 2 ^ g.entLog2
/-- A ring enters ERROR. -/
def ringError (r cause : Nat) (s : State) : State :=
  record 0x10C4 [(1, r), (1, cause)] (onRing r (fun g => { g with rstate := .error, cause := cause }) s)
def ignoreDb (r : Nat) (s : State) : State := onRing r (fun g => { g with dbIgnored := sat 32 (g.dbIgnored + 1) }) s
/-- An empty slot of host memory, as an entry. -/
def entryZero : Entry := ⟨0, false, false, 0, 0, 0, List.replicate 48 0, []⟩
/-- Is the keel die asleep, so that no register answers? -/
def asleep (s : State) : Bool := match s.sys.st with | .off => true | .standby => true | _ => false
/-- `SQ_TAIL` is written; `ents` are the entries that the host has put in the new slots, each with its input buffer. -/
def execSqDoorbell (ring tail : Nat) (ents : List (Entry × List Byte)) (s : State) : Host.Outcome State Fault Refusal :=
  let g := ringOf s ring
  let e := ringEntries g
  let n := (tail + e - g.sqTail) % e
  .next (if 64 ≤ ring || asleep s then s
  else if g.rstate != .enabled then ignoreDb ring s
  else if e ≤ tail || e - 1 < (g.sqTail + e - g.sqHead) % e + n then ringError ring 4 s
  else
    let new := (ents ++ List.replicate n (entryZero, [])).take n
    onRing ring (fun g => { g with
      sqTail := tail, waiting := g.waiting ++ new.map fun x => ⟨⟨.host, ring⟩, x.1, x.2⟩ }) s)
/-- `CQ_HEAD` is written. -/
def execCqDoorbell (ring head : Nat) (s : State) : Host.Outcome State Fault Refusal :=
  let g := ringOf s ring
  let e := ringEntries g
  .next (if 64 ≤ ring || asleep s then s
  else if g.rstate != .enabled then ignoreDb ring s
  else if e ≤ head then ringError ring 4 s
  else if unfreed g < (head + e - g.cqHead) % e then ringError ring 6 s
  else onRing ring (fun g => { g with cqHead := head }) s)
/-- The first failed check of an enable (Table 19-8), or 0. -/
def enableCause (s : State) (g : Ring) : Nat :=
  if s.sys.inUse.hostPriv < g.priv then 1
  else if g.sqBase % 4096 != 0 || g.cqBase % 4096 != 0 || g.resBase % 512 != 0 then 2
  else if g.entLog2 < 4 || 12 < g.entLog2 then 3
  else 0
/-- `ENABLE` is written to 1. -/
def execRingEnable (ring : Nat) (s : State) : Host.Outcome State Fault Refusal :=
  let g := ringOf s ring
  .next (if 64 ≤ ring || g.enable || !keelOn s then s
  else
    let c := enableCause s g
    if c = 0 then
      postOwed ⟨.host, ring⟩ (onRing ring (fun g => { g with
        enable := true, rstate := .enabled, cause := 0, sqHead := 0, sqTail := 0, cqTail := 0, cqHead := 0, phase := true,
        waiting := [] }) s)
    else onRing ring (fun g => { g with enable := false, rstate := .refused, cause := c }) s)
/-- `ENABLE` is written to 0. -/
def execRingDisable (ring : Nat) (s : State) : Host.Outcome State Fault Refusal :=
  .next (if 64 ≤ ring || !keelOn s then s
  else onRing ring (fun g => { g with enable := false, rstate := .disabled, cause := 0, waiting := [] }) s)

/-! ### Opening a session (R384) -/

/-- Does each certificate verify under the next one's key, and the last one's under a listed issuing key? Answers that key's
privilege. -/
def chainPriv (s : State) : List Cert → Option Nat
  | [] => none
  | [c] =>
    (s.sys.inUse.keys.find? fun k => k.role.testBit 2 && (k.pub == c.pub || ecdsaOk k.pub c.tbs c.sig)).map (·.maxPriv)
  | c :: d :: r => if ecdsaOk d.pub c.tbs c.sig then chainPriv s (d :: r) else none
/-- The body of a HELLO before its signature. -/
def helloBody (h : Hello) : List Byte :=
  h.nonce ++ h.pub ++ leBytes 1 h.wantPriv ++ (if h.xp = 2 then leBytes 2 h.replyOff else []) ++ h.der
def peerId (c : Cert) : Nat := rdLe (sha256 c.pub) 0 8
/-- Sends HELLO_REPLY capsules: no `MAC`, `CSEQ` 0. -/
def sendHelloReply (xp sess dst : Nat) (body : List Byte) (s : State) : State :=
  let segs := segments 976 body
  forEach segs.zipIdx (fun e s => sendCapsule xp sess dst (capHead 1 sess e.1.length e.2 segs.length 0 ++ e.1) s) s
def ascii (cs : List Nat) : List Byte := cs.map (BitVec.ofNat 8)
/-- `ONRH c->m` and `ONRH m->c`. -/
def infoClient : List Byte := ascii [0x4F, 0x4E, 0x52, 0x48, 0x20, 0x63, 0x2D, 0x3E, 0x6D]
def infoModule : List Byte := ascii [0x4F, 0x4E, 0x52, 0x48, 0x20, 0x6D, 0x2D, 0x3E, 0x63]
/-- A free session number: one not in use, else one that was never finished. -/
def freeSess (s : State) (xp : Nat) : Option Nat :=
  match (List.range 64).find? fun n => !mhas s.cmd.sessions (sessKey xp n) with
  | some n => some n
  | none => (List.range 64).find? fun n => !(mfind s.cmd.sessions (sessKey xp n)).any (·.openS)
def helloTo (h : Hello) : Nat := if h.xp = 2 then (h.src >>> 8 <<< 8) + 0xF0 + h.replyOff * 2 ^ 32 else h.src
/-- An ephemeral private key drawn: one of 1 to the group's order less 1. -/
def ephKey (d : Nat) : Nat := d % (p256n - 1) + 1
def sessNew (peer priv : Nat) (ck mk : List Byte) (at_ dst : Nat) : Session :=
  ⟨false, peer, priv, ck, mk, 0, 0, [], [], [], [], at_, dst, []⟩
/-- An assembled HELLO. -/
def execHelloRx (h : Hello) (s : State) : Host.Outcome State Fault Refusal :=
  let refuse := fun n s => sendHelloReply h.xp 0xFF (helloTo h) (leBytes 1 n ++ [0, 0]) s
  .next (if !keelOn s || !(h.xp == 1 || h.xp == 2) || (h.xp == 2 && (h.replyOff % 1024 != 0 || 0xFC00 < h.replyOff)) then s
  else match freeSess s h.xp, chainPriv s h.chain, h.chain.head? with
    | none, _, _ => refuse 1 s
    | _, none, _ => refuse 2 s
    | _, _, none => refuse 2 s
    | some n, some mx, some leaf =>
      if !ecdsaOk leaf.pub (helloBody h) h.sig then refuse 3 s
      else
        let (d, s) := draw s
        let (r, s) := draw s
        match ecMul 256 (ephKey d) (some p256g), ecdhX (ephKey d) h.pub with
        | some g, some x =>
          let nonce := beBytes 32 (r % 2 ^ 256)
          let priv := min (min h.wantPriv mx) (if h.xp = 2 then min 2 s.sys.inUse.fabricPriv else 2)
          let body := [0, BitVec.ofNat 8 n, BitVec.ofNat 8 priv] ++ nonce ++ (4 :: beBytes 32 g.1 ++ beBytes 32 g.2) ++
            Config.certChain
          let key := hkdf32 x (h.nonce ++ nonce)
          let s := onCmd (fun c => { c with
            sessions := mput c.sessions (sessKey h.xp n) (sessNew (peerId leaf) priv (key infoClient) (key infoModule) s.mono (helloTo h)) }) s
          sendHelloReply h.xp n (helloTo h) (body ++ sliceBytes (Config.deviceSign (helloBody h ++ h.sig ++ body)) 0 64) s
        | _, _ => refuse 3 s)

/-! ### Capsules of a session (R385 to R387) -/

def sessAt (s : State) (xp n : Nat) : Option Session := if xp = 1 || xp = 2 then mfind s.cmd.sessions (sessKey xp n) else none
def onSess (xp n : Nat) (f : Session → Session) (s : State) : State :=
  onCmd (fun c => { c with sessions := mupd c.sessions (sessKey xp n) f }) s
def dropCapsule (s : State) : State := onCmd (fun c => { c with capDrop := sat 32 (c.capDrop + 1) }) s
/-- Closes a session: cause 0 CLOSE, 1 idle, 2 failures, 3 restart. -/
def closeSess (xp n cause : Nat) (s : State) : State :=
  match sessAt s xp n with
  | none => s
  | some q =>
    let s := onCmd (fun c => { c with sessions := mdel c.sessions (sessKey xp n) }) s
    if q.openS then record 0x10C2 [(1, xp), (1, n), (1, cause)] s else s
def capMac (q : Session) (c : Capsule) : List Byte :=
  hmac q.cliKey (capHead c.kind c.sess c.bodyLen c.seg c.nseg c.cseq ++ c.body)
/-- A capsule whose `MAC` fails; the sixteenth within 1 s closes the session. -/
def authFail (xp : Nat) (q : Session) (c : Capsule) (s : State) : State :=
  let l := s.mono :: q.fails.filter fun t => s.mono < t + cycS 1
  let s := record 0x10C3 [(1, xp), (1, c.sess), (8, c.cseq)] (onSess xp c.sess (fun y => { y with fails := l }) (dropCapsule s))
  if 16 ≤ l.length then closeSess xp c.sess 2 s else s
def capWindow (q : Session) (n : Nat) : Bool := q.rxMax ≤ n + 63 && n ≤ q.rxMax + 64 && !q.rxSeen.contains n
def acceptCap (n at_ : Nat) (q : Session) : Session :=
  let m := max q.rxMax n
  { q with rxMax := m, rxSeen := (n :: q.rxSeen).filter (fun k => m ≤ k + 63), lastAt := at_ }
/-- Authenticates a capsule of an open session and does the rest on one that is new (R385). -/
def takeCapsule (xp : Nat) (c : Capsule) (f : Session → State → State) (s : State) : State :=
  match sessAt s xp c.sess with
  | none => s
  | some q =>
    if !q.openS || !keelOn s then s
    else if capMac q c != c.mac then authFail xp q c s
    else match q.replies.find? fun r => r.1.contains c.cseq with
      | some r => forEach r.2 (fun b => sendCapsule xp c.sess q.replyTo b) (onSess xp c.sess (fun y => { y with lastAt := s.mono }) s)
      | none =>
        if capWindow q c.cseq then f q (onSess xp c.sess (acceptCap c.cseq s.mono) s) else dropCapsule s
/-- The 64 bytes of a command entry (Table 17-5), with the command data. -/
def readEntry (b data : List Byte) : Entry :=
  let w := rdLe b 0 4
  ⟨w % 65536, w.testBit 24, w.testBit 25, rdLe b 4 4, rdLe b 8 8, (w >>> 16 &&& 0xFF) + (w >>> 26), sliceBytes b 16 48, data⟩
def xpOf (xp : Nat) : Xport := if xp = 1 then .mgmt else .fabric
/-- A message handed to the session's ring, or refused for want of an entry. -/
def sessMessage (xp n : Nat) (cseqs : List Nat) (b : List Byte) (s : State) : State :=
  let q : Req := ⟨⟨xpOf xp, n⟩, readEntry (b.take 64) (b.drop 64), []⟩
  onSess xp n (fun y => { y with waiting := y.waiting ++ [(cseqs, q)] }) s
/-- A REPLY that refuses a message before it is a command. -/
def refuseMessage (xp n reason : Nat) (cseqs : List Nat) (b : List Byte) (s : State) : State :=
  let e := readEntry b []
  postSess ⟨xpOf xp, n⟩ ⟨e.cmdId, e.opcode, .refused, false, reason, 0, 0, 0, false⟩ [] cseqs s
/-- Messages being assembled in the command staging area. -/
def staged (s : State) : Nat := s.cmd.sessions.foldl (fun a e => a + e.2.asm.length) 0
/-- A segment joins its message; the first of a message opens it. -/
def joinSegment (xp : Nat) (c : Capsule) (q : Session) (s : State) : State :=
  let base := c.cseq - c.seg
  let old := (q.asm.find? fun e => e.1 == base).map (·.2)
  let none? := if c.seg = 0 then refuseMessage xp c.sess else fun _ _ _ s => s
  match old with
  | none =>
    if !dieUsable s s.set.plan.jmirDie then none? 0x0005 [c.cseq] c.body s
    else if 8 ≤ staged s then none? 0x0006 [c.cseq] c.body s
    else onSess xp c.sess (fun y => { y with asm := y.asm ++ [(base, ⟨true, s.mono, c.nseg, [c.cseq], [(c.seg, c.body)]⟩)] }) s
  | some a =>
    if a.nseg ≠ c.nseg then dropCapsule s
    else
      let a := { a with cseqs := c.cseq :: a.cseqs, segs := mput a.segs c.seg c.body }
      if a.segs.length = a.nseg then
        sessMessage xp c.sess a.cseqs (a.segs.flatMap (·.2))
          (onSess xp c.sess (fun y => { y with asm := y.asm.filter fun e => e.1 != base }) s)
      else onSess xp c.sess (fun y => { y with asm := y.asm.map fun e => if e.1 = base then (base, a) else e }) s
/-- A COMMAND capsule. -/
def execCommandCapsuleRx (xp : Nat) (cap : Capsule) (s : State) : Host.Outcome State Fault Refusal :=
  .next (takeCapsule xp cap (fun q s =>
    if cap.kind ≠ 3 ∨ cap.body.length ≠ cap.bodyLen ∨ 976 < cap.bodyLen ∨ cap.nseg ≤ cap.seg ∨ cap.cseq < cap.seg then dropCapsule s
    else if cap.nseg = 1 then
      if cap.bodyLen < 64 then refuseMessage xp cap.sess 0x0002 [cap.cseq] cap.body s
      else sessMessage xp cap.sess [cap.cseq] cap.body s
    else joinSegment xp cap q s) s)
/-- A CLOSE capsule. -/
def execCloseRx (xp : Nat) (cap : Capsule) (s : State) : Host.Outcome State Fault Refusal :=
  .next (takeCapsule xp cap (fun _ s => if cap.kind = 5 then closeSess xp cap.sess 0 s else dropCapsule s) s)
/-- FINISH: the session is open, and its client gets what it is owed. -/
def execFinishRx (xp sess cseq replyTo : Nat) (mac : List Byte) (s : State) : Host.Outcome State Fault Refusal :=
  .next (match sessAt s xp sess with
    | none => s
    | some q =>
      if q.openS || !keelOn s then s
      else if cseq ≠ 1 ∨ hmac q.cliKey (capHead 2 sess 0 0 1 1) ≠ mac then dropCapsule s
      else
        let s := onSess xp sess (fun y => { y with
          openS := true, rxMax := 1, rxSeen := [1], lastAt := s.mono, replyTo := if xp = 1 then replyTo else y.replyTo }) s
        postOwed ⟨xpOf xp, sess⟩ (record 0x10C1 [(1, xp), (1, sess), (8, q.peer), (1, q.priv)] s))
/-- Thirty seconds without a capsule from the client. -/
def execSessionIdle (xp sess : Nat) (s : State) : Host.Outcome State Fault Refusal := .next (closeSess xp sess 1 s)
/-- A message still incomplete 1 s after its first segment; `msg` is the `CSEQ` of its segment 0. -/
def execSegmentTimeout (xp sess msg : Nat) (s : State) : Host.Outcome State Fault Refusal :=
  .next (match (sessAt s xp sess).bind fun q => q.asm.find? fun e => e.1 == msg with
    | none => s
    | some e =>
      let s := onSess xp sess (fun y => { y with asm := y.asm.filter fun x => x.1 != msg }) s
      refuseMessage xp sess 0x0002 e.2.cseqs (mget [] e.2.segs 0) s)

/-! ### Generic commands (Table 17-10) -/

def execNop (q : Req) (s : State) : Host.Outcome State Fault Refusal := .next (plain 0x0000 none (ans fun _ => []) q s)
def execCaps (q : Req) (s : State) : Host.Outcome State Fault Refusal := .next (plain 0x0001 none (ans fun s => qCaps s q.from_) q s)
def execPing (q : Req) (s : State) : Host.Outcome State Fault Refusal :=
  .next (plain 0x0002 none (ans fun s => leBytes 8 (prm q 0 8) ++ leBytes 8 (ftNs s)) q s)
def tkChk (q : Req) (s : State) : Option Nat := refuseIf (ticketOf s (prm q 0 4)).isNone 0x0009
/-- Between QUEUED and DONE the progress shown is the module's own measure, which never falls (Table 17-12). -/
def showProgress (tk : Nat) (s : State) : State :=
  onTicket tk (fun t => match t.ost with
    | .running => { t with progress := max t.progress (min 1000 (Config.progress tk s.mono)) }
    | .suspended => { t with progress := max t.progress (min 1000 (Config.progress tk s.mono)) }
    | .cancelling => { t with progress := max t.progress (min 1000 (Config.progress tk s.mono)) }
    | _ => t) s
def queryTicket (tk : Nat) (s : State) : State × List Byte :=
  let s := showProgress tk s
  (s, (ticketOf s tk).elim [] qTicket)
def execOpQuery (q : Req) (s : State) : Host.Outcome State Fault Refusal :=
  .next (plain 0x1001 (tkChk q s) (queryTicket (prm q 0 4)) q s)
def execOpList (q : Req) (s : State) : Host.Outcome State Fault Refusal :=
  .next (runCommand (cat 0x1005) (outRoom (cat 0x1005) 2048 q) 0 none [] (ans qOpList) q s)

end Sys2Proof.Machine
end

