-- ==== Sys2Proof/Machine/Quench.lean ====
section
/-! DEFINITION. Units that leave and return (Table 21-1, R52, R126, R242, R448, R450), supplies that go (R63, R187,
R341, R344, R359, R479), and changes of the module state (R429, R502). -/

set_option Elab.async false

namespace Sys2Proof.Machine

/-! ### Module states -/

/-- A change of module state, recorded with its cause (R429, R502). -/
def moveTo (st : MState) (cause : Nat) (s : State) : State :=
  let old := mstCode s.sys.st
  let s := onSys (fun x => { x with st := st }) s
  record 0x01C1 [(1, old), (1, mstCode st), (1, cause), (1, if st = .keelUp then s.sys.hold else 0)] s

/-! ### A sail die that leaves -/

/-- Chunks with a basket or staging on a die. -/
def chunksHomed (s : State) (d : Nat) : List (Nat × Nat × Nat) :=
  s.tile.groups.flatMap fun e => e.2.seqs.flatMap fun x => (x.2.2.chunks.filter fun c =>
    (basketsOf c.2).any fun b => basketDie b == d).map fun c => (e.1, x.2.1, c.1)
/-- An update chunk whose home die leaves: it waits, its basket gone (R275, Table 11-7). -/
def parkChunk (g seq c : Nat) (s : State) : State :=
  onChunk g seq c (fun h => { chunkDflt with epoch := h.epoch, home := h.home, recomputed := h.recomputed })
    (dropWaiting g seq c (dropEntries g seq (some c) s))
/-- What becomes of a chunk whose home die leaves (R242). -/
def moveChunk (g seq c : Nat) (s : State) : State :=
  match seqOf s g seq with
  | none => s
  | some q =>
    let k := gcfg s g
    if updAt k q c then parkChunk g seq c s
    else if (nextUsable s (maskDies s k) (chunkIn q c).home).isNone && !(namesGroup s g && haltable s) then startFallback g seq c s
    else chunkLost g seq c 5 s
/-- Contexts homed on a die (Table 10-3). -/
def ctxsHomed (s : State) (d : Nat) : List (Nat × Nat) :=
  (s.tile.ctxs.filter fun c => c.home == d).map fun c => (c.group, c.seq)
/-- Frames of a list that a die's cells hold. -/
def onDieEnts (d : Nat) (l : List QEnt) : List QEnt := l.filter fun e => e.die == d
def offDieEnts (d : Nat) (l : List QEnt) : List QEnt := l.filter fun e => e.die != d
def loseEnt (e : QEnt) (s : State) : State := frameLost e.frame (dropEnt e s)
/-- The frames in a die's cells are lost (R126). -/
def loseCells (d : Nat) (s : State) : State :=
  let ents := s.core.leaf.flatMap (·.2) ++ s.core.cons.flatMap (·.2) ++ s.core.heldFrames
  let s := onCore (fun c => { c with
    leaf := c.leaf.map fun e => (e.1, offDieEnts d e.2), cons := c.cons.map fun e => (e.1, offDieEnts d e.2),
    heldFrames := offDieEnts d c.heldFrames }) s
  let s := onCore (fun c => { c with leaf := c.leaf.filter (·.2 != []), cons := c.cons.filter (·.2 != []) }) s
  let s := forEach (onDieEnts d ents) loseEnt s
  onDie d (fun x => { dieDflt with
    roundRefuse := x.roundRefuse, w3Entries := x.w3Entries, cutThrough := x.cutThrough, storeFwd := x.storeFwd,
    cellCrc := x.cellCrc, stomped := x.stomped, parity := x.parity, doubleFree := x.doubleFree, retired := x.retired,
    partialDiscard := x.partialDiscard, transitDrop := x.transitDrop }) s
/-- A drain that reads a die's shard. -/
def drainReads (d : Nat) (x : Drain) : Bool := 0 < extentOf x.header d
/-- The memory of a die's stacks is gone: its shard holds nothing (R37). -/
def wipeShard (d : Nat) (s : State) : State :=
  let s := forEach (s.snap.drains.filter (drainReads d)) abandonDrain s
  onMem (fun m => { m with hbm := memZero m.hbm (d * shardB) shardB, bad := mclear m.bad (d * shardB / 512) (shardB / 512) }) s
/-- What isolating a sail die does (Table 21-1), its source already ISOLATED. -/
def loseDie (d : Nat) (s : State) : State :=
  let s := bindDieLost d s
  let s := forEach ((List.range 32).map (32 * d + ·)) dropPort s
  let s := loseCells d (dropSpars d s)
  let s := forEach (ctxsHomed s d) (fun e => loseCtx e.1 e.2) s
  let s := forEach (chunksHomed s d) (fun e => moveChunk e.1 e.2.1 e.2.2) s
  let s := forEach ((List.range 32).map (32 * d + ·)) unpowerTile s
  let s := onMem (fun m => { m with marks := m.marks.filter fun k => lpDie k.lanePort != d }) s
  wipeShard d s
/-- An isolated stack: the die's shard is invalid, and the baskets in it are lost. -/
def loseStack (k : Nat) (s : State) : State :=
  let d := k / 4
  let hit := (chunksHomed s d).filter fun e => (basketsOf (chunkOf s e.1 e.2.1 e.2.2)).any (isBlockOn d)
  wipeShard d (forEach hit (fun e => moveChunk e.1 e.2.1 e.2.2) s)
/-- A spar held down (R137). -/
def loseSpar (x y : Nat) (s : State) : State :=
  let up := (sparOf s x y).st == 1
  let s := onSpar y x (fun p => { p with st := 2 }) (onSpar x y (fun p => { p with st := 2 }) s)
  whenS up (record 0x0481 [(1, min x y), (1, max x y)]) s
/-- The mooring lane-port of a die is held DISABLED. -/
def loseMooring (d : Nat) (s : State) : State :=
  let l := moorLp d
  let up := linkUp s l
  whenS up (pathLost l) (disableLink l (leaveUp l s))

/-- What the isolation of a source does to its unit (Table 21-1). -/
def isolateUnit (id : Nat) (s : State) : State :=
  let i := id % 256
  match id / 256 with
  | 1 => if isIsolated s (srcId 6 i) then s else loseDie i s
  | 6 => if isIsolated s (srcId 1 i) then s else loseDie i s
  | 2 => loseSpar (i / 8) (i % 8) s
  | 3 => dropPort i s
  | 4 => isolateTile i s
  | 5 => loseStack i s
  | 7 => forEach (enginePorts i) dropPort s
  | 8 => failFlashDie i s
  | 10 => forEach (bayPorts i) dropPort s
  | 13 => loseMooring i s
  | _ => s

/-! ### Units that return (R450) -/

/-- Marks every granule of a die's shard. -/
def markShard (d : Nat) (s : State) : State := forEach (List.range 96) (fun g => markRegion (96 * d + g)) s
/-- What is done before a unit becomes usable again. -/
def prepareUnit (id : Nat) (s : State) : State :=
  let i := id % 256
  match id / 256 with
  | 1 => markShard i (scrubDie i s)
  | 6 => markShard i (scrubDie i s)
  | 5 => markShard (i / 4) s
  | _ => s
/-- A die in service again: its tiles GATED, its ports powered, accesses held for its shard served. -/
def returnDie (d : Nat) (s : State) : State :=
  if !dieUsable s d then s
  else
    let s := forEach ((List.range 32).map (32 * d + ·)) (fun t s =>
      if isIsolated s (srcId 4 t) then onTileU t (fun x => { x with st := .isolated }) s else loadImem t s) s
    let s := forEach ((List.range 32).map (32 * d + ·)) settlePort s
    serveHeld (d * shardB) ((d + 1) * shardB) s
/-- The mooring link leaves DISABLED. -/
def returnMooring (d : Nat) (s : State) : State :=
  let l := moorLp d
  let s := portUp (lpPort l) s
  if lanesActive s l && (linkOf s l).st == .waitLanes then lanesReady l s else s
/-- Returns a unit to service, its source already OK. -/
def returnUnit (id : Nat) (s : State) : State :=
  let i := id % 256
  match id / 256 with
  | 1 => returnDie i s
  | 6 => returnDie i s
  | 2 => onSpar (i % 8) (i / 8) (fun p => { p with st := 4, fails := [] })
      (onSpar (i / 8) (i % 8) (fun p => { p with st := 4, fails := [] }) s)
  | 3 => settlePort i s
  | 4 => if dieUsable s (i / 32) then releaseTile i s else s
  | 5 => serveHeld (i / 4 * shardB) ((i / 4 + 1) * shardB) s
  | 7 => forEach (enginePorts i) settlePort s
  | 8 => onFlash (fun x => { x with failed := mdel x.failed i }) s
  | 10 => forEach (bayPorts i) settlePort s
  | 13 => returnMooring i s
  | _ => s

/-! ### Supplies that go -/

/-- The loads on the sail-die, HBM, lane, optical and flash rails lose power: lanes OFF, tiles GATED with retention lost,
HBM and cell buffers empty, drains stopped, no page program under way (R63, R187, R341, R344, R359, R479). -/
def dataOff (s : State) : State :=
  let s := onCore (fun _ => coreReset) s
  let s := onNet (fun n => { netReset with bays := n.bays }) s
  let s := onTile (fun x => { tileReset with progs := x.progs }) s
  let s := onMem (fun _ => memReset) s
  let s := onSched (fun x => { x with windows := [], launchAt := none }) s
  let s := onSnap (fun x => { snapReset with reelOn := x.reelOn, snapDrop := x.snapDrop, targetUp := x.targetUp }) s
  let s := onFlash (fun x => { x with progs := [], scanOn := false }) s
  onGemel (fun g => { g with mirror := [], mirSeq := 0, gap := [], mirOwner := List.replicate 16 0, mirCoord := 0 }) s

/-- Brakes and ballast at rest. -/
def envAtRest (e : EnvSt) : EnvSt :=
  { e with
    shelfDrogue := false, capDrogue := false, pump := false, thermal := false, freeBallast := 0, schedBallast := 0,
    tier2Pct := 100, brakes := [], capAt := none, prevPin := none }

/-- The ripcord (R479): causes 0 `RIPCORD_N`, 1 `LEAK_N`, 2 a sensor, 3 QUENCH, 4 the command; `what` the sensor or
signal. It acts once, while the power stages are closed. -/
def ripcord (cause what : Nat) (s : State) : State :=
  match s.sys.st with
  | .off => s
  | .standby => s
  | .quenched => s
  | _ =>
    let s := dataOff (haltImage 7 s)
    let s := onEnv (fun e => { envAtRest e with stagesOpen := true }) s
    record 0x0DC5 [(1, cause), (1, what)] (moveTo .quenched 12 s)

/-- Is the keel die powered? -/
def keelPowered (s : State) : Bool := match s.sys.st with | .off => false | .standby => false | _ => true

/-- Does the journal hold an entry whose command was not applied yet (R367)? One whose MRAM write had not ended, and one
that went to the twin alone, may or may not have got there: a free value says. -/
def leftStored (s : State) (x : Storing) : Bool := (x.mram && s.gemel.mramOk) || Config.unstated 205 x.jseq % 2 == 1
/-- Journaling as a sleeping keel die leaves it: MRAM's contents, live tickets marked, sessions and rings gone. -/
def cmdAsleep (s : State) (c : CmdSt) : CmdSt :=
  { cmdReset with
    tickets := c.tickets.map (fun e => (e.1, { e.2 with before := e.2.before || ticketLive e.2, suspReq := false })),
    serial := c.serial, finals := c.finals, history := c.history, owed := c.owed, jseq := c.jseq,
    stored := c.stored ++ c.storing.filter (leftStored s) }
/-- NOR writes that the keel die's power-down cuts: a configuration copy may be half written, which leaves it invalid
(a free value says so) and its key list readable; the slot being staged is left invalid (R438, R441). -/
def tornWrites (s : State) : State :=
  let begun := fun (op : Nat) => (begunOps s op).any fun t => !t.before && t.ost != .suspended
  let torn := begun 0x0F01 && Config.unstated 206 s.mono % 2 == 1
  let other := s.sys.chosen.elim 0 (1 - ·)
  let bad := fun (c : CfgRec) => { c with valid := false, raw := [] }
  let noSlot := fun (f : FwSlot) => { f with valid := false }
  onSys (fun x => { x with
    cfg0 := if torn ∧ other = 0 then bad x.cfg0 else x.cfg0, cfg1 := if torn ∧ other ≠ 0 then bad x.cfg1 else x.cfg1,
    slotA := if begun 0x0F03 ∧ x.active ≠ 0 then noSlot x.slotA else x.slotA,
    slotB := if begun 0x0F03 ∧ x.active = 0 then noSlot x.slotB else x.slotB }) s
/-- What the keel die holds only while it is awake: rings, sessions, the host side's connections and settings in
force. MRAM, NOR, the flash array and the retained domain keep theirs (R452, R458). A failed MRAM device is replaced, and
its journal is gone (R368). -/
def keelSleeps (s : State) : State :=
  let posts := s.cmd.postWait
  let s := tornWrites s
  let s := onSys (fun x => { x with jrnGone := x.jrnGone || !s.gemel.mramOk }) (onCmd (cmdAsleep s) s)
  let s := forEach posts (fun e => postFinal e.1 e.2.2.1 e.2.2.2) s
  let s := onHost (fun h => { hostReset with perst := h.perst, training := false }) s
  let s := onFlt (fun x => { x with src := [], pend := [] }) s
  let s := onTime (fun _ => timeReset) s
  let s := onSched (fun x => { schedReset with images := x.images }) (onSnap (fun _ => snapReset) s)
  let s := onFlash (fun x => { x with scanTicket := none }) s
  let s := onGemel (fun g => { gemelReset with remote := g.remote, roleReturned := g.roleReturned }) s
  onSet (fun _ => setReset) s

/-- Closes every session, as a restart does (R387). -/
def closeAll (s : State) : State := forEach (s.cmd.sessions.map (·.1)) (fun k => closeSess (k / 64 + 1) (k % 64) 3) s
/-- Powers down to STANDBY (Table 20-1); `start` is the cause with which the module leaves it. A trial that has not
committed has been tried (R441). -/
def toStandby (start : Nat) (s : State) : State :=
  let s := keelSleeps (dataOff (closeAll s))
  let s := onEnv (fun e => { envAtRest e with stagesOpen := false, orphanCap := false }) s
  onSys (fun x => { x with
    st := .standby, starting := false, keelLost := false, hold := 0, nextCause := start, leaving := none,
    tried := x.tried || x.trial == some x.booted }) s

/-! ### Leaving STANDBY (R464) -/

/-- Sensors that keep a module in STANDBY: inlet above 45 °C, any sensor above 90 °C. -/
def tooHot (s : State) : Bool := 4500 < sensorVal s 96 || s.env.sensors.any fun e => 9000 < e.2
/-- A stop condition other than `PWR_OK_IN` and `VIN40`. -/
def stopCause (s : State) : Bool :=
  s.env.pins.ripcord || s.env.pins.leak || s.env.pins.flow || s.env.pins.thermtrip || tooHot s
/-- Begins the start-up sequence where nothing keeps the module in STANDBY (Table 20-1). -/
def tryStart (s : State) : State :=
  if s.sys.st = .standby ∧ s.env.pins.pwrOk ∧ !stopCause s ∧ !s.env.vinBad then
    onSys (fun x => { x with starting := true }) s
  else s

end Sys2Proof.Machine
end

