-- ==== Sys2Proof/Machine/Faults.lean ====
section
/-! DEFINITION. The fault collector (R446 to R454) and the commands of the collector and the recorder (R456, R460). -/

set_option Elab.async false

namespace Sys2Proof.Machine

/-! ### Classification (R447) -/

/-- FATAL kinds (Table 21-2). -/
def fatalKind (k : Nat) : Bool := [4, 5, 6, 0xC].contains k
/-- The actions that a class allows (Table 21-1): 0 LOG, 1 THROTTLE, 2 ISOLATE, 3 QUENCH. -/
def actionsOf (c : Nat) : List Nat :=
  match c with
  | 0 => [0, 3] | 1 => [0, 1, 2, 3] | 2 => [0, 2] | 3 => [0, 1, 2] | 4 => [0, 1, 2] | 5 => [0, 1, 2, 3] | 6 => [0, 2]
  | 7 => [0, 2] | 8 => [0, 2] | 9 => [0, 3] | 10 => [0, 2] | 11 => [0] | 12 => [0, 1, 3] | 13 => [0, 2] | _ => []
/-- Would isolating the source take the last usable sail die (R449)? -/
def lastDie (s : State) (id : Nat) : Bool :=
  (srcClass id == 1 || srcClass id == 6) && (dies s).filter (dieUsable s) == [id % 256]
/-- Does the enabled image name the source's unit (R451)? -/
def imageNames (s : State) (id : Nat) : Bool :=
  let i := id % 256
  let port := fun p => (portLps s p).any (namesLp s)
  match id / 256 with
  | 1 => namesDie s i
  | 6 => namesDie s i
  | 2 => (enabledEntries s).any fun e => entSpar e == some (i / 8, i % 8) || entSpar e == some (i % 8, i / 8)
  | 3 => port i
  | 4 => namesTile s i
  | 5 => namesStack s i
  | 7 => (enginePorts i).any port
  | 10 => (bayPorts i).any port
  | 13 => port (32 * i + 30)
  | _ => false

/-! ### Actions (R448) -/

/-- ISOLATE: an image that names the unit halts first (R451); `USABLE` changes, the unit leaves, and the event follows. -/
def isolate (id : Nat) (sticky : Bool) (s : State) : State :=
  let stk := (srcOf s id).sticky || sticky || (classOf s (srcClass id)).quietS == 0
  let was := isIsolated s id
  let s := whenS (imageNames s id) (haltImage 6) s
  let s := onSrc id (fun x => { x with st := .isolated, throttled := false, sticky := stk }) s
  let s := whenS (!was) (isolateUnit id) s
  recordSrc 0x0EC3 id [(2, id), (1, bit stk 0)] s
/-- QUENCH: the envelope controller pulls the ripcord (R479). -/
def quench (id : Nat) (s : State) : State := ripcord 3 id s
/-- Takes the class's action for a source that has become SEVERE. -/
def takeAction (id action : Nat) (sticky held : Bool) (s : State) : State :=
  let s := onSrc id (fun x => { x with st := .severe, lastUsable := x.lastUsable || held }) s
  match action with
  | 1 => onSrc id (fun x => { x with throttled := true }) (whenS (imageNames s id) (haltImage 6) s)
  | 2 => if held then s else isolate id sticky s
  | 3 => quench id s
  | _ => s
/-- A source becomes SEVERE (Table 21-3). -/
def severe (id : Nat) (fatal : Bool) (s : State) : State :=
  let a := (classOf s (srcClass id)).action
  let held := a == 2 && lastDie s id
  let s := recordSrc 0x0EC2 id [(2, id), (1, (srcOf s id).times.length), (1, a), (1, bit held 0)] s
  takeAction id a fatal held (whenS s.flt.onSevere (irq 64) s)

/-! ### Reports (R447, R452) -/

/-- The first-fault latch takes a report, or counts it. -/
def latchFirst (ft id kind : Nat) (s : State) : State :=
  if s.flt.valid then onFlt (fun x => { x with ovf := true, ovfCnt := sat 32 (x.ovfCnt + 1) }) s
  else
    let s := onFlt (fun x => { x with valid := true, source := id, kind := kind, mstate := mstCode s.sys.st, firstFt := ft }) s
    whenS s.flt.onFirst (irq 64) (recordSrc 0x0EC1 id [(2, id), (1, kind)] s)
/-- A source's own count of a report; only its last `COUNT` times are kept. -/
def countReport (ft id kind : Nat) (s : State) : State :=
  let n := (classOf s (srcClass id)).count
  onSrc id (fun x => { x with
    total := (x.total + 1) % 2 ^ 64, lastKind := kind, lastFt := ft, lastAt := s.mono,
    times := (x.times ++ [s.mono]).drop (x.times.length + 1 - n) }) s
/-- Do the kept times make the source SEVERE? -/
def windowFull (s : State) (id : Nat) : Bool :=
  let c := classOf s (srcClass id)
  let ts := (srcOf s id).times
  c.count ≤ ts.length && s.mono ≤ ts.headD 0 + cycS c.windowS
/-- One report: counted, latched, and judged in the source's state. -/
def takeReport (r : Nat × Nat × Nat) (s : State) : State :=
  let id := r.2.1
  let kind := r.2.2
  if !srcNames s id then s
  else
    let s := onFlt (fun x => { x with reports := (x.reports + 1) % 2 ^ 64 }) s
    let s := countReport r.1 id kind (latchFirst r.1 id kind s)
    match (srcOf s id).st with
    | .ok => if fatalKind kind || windowFull s id then severe id (fatalKind kind) s else onSrc id (fun x => { x with st := .counting }) s
    | .counting => if fatalKind kind || windowFull s id then severe id (fatalKind kind) s else s
    | _ => s
/-- Orders a batch by detection time, then by source id. -/
def batchBefore (a b : Nat × Nat × Nat) : Bool := a.1 < b.1 || (a.1 == b.1 && a.2.1 < b.2.1)
def sortBatch (l : List (Nat × Nat × Nat)) : List (Nat × Nat × Nat) :=
  l.foldl (fun r c => (r.takeWhile fun x => !batchBefore c x) ++ c :: r.dropWhile fun x => !batchBefore c x) []
/-- Does the collector run: the keel die awake and not lost (R454)? -/
def collecting (s : State) : Bool := keelOn s
/-- The batch of an always-on cycle: the detections of the model's own units, and `reps` (source, kind, time) from units
that the model does not follow. -/
def execFaultReportBatch (reps : List (Nat × Nat × Nat)) (s : State) : Host.Outcome State Fault Refusal :=
  .next (if collecting s then
    let all := s.flt.pend ++ reps.map fun r => (r.2.2, r.1, r.2.1)
    forEach (sortBatch all) takeReport (onFlt (fun x => { x with pend := [] }) s)
  else s)

/-! ### Quiet sources (Table 21-3) -/

def execFaultWindowExpire (src : Nat) (s : State) : Host.Outcome State Fault Refusal :=
  .next (if collecting s && (srcOf s src).st == .counting then onSrc src (fun x => { x with st := .ok, times := [] }) s else s)
/-- A source returns to OK: counted and recorded. -/
def recovered (id : Nat) (s : State) : State :=
  let s := onFlt (fun x => { x with recoveries := sat 32 (x.recoveries + 1) }) s
  recordSrc 0x0EC4 id [(2, id), (4, s.flt.recoveries)] s
/-- A source as OK again, its totals kept. -/
def clearSource (x : Source) : Source :=
  { x with st := .ok, sticky := false, throttled := false, lastUsable := false, times := [], ticket := none }
def countRecovery (x : Source) : Source := { x with recoveries := sat 16 (x.recoveries + 1) }
/-- `QUIET_S` without a report. -/
def execFaultQuietExpire (src : Nat) (s : State) : Host.Outcome State Fault Refusal :=
  let x := srcOf s src
  .next (if !collecting s || (classOf s (srcClass src)).quietS == 0 then s
  else match x.st with
    | .severe => recovered src (onSrc src (fun x => countRecovery (clearSource x)) s)
    | .isolated => if x.sticky then s else onSrc src (fun x => { x with st := .releasing }) s
    | _ => s)
/-- The release test passes: the unit returns to service. -/
def releasePass (id : Nat) (s : State) : State :=
  let tk := (srcOf s id).ticket
  let s := onSrc id (fun x => countRecovery (clearSource x)) (prepareUnit id s)
  let s := modSet (fun t => { t with isolated := t.isolated.filter (· != id) }) s
  let s := recovered id (returnUnit id s)
  match tk with | some k => ticketDone k s | none => s
/-- The release test fails: a FATAL report, and the isolation is sticky. -/
def releaseFail (id : Nat) (s : State) : State :=
  let tk := (srcOf s id).ticket
  let s := takeReport (ftNs s, id, 5) s
  let s := onSrc id (fun x => { x with st := .isolated, sticky := true, ticket := none }) s
  match tk with | some k => ticketFail k 0x0E01 s | none => s
def execReleaseTestDone (src : Nat) (pass : Bool) (s : State) : Host.Outcome State Fault Refusal :=
  .next (if collecting s && (srcOf s src).st == .releasing then (if pass then releasePass src s else releaseFail src s) else s)

/-! ### Commands of the collector (R460) -/

def chkFaultQuery (q : Req) (s : State) : Option Nat :=
  firstOf [refuseIf (1 < prm q 0 1) 0x0007, refuseIf (prm q 0 1 == 0 && !srcNames s (prm q 2 2)) 0x0E01]
/-- The room for entries of mode 1. -/
def sourcesRoom (q : Req) : Nat := bufLen (cat 0x0E01) q
def execFaultQuery (q : Req) (s : State) : Host.Outcome State Fault Refusal :=
  .next (runCommand (cat 0x0E01) (prm q 0 1 != 1 || 32 ≤ sourcesRoom q) (cat 0x0E01).priv (chkFaultQuery q s) []
    (ans fun s => if prm q 0 1 = 0 then qSource s (prm q 2 2) else qSources s (prm q 2 2) (sourcesRoom q)) q s)

def chkFaultClasscfg (q : Req) : Option Nat :=
  let dflt := (prm q 8 1).testBit 0
  firstOf [refuseIf (13 < prm q 0 1) 0x0007,
    refuseIf (!dflt && (3 < prm q 1 1 || !inRange (prm q 2 1) 1 32 || !inRange (prm q 4 2) 1 3600 || 3600 < prm q 6 2)) 0x0007,
    refuseIf (!dflt && !(actionsOf (prm q 0 1)).contains (prm q 1 1)) 0x0E01]
def classRec (q : Req) : ClassCfg :=
  if (prm q 8 1).testBit 0 then classDflt (prm q 0 1) else ⟨prm q 1 1, prm q 2 1, prm q 4 2, prm q 6 2⟩
def execFaultClasscfg (q : Req) (s : State) : Host.Outcome State Fault Refusal :=
  .next (plain 0x0E02 (chkFaultClasscfg q)
    (act (modSet fun t => { t with classes := mset (classDflt (prm q 0 1)) t.classes (prm q 0 1) (classRec q) })) q s)

def chkFaultIsolate (q : Req) (s : State) : Option Nat :=
  let id := prm q 0 2
  firstOf [refuseIf (!srcNames s id || !(actionsOf (srcClass id)).contains 2) 0x0E01, refuseIf (lastDie s id) 0x0E02]
def execFaultIsolate (q : Req) (s : State) : Host.Outcome State Fault Refusal :=
  .next (longOp 0x0E03 2 true (chkFaultIsolate q s) q s)
/-- The isolation takes effect; should its die have become the last usable one, the work fails. -/
def startIsolate (t : Ticket) (s : State) : State :=
  let id := rdLe t.param 0 2
  if lastDie s id then ticketFail t.ticket 0x0005 s
  else
    let s := isolate id true s
    ticketDone t.ticket (modSet (fun x => { x with isolated := id :: x.isolated.filter (· != id) }) s)

def chkFaultRelease (q : Req) (s : State) : Option Nat :=
  let id := prm q 0 2
  refuseIf (!srcNames s id || (srcOf s id).st != .isolated) 0x0E01
def execFaultRelease (q : Req) (s : State) : Host.Outcome State Fault Refusal :=
  .next (longOp 0x0E04 2 true (chkFaultRelease q s) q s)
/-- Starts the release test; a source that is not ISOLATED any more has none to run. -/
def startRelease (t : Ticket) (s : State) : State :=
  let id := rdLe t.param 0 2
  if (srcOf s id).st = .isolated then onSrc id (fun x => { x with st := .releasing, ticket := some t.ticket }) s
  else ticketFail t.ticket 0x0E01 s

/-- Clears the first-fault latch (R452). -/
def clearLatchFirst (s : State) : State := onFlt (fun x => { x with valid := false, ovf := false, ovfCnt := 0 }) s
/-- Every COUNTING source, and every SEVERE source that is not isolated, returns to OK. -/
def clearCounts (s : State) : State :=
  forEach (s.flt.src.map (·.1)) (fun id s =>
    match (srcOf s id).st with
    | .counting => onSrc id clearSource s
    | .severe => onSrc id clearSource s
    | _ => s) s
def execFaultClear (q : Req) (s : State) : Host.Outcome State Fault Refusal :=
  .next (plain 0x0E05 none
    (act fun s => whenS ((prm q 0 1).testBit 1) clearCounts (whenS ((prm q 0 1).testBit 0) clearLatchFirst s)) q s)
def execFltFirstClear (s : State) : Host.Outcome State Fault Refusal := .next (if keelOn s then clearLatchFirst s else s)

/-! ### Commands of the recorder (R456, R458, R460) -/

/-- The assigned event codes (Tables 17-14 and 18-6; assumption 72). -/
def eventCodes : List Nat :=
  [0x01C1, 0x01C2, 0x01C3, 0x01C8, 0x01C9, 0x0281, 0x0282, 0x0283, 0x0285, 0x0286, 0x0287, 0x0288, 0x0289, 0x0381, 0x0382,
   0x0383, 0x0384, 0x0481, 0x0482, 0x0483, 0x0484, 0x0485, 0x0486, 0x0581, 0x0582, 0x0583, 0x0584, 0x0681, 0x0682, 0x0683,
   0x06C1, 0x06C3, 0x06C4, 0x06C5, 0x06C6, 0x07C1, 0x07C2, 0x07C3, 0x07C4, 0x07C5, 0x07C6, 0x07C7, 0x08C0, 0x08C1, 0x08C2,
   0x08C3, 0x08C4, 0x08C5, 0x08C6] ++
  [0x09C1, 0x09C2, 0x09C3, 0x09C4, 0x0AC1, 0x0AC2, 0x0AC3, 0x0AC4, 0x0AC5, 0x0AC6, 0x0AC7, 0x0AC8, 0x0BC1, 0x0BC2, 0x0BC4,
   0x0BC5, 0x0BC6, 0x0BC7, 0x0BC8, 0x0CC1, 0x0CC2, 0x0CC3, 0x0CC4, 0x0CC5, 0x0CC6, 0x0CC7, 0x0DC1, 0x0DC2, 0x0DC3, 0x0DC4,
   0x0DC5, 0x0DC6, 0x0DC7, 0x0DC8, 0x0DC9, 0x0DCA, 0x0EC1, 0x0EC2, 0x0EC3, 0x0EC4, 0x0EC5, 0x0FC1, 0x0FC2, 0x0FC3, 0x0FC4,
   0x0FC5, 0x10C1, 0x10C2, 0x10C3, 0x10C4, 0x10C5]
/-- The selectors given, none under `DEFAULTS`. -/
def trigSels (q : Req) : List Nat :=
  if (prm q 2 1).testBit 2 then [] else (List.range (prm q 3 1)).map fun k => rdLe (inData q) (4 * k) 4
/-- Would a 257th trigger carry selectors? -/
def trigSpaceBad (q : Req) (s : State) : Bool :=
  !(trigSels q).isEmpty && 256 ≤ (s.set.trig.filter fun e => e.1 != prm q 0 2 && !e.2.sels.isEmpty).length
def chkEventTrigcfg (q : Req) (s : State) : Option Nat :=
  firstOf [refuseIf (!(prm q 2 1).testBit 2 && 16 < prm q 3 1) 0x0007, refuseIf (!eventCodes.contains (prm q 0 2)) 0x0E03,
    refuseIf (trigSpaceBad q s) 0x0E04]
def trigRec (q : Req) (gen : Nat) : Trigger :=
  if (prm q 2 1).testBit 2 then ⟨true, false, [], gen⟩
  else ⟨(prm q 2 1).testBit 0, (prm q 2 1).testBit 1, trigSels q, gen⟩
/-- The generation after the next change: the journal's, so that a restart does not take it back. -/
def nextTgen (s : State) (code : Nat) : Nat := ((mget trigDflt s.jrn.trig code).tgen + 1) % 65536
def setTrigger (q : Req) (s : State) : State × List Byte :=
  let g := nextTgen s (prm q 0 2)
  (modSet (fun t => { t with trig := mset trigDflt t.trig (prm q 0 2) (trigRec q g) }) s, leBytes 2 g)
def execEventTrigcfg (q : Req) (s : State) : Host.Outcome State Fault Refusal :=
  .next (runCommand (cat 0x0E06) ((prm q 2 1).testBit 2 || 4 * prm q 3 1 ≤ (inData q).length) 1 (chkEventTrigcfg q s) []
    (setTrigger q) q s)
def chkEventRead (q : Req) : Option Nat :=
  refuseIf (prm q 0 4 % 64 != 0 || !inRange (prm q 4 4) 64 65536 || evrSize < prm q 0 4 + prm q 4 4) 0x0007
/-- Room for `LEN` + 16 bytes. -/
def readRoom (q : Req) : Bool := prm q 4 4 + 16 ≤ bufLen (cat 0x0E07) q
def execEventRead (q : Req) (s : State) : Host.Outcome State Fault Refusal :=
  .next (runCommand (cat 0x0E07) (readRoom q) 0 (chkEventRead q) [] (ans fun s => qEvents s (prm q 0 4) (prm q 4 4)) q s)
def execEventRestart (q : Req) (s : State) : Host.Outcome State Fault Refusal :=
  .next (plain 0x0E08 none (act evrRestart) q s)
def execEvrRestartWrite (s : State) : Host.Outcome State Fault Refusal := .next (if keelOn s then evrRestart s else s)

end Sys2Proof.Machine
end

