-- ==== Sys2Proof/Machine/Power.lean ====
section
/-! DEFINITION. The envelope controller and the switch tray (R461 to R488): input power and its limits, brakes, drogue,
pump, temperature, ripcord, rack manager, supplies, and the `ENV` commands. Voltages are in 10 mV, currents in 0.1 A,
temperatures in 0.01 °C. -/

set_option Elab.async false

namespace Sys2Proof.Machine

/-! ### Brakes (R472, R473) -/

/-- Does the envelope controller act: any state with its loads powered? -/
def braking (s : State) : Bool :=
  match s.sys.st with | .keelUp => true | .ready => true | .service => true | .orphan => true | _ => false
/-- The port-level brake that goes with a tile duty: lowered together in proportion, to 2 % at 0 %. -/
def portFor (duty : Nat) : Nat := 2 + duty * 98 / 100
/-- A duty that the load model gives for a level (a free value of at most 100). -/
def modelDuty (level : Nat) (s : State) (d : Nat) : Nat := Config.dutyFor level s.mono d % 101
def onBrake (d : Nat) (f : Brake → Brake) (s : State) : State :=
  onEnv (fun e => { e with brakes := mmod brakeDflt e.brakes d f }) s
/-- Lowers every die's duty and port-level brake toward a level. -/
def lowerDies (level : Nat) (s : State) : State :=
  forEach (dies s) (fun d s =>
    let w := modelDuty level s d
    onBrake d (fun b => { b with duty := min b.duty w, port := min b.port (portFor w) }) s) s
/-- Raises them again. -/
def raiseDies (level : Nat) (s : State) : State :=
  forEach (dies s) (fun d s =>
    let w := modelDuty level s d
    onBrake d (fun b => { b with duty := max b.duty w, port := max b.port (portFor w) }) s) s
/-- The drogue presets take hold: free ballast off, tier-2 writes paused (not the emergency drain's), every die at its
preset or lower. -/
def applyPresets (s : State) : State :=
  let s := onEnv (fun e => { e with freeBallast := 0, tier2Pct := if s.snap.emergency then e.tier2Pct else 0 }) s
  forEach (dies s) (fun d => onBrake d fun b => { b with duty := min b.duty b.pDuty, port := min b.port b.pPort }) s
/-- A limit that reaches scheduled work halts the image first, and its ballast is released (R474). -/
def reachScheduled (level : Nat) (s : State) : State :=
  if level < schedFloor s ∧ haltable s then setBallast 0 (haltImage 7 s) else s
/-- Every 1 ms, presets from the load model (R473). -/
def execDroguePresetUpdate (s : State) : Host.Outcome State Fault Refusal :=
  .next (if braking s then
    forEach (dies s) (fun d s =>
      let w := modelDuty (drogueLevel s) s d
      onBrake d (fun b => { b with pDuty := w, pPort := portFor w }) s) s
  else s)

/-! ### Caps (R467, R469, R481) -/

/-- The level that a soft cap is enforced at: raised to the scheduled floor. -/
def capTarget (s : State) : Nat := max (softCap s) (schedFloor s)
/-- A new cap starts its 2 ms when input power stands above it; one below the floor is reported (R467, R469). -/
def startCap (s : State) : State :=
  let s := onEnv (fun e => { e with
    capDrogue := false, slew := s.set.env.slew, capAt := if capTarget s < e.pin then some s.mono else none }) s
  whenS (softCap s < schedFloor s) floorMissed s
/-- Input power is at or below the cap for the first time (R469); the time taken is in µs. -/
def capReached (s : State) : State :=
  match s.env.capAt with
  | some t =>
    if s.env.pin ≤ capTarget s then
      let s := envEvent 0 (onEnv (fun e => { e with capAt := none }) s)
      record 0x0DC1 [(2, capTarget s), (1, (effCap s).2), (4, (s.mono - t) / 1750)] s
    else s
  | none => s
/-- 2 ms after the command was checked (R469). -/
def execCapDeadline (s : State) : Host.Outcome State Fault Refusal :=
  .next (if braking s && s.env.capAt.isSome && capTarget s < s.env.pin && !s.env.capDrogue then
    let s := onEnv (fun e => { e with capDrogue := true, drogues := sat 32 (e.drogues + 1) }) s
    let s := record 0x0DC2 [(2, capTarget s), (2, s.env.pin), (1, 0)] (envEvent 1 s)
    let s := record 0x0DC3 [(1, 1), (1, 2), (2, capTarget s)] (envEvent 2 s)
    applyPresets s
  else s)

/-! ### Input power (R465, R470 to R472) -/

/-- Is a fall exempt from the ramp limit: a cap slews, or a drogue or the pump limit is in force (R470)? -/
def rampExempt (s : State) : Bool := s.env.capAt.isSome || s.env.shelfDrogue || s.env.capDrogue || s.env.pump
/-- The excess of a fall over the ramp limit, in units of 0.1 W. -/
def fallExcess (s : State) (was now : Nat) : Nat := 10 * was - s.set.env.ramp - 10 * now
/-- Adds an excess to `RAMP_EXCEED`: 0.1 W over 0.1 ms is 0.01 W·ms. -/
def countExcess (x : Nat) (s : State) : State :=
  if x = 0 then s
  else envEvent 7 (onEnv (fun e => { e with
    rampExceed := sat 32 (e.rampExceed + (e.rampFrac + x) / 100), rampFrac := (e.rampFrac + x) % 100 }) s)
/-- A measurement against the one before: falls are counted, and smoothing ballast takes them up (R470, R471). -/
def takeFall (was now : Nat) (s : State) : State :=
  if rampExempt s then s
  else
    let s := countExcess (fallExcess s was now) s
    let lim := s.set.env.ramp / 10
    onEnv (fun e => { e with
      freeBallast := if now + lim < was then min (400 - e.schedBallast) (e.freeBallast + (was - now - lim)) else e.freeBallast - lim }) s
/-- Scheduled ballast ramps to the floor before ARMED, and to 0 after the run, at the ramp limit (R323). -/
def rampBallast (s : State) : State :=
  let lim := s.set.env.ramp / 10
  if !schedEnabled s then setBallast (s.env.schedBallast - lim) s
  else match s.sched.st with
    | .loaded => setBallast (min s.sched.floorW (s.env.schedBallast + lim)) s
    | .halted => setBallast (s.env.schedBallast - lim) s
    | .ended => setBallast (s.env.schedBallast - lim) s
    | _ => s
/-- Does tier-2 writing yield to a limit: not the emergency drain's (R472)? -/
def tier2Yields (s : State) : Bool := !s.snap.emergency && 0 < s.env.tier2Pct
/-- Sheds load, each step only when the one before has reached its least value (R472). -/
def shedLoad (level : Nat) (s : State) : State :=
  if 0 < s.env.freeBallast then onEnv (fun e => { e with freeBallast := e.freeBallast - (e.pin - level) }) s
  else if tier2Yields s then onEnv (fun e => { e with tier2Pct := min (e.tier2Pct - 1) (modelDuty level s 0) }) s
  else lowerDies level s
/-- Raises load in the reverse order (R472). -/
def raiseLoad (level : Nat) (s : State) : State :=
  if (dies s).any (fun d => (brakeOf s d).duty < 100 || (brakeOf s d).port < 100) then raiseDies level s
  else if s.env.tier2Pct < 100 then onEnv (fun e => { e with tier2Pct := max e.tier2Pct (modelDuty level s 0) }) s
  else s
/-- Holds input power at the effective cap. -/
def holdCap (s : State) : State :=
  let s := forEach (hardCaps s) (fun c => reachScheduled c.1) s
  let level := (effCap s).1
  if level < s.env.pin then shedLoad level s else if s.env.pin < level then raiseLoad level s else s
/-- A measurement (R465): `PIN_W` is the product, in W. -/
def execPowerMeasurement (vin iin : Nat) (s : State) : Host.Outcome State Fault Refusal :=
  if 6000 < vin then .fault .beyondRatings
  else
    let prev := s.env.prevPin
    let now := vin * iin / 1000
    let s := onEnv (fun e => { e with vin := vin, iin := iin, pin := now, prevPin := some now }) s
    .next (if braking s then
      let s := match prev with | some p => takeFall p now s | none => s
      holdCap (capReached (rampBallast s))
    else s)

/-! ### Shelf drogue (R473 to R475) -/

/-- A shelf drogue begins: cause 0 `DROGUE_N`, 1 `VIN40`. -/
def startDrogue (cause : Nat) (s : State) : State :=
  if !braking s || s.env.shelfDrogue then s
  else
    let s := onEnv (fun e => { e with shelfDrogue := true, drogues := sat 32 (e.drogues + 1) }) s
    let s := reachScheduled (drogueLevel s) (envEvent 2 s)
    let s := whenS (drogueLevel s < s.env.pin) applyPresets s
    record 0x0DC3 [(1, 0), (1, cause), (2, drogueLevel s)] s
def execDrogueAssert (s : State) : Host.Outcome State Fault Refusal :=
  let s := onEnv (fun e => { e with pins := { e.pins with drogue := true } }) s
  .next (if s.env.pins.ripcord || s.env.pins.leak then s else startDrogue 0 s)
def execVinDrogueLow (cv : Nat) (s : State) : Host.Outcome State Fault Refusal :=
  if 6000 < cv then .fault .beyondRatings
  else .next (if cv < s.set.env.vinDrogue then startDrogue 1 (onEnv (fun e => { e with vin := cv }) s) else s)
/-- `DROGUE_N` clear and `VIN40` at or above 37.0 V for 10 ms. -/
def execDrogueEnd (cv : Nat) (s : State) : Host.Outcome State Fault Refusal :=
  if 6000 < cv then .fault .beyondRatings
  else
    let s := onEnv (fun e => { e with vin := cv, pins := { e.pins with drogue := false } }) s
    .next (if 3700 ≤ cv then onEnv (fun e => { e with shelfDrogue := false }) s else s)

/-! ### Pump condition (R476) -/

/-- The pump condition begins: cause 0 flow, 1 rise of a sensor. -/
def startPump (cause sensor : Nat) (s : State) : State :=
  if !braking s || s.env.pump then s
  else
    let s := onEnv (fun e => { e with pump := true }) s
    let s := record 0x0DC4 [(1, cause), (1, sensor)] (envEvent 3 s)
    let s := reachScheduled (pumpLimit s) s
    let s := whenS (running s && !s.sys.keelLost) startEmergency s
    if pumpLimit s < s.env.pin then lowerDies (pumpLimit s) (onEnv (fun e => { e with freeBallast := 0 }) s) else s
def execPumpConditionStart (s : State) : Host.Outcome State Fault Refusal :=
  let s := onEnv (fun e => { e with pins := { e.pins with flow := true } }) s
  .next (if s.env.pins.ripcord || s.env.pins.leak then s else startPump 0 0 s)
def execPumpConditionEnd (s : State) : Host.Outcome State Fault Refusal :=
  .next (onEnv (fun e => { e with pump := false, pins := { e.pins with flow := false } }) s)

/-! ### Temperature (R462, R476 to R479) -/

/-- The sail die in whose zone a sensor lies (Table 22-4). -/
def sensorDie (i : Nat) : Option Nat :=
  if i < 8 then some i
  else if 16 ≤ i && i < 48 then some ((i - 16) / 4)
  else if 48 ≤ i && i < 88 then some ((i - 48) / 5)
  else none
def dieSensors (d : Nat) : List Nat :=
  d :: ((List.range 4).map (16 + 4 * d + ·) ++ (List.range 5).map (48 + 5 * d + ·))
/-- One reading of the thermal loop of a die: 5 points down while a sensor is above `TJ_LIMIT`, up to 5 points back
while all are 2 °C below it. -/
def thermalStep (d : Nat) (s : State) : State :=
  let lim : Int := s.set.env.tjLimit * 100
  let fit := (dieSensors d).filter (sensorFitted s)
  if fit.any (fun i => lim < sensorVal s i) then
    onBrake d (fun b => { b with tDuty := b.tDuty - 5, tPort := max 2 (b.tPort - 5) }) s
  else if fit.all (fun i => sensorVal s i ≤ lim - 200) then
    onBrake d (fun b => { b with tDuty := min 100 (b.tDuty + 5), tPort := min 100 (b.tPort + 5) }) s
  else s
/-- `THERMAL` shows whether a die is held by its loop; the event is when it first is. -/
def showThermal (s : State) : State :=
  let on := (dies s).any fun d => (brakeOf s d).tDuty < 100 || (brakeOf s d).tPort < 100
  let was := s.env.thermal
  whenS (on && !was) (envEvent 6) (onEnv (fun e => { e with thermal := on }) s)
/-- A sensor's readings of the last second, with a new one. -/
def riseWith (s : State) (i : Nat) (v : Int) : List (Nat × Int) :=
  (mget [] s.env.rise i).filter (fun r => s.mono ≤ r.1 + cycS 1) ++ [(s.mono, v)]
/-- Has a die sensor above 70 °C risen by more than 2 °C within 1 s? -/
def risen (s : State) (i : Nat) (v : Int) : Bool := i ≤ 8 && 7000 < v && (riseWith s i v).any fun r => r.2 + 200 < v
/-- `THERMTRIP_N` is released when every sensor reads below 90 °C. -/
def coolTrip (s : State) : State :=
  if s.env.pins.thermtrip && s.env.sensors.all (fun e => e.2 < 9000) then
    onEnv (fun e => { e with pins := { e.pins with thermtrip := false } }) s
  else s
def execSensorReading (inst : Nat) (val : Int) (s : State) : Host.Outcome State Fault Refusal :=
  .next (if !sensorFitted s inst then s
  else
    let up := risen s inst val
    let hist := riseWith s inst val
    let s := onEnv (fun e => { e with sensors := mput e.sensors inst val, rise := mput e.rise inst hist }) s
    let s := coolTrip s
    if !braking s then s
    else if (s.set.env.tjRipcord * 100 : Int) < val then ripcord 2 inst s
    else
      let s := whenS up (startPump 1 inst) s
      match sensorDie inst with
      | some d => if s.env.pump then s else showThermal (thermalStep d s)
      | none => s)
/-- The hardware trip at 110 °C (R478): it needs no controller, and power goes down. -/
def execThermalTrip (sensor : Nat) (s : State) : Host.Outcome State Fault Refusal :=
  .next (if keelPowered s then
    let s := toStandby 4 (haltImage 7 s)
    onEnv (fun e => { e with
      stagesOpen := true, tripFlag := true, tripSensor := sensor, pins := { e.pins with thermtrip := true } }) s
  else s)

/-! ### Ripcord inputs (R479, R494) -/

def execRipcordInput (s : State) : Host.Outcome State Fault Refusal :=
  .next (ripcord 0 0 (onEnv (fun e => { e with pins := { e.pins with ripcord := true } }) s))
def execLeakInput (sensor : Nat) (s : State) : Host.Outcome State Fault Refusal :=
  let s := onEnv (fun e => { e with pins := { e.pins with leak := true } }) s
  .next (if braking s then ripcord 1 sensor (record 0x0DCA [(1, sensor)] s) else s)

/-! ### The rack manager (R481, R482) -/

/-- `HB_MISS` periods without a heartbeat, in SERVICE. -/
def execHeartbeatMissed (s : State) : Host.Outcome State Fault Refusal :=
  .next (if s.sys.st = .service ∧ !s.sys.keelLost then
    let s := onEnv (fun e => { e with orphanCap := true, orphanAt := s.mono }) (moveTo .orphan 10 s)
    startCap (record 0x0DC6 [(2, orphanCapW s), (2, schedFloor s)] (envEvent 4 s))
  else s)
def execKeelLossOrphanCap (s : State) : Host.Outcome State Fault Refusal :=
  .next (if s.sys.keelLost && braking s && !s.env.orphanCap then
    startCap (onEnv (fun e => { e with orphanCap := true }) s) else s)
/-- A heartbeat: counted, and an ORPHAN module returns to SERVICE. -/
def heartbeat (s : State) : State × List Byte :=
  let s := onEnv (fun e => { e with hbCount := sat 32 (e.hbCount + 1), hbAt := s.mono }) s
  let s := if s.sys.st = .orphan then
      let ms := (s.mono - s.env.orphanAt) / 1750000
      let s := onEnv (fun e => { e with orphanCap := false }) (moveTo .service 11 s)
      startCap (record 0x0DC7 [(4, ms)] s)
    else s
  (s, leBytes 1 (mstCode s.sys.st))
def execEnvHeartbeat (q : Req) (s : State) : Host.Outcome State Fault Refusal := .next (plain 0x0D05 none heartbeat q s)

/-! ### The tray and its supplies (R484, R485) -/

/-- Causes of `PSU_ALERT`: 0 a status fault, 1 a record not VALID, 2 an expected supply missing, 3 SHELVES, 4 the tray's record. -/
def psuAlert (bay cause : Nat) (s : State) : State := record 0x0DC8 [(1, bay), (1, cause)] (envEvent 5 s)
/-- Present supplies with a 40 V output, by bay. -/
def shelfBays (s : State) : List Nat := (List.range 8).filter fun b => psuPresent s b && (psuOf s b).outputs.testBit 0
/-- `SHELF_ID`, and whether the supplies name different shelves. -/
def settleShelf (s : State) : State :=
  match shelfBays s with
  | [] => s
  | b :: r =>
    let id := (psuOf s b).shelf
    let s := onEnv (fun e => { e with shelfId := id }) s
    match r.find? fun x => (psuOf s x).shelf != id with
    | some x => psuAlert x 3 s
    | none => s
/-- A supply's new reading: what differs from the last is reported. -/
def takePsu (b : Nat) (p : Option Psu) (s : State) : State :=
  let was := psuOf s b
  let had := psuPresent s b
  let s := onEnv (fun e => { e with psus := match p with | some x => mput e.psus b x | none => mdel e.psus b }) s
  match p with
  | none => whenS (had && s.set.env.psuExpect.testBit b) (psuAlert b 2) s
  | some x =>
    let s := whenS (x.status != 0 && x.status != was.status) (fun s => psuAlert b 0 (report (srcId 11 b) 0xA s)) s
    whenS (x.cstatus != 0 && x.cstatus != was.cstatus) (psuAlert b 1) s
def takePsus (rds : List (Option Psu)) (s : State) : State :=
  let old := (shelfBays s).map fun b => (psuOf s b).shelf
  let s := forEach ((rds.take 8).zipIdx) (fun e => takePsu e.2 e.1) s
  if (shelfBays s).map (fun b => (psuOf s b).shelf) = old then s else settleShelf s
def execPsuPoll (rds : List (Option Psu)) (s : State) : Host.Outcome State Fault Refusal :=
  .next (if keelOn s then
    takePsus rds (onEnv (fun e => { e with pins := { e.pins with pmbAlert := false } }) s) else s)
def execPsuAlertInput (rds : List (Option Psu)) (s : State) : Host.Outcome State Fault Refusal :=
  let s := onEnv (fun e => { e with pins := { e.pins with pmbAlert := true } }) s
  .next (if keelOn s then takePsus rds s else s)

/-! ### Status LEDs (R486): 0 off, 1 on, 2 blinking at 1 Hz -/

def ledPower (s : State) : Nat :=
  match s.sys.st with | .off => 0 | .ready => 1 | .service => 1 | _ => 2
def ledFault (s : State) : Nat :=
  if s.sys.st = .quenched ∨ !s.sys.keyOk then 2
  else if s.flt.src.any (fun e => e.2.st == .severe || e.2.st == .isolated || e.2.st == .releasing) then 1 else 0
def ledLocate (s : State) : Nat := if s.set.env.locate then 2 else 0

/-! ### Commands (R468, R480, R488) -/

/-- A field for which 0 selects a default. -/
def orDflt (v d : Nat) : Nat := if v = 0 then d else v
/-- The result of `ENV.CAP`, for its refusals too. -/
def capResult (s : State) : List Byte := leBytes 2 (schedFloor s) ++ leBytes 2 (effCap s).1
def chkEnvCap (q : Req) (s : State) : Option Nat :=
  firstOf [refuseIf (400 < prm q 2 2) 0x0007, refuseIf (rating s < prm q 0 2) 0x0D01,
    refuseIf (prm q 0 2 != 0 && prm q 0 2 < schedFloor s) 0x0D04]
/-- Only the refusals of R468 carry a result. -/
def capRefusal (q : Req) (s : State) : List Byte :=
  match verdict (cat 0x0D01) true 2 (chkEnvCap q s) q s with
  | some 0x0D01 => capResult s
  | some 0x0D04 => capResult s
  | _ => []
def onEnvCfg (f : EnvCfg → EnvCfg) (s : State) : State := modSet (fun t => { t with env := f t.env }) s
def setCap (w slew : Nat) (s : State) : State × List Byte :=
  let s := startCap (onEnvCfg (fun e => { e with capW := if w = 0 then none else some w, slew := orDflt slew 400 }) s)
  (s, capResult s)
def execEnvCap (q : Req) (s : State) : Host.Outcome State Fault Refusal :=
  .next (runCommand (cat 0x0D01) true 2 (chkEnvCap q s) (capRefusal q s) (setCap (prm q 0 2) (prm q 2 2)) q s)

def chkEnvRampcfg (q : Req) (s : State) : Option Nat :=
  firstOf [refuseIf (!inRange (orDflt (prm q 0 2) 150) 10 400) 0x0007, refuseIf (schedEnabled s) 0x0D02]
def execEnvRampcfg (q : Req) (s : State) : Host.Outcome State Fault Refusal :=
  .next (plain 0x0D02 (chkEnvRampcfg q s) (act (onEnvCfg fun e => { e with ramp := orDflt (prm q 0 2) 150 })) q s)

def brakeRec (q : Req) (e : EnvCfg) : EnvCfg :=
  { e with
    droguePct := orDflt (prm q 0 1) 55, pumpPct := orDflt (prm q 1 1) 40, vinDrogue := orDflt (prm q 2 2) 3600,
    tjLimit := orDflt (prm q 4 1) 95, tjRipcord := orDflt (prm q 5 1) 100 }
def chkEnvBrakecfg (q : Req) : Option Nat :=
  let e := brakeRec q envCfgReset
  refuseIf (!inRange e.droguePct 30 90 || !inRange e.pumpPct 20 80 || !inRange e.vinDrogue 3500 3800 ||
    !inRange e.tjLimit 80 98 || !inRange e.tjRipcord 90 100) 0x0007
def execEnvBrakecfg (q : Req) (s : State) : Host.Outcome State Fault Refusal :=
  .next (plain 0x0D03 (chkEnvBrakecfg q) (act (onEnvCfg (brakeRec q))) q s)

def chkEnvOrphancfg (q : Req) (s : State) : Option Nat :=
  firstOf [refuseIf (!inRange (orDflt (prm q 2 1) 1) 1 10 || !inRange (orDflt (prm q 3 1) 3) 2 10) 0x0007,
    refuseIf (rating s < prm q 0 2) 0x0D01]
def setOrphan (q : Req) (s : State) : State :=
  let s := onEnvCfg (fun e => { e with orphanW := prm q 0 2, hbS := orDflt (prm q 2 1) 1, hbMiss := orDflt (prm q 3 1) 3 }) s
  whenS s.env.orphanCap startCap s
def execEnvOrphancfg (q : Req) (s : State) : Host.Outcome State Fault Refusal :=
  .next (plain 0x0D04 (chkEnvOrphancfg q s) (act (setOrphan q)) q s)

def execEnvQuery (q : Req) (s : State) : Host.Outcome State Fault Refusal := .next (plain 0x0D06 none (ans qEnv) q s)
def chkEnvSensors (q : Req) : Option Nat := refuseIf (!inRange (prm q 1 1) 1 99) 0x0007
def execEnvSensors (q : Req) (s : State) : Host.Outcome State Fault Refusal :=
  .next (plain 0x0D07 (chkEnvSensors q) (ans fun s => qSensors s (prm q 0 1) (prm q 1 1)) q s)
def execEnvPsu (q : Req) (s : State) : Host.Outcome State Fault Refusal :=
  .next (plain 0x0D08 (refuseIf (7 < prm q 0 1) 0x0007) (ans fun s => qPsu s (prm q 0 1)) q s)

/-- A ripcord cause other than a command is present (R480). -/
def quenchCause (s : State) : Bool :=
  s.env.pins.ripcord || s.env.pins.leak || s.env.sensors.any fun e => (s.set.env.tjRipcord * 100 : Int) < e.2
def chkEnvRipcord (q : Req) (s : State) : Option Nat :=
  firstOf [refuseIf (1 < prm q 0 1) 0x0007, refuseIf (prm q 0 1 == 1 && s.sys.st != .quenched) 0x0005,
    refuseIf (prm q 0 1 == 1 && quenchCause s) 0x0D03]
/-- The completion posted, a module that has been told to leave goes to STANDBY, and starts again if nothing keeps it. -/
def leave (s : State) : State :=
  match s.sys.leaving with
  | some c => tryStart (toStandby c (onSys (fun x => { x with leaving := none }) s))
  | none => s
def execEnvRipcord (q : Req) (s : State) : Host.Outcome State Fault Refusal :=
  .next (leave (plain 0x0D09 (chkEnvRipcord q s)
    (act fun s => if prm q 0 1 = 0 then ripcord 4 0 s else onSys (fun x => { x with leaving := some 5 }) s) q s))

/-- Settings of the tray; a newly expected supply that is missing is reported. -/
def setTray (q : Req) (s : State) : State :=
  let was := s.set.env.psuExpect
  let s := onEnvCfg (fun e => { e with locate := (prm q 0 1).testBit 0, psuExpect := prm q 1 1 }) s
  forEach ((List.range 8).filter fun b => (prm q 1 1).testBit b && !was.testBit b && !psuPresent s b) (fun b => psuAlert b 2) s
def execEnvTraycfg (q : Req) (s : State) : Host.Outcome State Fault Refusal :=
  .next (plain 0x0D0A none (act (setTray q)) q s)
def execEnvTrayquery (q : Req) (s : State) : Host.Outcome State Fault Refusal := .next (plain 0x0D0B none (ans qTray) q s)

end Sys2Proof.Machine
end

