-- ==== Sys2Proof/Machine/Host.lean ====
section
/-! DEFINITION. Host attachment (chapter 19): the host link, HDM decoders, attestation, the memory-device mailbox, management
Ethernet, and the register blocks of BAR0 as they are read and written. -/

set_option Elab.async false

namespace Sys2Proof.Machine

/-! ### The host link (R416, R424, R495) -/

/-- The link leaves L0. -/
def linkDown (s : State) : State :=
  if s.host.l0 then
    let s := onHost (fun h => { h with l0 := false, mode := 0, width := 0, rate := 0, linkDowns := sat 32 (h.linkDowns + 1) }) s
    record 0x01C8 [(1, 0), (1, 0), (1, 0)] s
  else s
/-- The link enters L0 (mode 1 CXL, 2 PCIe only) or leaves it (mode 0). -/
def execHostLinkChange (mode width rate : Nat) (s : State) : Host.Outcome State Fault Refusal :=
  .next (if !keelOn s then s
  else if mode = 0 then linkDown s
  else if s.host.l0 || s.host.perst || 2 < mode then s
  else
    let s := onHost (fun h => { h with l0 := true, mode := mode, width := width, rate := rate, training := false }) s
    record 0x01C8 [(1, mode), (1, width), (1, rate)] s)
/-- What `PERST_N` and a hot reset return to reset (Table 19-5): rings, decoders, DOE. -/
def hostBlocks (s : State) : State :=
  let s := onHost (fun h => { h with dec := [], doe := spdmReset }) s
  onCmd (fun c => { c with rings := [] }) s
/-- `PERST_N` asserted, or (`hot`) a hot reset of the link, after which it trains again. -/
def execPerstAssert (hot : Bool) (s : State) : Host.Outcome State Fault Refusal :=
  .next (let s := onHost (fun h => { h with perst := h.perst || !hot, training := hot && !h.perst }) s
  if keelOn s then hostBlocks (linkDown s) else s)
/-- `PERST_N` deasserted: the port of an awake keel die trains. -/
def execPerstDeassert (s : State) : Host.Outcome State Fault Refusal :=
  .next (onHost (fun h => { h with perst := false, training := h.training || (h.perst && keelOn s) }) s)

/-! ### HDM decoders (R417) -/

/-- 256 MiB. -/
def hdmUnit : Nat := 0x10000000
def rangesMeet (a n b m : Nat) : Bool := a < b + m && b < a + n
/-- Where a decoder's device range begins: after the committed lower decoder's, and its skip. -/
def decDpa (s : State) (k skip : Nat) : Nat :=
  (if k = 1 && (decOf s 0).committed then (decOf s 0).dpa + (decOf s 0).size else 0) + skip
/-- May a decoder with these values be committed beside the other one? -/
def decOk (s : State) (k base size skip ways : Nat) : Bool :=
  let o := decOf s (1 - k)
  let dpa := decDpa s k skip
  s.host.mode == 1 && ways == 1 && size ≤ 2 ^ 40 && dpa + size ≤ s.id.n * shardB &&
    !(o.committed && (rangesMeet dpa size o.dpa o.size || rangesMeet base size o.base o.size))
/-- A host commits a decoder. Base and size have no bits below 256 MiB. -/
def execHdmDecoderCommit (dec base size skip ways : Nat) (s : State) : Host.Outcome State Fault Refusal :=
  let b := base / hdmUnit * hdmUnit
  let n := size / hdmUnit * hdmUnit
  let k := skip / hdmUnit * hdmUnit
  let ok := decOk s dec b n k ways
  .next (if !keelOn s || !s.host.l0 || 2 ≤ dec then s
  else onHost (fun h => { h with dec := mput h.dec dec ⟨b, n, k, decDpa s dec k, ok, !ok⟩ }) s)

/-! ### SPDM (R420, R437). Message bytes are those of DSP0274 1.2 (assumption 74). -/

/-- An SPDM message: version, code, two parameters, body. -/
def spdmMsg (ver code p1 p2 : Nat) (body : List Byte) : List Byte := leBytes 1 ver ++ leBytes 1 code ++ leBytes 1 p1 ++ leBytes 1 p2 ++ body
def spdmOf (doe : Bool) (s : State) : Spdm := if doe then s.host.doe else s.host.mgmtSpdm
def onSpdm (doe : Bool) (f : Spdm → Spdm) (s : State) : State :=
  onHost (fun h => if doe then { h with doe := f h.doe } else { h with mgmtSpdm := f h.mgmtSpdm }) s
/-- Can the transport carry a request? -/
def spdmUp (doe : Bool) (s : State) : Bool := keelOn s && (if doe then s.host.l0 else s.host.mgmtUp)
/-- Sends an answer and counts it. -/
def spdmSend (doe : Bool) (bs : List Byte) (s : State) : State :=
  emit (.spdm doe bs) (onHost (fun h => { h with spdmReq := sat 64 (h.spdmReq + 1) }) s)
/-- ERROR: codes 1 InvalidRequest, 4 UnexpectedRequest, 0x41 VersionMismatch. -/
def spdmErr (doe : Bool) (code : Nat) (s : State) : State := spdmSend doe (spdmMsg 0x12 0x7F code 0 []) s
/-- Sends an answer that joins the transcript with its request. -/
def spdmAnswer (doe : Bool) (req bs : List Byte) (s : State) : State :=
  spdmSend doe bs (onSpdm doe (fun x => { x with transcript := x.transcript ++ req ++ bs }) s)
/-- A request of version 1.2 in its turn (`ready` says which connection states allow it) is answered, any other refused. -/
def spdmReq (doe : Bool) (ver : Nat) (ready : Spdm → Bool) (f : State → State) (s : State) : State :=
  if !spdmUp doe s then s
  else if ver ≠ 0x12 then spdmErr doe 0x41 s
  else if !ready (spdmOf doe s) then spdmErr doe 4 s
  else f s
/-- GET_VERSION, which SPDM sends as version 1.0, begins the connection anew. -/
def execSpdmGetVersion (doe : Bool) (ver : Nat) (s : State) : Host.Outcome State Fault Refusal :=
  .next (if !spdmUp doe s then s
  else if ver ≠ 0x10 then spdmErr doe 0x41 s
  else spdmAnswer doe (spdmMsg 0x10 0x84 0 0 []) (spdmMsg 0x10 0x04 0 0 (leBytes 1 0 ++ leBytes 1 1 ++ leBytes 2 0x1200))
    (onSpdm doe (fun _ => ⟨true, false, false, []⟩) s))
/-- Certificates, challenges and signed measurements; the figures that the manual does not give are free. -/
def spdmCaps : List Byte :=
  leBytes 1 0 ++ leBytes 1 (Config.unstated 201 0) ++ leBytes 2 0 ++ leBytes 4 0x16 ++ leBytes 4 (Config.unstated 201 1) ++
    leBytes 4 (Config.unstated 201 2)
def execSpdmGetCapabilities (doe : Bool) (ver : Nat) (s : State) : Host.Outcome State Fault Refusal :=
  .next (spdmReq doe ver (fun x => x.version && !x.caps) (fun s =>
    spdmAnswer doe (spdmMsg 0x12 0xE1 0 0 []) (spdmMsg 0x12 0x61 0 0 spdmCaps) (onSpdm doe (fun x => { x with caps := true }) s)) s)
/-- ALGORITHMS with ECDSA P-256 and SHA-256. -/
def spdmAlgs : List Byte :=
  leBytes 2 36 ++ leBytes 1 1 ++ leBytes 1 0 ++ leBytes 4 2 ++ leBytes 4 0x10 ++ leBytes 4 1 ++ List.replicate 16 0
/-- The requester's masks must name ECDSA P-256 (bit 4) and SHA-256 (bit 0). -/
def execSpdmNegotiateAlgorithms (doe : Bool) (ver asym hash : Nat) (s : State) : Host.Outcome State Fault Refusal :=
  .next (spdmReq doe ver (fun x => x.caps && !x.algs) (fun s =>
    if asym.testBit 4 && hash.testBit 0 then
      spdmAnswer doe (spdmMsg 0x12 0xE3 0 0 (leBytes 4 asym ++ leBytes 4 hash)) (spdmMsg 0x12 0x63 0 0 spdmAlgs)
        (onSpdm doe (fun x => { x with algs := true }) s)
    else spdmErr doe 1 s) s)
/-- Certificate slot 0: length, the root's digest, the certificates. -/
def spdmChain : List Byte :=
  let r := sliceBytes Config.rootDigest 0 32
  leBytes 2 (4 + 32 + Config.certChain.length) ++ leBytes 2 0 ++ r ++ Config.certChain
def execSpdmGetDigests (doe : Bool) (ver : Nat) (s : State) : Host.Outcome State Fault Refusal :=
  .next (spdmReq doe ver (·.algs) (fun s =>
    spdmAnswer doe (spdmMsg 0x12 0x81 0 0 []) (spdmMsg 0x12 0x01 0 1 (sha256 spdmChain)) s) s)
/-- The portion of the chain that a request asks for. -/
def chainPortion (off len : Nat) : List Byte := (spdmChain.drop off).take len
def execSpdmGetCertificate (doe : Bool) (ver slot off len : Nat) (s : State) : Host.Outcome State Fault Refusal :=
  .next (spdmReq doe ver (·.algs) (fun s =>
    if slot ≠ 0 ∨ spdmChain.length ≤ off then spdmErr doe 1 s
    else
      let p := chainPortion off len
      spdmAnswer doe (spdmMsg 0x12 0x82 slot 0 (leBytes 2 off ++ leBytes 2 len))
        (spdmMsg 0x12 0x02 slot 0 (leBytes 2 p.length ++ leBytes 2 (spdmChain.length - off - p.length) ++ p)) s) s)
/-- The device key's signature, 64 bytes. -/
def keySign (m : List Byte) : List Byte := sliceBytes (Config.deviceSign m) 0 64
def execSpdmChallenge (doe : Bool) (ver slot : Nat) (nonce : List Byte) (s : State) : Host.Outcome State Fault Refusal :=
  .next (spdmReq doe ver (·.algs) (fun s =>
    if slot ≠ 0 then spdmErr doe 1 s
    else
      let (r, s) := draw s
      let req := spdmMsg 0x12 0x83 slot 0 nonce
      let head := spdmMsg 0x12 0x03 slot 1 (sha256 spdmChain ++ beBytes 32 (r % 2 ^ 256) ++ leBytes 2 0)
      let sg := keySign ((spdmOf doe s).transcript ++ req ++ head)
      spdmSend doe (head ++ sg) (onSpdm doe (fun x => { x with transcript := [] }) s)) s)
/-- The digest of tile-program slot p, 0 to 7 (of slots 16 to 23), or zeros (Table 20-2). -/
def progDigest (s : State) (p : Nat) : List Byte :=
  match mfind s.tile.progs (16 + p) with
  | some i => beBytes 32 i.digest
  | none => List.replicate 32 0
/-- A measurement of Table 20-2: whether it is raw, and its value. -/
def measurement (s : State) (k : Nat) : Bool × List Byte :=
  match k with
  | 1 => (false, sliceBytes Config.romDigest 0 32)
  | 2 => (false, sliceBytes (bootedSlot s).digest 0 32)
  | 3 => (false, sha256 s.sys.inUse.raw)
  | 4 => (true, leBytes 4 (bootedSlot s).svn ++ leBytes 4 (floorOf s))
  | 5 => (true, leBytes 8 (detClass s))
  | 6 => (false, sha256 ((List.range 8).flatMap (progDigest s)))
  | _ => (false, sha256 Config.carrierRecord)
/-- A measurement block; its DMTF type, which the manual does not give, is free but for the raw bit. -/
def measBlock (s : State) (k : Nat) : List Byte :=
  let m := measurement s k
  leBytes 1 k ++ leBytes 1 1 ++ leBytes 2 (3 + m.2.length) ++ leBytes 1 (Config.unstated 202 k % 128 + bit m.1 7) ++
    leBytes 2 m.2.length ++ m.2
def measWanted (idx : Nat) : List Nat := if idx = 0 then [] else if idx = 0xFF then [1, 2, 3, 4, 5, 6, 7] else [idx]
def execSpdmGetMeasurements (doe : Bool) (ver idx : Nat) (nonce : List Byte) (s : State) : Host.Outcome State Fault Refusal :=
  .next (spdmReq doe ver (·.algs) (fun s =>
    if 7 < idx ∧ idx ≠ 0xFF then spdmErr doe 1 s
    else
      let (r, s) := draw s
      let req := spdmMsg 0x12 0xE0 1 idx nonce
      let ks := measWanted idx
      let rec_ := ks.flatMap (measBlock s)
      let body := leBytes 1 ks.length ++ leBytes 3 rec_.length ++ rec_ ++ beBytes 32 (r % 2 ^ 256) ++ leBytes 2 0
      let head := spdmMsg 0x12 0x60 (if idx = 0 then 7 else 0) 0 body
      let sg := keySign ((spdmOf doe s).transcript ++ req ++ head)
      spdmSend doe (head ++ sg) s) s)
/-- A DOE abort: every request is answered within its own row, so none is in progress to discard (assumption 75). -/
def execDoeAbort (s : State) : Host.Outcome State Fault Refusal := .next s

/-! ### The memory-device mailbox (R415). Payloads are those of CXL 2.0 (assumption 76). -/

/-- The mailbox lies in BAR2, which only CXL mode serves. -/
def mailboxUp (s : State) : Bool := keelOn s && cxlMemUp s
def mailboxRet (code : Nat) (bs : List Byte) (s : State) : State := if mailboxUp s then emit (.mailbox code bs) s else s
/-- Capacity in units of 256 MiB: 96 GiB for each sail die, all volatile. -/
def capacityUnits (s : State) : Nat := 384 * s.id.n
/-- Bytes that no page gives. -/
def freeBytes (tag n : Nat) : List Byte := (List.range n).map fun i => BitVec.ofNat 8 (Config.unstated tag i)
def execIdentifyMemoryDevice (s : State) : Host.Outcome State Fault Refusal :=
  .next (mailboxRet 0 (freeBytes 203 16 ++ fields 0x33 [(0, 8, capacityUnits s), (8, 8, capacityUnits s)]) s)
/-- The Command Effects Log: the four commands, none of which changes anything. -/
def effectsLog : List Byte := [0x0400, 0x0401, 0x4000, 0x4200].flatMap fun c => leBytes 2 c ++ leBytes 2 0
def effectsUuid : Nat := 0x0DA9C0B5BF414B788F7996B1623B3F17
def execGetSupportedLogs (s : State) : Host.Outcome State Fault Refusal :=
  .next (mailboxRet 0 (fields 8 [(0, 2, 1)] ++ beBytes 16 effectsUuid ++ leBytes 4 effectsLog.length) s)
/-- Another log, or bytes beyond the log, are an invalid input. -/
def execGetLog (uuid off len : Nat) (s : State) : Host.Outcome State Fault Refusal :=
  .next (if uuid ≠ effectsUuid ∨ effectsLog.length < off + len then mailboxRet 2 [] s
  else mailboxRet 0 ((effectsLog.drop off).take len) s)
def execGetHealthInfo (s : State) : Host.Outcome State Fault Refusal := .next (mailboxRet 0 (freeBytes 204 18) s)
/-- Every other opcode: Unsupported. -/
def execMailboxUnsupported (opc : Nat) (s : State) : Host.Outcome State Fault Refusal :=
  .next (if [0x0400, 0x0401, 0x4000, 0x4200].contains opc then s else mailboxRet 3 [] s)

/-! ### Management Ethernet (R421, R422) -/

def execMgmtLinkChange (up : Bool) (s : State) : Host.Outcome State Fault Refusal :=
  .next (if !keelOn s || s.host.mgmtUp == up then s
  else record 0x01C9 [(1, if up then 1 else 0)] (onHost (fun h => { h with mgmtUp := up }) s))
def mgmtDrop (s : State) : State := onHost (fun h => { h with mgmtDropped := sat 32 (h.mgmtDropped + 1) }) s
/-- Does a frame come to the port's address in its VLAN? -/
def mgmtMine (s : State) (v6 : Bool) (vlan dst : Nat) : Bool :=
  let a := if v6 then s.set.mgmt.ipv6 else s.set.mgmt.ipv4
  a != 0 && a == dst && vlan == s.set.mgmt.vlan
/-- A frame: ARP, solicitations and echoes are answered; a datagram for a capsule or an SPDM message is handed on (its row
follows); the rest is discarded and counted. -/
def execMgmtPacketRx (pkt : MgmtPkt) (s : State) : Host.Outcome State Fault Refusal :=
  .next (if !keelOn s || !s.host.mgmtUp then s
  else match pkt with
    | .arp vlan dst => if mgmtMine s false vlan dst then emit (.mgmt dst 0 []) s else mgmtDrop s
    | .solicit vlan dst => if mgmtMine s true vlan dst then emit (.mgmt dst 0 []) s else mgmtDrop s
    | .echo vlan v6 dst bs => if mgmtMine s v6 vlan dst then emit (.mgmt dst 0 bs) s else mgmtDrop s
    | .udp vlan v6 dst _ port bs =>
      if mgmtMine s v6 vlan dst && (port == 6160 || (port == 6161 && bs.length ≤ 1400)) then s else mgmtDrop s
    | .other _ => mgmtDrop s)

/-! ### Register accesses (R9, R10, R426, R427) -/

/-- A read of `FT_NOW`: all of it (`half` 0) or its low half (1), at which `FT_FRAC` is latched. -/
def execFtNowRead (half : Nat) (s : State) : Host.Outcome State Fault Refusal :=
  .next (if !keelOn s || 1 < half then s
  else
    let v := ftNs s
    let s := onHost (fun h => { h with ftFrac := ftTs s % 65536 }) s
    if half = 0 then emit (.regRead 0x8000 v) s
    else emit (.regRead 0x8000 (v % 2 ^ 32)) (onHost (fun h => { h with hi := mput h.hi 0x8000 (v / 2 ^ 32) }) s))
/-- A 32-bit read of the low half of a register, which latches the high half. A doorbell's halves are registers of their
own (R425). -/
def execLowHalfRead (off : Nat) (s : State) : Host.Outcome State Fault Refusal :=
  .next (if !keelOn s || off % 8 != 0 || 0x100000 ≤ off then s
  else
    let v := bar0Read s off
    let s := whenS (off == 0x8000) (onHost fun h => { h with ftFrac := ftTs s % 65536 }) s
    let latch := fun (h : HostSt) => { h with hi := mput h.hi off (v / 2 ^ 32) }
    emit (.regRead off (v % 2 ^ 32)) (whenS (off < 0x1000 || 0x1200 ≤ off) (onHost latch) s))
/-- What the next read of a register's high half returns: the latched value, without one the register's own. -/
def highRead (s : State) (off : Nat) : Nat := (mfind s.host.hi off).getD (bar0Read s off / 2 ^ 32)

/-- Writes a ring's fields, but for `ENABLE`, while that reads 0 (R426). -/
def writeRing (r o v : Nat) (s : State) : State :=
  if (ringOf s r).enable then s
  else match o with
    | 0x00 => onRing r (fun g => { g with sqBase := v }) s
    | 0x08 => onRing r (fun g => { g with cqBase := v }) s
    | 0x10 => onRing r (fun g => { g with resBase := v }) s
    | 0x18 => onRing r (fun g => { g with msix := v / 65536 % 256, priv := v / 16 % 4, entLog2 := v % 16 }) s
    | _ => s
/-- Writes a whole register: the fields of Tables 19-8, 21-4, 21-6 and 22-6 that have no row of their own. -/
def writeReg (off v : Nat) (s : State) : State :=
  if 0x2000 ≤ off ∧ off < 0x3000 then writeRing ((off - 0x2000) / 64) (off % 64) v s
  else match off with
    | 0x4010 => onFlt (fun x => { x with ovf := x.ovf && !v.testBit 63 }) s
    | 0x4030 => onFlt (fun x => { x with onSevere := v.testBit 1, onFirst := v.testBit 0 }) s
    | 0x5000 => onFlt (fun x => { x with fillThr := v / 256 % 256, intEn := v.testBit 2, enable := v.testBit 0 }) s
    | 0x5010 => onFlt (fun x => { x with cursor := v / 4096 % 2048 }) s
    | 0x5030 => onFlt (fun x => { x with intPend := x.intPend && !v.testBit 0 }) s
    | 0x7020 => onEnv (fun e => { e with events := e.events &&& (0xFF ^^^ (v % 256)) }) s
    | 0x7028 => onEnv (fun e => { e with intEn := v % 256 }) s
    | _ => s
/-- A register write of 8 bytes, or of 4: a low half is kept until the high half is written (R9). -/
def execRegisterWrite (off size val : Nat) (s : State) : Host.Outcome State Fault Refusal :=
  let a := off / 8 * 8
  .next (if !keelOn s then s
  else if size = 8 ∧ off % 8 = 0 then writeReg off (val % 2 ^ 64) s
  else if size = 4 ∧ off % 8 = 0 then onHost (fun h => { h with lo := mput h.lo a (val % 2 ^ 32) }) s
  else if size = 4 ∧ off % 8 = 4 then
    let low := (mfind s.host.lo a).getD (bar0Read s a % 2 ^ 32)
    writeReg a (low + val % 2 ^ 32 * 2 ^ 32) (onHost (fun h => { h with lo := mdel h.lo a }) s)
  else s)

/-! ### Commands (R19, R20, R428) -/

def execDevHostquery (q : Req) (s : State) : Host.Outcome State Fault Refusal := .next (plain 0x0107 none (ans qHost) q s)
def vlanBad (v : Nat) : Bool := 4095 < v && v != 0xFFFF
/-- Zero, multicast or broadcast. -/
def ipv4Bad (a p : Nat) : Bool :=
  a == 0 || a >>> 28 == 14 || a == 0xFFFFFFFF || (p ≤ 30 && a % 2 ^ (32 - p) == 2 ^ (32 - p) - 1)
def ipv6Bad (a : Nat) : Bool := a == 0 || a >>> 120 == 0xFF
def gatewayOff (g a p : Nat) : Bool := g != 0 && g >>> (32 - p) != a >>> (32 - p)
def filterBad (f : Nat) : Bool := 4095 < f && f != 0xFFFF
/-- The addresses of section 0. -/
def mgmtRec (q : Req) : MgmtCfg := ⟨prm q 4 4, prm q 8 1, prm q 12 4, prm q 16 16, prm q 32 1, prm q 34 2⟩
def mgmtBad (m : MgmtCfg) : Bool :=
  32 < m.prefix4 || 128 < m.prefix6 || ipv4Bad m.ipv4 m.prefix4 || ipv6Bad m.ipv6 || gatewayOff m.gateway4 m.ipv4 m.prefix4 ||
    m.vlan == 4095
def chkDevMgmtcfg (q : Req) : Option Nat :=
  match prm q 0 1 with
  | 0 => firstOf [refuseIf (vlanBad (prm q 34 2)) 0x0007, refuseIf (mgmtBad (mgmtRec q)) 0x0101]
  | 1 => refuseIf (prm q 8 40 != 0 || filterBad (prm q 4 2) || filterBad (prm q 6 2)) 0x0007
  | _ => some 0x0007
def execDevMgmtcfg (q : Req) (s : State) : Host.Outcome State Fault Refusal :=
  .next (plain 0x0106 (chkDevMgmtcfg q)
    (act (modSet fun t =>
      if prm q 0 1 = 0 then { t with mgmt := mgmtRec q } else { t with filter0 := prm q 4 2, filter1 := prm q 6 2 })) q s)

/-- The capability record (Table 1-5). -/
def execDevCaps (q : Req) (s : State) : Host.Outcome State Fault Refusal :=
  .next (runCommand (cat 0x0101) (prm q 0 8 == 0 || 256 ≤ prm q 8 4) 0 none [] (ans capRecord) q s)

end Sys2Proof.Machine
end

