-- ==== Sys2Proof/Machine/Startup.lean ====
section
/-! DEFINITION. Start-up, configuration and trust (chapter 20): the module's states, the start-up sequence, configuration
records, firmware slots, the floor, and their commands. -/

set_option Elab.async false

namespace Sys2Proof.Machine

/-! ### Configuration records (Table 20-3, R438) -/

def keyAt (b : List Byte) (i : Nat) : KeyEnt :=
  let o := 0x100 + 96 * i
  ⟨rdLe b o 8, rdLe b (o + 8) 1, rdLe b (o + 9) 1, sliceBytes b (o + 0x1F) 65⟩
def recKeys (b : List Byte) : Nat := rdLe b 6 2
/-- A record's fields. -/
def cfgParse (b : List Byte) (valid : Bool) : CfgRec :=
  ⟨valid, b, (rdLe b 0xC 2).testBit 0, rdLe b 0xE 2, rdLe b 0x10 8, rdLe b 0x18 4, rdLe b 0x1C 1, rdLe b 0x1D 1,
    sliceBytes b 0x40 32, (List.range (recKeys b)).map (keyAt b)⟩
def keyBytesOk (b : List Byte) (i : Nat) : Bool :=
  let o := 0x100 + 96 * i
  rdLe b (o + 8) 1 < 16 && rdLe b (o + 9) 1 ≤ 2 && rdLe b (o + 0xA) 21 == 0
/-- `MAGIC`, `REC_VER` and `REC_LEN` are correct, every reserved field is 0, every field in its range. -/
def cfgFormOk (b : List Byte) : Bool :=
  rdLe b 0 4 == 0x47464351 && rdLe b 4 2 == 1 && recKeys b ≤ 64 && rdLe b 8 4 == 0x148 + 96 * recKeys b &&
    b.length == rdLe b 8 4 && rdLe b 0xC 2 ≤ 1 && rdLe b 0x1C 1 ≤ 2 && rdLe b 0x1D 1 ≤ 2 && rdLe b 0x1E 34 == 0 &&
    rdLe b 0x45 3 == 0 && rdLe b 0x5D 1 == 0 && rdLe b 0x60 160 == 0 && (List.range (recKeys b)).all (keyBytesOk b)
/-- The key that `SIGNER_ID` names: the vendor key, or an OWNER-role key of a list. -/
def signerOf (keys : List KeyEnt) (b : List Byte) : Option (List Byte) :=
  let id := rdLe b (b.length - 72) 8
  if id = Config.vendorKeyId then some Config.vendorKey
  else (keys.find? fun k => k.keyId == id && k.role.testBit 3).map (·.pub)
/-- Does the signature over every earlier byte verify under an allowed signer? -/
def cfgSigned (keys : List KeyEnt) (b : List Byte) : Bool :=
  (signerOf keys b).any fun k => ecdsaOk k (b.take (b.length - 64)) (b.drop (b.length - 64))
/-- Is a copy valid, with the other copy's key list? The copies that reset's NOR holds have no bytes. -/
def copyValid (c other : CfgRec) : Bool := if c.raw.isEmpty then c.valid else cfgFormOk c.raw && cfgSigned other.keys c.raw
/-- The valid copy with the higher `SEQ`. -/
def bestCopy (v0 v1 : Bool) (c0 c1 : CfgRec) : Option Nat :=
  if v0 then (if v1 ∧ c0.seq < c1.seq then some 1 else some 0) else if v1 then some 1 else none
/-- Step 2 of R431: both copies are checked, the record is chosen, and copies that are not valid are recorded. -/
def chooseRecord (s : State) : State :=
  let c0 := s.sys.cfg0
  let c1 := s.sys.cfg1
  let v0 := copyValid c0 c1
  let v1 := copyValid c1 c0
  let ch := bestCopy v0 v1 c0 c1
  onSys (fun x => { x with
    cfg0 := { c0 with valid := v0 }, cfg1 := { c1 with valid := v1 }, chosen := ch,
    inUse := match ch with | none => cfgBuiltIn | some 0 => { c0 with valid := true } | some _ => { c1 with valid := true } }) s
def recordBadCopies (s : State) : State :=
  whenS (!s.sys.cfg1.valid) (record 0x0FC1 [(1, 1)]) (whenS (!s.sys.cfg0.valid) (record 0x0FC1 [(1, 0)]) s)

/-! ### Firmware slots and the floor (R440 to R442) -/

def slotAt (s : State) (k : Nat) : FwSlot := if k = 0 then s.sys.slotA else s.sys.slotB
def setFwSlot (k : Nat) (f : FwSlot) (s : State) : State :=
  onSys (fun x => if k = 0 then { x with slotA := f } else { x with slotB := f }) s
/-- Why a slot is passed over: cause 0 signature, 1 floor, or none. -/
def slotFault (s : State) (k : Nat) : Option Nat :=
  if !(slotAt s k).valid then some 0 else if (slotAt s k).svn < floorOf s then some 1 else none
/-- Is a trial pending and not yet tried? -/
def trialDue (s : State) : Bool := s.sys.trial.isSome && !s.sys.tried
/-- The order in which slots are tried. -/
def bootOrder (s : State) : List Nat :=
  match (if trialDue s then s.sys.trial else none) with
  | some t => if t = s.sys.active then [t, 1 - t] else [t, s.sys.active]
  | none => [s.sys.active, 1 - s.sys.active]
def bootable (s : State) : Option Nat := (bootOrder s).find? fun k => (slotFault s k).isNone
def fwSlotBad (slot cause : Nat) (s : State) : State := record 0x0FC4 [(1, slot), (1, cause)] s
/-- The boot block's `FLOOR` is raised to the floor. -/
def raiseFloor (n : Nat) (s : State) : State :=
  if s.sys.floor < n then record 0x0FC5 [(4, s.sys.floor), (4, n)] (onSys (fun x => { x with floor := n }) s) else s
/-- Steps 3 of R431: the chosen slot runs; slots passed over are recorded, a trial that was tried or could not boot among
them, and it is pending no longer. -/
def bootSlot (k : Nat) (s : State) : State :=
  let passed := (bootOrder s).takeWhile (· != k)
  let late := s.sys.tried && s.sys.trial.isSome
  let s0 := s
  let s := match s.sys.trial with | some t => whenS late (fwSlotBad t 2) s | none => s
  let s := forEach passed (fun p => fwSlotBad p ((slotFault s0 p).getD 0)) s
  let keep := trialDue s && s.sys.trial == some k
  onSys (fun x => { x with
    booted := k, trialAt := s.mono, trial := if keep then x.trial else none,
    tried := if keep then false else x.tried || x.trial.isSome }) s

/-! ### Entry to KEEL_UP (R12, R27, R431) -/

/-- Registers of the envelope, the collector and the recorder take their reset values; the retained domain keeps its own
(R452, R458). -/
def resetRegisters (s : State) : State :=
  let s := onEnv (fun e => { e with
    vin := 0, iin := 0, pin := 0, prevPin := none, sensors := [], rise := [], events := 0, intEn := 0, drogues := 0,
    rampExceed := 0, rampFrac := 0, hbCount := 0, hbAt := s.mono, psus := [], shelfId := 0, slew := 400 }) s
  onFlt (fun x => { x with
    recoveries := 0, reports := 0, onSevere := false, onFirst := false, fillThr := 90, intEn := false, enable := true,
    cursor := 0, intPend := false, bucket := [] }) s
/-- A bad copy of the bad-block table is rewritten from the good one (R358). -/
def checkBbt (s : State) : State :=
  if !s.id.flash then s
  else
    let a := s.flash.bbt0
    let b := s.flash.bbt1
    if !a.2 then record 0x0BC8 [(1, 0)] (onFlash (fun x => { x with bbt0 := (b.1 + 1, true) }) s)
    else if !b.2 then record 0x0BC8 [(1, 1)] (onFlash (fun x => { x with bbt1 := (a.1 + 1, true) }) s)
    else s
/-- The management addresses of a configuration record. -/
def recordMgmt (b : List Byte) : MgmtCfg :=
  if b.isEmpty then setReset.mgmt
  else ⟨rdLe b 0 4, rdLe b 4 1, rdLe b 8 4, rdLe b 12 16, rdLe b 28 1, rdLe b 30 2⟩
/-- The ripcord's causes that are present (R480): the cause and what it names. -/
def ripcordCause (s : State) : Option (Nat × Nat) :=
  if s.env.pins.ripcord then some (0, 0)
  else if s.env.pins.leak then some (1, 0)
  else (s.env.sensors.find? fun e => (s.set.env.tjRipcord * 100 : Int) < e.2).map fun e => (2, e.1)
/-- The drogue, the pump condition and the ripcord act at once where their causes are present (R483). -/
def brakesAtEntry (rip : Option (Nat × Nat)) (s : State) : State :=
  match rip with
  | some c => ripcord c.1 c.2 s
  | none => whenS s.env.pins.flow (startPump 0 0) (whenS s.env.pins.drogue (startDrogue 0) s)
/-- A thermal trip before this start is recorded (R478). -/
def recordTrip (s : State) : State :=
  if s.env.tripFlag then record 0x0DC9 [(1, s.env.tripSensor)] (onEnv (fun e => { e with tripFlag := false }) s) else s
/-- Causes of a hold that the boot ROM knows: requested, or no valid record. -/
def askedHold (s : State) : Bool := s.sys.holdReq || s.sys.inUse.holdKeel || s.sys.chosen.isNone
/-- Entry to KEEL_UP and steps 2 and 3 of R431. -/
def enterKeelUp (plane tray slot : Nat) (s : State) : State :=
  let rip := ripcordCause s
  let s := resetRegisters s
  let s := onSys (fun x => { x with
    upAt := s.mono, plane := plane % 8, tray := tray % 64, startCause := x.nextCause, keyOk := true }) s
  let s := onHost (fun h => { h with training := !h.perst }) s
  let s := moveTo .keelUp s.sys.startCause s
  let s := raiseFloor (floorOf s) (bootSlot slot (recordBadCopies s))
  let s := recordTrip (checkBbt s)
  let s := onSys (fun x => { x with hold := bit (askedHold s) 0, holdReq := false }) s
  let m := recordMgmt s.sys.inUse.mgmt
  brakesAtEntry rip (onSet (fun t => { t with mgmt := m }) s)
/-- The keel die's lift ends. With no device key (`keyOk` false), or no slot that may boot, no firmware runs and the module
stays in STANDBY (R436, R440). -/
def execKeelUpEntry (plane tray : Nat) (keyOk : Bool) (s : State) : Host.Outcome State Fault Refusal :=
  .next (if s.sys.st = .standby ∧ s.sys.starting then
    let t := chooseRecord s
    match (if keyOk then bootable t else none) with
    | some k => enterKeelUp plane tray k t
    | none => onSys (fun x => { x with keyOk := false, starting := false }) s
  else s)

/-! ### Entry to READY (R54, R157, R179, R257, R281, R327, R331, R344, R359, R483) -/

/-- The journal's settings as they are restored: no group is enabled, no copy is being written, and gate lists have lost
their tickets. -/
def journalSet (t : Settings) : Settings :=
  let noTicket := fun (m : Map GateList) => m.map fun e => (e.1, { e.2 with ticket := none })
  let q := { t.qos with gateOp := noTicket t.qos.gateOp, gatePend := noTicket t.qos.gatePend }
  { t with enabled := [], copies := t.copies.filter (·.2.st != 1), qos := q }
def restoreSettings (s : State) : State :=
  let j := journalSet s.jrn
  let m := if j.mgmt = setReset.mgmt then s.set.mgmt else j.mgmt
  onJrn (fun _ => j) (onSet (fun _ => { j with mgmt := m }) s)
/-- Shapers and policers in the state that their settings give, and the gate lists that wait for time (R179). -/
def restoreQueues (s : State) : State :=
  let s := forEach (s.set.qos.shape.map (·.1)) resetShaper s
  let s := forEach (s.set.qos.police.map (·.1)) fillPolicer s
  let held := (dies s).filter fun d => !(restoredOn s.set.qos.gateOp d ++ restoredOn s.set.qos.gatePend d).isEmpty
  if held.isEmpty then s
  else forEach held (fun d => record 0x0683 [(1, d), (2, 0), (2, 0)]) (onCore (fun c => { c with gateWait := true }) s)
/-- Flash objects without an acknowledged copy are erased (R359). -/
def dropUnlisted (s : State) : State :=
  let kept := (s.set.copies.filter (·.1 == 2)).map (·.2.snapId)
  forEach ((s.flash.objs.map (·.1)).filter fun o => !kept.contains o) freeObj s
/-- Isolations that `FAULT.ISOLATE` made are made again (R454). -/
def restoreIsolated (s : State) : State :=
  forEach s.set.isolated (fun id s => if isIsolated s id || lastDie s id then s else isolate id true s) s
/-- A trial that runs commits within 60 s of hand-over (R441). -/
def commitTrial (s : State) : State :=
  if s.sys.trial = some s.sys.booted ∧ s.mono ≤ s.sys.trialAt + cycS 60 then
    let s := onSys (fun x => { x with active := x.booted, trial := none, tried := false }) s
    record 0x0FC3 [(1, s.sys.booted), (8, (bootedSlot s).fwBuild)] s
  else s
/-- A ticket that a restart ended. -/
def restartTicket (tk op : Nat) (s : State) : State := record 0x10C5 [(4, tk), (2, op)] (ticketFail tk 0x1002 s)
/-- What becomes of a ticket that was live at the restart (Table 17-8, R441, R444): `FW.ACTIVATE` waits while its trial runs
without having committed. -/
def settleTicket (t : Ticket) (s : State) : State :=
  match t.opcode with
  | 0x0104 => if rdLe t.param 0 1 = 0 then ticketDone t.ticket s else restartTicket t.ticket t.opcode s
  | 0x0F04 =>
    if t.ost != .queued && s.sys.trial.isSome then s
    else if t.ost == .queued || s.sys.tried then restartTicket t.ticket t.opcode s
    else ticketDone t.ticket s
  | _ => restartTicket t.ticket t.opcode s
def settleTickets (s : State) : State :=
  forEach ((s.cmd.tickets.map (·.2)).filter fun t => t.before && ticketLive t) settleTicket s
/-- The units at work under the restored settings: tiles scrubbed, ports powered, time, pairing, cap. -/
def restoreUnits (s : State) : State :=
  let s := syncImem s
  let s := forEach ((List.range (32 * s.id.n)).filter (tileUsable s)) scrubTile s
  let s := whenS s.set.timeRoot (setRoot true) s
  let s := forEach (List.range (32 * s.id.n)) settlePort s
  let s := forEach ((List.range 8).filter fun b => s.set.env.psuExpect.testBit b && !psuPresent s b) (fun b => psuAlert b 2) s
  let s := startCap s
  whenS (s.set.pairIntent && s.gemel.st == .unpaired) (setPair .offering) s
/-- The journal that the twin's mirror holds, from which entries of an earlier run come: settings, histories, tickets. -/
def takeJournal (j : Settings) (rx : Nat) (s : State) : State :=
  let tks := (Config.twinTickets rx).foldl (fun (m : Map Ticket) e => mput m (e.ticket % 256) { e with before := true }) []
  let s := onCmd (fun c => { c with
    tickets := tks, history := Config.twinHistory rx, serial := Config.twinSerial rx % 2 ^ 24, owed := [], postWait := [], stored := [] }) s
  onJrn (fun _ => j) s
/-- The mirror copied back into a replaced journal device (R368); without one the journal goes on as it is. -/
def mirrorBack (s : State) : State :=
  if s.sys.jrnGone then
    let gone := fun (s : State) => onGemel (fun g => { g with remote := false }) (onSys (fun x => { x with jrnGone := false }) s)
    match (if s.gemel.remote then none else Config.twinJournal s.gemel.lastRx) with
    | some j => gone (takeJournal j s.gemel.lastRx s)
    | none => gone s
  else s
/-- What an entry to READY does: `announce` is the change of state. -/
def readyFrom (announce : State → State) (s : State) : State :=
  let s := restoreSettings s
  let s := onSys (fun x => { x with hold := 0, starting := false }) s
  let s := restoreIsolated (restoreBinds s)
  let s := dropUnlisted (restoreQueues s)
  let s := commitTrial s
  let s := onSys (fun x => { x with cfgSeq := if x.chosen.isSome then x.inUse.seq else x.cfgSeq }) s
  let s := settleTickets (announce s)
  let s := restoreUnits s
  let s := if s.set.service && s.sys.st == .ready then moveTo .service 9 (onEnv (fun e => { e with hbAt := s.mono }) s) else s
  restoreSlices s
/-- Entry to READY, and at once to SERVICE where the journal says so (R430). -/
def enterReady (cause : Nat) (s : State) : State := readyFrom (moveTo .ready cause) (mirrorBack s)

/-! ### The end of the sequence (R431, R433, R443) -/

/-- The bit of `FITTED` that a unit has. -/
def unitBit (id : Nat) : Nat :=
  let i := id % 256
  match id / 256 with
  | 1 => 1 <<< i
  | 6 => 1 <<< i
  | 4 => 1 <<< (8 + i / 32)
  | 7 => 1 <<< (16 + i / 5)
  | 8 => 1 <<< 24
  | 5 => 1 <<< (32 + i)
  | _ => 0
/-- The bitmap of failed units, in the layout of `FITTED` (assumption 77). -/
def failedBits (ids : List Nat) : Nat := ids.foldl (fun a i => a ||| unitBit i) 0
/-- A fitted die that did not answer. -/
def probeFail (d : Nat) (s : State) : State :=
  if dieFitted s d then takeReport (ftNs s, srcId 1 d, 4) (record 0x01C2 [(1, d)] s) else s
/-- Step 4 beyond the carrier record: bays, tray, supplies. -/
def readTray (b : StartData) (s : State) : State :=
  let s := forEach ((List.range (3 * s.id.n))) (fun k => takeBay k (b.bays.getD k none)) s
  let s := onEnv (fun e => { e with
    trayStatus := b.tray.1, trayMaxW := b.tray.2.1, trayBays := b.tray.2.2.1, cleanAddr := b.tray.2.2.2 }) s
  takePsus b.psus (whenS (s.env.trayStatus != 0) (psuAlert 0 4) s)
/-- Steps 5 to 7. -/
def liftDies (b : StartData) (s : State) : State :=
  let s := forEach b.probeFail probeFail s
  let s := forEach (List.range (96 * s.id.n)) markRegion s
  let s := forEach (b.testFail.filter (srcNames s)) (fun id => takeReport (ftNs s, id, 5)) s
  record 0x01C3 [(8, failedBits b.testFail)] s
/-- Does the chosen record stand below the one last used (R439)? -/
def recordStale (s : State) : Bool := s.sys.chosen.isSome && s.sys.inUse.seq < s.sys.cfgSeq
/-- The hold causes at the end of the sequence (R433). -/
def holdBits (b : StartData) (s : State) : Nat :=
  s.sys.hold % 2 + bit (!b.carrierOk) 1 + bit (!s.sys.jrnGone && recordStale s) 2 + bit s.sys.jrnGone 3 + bit (!b.keelOk) 4
/-- A hold in KEEL_UP: recorded, and, where the journal is read, tickets settled and a trial committed (R441). -/
def enterHold (s : State) : State :=
  let s := onSys (fun x => { x with starting := false }) s
  let s := record 0x01C1 [(1, 2), (1, 2), (1, 7), (1, s.sys.hold)] s
  let s := whenS (s.sys.hold.testBit 0) commitTrial s
  whenS (!s.sys.hold.testBit 3) settleTickets s
/-- Is the module in its start-up sequence? -/
def startingUp (s : State) : Bool := s.sys.st == .keelUp && s.sys.starting && !s.sys.keelLost
/-- Steps 4 to 7. -/
def startUnits (b : StartData) (s : State) : State :=
  let s := readTray b s
  let s := whenS b.carrierOk (liftDies b) s
  onSys (fun x => { x with hold := holdBits b s }) s

/-! ### Leaving (Table 20-1, R434, R435, R463, R464, R492) -/

/-- `VSB12`, in 10 mV, in range for 10 ms. -/
def execVsb12Up (cv : Nat) (s : State) : Host.Outcome State Fault Refusal :=
  if 1400 < cv then .fault .beyondRatings
  else .next (if s.sys.st = .off ∧ 1140 ≤ cv then
    let s := onEnv (fun e => { e with vsbOk := true, vsb := cv }) s
    tryStart (onSys (fun x => { x with st := .standby, nextCause := 0 }) s)
  else s)
/-- `VSB12` is lost: every stage opens, and the retained state goes. -/
def execVsb12Lost (s : State) : Host.Outcome State Fault Refusal :=
  .next (if s.sys.st = .off then s
  else
    let s := if keelPowered s then toStandby 0 (haltImage 7 s) else s
    let s := onSys (fun x => { x with st := .off, starting := false, nextCause := 0 }) s
    let s := onEnv (fun e => { e with
      vsbOk := false, vsb := 0, vin := 0, iin := 0, pin := 0, tripFlag := false, tripSensor := 0, sensors := [], rise := [] }) s
    onFlt (fun x => { x with
      valid := false, source := 0, kind := 0, mstate := 0, firstFt := 0, ovf := false, ovfCnt := 0, sram := [], wrPtr := 0,
      full := false, lost := 0, suppressed := 0, rseq := 0, supBy := [] }) s)
/-- `PWR_OK_IN` asserts: a fresh power-on. -/
def execPwrOkAssert (s : State) : Host.Outcome State Fault Refusal :=
  .next (if s.env.pins.pwrOk then s
  else
    let s := onEnv (fun e => { e with pins := { e.pins with pwrOk := true } }) s
    if s.sys.st = .standby then tryStart (onSys (fun x => { x with nextCause := 0 }) s) else s)
/-- A power-down condition: to STANDBY, the sequence abandoned; `cause` is the next start's. -/
def powerDown (cause : Nat) (s : State) : State :=
  if keelPowered s then toStandby cause (haltImage 7 s)
  else onSys (fun x => { x with starting := false }) s
def execPwrOkDeassert (s : State) : Host.Outcome State Fault Refusal :=
  let s := onEnv (fun e => { e with pins := { e.pins with pwrOk := false } }) s
  .next (onSys (fun x => { x with nextCause := 0 }) (powerDown 0 s))
/-- `VIN40`, in 10 mV, below 34 V for 1 ms or above 46 V for 10 µs. -/
def execVin40Fault (cv : Nat) (s : State) : Host.Outcome State Fault Refusal :=
  if 6000 < cv then .fault .beyondRatings
  else .next (if cv < 3400 ∨ 4600 < cv then powerDown 4 (onEnv (fun e => { e with vinBad := true, vin := cv }) s) else s)
/-- Stop conditions end: 0 `RIPCORD_N`, 1 `LEAK_N`, 2 `FLOW_ALARM_N`, 3 `THERMTRIP_N`, 4 inlet, 5 sensors, 6 `VIN40`. The
readings say of 4 and 5. -/
def clearStop (cause : Nat) (s : State) : State :=
  let pin := fun (f : Pins → Pins) => onEnv (fun e => { e with pins := f e.pins }) s
  match cause with
  | 0 => pin fun p => { p with ripcord := false }
  | 1 => pin fun p => { p with leak := false }
  | 2 => pin fun p => { p with flow := false }
  | 3 => pin fun p => { p with thermtrip := false }
  | 6 => onEnv (fun e => { e with vinBad := false }) s
  | _ => s
def execStopConditionCleared (cause : Nat) (s : State) : Host.Outcome State Fault Refusal :=
  .next (tryStart (clearStop cause s))
/-- KEEL_LOST records of the sail dies whose mooring links are UP (R369). -/
def sendKeelLost (s : State) : State :=
  forEach (moorUp s) (fun d s => emit (.record (moorLp d) (makeRec s 4 s.cmd.jseq (leBytes 8 (usable s)))) s) s
/-- The keel die is lost (R53, R369, R405, R435): the image halts, tier-2 drains are abandoned, nothing is served. -/
def loseKeel (s : State) : State :=
  let s := forEach (s.snap.drains.filter (·.tier == 2)) abandonDrain (haltImage 8 s)
  let s := sendKeelLost s
  let s := onHost (fun h => { h with
    linkDowns := if h.l0 then sat 32 (h.linkDowns + 1) else h.linkDowns, l0 := false, mode := 0, width := 0, rate := 0, mgmtUp := false }) s
  let s := onGemel (fun g => { g with roleReturned := false }) s
  onSys (fun x => { x with keelLost := true }) (onFlt (fun x => { x with pend := [] }) s)
/-- The watchdog expires; a trial is restarted at once (R435). -/
def execKeelWatchdogExpire (s : State) : Host.Outcome State Fault Refusal :=
  .next (if !keelOn s then s
  else
    let s := loseKeel s
    if s.sys.trial = some s.sys.booted ∧ !s.sys.tried then tryStart (toStandby 3 s) else s)
/-- `HEADLESS_S` after the loss. -/
def execHeadlessRestart (s : State) : Host.Outcome State Fault Refusal :=
  .next (if s.sys.keelLost ∧ s.sys.inUse.headlessS ≠ 0 then tryStart (toStandby 3 s) else s)

/-! ### DEV commands (R430, R444) -/

def execDevState (q : Req) (s : State) : Host.Outcome State Fault Refusal := .next (plain 0x0102 none (ans qState) q s)
def chkDevService (q : Req) (s : State) : Option Nat :=
  let a := prm q 0 1
  firstOf [refuseIf (1 < a) 0x0007, refuseIf (a == 0 && s.sys.st != .ready) 0x0005,
    refuseIf (a == 1 && s.sys.st != .service && s.sys.st != .orphan) 0x0005]
/-- Enters or leaves SERVICE; leaving ORPHAN lifts the orphan cap. -/
def setService (on_ : Bool) (s : State) : State :=
  let was := s.sys.st
  let s := modSet (fun t => { t with service := on_ }) s
  if on_ then moveTo .service 9 (onEnv (fun e => { e with hbAt := s.mono }) s)
  else
    let s := moveTo .ready 9 s
    if was = .orphan then startCap (onEnv (fun e => { e with orphanCap := false }) s) else s
def execDevService (q : Req) (s : State) : Host.Outcome State Fault Refusal :=
  .next (plain 0x0103 (chkDevService q s) (act (setService (prm q 0 1 == 0))) q s)
/-- Does the module hold in KEEL_UP? -/
def holding (s : State) : Bool := s.sys.st == .keelUp && !s.sys.starting
def chkDevRestart (q : Req) (s : State) : Option Nat :=
  firstOf [refuseIf (1 < prm q 0 1) 0x0007, refuseIf (prm q 0 1 == 1 && !holding s) 0x0005,
    refuseIf (!(begunOps s 0x0104).isEmpty) 0x0006]
def execDevRestart (q : Req) (s : State) : Host.Outcome State Fault Refusal :=
  .next (longOp 0x0104 2 true (chkDevRestart q s) q s)
/-- FULL: through STANDBY. -/
def fullRestart (t : Ticket) (s : State) : State :=
  let s := onSys (fun x => { x with holdReq := (rdLe t.param 1 1).testBit 0 }) (haltImage 7 s)
  tryStart (toStandby 1 s)
/-- CONTINUE: hold cause 0 clears. -/
def continueStart (t : Ticket) (s : State) : State :=
  if holding s then ticketDone t.ticket (onSys (fun x => { x with hold := x.hold / 2 * 2 }) s)
  else ticketFail t.ticket 0x0005 s

/-! ### DEV.SELFTEST (R443) -/

def chkDevSelftest (s : State) : Option Nat :=
  firstOf [refuseIf (!(begunOps s 0x0105).isEmpty) 0x0006,
    refuseIf (schedEnabled s || s.set.slices.any fun e => e.1 != 0 && e.2 == 2) 0x0005]
def execDevSelftest (q : Req) (s : State) : Host.Outcome State Fault Refusal :=
  .next (longOp 0x0105 1 true (chkDevSelftest s) q s)
/-- HBM regions that the test reads and writes: the first and last GiB of each stack's part of a shard (the four stacks
interleave, so the first and last four regions hold them). -/
def testRegions (d : Nat) : List Nat := [0, 1, 2, 3, 92, 93, 94, 95].map (96 * d + ·)
/-- The test ends: everything it touched is scrubbed; units that failed report on their own. -/
def finishSelftest (t : Ticket) (s : State) : State :=
  let ds := (dies s).filter (dieUsable s)
  let s := forEach ((allLps s).filter fun l => dieUsable s (lpDie l)) scrubLp s
  let s := forEach ((List.range (32 * s.id.n)).filter (tileUsable s)) scrubTile s
  let s := forEach (ds.flatMap testRegions) markRegion s
  let s := forEach ds (fun d s => forEach (ctxsHomed s d) (fun e => loseCtx e.1 e.2) (loseCells d s)) s
  let bad := (s.flt.src.filter fun e => isIsolated s e.1 && e.2.lastKind == 5).map (·.1)
  ticketDone t.ticket (record 0x01C3 [(8, failedBits bad)] s)

/-! ### CFG commands (R439, R444, R445) -/

/-- A buffer of at least the length that its header names. -/
def bufWhole (least : Nat) (q : Req) : Bool := least ≤ (inData q).length && rdLe (inData q) 8 4 ≤ (inData q).length
/-- Is a record's `FW_FLOOR` above the `SVN` of every valid slot? -/
def floorTooHigh (s : State) (n : Nat) : Bool := [s.sys.slotA, s.sys.slotB].all fun f => !f.valid || f.svn < n
def cfgRefusal (s : State) (b : List Byte) : Option Nat :=
  firstOf [refuseIf (!cfgFormOk b || floorTooHigh s (rdLe b 0x18 4)) 0x0F04,
    refuseIf (rdLe b 0x10 8 ≤ s.sys.inUse.seq || rdLe b 0x10 8 ≤ s.sys.cfgSeq) 0x0F03,
    refuseIf (!cfgSigned s.sys.inUse.keys b) 0x0008]
def execCfgWrite (q : Req) (s : State) : Host.Outcome State Fault Refusal :=
  .next (longOp 0x0F01 2 (bufWhole 0x148 q)
    (firstOf [refuseIf (!(begunOps s 0x0F01).isEmpty) 0x0006, cfgRefusal s (inData q)]) q s)
/-- The NOR write of a record ends: the copy not chosen holds it, hold cause 2 clears, the floor rises. -/
def finishCfgWrite (t : Ticket) (s : State) : State :=
  let r := cfgParse t.buf true
  let s := onSys (fun x => if x.chosen = some 0 then { x with cfg1 := r } else { x with cfg0 := r }) s
  let s := raiseFloor r.fwFloor s
  ticketDone t.ticket (onSys (fun x => { x with hold := x.hold &&& 0x1B }) s)
def chkCfgRead (q : Req) : Option Nat := refuseIf (1 < prm q 0 1) 0x0007
def copyRaw (q : Req) (s : State) : List Byte := if prm q 0 1 = 0 then s.sys.cfg0.raw else s.sys.cfg1.raw
def execCfgRead (q : Req) (s : State) : Host.Outcome State Fault Refusal :=
  .next (runCommand (cat 0x0F02) (outRoom (cat 0x0F02) (copyRaw q s).length q) 0 (chkCfgRead q) [] (ans (copyRaw q)) q s)
def chkJournalinit (s : State) : Option Nat :=
  firstOf [refuseIf (!holding s || !s.sys.hold.testBit 0) 0x0005, refuseIf (!(begunOps s 0x0F08).isEmpty) 0x0006]
def execCfgJournalinit (q : Req) (s : State) : Host.Outcome State Fault Refusal :=
  .next (longOp 0x0F08 2 true (chkJournalinit s) q s)
/-- The journal is erased, its own ticket apart, and serials and sequence numbers start again. -/
def finishJournalinit (t : Ticket) (s : State) : State :=
  let s := onCmd (fun c => { c with
    tickets := c.tickets.filter fun e => e.2.ticket == t.ticket, history := [], owed := [], serial := 1, jseq := 0, stored := [],
    postWait := [] }) s
  let s := onSys (fun x => { x with cfgSeq := 0, jrnGone := false }) s
  let s := onGemel (fun g => { g with mramOk := true, remote := false }) s
  ticketDone t.ticket (onJrn (fun _ => setReset) s)

/-! ### FW and SEC commands (R441, R442, R445) -/

/-- Header of Table 20-4. -/
def imgFormOk (b : List Byte) : Bool :=
  rdLe b 0 4 == 0x49574651 && rdLe b 4 2 == 1 && 0x148 ≤ b.length && rdLe b 8 4 == b.length && b.length ≤ 0x4000000 &&
    rdLe b 0x1C 4 == 1 && rdLe b 0x20 224 == 0
def imgSigned (b : List Byte) : Bool :=
  rdLe b (b.length - 72) 8 == Config.firmwareKeyId &&
    ecdsaOk Config.firmwareKey (b.take (b.length - 64)) (b.drop (b.length - 64))
def imgSlot (b : List Byte) : FwSlot := ⟨true, rdLe b 6 2, rdLe b 0xC 4, rdLe b 0x10 8, rdLe b 0x18 4, sha256 b⟩
def stageRefusal (s : State) (b : List Byte) : Option Nat :=
  firstOf [refuseIf (!imgFormOk b) 0x0F02, refuseIf (!imgSigned b) 0x0008, refuseIf (rdLe b 0xC 4 < floorOf s) 0x0F01,
    refuseIf s.sys.trial.isSome 0x0005]
def execFwStage (q : Req) (s : State) : Host.Outcome State Fault Refusal :=
  .next (longOp 0x0F03 2 (bufWhole 0x148 q)
    (firstOf [refuseIf (!(begunOps s 0x0F03).isEmpty) 0x0006, stageRefusal s (inData q)]) q s)
/-- The slot that is neither active nor trial. -/
def stageSlot (s : State) : Nat := 1 - s.sys.active
/-- The NOR write of an image ends. -/
def finishFwStage (t : Ticket) (s : State) : State :=
  let f := imgSlot t.buf
  ticketDone t.ticket (record 0x0FC2 [(1, stageSlot s), (4, f.svn), (8, f.fwBuild)] (setFwSlot (stageSlot s) f s))
/-- Work that an activation would disturb. -/
def activateBusy (s : State) : Bool :=
  schedEnabled s || (s.set.slices.any fun e => e.1 != 0 && e.2 == 2) || !s.snap.drains.isEmpty ||
    s.snap.restores.any (fun _ => true) || s.cmd.tickets.any fun e => ticketLive e.2
def chkFwActivate (q : Req) (s : State) : Option Nat :=
  firstOf [refuseIf (s.sys.trial.isSome || !(slotAt s (stageSlot s)).valid) 0x0005,
    refuseIf (!(prm q 0 1).testBit 0 && activateBusy s) 0x0F05,
    refuseIf (!(begunOps s 0x0F03).isEmpty || !(begunOps s 0x0F04).isEmpty) 0x0006]
def execFwActivate (q : Req) (s : State) : Host.Outcome State Fault Refusal :=
  .next (longOp 0x0F04 2 true (chkFwActivate q s) q s)
/-- The staged slot is the trial slot, and the module restarts. -/
def startActivate (t : Ticket) (s : State) : State :=
  if (slotAt s (stageSlot s)).valid then
    let s := toStandby 2 (haltImage 7 s)
    tryStart (onSys (fun x => { x with trial := some (1 - x.active), tried := false }) s)
  else ticketFail t.ticket 0x0005 s
def execFwQuery (q : Req) (s : State) : Host.Outcome State Fault Refusal := .next (plain 0x0F05 none (ans qFw) q s)
/-- The certificate chain, which needs a buffer of 4,096 bytes. -/
def execSecCerts (q : Req) (s : State) : Host.Outcome State Fault Refusal :=
  .next (runCommand (cat 0x0F06) (outRoom (cat 0x0F06) 4096 q) 0 none [] (ans fun _ => Config.certChain) q s)
def chkSecFloor (q : Req) (s : State) : Option Nat :=
  refuseIf ((bootedSlot s).svn < prm q 0 4 || prm q 0 4 ≤ floorOf s) 0x0F01
def execSecFloor (q : Req) (s : State) : Host.Outcome State Fault Refusal :=
  .next (plain 0x0F07 (chkSecFloor q s) (act (raiseFloor (prm q 0 4))) q s)

end Sys2Proof.Machine
end

