-- ==== Sys2Proof/Machine/Serial.lean ====
section
/-! DEFINITION. The serial order of commands and long operations: a command taken from the rings by its opcode (R390, R391),
commands whose entries are stored (R366), tickets that start, are suspended, cancelled and finished (R400), and what they bring
about at entry to READY. -/

set_option Elab.async false

namespace Sys2Proof.Machine

/-! ### OP.SUSPEND, OP.RESUME, OP.CANCEL (R400, R401) -/

def tkOf (q : Req) (s : State) : Option Ticket := ticketOf s (prm q 0 4)
/-- The privilege of the ticket's command. -/
def tkPriv (q : Req) (s : State) : Nat := match tkOf q s with | some t => t.priv | none => 0
/-- Operations that may be suspended. -/
def suspendable (op : Nat) : Bool :=
  [0x0207, 0x0209, 0x0703, 0x0801, 0x0842, 0x0901, 0x0A07, 0x0A08, 0x0B02, 0x0B05, 0x0F01, 0x0F03].contains op
/-- A drain or restore whose header write has begun. -/
def headerBegun (s : State) (t : Ticket) : Bool := s.snap.drains.any fun d => d.ticket == some t.ticket && 2 ≤ d.phase
/-- May a RUNNING or SUSPENDED operation be cancelled now? -/
def cancellable (s : State) (t : Ticket) : Bool :=
  match t.opcode with
  | 0x020A => !s.net.cleanReq
  | 0x0A07 => !headerBegun s t
  | op => [0x0207, 0x0209, 0x0402, 0x0403, 0x0605, 0x0801, 0x0842, 0x0901, 0x0A08, 0x0B02, 0x0C04, 0x0F01, 0x0F03].contains op
/-- Has the work begun? A ticket suspended while QUEUED has not. -/
def begun (t : Ticket) : Bool := t.ost != .queued && !t.wasQueued
def chkOpSuspend (q : Req) (s : State) : Option Nat :=
  match tkOf q s with
  | none => some 0x0009
  | some t => refuseIf (!((t.ost == .queued || (t.ost == .running && !t.suspReq && t.opcode != 0x0B05)) && suspendable t.opcode)) 0x0005
/-- A QUEUED ticket is SUSPENDED at once, a RUNNING one at its next suspension point. -/
def suspend (tk : Nat) (s : State) : State :=
  match ticketOf s tk with
  | none => s
  | some t => if t.ost = .queued then setOst tk .suspended s else onTicket tk (fun t => { t with suspReq := true }) s
def execOpSuspend (q : Req) (s : State) : Host.Outcome State Fault Refusal :=
  .next (runCommand (cat 0x1002) true (tkPriv q s) (chkOpSuspend q s) [] (act (suspend (prm q 0 4))) q s)
/-- Holds or frees the drain of a ticket. -/
def holdDrain (tk : Nat) (on_ : Bool) (s : State) : State :=
  let f := fun (em : Bool) (d : Drain) => if d.ticket == some tk then { d with suspended := on_ || (em && !d.emergency) } else d
  onSnap (fun x => { x with drains := x.drains.map (f x.emergency) }) s
/-- The suspension point: the work stops there. -/
def execSuspendPointReached (tk : Nat) (s : State) : Host.Outcome State Fault Refusal :=
  .next (match ticketOf s tk with
    | none => s
    | some t =>
      if keelOn s && t.ost == .running && t.suspReq then
        holdDrain tk true (setOst tk .suspended (onTicket tk (fun t => { t with suspReq := false }) s))
      else s)

/-! ### The start of queued work -/

/-- Starts the work of a ticket. -/
def startWork (t : Ticket) (s : State) : State :=
  match t.opcode with
  | 0x0104 => if rdLe t.param 0 1 = 0 then fullRestart t s else continueStart t s
  | 0x0207 => startLaneTest t s
  | 0x0209 => startInspect t s
  | 0x020A => startClean t s
  | 0x0303 => startRescan t s
  | 0x0402 => startCommit t s
  | 0x0403 => startHold t s
  | 0x0501 => startSliceBind t s
  | 0x0503 => startSliceDisable t.ticket (rdLe t.param 0 2) s
  | 0x0605 => startGatewrite t s
  | 0x0703 => startGroupDisable t.ticket (rdLe t.param 0 2) s
  | 0x0903 => startSchedEnable t s
  | 0x0A07 => startSnapDrain t s
  | 0x0A08 => startRestore t s
  | 0x0B02 => startScan t s
  | 0x0B05 => startFormat t s
  | 0x0C01 => startPair t s
  | 0x0C05 => startResync t s
  | 0x0E03 => startIsolate t s
  | 0x0E04 => startRelease t s
  | 0x0F04 => startActivate t s
  | _ => s
/-- Are the resources that a ticket's work needs free? -/
def workFree (s : State) (t : Ticket) : Bool := t.opcode != 0x020A || cleanFree s
/-- How long ago a ticket was made, in serials. -/
def serialAge (s : State) (t : Ticket) : Nat := (s.cmd.serial + 0xFFFFFF - t.ticket / 256) % 0xFFFFFF
/-- Is a ticket the oldest QUEUED one? -/
def oldestQueued (s : State) (t : Ticket) : Bool :=
  s.cmd.tickets.all fun e => e.2.ost != .queued || e.2.before || serialAge s e.2 ≤ serialAge s t
def runWork (t : Ticket) (s : State) : State :=
  startWork t (onTicket t.ticket (fun x => { x with wasQueued := false }) (setOst t.ticket .running s))
/-- `OP.RESUME` continues, or starts work that had not begun. -/
def resume (tk : Nat) (s : State) : State :=
  match ticketOf s tk with
  | none => s
  | some t => if t.wasQueued then runWork t s else holdDrain tk false (setOst tk .running s)
def chkOpResume (q : Req) (s : State) : Option Nat :=
  match tkOf q s with | none => some 0x0009 | some t => refuseIf (t.ost != .suspended) 0x0005
def execOpResume (q : Req) (s : State) : Host.Outcome State Fault Refusal :=
  .next (runCommand (cat 0x1003) true (tkPriv q s) (chkOpResume q s) [] (act (resume (prm q 0 4))) q s)
/-- What the owner of an operation undoes when it is cancelled. -/
def undoWork (t : Ticket) (s : State) : State :=
  match t.opcode with
  | 0x0207 => match s.net.tests.find? fun x => x.ticket == t.ticket with | some x => testOff x s | none => s
  | 0x0209 => onNet (fun n => { n with inspects := n.inspects.filter fun x => x.ticket != t.ticket }) s
  | 0x020A => onNet (fun n => { n with inspects := n.inspects.filter fun x => x.ticket != t.ticket, cleanDie := none }) s
  | 0x0402 => onCore (fun c => { c with commit := none }) s
  | 0x0403 => onCore (fun c => { c with holdTicket := none }) (releaseHold s)
  | 0x0605 => dropPending t s
  | 0x0842 => forEach ((namedTiles s (rdLe t.param 0 1) (rdLe t.param 1 1)).filter (tileUsable s)) scrubTile s
  | 0x0A07 =>
    match s.snap.drains.find? fun d => d.ticket == some t.ticket with
    | some d => record 0x0AC3 [(8, d.snapId), (1, d.tier)] (dropDrain d s)
    | none => s
  | 0x0A08 => onSnap (fun x => { x with restores := x.restores.filter fun r => r.ticket != t.ticket }) s
  | 0x0B02 => onFlash (fun x => { x with scanOn := false, scanTicket := none }) s
  | _ => s
def chkOpCancel (q : Req) (s : State) : Option Nat :=
  match tkOf q s with
  | none => some 0x0009
  | some t =>
    match t.ost with
    | .queued => none
    | .running => refuseIf (!cancellable s t) 0x0005
    | .suspended => refuseIf (begun t && !cancellable s t) 0x0005
    | _ => some 0x0005
def cancelTicket (tk : Nat) (s : State) : State :=
  match ticketOf s tk with
  | none => s
  | some t =>
    if t.ost = .queued then endTicket tk .cancelled .cancelled 0 s
    else
      let s := setOst tk .cancelling (onTicket tk (fun t => { t with suspReq := false }) s)
      whenS (begun t) (undoWork t) s
def execOpCancel (q : Req) (s : State) : Host.Outcome State Fault Refusal :=
  .next (runCommand (cat 0x1004) true (tkPriv q s) (chkOpCancel q s) [] (act (cancelTicket (prm q 0 4))) q s)
/-- A cancelled operation's undo completes. -/
def execCancelUndoDone (tk : Nat) (s : State) : Host.Outcome State Fault Refusal :=
  .next (match ticketOf s tk with
    | none => s
    | some t => if keelOn s && t.ost == .cancelling then endTicket tk .cancelled .cancelled 0 s else s)

/-! ### Commands by opcode (R390 to R392) -/

/-- Families 0x00 to 0x03. -/
def execOp0 (q : Req) (s : State) : Option (Host.Outcome State Fault Refusal) :=
  match q.entry.opcode with
  | 0x0000 => some (execNop q s)
  | 0x0001 => some (execCaps q s)
  | 0x0002 => some (execPing q s)
  | 0x0101 => some (execDevCaps q s)
  | 0x0102 => some (execDevState q s)
  | 0x0103 => some (execDevService q s)
  | 0x0104 => some (execDevRestart q s)
  | 0x0105 => some (execDevSelftest q s)
  | 0x0106 => some (execDevMgmtcfg q s)
  | 0x0107 => some (execDevHostquery q s)
  | 0x0201 => some (execPortEnable q s)
  | 0x0202 => some (execPortDisable q s)
  | 0x0203 => some (execPortSplit q s)
  | 0x0204 => some (execPortPower q s)
  | 0x0205 => some (execPortQuery q s)
  | 0x0206 => some (execLaneStats q s)
  | 0x0207 => some (execLaneTest q s)
  | 0x0208 => some (execOptRead q s)
  | 0x0209 => some (execOptInspect q s)
  | 0x020A => some (execOptClean q s)
  | 0x020B => some (execPortLinkcfg q s)
  | 0x020C => some (execPortLstats q s)
  | 0x020D => some (execPortEthcfg q s)
  | 0x0301 => some (execCartRead q s)
  | 0x0302 => some (execCartOverride q s)
  | 0x0303 => some (execCartRescan q s)
  | _ => none
/-- Families 0x04 to 0x07. -/
def execOp1 (q : Req) (s : State) : Option (Host.Outcome State Fault Refusal) :=
  match q.entry.opcode with
  | 0x0401 => some (execRouteWrite q s)
  | 0x0402 => some (execRouteCommit q s)
  | 0x0403 => some (execRouteHold q s)
  | 0x0404 => some (execRouteRelease q s)
  | 0x0405 => some (execRouteQuery q s)
  | 0x0406 => some (execRouteCongmap q s)
  | 0x0407 => some (execRouteCmapcfg q s)
  | 0x0408 => some (execRouteSparstats q s)
  | 0x0501 => some (execSliceBind q s)
  | 0x0502 => some (execSliceEnable q s)
  | 0x0503 => some (execSliceDisable q s)
  | 0x0504 => some (execSliceQuery q s)
  | 0x0601 => some (execQosServicecfg q s)
  | 0x0602 => some (execQosSubcfg q s)
  | 0x0603 => some (execQosShapecfg q s)
  | 0x0604 => some (execQosPolicecfg q s)
  | 0x0605 => some (execQosGatewrite q s)
  | 0x0606 => some (execQosGatequery q s)
  | 0x0607 => some (execQosQstats q s)
  | 0x0608 => some (execQosPstats q s)
  | 0x0640 => some (execQosPoolcfg q s)
  | 0x0641 => some (execQosPoolquery q s)
  | 0x0642 => some (execQosMarkcfg q s)
  | 0x0701 => some (execGroupConfig q s)
  | 0x0702 => some (execGroupEnable q s)
  | 0x0703 => some (execGroupDisable q s)
  | 0x0704 => some (execGroupAbort q s)
  | 0x0705 => some (execGroupQuery q s)
  | 0x0706 => some (execGroupMissing q s)
  | 0x0707 => some (execGroupPoolquery q s)
  | 0x0708 => some (execGroupUpdcfg q s)
  | 0x0709 => some (execGroupUpdquery q s)
  | 0x0780 => some (execGroupNanread q s)
  | _ => none
/-- Families 0x08 to 0x0C. -/
def execOp2 (q : Req) (s : State) : Option (Host.Outcome State Fault Refusal) :=
  match q.entry.opcode with
  | 0x0801 => some (execTileLoad q s)
  | 0x0802 => some (execTileUnload q s)
  | 0x0803 => some (execTileProgquery q s)
  | 0x0804 => some (execTileUpdbind q s)
  | 0x0805 => some (execTileUpdunbind q s)
  | 0x0806 => some (execTileUpdquery q s)
  | 0x0840 => some (execTileQuery q s)
  | 0x0841 => some (execTilePower q s)
  | 0x0842 => some (execTileSelftest q s)
  | 0x0901 => some (execSchedLoad q s)
  | 0x0902 => some (execSchedUnload q s)
  | 0x0903 => some (execSchedEnable q s)
  | 0x0904 => some (execSchedStop q s)
  | 0x0905 => some (execSchedDisable q s)
  | 0x0906 => some (execSchedQuery q s)
  | 0x0907 => some (execSchedTimecfg q s)
  | 0x0908 => some (execSchedTimequery q s)
  | 0x0909 => some (execSchedAuditcfg q s)
  | 0x090A => some (execSchedAuditread q s)
  | 0x0A01 => some (execSnapPlan q s)
  | 0x0A02 => some (execSnapPlanquery q s)
  | 0x0A03 => some (execSnapSeal q s)
  | 0x0A04 => some (execSnapReelcfg q s)
  | 0x0A05 => some (execSnapReelenable q s)
  | 0x0A06 => some (execSnapTarget q s)
  | 0x0A07 => some (execSnapDrain q s)
  | 0x0A08 => some (execSnapRestore q s)
  | 0x0A09 => some (execSnapList q s)
  | 0x0A0A => some (execSnapQuery q s)
  | 0x0B01 => some (execFlashHealth q s)
  | 0x0B02 => some (execFlashScan q s)
  | 0x0B03 => some (execFlashScancfg q s)
  | 0x0B04 => some (execFlashBbtread q s)
  | 0x0B05 => some (execFlashFormat q s)
  | 0x0C01 => some (execGemelPair q s)
  | 0x0C02 => some (execGemelUnpair q s)
  | 0x0C03 => some (execGemelQuery q s)
  | 0x0C04 => some (execGemelAdopt q s)
  | 0x0C05 => some (execGemelResync q s)
  | _ => none
/-- Families 0x0D to 0x10. -/
def execOp3 (q : Req) (s : State) : Option (Host.Outcome State Fault Refusal) :=
  match q.entry.opcode with
  | 0x0D01 => some (execEnvCap q s)
  | 0x0D02 => some (execEnvRampcfg q s)
  | 0x0D03 => some (execEnvBrakecfg q s)
  | 0x0D04 => some (execEnvOrphancfg q s)
  | 0x0D05 => some (execEnvHeartbeat q s)
  | 0x0D06 => some (execEnvQuery q s)
  | 0x0D07 => some (execEnvSensors q s)
  | 0x0D08 => some (execEnvPsu q s)
  | 0x0D09 => some (execEnvRipcord q s)
  | 0x0D0A => some (execEnvTraycfg q s)
  | 0x0D0B => some (execEnvTrayquery q s)
  | 0x0E01 => some (execFaultQuery q s)
  | 0x0E02 => some (execFaultClasscfg q s)
  | 0x0E03 => some (execFaultIsolate q s)
  | 0x0E04 => some (execFaultRelease q s)
  | 0x0E05 => some (execFaultClear q s)
  | 0x0E06 => some (execEventTrigcfg q s)
  | 0x0E07 => some (execEventRead q s)
  | 0x0E08 => some (execEventRestart q s)
  | 0x0F01 => some (execCfgWrite q s)
  | 0x0F02 => some (execCfgRead q s)
  | 0x0F03 => some (execFwStage q s)
  | 0x0F04 => some (execFwActivate q s)
  | 0x0F05 => some (execFwQuery q s)
  | 0x0F06 => some (execSecCerts q s)
  | 0x0F07 => some (execSecFloor q s)
  | 0x0F08 => some (execCfgJournalinit q s)
  | 0x1001 => some (execOpQuery q s)
  | 0x1002 => some (execOpSuspend q s)
  | 0x1003 => some (execOpResume q s)
  | 0x1004 => some (execOpCancel q s)
  | 0x1005 => some (execOpList q s)
  | _ => none
/-- A command by its opcode, or none for an opcode that is not assigned. -/
def execOp (q : Req) (s : State) : Option (Host.Outcome State Fault Refusal) :=
  match q.entry.opcode / 256 with
  | 0x00 => execOp0 q s | 0x01 => execOp0 q s | 0x02 => execOp0 q s | 0x03 => execOp0 q s
  | 0x04 => execOp1 q s | 0x05 => execOp1 q s | 0x06 => execOp1 q s | 0x07 => execOp1 q s
  | 0x08 => execOp2 q s | 0x09 => execOp2 q s | 0x0A => execOp2 q s | 0x0B => execOp2 q s | 0x0C => execOp2 q s
  | _ => execOp3 q s
/-- The state that an outcome of a command answers. -/
def outState (s : State) (o : Host.Outcome State Fault Refusal) : State := match o with | .next t => t | _ => s
/-- An unassigned opcode is taken and refused (Table 17-7, order 1). -/
def takeUnknown (q : Req) (s : State) : State :=
  let c := cat q.entry.opcode
  if !canTake c q s then s
  else
    let cl := clientOf s q.from_
    let slot := (ringOf s q.from_.ring).sqHead
    let seqs := takenSeqs q s
    complete c q cl slot seqs .refused 0x0001 0 [] (takeCmd q s)
/-- Handles the command that a ring has next. -/
def runReq (q : Req) (s : State) : State :=
  match execOp q s with
  | some o => outState s o
  | none => takeUnknown q s
def ringAt (k : Nat) : RingId := ⟨if k < 64 then .host else if k < 128 then .mgmt else .fabric, k % 64⟩
/-- The next command in round-robin order that its ring may give now, with the ring's place in the order. -/
def nextCmd (s : State) : Option (Nat × Req) :=
  ((List.range 192).map fun i => (s.cmd.rr + i) % 192).findSome? fun k =>
    match ringWaiting s (ringAt k) with
    | q :: _ => if canTake (cat q.entry.opcode) q s then some (k, q) else none
    | [] => none
/-- The firmware takes the next command; `memOk` says whether the host memory of a HOST ring could be read (R382). -/
def execCommandTake (memOk : Bool) (s : State) : Host.Outcome State Fault Refusal :=
  .next (match nextCmd s with
    | none => s
    | some (k, q) =>
      if !memOk && k < 64 then ringError k 5 s
      else runReq q (onCmd (fun c => { c with rr := (k + 1) % 192 }) s))

/-! ### Entries stored (R366 to R368) -/

/-- Applies and completes a command whose entry is stored. -/
def finishStored (x : Storing) (s : State) : State :=
  runReq x.req (onCmd (fun c => { c with storing := [], finishing := some x }) s)
/-- Marks the waiting entry, and finishes it when MRAM and the twin have it. -/
def settleStoring (f : Storing → Storing) (s : State) : State :=
  match s.cmd.storing with
  | x :: _ =>
    let x := f x
    if x.mram && x.acked then finishStored x s else onCmd (fun c => { c with storing := [x] }) s
  | [] => s
/-- A command whose entry can be stored nowhere any more (R368). -/
def journalFails (s : State) : State :=
  match s.cmd.storing with
  | x :: _ =>
    complete (cat x.req.entry.opcode) x.req x.client x.slot x.seqs .refused 0x0C06 0 [] (onCmd (fun c => { c with storing := [] }) s)
  | [] => s
/-- An ACK; one that comes in SOLO is discarded. -/
def execMirrorAckRx (lp : Nat) (rec : List Byte) (s : State) : Host.Outcome State Fault Refusal :=
  .next (takeRec lp 1 rec (fun s =>
    if pairIn s [.syncing, .paired] then
      let s := ackRecords (recSeq rec) s
      settleStoring (fun x => { x with acked := x.acked || x.jseq ≤ s.gemel.acked }) s
    else s) s)
/-- The twin is lost: SOLO, where the MRAM write alone stores an entry. -/
def execTwinLost (s : State) : Host.Outcome State Fault Refusal :=
  .next (if keelOn s && mirroring s then
    let s := goSolo s
    if s.gemel.mramOk then settleStoring (fun x => { x with acked := true }) s else journalFails s
  else s)
/-- The MRAM write of an entry completes. -/
def execMramWriteDone (jseq : Nat) (s : State) : Host.Outcome State Fault Refusal :=
  .next (if keelOn s && s.gemel.mramOk then settleStoring (fun x => { x with mram := x.mram || x.jseq == jseq }) s else s)
/-- The MRAM device fails: a PAIRED module journals to the twin alone. -/
def execMramFail (s : State) : Host.Outcome State Fault Refusal :=
  .next (if keelOn s && s.gemel.mramOk then
    let s := record 0x0CC5 [(1, pairCode s.gemel.st)] (onGemel (fun g => { g with mramOk := false, remote := g.st == .paired }) s)
    if s.gemel.remote then settleStoring (fun x => { x with mram := true }) s else journalFails s
  else s)

/-! ### Entry to READY, with the entries that the journal held unapplied (R367) -/

/-- Applies an entry found in the journal: its client learns of it by `REPLAY` (R397), and its ticket was ended by the
restart. -/
def applyEntry (x : Storing) (s : State) : State :=
  let mine := fun (c : Client) (id : Nat) => c == x.client && id == x.req.entry.cmdId
  let s := runReq x.req (onCmd (fun c => { c with finishing := some x }) s)
  onCmd (fun c => { c with
    owed := c.owed.filter fun e => !(mine e.1 e.2.cmdId && !e.2.final),
    tickets := c.tickets.map fun e =>
      (e.1, if mine e.2.client e.2.cmdId && e.2.ost == .queued then { e.2 with before := true } else e.2) }) s
def applyEntries (s : State) : State :=
  let l := s.cmd.stored
  settleTickets (forEach l applyEntry (onCmd (fun c => { c with stored := [] }) s))
/-- The start-up sequence ends: READY, or a hold. -/
def execStartupDone (b : StartData) (s : State) : Host.Outcome State Fault Refusal :=
  .next (if !startingUp s then s
  else
    let s := startUnits b s
    if !startingUp s then s
    else if s.sys.hold = 0 then applyEntries (enterReady 6 s)
    else enterHold s)
/-- Hold released: READY follows when no cause is left (Table 20-8). -/
def holdEnds (s : State) : State :=
  if holding s && s.sys.hold == 0 && !s.sys.keelLost then applyEntries (enterReady 8 s) else s
/-- An offer; one whose mirror is this module's ends hold cause 3, whose mooring links are not judged by the journal's
settings. -/
def execOfferRx (lp : Nat) (rec : List Byte) (s : State) : Host.Outcome State Fault Refusal :=
  let held := s.sys.st == .keelUp && s.sys.hold.testBit 3
  .next (if !keelOn s || lpLoc lp != 30 || !(linkUp s lp || held) || !recOk rec || recKind rec != 3 ||
      (recBody rec).length < 72 then s
  else
    let b := recBody rec
    let own := (readOffer b).mirOwner == sliceBytes s.id.serial 0 16
    let s := onGemel (fun g => { g with lastRx := s.mono }) s
    let s := if held && own then onSys (fun x => { x with hold := x.hold &&& 0x17 }) s else s
    holdEnds (takeOffer b s))

/-! ### Tickets that start and finish (Table 17-8) -/

/-- The oldest QUEUED ticket starts when its resources are free. -/
def execTicketStart (tk : Nat) (s : State) : Host.Outcome State Fault Refusal :=
  .next (match ticketOf s tk with
    | none => s
    | some t =>
      if keelOn s && t.ost == .queued && !t.before && oldestQueued s t && workFree s t then holdEnds (runWork t s) else s)
/-- `GEMEL.ADOPT` ends: the twin's mirror is the journal, and the firmware starts again under it (R371). -/
def finishAdopt (t : Ticket) (s : State) : State :=
  match adopted s with
  | none => ticketFail t.ticket 0x0C07 s
  | some j => applyEntries (readyFrom (fun s => s) (takeJournal j s.gemel.lastRx (closeAll (ticketDone t.ticket s))))
/-- The end of the work of operations that no other row ends. -/
def finishWork (t : Ticket) (s : State) : State :=
  match t.opcode with
  | 0x0105 => finishSelftest t s
  | 0x0801 => finishTileLoad t.ticket s
  | 0x0901 => finishSchedLoad t s
  | 0x0C04 => finishAdopt t s
  | 0x0F01 => holdEnds (finishCfgWrite t s)
  | 0x0F03 => finishFwStage t s
  | 0x0F08 => finishJournalinit t s
  | _ => s
/-- The failures that owners define (Table 18-3, marked f). -/
def ownerFails (op reason : Nat) : Bool :=
  (op == 0x0402 && reason == 0x0404) || (op == 0x0C01 && [0x0C01, 0x0C02, 0x0C03, 0x0C04].contains reason)
def execOperationFinish (tk reason : Nat) (s : State) : Host.Outcome State Fault Refusal :=
  .next (match ticketOf s tk with
    | none => s
    | some t =>
      if !keelOn s || t.ost != .running || t.suspReq then s
      else if reason = 0 then finishWork t s
      else if ownerFails t.opcode reason then ticketFail tk reason (whenS (t.opcode == 0x0402) (onCore fun c => { c with commit := none }) s)
      else s)

end Sys2Proof.Machine
end

