-- ==== Sys2Proof/Machine/Dispatch.lean ====
section
/-! DEFINITION. The meaning of each command: one arm for each constructor, each a direct call of its meaning. -/

namespace Sys2Proof.Machine

def exec (i : Instr) (s : State) : Host.Outcome State Fault Refusal :=
  match i with
  | .nop q => Sys2Proof.Machine.execNop q s
  | .caps q => Sys2Proof.Machine.execCaps q s
  | .ping q => Sys2Proof.Machine.execPing q s
  | .devCaps q => Sys2Proof.Machine.execDevCaps q s
  | .devState q => Sys2Proof.Machine.execDevState q s
  | .devService q => Sys2Proof.Machine.execDevService q s
  | .devRestart q => Sys2Proof.Machine.execDevRestart q s
  | .devSelftest q => Sys2Proof.Machine.execDevSelftest q s
  | .devMgmtcfg q => Sys2Proof.Machine.execDevMgmtcfg q s
  | .devHostquery q => Sys2Proof.Machine.execDevHostquery q s
  | .portEnable q => Sys2Proof.Machine.execPortEnable q s
  | .portDisable q => Sys2Proof.Machine.execPortDisable q s
  | .portSplit q => Sys2Proof.Machine.execPortSplit q s
  | .portPower q => Sys2Proof.Machine.execPortPower q s
  | .portQuery q => Sys2Proof.Machine.execPortQuery q s
  | .laneStats q => Sys2Proof.Machine.execLaneStats q s
  | .laneTest q => Sys2Proof.Machine.execLaneTest q s
  | .optRead q => Sys2Proof.Machine.execOptRead q s
  | .optInspect q => Sys2Proof.Machine.execOptInspect q s
  | .optClean q => Sys2Proof.Machine.execOptClean q s
  | .portLinkcfg q => Sys2Proof.Machine.execPortLinkcfg q s
  | .portLstats q => Sys2Proof.Machine.execPortLstats q s
  | .portEthcfg q => Sys2Proof.Machine.execPortEthcfg q s
  | .cartRead q => Sys2Proof.Machine.execCartRead q s
  | .cartOverride q => Sys2Proof.Machine.execCartOverride q s
  | .cartRescan q => Sys2Proof.Machine.execCartRescan q s
  | .routeWrite q => Sys2Proof.Machine.execRouteWrite q s
  | .routeCommit q => Sys2Proof.Machine.execRouteCommit q s
  | .routeHold q => Sys2Proof.Machine.execRouteHold q s
  | .routeRelease q => Sys2Proof.Machine.execRouteRelease q s
  | .routeQuery q => Sys2Proof.Machine.execRouteQuery q s
  | .routeCongmap q => Sys2Proof.Machine.execRouteCongmap q s
  | .routeCmapcfg q => Sys2Proof.Machine.execRouteCmapcfg q s
  | .routeSparstats q => Sys2Proof.Machine.execRouteSparstats q s
  | .sliceBind q => Sys2Proof.Machine.execSliceBind q s
  | .sliceEnable q => Sys2Proof.Machine.execSliceEnable q s
  | .sliceDisable q => Sys2Proof.Machine.execSliceDisable q s
  | .sliceQuery q => Sys2Proof.Machine.execSliceQuery q s
  | .qosServicecfg q => Sys2Proof.Machine.execQosServicecfg q s
  | .qosSubcfg q => Sys2Proof.Machine.execQosSubcfg q s
  | .qosShapecfg q => Sys2Proof.Machine.execQosShapecfg q s
  | .qosPolicecfg q => Sys2Proof.Machine.execQosPolicecfg q s
  | .qosGatewrite q => Sys2Proof.Machine.execQosGatewrite q s
  | .qosGatequery q => Sys2Proof.Machine.execQosGatequery q s
  | .qosQstats q => Sys2Proof.Machine.execQosQstats q s
  | .qosPstats q => Sys2Proof.Machine.execQosPstats q s
  | .qosPoolcfg q => Sys2Proof.Machine.execQosPoolcfg q s
  | .qosPoolquery q => Sys2Proof.Machine.execQosPoolquery q s
  | .qosMarkcfg q => Sys2Proof.Machine.execQosMarkcfg q s
  | .groupConfig q => Sys2Proof.Machine.execGroupConfig q s
  | .groupEnable q => Sys2Proof.Machine.execGroupEnable q s
  | .groupDisable q => Sys2Proof.Machine.execGroupDisable q s
  | .groupAbort q => Sys2Proof.Machine.execGroupAbort q s
  | .groupQuery q => Sys2Proof.Machine.execGroupQuery q s
  | .groupMissing q => Sys2Proof.Machine.execGroupMissing q s
  | .groupPoolquery q => Sys2Proof.Machine.execGroupPoolquery q s
  | .groupUpdcfg q => Sys2Proof.Machine.execGroupUpdcfg q s
  | .groupUpdquery q => Sys2Proof.Machine.execGroupUpdquery q s
  | .groupNanread q => Sys2Proof.Machine.execGroupNanread q s
  | .tileLoad q => Sys2Proof.Machine.execTileLoad q s
  | .tileUnload q => Sys2Proof.Machine.execTileUnload q s
  | .tileProgquery q => Sys2Proof.Machine.execTileProgquery q s
  | .tileUpdbind q => Sys2Proof.Machine.execTileUpdbind q s
  | .tileUpdunbind q => Sys2Proof.Machine.execTileUpdunbind q s
  | .tileUpdquery q => Sys2Proof.Machine.execTileUpdquery q s
  | .tileQuery q => Sys2Proof.Machine.execTileQuery q s
  | .tilePower q => Sys2Proof.Machine.execTilePower q s
  | .tileSelftest q => Sys2Proof.Machine.execTileSelftest q s
  | .schedLoad q => Sys2Proof.Machine.execSchedLoad q s
  | .schedUnload q => Sys2Proof.Machine.execSchedUnload q s
  | .schedEnable q => Sys2Proof.Machine.execSchedEnable q s
  | .schedStop q => Sys2Proof.Machine.execSchedStop q s
  | .schedDisable q => Sys2Proof.Machine.execSchedDisable q s
  | .schedQuery q => Sys2Proof.Machine.execSchedQuery q s
  | .schedTimecfg q => Sys2Proof.Machine.execSchedTimecfg q s
  | .schedTimequery q => Sys2Proof.Machine.execSchedTimequery q s
  | .schedAuditcfg q => Sys2Proof.Machine.execSchedAuditcfg q s
  | .schedAuditread q => Sys2Proof.Machine.execSchedAuditread q s
  | .snapPlan q => Sys2Proof.Machine.execSnapPlan q s
  | .snapPlanquery q => Sys2Proof.Machine.execSnapPlanquery q s
  | .snapSeal q => Sys2Proof.Machine.execSnapSeal q s
  | .snapReelcfg q => Sys2Proof.Machine.execSnapReelcfg q s
  | .snapReelenable q => Sys2Proof.Machine.execSnapReelenable q s
  | .snapTarget q => Sys2Proof.Machine.execSnapTarget q s
  | .snapDrain q => Sys2Proof.Machine.execSnapDrain q s
  | .snapRestore q => Sys2Proof.Machine.execSnapRestore q s
  | .snapList q => Sys2Proof.Machine.execSnapList q s
  | .snapQuery q => Sys2Proof.Machine.execSnapQuery q s
  | .flashHealth q => Sys2Proof.Machine.execFlashHealth q s
  | .flashScan q => Sys2Proof.Machine.execFlashScan q s
  | .flashScancfg q => Sys2Proof.Machine.execFlashScancfg q s
  | .flashBbtread q => Sys2Proof.Machine.execFlashBbtread q s
  | .flashFormat q => Sys2Proof.Machine.execFlashFormat q s
  | .gemelPair q => Sys2Proof.Machine.execGemelPair q s
  | .gemelUnpair q => Sys2Proof.Machine.execGemelUnpair q s
  | .gemelQuery q => Sys2Proof.Machine.execGemelQuery q s
  | .gemelAdopt q => Sys2Proof.Machine.execGemelAdopt q s
  | .gemelResync q => Sys2Proof.Machine.execGemelResync q s
  | .envCap q => Sys2Proof.Machine.execEnvCap q s
  | .envRampcfg q => Sys2Proof.Machine.execEnvRampcfg q s
  | .envBrakecfg q => Sys2Proof.Machine.execEnvBrakecfg q s
  | .envOrphancfg q => Sys2Proof.Machine.execEnvOrphancfg q s
  | .envHeartbeat q => Sys2Proof.Machine.execEnvHeartbeat q s
  | .envQuery q => Sys2Proof.Machine.execEnvQuery q s
  | .envSensors q => Sys2Proof.Machine.execEnvSensors q s
  | .envPsu q => Sys2Proof.Machine.execEnvPsu q s
  | .envRipcord q => Sys2Proof.Machine.execEnvRipcord q s
  | .envTraycfg q => Sys2Proof.Machine.execEnvTraycfg q s
  | .envTrayquery q => Sys2Proof.Machine.execEnvTrayquery q s
  | .faultQuery q => Sys2Proof.Machine.execFaultQuery q s
  | .faultClasscfg q => Sys2Proof.Machine.execFaultClasscfg q s
  | .faultIsolate q => Sys2Proof.Machine.execFaultIsolate q s
  | .faultRelease q => Sys2Proof.Machine.execFaultRelease q s
  | .faultClear q => Sys2Proof.Machine.execFaultClear q s
  | .eventTrigcfg q => Sys2Proof.Machine.execEventTrigcfg q s
  | .eventRead q => Sys2Proof.Machine.execEventRead q s
  | .eventRestart q => Sys2Proof.Machine.execEventRestart q s
  | .cfgWrite q => Sys2Proof.Machine.execCfgWrite q s
  | .cfgRead q => Sys2Proof.Machine.execCfgRead q s
  | .fwStage q => Sys2Proof.Machine.execFwStage q s
  | .fwActivate q => Sys2Proof.Machine.execFwActivate q s
  | .fwQuery q => Sys2Proof.Machine.execFwQuery q s
  | .secCerts q => Sys2Proof.Machine.execSecCerts q s
  | .secFloor q => Sys2Proof.Machine.execSecFloor q s
  | .cfgJournalinit q => Sys2Proof.Machine.execCfgJournalinit q s
  | .opQuery q => Sys2Proof.Machine.execOpQuery q s
  | .opSuspend q => Sys2Proof.Machine.execOpSuspend q s
  | .opResume q => Sys2Proof.Machine.execOpResume q s
  | .opCancel q => Sys2Proof.Machine.execOpCancel q s
  | .opList q => Sys2Proof.Machine.execOpList q s
  | .tileNop t => Sys2Proof.Machine.execTileNop t s
  | .vld t vd sa off => Sys2Proof.Machine.execVld t vd sa off s
  | .vst t vs sa off => Sys2Proof.Machine.execVst t vs sa off s
  | .vstc t vs sa off fmt => Sys2Proof.Machine.execVstc t vs sa off fmt s
  | .vadd t vd va vb => Sys2Proof.Machine.execVadd t vd va vb s
  | .vsub t vd va vb => Sys2Proof.Machine.execVsub t vd va vb s
  | .vmul t vd va vb scalar => Sys2Proof.Machine.execVmul t vd va vb scalar s
  | .vfma t vd va vb vc => Sys2Proof.Machine.execVfma t vd va vb vc s
  | .vema t vd va vb sc => Sys2Proof.Machine.execVema t vd va vb sc s
  | .vaxpby t vd va vb sa sb => Sys2Proof.Machine.execVaxpby t vd va vb sa sb s
  | .vrsqa t vd va sa sb => Sys2Proof.Machine.execVrsqa t vd va sa sb s
  | .vmin t vd va vb => Sys2Proof.Machine.execVmin t vd va vb s
  | .vmax t vd va vb => Sys2Proof.Machine.execVmax t vd va vb s
  | .vzero t vd => Sys2Proof.Machine.execVzero t vd s
  | .sli t sd imm => Sys2Proof.Machine.execSli t sd imm s
  | .saddi t sd sa imm => Sys2Proof.Machine.execSaddi t sd sa imm s
  | .sfmul t sd sa sb => Sys2Proof.Machine.execSfmul t sd sa sb s
  | .sfadd t sd sa sb => Sys2Proof.Machine.execSfadd t sd sa sb s
  | .sldu t sd off => Sys2Proof.Machine.execSldu t sd off s
  | .dmard t sa sb len => Sys2Proof.Machine.execDmard t sa sb len s
  | .dmawr t sa sb len => Sys2Proof.Machine.execDmawr t sa sb len s
  | .dmawait t => Sys2Proof.Machine.execDmawait t s
  | .loop t sd off => Sys2Proof.Machine.execLoop t sd off s
  | .endEntry t => Sys2Proof.Machine.execEndEntry t s
  | .combineEntry t parity => Sys2Proof.Machine.execCombineEntry t parity s
  | .finaliseEntry t parity => Sys2Proof.Machine.execFinaliseEntry t parity s
  | .updateEntry t parity => Sys2Proof.Machine.execUpdateEntry t parity s
  | .dmaComplete t n crcBad => Sys2Proof.Machine.execDmaComplete t n crcBad s
  | .tileIdleGate t => Sys2Proof.Machine.execTileIdleGate t s
  | .tileLiftDone t => Sys2Proof.Machine.execTileLiftDone t s
  | .tileReloadDone t => Sys2Proof.Machine.execTileReloadDone t s
  | .tileSelftestDone tk failed => Sys2Proof.Machine.execTileSelftestDone tk failed s
  | .frameArrival lp f par => Sys2Proof.Machine.execFrameArrival lp f par s
  | .frameStored lp fid => Sys2Proof.Machine.execFrameStored lp fid s
  | .egressGrant lp parity => Sys2Proof.Machine.execEgressGrant lp parity s
  | .frameTransmit lp bad => Sys2Proof.Machine.execFrameTransmit lp bad s
  | .poolRoomAvailable die cls => Sys2Proof.Machine.execPoolRoomAvailable die cls s
  | .freeStoreAudit die cell agree mapOk => Sys2Proof.Machine.execFreeStoreAudit die cell agree mapOk s
  | .tableEntryRewrite die table entry => Sys2Proof.Machine.execTableEntryRewrite die table entry s
  | .dieClockStop die => Sys2Proof.Machine.execDieClockStop die s
  | .dieClockLiftDone die => Sys2Proof.Machine.execDieClockLiftDone die s
  | .sparSlotFill die => Sys2Proof.Machine.execSparSlotFill die s
  | .sparCellLand die far hcrcOk => Sys2Proof.Machine.execSparCellLand die far hcrcOk s
  | .partialFrameTimeout lp fid => Sys2Proof.Machine.execPartialFrameTimeout lp fid s
  | .sparRetrain die far ok => Sys2Proof.Machine.execSparRetrain die far ok s
  | .sparUp die far => Sys2Proof.Machine.execSparUp die far s
  | .congestionMapPeriod => Sys2Proof.Machine.execCongestionMapPeriod s
  | .holdDrained => Sys2Proof.Machine.execHoldDrained s
  | .commitDrained => Sys2Proof.Machine.execCommitDrained s
  | .commitDrainTimeout => Sys2Proof.Machine.execCommitDrainTimeout s
  | .bindFenceAcked tk => Sys2Proof.Machine.execBindFenceAcked tk s
  | .bindDrainEnd kind obj => Sys2Proof.Machine.execBindDrainEnd kind obj s
  | .drainForced lp => Sys2Proof.Machine.execDrainForced lp s
  | .bindScrubEnd kind obj => Sys2Proof.Machine.execBindScrubEnd kind obj s
  | .sliceDrainEnd slice => Sys2Proof.Machine.execSliceDrainEnd slice s
  | .scrubGranuleFill die granule => Sys2Proof.Machine.execScrubGranuleFill die granule s
  | .lanePowerUpEnd lp locked => Sys2Proof.Machine.execLanePowerUpEnd lp locked s
  | .laneRetry lp => Sys2Proof.Machine.execLaneRetry lp s
  | .lossOfSignal lane => Sys2Proof.Machine.execLossOfSignal lane s
  | .lossOfLock lane => Sys2Proof.Machine.execLossOfLock lane s
  | .refclkLoss die otherGood => Sys2Proof.Machine.execRefclkLoss die otherGood s
  | .liftComplete lp => Sys2Proof.Machine.execLiftComplete lp s
  | .dozeIdleTimeout lp => Sys2Proof.Machine.execDozeIdleTimeout lp s
  | .dozeBlockRx lp blk => Sys2Proof.Machine.execDozeBlockRx lp blk s
  | .optReadingUpdate engine rds => Sys2Proof.Machine.execOptReadingUpdate engine rds s
  | .inspectConnectorDone port rds => Sys2Proof.Machine.execInspectConnectorDone port rds s
  | .cleanDurationEnd => Sys2Proof.Machine.execCleanDurationEnd s
  | .cleanWaitEnd => Sys2Proof.Machine.execCleanWaitEnd s
  | .laneTestEnd tk counts => Sys2Proof.Machine.execLaneTestEnd tk counts s
  | .cartPoll bay serial => Sys2Proof.Machine.execCartPoll bay serial s
  | .cartRecordReadDone bay raw => Sys2Proof.Machine.execCartRecordReadDone bay raw s
  | .tetherBlockRx lane blk => Sys2Proof.Machine.execTetherBlockRx lane blk s
  | .linkCtlRx lp blk => Sys2Proof.Machine.execLinkCtlRx lp blk s
  | .trainRx lp blk => Sys2Proof.Machine.execTrainRx lp blk s
  | .trainBlockDue lp => Sys2Proof.Machine.execTrainBlockDue lp s
  | .creditReturnDue lp => Sys2Proof.Machine.execCreditReturnDue lp s
  | .replayTimeout lp => Sys2Proof.Machine.execReplayTimeout lp s
  | .lockingTimeout lp => Sys2Proof.Machine.execLockingTimeout lp s
  | .exchangeTimeout lp => Sys2Proof.Machine.execExchangeTimeout lp s
  | .retrainEnd lp => Sys2Proof.Machine.execRetrainEnd lp s
  | .miscabledRecheck lp => Sys2Proof.Machine.execMiscabledRecheck lp s
  | .linkFlushTimeout lp => Sys2Proof.Machine.execLinkFlushTimeout lp s
  | .ethPacketRx port pkt => Sys2Proof.Machine.execEthPacketRx port pkt s
  | .roceAckTimeout qp => Sys2Proof.Machine.execRoceAckTimeout qp s
  | .roceRateRestore qp => Sys2Proof.Machine.execRoceRateRestore qp s
  | .nvmeKeepAlive tgt => Sys2Proof.Machine.execNvmeKeepAlive tgt s
  | .targetReconnect tgt ok => Sys2Proof.Machine.execTargetReconnect tgt ok s
  | .gateTakeover lp => Sys2Proof.Machine.execGateTakeover lp s
  | .gateFreeRunStart => Sys2Proof.Machine.execGateFreeRunStart s
  | .contribRx die bad => Sys2Proof.Machine.execContribRx die bad s
  | .resultRx die bad => Sys2Proof.Machine.execResultRx die bad s
  | .fallbackNoticeRx die bad => Sys2Proof.Machine.execFallbackNoticeRx die bad s
  | .recomputeNoticeRx die bad => Sys2Proof.Machine.execRecomputeNoticeRx die bad s
  | .treeDoneRx die bad => Sys2Proof.Machine.execTreeDoneRx die bad s
  | .claimRetry => Sys2Proof.Machine.execClaimRetry s
  | .basketRelease grp seq chunk => Sys2Proof.Machine.execBasketRelease grp seq chunk s
  | .fallbackTimeout grp seq chunk => Sys2Proof.Machine.execFallbackTimeout grp seq chunk s
  | .groupWatchdog grp seq => Sys2Proof.Machine.execGroupWatchdog grp seq s
  | .groupDisableDone grp => Sys2Proof.Machine.execGroupDisableDone grp s
  | .updraftMemberRx die bad parity => Sys2Proof.Machine.execUpdraftMemberRx die bad parity s
  | .sweepRx die bad parity => Sys2Proof.Machine.execSweepRx die bad parity s
  | .updraftDoneNoticeRx die bad => Sys2Proof.Machine.execUpdraftDoneNoticeRx die bad s
  | .refillRx die bad => Sys2Proof.Machine.execRefillRx die bad s
  | .interruptedNoticeRx die bad => Sys2Proof.Machine.execInterruptedNoticeRx die bad s
  | .updraftResend die => Sys2Proof.Machine.execUpdraftResend die s
  | .windowRead die key bad memBad => Sys2Proof.Machine.execWindowRead die key bad memBad s
  | .windowWrite die key bad memBad => Sys2Proof.Machine.execWindowWrite die key bad memBad s
  | .fence die bad => Sys2Proof.Machine.execFence die bad s
  | .streamMarkExpire die src dest cls => Sys2Proof.Machine.execStreamMarkExpire die src dest cls s
  | .cxlMemRead addr len tag crcBad => Sys2Proof.Machine.execCxlMemRead addr len tag crcBad s
  | .cxlMemWrite addr bytes tag crcBad => Sys2Proof.Machine.execCxlMemWrite addr bytes tag crcBad s
  | .syncDue lp => Sys2Proof.Machine.execSyncDue lp s
  | .syncRx lp xseq ts steps => Sys2Proof.Machine.execSyncRx lp xseq ts steps s
  | .delayReqRx lp xseq ts => Sys2Proof.Machine.execDelayReqRx lp xseq ts s
  | .delayRespRx lp xseq ts => Sys2Proof.Machine.execDelayRespRx lp xseq ts s
  | .armedRx lp tag count => Sys2Proof.Machine.execArmedRx lp tag count s
  | .launchRx lp tag time => Sys2Proof.Machine.execLaunchRx lp tag time s
  | .haltRx lp tag cause => Sys2Proof.Machine.execHaltRx lp tag cause s
  | .exchangeMissing => Sys2Proof.Machine.execExchangeMissing s
  | .holdoverTimeout => Sys2Proof.Machine.execHoldoverTimeout s
  | .syncPpsEdge => Sys2Proof.Machine.execSyncPpsEdge s
  | .schedArmed => Sys2Proof.Machine.execSchedArmed s
  | .schedLaunchTime => Sys2Proof.Machine.execSchedLaunchTime s
  | .schedSparEntry n => Sys2Proof.Machine.execSchedSparEntry n s
  | .schedEgressEntry n => Sys2Proof.Machine.execSchedEgressEntry n s
  | .schedClaimEntry n => Sys2Proof.Machine.execSchedClaimEntry n s
  | .schedIssueEntry n => Sys2Proof.Machine.execSchedIssueEntry n s
  | .schedDueEntry n => Sys2Proof.Machine.execSchedDueEntry n s
  | .schedRefreshEntry n => Sys2Proof.Machine.execSchedRefreshEntry n s
  | .schedPowerEntry n => Sys2Proof.Machine.execSchedPowerEntry n s
  | .schedLiftEntry n => Sys2Proof.Machine.execSchedLiftEntry n s
  | .schedGateEntry n => Sys2Proof.Machine.execSchedGateEntry n s
  | .schedUpdEntry n => Sys2Proof.Machine.execSchedUpdEntry n s
  | .schedFlagEntry n => Sys2Proof.Machine.execSchedFlagEntry n s
  | .schedPeriodEnd => Sys2Proof.Machine.execSchedPeriodEnd s
  | .sealTakeEffect side => Sys2Proof.Machine.execSealTakeEffect side s
  | .moverPiece tier die bad => Sys2Proof.Machine.execMoverPiece tier die bad s
  | .snapDataRx die bad => Sys2Proof.Machine.execSnapDataRx die bad s
  | .snapHeaderRx die bad => Sys2Proof.Machine.execSnapHeaderRx die bad s
  | .snapAckRx die bad => Sys2Proof.Machine.execSnapAckRx die bad s
  | .pageReqRx die bad memBad => Sys2Proof.Machine.execPageReqRx die bad memBad s
  | .pageDataRx die bad => Sys2Proof.Machine.execPageDataRx die bad s
  | .noCopyRx die bad => Sys2Proof.Machine.execNoCopyRx die bad s
  | .targetFlushDone tgt ok => Sys2Proof.Machine.execTargetFlushDone tgt ok s
  | .restoreComplete side => Sys2Proof.Machine.execRestoreComplete side s
  | .pageProgramDone sb page ok => Sys2Proof.Machine.execPageProgramDone sb page ok s
  | .eraseComplete sb ok fdie => Sys2Proof.Machine.execEraseComplete sb ok fdie s
  | .releaseAfterRead obj => Sys2Proof.Machine.execReleaseAfterRead obj s
  | .scanDue => Sys2Proof.Machine.execScanDue s
  | .scanBlockRead fdie blk page errs endScan => Sys2Proof.Machine.execScanBlockRead fdie blk page errs endScan s
  | .flashDieUnresponsive fdie => Sys2Proof.Machine.execFlashDieUnresponsive fdie s
  | .offerDue => Sys2Proof.Machine.execOfferDue s
  | .offerRx lp rec => Sys2Proof.Machine.execOfferRx lp rec s
  | .mirrorEntryRx lp rec => Sys2Proof.Machine.execMirrorEntryRx lp rec s
  | .mirrorAckRx lp rec => Sys2Proof.Machine.execMirrorAckRx lp rec s
  | .heartbeatRx lp rec => Sys2Proof.Machine.execHeartbeatRx lp rec s
  | .keelLostRx lp rec => Sys2Proof.Machine.execKeelLostRx lp rec s
  | .syncDoneRx lp rec => Sys2Proof.Machine.execSyncDoneRx lp rec s
  | .heartbeatDue => Sys2Proof.Machine.execHeartbeatDue s
  | .twinLost => Sys2Proof.Machine.execTwinLost s
  | .mirrorResendTimeout => Sys2Proof.Machine.execMirrorResendTimeout s
  | .mramWriteDone jseq => Sys2Proof.Machine.execMramWriteDone jseq s
  | .mramFail => Sys2Proof.Machine.execMramFail s
  | .pairTimeout => Sys2Proof.Machine.execPairTimeout s
  | .soloRoleRestore => Sys2Proof.Machine.execSoloRoleRestore s
  | .sqDoorbell ring tail ents => Sys2Proof.Machine.execSqDoorbell ring tail ents s
  | .cqDoorbell ring head => Sys2Proof.Machine.execCqDoorbell ring head s
  | .ringEnable ring => Sys2Proof.Machine.execRingEnable ring s
  | .ringDisable ring => Sys2Proof.Machine.execRingDisable ring s
  | .commandTake memOk => Sys2Proof.Machine.execCommandTake memOk s
  | .helloRx h => Sys2Proof.Machine.execHelloRx h s
  | .finishRx xp sess cseq replyTo mac => Sys2Proof.Machine.execFinishRx xp sess cseq replyTo mac s
  | .commandCapsuleRx xp cap => Sys2Proof.Machine.execCommandCapsuleRx xp cap s
  | .closeRx xp cap => Sys2Proof.Machine.execCloseRx xp cap s
  | .sessionIdle xp sess => Sys2Proof.Machine.execSessionIdle xp sess s
  | .segmentTimeout xp sess msg => Sys2Proof.Machine.execSegmentTimeout xp sess msg s
  | .ticketStart tk => Sys2Proof.Machine.execTicketStart tk s
  | .suspendPointReached tk => Sys2Proof.Machine.execSuspendPointReached tk s
  | .cancelUndoDone tk => Sys2Proof.Machine.execCancelUndoDone tk s
  | .operationFinish tk reason => Sys2Proof.Machine.execOperationFinish tk reason s
  | .spdmGetVersion doe ver => Sys2Proof.Machine.execSpdmGetVersion doe ver s
  | .spdmGetCapabilities doe ver => Sys2Proof.Machine.execSpdmGetCapabilities doe ver s
  | .spdmNegotiateAlgorithms doe ver asym hash => Sys2Proof.Machine.execSpdmNegotiateAlgorithms doe ver asym hash s
  | .spdmGetDigests doe ver => Sys2Proof.Machine.execSpdmGetDigests doe ver s
  | .spdmGetCertificate doe ver slot off len => Sys2Proof.Machine.execSpdmGetCertificate doe ver slot off len s
  | .spdmChallenge doe ver slot nonce => Sys2Proof.Machine.execSpdmChallenge doe ver slot nonce s
  | .spdmGetMeasurements doe ver idx nonce => Sys2Proof.Machine.execSpdmGetMeasurements doe ver idx nonce s
  | .doeAbort => Sys2Proof.Machine.execDoeAbort s
  | .identifyMemoryDevice => Sys2Proof.Machine.execIdentifyMemoryDevice s
  | .getSupportedLogs => Sys2Proof.Machine.execGetSupportedLogs s
  | .getLog uuid off len => Sys2Proof.Machine.execGetLog uuid off len s
  | .getHealthInfo => Sys2Proof.Machine.execGetHealthInfo s
  | .mailboxUnsupported opc => Sys2Proof.Machine.execMailboxUnsupported opc s
  | .hdmDecoderCommit dec base size skip ways => Sys2Proof.Machine.execHdmDecoderCommit dec base size skip ways s
  | .perstAssert hot => Sys2Proof.Machine.execPerstAssert hot s
  | .perstDeassert => Sys2Proof.Machine.execPerstDeassert s
  | .hostLinkChange mode width rate => Sys2Proof.Machine.execHostLinkChange mode width rate s
  | .mgmtLinkChange up => Sys2Proof.Machine.execMgmtLinkChange up s
  | .mgmtPacketRx pkt => Sys2Proof.Machine.execMgmtPacketRx pkt s
  | .ftNowRead half => Sys2Proof.Machine.execFtNowRead half s
  | .lowHalfRead off => Sys2Proof.Machine.execLowHalfRead off s
  | .registerWrite off size val => Sys2Proof.Machine.execRegisterWrite off size val s
  | .fltFirstClear => Sys2Proof.Machine.execFltFirstClear s
  | .evrRestartWrite => Sys2Proof.Machine.execEvrRestartWrite s
  | .vsb12Up cv => Sys2Proof.Machine.execVsb12Up cv s
  | .vsb12Lost => Sys2Proof.Machine.execVsb12Lost s
  | .pwrOkAssert => Sys2Proof.Machine.execPwrOkAssert s
  | .keelUpEntry plane tray keyOk => Sys2Proof.Machine.execKeelUpEntry plane tray keyOk s
  | .startupDone b => Sys2Proof.Machine.execStartupDone b s
  | .pwrOkDeassert => Sys2Proof.Machine.execPwrOkDeassert s
  | .vin40Fault cv => Sys2Proof.Machine.execVin40Fault cv s
  | .keelWatchdogExpire => Sys2Proof.Machine.execKeelWatchdogExpire s
  | .headlessRestart => Sys2Proof.Machine.execHeadlessRestart s
  | .faultReportBatch reps => Sys2Proof.Machine.execFaultReportBatch reps s
  | .faultWindowExpire src => Sys2Proof.Machine.execFaultWindowExpire src s
  | .faultQuietExpire src => Sys2Proof.Machine.execFaultQuietExpire src s
  | .releaseTestDone src pass => Sys2Proof.Machine.execReleaseTestDone src pass s
  | .powerMeasurement vin iin => Sys2Proof.Machine.execPowerMeasurement vin iin s
  | .sensorReading inst val => Sys2Proof.Machine.execSensorReading inst val s
  | .droguePresetUpdate => Sys2Proof.Machine.execDroguePresetUpdate s
  | .drogueAssert => Sys2Proof.Machine.execDrogueAssert s
  | .vinDrogueLow cv => Sys2Proof.Machine.execVinDrogueLow cv s
  | .drogueEnd cv => Sys2Proof.Machine.execDrogueEnd cv s
  | .pumpConditionStart => Sys2Proof.Machine.execPumpConditionStart s
  | .pumpConditionEnd => Sys2Proof.Machine.execPumpConditionEnd s
  | .ripcordInput => Sys2Proof.Machine.execRipcordInput s
  | .leakInput sensor => Sys2Proof.Machine.execLeakInput sensor s
  | .thermalTrip sensor => Sys2Proof.Machine.execThermalTrip sensor s
  | .capDeadline => Sys2Proof.Machine.execCapDeadline s
  | .heartbeatMissed => Sys2Proof.Machine.execHeartbeatMissed s
  | .keelLossOrphanCap => Sys2Proof.Machine.execKeelLossOrphanCap s
  | .psuPoll rds => Sys2Proof.Machine.execPsuPoll rds s
  | .psuAlertInput rds => Sys2Proof.Machine.execPsuAlertInput rds s
  | .stopConditionCleared cause => Sys2Proof.Machine.execStopConditionCleared cause s
  | .storageLinkLock port locked => Sys2Proof.Machine.execStorageLinkLock port locked s
  | .flashReadDone addr tier bytes => Sys2Proof.Machine.execFlashReadDone addr tier bytes s
  | .headlessFaultReportRx die src kind ft => Sys2Proof.Machine.execHeadlessFaultReportRx die src kind ft s

end Sys2Proof.Machine
end

