-- ==== Sys2Proof/Laws/State.lean ====
section
/-! SUPPORT. One law for each part of the state under each update of a part, and under each shared operation that
leaves the part alone. -/

set_option Elab.async false

namespace Sys2Proof.Machine

variable (s : State)

@[simp] theorem onSys_pending (f : SysSt → SysSt) : (onSys f s).pending = s.pending := rfl
@[simp] theorem onSys_id (f : SysSt → SysSt) : (onSys f s).id = s.id := rfl
@[simp] theorem onSys_sys (f : SysSt → SysSt) : (onSys f s).sys = f s.sys := rfl
@[simp] theorem onSys_cmd (f : SysSt → SysSt) : (onSys f s).cmd = s.cmd := rfl
@[simp] theorem onSys_host (f : SysSt → SysSt) : (onSys f s).host = s.host := rfl
@[simp] theorem onSys_flt (f : SysSt → SysSt) : (onSys f s).flt = s.flt := rfl
@[simp] theorem onSys_env (f : SysSt → SysSt) : (onSys f s).env = s.env := rfl
@[simp] theorem onSys_net (f : SysSt → SysSt) : (onSys f s).net = s.net := rfl
@[simp] theorem onSys_core (f : SysSt → SysSt) : (onSys f s).core = s.core := rfl
@[simp] theorem onSys_tile (f : SysSt → SysSt) : (onSys f s).tile = s.tile := rfl
@[simp] theorem onSys_mem (f : SysSt → SysSt) : (onSys f s).mem = s.mem := rfl
@[simp] theorem onSys_time (f : SysSt → SysSt) : (onSys f s).time = s.time := rfl
@[simp] theorem onSys_sched (f : SysSt → SysSt) : (onSys f s).sched = s.sched := rfl
@[simp] theorem onSys_snap (f : SysSt → SysSt) : (onSys f s).snap = s.snap := rfl
@[simp] theorem onSys_flash (f : SysSt → SysSt) : (onSys f s).flash = s.flash := rfl
@[simp] theorem onSys_gemel (f : SysSt → SysSt) : (onSys f s).gemel = s.gemel := rfl
@[simp] theorem onSys_set (f : SysSt → SysSt) : (onSys f s).set = s.set := rfl
@[simp] theorem onSys_jrn (f : SysSt → SysSt) : (onSys f s).jrn = s.jrn := rfl
@[simp] theorem onSys_out (f : SysSt → SysSt) : (onSys f s).out = s.out := rfl
@[simp] theorem onSys_mono (f : SysSt → SysSt) : (onSys f s).mono = s.mono := rfl
@[simp] theorem onSys_freeCtr (f : SysSt → SysSt) : (onSys f s).freeCtr = s.freeCtr := rfl

@[simp] theorem onCmd_pending (f : CmdSt → CmdSt) : (onCmd f s).pending = s.pending := rfl
@[simp] theorem onCmd_id (f : CmdSt → CmdSt) : (onCmd f s).id = s.id := rfl
@[simp] theorem onCmd_sys (f : CmdSt → CmdSt) : (onCmd f s).sys = s.sys := rfl
@[simp] theorem onCmd_cmd (f : CmdSt → CmdSt) : (onCmd f s).cmd = f s.cmd := rfl
@[simp] theorem onCmd_host (f : CmdSt → CmdSt) : (onCmd f s).host = s.host := rfl
@[simp] theorem onCmd_flt (f : CmdSt → CmdSt) : (onCmd f s).flt = s.flt := rfl
@[simp] theorem onCmd_env (f : CmdSt → CmdSt) : (onCmd f s).env = s.env := rfl
@[simp] theorem onCmd_net (f : CmdSt → CmdSt) : (onCmd f s).net = s.net := rfl
@[simp] theorem onCmd_core (f : CmdSt → CmdSt) : (onCmd f s).core = s.core := rfl
@[simp] theorem onCmd_tile (f : CmdSt → CmdSt) : (onCmd f s).tile = s.tile := rfl
@[simp] theorem onCmd_mem (f : CmdSt → CmdSt) : (onCmd f s).mem = s.mem := rfl
@[simp] theorem onCmd_time (f : CmdSt → CmdSt) : (onCmd f s).time = s.time := rfl
@[simp] theorem onCmd_sched (f : CmdSt → CmdSt) : (onCmd f s).sched = s.sched := rfl
@[simp] theorem onCmd_snap (f : CmdSt → CmdSt) : (onCmd f s).snap = s.snap := rfl
@[simp] theorem onCmd_flash (f : CmdSt → CmdSt) : (onCmd f s).flash = s.flash := rfl
@[simp] theorem onCmd_gemel (f : CmdSt → CmdSt) : (onCmd f s).gemel = s.gemel := rfl
@[simp] theorem onCmd_set (f : CmdSt → CmdSt) : (onCmd f s).set = s.set := rfl
@[simp] theorem onCmd_jrn (f : CmdSt → CmdSt) : (onCmd f s).jrn = s.jrn := rfl
@[simp] theorem onCmd_out (f : CmdSt → CmdSt) : (onCmd f s).out = s.out := rfl
@[simp] theorem onCmd_mono (f : CmdSt → CmdSt) : (onCmd f s).mono = s.mono := rfl
@[simp] theorem onCmd_freeCtr (f : CmdSt → CmdSt) : (onCmd f s).freeCtr = s.freeCtr := rfl

@[simp] theorem onHost_pending (f : HostSt → HostSt) : (onHost f s).pending = s.pending := rfl
@[simp] theorem onHost_id (f : HostSt → HostSt) : (onHost f s).id = s.id := rfl
@[simp] theorem onHost_sys (f : HostSt → HostSt) : (onHost f s).sys = s.sys := rfl
@[simp] theorem onHost_cmd (f : HostSt → HostSt) : (onHost f s).cmd = s.cmd := rfl
@[simp] theorem onHost_host (f : HostSt → HostSt) : (onHost f s).host = f s.host := rfl
@[simp] theorem onHost_flt (f : HostSt → HostSt) : (onHost f s).flt = s.flt := rfl
@[simp] theorem onHost_env (f : HostSt → HostSt) : (onHost f s).env = s.env := rfl
@[simp] theorem onHost_net (f : HostSt → HostSt) : (onHost f s).net = s.net := rfl
@[simp] theorem onHost_core (f : HostSt → HostSt) : (onHost f s).core = s.core := rfl
@[simp] theorem onHost_tile (f : HostSt → HostSt) : (onHost f s).tile = s.tile := rfl
@[simp] theorem onHost_mem (f : HostSt → HostSt) : (onHost f s).mem = s.mem := rfl
@[simp] theorem onHost_time (f : HostSt → HostSt) : (onHost f s).time = s.time := rfl
@[simp] theorem onHost_sched (f : HostSt → HostSt) : (onHost f s).sched = s.sched := rfl
@[simp] theorem onHost_snap (f : HostSt → HostSt) : (onHost f s).snap = s.snap := rfl
@[simp] theorem onHost_flash (f : HostSt → HostSt) : (onHost f s).flash = s.flash := rfl
@[simp] theorem onHost_gemel (f : HostSt → HostSt) : (onHost f s).gemel = s.gemel := rfl
@[simp] theorem onHost_set (f : HostSt → HostSt) : (onHost f s).set = s.set := rfl
@[simp] theorem onHost_jrn (f : HostSt → HostSt) : (onHost f s).jrn = s.jrn := rfl
@[simp] theorem onHost_out (f : HostSt → HostSt) : (onHost f s).out = s.out := rfl
@[simp] theorem onHost_mono (f : HostSt → HostSt) : (onHost f s).mono = s.mono := rfl
@[simp] theorem onHost_freeCtr (f : HostSt → HostSt) : (onHost f s).freeCtr = s.freeCtr := rfl

@[simp] theorem onFlt_pending (f : FltSt → FltSt) : (onFlt f s).pending = s.pending := rfl
@[simp] theorem onFlt_id (f : FltSt → FltSt) : (onFlt f s).id = s.id := rfl
@[simp] theorem onFlt_sys (f : FltSt → FltSt) : (onFlt f s).sys = s.sys := rfl
@[simp] theorem onFlt_cmd (f : FltSt → FltSt) : (onFlt f s).cmd = s.cmd := rfl
@[simp] theorem onFlt_host (f : FltSt → FltSt) : (onFlt f s).host = s.host := rfl
@[simp] theorem onFlt_flt (f : FltSt → FltSt) : (onFlt f s).flt = f s.flt := rfl
@[simp] theorem onFlt_env (f : FltSt → FltSt) : (onFlt f s).env = s.env := rfl
@[simp] theorem onFlt_net (f : FltSt → FltSt) : (onFlt f s).net = s.net := rfl
@[simp] theorem onFlt_core (f : FltSt → FltSt) : (onFlt f s).core = s.core := rfl
@[simp] theorem onFlt_tile (f : FltSt → FltSt) : (onFlt f s).tile = s.tile := rfl
@[simp] theorem onFlt_mem (f : FltSt → FltSt) : (onFlt f s).mem = s.mem := rfl
@[simp] theorem onFlt_time (f : FltSt → FltSt) : (onFlt f s).time = s.time := rfl
@[simp] theorem onFlt_sched (f : FltSt → FltSt) : (onFlt f s).sched = s.sched := rfl
@[simp] theorem onFlt_snap (f : FltSt → FltSt) : (onFlt f s).snap = s.snap := rfl
@[simp] theorem onFlt_flash (f : FltSt → FltSt) : (onFlt f s).flash = s.flash := rfl
@[simp] theorem onFlt_gemel (f : FltSt → FltSt) : (onFlt f s).gemel = s.gemel := rfl
@[simp] theorem onFlt_set (f : FltSt → FltSt) : (onFlt f s).set = s.set := rfl
@[simp] theorem onFlt_jrn (f : FltSt → FltSt) : (onFlt f s).jrn = s.jrn := rfl
@[simp] theorem onFlt_out (f : FltSt → FltSt) : (onFlt f s).out = s.out := rfl
@[simp] theorem onFlt_mono (f : FltSt → FltSt) : (onFlt f s).mono = s.mono := rfl
@[simp] theorem onFlt_freeCtr (f : FltSt → FltSt) : (onFlt f s).freeCtr = s.freeCtr := rfl

@[simp] theorem onEnv_pending (f : EnvSt → EnvSt) : (onEnv f s).pending = s.pending := rfl
@[simp] theorem onEnv_id (f : EnvSt → EnvSt) : (onEnv f s).id = s.id := rfl
@[simp] theorem onEnv_sys (f : EnvSt → EnvSt) : (onEnv f s).sys = s.sys := rfl
@[simp] theorem onEnv_cmd (f : EnvSt → EnvSt) : (onEnv f s).cmd = s.cmd := rfl
@[simp] theorem onEnv_host (f : EnvSt → EnvSt) : (onEnv f s).host = s.host := rfl
@[simp] theorem onEnv_flt (f : EnvSt → EnvSt) : (onEnv f s).flt = s.flt := rfl
@[simp] theorem onEnv_env (f : EnvSt → EnvSt) : (onEnv f s).env = f s.env := rfl
@[simp] theorem onEnv_net (f : EnvSt → EnvSt) : (onEnv f s).net = s.net := rfl
@[simp] theorem onEnv_core (f : EnvSt → EnvSt) : (onEnv f s).core = s.core := rfl
@[simp] theorem onEnv_tile (f : EnvSt → EnvSt) : (onEnv f s).tile = s.tile := rfl
@[simp] theorem onEnv_mem (f : EnvSt → EnvSt) : (onEnv f s).mem = s.mem := rfl
@[simp] theorem onEnv_time (f : EnvSt → EnvSt) : (onEnv f s).time = s.time := rfl
@[simp] theorem onEnv_sched (f : EnvSt → EnvSt) : (onEnv f s).sched = s.sched := rfl
@[simp] theorem onEnv_snap (f : EnvSt → EnvSt) : (onEnv f s).snap = s.snap := rfl
@[simp] theorem onEnv_flash (f : EnvSt → EnvSt) : (onEnv f s).flash = s.flash := rfl
@[simp] theorem onEnv_gemel (f : EnvSt → EnvSt) : (onEnv f s).gemel = s.gemel := rfl
@[simp] theorem onEnv_set (f : EnvSt → EnvSt) : (onEnv f s).set = s.set := rfl
@[simp] theorem onEnv_jrn (f : EnvSt → EnvSt) : (onEnv f s).jrn = s.jrn := rfl
@[simp] theorem onEnv_out (f : EnvSt → EnvSt) : (onEnv f s).out = s.out := rfl
@[simp] theorem onEnv_mono (f : EnvSt → EnvSt) : (onEnv f s).mono = s.mono := rfl
@[simp] theorem onEnv_freeCtr (f : EnvSt → EnvSt) : (onEnv f s).freeCtr = s.freeCtr := rfl

@[simp] theorem onNet_pending (f : NetSt → NetSt) : (onNet f s).pending = s.pending := rfl
@[simp] theorem onNet_id (f : NetSt → NetSt) : (onNet f s).id = s.id := rfl
@[simp] theorem onNet_sys (f : NetSt → NetSt) : (onNet f s).sys = s.sys := rfl
@[simp] theorem onNet_cmd (f : NetSt → NetSt) : (onNet f s).cmd = s.cmd := rfl
@[simp] theorem onNet_host (f : NetSt → NetSt) : (onNet f s).host = s.host := rfl
@[simp] theorem onNet_flt (f : NetSt → NetSt) : (onNet f s).flt = s.flt := rfl
@[simp] theorem onNet_env (f : NetSt → NetSt) : (onNet f s).env = s.env := rfl
@[simp] theorem onNet_net (f : NetSt → NetSt) : (onNet f s).net = f s.net := rfl
@[simp] theorem onNet_core (f : NetSt → NetSt) : (onNet f s).core = s.core := rfl
@[simp] theorem onNet_tile (f : NetSt → NetSt) : (onNet f s).tile = s.tile := rfl
@[simp] theorem onNet_mem (f : NetSt → NetSt) : (onNet f s).mem = s.mem := rfl
@[simp] theorem onNet_time (f : NetSt → NetSt) : (onNet f s).time = s.time := rfl
@[simp] theorem onNet_sched (f : NetSt → NetSt) : (onNet f s).sched = s.sched := rfl
@[simp] theorem onNet_snap (f : NetSt → NetSt) : (onNet f s).snap = s.snap := rfl
@[simp] theorem onNet_flash (f : NetSt → NetSt) : (onNet f s).flash = s.flash := rfl
@[simp] theorem onNet_gemel (f : NetSt → NetSt) : (onNet f s).gemel = s.gemel := rfl
@[simp] theorem onNet_set (f : NetSt → NetSt) : (onNet f s).set = s.set := rfl
@[simp] theorem onNet_jrn (f : NetSt → NetSt) : (onNet f s).jrn = s.jrn := rfl
@[simp] theorem onNet_out (f : NetSt → NetSt) : (onNet f s).out = s.out := rfl
@[simp] theorem onNet_mono (f : NetSt → NetSt) : (onNet f s).mono = s.mono := rfl
@[simp] theorem onNet_freeCtr (f : NetSt → NetSt) : (onNet f s).freeCtr = s.freeCtr := rfl

@[simp] theorem onCore_pending (f : CoreSt → CoreSt) : (onCore f s).pending = s.pending := rfl
@[simp] theorem onCore_id (f : CoreSt → CoreSt) : (onCore f s).id = s.id := rfl
@[simp] theorem onCore_sys (f : CoreSt → CoreSt) : (onCore f s).sys = s.sys := rfl
@[simp] theorem onCore_cmd (f : CoreSt → CoreSt) : (onCore f s).cmd = s.cmd := rfl
@[simp] theorem onCore_host (f : CoreSt → CoreSt) : (onCore f s).host = s.host := rfl
@[simp] theorem onCore_flt (f : CoreSt → CoreSt) : (onCore f s).flt = s.flt := rfl
@[simp] theorem onCore_env (f : CoreSt → CoreSt) : (onCore f s).env = s.env := rfl
@[simp] theorem onCore_net (f : CoreSt → CoreSt) : (onCore f s).net = s.net := rfl
@[simp] theorem onCore_core (f : CoreSt → CoreSt) : (onCore f s).core = f s.core := rfl
@[simp] theorem onCore_tile (f : CoreSt → CoreSt) : (onCore f s).tile = s.tile := rfl
@[simp] theorem onCore_mem (f : CoreSt → CoreSt) : (onCore f s).mem = s.mem := rfl
@[simp] theorem onCore_time (f : CoreSt → CoreSt) : (onCore f s).time = s.time := rfl
@[simp] theorem onCore_sched (f : CoreSt → CoreSt) : (onCore f s).sched = s.sched := rfl
@[simp] theorem onCore_snap (f : CoreSt → CoreSt) : (onCore f s).snap = s.snap := rfl
@[simp] theorem onCore_flash (f : CoreSt → CoreSt) : (onCore f s).flash = s.flash := rfl
@[simp] theorem onCore_gemel (f : CoreSt → CoreSt) : (onCore f s).gemel = s.gemel := rfl
@[simp] theorem onCore_set (f : CoreSt → CoreSt) : (onCore f s).set = s.set := rfl
@[simp] theorem onCore_jrn (f : CoreSt → CoreSt) : (onCore f s).jrn = s.jrn := rfl
@[simp] theorem onCore_out (f : CoreSt → CoreSt) : (onCore f s).out = s.out := rfl
@[simp] theorem onCore_mono (f : CoreSt → CoreSt) : (onCore f s).mono = s.mono := rfl
@[simp] theorem onCore_freeCtr (f : CoreSt → CoreSt) : (onCore f s).freeCtr = s.freeCtr := rfl

@[simp] theorem onTile_pending (f : TileSt → TileSt) : (onTile f s).pending = s.pending := rfl
@[simp] theorem onTile_id (f : TileSt → TileSt) : (onTile f s).id = s.id := rfl
@[simp] theorem onTile_sys (f : TileSt → TileSt) : (onTile f s).sys = s.sys := rfl
@[simp] theorem onTile_cmd (f : TileSt → TileSt) : (onTile f s).cmd = s.cmd := rfl
@[simp] theorem onTile_host (f : TileSt → TileSt) : (onTile f s).host = s.host := rfl
@[simp] theorem onTile_flt (f : TileSt → TileSt) : (onTile f s).flt = s.flt := rfl
@[simp] theorem onTile_env (f : TileSt → TileSt) : (onTile f s).env = s.env := rfl
@[simp] theorem onTile_net (f : TileSt → TileSt) : (onTile f s).net = s.net := rfl
@[simp] theorem onTile_core (f : TileSt → TileSt) : (onTile f s).core = s.core := rfl
@[simp] theorem onTile_tile (f : TileSt → TileSt) : (onTile f s).tile = f s.tile := rfl
@[simp] theorem onTile_mem (f : TileSt → TileSt) : (onTile f s).mem = s.mem := rfl
@[simp] theorem onTile_time (f : TileSt → TileSt) : (onTile f s).time = s.time := rfl
@[simp] theorem onTile_sched (f : TileSt → TileSt) : (onTile f s).sched = s.sched := rfl
@[simp] theorem onTile_snap (f : TileSt → TileSt) : (onTile f s).snap = s.snap := rfl
@[simp] theorem onTile_flash (f : TileSt → TileSt) : (onTile f s).flash = s.flash := rfl
@[simp] theorem onTile_gemel (f : TileSt → TileSt) : (onTile f s).gemel = s.gemel := rfl
@[simp] theorem onTile_set (f : TileSt → TileSt) : (onTile f s).set = s.set := rfl
@[simp] theorem onTile_jrn (f : TileSt → TileSt) : (onTile f s).jrn = s.jrn := rfl
@[simp] theorem onTile_out (f : TileSt → TileSt) : (onTile f s).out = s.out := rfl
@[simp] theorem onTile_mono (f : TileSt → TileSt) : (onTile f s).mono = s.mono := rfl
@[simp] theorem onTile_freeCtr (f : TileSt → TileSt) : (onTile f s).freeCtr = s.freeCtr := rfl

@[simp] theorem onMem_pending (f : MemSt → MemSt) : (onMem f s).pending = s.pending := rfl
@[simp] theorem onMem_id (f : MemSt → MemSt) : (onMem f s).id = s.id := rfl
@[simp] theorem onMem_sys (f : MemSt → MemSt) : (onMem f s).sys = s.sys := rfl
@[simp] theorem onMem_cmd (f : MemSt → MemSt) : (onMem f s).cmd = s.cmd := rfl
@[simp] theorem onMem_host (f : MemSt → MemSt) : (onMem f s).host = s.host := rfl
@[simp] theorem onMem_flt (f : MemSt → MemSt) : (onMem f s).flt = s.flt := rfl
@[simp] theorem onMem_env (f : MemSt → MemSt) : (onMem f s).env = s.env := rfl
@[simp] theorem onMem_net (f : MemSt → MemSt) : (onMem f s).net = s.net := rfl
@[simp] theorem onMem_core (f : MemSt → MemSt) : (onMem f s).core = s.core := rfl
@[simp] theorem onMem_tile (f : MemSt → MemSt) : (onMem f s).tile = s.tile := rfl
@[simp] theorem onMem_mem (f : MemSt → MemSt) : (onMem f s).mem = f s.mem := rfl
@[simp] theorem onMem_time (f : MemSt → MemSt) : (onMem f s).time = s.time := rfl
@[simp] theorem onMem_sched (f : MemSt → MemSt) : (onMem f s).sched = s.sched := rfl
@[simp] theorem onMem_snap (f : MemSt → MemSt) : (onMem f s).snap = s.snap := rfl
@[simp] theorem onMem_flash (f : MemSt → MemSt) : (onMem f s).flash = s.flash := rfl
@[simp] theorem onMem_gemel (f : MemSt → MemSt) : (onMem f s).gemel = s.gemel := rfl
@[simp] theorem onMem_set (f : MemSt → MemSt) : (onMem f s).set = s.set := rfl
@[simp] theorem onMem_jrn (f : MemSt → MemSt) : (onMem f s).jrn = s.jrn := rfl
@[simp] theorem onMem_out (f : MemSt → MemSt) : (onMem f s).out = s.out := rfl
@[simp] theorem onMem_mono (f : MemSt → MemSt) : (onMem f s).mono = s.mono := rfl
@[simp] theorem onMem_freeCtr (f : MemSt → MemSt) : (onMem f s).freeCtr = s.freeCtr := rfl

@[simp] theorem onTime_pending (f : TimeSt → TimeSt) : (onTime f s).pending = s.pending := rfl
@[simp] theorem onTime_id (f : TimeSt → TimeSt) : (onTime f s).id = s.id := rfl
@[simp] theorem onTime_sys (f : TimeSt → TimeSt) : (onTime f s).sys = s.sys := rfl
@[simp] theorem onTime_cmd (f : TimeSt → TimeSt) : (onTime f s).cmd = s.cmd := rfl
@[simp] theorem onTime_host (f : TimeSt → TimeSt) : (onTime f s).host = s.host := rfl
@[simp] theorem onTime_flt (f : TimeSt → TimeSt) : (onTime f s).flt = s.flt := rfl
@[simp] theorem onTime_env (f : TimeSt → TimeSt) : (onTime f s).env = s.env := rfl
@[simp] theorem onTime_net (f : TimeSt → TimeSt) : (onTime f s).net = s.net := rfl
@[simp] theorem onTime_core (f : TimeSt → TimeSt) : (onTime f s).core = s.core := rfl
@[simp] theorem onTime_tile (f : TimeSt → TimeSt) : (onTime f s).tile = s.tile := rfl
@[simp] theorem onTime_mem (f : TimeSt → TimeSt) : (onTime f s).mem = s.mem := rfl
@[simp] theorem onTime_time (f : TimeSt → TimeSt) : (onTime f s).time = f s.time := rfl
@[simp] theorem onTime_sched (f : TimeSt → TimeSt) : (onTime f s).sched = s.sched := rfl
@[simp] theorem onTime_snap (f : TimeSt → TimeSt) : (onTime f s).snap = s.snap := rfl
@[simp] theorem onTime_flash (f : TimeSt → TimeSt) : (onTime f s).flash = s.flash := rfl
@[simp] theorem onTime_gemel (f : TimeSt → TimeSt) : (onTime f s).gemel = s.gemel := rfl
@[simp] theorem onTime_set (f : TimeSt → TimeSt) : (onTime f s).set = s.set := rfl
@[simp] theorem onTime_jrn (f : TimeSt → TimeSt) : (onTime f s).jrn = s.jrn := rfl
@[simp] theorem onTime_out (f : TimeSt → TimeSt) : (onTime f s).out = s.out := rfl
@[simp] theorem onTime_mono (f : TimeSt → TimeSt) : (onTime f s).mono = s.mono := rfl
@[simp] theorem onTime_freeCtr (f : TimeSt → TimeSt) : (onTime f s).freeCtr = s.freeCtr := rfl

@[simp] theorem onSched_pending (f : SchedSt → SchedSt) : (onSched f s).pending = s.pending := rfl
@[simp] theorem onSched_id (f : SchedSt → SchedSt) : (onSched f s).id = s.id := rfl
@[simp] theorem onSched_sys (f : SchedSt → SchedSt) : (onSched f s).sys = s.sys := rfl
@[simp] theorem onSched_cmd (f : SchedSt → SchedSt) : (onSched f s).cmd = s.cmd := rfl
@[simp] theorem onSched_host (f : SchedSt → SchedSt) : (onSched f s).host = s.host := rfl
@[simp] theorem onSched_flt (f : SchedSt → SchedSt) : (onSched f s).flt = s.flt := rfl
@[simp] theorem onSched_env (f : SchedSt → SchedSt) : (onSched f s).env = s.env := rfl
@[simp] theorem onSched_net (f : SchedSt → SchedSt) : (onSched f s).net = s.net := rfl
@[simp] theorem onSched_core (f : SchedSt → SchedSt) : (onSched f s).core = s.core := rfl
@[simp] theorem onSched_tile (f : SchedSt → SchedSt) : (onSched f s).tile = s.tile := rfl
@[simp] theorem onSched_mem (f : SchedSt → SchedSt) : (onSched f s).mem = s.mem := rfl
@[simp] theorem onSched_time (f : SchedSt → SchedSt) : (onSched f s).time = s.time := rfl
@[simp] theorem onSched_sched (f : SchedSt → SchedSt) : (onSched f s).sched = f s.sched := rfl
@[simp] theorem onSched_snap (f : SchedSt → SchedSt) : (onSched f s).snap = s.snap := rfl
@[simp] theorem onSched_flash (f : SchedSt → SchedSt) : (onSched f s).flash = s.flash := rfl
@[simp] theorem onSched_gemel (f : SchedSt → SchedSt) : (onSched f s).gemel = s.gemel := rfl
@[simp] theorem onSched_set (f : SchedSt → SchedSt) : (onSched f s).set = s.set := rfl
@[simp] theorem onSched_jrn (f : SchedSt → SchedSt) : (onSched f s).jrn = s.jrn := rfl
@[simp] theorem onSched_out (f : SchedSt → SchedSt) : (onSched f s).out = s.out := rfl
@[simp] theorem onSched_mono (f : SchedSt → SchedSt) : (onSched f s).mono = s.mono := rfl
@[simp] theorem onSched_freeCtr (f : SchedSt → SchedSt) : (onSched f s).freeCtr = s.freeCtr := rfl

@[simp] theorem onSnap_pending (f : SnapSt → SnapSt) : (onSnap f s).pending = s.pending := rfl
@[simp] theorem onSnap_id (f : SnapSt → SnapSt) : (onSnap f s).id = s.id := rfl
@[simp] theorem onSnap_sys (f : SnapSt → SnapSt) : (onSnap f s).sys = s.sys := rfl
@[simp] theorem onSnap_cmd (f : SnapSt → SnapSt) : (onSnap f s).cmd = s.cmd := rfl
@[simp] theorem onSnap_host (f : SnapSt → SnapSt) : (onSnap f s).host = s.host := rfl
@[simp] theorem onSnap_flt (f : SnapSt → SnapSt) : (onSnap f s).flt = s.flt := rfl
@[simp] theorem onSnap_env (f : SnapSt → SnapSt) : (onSnap f s).env = s.env := rfl
@[simp] theorem onSnap_net (f : SnapSt → SnapSt) : (onSnap f s).net = s.net := rfl
@[simp] theorem onSnap_core (f : SnapSt → SnapSt) : (onSnap f s).core = s.core := rfl
@[simp] theorem onSnap_tile (f : SnapSt → SnapSt) : (onSnap f s).tile = s.tile := rfl
@[simp] theorem onSnap_mem (f : SnapSt → SnapSt) : (onSnap f s).mem = s.mem := rfl
@[simp] theorem onSnap_time (f : SnapSt → SnapSt) : (onSnap f s).time = s.time := rfl
@[simp] theorem onSnap_sched (f : SnapSt → SnapSt) : (onSnap f s).sched = s.sched := rfl
@[simp] theorem onSnap_snap (f : SnapSt → SnapSt) : (onSnap f s).snap = f s.snap := rfl
@[simp] theorem onSnap_flash (f : SnapSt → SnapSt) : (onSnap f s).flash = s.flash := rfl
@[simp] theorem onSnap_gemel (f : SnapSt → SnapSt) : (onSnap f s).gemel = s.gemel := rfl
@[simp] theorem onSnap_set (f : SnapSt → SnapSt) : (onSnap f s).set = s.set := rfl
@[simp] theorem onSnap_jrn (f : SnapSt → SnapSt) : (onSnap f s).jrn = s.jrn := rfl
@[simp] theorem onSnap_out (f : SnapSt → SnapSt) : (onSnap f s).out = s.out := rfl
@[simp] theorem onSnap_mono (f : SnapSt → SnapSt) : (onSnap f s).mono = s.mono := rfl
@[simp] theorem onSnap_freeCtr (f : SnapSt → SnapSt) : (onSnap f s).freeCtr = s.freeCtr := rfl

@[simp] theorem onFlash_pending (f : FlashSt → FlashSt) : (onFlash f s).pending = s.pending := rfl
@[simp] theorem onFlash_id (f : FlashSt → FlashSt) : (onFlash f s).id = s.id := rfl
@[simp] theorem onFlash_sys (f : FlashSt → FlashSt) : (onFlash f s).sys = s.sys := rfl
@[simp] theorem onFlash_cmd (f : FlashSt → FlashSt) : (onFlash f s).cmd = s.cmd := rfl
@[simp] theorem onFlash_host (f : FlashSt → FlashSt) : (onFlash f s).host = s.host := rfl
@[simp] theorem onFlash_flt (f : FlashSt → FlashSt) : (onFlash f s).flt = s.flt := rfl
@[simp] theorem onFlash_env (f : FlashSt → FlashSt) : (onFlash f s).env = s.env := rfl
@[simp] theorem onFlash_net (f : FlashSt → FlashSt) : (onFlash f s).net = s.net := rfl
@[simp] theorem onFlash_core (f : FlashSt → FlashSt) : (onFlash f s).core = s.core := rfl
@[simp] theorem onFlash_tile (f : FlashSt → FlashSt) : (onFlash f s).tile = s.tile := rfl
@[simp] theorem onFlash_mem (f : FlashSt → FlashSt) : (onFlash f s).mem = s.mem := rfl
@[simp] theorem onFlash_time (f : FlashSt → FlashSt) : (onFlash f s).time = s.time := rfl
@[simp] theorem onFlash_sched (f : FlashSt → FlashSt) : (onFlash f s).sched = s.sched := rfl
@[simp] theorem onFlash_snap (f : FlashSt → FlashSt) : (onFlash f s).snap = s.snap := rfl
@[simp] theorem onFlash_flash (f : FlashSt → FlashSt) : (onFlash f s).flash = f s.flash := rfl
@[simp] theorem onFlash_gemel (f : FlashSt → FlashSt) : (onFlash f s).gemel = s.gemel := rfl
@[simp] theorem onFlash_set (f : FlashSt → FlashSt) : (onFlash f s).set = s.set := rfl
@[simp] theorem onFlash_jrn (f : FlashSt → FlashSt) : (onFlash f s).jrn = s.jrn := rfl
@[simp] theorem onFlash_out (f : FlashSt → FlashSt) : (onFlash f s).out = s.out := rfl
@[simp] theorem onFlash_mono (f : FlashSt → FlashSt) : (onFlash f s).mono = s.mono := rfl
@[simp] theorem onFlash_freeCtr (f : FlashSt → FlashSt) : (onFlash f s).freeCtr = s.freeCtr := rfl

@[simp] theorem onGemel_pending (f : GemelSt → GemelSt) : (onGemel f s).pending = s.pending := rfl
@[simp] theorem onGemel_id (f : GemelSt → GemelSt) : (onGemel f s).id = s.id := rfl
@[simp] theorem onGemel_sys (f : GemelSt → GemelSt) : (onGemel f s).sys = s.sys := rfl
@[simp] theorem onGemel_cmd (f : GemelSt → GemelSt) : (onGemel f s).cmd = s.cmd := rfl
@[simp] theorem onGemel_host (f : GemelSt → GemelSt) : (onGemel f s).host = s.host := rfl
@[simp] theorem onGemel_flt (f : GemelSt → GemelSt) : (onGemel f s).flt = s.flt := rfl
@[simp] theorem onGemel_env (f : GemelSt → GemelSt) : (onGemel f s).env = s.env := rfl
@[simp] theorem onGemel_net (f : GemelSt → GemelSt) : (onGemel f s).net = s.net := rfl
@[simp] theorem onGemel_core (f : GemelSt → GemelSt) : (onGemel f s).core = s.core := rfl
@[simp] theorem onGemel_tile (f : GemelSt → GemelSt) : (onGemel f s).tile = s.tile := rfl
@[simp] theorem onGemel_mem (f : GemelSt → GemelSt) : (onGemel f s).mem = s.mem := rfl
@[simp] theorem onGemel_time (f : GemelSt → GemelSt) : (onGemel f s).time = s.time := rfl
@[simp] theorem onGemel_sched (f : GemelSt → GemelSt) : (onGemel f s).sched = s.sched := rfl
@[simp] theorem onGemel_snap (f : GemelSt → GemelSt) : (onGemel f s).snap = s.snap := rfl
@[simp] theorem onGemel_flash (f : GemelSt → GemelSt) : (onGemel f s).flash = s.flash := rfl
@[simp] theorem onGemel_gemel (f : GemelSt → GemelSt) : (onGemel f s).gemel = f s.gemel := rfl
@[simp] theorem onGemel_set (f : GemelSt → GemelSt) : (onGemel f s).set = s.set := rfl
@[simp] theorem onGemel_jrn (f : GemelSt → GemelSt) : (onGemel f s).jrn = s.jrn := rfl
@[simp] theorem onGemel_out (f : GemelSt → GemelSt) : (onGemel f s).out = s.out := rfl
@[simp] theorem onGemel_mono (f : GemelSt → GemelSt) : (onGemel f s).mono = s.mono := rfl
@[simp] theorem onGemel_freeCtr (f : GemelSt → GemelSt) : (onGemel f s).freeCtr = s.freeCtr := rfl

@[simp] theorem onSet_pending (f : Settings → Settings) : (onSet f s).pending = s.pending := rfl
@[simp] theorem onSet_id (f : Settings → Settings) : (onSet f s).id = s.id := rfl
@[simp] theorem onSet_sys (f : Settings → Settings) : (onSet f s).sys = s.sys := rfl
@[simp] theorem onSet_cmd (f : Settings → Settings) : (onSet f s).cmd = s.cmd := rfl
@[simp] theorem onSet_host (f : Settings → Settings) : (onSet f s).host = s.host := rfl
@[simp] theorem onSet_flt (f : Settings → Settings) : (onSet f s).flt = s.flt := rfl
@[simp] theorem onSet_env (f : Settings → Settings) : (onSet f s).env = s.env := rfl
@[simp] theorem onSet_net (f : Settings → Settings) : (onSet f s).net = s.net := rfl
@[simp] theorem onSet_core (f : Settings → Settings) : (onSet f s).core = s.core := rfl
@[simp] theorem onSet_tile (f : Settings → Settings) : (onSet f s).tile = s.tile := rfl
@[simp] theorem onSet_mem (f : Settings → Settings) : (onSet f s).mem = s.mem := rfl
@[simp] theorem onSet_time (f : Settings → Settings) : (onSet f s).time = s.time := rfl
@[simp] theorem onSet_sched (f : Settings → Settings) : (onSet f s).sched = s.sched := rfl
@[simp] theorem onSet_snap (f : Settings → Settings) : (onSet f s).snap = s.snap := rfl
@[simp] theorem onSet_flash (f : Settings → Settings) : (onSet f s).flash = s.flash := rfl
@[simp] theorem onSet_gemel (f : Settings → Settings) : (onSet f s).gemel = s.gemel := rfl
@[simp] theorem onSet_set (f : Settings → Settings) : (onSet f s).set = f s.set := rfl
@[simp] theorem onSet_jrn (f : Settings → Settings) : (onSet f s).jrn = s.jrn := rfl
@[simp] theorem onSet_out (f : Settings → Settings) : (onSet f s).out = s.out := rfl
@[simp] theorem onSet_mono (f : Settings → Settings) : (onSet f s).mono = s.mono := rfl
@[simp] theorem onSet_freeCtr (f : Settings → Settings) : (onSet f s).freeCtr = s.freeCtr := rfl

@[simp] theorem onJrn_pending (f : Settings → Settings) : (onJrn f s).pending = s.pending := rfl
@[simp] theorem onJrn_id (f : Settings → Settings) : (onJrn f s).id = s.id := rfl
@[simp] theorem onJrn_sys (f : Settings → Settings) : (onJrn f s).sys = s.sys := rfl
@[simp] theorem onJrn_cmd (f : Settings → Settings) : (onJrn f s).cmd = s.cmd := rfl
@[simp] theorem onJrn_host (f : Settings → Settings) : (onJrn f s).host = s.host := rfl
@[simp] theorem onJrn_flt (f : Settings → Settings) : (onJrn f s).flt = s.flt := rfl
@[simp] theorem onJrn_env (f : Settings → Settings) : (onJrn f s).env = s.env := rfl
@[simp] theorem onJrn_net (f : Settings → Settings) : (onJrn f s).net = s.net := rfl
@[simp] theorem onJrn_core (f : Settings → Settings) : (onJrn f s).core = s.core := rfl
@[simp] theorem onJrn_tile (f : Settings → Settings) : (onJrn f s).tile = s.tile := rfl
@[simp] theorem onJrn_mem (f : Settings → Settings) : (onJrn f s).mem = s.mem := rfl
@[simp] theorem onJrn_time (f : Settings → Settings) : (onJrn f s).time = s.time := rfl
@[simp] theorem onJrn_sched (f : Settings → Settings) : (onJrn f s).sched = s.sched := rfl
@[simp] theorem onJrn_snap (f : Settings → Settings) : (onJrn f s).snap = s.snap := rfl
@[simp] theorem onJrn_flash (f : Settings → Settings) : (onJrn f s).flash = s.flash := rfl
@[simp] theorem onJrn_gemel (f : Settings → Settings) : (onJrn f s).gemel = s.gemel := rfl
@[simp] theorem onJrn_set (f : Settings → Settings) : (onJrn f s).set = s.set := rfl
@[simp] theorem onJrn_jrn (f : Settings → Settings) : (onJrn f s).jrn = f s.jrn := rfl
@[simp] theorem onJrn_out (f : Settings → Settings) : (onJrn f s).out = s.out := rfl
@[simp] theorem onJrn_mono (f : Settings → Settings) : (onJrn f s).mono = s.mono := rfl
@[simp] theorem onJrn_freeCtr (f : Settings → Settings) : (onJrn f s).freeCtr = s.freeCtr := rfl

@[simp] theorem modSet_pending (f : Settings → Settings) : (modSet f s).pending = s.pending := rfl
@[simp] theorem modSet_id (f : Settings → Settings) : (modSet f s).id = s.id := rfl
@[simp] theorem modSet_sys (f : Settings → Settings) : (modSet f s).sys = s.sys := rfl
@[simp] theorem modSet_cmd (f : Settings → Settings) : (modSet f s).cmd = s.cmd := rfl
@[simp] theorem modSet_host (f : Settings → Settings) : (modSet f s).host = s.host := rfl
@[simp] theorem modSet_flt (f : Settings → Settings) : (modSet f s).flt = s.flt := rfl
@[simp] theorem modSet_env (f : Settings → Settings) : (modSet f s).env = s.env := rfl
@[simp] theorem modSet_net (f : Settings → Settings) : (modSet f s).net = s.net := rfl
@[simp] theorem modSet_core (f : Settings → Settings) : (modSet f s).core = s.core := rfl
@[simp] theorem modSet_tile (f : Settings → Settings) : (modSet f s).tile = s.tile := rfl
@[simp] theorem modSet_mem (f : Settings → Settings) : (modSet f s).mem = s.mem := rfl
@[simp] theorem modSet_time (f : Settings → Settings) : (modSet f s).time = s.time := rfl
@[simp] theorem modSet_sched (f : Settings → Settings) : (modSet f s).sched = s.sched := rfl
@[simp] theorem modSet_snap (f : Settings → Settings) : (modSet f s).snap = s.snap := rfl
@[simp] theorem modSet_flash (f : Settings → Settings) : (modSet f s).flash = s.flash := rfl
@[simp] theorem modSet_gemel (f : Settings → Settings) : (modSet f s).gemel = s.gemel := rfl
@[simp] theorem modSet_set (f : Settings → Settings) : (modSet f s).set = f s.set := rfl
@[simp] theorem modSet_jrn (f : Settings → Settings) : (modSet f s).jrn = f s.jrn := rfl
@[simp] theorem modSet_out (f : Settings → Settings) : (modSet f s).out = s.out := rfl
@[simp] theorem modSet_mono (f : Settings → Settings) : (modSet f s).mono = s.mono := rfl
@[simp] theorem modSet_freeCtr (f : Settings → Settings) : (modSet f s).freeCtr = s.freeCtr := rfl

@[simp] theorem emit_pending (o : Out) : (emit o s).pending = s.pending := rfl
@[simp] theorem irq_pending (v : Nat) : (irq v s).pending = s.pending := rfl
@[simp] theorem emit_id (o : Out) : (emit o s).id = s.id := rfl
@[simp] theorem irq_id (v : Nat) : (irq v s).id = s.id := rfl
@[simp] theorem emit_sys (o : Out) : (emit o s).sys = s.sys := rfl
@[simp] theorem irq_sys (v : Nat) : (irq v s).sys = s.sys := rfl
@[simp] theorem emit_cmd (o : Out) : (emit o s).cmd = s.cmd := rfl
@[simp] theorem irq_cmd (v : Nat) : (irq v s).cmd = s.cmd := rfl
@[simp] theorem emit_host (o : Out) : (emit o s).host = s.host := rfl
@[simp] theorem irq_host (v : Nat) : (irq v s).host = s.host := rfl
@[simp] theorem emit_flt (o : Out) : (emit o s).flt = s.flt := rfl
@[simp] theorem irq_flt (v : Nat) : (irq v s).flt = s.flt := rfl
@[simp] theorem emit_env (o : Out) : (emit o s).env = s.env := rfl
@[simp] theorem irq_env (v : Nat) : (irq v s).env = s.env := rfl
@[simp] theorem emit_net (o : Out) : (emit o s).net = s.net := rfl
@[simp] theorem irq_net (v : Nat) : (irq v s).net = s.net := rfl
@[simp] theorem emit_core (o : Out) : (emit o s).core = s.core := rfl
@[simp] theorem irq_core (v : Nat) : (irq v s).core = s.core := rfl
@[simp] theorem emit_tile (o : Out) : (emit o s).tile = s.tile := rfl
@[simp] theorem irq_tile (v : Nat) : (irq v s).tile = s.tile := rfl
@[simp] theorem emit_mem (o : Out) : (emit o s).mem = s.mem := rfl
@[simp] theorem irq_mem (v : Nat) : (irq v s).mem = s.mem := rfl
@[simp] theorem emit_time (o : Out) : (emit o s).time = s.time := rfl
@[simp] theorem irq_time (v : Nat) : (irq v s).time = s.time := rfl
@[simp] theorem emit_sched (o : Out) : (emit o s).sched = s.sched := rfl
@[simp] theorem irq_sched (v : Nat) : (irq v s).sched = s.sched := rfl
@[simp] theorem emit_snap (o : Out) : (emit o s).snap = s.snap := rfl
@[simp] theorem irq_snap (v : Nat) : (irq v s).snap = s.snap := rfl
@[simp] theorem emit_flash (o : Out) : (emit o s).flash = s.flash := rfl
@[simp] theorem irq_flash (v : Nat) : (irq v s).flash = s.flash := rfl
@[simp] theorem emit_gemel (o : Out) : (emit o s).gemel = s.gemel := rfl
@[simp] theorem irq_gemel (v : Nat) : (irq v s).gemel = s.gemel := rfl
@[simp] theorem emit_set (o : Out) : (emit o s).set = s.set := rfl
@[simp] theorem irq_set (v : Nat) : (irq v s).set = s.set := rfl
@[simp] theorem emit_jrn (o : Out) : (emit o s).jrn = s.jrn := rfl
@[simp] theorem irq_jrn (v : Nat) : (irq v s).jrn = s.jrn := rfl
@[simp] theorem emit_out (o : Out) : (emit o s).out = s.out ++ [o] := rfl
@[simp] theorem irq_out (v : Nat) : (irq v s).out = s.out ++ [.irq v] := rfl
@[simp] theorem emit_mono (o : Out) : (emit o s).mono = s.mono := rfl
@[simp] theorem irq_mono (v : Nat) : (irq v s).mono = s.mono := rfl
@[simp] theorem emit_freeCtr (o : Out) : (emit o s).freeCtr = s.freeCtr := rfl
@[simp] theorem irq_freeCtr (v : Nat) : (irq v s).freeCtr = s.freeCtr := rfl

@[simp] theorem onLane_pending (l : Nat) (f : Lane → Lane) : (onLane l f s).pending = s.pending := rfl
@[simp] theorem onLane_id (l : Nat) (f : Lane → Lane) : (onLane l f s).id = s.id := rfl
@[simp] theorem onLane_sys (l : Nat) (f : Lane → Lane) : (onLane l f s).sys = s.sys := rfl
@[simp] theorem onLane_cmd (l : Nat) (f : Lane → Lane) : (onLane l f s).cmd = s.cmd := rfl
@[simp] theorem onLane_host (l : Nat) (f : Lane → Lane) : (onLane l f s).host = s.host := rfl
@[simp] theorem onLane_flt (l : Nat) (f : Lane → Lane) : (onLane l f s).flt = s.flt := rfl
@[simp] theorem onLane_env (l : Nat) (f : Lane → Lane) : (onLane l f s).env = s.env := rfl
@[simp] theorem onLane_core (l : Nat) (f : Lane → Lane) : (onLane l f s).core = s.core := rfl
@[simp] theorem onLane_tile (l : Nat) (f : Lane → Lane) : (onLane l f s).tile = s.tile := rfl
@[simp] theorem onLane_mem (l : Nat) (f : Lane → Lane) : (onLane l f s).mem = s.mem := rfl
@[simp] theorem onLane_time (l : Nat) (f : Lane → Lane) : (onLane l f s).time = s.time := rfl
@[simp] theorem onLane_sched (l : Nat) (f : Lane → Lane) : (onLane l f s).sched = s.sched := rfl
@[simp] theorem onLane_snap (l : Nat) (f : Lane → Lane) : (onLane l f s).snap = s.snap := rfl
@[simp] theorem onLane_flash (l : Nat) (f : Lane → Lane) : (onLane l f s).flash = s.flash := rfl
@[simp] theorem onLane_gemel (l : Nat) (f : Lane → Lane) : (onLane l f s).gemel = s.gemel := rfl
@[simp] theorem onLane_set (l : Nat) (f : Lane → Lane) : (onLane l f s).set = s.set := rfl
@[simp] theorem onLane_jrn (l : Nat) (f : Lane → Lane) : (onLane l f s).jrn = s.jrn := rfl
@[simp] theorem onLane_out (l : Nat) (f : Lane → Lane) : (onLane l f s).out = s.out := rfl
@[simp] theorem onLane_mono (l : Nat) (f : Lane → Lane) : (onLane l f s).mono = s.mono := rfl
@[simp] theorem onLane_freeCtr (l : Nat) (f : Lane → Lane) : (onLane l f s).freeCtr = s.freeCtr := rfl

@[simp] theorem onLink_pending (l : Nat) (f : Link → Link) : (onLink l f s).pending = s.pending := rfl
@[simp] theorem onLink_id (l : Nat) (f : Link → Link) : (onLink l f s).id = s.id := rfl
@[simp] theorem onLink_sys (l : Nat) (f : Link → Link) : (onLink l f s).sys = s.sys := rfl
@[simp] theorem onLink_cmd (l : Nat) (f : Link → Link) : (onLink l f s).cmd = s.cmd := rfl
@[simp] theorem onLink_host (l : Nat) (f : Link → Link) : (onLink l f s).host = s.host := rfl
@[simp] theorem onLink_flt (l : Nat) (f : Link → Link) : (onLink l f s).flt = s.flt := rfl
@[simp] theorem onLink_env (l : Nat) (f : Link → Link) : (onLink l f s).env = s.env := rfl
@[simp] theorem onLink_core (l : Nat) (f : Link → Link) : (onLink l f s).core = s.core := rfl
@[simp] theorem onLink_tile (l : Nat) (f : Link → Link) : (onLink l f s).tile = s.tile := rfl
@[simp] theorem onLink_mem (l : Nat) (f : Link → Link) : (onLink l f s).mem = s.mem := rfl
@[simp] theorem onLink_time (l : Nat) (f : Link → Link) : (onLink l f s).time = s.time := rfl
@[simp] theorem onLink_sched (l : Nat) (f : Link → Link) : (onLink l f s).sched = s.sched := rfl
@[simp] theorem onLink_snap (l : Nat) (f : Link → Link) : (onLink l f s).snap = s.snap := rfl
@[simp] theorem onLink_flash (l : Nat) (f : Link → Link) : (onLink l f s).flash = s.flash := rfl
@[simp] theorem onLink_gemel (l : Nat) (f : Link → Link) : (onLink l f s).gemel = s.gemel := rfl
@[simp] theorem onLink_set (l : Nat) (f : Link → Link) : (onLink l f s).set = s.set := rfl
@[simp] theorem onLink_jrn (l : Nat) (f : Link → Link) : (onLink l f s).jrn = s.jrn := rfl
@[simp] theorem onLink_out (l : Nat) (f : Link → Link) : (onLink l f s).out = s.out := rfl
@[simp] theorem onLink_mono (l : Nat) (f : Link → Link) : (onLink l f s).mono = s.mono := rfl
@[simp] theorem onLink_freeCtr (l : Nat) (f : Link → Link) : (onLink l f s).freeCtr = s.freeCtr := rfl

@[simp] theorem onPort_pending (p : Nat) (f : PortCfg → PortCfg) : (onPort p f s).pending = s.pending := rfl
@[simp] theorem onPort_id (p : Nat) (f : PortCfg → PortCfg) : (onPort p f s).id = s.id := rfl
@[simp] theorem onPort_sys (p : Nat) (f : PortCfg → PortCfg) : (onPort p f s).sys = s.sys := rfl
@[simp] theorem onPort_cmd (p : Nat) (f : PortCfg → PortCfg) : (onPort p f s).cmd = s.cmd := rfl
@[simp] theorem onPort_host (p : Nat) (f : PortCfg → PortCfg) : (onPort p f s).host = s.host := rfl
@[simp] theorem onPort_flt (p : Nat) (f : PortCfg → PortCfg) : (onPort p f s).flt = s.flt := rfl
@[simp] theorem onPort_env (p : Nat) (f : PortCfg → PortCfg) : (onPort p f s).env = s.env := rfl
@[simp] theorem onPort_net (p : Nat) (f : PortCfg → PortCfg) : (onPort p f s).net = s.net := rfl
@[simp] theorem onPort_core (p : Nat) (f : PortCfg → PortCfg) : (onPort p f s).core = s.core := rfl
@[simp] theorem onPort_tile (p : Nat) (f : PortCfg → PortCfg) : (onPort p f s).tile = s.tile := rfl
@[simp] theorem onPort_mem (p : Nat) (f : PortCfg → PortCfg) : (onPort p f s).mem = s.mem := rfl
@[simp] theorem onPort_time (p : Nat) (f : PortCfg → PortCfg) : (onPort p f s).time = s.time := rfl
@[simp] theorem onPort_sched (p : Nat) (f : PortCfg → PortCfg) : (onPort p f s).sched = s.sched := rfl
@[simp] theorem onPort_snap (p : Nat) (f : PortCfg → PortCfg) : (onPort p f s).snap = s.snap := rfl
@[simp] theorem onPort_flash (p : Nat) (f : PortCfg → PortCfg) : (onPort p f s).flash = s.flash := rfl
@[simp] theorem onPort_gemel (p : Nat) (f : PortCfg → PortCfg) : (onPort p f s).gemel = s.gemel := rfl
@[simp] theorem onPort_out (p : Nat) (f : PortCfg → PortCfg) : (onPort p f s).out = s.out := rfl
@[simp] theorem onPort_mono (p : Nat) (f : PortCfg → PortCfg) : (onPort p f s).mono = s.mono := rfl
@[simp] theorem onPort_freeCtr (p : Nat) (f : PortCfg → PortCfg) : (onPort p f s).freeCtr = s.freeCtr := rfl

@[simp] theorem onTileU_pending (t : Nat) (f : Tile → Tile) : (onTileU t f s).pending = s.pending := rfl
@[simp] theorem onTileU_id (t : Nat) (f : Tile → Tile) : (onTileU t f s).id = s.id := rfl
@[simp] theorem onTileU_sys (t : Nat) (f : Tile → Tile) : (onTileU t f s).sys = s.sys := rfl
@[simp] theorem onTileU_cmd (t : Nat) (f : Tile → Tile) : (onTileU t f s).cmd = s.cmd := rfl
@[simp] theorem onTileU_host (t : Nat) (f : Tile → Tile) : (onTileU t f s).host = s.host := rfl
@[simp] theorem onTileU_flt (t : Nat) (f : Tile → Tile) : (onTileU t f s).flt = s.flt := rfl
@[simp] theorem onTileU_env (t : Nat) (f : Tile → Tile) : (onTileU t f s).env = s.env := rfl
@[simp] theorem onTileU_net (t : Nat) (f : Tile → Tile) : (onTileU t f s).net = s.net := rfl
@[simp] theorem onTileU_core (t : Nat) (f : Tile → Tile) : (onTileU t f s).core = s.core := rfl
@[simp] theorem onTileU_mem (t : Nat) (f : Tile → Tile) : (onTileU t f s).mem = s.mem := rfl
@[simp] theorem onTileU_time (t : Nat) (f : Tile → Tile) : (onTileU t f s).time = s.time := rfl
@[simp] theorem onTileU_sched (t : Nat) (f : Tile → Tile) : (onTileU t f s).sched = s.sched := rfl
@[simp] theorem onTileU_snap (t : Nat) (f : Tile → Tile) : (onTileU t f s).snap = s.snap := rfl
@[simp] theorem onTileU_flash (t : Nat) (f : Tile → Tile) : (onTileU t f s).flash = s.flash := rfl
@[simp] theorem onTileU_gemel (t : Nat) (f : Tile → Tile) : (onTileU t f s).gemel = s.gemel := rfl
@[simp] theorem onTileU_set (t : Nat) (f : Tile → Tile) : (onTileU t f s).set = s.set := rfl
@[simp] theorem onTileU_jrn (t : Nat) (f : Tile → Tile) : (onTileU t f s).jrn = s.jrn := rfl
@[simp] theorem onTileU_out (t : Nat) (f : Tile → Tile) : (onTileU t f s).out = s.out := rfl
@[simp] theorem onTileU_mono (t : Nat) (f : Tile → Tile) : (onTileU t f s).mono = s.mono := rfl
@[simp] theorem onTileU_freeCtr (t : Nat) (f : Tile → Tile) : (onTileU t f s).freeCtr = s.freeCtr := rfl

@[simp] theorem onSrc_pending (k : Nat) (f : Source → Source) : (onSrc k f s).pending = s.pending := rfl
@[simp] theorem onSrc_id (k : Nat) (f : Source → Source) : (onSrc k f s).id = s.id := rfl
@[simp] theorem onSrc_sys (k : Nat) (f : Source → Source) : (onSrc k f s).sys = s.sys := rfl
@[simp] theorem onSrc_cmd (k : Nat) (f : Source → Source) : (onSrc k f s).cmd = s.cmd := rfl
@[simp] theorem onSrc_host (k : Nat) (f : Source → Source) : (onSrc k f s).host = s.host := rfl
@[simp] theorem onSrc_env (k : Nat) (f : Source → Source) : (onSrc k f s).env = s.env := rfl
@[simp] theorem onSrc_net (k : Nat) (f : Source → Source) : (onSrc k f s).net = s.net := rfl
@[simp] theorem onSrc_core (k : Nat) (f : Source → Source) : (onSrc k f s).core = s.core := rfl
@[simp] theorem onSrc_tile (k : Nat) (f : Source → Source) : (onSrc k f s).tile = s.tile := rfl
@[simp] theorem onSrc_mem (k : Nat) (f : Source → Source) : (onSrc k f s).mem = s.mem := rfl
@[simp] theorem onSrc_time (k : Nat) (f : Source → Source) : (onSrc k f s).time = s.time := rfl
@[simp] theorem onSrc_sched (k : Nat) (f : Source → Source) : (onSrc k f s).sched = s.sched := rfl
@[simp] theorem onSrc_snap (k : Nat) (f : Source → Source) : (onSrc k f s).snap = s.snap := rfl
@[simp] theorem onSrc_flash (k : Nat) (f : Source → Source) : (onSrc k f s).flash = s.flash := rfl
@[simp] theorem onSrc_gemel (k : Nat) (f : Source → Source) : (onSrc k f s).gemel = s.gemel := rfl
@[simp] theorem onSrc_set (k : Nat) (f : Source → Source) : (onSrc k f s).set = s.set := rfl
@[simp] theorem onSrc_jrn (k : Nat) (f : Source → Source) : (onSrc k f s).jrn = s.jrn := rfl
@[simp] theorem onSrc_out (k : Nat) (f : Source → Source) : (onSrc k f s).out = s.out := rfl
@[simp] theorem onSrc_mono (k : Nat) (f : Source → Source) : (onSrc k f s).mono = s.mono := rfl
@[simp] theorem onSrc_freeCtr (k : Nat) (f : Source → Source) : (onSrc k f s).freeCtr = s.freeCtr := rfl

@[simp] theorem onRing_pending (r : Nat) (f : Ring → Ring) : (onRing r f s).pending = s.pending := rfl
@[simp] theorem onRing_id (r : Nat) (f : Ring → Ring) : (onRing r f s).id = s.id := rfl
@[simp] theorem onRing_sys (r : Nat) (f : Ring → Ring) : (onRing r f s).sys = s.sys := rfl
@[simp] theorem onRing_host (r : Nat) (f : Ring → Ring) : (onRing r f s).host = s.host := rfl
@[simp] theorem onRing_flt (r : Nat) (f : Ring → Ring) : (onRing r f s).flt = s.flt := rfl
@[simp] theorem onRing_env (r : Nat) (f : Ring → Ring) : (onRing r f s).env = s.env := rfl
@[simp] theorem onRing_net (r : Nat) (f : Ring → Ring) : (onRing r f s).net = s.net := rfl
@[simp] theorem onRing_core (r : Nat) (f : Ring → Ring) : (onRing r f s).core = s.core := rfl
@[simp] theorem onRing_tile (r : Nat) (f : Ring → Ring) : (onRing r f s).tile = s.tile := rfl
@[simp] theorem onRing_mem (r : Nat) (f : Ring → Ring) : (onRing r f s).mem = s.mem := rfl
@[simp] theorem onRing_time (r : Nat) (f : Ring → Ring) : (onRing r f s).time = s.time := rfl
@[simp] theorem onRing_sched (r : Nat) (f : Ring → Ring) : (onRing r f s).sched = s.sched := rfl
@[simp] theorem onRing_snap (r : Nat) (f : Ring → Ring) : (onRing r f s).snap = s.snap := rfl
@[simp] theorem onRing_flash (r : Nat) (f : Ring → Ring) : (onRing r f s).flash = s.flash := rfl
@[simp] theorem onRing_gemel (r : Nat) (f : Ring → Ring) : (onRing r f s).gemel = s.gemel := rfl
@[simp] theorem onRing_set (r : Nat) (f : Ring → Ring) : (onRing r f s).set = s.set := rfl
@[simp] theorem onRing_jrn (r : Nat) (f : Ring → Ring) : (onRing r f s).jrn = s.jrn := rfl
@[simp] theorem onRing_out (r : Nat) (f : Ring → Ring) : (onRing r f s).out = s.out := rfl
@[simp] theorem onRing_mono (r : Nat) (f : Ring → Ring) : (onRing r f s).mono = s.mono := rfl
@[simp] theorem onRing_freeCtr (r : Nat) (f : Ring → Ring) : (onRing r f s).freeCtr = s.freeCtr := rfl

@[simp] theorem evrInt_pending  : (evrInt  s).pending = s.pending := by
  simp only [evrInt, whenS]; split <;> simp
@[simp] theorem evrInt_id  : (evrInt  s).id = s.id := by
  simp only [evrInt, whenS]; split <;> simp
@[simp] theorem evrInt_sys  : (evrInt  s).sys = s.sys := by
  simp only [evrInt, whenS]; split <;> simp
@[simp] theorem evrInt_cmd  : (evrInt  s).cmd = s.cmd := by
  simp only [evrInt, whenS]; split <;> simp
@[simp] theorem evrInt_host  : (evrInt  s).host = s.host := by
  simp only [evrInt, whenS]; split <;> simp
@[simp] theorem evrInt_env  : (evrInt  s).env = s.env := by
  simp only [evrInt, whenS]; split <;> simp
@[simp] theorem evrInt_net  : (evrInt  s).net = s.net := by
  simp only [evrInt, whenS]; split <;> simp
@[simp] theorem evrInt_core  : (evrInt  s).core = s.core := by
  simp only [evrInt, whenS]; split <;> simp
@[simp] theorem evrInt_tile  : (evrInt  s).tile = s.tile := by
  simp only [evrInt, whenS]; split <;> simp
@[simp] theorem evrInt_mem  : (evrInt  s).mem = s.mem := by
  simp only [evrInt, whenS]; split <;> simp
@[simp] theorem evrInt_time  : (evrInt  s).time = s.time := by
  simp only [evrInt, whenS]; split <;> simp
@[simp] theorem evrInt_sched  : (evrInt  s).sched = s.sched := by
  simp only [evrInt, whenS]; split <;> simp
@[simp] theorem evrInt_snap  : (evrInt  s).snap = s.snap := by
  simp only [evrInt, whenS]; split <;> simp
@[simp] theorem evrInt_flash  : (evrInt  s).flash = s.flash := by
  simp only [evrInt, whenS]; split <;> simp
@[simp] theorem evrInt_gemel  : (evrInt  s).gemel = s.gemel := by
  simp only [evrInt, whenS]; split <;> simp
@[simp] theorem evrInt_set  : (evrInt  s).set = s.set := by
  simp only [evrInt, whenS]; split <;> simp
@[simp] theorem evrInt_jrn  : (evrInt  s).jrn = s.jrn := by
  simp only [evrInt, whenS]; split <;> simp
@[simp] theorem evrInt_mono  : (evrInt  s).mono = s.mono := by
  simp only [evrInt, whenS]; split <;> simp
@[simp] theorem evrInt_freeCtr  : (evrInt  s).freeCtr = s.freeCtr := by
  simp only [evrInt, whenS]; split <;> simp

@[simp] theorem evrDrop_pending (c : Nat) : (evrDrop c s).pending = s.pending := by
  simp [evrDrop]
@[simp] theorem evrDrop_id (c : Nat) : (evrDrop c s).id = s.id := by
  simp [evrDrop]
@[simp] theorem evrDrop_sys (c : Nat) : (evrDrop c s).sys = s.sys := by
  simp [evrDrop]
@[simp] theorem evrDrop_cmd (c : Nat) : (evrDrop c s).cmd = s.cmd := by
  simp [evrDrop]
@[simp] theorem evrDrop_host (c : Nat) : (evrDrop c s).host = s.host := by
  simp [evrDrop]
@[simp] theorem evrDrop_env (c : Nat) : (evrDrop c s).env = s.env := by
  simp [evrDrop]
@[simp] theorem evrDrop_net (c : Nat) : (evrDrop c s).net = s.net := by
  simp [evrDrop]
@[simp] theorem evrDrop_core (c : Nat) : (evrDrop c s).core = s.core := by
  simp [evrDrop]
@[simp] theorem evrDrop_tile (c : Nat) : (evrDrop c s).tile = s.tile := by
  simp [evrDrop]
@[simp] theorem evrDrop_mem (c : Nat) : (evrDrop c s).mem = s.mem := by
  simp [evrDrop]
@[simp] theorem evrDrop_time (c : Nat) : (evrDrop c s).time = s.time := by
  simp [evrDrop]
@[simp] theorem evrDrop_sched (c : Nat) : (evrDrop c s).sched = s.sched := by
  simp [evrDrop]
@[simp] theorem evrDrop_snap (c : Nat) : (evrDrop c s).snap = s.snap := by
  simp [evrDrop]
@[simp] theorem evrDrop_flash (c : Nat) : (evrDrop c s).flash = s.flash := by
  simp [evrDrop]
@[simp] theorem evrDrop_gemel (c : Nat) : (evrDrop c s).gemel = s.gemel := by
  simp [evrDrop]
@[simp] theorem evrDrop_set (c : Nat) : (evrDrop c s).set = s.set := by
  simp [evrDrop]
@[simp] theorem evrDrop_jrn (c : Nat) : (evrDrop c s).jrn = s.jrn := by
  simp [evrDrop]
@[simp] theorem evrDrop_out (c : Nat) : (evrDrop c s).out = s.out := by
  simp [evrDrop]
@[simp] theorem evrDrop_mono (c : Nat) : (evrDrop c s).mono = s.mono := by
  simp [evrDrop]
@[simp] theorem evrDrop_freeCtr (c : Nat) : (evrDrop c s).freeCtr = s.freeCtr := by
  simp [evrDrop]

@[simp] theorem evrWrite_pending (c k : Nat) (l : List (Nat × Nat)) : (evrWrite c k l s).pending = s.pending := by
  simp only [evrWrite, whenS]; (repeat' split) <;> simp
@[simp] theorem evrWrite_id (c k : Nat) (l : List (Nat × Nat)) : (evrWrite c k l s).id = s.id := by
  simp only [evrWrite, whenS]; (repeat' split) <;> simp
@[simp] theorem evrWrite_sys (c k : Nat) (l : List (Nat × Nat)) : (evrWrite c k l s).sys = s.sys := by
  simp only [evrWrite, whenS]; (repeat' split) <;> simp
@[simp] theorem evrWrite_cmd (c k : Nat) (l : List (Nat × Nat)) : (evrWrite c k l s).cmd = s.cmd := by
  simp only [evrWrite, whenS]; (repeat' split) <;> simp
@[simp] theorem evrWrite_host (c k : Nat) (l : List (Nat × Nat)) : (evrWrite c k l s).host = s.host := by
  simp only [evrWrite, whenS]; (repeat' split) <;> simp
@[simp] theorem evrWrite_env (c k : Nat) (l : List (Nat × Nat)) : (evrWrite c k l s).env = s.env := by
  simp only [evrWrite, whenS]; (repeat' split) <;> simp
@[simp] theorem evrWrite_net (c k : Nat) (l : List (Nat × Nat)) : (evrWrite c k l s).net = s.net := by
  simp only [evrWrite, whenS]; (repeat' split) <;> simp
@[simp] theorem evrWrite_core (c k : Nat) (l : List (Nat × Nat)) : (evrWrite c k l s).core = s.core := by
  simp only [evrWrite, whenS]; (repeat' split) <;> simp
@[simp] theorem evrWrite_tile (c k : Nat) (l : List (Nat × Nat)) : (evrWrite c k l s).tile = s.tile := by
  simp only [evrWrite, whenS]; (repeat' split) <;> simp
@[simp] theorem evrWrite_mem (c k : Nat) (l : List (Nat × Nat)) : (evrWrite c k l s).mem = s.mem := by
  simp only [evrWrite, whenS]; (repeat' split) <;> simp
@[simp] theorem evrWrite_time (c k : Nat) (l : List (Nat × Nat)) : (evrWrite c k l s).time = s.time := by
  simp only [evrWrite, whenS]; (repeat' split) <;> simp
@[simp] theorem evrWrite_sched (c k : Nat) (l : List (Nat × Nat)) : (evrWrite c k l s).sched = s.sched := by
  simp only [evrWrite, whenS]; (repeat' split) <;> simp
@[simp] theorem evrWrite_snap (c k : Nat) (l : List (Nat × Nat)) : (evrWrite c k l s).snap = s.snap := by
  simp only [evrWrite, whenS]; (repeat' split) <;> simp
@[simp] theorem evrWrite_flash (c k : Nat) (l : List (Nat × Nat)) : (evrWrite c k l s).flash = s.flash := by
  simp only [evrWrite, whenS]; (repeat' split) <;> simp
@[simp] theorem evrWrite_gemel (c k : Nat) (l : List (Nat × Nat)) : (evrWrite c k l s).gemel = s.gemel := by
  simp only [evrWrite, whenS]; (repeat' split) <;> simp
@[simp] theorem evrWrite_set (c k : Nat) (l : List (Nat × Nat)) : (evrWrite c k l s).set = s.set := by
  simp only [evrWrite, whenS]; (repeat' split) <;> simp
@[simp] theorem evrWrite_jrn (c k : Nat) (l : List (Nat × Nat)) : (evrWrite c k l s).jrn = s.jrn := by
  simp only [evrWrite, whenS]; (repeat' split) <;> simp
@[simp] theorem evrWrite_mono (c k : Nat) (l : List (Nat × Nat)) : (evrWrite c k l s).mono = s.mono := by
  simp only [evrWrite, whenS]; (repeat' split) <;> simp
@[simp] theorem evrWrite_freeCtr (c k : Nat) (l : List (Nat × Nat)) : (evrWrite c k l s).freeCtr = s.freeCtr := by
  simp only [evrWrite, whenS]; (repeat' split) <;> simp

@[simp] theorem recordSrc_pending (c k : Nat) (l : List (Nat × Nat)) : (recordSrc c k l s).pending = s.pending := by
  simp only [recordSrc]; (repeat' split) <;> simp
@[simp] theorem recordSrc_id (c k : Nat) (l : List (Nat × Nat)) : (recordSrc c k l s).id = s.id := by
  simp only [recordSrc]; (repeat' split) <;> simp
@[simp] theorem recordSrc_sys (c k : Nat) (l : List (Nat × Nat)) : (recordSrc c k l s).sys = s.sys := by
  simp only [recordSrc]; (repeat' split) <;> simp
@[simp] theorem recordSrc_cmd (c k : Nat) (l : List (Nat × Nat)) : (recordSrc c k l s).cmd = s.cmd := by
  simp only [recordSrc]; (repeat' split) <;> simp
@[simp] theorem recordSrc_host (c k : Nat) (l : List (Nat × Nat)) : (recordSrc c k l s).host = s.host := by
  simp only [recordSrc]; (repeat' split) <;> simp
@[simp] theorem recordSrc_env (c k : Nat) (l : List (Nat × Nat)) : (recordSrc c k l s).env = s.env := by
  simp only [recordSrc]; (repeat' split) <;> simp
@[simp] theorem recordSrc_net (c k : Nat) (l : List (Nat × Nat)) : (recordSrc c k l s).net = s.net := by
  simp only [recordSrc]; (repeat' split) <;> simp
@[simp] theorem recordSrc_core (c k : Nat) (l : List (Nat × Nat)) : (recordSrc c k l s).core = s.core := by
  simp only [recordSrc]; (repeat' split) <;> simp
@[simp] theorem recordSrc_tile (c k : Nat) (l : List (Nat × Nat)) : (recordSrc c k l s).tile = s.tile := by
  simp only [recordSrc]; (repeat' split) <;> simp
@[simp] theorem recordSrc_mem (c k : Nat) (l : List (Nat × Nat)) : (recordSrc c k l s).mem = s.mem := by
  simp only [recordSrc]; (repeat' split) <;> simp
@[simp] theorem recordSrc_time (c k : Nat) (l : List (Nat × Nat)) : (recordSrc c k l s).time = s.time := by
  simp only [recordSrc]; (repeat' split) <;> simp
@[simp] theorem recordSrc_sched (c k : Nat) (l : List (Nat × Nat)) : (recordSrc c k l s).sched = s.sched := by
  simp only [recordSrc]; (repeat' split) <;> simp
@[simp] theorem recordSrc_snap (c k : Nat) (l : List (Nat × Nat)) : (recordSrc c k l s).snap = s.snap := by
  simp only [recordSrc]; (repeat' split) <;> simp
@[simp] theorem recordSrc_flash (c k : Nat) (l : List (Nat × Nat)) : (recordSrc c k l s).flash = s.flash := by
  simp only [recordSrc]; (repeat' split) <;> simp
@[simp] theorem recordSrc_gemel (c k : Nat) (l : List (Nat × Nat)) : (recordSrc c k l s).gemel = s.gemel := by
  simp only [recordSrc]; (repeat' split) <;> simp
@[simp] theorem recordSrc_set (c k : Nat) (l : List (Nat × Nat)) : (recordSrc c k l s).set = s.set := by
  simp only [recordSrc]; (repeat' split) <;> simp
@[simp] theorem recordSrc_jrn (c k : Nat) (l : List (Nat × Nat)) : (recordSrc c k l s).jrn = s.jrn := by
  simp only [recordSrc]; (repeat' split) <;> simp
@[simp] theorem recordSrc_mono (c k : Nat) (l : List (Nat × Nat)) : (recordSrc c k l s).mono = s.mono := by
  simp only [recordSrc]; (repeat' split) <;> simp
@[simp] theorem recordSrc_freeCtr (c k : Nat) (l : List (Nat × Nat)) : (recordSrc c k l s).freeCtr = s.freeCtr := by
  simp only [recordSrc]; (repeat' split) <;> simp

@[simp] theorem record_pending (c : Nat) (l : List (Nat × Nat)) : (record c l s).pending = s.pending := by
  simp [record]
@[simp] theorem record_id (c : Nat) (l : List (Nat × Nat)) : (record c l s).id = s.id := by
  simp [record]
@[simp] theorem record_sys (c : Nat) (l : List (Nat × Nat)) : (record c l s).sys = s.sys := by
  simp [record]
@[simp] theorem record_cmd (c : Nat) (l : List (Nat × Nat)) : (record c l s).cmd = s.cmd := by
  simp [record]
@[simp] theorem record_host (c : Nat) (l : List (Nat × Nat)) : (record c l s).host = s.host := by
  simp [record]
@[simp] theorem record_env (c : Nat) (l : List (Nat × Nat)) : (record c l s).env = s.env := by
  simp [record]
@[simp] theorem record_net (c : Nat) (l : List (Nat × Nat)) : (record c l s).net = s.net := by
  simp [record]
@[simp] theorem record_core (c : Nat) (l : List (Nat × Nat)) : (record c l s).core = s.core := by
  simp [record]
@[simp] theorem record_tile (c : Nat) (l : List (Nat × Nat)) : (record c l s).tile = s.tile := by
  simp [record]
@[simp] theorem record_mem (c : Nat) (l : List (Nat × Nat)) : (record c l s).mem = s.mem := by
  simp [record]
@[simp] theorem record_time (c : Nat) (l : List (Nat × Nat)) : (record c l s).time = s.time := by
  simp [record]
@[simp] theorem record_sched (c : Nat) (l : List (Nat × Nat)) : (record c l s).sched = s.sched := by
  simp [record]
@[simp] theorem record_snap (c : Nat) (l : List (Nat × Nat)) : (record c l s).snap = s.snap := by
  simp [record]
@[simp] theorem record_flash (c : Nat) (l : List (Nat × Nat)) : (record c l s).flash = s.flash := by
  simp [record]
@[simp] theorem record_gemel (c : Nat) (l : List (Nat × Nat)) : (record c l s).gemel = s.gemel := by
  simp [record]
@[simp] theorem record_set (c : Nat) (l : List (Nat × Nat)) : (record c l s).set = s.set := by
  simp [record]
@[simp] theorem record_jrn (c : Nat) (l : List (Nat × Nat)) : (record c l s).jrn = s.jrn := by
  simp [record]
@[simp] theorem record_mono (c : Nat) (l : List (Nat × Nat)) : (record c l s).mono = s.mono := by
  simp [record]
@[simp] theorem record_freeCtr (c : Nat) (l : List (Nat × Nat)) : (record c l s).freeCtr = s.freeCtr := by
  simp [record]

@[simp] theorem report_pending (c k : Nat) : (report c k s).pending = s.pending := by
  simp only [report]; split <;> simp
@[simp] theorem report_id (c k : Nat) : (report c k s).id = s.id := by
  simp only [report]; split <;> simp
@[simp] theorem report_sys (c k : Nat) : (report c k s).sys = s.sys := by
  simp only [report]; split <;> simp
@[simp] theorem report_cmd (c k : Nat) : (report c k s).cmd = s.cmd := by
  simp only [report]; split <;> simp
@[simp] theorem report_host (c k : Nat) : (report c k s).host = s.host := by
  simp only [report]; split <;> simp
@[simp] theorem report_env (c k : Nat) : (report c k s).env = s.env := by
  simp only [report]; split <;> simp
@[simp] theorem report_net (c k : Nat) : (report c k s).net = s.net := by
  simp only [report]; split <;> simp
@[simp] theorem report_core (c k : Nat) : (report c k s).core = s.core := by
  simp only [report]; split <;> simp
@[simp] theorem report_tile (c k : Nat) : (report c k s).tile = s.tile := by
  simp only [report]; split <;> simp
@[simp] theorem report_mem (c k : Nat) : (report c k s).mem = s.mem := by
  simp only [report]; split <;> simp
@[simp] theorem report_time (c k : Nat) : (report c k s).time = s.time := by
  simp only [report]; split <;> simp
@[simp] theorem report_sched (c k : Nat) : (report c k s).sched = s.sched := by
  simp only [report]; split <;> simp
@[simp] theorem report_snap (c k : Nat) : (report c k s).snap = s.snap := by
  simp only [report]; split <;> simp
@[simp] theorem report_flash (c k : Nat) : (report c k s).flash = s.flash := by
  simp only [report]; split <;> simp
@[simp] theorem report_gemel (c k : Nat) : (report c k s).gemel = s.gemel := by
  simp only [report]; split <;> simp
@[simp] theorem report_set (c k : Nat) : (report c k s).set = s.set := by
  simp only [report]; split <;> simp
@[simp] theorem report_jrn (c k : Nat) : (report c k s).jrn = s.jrn := by
  simp only [report]; split <;> simp
@[simp] theorem report_mono (c k : Nat) : (report c k s).mono = s.mono := by
  simp only [report]; split <;> simp
@[simp] theorem report_freeCtr (c k : Nat) : (report c k s).freeCtr = s.freeCtr := by
  simp only [report]; split <;> simp

@[simp] theorem envEvent_pending (b : Nat) : (envEvent b s).pending = s.pending := by
  simp only [envEvent, whenS]; split <;> simp
@[simp] theorem envEvent_id (b : Nat) : (envEvent b s).id = s.id := by
  simp only [envEvent, whenS]; split <;> simp
@[simp] theorem envEvent_sys (b : Nat) : (envEvent b s).sys = s.sys := by
  simp only [envEvent, whenS]; split <;> simp
@[simp] theorem envEvent_cmd (b : Nat) : (envEvent b s).cmd = s.cmd := by
  simp only [envEvent, whenS]; split <;> simp
@[simp] theorem envEvent_host (b : Nat) : (envEvent b s).host = s.host := by
  simp only [envEvent, whenS]; split <;> simp
@[simp] theorem envEvent_flt (b : Nat) : (envEvent b s).flt = s.flt := by
  simp only [envEvent, whenS]; split <;> simp
@[simp] theorem envEvent_net (b : Nat) : (envEvent b s).net = s.net := by
  simp only [envEvent, whenS]; split <;> simp
@[simp] theorem envEvent_core (b : Nat) : (envEvent b s).core = s.core := by
  simp only [envEvent, whenS]; split <;> simp
@[simp] theorem envEvent_tile (b : Nat) : (envEvent b s).tile = s.tile := by
  simp only [envEvent, whenS]; split <;> simp
@[simp] theorem envEvent_mem (b : Nat) : (envEvent b s).mem = s.mem := by
  simp only [envEvent, whenS]; split <;> simp
@[simp] theorem envEvent_time (b : Nat) : (envEvent b s).time = s.time := by
  simp only [envEvent, whenS]; split <;> simp
@[simp] theorem envEvent_sched (b : Nat) : (envEvent b s).sched = s.sched := by
  simp only [envEvent, whenS]; split <;> simp
@[simp] theorem envEvent_snap (b : Nat) : (envEvent b s).snap = s.snap := by
  simp only [envEvent, whenS]; split <;> simp
@[simp] theorem envEvent_flash (b : Nat) : (envEvent b s).flash = s.flash := by
  simp only [envEvent, whenS]; split <;> simp
@[simp] theorem envEvent_gemel (b : Nat) : (envEvent b s).gemel = s.gemel := by
  simp only [envEvent, whenS]; split <;> simp
@[simp] theorem envEvent_set (b : Nat) : (envEvent b s).set = s.set := by
  simp only [envEvent, whenS]; split <;> simp
@[simp] theorem envEvent_jrn (b : Nat) : (envEvent b s).jrn = s.jrn := by
  simp only [envEvent, whenS]; split <;> simp
@[simp] theorem envEvent_mono (b : Nat) : (envEvent b s).mono = s.mono := by
  simp only [envEvent, whenS]; split <;> simp
@[simp] theorem envEvent_freeCtr (b : Nat) : (envEvent b s).freeCtr = s.freeCtr := by
  simp only [envEvent, whenS]; split <;> simp

@[simp] theorem journalE_pending (e : JEntry) : (journalE e s).pending = s.pending := by
  simp only [journalE, whenS]; (repeat' split) <;> simp
@[simp] theorem journalE_id (e : JEntry) : (journalE e s).id = s.id := by
  simp only [journalE, whenS]; (repeat' split) <;> simp
@[simp] theorem journalE_sys (e : JEntry) : (journalE e s).sys = s.sys := by
  simp only [journalE, whenS]; (repeat' split) <;> simp
@[simp] theorem journalE_host (e : JEntry) : (journalE e s).host = s.host := by
  simp only [journalE, whenS]; (repeat' split) <;> simp
@[simp] theorem journalE_flt (e : JEntry) : (journalE e s).flt = s.flt := by
  simp only [journalE, whenS]; (repeat' split) <;> simp
@[simp] theorem journalE_env (e : JEntry) : (journalE e s).env = s.env := by
  simp only [journalE, whenS]; (repeat' split) <;> simp
@[simp] theorem journalE_net (e : JEntry) : (journalE e s).net = s.net := by
  simp only [journalE, whenS]; (repeat' split) <;> simp
@[simp] theorem journalE_core (e : JEntry) : (journalE e s).core = s.core := by
  simp only [journalE, whenS]; (repeat' split) <;> simp
@[simp] theorem journalE_tile (e : JEntry) : (journalE e s).tile = s.tile := by
  simp only [journalE, whenS]; (repeat' split) <;> simp
@[simp] theorem journalE_mem (e : JEntry) : (journalE e s).mem = s.mem := by
  simp only [journalE, whenS]; (repeat' split) <;> simp
@[simp] theorem journalE_time (e : JEntry) : (journalE e s).time = s.time := by
  simp only [journalE, whenS]; (repeat' split) <;> simp
@[simp] theorem journalE_sched (e : JEntry) : (journalE e s).sched = s.sched := by
  simp only [journalE, whenS]; (repeat' split) <;> simp
@[simp] theorem journalE_snap (e : JEntry) : (journalE e s).snap = s.snap := by
  simp only [journalE, whenS]; (repeat' split) <;> simp
@[simp] theorem journalE_flash (e : JEntry) : (journalE e s).flash = s.flash := by
  simp only [journalE, whenS]; (repeat' split) <;> simp
@[simp] theorem journalE_set (e : JEntry) : (journalE e s).set = s.set := by
  simp only [journalE, whenS]; (repeat' split) <;> simp
@[simp] theorem journalE_jrn (e : JEntry) : (journalE e s).jrn = s.jrn := by
  simp only [journalE, whenS]; (repeat' split) <;> simp
@[simp] theorem journalE_mono (e : JEntry) : (journalE e s).mono = s.mono := by
  simp only [journalE, whenS]; (repeat' split) <;> simp
@[simp] theorem journalE_freeCtr (e : JEntry) : (journalE e s).freeCtr = s.freeCtr := by
  simp only [journalE, whenS]; (repeat' split) <;> simp

@[simp] theorem journalOwn_pending (k : Nat) (l : List Byte) : (journalOwn k l s).pending = s.pending := by
  simp [journalOwn]
@[simp] theorem journalOwn_id (k : Nat) (l : List Byte) : (journalOwn k l s).id = s.id := by
  simp [journalOwn]
@[simp] theorem journalOwn_sys (k : Nat) (l : List Byte) : (journalOwn k l s).sys = s.sys := by
  simp [journalOwn]
@[simp] theorem journalOwn_host (k : Nat) (l : List Byte) : (journalOwn k l s).host = s.host := by
  simp [journalOwn]
@[simp] theorem journalOwn_flt (k : Nat) (l : List Byte) : (journalOwn k l s).flt = s.flt := by
  simp [journalOwn]
@[simp] theorem journalOwn_env (k : Nat) (l : List Byte) : (journalOwn k l s).env = s.env := by
  simp [journalOwn]
@[simp] theorem journalOwn_net (k : Nat) (l : List Byte) : (journalOwn k l s).net = s.net := by
  simp [journalOwn]
@[simp] theorem journalOwn_core (k : Nat) (l : List Byte) : (journalOwn k l s).core = s.core := by
  simp [journalOwn]
@[simp] theorem journalOwn_tile (k : Nat) (l : List Byte) : (journalOwn k l s).tile = s.tile := by
  simp [journalOwn]
@[simp] theorem journalOwn_mem (k : Nat) (l : List Byte) : (journalOwn k l s).mem = s.mem := by
  simp [journalOwn]
@[simp] theorem journalOwn_time (k : Nat) (l : List Byte) : (journalOwn k l s).time = s.time := by
  simp [journalOwn]
@[simp] theorem journalOwn_sched (k : Nat) (l : List Byte) : (journalOwn k l s).sched = s.sched := by
  simp [journalOwn]
@[simp] theorem journalOwn_snap (k : Nat) (l : List Byte) : (journalOwn k l s).snap = s.snap := by
  simp [journalOwn]
@[simp] theorem journalOwn_flash (k : Nat) (l : List Byte) : (journalOwn k l s).flash = s.flash := by
  simp [journalOwn]
@[simp] theorem journalOwn_set (k : Nat) (l : List Byte) : (journalOwn k l s).set = s.set := by
  simp [journalOwn]
@[simp] theorem journalOwn_jrn (k : Nat) (l : List Byte) : (journalOwn k l s).jrn = s.jrn := by
  simp [journalOwn]
@[simp] theorem journalOwn_mono (k : Nat) (l : List Byte) : (journalOwn k l s).mono = s.mono := by
  simp [journalOwn]
@[simp] theorem journalOwn_freeCtr (k : Nat) (l : List Byte) : (journalOwn k l s).freeCtr = s.freeCtr := by
  simp [journalOwn]

@[simp] theorem sendCapsule_pending (x k t : Nat) (l : List Byte) : (sendCapsule x k t l s).pending = s.pending := by
  simp only [sendCapsule]; (repeat' split) <;> simp
@[simp] theorem sendCapsule_id (x k t : Nat) (l : List Byte) : (sendCapsule x k t l s).id = s.id := by
  simp only [sendCapsule]; (repeat' split) <;> simp
@[simp] theorem sendCapsule_sys (x k t : Nat) (l : List Byte) : (sendCapsule x k t l s).sys = s.sys := by
  simp only [sendCapsule]; (repeat' split) <;> simp
@[simp] theorem sendCapsule_cmd (x k t : Nat) (l : List Byte) : (sendCapsule x k t l s).cmd = s.cmd := by
  simp only [sendCapsule]; (repeat' split) <;> simp
@[simp] theorem sendCapsule_host (x k t : Nat) (l : List Byte) : (sendCapsule x k t l s).host = s.host := by
  simp only [sendCapsule]; (repeat' split) <;> simp
@[simp] theorem sendCapsule_flt (x k t : Nat) (l : List Byte) : (sendCapsule x k t l s).flt = s.flt := by
  simp only [sendCapsule]; (repeat' split) <;> simp
@[simp] theorem sendCapsule_env (x k t : Nat) (l : List Byte) : (sendCapsule x k t l s).env = s.env := by
  simp only [sendCapsule]; (repeat' split) <;> simp
@[simp] theorem sendCapsule_net (x k t : Nat) (l : List Byte) : (sendCapsule x k t l s).net = s.net := by
  simp only [sendCapsule]; (repeat' split) <;> simp
@[simp] theorem sendCapsule_tile (x k t : Nat) (l : List Byte) : (sendCapsule x k t l s).tile = s.tile := by
  simp only [sendCapsule]; (repeat' split) <;> simp
@[simp] theorem sendCapsule_mem (x k t : Nat) (l : List Byte) : (sendCapsule x k t l s).mem = s.mem := by
  simp only [sendCapsule]; (repeat' split) <;> simp
@[simp] theorem sendCapsule_time (x k t : Nat) (l : List Byte) : (sendCapsule x k t l s).time = s.time := by
  simp only [sendCapsule]; (repeat' split) <;> simp
@[simp] theorem sendCapsule_sched (x k t : Nat) (l : List Byte) : (sendCapsule x k t l s).sched = s.sched := by
  simp only [sendCapsule]; (repeat' split) <;> simp
@[simp] theorem sendCapsule_snap (x k t : Nat) (l : List Byte) : (sendCapsule x k t l s).snap = s.snap := by
  simp only [sendCapsule]; (repeat' split) <;> simp
@[simp] theorem sendCapsule_flash (x k t : Nat) (l : List Byte) : (sendCapsule x k t l s).flash = s.flash := by
  simp only [sendCapsule]; (repeat' split) <;> simp
@[simp] theorem sendCapsule_gemel (x k t : Nat) (l : List Byte) : (sendCapsule x k t l s).gemel = s.gemel := by
  simp only [sendCapsule]; (repeat' split) <;> simp
@[simp] theorem sendCapsule_set (x k t : Nat) (l : List Byte) : (sendCapsule x k t l s).set = s.set := by
  simp only [sendCapsule]; (repeat' split) <;> simp
@[simp] theorem sendCapsule_jrn (x k t : Nat) (l : List Byte) : (sendCapsule x k t l s).jrn = s.jrn := by
  simp only [sendCapsule]; (repeat' split) <;> simp
@[simp] theorem sendCapsule_mono (x k t : Nat) (l : List Byte) : (sendCapsule x k t l s).mono = s.mono := by
  simp only [sendCapsule]; (repeat' split) <;> simp
@[simp] theorem sendCapsule_freeCtr (x k t : Nat) (l : List Byte) : (sendCapsule x k t l s).freeCtr = s.freeCtr := by
  simp only [sendCapsule]; (repeat' split) <;> simp

/-- A fold of operations that each leave a part of the state alone leaves it alone. -/
theorem forEach_frame {α β : Type} (p : State → β) (f : α → State → State) (h : ∀ x t, p (f x t) = p t) (l : List α) :
    ∀ t, p (forEach l f t) = p t := by
  unfold forEach
  induction l with
  | nil => intro t; rfl
  | cons x r ih => intro t; exact (ih (f x t)).trans (h x t)

@[simp] theorem postHost_pending (r : Nat) (c : Cpl) : (postHost r c s).pending = s.pending := by
  simp [postHost]
@[simp] theorem postHost_id (r : Nat) (c : Cpl) : (postHost r c s).id = s.id := by
  simp [postHost]
@[simp] theorem postHost_sys (r : Nat) (c : Cpl) : (postHost r c s).sys = s.sys := by
  simp [postHost]
@[simp] theorem postHost_host (r : Nat) (c : Cpl) : (postHost r c s).host = s.host := by
  simp [postHost]
@[simp] theorem postHost_flt (r : Nat) (c : Cpl) : (postHost r c s).flt = s.flt := by
  simp [postHost]
@[simp] theorem postHost_env (r : Nat) (c : Cpl) : (postHost r c s).env = s.env := by
  simp [postHost]
@[simp] theorem postHost_net (r : Nat) (c : Cpl) : (postHost r c s).net = s.net := by
  simp [postHost]
@[simp] theorem postHost_core (r : Nat) (c : Cpl) : (postHost r c s).core = s.core := by
  simp [postHost]
@[simp] theorem postHost_tile (r : Nat) (c : Cpl) : (postHost r c s).tile = s.tile := by
  simp [postHost]
@[simp] theorem postHost_mem (r : Nat) (c : Cpl) : (postHost r c s).mem = s.mem := by
  simp [postHost]
@[simp] theorem postHost_time (r : Nat) (c : Cpl) : (postHost r c s).time = s.time := by
  simp [postHost]
@[simp] theorem postHost_sched (r : Nat) (c : Cpl) : (postHost r c s).sched = s.sched := by
  simp [postHost]
@[simp] theorem postHost_snap (r : Nat) (c : Cpl) : (postHost r c s).snap = s.snap := by
  simp [postHost]
@[simp] theorem postHost_flash (r : Nat) (c : Cpl) : (postHost r c s).flash = s.flash := by
  simp [postHost]
@[simp] theorem postHost_gemel (r : Nat) (c : Cpl) : (postHost r c s).gemel = s.gemel := by
  simp [postHost]
@[simp] theorem postHost_set (r : Nat) (c : Cpl) : (postHost r c s).set = s.set := by
  simp [postHost]
@[simp] theorem postHost_jrn (r : Nat) (c : Cpl) : (postHost r c s).jrn = s.jrn := by
  simp [postHost]
@[simp] theorem postHost_mono (r : Nat) (c : Cpl) : (postHost r c s).mono = s.mono := by
  simp [postHost]
@[simp] theorem postHost_freeCtr (r : Nat) (c : Cpl) : (postHost r c s).freeCtr = s.freeCtr := by
  simp [postHost]

@[simp] theorem postSess_pending (r : RingId) (c : Cpl) (l : List Byte) (q : List Nat) : (postSess r c l q s).pending = s.pending := by
  simp only [postSess]; split
  · rfl
  · rw [forEach_frame (·.pending) _ (by intros; simp)]; simp
@[simp] theorem postSess_id (r : RingId) (c : Cpl) (l : List Byte) (q : List Nat) : (postSess r c l q s).id = s.id := by
  simp only [postSess]; split
  · rfl
  · rw [forEach_frame (·.id) _ (by intros; simp)]; simp
@[simp] theorem postSess_sys (r : RingId) (c : Cpl) (l : List Byte) (q : List Nat) : (postSess r c l q s).sys = s.sys := by
  simp only [postSess]; split
  · rfl
  · rw [forEach_frame (·.sys) _ (by intros; simp)]; simp
@[simp] theorem postSess_host (r : RingId) (c : Cpl) (l : List Byte) (q : List Nat) : (postSess r c l q s).host = s.host := by
  simp only [postSess]; split
  · rfl
  · rw [forEach_frame (·.host) _ (by intros; simp)]; simp
@[simp] theorem postSess_flt (r : RingId) (c : Cpl) (l : List Byte) (q : List Nat) : (postSess r c l q s).flt = s.flt := by
  simp only [postSess]; split
  · rfl
  · rw [forEach_frame (·.flt) _ (by intros; simp)]; simp
@[simp] theorem postSess_env (r : RingId) (c : Cpl) (l : List Byte) (q : List Nat) : (postSess r c l q s).env = s.env := by
  simp only [postSess]; split
  · rfl
  · rw [forEach_frame (·.env) _ (by intros; simp)]; simp
@[simp] theorem postSess_net (r : RingId) (c : Cpl) (l : List Byte) (q : List Nat) : (postSess r c l q s).net = s.net := by
  simp only [postSess]; split
  · rfl
  · rw [forEach_frame (·.net) _ (by intros; simp)]; simp
@[simp] theorem postSess_tile (r : RingId) (c : Cpl) (l : List Byte) (q : List Nat) : (postSess r c l q s).tile = s.tile := by
  simp only [postSess]; split
  · rfl
  · rw [forEach_frame (·.tile) _ (by intros; simp)]; simp
@[simp] theorem postSess_mem (r : RingId) (c : Cpl) (l : List Byte) (q : List Nat) : (postSess r c l q s).mem = s.mem := by
  simp only [postSess]; split
  · rfl
  · rw [forEach_frame (·.mem) _ (by intros; simp)]; simp
@[simp] theorem postSess_time (r : RingId) (c : Cpl) (l : List Byte) (q : List Nat) : (postSess r c l q s).time = s.time := by
  simp only [postSess]; split
  · rfl
  · rw [forEach_frame (·.time) _ (by intros; simp)]; simp
@[simp] theorem postSess_sched (r : RingId) (c : Cpl) (l : List Byte) (q : List Nat) : (postSess r c l q s).sched = s.sched := by
  simp only [postSess]; split
  · rfl
  · rw [forEach_frame (·.sched) _ (by intros; simp)]; simp
@[simp] theorem postSess_snap (r : RingId) (c : Cpl) (l : List Byte) (q : List Nat) : (postSess r c l q s).snap = s.snap := by
  simp only [postSess]; split
  · rfl
  · rw [forEach_frame (·.snap) _ (by intros; simp)]; simp
@[simp] theorem postSess_flash (r : RingId) (c : Cpl) (l : List Byte) (q : List Nat) : (postSess r c l q s).flash = s.flash := by
  simp only [postSess]; split
  · rfl
  · rw [forEach_frame (·.flash) _ (by intros; simp)]; simp
@[simp] theorem postSess_gemel (r : RingId) (c : Cpl) (l : List Byte) (q : List Nat) : (postSess r c l q s).gemel = s.gemel := by
  simp only [postSess]; split
  · rfl
  · rw [forEach_frame (·.gemel) _ (by intros; simp)]; simp
@[simp] theorem postSess_set (r : RingId) (c : Cpl) (l : List Byte) (q : List Nat) : (postSess r c l q s).set = s.set := by
  simp only [postSess]; split
  · rfl
  · rw [forEach_frame (·.set) _ (by intros; simp)]; simp
@[simp] theorem postSess_jrn (r : RingId) (c : Cpl) (l : List Byte) (q : List Nat) : (postSess r c l q s).jrn = s.jrn := by
  simp only [postSess]; split
  · rfl
  · rw [forEach_frame (·.jrn) _ (by intros; simp)]; simp
@[simp] theorem postSess_mono (r : RingId) (c : Cpl) (l : List Byte) (q : List Nat) : (postSess r c l q s).mono = s.mono := by
  simp only [postSess]; split
  · rfl
  · rw [forEach_frame (·.mono) _ (by intros; simp)]; simp
@[simp] theorem postSess_freeCtr (r : RingId) (c : Cpl) (l : List Byte) (q : List Nat) : (postSess r c l q s).freeCtr = s.freeCtr := by
  simp only [postSess]; split
  · rfl
  · rw [forEach_frame (·.freeCtr) _ (by intros; simp)]; simp

@[simp] theorem post_pending (r : RingId) (cl : Client) (c : Cpl) (l : List Byte) (d : Nat) (q : List Nat) : (post r cl c l d q s).pending = s.pending := by
  simp only [post, whenS]; (repeat' split) <;> simp
@[simp] theorem post_id (r : RingId) (cl : Client) (c : Cpl) (l : List Byte) (d : Nat) (q : List Nat) : (post r cl c l d q s).id = s.id := by
  simp only [post, whenS]; (repeat' split) <;> simp
@[simp] theorem post_sys (r : RingId) (cl : Client) (c : Cpl) (l : List Byte) (d : Nat) (q : List Nat) : (post r cl c l d q s).sys = s.sys := by
  simp only [post, whenS]; (repeat' split) <;> simp
@[simp] theorem post_host (r : RingId) (cl : Client) (c : Cpl) (l : List Byte) (d : Nat) (q : List Nat) : (post r cl c l d q s).host = s.host := by
  simp only [post, whenS]; (repeat' split) <;> simp
@[simp] theorem post_flt (r : RingId) (cl : Client) (c : Cpl) (l : List Byte) (d : Nat) (q : List Nat) : (post r cl c l d q s).flt = s.flt := by
  simp only [post, whenS]; (repeat' split) <;> simp
@[simp] theorem post_env (r : RingId) (cl : Client) (c : Cpl) (l : List Byte) (d : Nat) (q : List Nat) : (post r cl c l d q s).env = s.env := by
  simp only [post, whenS]; (repeat' split) <;> simp
@[simp] theorem post_net (r : RingId) (cl : Client) (c : Cpl) (l : List Byte) (d : Nat) (q : List Nat) : (post r cl c l d q s).net = s.net := by
  simp only [post, whenS]; (repeat' split) <;> simp
@[simp] theorem post_tile (r : RingId) (cl : Client) (c : Cpl) (l : List Byte) (d : Nat) (q : List Nat) : (post r cl c l d q s).tile = s.tile := by
  simp only [post, whenS]; (repeat' split) <;> simp
@[simp] theorem post_mem (r : RingId) (cl : Client) (c : Cpl) (l : List Byte) (d : Nat) (q : List Nat) : (post r cl c l d q s).mem = s.mem := by
  simp only [post, whenS]; (repeat' split) <;> simp
@[simp] theorem post_time (r : RingId) (cl : Client) (c : Cpl) (l : List Byte) (d : Nat) (q : List Nat) : (post r cl c l d q s).time = s.time := by
  simp only [post, whenS]; (repeat' split) <;> simp
@[simp] theorem post_sched (r : RingId) (cl : Client) (c : Cpl) (l : List Byte) (d : Nat) (q : List Nat) : (post r cl c l d q s).sched = s.sched := by
  simp only [post, whenS]; (repeat' split) <;> simp
@[simp] theorem post_snap (r : RingId) (cl : Client) (c : Cpl) (l : List Byte) (d : Nat) (q : List Nat) : (post r cl c l d q s).snap = s.snap := by
  simp only [post, whenS]; (repeat' split) <;> simp
@[simp] theorem post_flash (r : RingId) (cl : Client) (c : Cpl) (l : List Byte) (d : Nat) (q : List Nat) : (post r cl c l d q s).flash = s.flash := by
  simp only [post, whenS]; (repeat' split) <;> simp
@[simp] theorem post_gemel (r : RingId) (cl : Client) (c : Cpl) (l : List Byte) (d : Nat) (q : List Nat) : (post r cl c l d q s).gemel = s.gemel := by
  simp only [post, whenS]; (repeat' split) <;> simp
@[simp] theorem post_set (r : RingId) (cl : Client) (c : Cpl) (l : List Byte) (d : Nat) (q : List Nat) : (post r cl c l d q s).set = s.set := by
  simp only [post, whenS]; (repeat' split) <;> simp
@[simp] theorem post_jrn (r : RingId) (cl : Client) (c : Cpl) (l : List Byte) (d : Nat) (q : List Nat) : (post r cl c l d q s).jrn = s.jrn := by
  simp only [post, whenS]; (repeat' split) <;> simp
@[simp] theorem post_mono (r : RingId) (cl : Client) (c : Cpl) (l : List Byte) (d : Nat) (q : List Nat) : (post r cl c l d q s).mono = s.mono := by
  simp only [post, whenS]; (repeat' split) <;> simp
@[simp] theorem post_freeCtr (r : RingId) (cl : Client) (c : Cpl) (l : List Byte) (d : Nat) (q : List Nat) : (post r cl c l d q s).freeCtr = s.freeCtr := by
  simp only [post, whenS]; (repeat' split) <;> simp

@[simp] theorem complete_pending (c : CmdSpec) (q : Req) (cl : Client) (n : Nat) (l : List Nat) (st : CStatus) (r t : Nat) (b : List Byte) : (complete c q cl n l st r t b s).pending = s.pending := by
  simp [complete]
@[simp] theorem complete_id (c : CmdSpec) (q : Req) (cl : Client) (n : Nat) (l : List Nat) (st : CStatus) (r t : Nat) (b : List Byte) : (complete c q cl n l st r t b s).id = s.id := by
  simp [complete]
@[simp] theorem complete_sys (c : CmdSpec) (q : Req) (cl : Client) (n : Nat) (l : List Nat) (st : CStatus) (r t : Nat) (b : List Byte) : (complete c q cl n l st r t b s).sys = s.sys := by
  simp [complete]
@[simp] theorem complete_host (c : CmdSpec) (q : Req) (cl : Client) (n : Nat) (l : List Nat) (st : CStatus) (r t : Nat) (b : List Byte) : (complete c q cl n l st r t b s).host = s.host := by
  simp [complete]
@[simp] theorem complete_flt (c : CmdSpec) (q : Req) (cl : Client) (n : Nat) (l : List Nat) (st : CStatus) (r t : Nat) (b : List Byte) : (complete c q cl n l st r t b s).flt = s.flt := by
  simp [complete]
@[simp] theorem complete_env (c : CmdSpec) (q : Req) (cl : Client) (n : Nat) (l : List Nat) (st : CStatus) (r t : Nat) (b : List Byte) : (complete c q cl n l st r t b s).env = s.env := by
  simp [complete]
@[simp] theorem complete_net (c : CmdSpec) (q : Req) (cl : Client) (n : Nat) (l : List Nat) (st : CStatus) (r t : Nat) (b : List Byte) : (complete c q cl n l st r t b s).net = s.net := by
  simp [complete]
@[simp] theorem complete_tile (c : CmdSpec) (q : Req) (cl : Client) (n : Nat) (l : List Nat) (st : CStatus) (r t : Nat) (b : List Byte) : (complete c q cl n l st r t b s).tile = s.tile := by
  simp [complete]
@[simp] theorem complete_mem (c : CmdSpec) (q : Req) (cl : Client) (n : Nat) (l : List Nat) (st : CStatus) (r t : Nat) (b : List Byte) : (complete c q cl n l st r t b s).mem = s.mem := by
  simp [complete]
@[simp] theorem complete_time (c : CmdSpec) (q : Req) (cl : Client) (n : Nat) (l : List Nat) (st : CStatus) (r t : Nat) (b : List Byte) : (complete c q cl n l st r t b s).time = s.time := by
  simp [complete]
@[simp] theorem complete_sched (c : CmdSpec) (q : Req) (cl : Client) (n : Nat) (l : List Nat) (st : CStatus) (r t : Nat) (b : List Byte) : (complete c q cl n l st r t b s).sched = s.sched := by
  simp [complete]
@[simp] theorem complete_snap (c : CmdSpec) (q : Req) (cl : Client) (n : Nat) (l : List Nat) (st : CStatus) (r t : Nat) (b : List Byte) : (complete c q cl n l st r t b s).snap = s.snap := by
  simp [complete]
@[simp] theorem complete_flash (c : CmdSpec) (q : Req) (cl : Client) (n : Nat) (l : List Nat) (st : CStatus) (r t : Nat) (b : List Byte) : (complete c q cl n l st r t b s).flash = s.flash := by
  simp [complete]
@[simp] theorem complete_gemel (c : CmdSpec) (q : Req) (cl : Client) (n : Nat) (l : List Nat) (st : CStatus) (r t : Nat) (b : List Byte) : (complete c q cl n l st r t b s).gemel = s.gemel := by
  simp [complete]
@[simp] theorem complete_set (c : CmdSpec) (q : Req) (cl : Client) (n : Nat) (l : List Nat) (st : CStatus) (r t : Nat) (b : List Byte) : (complete c q cl n l st r t b s).set = s.set := by
  simp [complete]
@[simp] theorem complete_jrn (c : CmdSpec) (q : Req) (cl : Client) (n : Nat) (l : List Nat) (st : CStatus) (r t : Nat) (b : List Byte) : (complete c q cl n l st r t b s).jrn = s.jrn := by
  simp [complete]
@[simp] theorem complete_mono (c : CmdSpec) (q : Req) (cl : Client) (n : Nat) (l : List Nat) (st : CStatus) (r t : Nat) (b : List Byte) : (complete c q cl n l st r t b s).mono = s.mono := by
  simp [complete]
@[simp] theorem complete_freeCtr (c : CmdSpec) (q : Req) (cl : Client) (n : Nat) (l : List Nat) (st : CStatus) (r t : Nat) (b : List Byte) : (complete c q cl n l st r t b s).freeCtr = s.freeCtr := by
  simp [complete]

@[simp] theorem histAdd_pending (e : JEntry) : (histAdd e s).pending = s.pending := by
  simp [histAdd]
@[simp] theorem histAdd_id (e : JEntry) : (histAdd e s).id = s.id := by
  simp [histAdd]
@[simp] theorem histAdd_sys (e : JEntry) : (histAdd e s).sys = s.sys := by
  simp [histAdd]
@[simp] theorem histAdd_host (e : JEntry) : (histAdd e s).host = s.host := by
  simp [histAdd]
@[simp] theorem histAdd_flt (e : JEntry) : (histAdd e s).flt = s.flt := by
  simp [histAdd]
@[simp] theorem histAdd_env (e : JEntry) : (histAdd e s).env = s.env := by
  simp [histAdd]
@[simp] theorem histAdd_net (e : JEntry) : (histAdd e s).net = s.net := by
  simp [histAdd]
@[simp] theorem histAdd_core (e : JEntry) : (histAdd e s).core = s.core := by
  simp [histAdd]
@[simp] theorem histAdd_tile (e : JEntry) : (histAdd e s).tile = s.tile := by
  simp [histAdd]
@[simp] theorem histAdd_mem (e : JEntry) : (histAdd e s).mem = s.mem := by
  simp [histAdd]
@[simp] theorem histAdd_time (e : JEntry) : (histAdd e s).time = s.time := by
  simp [histAdd]
@[simp] theorem histAdd_sched (e : JEntry) : (histAdd e s).sched = s.sched := by
  simp [histAdd]
@[simp] theorem histAdd_snap (e : JEntry) : (histAdd e s).snap = s.snap := by
  simp [histAdd]
@[simp] theorem histAdd_flash (e : JEntry) : (histAdd e s).flash = s.flash := by
  simp [histAdd]
@[simp] theorem histAdd_gemel (e : JEntry) : (histAdd e s).gemel = s.gemel := by
  simp [histAdd]
@[simp] theorem histAdd_set (e : JEntry) : (histAdd e s).set = s.set := by
  simp [histAdd]
@[simp] theorem histAdd_jrn (e : JEntry) : (histAdd e s).jrn = s.jrn := by
  simp [histAdd]
@[simp] theorem histAdd_out (e : JEntry) : (histAdd e s).out = s.out := by
  simp [histAdd]
@[simp] theorem histAdd_mono (e : JEntry) : (histAdd e s).mono = s.mono := by
  simp [histAdd]
@[simp] theorem histAdd_freeCtr (e : JEntry) : (histAdd e s).freeCtr = s.freeCtr := by
  simp [histAdd]

@[simp] theorem takeCmd_pending (q : Req) : (takeCmd q s).pending = s.pending := by
  simp only [takeCmd]; (repeat' split) <;> simp
@[simp] theorem takeCmd_id (q : Req) : (takeCmd q s).id = s.id := by
  simp only [takeCmd]; (repeat' split) <;> simp
@[simp] theorem takeCmd_sys (q : Req) : (takeCmd q s).sys = s.sys := by
  simp only [takeCmd]; (repeat' split) <;> simp
@[simp] theorem takeCmd_host (q : Req) : (takeCmd q s).host = s.host := by
  simp only [takeCmd]; (repeat' split) <;> simp
@[simp] theorem takeCmd_flt (q : Req) : (takeCmd q s).flt = s.flt := by
  simp only [takeCmd]; (repeat' split) <;> simp
@[simp] theorem takeCmd_env (q : Req) : (takeCmd q s).env = s.env := by
  simp only [takeCmd]; (repeat' split) <;> simp
@[simp] theorem takeCmd_net (q : Req) : (takeCmd q s).net = s.net := by
  simp only [takeCmd]; (repeat' split) <;> simp
@[simp] theorem takeCmd_core (q : Req) : (takeCmd q s).core = s.core := by
  simp only [takeCmd]; (repeat' split) <;> simp
@[simp] theorem takeCmd_tile (q : Req) : (takeCmd q s).tile = s.tile := by
  simp only [takeCmd]; (repeat' split) <;> simp
@[simp] theorem takeCmd_mem (q : Req) : (takeCmd q s).mem = s.mem := by
  simp only [takeCmd]; (repeat' split) <;> simp
@[simp] theorem takeCmd_time (q : Req) : (takeCmd q s).time = s.time := by
  simp only [takeCmd]; (repeat' split) <;> simp
@[simp] theorem takeCmd_sched (q : Req) : (takeCmd q s).sched = s.sched := by
  simp only [takeCmd]; (repeat' split) <;> simp
@[simp] theorem takeCmd_snap (q : Req) : (takeCmd q s).snap = s.snap := by
  simp only [takeCmd]; (repeat' split) <;> simp
@[simp] theorem takeCmd_flash (q : Req) : (takeCmd q s).flash = s.flash := by
  simp only [takeCmd]; (repeat' split) <;> simp
@[simp] theorem takeCmd_gemel (q : Req) : (takeCmd q s).gemel = s.gemel := by
  simp only [takeCmd]; (repeat' split) <;> simp
@[simp] theorem takeCmd_set (q : Req) : (takeCmd q s).set = s.set := by
  simp only [takeCmd]; (repeat' split) <;> simp
@[simp] theorem takeCmd_jrn (q : Req) : (takeCmd q s).jrn = s.jrn := by
  simp only [takeCmd]; (repeat' split) <;> simp
@[simp] theorem takeCmd_out (q : Req) : (takeCmd q s).out = s.out := by
  simp only [takeCmd]; (repeat' split) <;> simp
@[simp] theorem takeCmd_mono (q : Req) : (takeCmd q s).mono = s.mono := by
  simp only [takeCmd]; (repeat' split) <;> simp
@[simp] theorem takeCmd_freeCtr (q : Req) : (takeCmd q s).freeCtr = s.freeCtr := by
  simp only [takeCmd]; (repeat' split) <;> simp

@[simp] theorem onTicket_pending (k : Nat) (f : Ticket → Ticket) : (onTicket k f s).pending = s.pending := by
  simp only [onTicket]; split <;> simp
@[simp] theorem onTicket_id (k : Nat) (f : Ticket → Ticket) : (onTicket k f s).id = s.id := by
  simp only [onTicket]; split <;> simp
@[simp] theorem onTicket_sys (k : Nat) (f : Ticket → Ticket) : (onTicket k f s).sys = s.sys := by
  simp only [onTicket]; split <;> simp
@[simp] theorem onTicket_host (k : Nat) (f : Ticket → Ticket) : (onTicket k f s).host = s.host := by
  simp only [onTicket]; split <;> simp
@[simp] theorem onTicket_flt (k : Nat) (f : Ticket → Ticket) : (onTicket k f s).flt = s.flt := by
  simp only [onTicket]; split <;> simp
@[simp] theorem onTicket_env (k : Nat) (f : Ticket → Ticket) : (onTicket k f s).env = s.env := by
  simp only [onTicket]; split <;> simp
@[simp] theorem onTicket_net (k : Nat) (f : Ticket → Ticket) : (onTicket k f s).net = s.net := by
  simp only [onTicket]; split <;> simp
@[simp] theorem onTicket_core (k : Nat) (f : Ticket → Ticket) : (onTicket k f s).core = s.core := by
  simp only [onTicket]; split <;> simp
@[simp] theorem onTicket_tile (k : Nat) (f : Ticket → Ticket) : (onTicket k f s).tile = s.tile := by
  simp only [onTicket]; split <;> simp
@[simp] theorem onTicket_mem (k : Nat) (f : Ticket → Ticket) : (onTicket k f s).mem = s.mem := by
  simp only [onTicket]; split <;> simp
@[simp] theorem onTicket_time (k : Nat) (f : Ticket → Ticket) : (onTicket k f s).time = s.time := by
  simp only [onTicket]; split <;> simp
@[simp] theorem onTicket_sched (k : Nat) (f : Ticket → Ticket) : (onTicket k f s).sched = s.sched := by
  simp only [onTicket]; split <;> simp
@[simp] theorem onTicket_snap (k : Nat) (f : Ticket → Ticket) : (onTicket k f s).snap = s.snap := by
  simp only [onTicket]; split <;> simp
@[simp] theorem onTicket_flash (k : Nat) (f : Ticket → Ticket) : (onTicket k f s).flash = s.flash := by
  simp only [onTicket]; split <;> simp
@[simp] theorem onTicket_gemel (k : Nat) (f : Ticket → Ticket) : (onTicket k f s).gemel = s.gemel := by
  simp only [onTicket]; split <;> simp
@[simp] theorem onTicket_set (k : Nat) (f : Ticket → Ticket) : (onTicket k f s).set = s.set := by
  simp only [onTicket]; split <;> simp
@[simp] theorem onTicket_jrn (k : Nat) (f : Ticket → Ticket) : (onTicket k f s).jrn = s.jrn := by
  simp only [onTicket]; split <;> simp
@[simp] theorem onTicket_out (k : Nat) (f : Ticket → Ticket) : (onTicket k f s).out = s.out := by
  simp only [onTicket]; split <;> simp
@[simp] theorem onTicket_mono (k : Nat) (f : Ticket → Ticket) : (onTicket k f s).mono = s.mono := by
  simp only [onTicket]; split <;> simp
@[simp] theorem onTicket_freeCtr (k : Nat) (f : Ticket → Ticket) : (onTicket k f s).freeCtr = s.freeCtr := by
  simp only [onTicket]; split <;> simp

@[simp] theorem setOst_pending (k : Nat) (o : OState) : (setOst k o s).pending = s.pending := by
  simp [setOst]
@[simp] theorem setOst_id (k : Nat) (o : OState) : (setOst k o s).id = s.id := by
  simp [setOst]
@[simp] theorem setOst_sys (k : Nat) (o : OState) : (setOst k o s).sys = s.sys := by
  simp [setOst]
@[simp] theorem setOst_host (k : Nat) (o : OState) : (setOst k o s).host = s.host := by
  simp [setOst]
@[simp] theorem setOst_flt (k : Nat) (o : OState) : (setOst k o s).flt = s.flt := by
  simp [setOst]
@[simp] theorem setOst_env (k : Nat) (o : OState) : (setOst k o s).env = s.env := by
  simp [setOst]
@[simp] theorem setOst_net (k : Nat) (o : OState) : (setOst k o s).net = s.net := by
  simp [setOst]
@[simp] theorem setOst_core (k : Nat) (o : OState) : (setOst k o s).core = s.core := by
  simp [setOst]
@[simp] theorem setOst_tile (k : Nat) (o : OState) : (setOst k o s).tile = s.tile := by
  simp [setOst]
@[simp] theorem setOst_mem (k : Nat) (o : OState) : (setOst k o s).mem = s.mem := by
  simp [setOst]
@[simp] theorem setOst_time (k : Nat) (o : OState) : (setOst k o s).time = s.time := by
  simp [setOst]
@[simp] theorem setOst_sched (k : Nat) (o : OState) : (setOst k o s).sched = s.sched := by
  simp [setOst]
@[simp] theorem setOst_snap (k : Nat) (o : OState) : (setOst k o s).snap = s.snap := by
  simp [setOst]
@[simp] theorem setOst_flash (k : Nat) (o : OState) : (setOst k o s).flash = s.flash := by
  simp [setOst]
@[simp] theorem setOst_set (k : Nat) (o : OState) : (setOst k o s).set = s.set := by
  simp [setOst]
@[simp] theorem setOst_jrn (k : Nat) (o : OState) : (setOst k o s).jrn = s.jrn := by
  simp [setOst]
@[simp] theorem setOst_mono (k : Nat) (o : OState) : (setOst k o s).mono = s.mono := by
  simp [setOst]
@[simp] theorem setOst_freeCtr (k : Nat) (o : OState) : (setOst k o s).freeCtr = s.freeCtr := by
  simp [setOst]

@[simp] theorem postFinal_pending (k : Nat) (st : CStatus) (r : Nat) : (postFinal k st r s).pending = s.pending := by
  simp only [postFinal]; split <;> simp
@[simp] theorem postFinal_id (k : Nat) (st : CStatus) (r : Nat) : (postFinal k st r s).id = s.id := by
  simp only [postFinal]; split <;> simp
@[simp] theorem postFinal_sys (k : Nat) (st : CStatus) (r : Nat) : (postFinal k st r s).sys = s.sys := by
  simp only [postFinal]; split <;> simp
@[simp] theorem postFinal_host (k : Nat) (st : CStatus) (r : Nat) : (postFinal k st r s).host = s.host := by
  simp only [postFinal]; split <;> simp
@[simp] theorem postFinal_flt (k : Nat) (st : CStatus) (r : Nat) : (postFinal k st r s).flt = s.flt := by
  simp only [postFinal]; split <;> simp
@[simp] theorem postFinal_env (k : Nat) (st : CStatus) (r : Nat) : (postFinal k st r s).env = s.env := by
  simp only [postFinal]; split <;> simp
@[simp] theorem postFinal_net (k : Nat) (st : CStatus) (r : Nat) : (postFinal k st r s).net = s.net := by
  simp only [postFinal]; split <;> simp
@[simp] theorem postFinal_tile (k : Nat) (st : CStatus) (r : Nat) : (postFinal k st r s).tile = s.tile := by
  simp only [postFinal]; split <;> simp
@[simp] theorem postFinal_mem (k : Nat) (st : CStatus) (r : Nat) : (postFinal k st r s).mem = s.mem := by
  simp only [postFinal]; split <;> simp
@[simp] theorem postFinal_time (k : Nat) (st : CStatus) (r : Nat) : (postFinal k st r s).time = s.time := by
  simp only [postFinal]; split <;> simp
@[simp] theorem postFinal_sched (k : Nat) (st : CStatus) (r : Nat) : (postFinal k st r s).sched = s.sched := by
  simp only [postFinal]; split <;> simp
@[simp] theorem postFinal_snap (k : Nat) (st : CStatus) (r : Nat) : (postFinal k st r s).snap = s.snap := by
  simp only [postFinal]; split <;> simp
@[simp] theorem postFinal_flash (k : Nat) (st : CStatus) (r : Nat) : (postFinal k st r s).flash = s.flash := by
  simp only [postFinal]; split <;> simp
@[simp] theorem postFinal_gemel (k : Nat) (st : CStatus) (r : Nat) : (postFinal k st r s).gemel = s.gemel := by
  simp only [postFinal]; split <;> simp
@[simp] theorem postFinal_set (k : Nat) (st : CStatus) (r : Nat) : (postFinal k st r s).set = s.set := by
  simp only [postFinal]; split <;> simp
@[simp] theorem postFinal_jrn (k : Nat) (st : CStatus) (r : Nat) : (postFinal k st r s).jrn = s.jrn := by
  simp only [postFinal]; split <;> simp
@[simp] theorem postFinal_mono (k : Nat) (st : CStatus) (r : Nat) : (postFinal k st r s).mono = s.mono := by
  simp only [postFinal]; split <;> simp
@[simp] theorem postFinal_freeCtr (k : Nat) (st : CStatus) (r : Nat) : (postFinal k st r s).freeCtr = s.freeCtr := by
  simp only [postFinal]; split <;> simp

@[simp] theorem endTicket_pending (k : Nat) (o : OState) (st : CStatus) (r : Nat) : (endTicket k o st r s).pending = s.pending := by
  simp only [endTicket]; (repeat' split) <;> simp
@[simp] theorem endTicket_id (k : Nat) (o : OState) (st : CStatus) (r : Nat) : (endTicket k o st r s).id = s.id := by
  simp only [endTicket]; (repeat' split) <;> simp
@[simp] theorem endTicket_sys (k : Nat) (o : OState) (st : CStatus) (r : Nat) : (endTicket k o st r s).sys = s.sys := by
  simp only [endTicket]; (repeat' split) <;> simp
@[simp] theorem endTicket_host (k : Nat) (o : OState) (st : CStatus) (r : Nat) : (endTicket k o st r s).host = s.host := by
  simp only [endTicket]; (repeat' split) <;> simp
@[simp] theorem endTicket_flt (k : Nat) (o : OState) (st : CStatus) (r : Nat) : (endTicket k o st r s).flt = s.flt := by
  simp only [endTicket]; (repeat' split) <;> simp
@[simp] theorem endTicket_env (k : Nat) (o : OState) (st : CStatus) (r : Nat) : (endTicket k o st r s).env = s.env := by
  simp only [endTicket]; (repeat' split) <;> simp
@[simp] theorem endTicket_net (k : Nat) (o : OState) (st : CStatus) (r : Nat) : (endTicket k o st r s).net = s.net := by
  simp only [endTicket]; (repeat' split) <;> simp
@[simp] theorem endTicket_tile (k : Nat) (o : OState) (st : CStatus) (r : Nat) : (endTicket k o st r s).tile = s.tile := by
  simp only [endTicket]; (repeat' split) <;> simp
@[simp] theorem endTicket_mem (k : Nat) (o : OState) (st : CStatus) (r : Nat) : (endTicket k o st r s).mem = s.mem := by
  simp only [endTicket]; (repeat' split) <;> simp
@[simp] theorem endTicket_time (k : Nat) (o : OState) (st : CStatus) (r : Nat) : (endTicket k o st r s).time = s.time := by
  simp only [endTicket]; (repeat' split) <;> simp
@[simp] theorem endTicket_sched (k : Nat) (o : OState) (st : CStatus) (r : Nat) : (endTicket k o st r s).sched = s.sched := by
  simp only [endTicket]; (repeat' split) <;> simp
@[simp] theorem endTicket_snap (k : Nat) (o : OState) (st : CStatus) (r : Nat) : (endTicket k o st r s).snap = s.snap := by
  simp only [endTicket]; (repeat' split) <;> simp
@[simp] theorem endTicket_flash (k : Nat) (o : OState) (st : CStatus) (r : Nat) : (endTicket k o st r s).flash = s.flash := by
  simp only [endTicket]; (repeat' split) <;> simp
@[simp] theorem endTicket_set (k : Nat) (o : OState) (st : CStatus) (r : Nat) : (endTicket k o st r s).set = s.set := by
  simp only [endTicket]; (repeat' split) <;> simp
@[simp] theorem endTicket_jrn (k : Nat) (o : OState) (st : CStatus) (r : Nat) : (endTicket k o st r s).jrn = s.jrn := by
  simp only [endTicket]; (repeat' split) <;> simp
@[simp] theorem endTicket_mono (k : Nat) (o : OState) (st : CStatus) (r : Nat) : (endTicket k o st r s).mono = s.mono := by
  simp only [endTicket]; (repeat' split) <;> simp
@[simp] theorem endTicket_freeCtr (k : Nat) (o : OState) (st : CStatus) (r : Nat) : (endTicket k o st r s).freeCtr = s.freeCtr := by
  simp only [endTicket]; (repeat' split) <;> simp

@[simp] theorem ticketDone_pending (k : Nat) : (ticketDone k s).pending = s.pending := by
  simp [ticketDone]
@[simp] theorem ticketDone_id (k : Nat) : (ticketDone k s).id = s.id := by
  simp [ticketDone]
@[simp] theorem ticketDone_sys (k : Nat) : (ticketDone k s).sys = s.sys := by
  simp [ticketDone]
@[simp] theorem ticketDone_host (k : Nat) : (ticketDone k s).host = s.host := by
  simp [ticketDone]
@[simp] theorem ticketDone_flt (k : Nat) : (ticketDone k s).flt = s.flt := by
  simp [ticketDone]
@[simp] theorem ticketDone_env (k : Nat) : (ticketDone k s).env = s.env := by
  simp [ticketDone]
@[simp] theorem ticketDone_net (k : Nat) : (ticketDone k s).net = s.net := by
  simp [ticketDone]
@[simp] theorem ticketDone_tile (k : Nat) : (ticketDone k s).tile = s.tile := by
  simp [ticketDone]
@[simp] theorem ticketDone_mem (k : Nat) : (ticketDone k s).mem = s.mem := by
  simp [ticketDone]
@[simp] theorem ticketDone_time (k : Nat) : (ticketDone k s).time = s.time := by
  simp [ticketDone]
@[simp] theorem ticketDone_sched (k : Nat) : (ticketDone k s).sched = s.sched := by
  simp [ticketDone]
@[simp] theorem ticketDone_snap (k : Nat) : (ticketDone k s).snap = s.snap := by
  simp [ticketDone]
@[simp] theorem ticketDone_flash (k : Nat) : (ticketDone k s).flash = s.flash := by
  simp [ticketDone]
@[simp] theorem ticketDone_set (k : Nat) : (ticketDone k s).set = s.set := by
  simp [ticketDone]
@[simp] theorem ticketDone_jrn (k : Nat) : (ticketDone k s).jrn = s.jrn := by
  simp [ticketDone]
@[simp] theorem ticketDone_mono (k : Nat) : (ticketDone k s).mono = s.mono := by
  simp [ticketDone]
@[simp] theorem ticketDone_freeCtr (k : Nat) : (ticketDone k s).freeCtr = s.freeCtr := by
  simp [ticketDone]

@[simp] theorem ticketFail_pending (k r : Nat) : (ticketFail k r s).pending = s.pending := by
  simp [ticketFail]
@[simp] theorem ticketFail_id (k r : Nat) : (ticketFail k r s).id = s.id := by
  simp [ticketFail]
@[simp] theorem ticketFail_sys (k r : Nat) : (ticketFail k r s).sys = s.sys := by
  simp [ticketFail]
@[simp] theorem ticketFail_host (k r : Nat) : (ticketFail k r s).host = s.host := by
  simp [ticketFail]
@[simp] theorem ticketFail_flt (k r : Nat) : (ticketFail k r s).flt = s.flt := by
  simp [ticketFail]
@[simp] theorem ticketFail_env (k r : Nat) : (ticketFail k r s).env = s.env := by
  simp [ticketFail]
@[simp] theorem ticketFail_net (k r : Nat) : (ticketFail k r s).net = s.net := by
  simp [ticketFail]
@[simp] theorem ticketFail_tile (k r : Nat) : (ticketFail k r s).tile = s.tile := by
  simp [ticketFail]
@[simp] theorem ticketFail_mem (k r : Nat) : (ticketFail k r s).mem = s.mem := by
  simp [ticketFail]
@[simp] theorem ticketFail_time (k r : Nat) : (ticketFail k r s).time = s.time := by
  simp [ticketFail]
@[simp] theorem ticketFail_sched (k r : Nat) : (ticketFail k r s).sched = s.sched := by
  simp [ticketFail]
@[simp] theorem ticketFail_snap (k r : Nat) : (ticketFail k r s).snap = s.snap := by
  simp [ticketFail]
@[simp] theorem ticketFail_flash (k r : Nat) : (ticketFail k r s).flash = s.flash := by
  simp [ticketFail]
@[simp] theorem ticketFail_set (k r : Nat) : (ticketFail k r s).set = s.set := by
  simp [ticketFail]
@[simp] theorem ticketFail_jrn (k r : Nat) : (ticketFail k r s).jrn = s.jrn := by
  simp [ticketFail]
@[simp] theorem ticketFail_mono (k r : Nat) : (ticketFail k r s).mono = s.mono := by
  simp [ticketFail]
@[simp] theorem ticketFail_freeCtr (k r : Nat) : (ticketFail k r s).freeCtr = s.freeCtr := by
  simp [ticketFail]

@[simp] theorem ticketResult_pending (k : Nat) (b : List Byte) : (ticketResult k b s).pending = s.pending := by
  simp [ticketResult]
@[simp] theorem ticketResult_id (k : Nat) (b : List Byte) : (ticketResult k b s).id = s.id := by
  simp [ticketResult]
@[simp] theorem ticketResult_sys (k : Nat) (b : List Byte) : (ticketResult k b s).sys = s.sys := by
  simp [ticketResult]
@[simp] theorem ticketResult_host (k : Nat) (b : List Byte) : (ticketResult k b s).host = s.host := by
  simp [ticketResult]
@[simp] theorem ticketResult_flt (k : Nat) (b : List Byte) : (ticketResult k b s).flt = s.flt := by
  simp [ticketResult]
@[simp] theorem ticketResult_env (k : Nat) (b : List Byte) : (ticketResult k b s).env = s.env := by
  simp [ticketResult]
@[simp] theorem ticketResult_net (k : Nat) (b : List Byte) : (ticketResult k b s).net = s.net := by
  simp [ticketResult]
@[simp] theorem ticketResult_core (k : Nat) (b : List Byte) : (ticketResult k b s).core = s.core := by
  simp [ticketResult]
@[simp] theorem ticketResult_tile (k : Nat) (b : List Byte) : (ticketResult k b s).tile = s.tile := by
  simp [ticketResult]
@[simp] theorem ticketResult_mem (k : Nat) (b : List Byte) : (ticketResult k b s).mem = s.mem := by
  simp [ticketResult]
@[simp] theorem ticketResult_time (k : Nat) (b : List Byte) : (ticketResult k b s).time = s.time := by
  simp [ticketResult]
@[simp] theorem ticketResult_sched (k : Nat) (b : List Byte) : (ticketResult k b s).sched = s.sched := by
  simp [ticketResult]
@[simp] theorem ticketResult_snap (k : Nat) (b : List Byte) : (ticketResult k b s).snap = s.snap := by
  simp [ticketResult]
@[simp] theorem ticketResult_flash (k : Nat) (b : List Byte) : (ticketResult k b s).flash = s.flash := by
  simp [ticketResult]
@[simp] theorem ticketResult_gemel (k : Nat) (b : List Byte) : (ticketResult k b s).gemel = s.gemel := by
  simp [ticketResult]
@[simp] theorem ticketResult_set (k : Nat) (b : List Byte) : (ticketResult k b s).set = s.set := by
  simp [ticketResult]
@[simp] theorem ticketResult_jrn (k : Nat) (b : List Byte) : (ticketResult k b s).jrn = s.jrn := by
  simp [ticketResult]
@[simp] theorem ticketResult_out (k : Nat) (b : List Byte) : (ticketResult k b s).out = s.out := by
  simp [ticketResult]
@[simp] theorem ticketResult_mono (k : Nat) (b : List Byte) : (ticketResult k b s).mono = s.mono := by
  simp [ticketResult]
@[simp] theorem ticketResult_freeCtr (k : Nat) (b : List Byte) : (ticketResult k b s).freeCtr = s.freeCtr := by
  simp [ticketResult]

end Sys2Proof.Machine
end

