-- ==== Sys2Proof/Safety.lean ====
section
/-! DEFINITION. What counts as a safe state of the module and as a safe change of it, in the terms that claims use. -/

set_option Elab.async false

namespace Sys2Proof

open Machine

/-- Every addressed memory of the module is in its canonical form: HBM, the tiles' scratchpads, the flash data and the
event recorder's SRAM. -/
def MemoriesOk (s : State) : Prop :=
  Memory.wf s.mem.hbm = true ∧ Memory.wf s.tile.spad = true ∧ Memory.wf s.flash.data = true ∧ Memory.wf s.flt.sram = true

/-- What no command may undo: the part stays the part it is, the queue of waiting commands is not touched, what has been
sent stays sent, time and the count of free values drawn do not run backwards, the firmware floor is never lowered
(R442), and memories stay in canonical form. -/
def Keeps (s t : State) : Prop :=
  t.id = s.id ∧ t.pending = s.pending ∧ s.out <+: t.out ∧ s.mono ≤ t.mono ∧ s.freeCtr ≤ t.freeCtr ∧
    s.sys.floor ≤ t.sys.floor ∧ (MemoriesOk s → MemoriesOk t)

/-! ### What a command may change: the parts of the state, one bit each -/

def pSys : Nat := 1
/-- Tickets and the number of the next one. -/
def pTickets : Nat := 2
def pHistory : Nat := 4
/-- Rings, sessions, entries being stored, completions owed, the journal's sequence number. -/
def pRings : Nat := 8
def pHost : Nat := 16
/-- Fault sources, the first-fault latch and the event recorder. -/
def pFault : Nat := 32
def pEnv : Nat := 64
/-- Lanes, links, bays, bindings in progress, storage ports. -/
def pLinks : Nat := 128
/-- Which granules of HBM are marked. -/
def pMarks : Nat := 256
/-- Lane-port queues, consumers, shapers, policers, spars. -/
def pQueues : Nat := 512
/-- The dies' cells, pools and landing frames. -/
def pDies : Nat := 1024
/-- Tiles, groups, programs. -/
def pTiles : Nat := 2048
def pScratchpad : Nat := 4096
/-- What surrounds HBM: bad blocks, self-refresh, streams, held host accesses. -/
def pMem : Nat := 8192
def pHbm : Nat := 16384
def pTime : Nat := 32768
def pSched : Nat := 65536
def pSnap : Nat := 131072
def pFlash : Nat := 262144
def pFlashData : Nat := 524288
def pTwin : Nat := 1048576
def pSettings : Nat := 2097152
/-- The journal's image of the settings. -/
def pJournal : Nat := 4194304
/-- What has been sent. -/
def pSent : Nat := 8388608
def pClock : Nat := 16777216
def pDrawn : Nat := 33554432

/-- Nothing differs but the parts of `m`. -/
def SameExcept (m : Nat) (s t : State) : Prop :=
  t.id = s.id ∧ t.pending = s.pending ∧
  (m.testBit 0 = false → t.sys = s.sys) ∧
  (m.testBit 1 = false → t.cmd.tickets = s.cmd.tickets ∧ t.cmd.serial = s.cmd.serial) ∧
  (m.testBit 2 = false → t.cmd.history = s.cmd.history) ∧
  (m.testBit 3 = false → { t.cmd with tickets := s.cmd.tickets, serial := s.cmd.serial, history := s.cmd.history } = s.cmd) ∧
  (m.testBit 4 = false → t.host = s.host) ∧
  (m.testBit 5 = false → t.flt = s.flt) ∧
  (m.testBit 6 = false → t.env = s.env) ∧
  (m.testBit 7 = false → { t.net with scrub := s.net.scrub } = s.net) ∧
  (m.testBit 8 = false → t.net.scrub = s.net.scrub) ∧
  (m.testBit 9 = false → { t.core with dies := s.core.dies } = s.core) ∧
  (m.testBit 10 = false → t.core.dies = s.core.dies) ∧
  (m.testBit 11 = false → { t.tile with spad := s.tile.spad } = s.tile) ∧
  (m.testBit 12 = false → t.tile.spad = s.tile.spad) ∧
  (m.testBit 13 = false → { t.mem with hbm := s.mem.hbm } = s.mem) ∧
  (m.testBit 14 = false → t.mem.hbm = s.mem.hbm) ∧
  (m.testBit 15 = false → t.time = s.time) ∧
  (m.testBit 16 = false → t.sched = s.sched) ∧
  (m.testBit 17 = false → t.snap = s.snap) ∧
  (m.testBit 18 = false → { t.flash with data := s.flash.data } = s.flash) ∧
  (m.testBit 19 = false → t.flash.data = s.flash.data) ∧
  (m.testBit 20 = false → t.gemel = s.gemel) ∧
  (m.testBit 21 = false → t.set = s.set) ∧
  (m.testBit 22 = false → t.jrn = s.jrn) ∧
  (m.testBit 23 = false → t.out = s.out) ∧
  (m.testBit 24 = false → t.mono = s.mono) ∧
  (m.testBit 25 = false → t.freeCtr = s.freeCtr)

/-- The parts of the state that a command may change; every other part is as it was, whatever the command's operands and
whatever the state. -/
def footprint : Instr → Nat
  | .nop .. | .caps .. | .ping .. | .devCaps .. | .devState .. | .devRestart .. | .devSelftest .. | .devHostquery ..
    | .portQuery .. | .laneTest .. | .optRead .. | .optInspect .. | .optClean .. | .cartRead .. | .cartRescan ..
    | .routeCommit .. | .routeHold .. | .routeQuery .. | .routeCongmap .. | .routeSparstats .. | .sliceBind ..
    | .sliceDisable .. | .sliceQuery .. | .qosGatewrite .. | .qosGatequery .. | .qosQstats .. | .qosPstats ..
    | .qosPoolquery .. | .groupDisable .. | .groupMissing .. | .groupPoolquery .. | .groupUpdquery .. | .tileLoad ..
    | .tileProgquery .. | .tileUpdquery .. | .tileQuery .. | .tileSelftest .. | .schedLoad .. | .schedEnable ..
    | .schedQuery .. | .schedTimequery .. | .schedAuditread .. | .snapPlanquery .. | .snapDrain .. | .snapRestore ..
    | .snapList .. | .snapQuery .. | .flashHealth .. | .flashScan .. | .flashBbtread .. | .flashFormat ..
    | .gemelPair .. | .gemelQuery .. | .gemelAdopt .. | .gemelResync .. | .envQuery .. | .envSensors .. | .envPsu ..
    | .envTrayquery .. | .faultQuery .. | .faultIsolate .. | .faultRelease .. | .eventRead .. | .cfgWrite ..
    | .cfgRead .. | .fwStage .. | .fwActivate .. | .fwQuery .. | .secCerts .. | .cfgJournalinit .. | .opQuery ..
    | .opSuspend .. | .opList .. | .holdDrained .. | .commitDrainTimeout .. | .pairTimeout .. | .cancelUndoDone .. =>
      pTickets + pHistory + pRings + pQueues + pDies + pTwin + pSent
  | .devService .. =>
      pSys + pTickets + pHistory + pRings + pFault + pEnv + pQueues + pDies + pTwin + pSettings + pJournal + pSent
  | .devMgmtcfg .. | .portSplit .. | .portPower .. | .portLinkcfg .. | .portEthcfg .. | .routeWrite ..
    | .routeCmapcfg .. | .sliceEnable .. | .qosServicecfg .. | .qosSubcfg .. | .qosShapecfg .. | .qosMarkcfg ..
    | .groupConfig .. | .groupUpdcfg .. | .schedAuditcfg .. | .snapReelcfg .. | .flashScancfg .. | .envRampcfg ..
    | .envBrakecfg .. | .faultClasscfg .. | .eventTrigcfg .. =>
      pTickets + pHistory + pRings + pQueues + pDies + pTwin + pSettings + pJournal + pSent
  | .portEnable .. =>
      pTickets + pHistory + pRings + pFault + pLinks + pQueues + pDies + pTwin + pSettings + pJournal + pSent
  | .portDisable .. | .cartOverride .. | .cartRecordReadDone .. =>
      pTickets + pHistory + pRings + pFault + pEnv + pLinks + pQueues + pDies + pTiles + pTime + pSched + pTwin
       + pSettings + pJournal + pSent
  | .laneStats .. | .portLstats .. | .laneTestEnd .. =>
      pTickets + pHistory + pRings + pLinks + pQueues + pDies + pTwin + pSent
  | .routeRelease .. =>
      pTickets + pHistory + pRings + pFault + pEnv + pLinks + pMarks + pQueues + pDies + pTiles + pScratchpad + pMem
       + pHbm + pSched + pTwin + pSent
  | .qosPolicecfg .. | .qosPoolcfg .. | .commitDrained .. | .gateTakeover .. =>
      pTickets + pHistory + pRings + pFault + pQueues + pDies + pTwin + pSettings + pJournal + pSent
  | .groupEnable .. | .tileUpdbind .. | .tileUpdunbind .. | .tilePower .. =>
      pTickets + pHistory + pRings + pQueues + pDies + pTiles + pTwin + pSettings + pJournal + pSent
  | .groupAbort .. =>
      pTickets + pHistory + pRings + pFault + pLinks + pQueues + pDies + pTiles + pSched + pTwin + pSent
  | .groupQuery .. =>
      pTickets + pHistory + pRings + pFault + pLinks + pQueues + pDies + pTiles + pTwin + pSent
  | .groupNanread .. | .tileUnload .. | .groupDisableDone .. =>
      pTickets + pHistory + pRings + pQueues + pDies + pTiles + pTwin + pSent
  | .schedUnload .. | .schedDisable .. =>
      pTickets + pHistory + pRings + pQueues + pDies + pSched + pTwin + pSent
  | .schedStop .. =>
      pTickets + pHistory + pRings + pFault + pEnv + pLinks + pQueues + pDies + pTiles + pSched + pTwin + pSent
  | .schedTimecfg .. =>
      pTickets + pHistory + pRings + pFault + pQueues + pDies + pTime + pTwin + pSettings + pJournal + pSent
  | .snapPlan .. =>
      pTickets + pHistory + pRings + pFault + pMarks + pQueues + pDies + pSnap + pFlash + pTwin + pSettings + pJournal
       + pSent
  | .snapSeal .. =>
      pTickets + pHistory + pRings + pQueues + pDies + pSnap + pTwin + pSent
  | .snapReelenable .. | .scanBlockRead .. | .flashDieUnresponsive .. =>
      pTickets + pHistory + pRings + pFault + pQueues + pDies + pSnap + pFlash + pTwin + pSettings + pJournal + pSent
  | .snapTarget .. =>
      pTickets + pHistory + pRings + pLinks + pQueues + pDies + pSnap + pTwin + pSettings + pJournal + pSent
  | .gemelUnpair .. | .dmawr .. | .roceAckTimeout .. | .nvmeKeepAlive .. | .targetFlushDone .. =>
      pTickets + pHistory + pRings + pFault + pLinks + pQueues + pDies + pTiles + pSched + pSnap + pFlash + pTwin
       + pSettings + pJournal + pSent
  | .envCap .. | .envOrphancfg .. | .envTraycfg .. =>
      pTickets + pHistory + pRings + pFault + pEnv + pQueues + pDies + pTwin + pSettings + pJournal + pSent
  | .envHeartbeat .. =>
      pSys + pTickets + pHistory + pRings + pFault + pEnv + pQueues + pDies + pTwin + pSent
  | .envRipcord .. | .vsb12Lost .. | .pwrOkDeassert .. | .vin40Fault .. | .headlessRestart .. | .thermalTrip .. =>
      pSys + pTickets + pHistory + pRings + pHost + pFault + pEnv + pLinks + pMarks + pQueues + pDies + pTiles
       + pScratchpad + pMem + pHbm + pTime + pSched + pSnap + pFlash + pTwin + pSettings + pSent
  | .faultClear .. | .faultReportBatch .. | .faultQuietExpire .. | .releaseTestDone .. =>
      pSys + pTickets + pHistory + pRings + pFault + pEnv + pLinks + pMarks + pQueues + pDies + pTiles + pScratchpad
       + pMem + pHbm + pTime + pSched + pSnap + pFlash + pTwin + pSettings + pJournal + pSent
  | .eventRestart .. | .syncDoneRx .. =>
      pTickets + pHistory + pRings + pFault + pQueues + pDies + pTwin + pSent
  | .secFloor .. =>
      pSys + pTickets + pHistory + pRings + pFault + pQueues + pDies + pTwin + pSent
  | .opResume .. | .offerRx .. | .mirrorAckRx .. | .twinLost .. | .mramWriteDone .. | .mramFail .. | .commandTake ..
    | .ticketStart .. | .operationFinish .. | .startupDone .. | .keelWatchdogExpire .. =>
      pSys + pTickets + pHistory + pRings + pHost + pFault + pEnv + pLinks + pMarks + pQueues + pDies + pTiles
       + pScratchpad + pMem + pHbm + pTime + pSched + pSnap + pFlash + pTwin + pSettings + pJournal + pSent
  | .opCancel .. | .updateEntry .. | .ethPacketRx .. | .windowRead .. | .windowWrite .. | .fence .. | .pageDataRx ..
    | .flashReadDone .. =>
      pTickets + pHistory + pRings + pFault + pEnv + pLinks + pMarks + pQueues + pDies + pTiles + pScratchpad + pMem
       + pHbm + pSched + pSnap + pFlash + pTwin + pSettings + pJournal + pSent
  | .tileNop .. | .vld .. | .vzero .. | .sli .. | .saddi .. | .sfmul .. | .sfadd .. | .sldu .. | .dmard ..
    | .dmawait .. | .loop .. =>
      pFault + pLinks + pQueues + pDies + pTiles + pSched + pSent
  | .vst .. | .vstc .. =>
      pFault + pLinks + pQueues + pDies + pTiles + pScratchpad + pSched + pSent
  | .vadd .. | .vsub .. | .vmul .. | .vfma .. | .vema .. | .vaxpby .. | .vrsqa .. | .vmin .. | .vmax .. | .endEntry ..
    | .poolRoomAvailable .. | .fallbackTimeout .. =>
      pRings + pFault + pLinks + pQueues + pDies + pTiles + pSched + pSnap + pTwin + pSettings + pJournal + pSent
  | .combineEntry .. =>
      pFault + pEnv + pLinks + pMarks + pQueues + pDies + pTiles + pScratchpad + pMem + pHbm + pSched + pSent
  | .finaliseEntry .. | .dmaComplete .. | .contribRx .. | .resultRx .. | .fallbackNoticeRx .. | .recomputeNoticeRx ..
    | .treeDoneRx .. =>
      pRings + pFault + pEnv + pLinks + pMarks + pQueues + pDies + pTiles + pScratchpad + pMem + pHbm + pSched + pSnap
       + pTwin + pSettings + pJournal + pSent
  | .tileIdleGate .. | .tileLiftDone .. | .tileReloadDone .. =>
      pTiles
  | .tileSelftestDone .. =>
      pTickets + pHistory + pRings + pFault + pQueues + pDies + pTiles + pScratchpad + pTwin + pSent
  | .frameArrival .. =>
      pRings + pFault + pEnv + pLinks + pMarks + pQueues + pDies + pTiles + pScratchpad + pMem + pHbm + pTime + pSched
       + pSent
  | .frameStored .. | .sparRetrain .. =>
      pQueues
  | .egressGrant .. | .frameTransmit .. | .freeStoreAudit .. | .partialFrameTimeout .. | .launchRx .. | .haltRx ..
    | .schedDueEntry .. | .powerMeasurement .. | .vinDrogueLow .. =>
      pFault + pEnv + pLinks + pQueues + pDies + pTiles + pSched + pSent
  | .tableEntryRewrite .. | .dieClockStop .. | .dieClockLiftDone .. =>
      pDies
  | .sparSlotFill .. =>
      pFault + pQueues + pDies + pSent
  | .sparCellLand .. | .drainForced .. =>
      pFault + pLinks + pQueues + pDies + pSent
  | .sparUp .. =>
      pFault + pQueues + pSent
  | .congestionMapPeriod .. =>
      pQueues + pDies
  | .bindFenceAcked .. | .bindDrainEnd .. | .laneRetry .. | .liftComplete .. | .optReadingUpdate ..
    | .cleanDurationEnd .. | .roceRateRestore .. =>
      pLinks
  | .bindScrubEnd .. =>
      pTickets + pHistory + pRings + pFault + pLinks + pMarks + pQueues + pDies + pTiles + pScratchpad + pTwin
       + pSettings + pJournal + pSent
  | .sliceDrainEnd .. =>
      pTickets + pHistory + pRings + pLinks + pQueues + pDies + pTwin + pSettings + pJournal + pSent
  | .scrubGranuleFill .. =>
      pMarks + pMem + pHbm
  | .lanePowerUpEnd .. | .trainBlockDue .. | .lockingTimeout .. | .exchangeTimeout .. | .retrainEnd ..
    | .miscabledRecheck .. | .storageLinkLock .. =>
      pFault + pLinks + pSent
  | .lossOfSignal .. | .lossOfLock .. | .refclkLoss .. | .cartPoll .. | .tetherBlockRx .. | .linkCtlRx ..
    | .trainRx .. | .replayTimeout .. | .holdoverTimeout .. =>
      pFault + pEnv + pLinks + pQueues + pDies + pTiles + pTime + pSched + pSent
  | .dozeIdleTimeout .. | .dozeBlockRx .. | .creditReturnDue .. =>
      pLinks + pSent
  | .inspectConnectorDone .. | .cleanWaitEnd .. =>
      pTickets + pHistory + pRings + pFault + pLinks + pQueues + pDies + pTwin + pSent
  | .linkFlushTimeout .. =>
      pFault + pLinks + pDies + pSent
  | .targetReconnect .. =>
      pLinks + pSnap + pSent
  | .gateFreeRunStart .. =>
      pFault + pQueues + pSettings + pJournal + pSent
  | .claimRetry .. | .basketRelease .. =>
      pFault + pLinks + pMarks + pQueues + pDies + pTiles + pScratchpad + pMem + pHbm + pSent
  | .groupWatchdog .. =>
      pFault + pTiles + pSent
  | .updraftMemberRx .. | .sweepRx .. =>
      pRings + pFault + pEnv + pLinks + pQueues + pDies + pTiles + pSched + pSent + pDrawn
  | .updraftDoneNoticeRx .. | .refillRx .. | .interruptedNoticeRx .. =>
      pRings + pFault + pEnv + pLinks + pQueues + pDies + pTiles + pSched + pSent
  | .updraftResend .. =>
      pFault + pLinks + pQueues + pTiles + pSent
  | .streamMarkExpire .. =>
      pMem
  | .cxlMemRead .. | .cxlMemWrite .. =>
      pTickets + pHistory + pRings + pHost + pFault + pLinks + pMarks + pQueues + pDies + pMem + pHbm + pSnap + pFlash
       + pTwin + pSettings + pJournal + pSent
  | .syncDue .. =>
      pTime + pSent
  | .syncRx .. | .delayRespRx .. | .exchangeMissing .. =>
      pFault + pQueues + pTime + pSent
  | .delayReqRx .. | .mirrorResendTimeout .. | .identifyMemoryDevice .. | .getSupportedLogs .. | .getLog ..
    | .getHealthInfo .. | .mailboxUnsupported .. =>
      pSent
  | .armedRx .. =>
      pSched + pSent
  | .syncPpsEdge .. =>
      pTime
  | .schedArmed .. =>
      pTickets + pHistory + pRings + pEnv + pQueues + pDies + pSched + pTwin + pSent
  | .schedLaunchTime .. =>
      pFault + pSched + pSent
  | .schedSparEntry .. | .schedEgressEntry .. | .schedRefreshEntry .. | .schedUpdEntry .. | .schedFlagEntry .. =>
      pSched
  | .schedClaimEntry .. =>
      pFault + pLinks + pMarks + pDies + pTiles + pScratchpad + pMem + pHbm + pSched + pSent
  | .schedIssueEntry .. =>
      pTiles + pSched
  | .schedPowerEntry .. =>
      pEnv + pSched
  | .schedLiftEntry .. | .schedGateEntry .. =>
      pTiles + pMem + pSched
  | .schedPeriodEnd .. =>
      pFault + pEnv + pSched + pSent
  | .sealTakeEffect .. =>
      pRings + pFault + pLinks + pSnap + pFlash + pTwin + pSettings + pJournal + pSent
  | .moverPiece .. =>
      pTickets + pHistory + pRings + pFault + pLinks + pQueues + pDies + pTiles + pMem + pSched + pSnap + pFlash
       + pTwin + pSettings + pJournal + pSent
  | .snapDataRx .. =>
      pFault + pEnv + pLinks + pMarks + pQueues + pDies + pTiles + pMem + pHbm + pSched + pSnap + pSent
  | .snapHeaderRx .. | .noCopyRx .. =>
      pFault + pEnv + pLinks + pQueues + pDies + pTiles + pSched + pSnap + pSent
  | .snapAckRx .. =>
      pTickets + pHistory + pRings + pFault + pEnv + pLinks + pQueues + pDies + pTiles + pSched + pSnap + pFlash
       + pTwin + pSettings + pJournal + pSent
  | .pageReqRx .. =>
      pFault + pEnv + pLinks + pQueues + pDies + pTiles + pMem + pSched + pSnap + pSent
  | .restoreComplete .. =>
      pTickets + pHistory + pRings + pFault + pLinks + pMarks + pQueues + pDies + pTiles + pMem + pHbm + pSnap
       + pFlash + pTwin + pSettings + pJournal + pSent
  | .pageProgramDone .. | .eraseComplete .. =>
      pTickets + pHistory + pRings + pFault + pQueues + pDies + pSnap + pFlash + pFlashData + pTwin + pSettings
       + pJournal + pSent
  | .releaseAfterRead .. | .scanDue .. =>
      pFlash
  | .offerDue .. | .heartbeatDue .. | .evrRestartWrite .. | .headlessFaultReportRx .. =>
      pFault + pSent
  | .mirrorEntryRx .. | .keelLostRx .. =>
      pFault + pTwin + pSent
  | .heartbeatRx .. | .soloRoleRestore .. =>
      pTwin
  | .sqDoorbell .. | .cqDoorbell .. | .sessionIdle .. =>
      pRings + pFault + pSent
  | .ringEnable .. | .segmentTimeout .. =>
      pRings + pQueues + pDies + pSent
  | .ringDisable .. =>
      pRings
  | .helloRx .. =>
      pRings + pFault + pLinks + pQueues + pDies + pMem + pSent + pDrawn
  | .finishRx .. | .commandCapsuleRx .. | .closeRx .. =>
      pRings + pFault + pQueues + pDies + pSent
  | .suspendPointReached .. =>
      pTickets + pHistory + pRings + pSnap + pTwin + pSent
  | .spdmGetVersion .. | .spdmGetCapabilities .. | .spdmNegotiateAlgorithms .. | .spdmGetDigests ..
    | .spdmGetCertificate .. | .mgmtPacketRx .. | .ftNowRead .. | .lowHalfRead .. =>
      pHost + pSent
  | .spdmChallenge .. | .spdmGetMeasurements .. =>
      pHost + pSent + pDrawn
  | .doeAbort .. =>
      0
  | .hdmDecoderCommit .. | .perstDeassert .. =>
      pHost
  | .perstAssert .. =>
      pRings + pHost + pFault + pSent
  | .hostLinkChange .. | .mgmtLinkChange .. =>
      pHost + pFault + pSent
  | .registerWrite .. =>
      pRings + pHost + pFault + pEnv
  | .fltFirstClear .. | .faultWindowExpire .. =>
      pFault
  | .vsb12Up .. | .pwrOkAssert .. =>
      pSys + pEnv
  | .keelUpEntry .. =>
      pSys + pHost + pFault + pEnv + pLinks + pMarks + pQueues + pDies + pTiles + pScratchpad + pMem + pHbm + pSched
       + pSnap + pFlash + pTwin + pSettings + pJournal + pSent
  | .sensorReading .. | .pumpConditionStart .. =>
      pSys + pFault + pEnv + pLinks + pMarks + pQueues + pDies + pTiles + pScratchpad + pMem + pHbm + pSched + pSnap
       + pFlash + pTwin + pSettings + pJournal + pSent
  | .droguePresetUpdate .. | .drogueEnd .. | .pumpConditionEnd .. =>
      pEnv
  | .drogueAssert .. | .ripcordInput .. | .leakInput .. | .stopConditionCleared .. =>
      pSys + pFault + pEnv + pLinks + pMarks + pQueues + pDies + pTiles + pScratchpad + pMem + pHbm + pSched + pSnap
       + pFlash + pTwin + pSent
  | .capDeadline .. | .keelLossOrphanCap .. | .psuPoll .. | .psuAlertInput .. =>
      pFault + pEnv + pSent
  | .heartbeatMissed .. =>
      pSys + pFault + pEnv + pSent

/-! ### Commands served -/

/-- Nothing stands between a command and its effect: the module can take it now (R390, R391), it is no replay of a command
in its client's history (R396), none of Table 17-7 refuses it (`lenOk`, `priv` and `chk` are its owner's conditions), and, if it journals, its entry is stored at
once (R394; with a twin it waits for the twin's acknowledgement, R366). -/
def clears (op : Nat) (lenOk : Bool) (priv : Nat) (chk : Option Nat) (q : Req) (s : State) : Bool :=
  s.cmd.finishing.isNone && canTake (cat op) q s &&
    (!q.entry.replay || (histFind (takeCmd q s) (clientOf s q.from_) q.entry.cmdId).isNone) &&
    (verdict (cat op) lenOk priv chk q (takeCmd q s)).isNone &&
    (!journals (cat op) || (!journalLost (takeCmd q s) && !mustAck (takeCmd q s)))

/-- The command taken, its effect `f` applied, its entry journaled, its completion posted: DONE with the result of `f`, or
ACCEPTED with a new ticket (R391, R395, R399). -/
def served (op : Nat) (f : State → State × List Byte) (q : Req) (s : State) : State :=
  commit (cat op) f true q (clientOf s q.from_) (ringOf s q.from_.ring).sqHead (takenSeqs q s) (takeCmd q s)

/-- A query answered: the command taken and completed DONE with a result, nothing else changed. -/
def answered (op : Nat) (res : List Byte) (q : Req) (s : State) : State :=
  complete (cat op) q (clientOf s q.from_) (ringOf s q.from_.ring).sqHead (takenSeqs q s) .done 0 0 res (takeCmd q s)

/-- A long operation accepted on slot `k`: a QUEUED ticket under the next serial, its entry journaled, the completion
ACCEPTED with the ticket's number (R391, R399). `priv` is the privilege the command needed. -/
def queuedOn (op priv k : Nat) (q : Req) (s : State) : State :=
  let c : CmdSpec := { cat op with priv := priv }
  let u := takeCmd q s
  let t := newTicket c q k u
  let v := histAdd (entryFor c q u (newCpl c q .accepted 0 t.ticket 0 u)) (journalE (entryFor c q u (newCpl c q .accepted 0 t.ticket 0 u)) u)
  complete c q (clientOf s q.from_) (ringOf s q.from_.ring).sqHead (takenSeqs q s) .accepted 0 t.ticket []
    (onCmd (fun x => { x with tickets := mput x.tickets k t, serial := nextSerial x.serial }) v)

/-- As `clears`, but the entry must wait for the twin (R366). -/
def clearsToTwin (op : Nat) (lenOk : Bool) (priv : Nat) (chk : Option Nat) (q : Req) (s : State) : Bool :=
  s.cmd.finishing.isNone && canTake (cat op) q s &&
    (!q.entry.replay || (histFind (takeCmd q s) (clientOf s q.from_) q.entry.cmdId).isNone) &&
    (verdict (cat op) lenOk priv chk q (takeCmd q s)).isNone &&
    journals (cat op) && !journalLost (takeCmd q s) && mustAck (takeCmd q s)

/-- A command taken and its entry written and mirrored: it is applied and completed once the twin has the entry (R366, R394). -/
def awaitsTwin (op : Nat) (q : Req) (s : State) : State :=
  let c := cat op
  let u := takeCmd q s
  let v := journalE (entryFor c q u (newCpl c q (if c.long then .accepted else .done) 0 0 0 u)) u
  onCmd (fun x => { x with storing :=
    [⟨v.cmd.jseq, q, clientOf s q.from_, (ringOf s q.from_.ring).sqHead, takenSeqs q s, !v.gemel.mramOk, false⟩] }) v

/-- A long operation whose entry is stored, accepted on slot `k`: as `queuedOn`, without taking or journaling it again. -/
def queuedStored (op priv k : Nat) (x : Storing) (s : State) : State :=
  let c : CmdSpec := { cat op with priv := priv }
  let u := onCmd (fun r => { r with finishing := none }) s
  let t := newTicket c x.req k u
  let v := histAdd (entryFor c x.req u (newCpl c x.req .accepted 0 t.ticket 0 u)) u
  complete c x.req x.client x.slot x.seqs .accepted 0 t.ticket []
    (onCmd (fun r => { r with tickets := mput r.tickets k t, serial := nextSerial r.serial }) v)

/-- The opcode and the entry of an Onreham command; none for the rows that are no Onreham command. -/
def commandOf : Instr → Option (Nat × Req)
  | .nop q => some (0x0000, q)
  | .caps q => some (0x0001, q)
  | .ping q => some (0x0002, q)
  | .devCaps q => some (0x0101, q)
  | .devState q => some (0x0102, q)
  | .devService q => some (0x0103, q)
  | .devRestart q => some (0x0104, q)
  | .devSelftest q => some (0x0105, q)
  | .devMgmtcfg q => some (0x0106, q)
  | .devHostquery q => some (0x0107, q)
  | .portEnable q => some (0x0201, q)
  | .portDisable q => some (0x0202, q)
  | .portSplit q => some (0x0203, q)
  | .portPower q => some (0x0204, q)
  | .portQuery q => some (0x0205, q)
  | .laneStats q => some (0x0206, q)
  | .laneTest q => some (0x0207, q)
  | .optRead q => some (0x0208, q)
  | .optInspect q => some (0x0209, q)
  | .optClean q => some (0x020A, q)
  | .portLinkcfg q => some (0x020B, q)
  | .portLstats q => some (0x020C, q)
  | .portEthcfg q => some (0x020D, q)
  | .cartRead q => some (0x0301, q)
  | .cartOverride q => some (0x0302, q)
  | .cartRescan q => some (0x0303, q)
  | .routeWrite q => some (0x0401, q)
  | .routeCommit q => some (0x0402, q)
  | .routeHold q => some (0x0403, q)
  | .routeRelease q => some (0x0404, q)
  | .routeQuery q => some (0x0405, q)
  | .routeCongmap q => some (0x0406, q)
  | .routeCmapcfg q => some (0x0407, q)
  | .routeSparstats q => some (0x0408, q)
  | .sliceBind q => some (0x0501, q)
  | .sliceEnable q => some (0x0502, q)
  | .sliceDisable q => some (0x0503, q)
  | .sliceQuery q => some (0x0504, q)
  | .qosServicecfg q => some (0x0601, q)
  | .qosSubcfg q => some (0x0602, q)
  | .qosShapecfg q => some (0x0603, q)
  | .qosPolicecfg q => some (0x0604, q)
  | .qosGatewrite q => some (0x0605, q)
  | .qosGatequery q => some (0x0606, q)
  | .qosQstats q => some (0x0607, q)
  | .qosPstats q => some (0x0608, q)
  | .qosPoolcfg q => some (0x0640, q)
  | .qosPoolquery q => some (0x0641, q)
  | .qosMarkcfg q => some (0x0642, q)
  | .groupConfig q => some (0x0701, q)
  | .groupEnable q => some (0x0702, q)
  | .groupDisable q => some (0x0703, q)
  | .groupAbort q => some (0x0704, q)
  | .groupQuery q => some (0x0705, q)
  | .groupMissing q => some (0x0706, q)
  | .groupPoolquery q => some (0x0707, q)
  | .groupUpdcfg q => some (0x0708, q)
  | .groupUpdquery q => some (0x0709, q)
  | .groupNanread q => some (0x0780, q)
  | .tileLoad q => some (0x0801, q)
  | .tileUnload q => some (0x0802, q)
  | .tileProgquery q => some (0x0803, q)
  | .tileUpdbind q => some (0x0804, q)
  | .tileUpdunbind q => some (0x0805, q)
  | .tileUpdquery q => some (0x0806, q)
  | .tileQuery q => some (0x0840, q)
  | .tilePower q => some (0x0841, q)
  | .tileSelftest q => some (0x0842, q)
  | .schedLoad q => some (0x0901, q)
  | .schedUnload q => some (0x0902, q)
  | .schedEnable q => some (0x0903, q)
  | .schedStop q => some (0x0904, q)
  | .schedDisable q => some (0x0905, q)
  | .schedQuery q => some (0x0906, q)
  | .schedTimecfg q => some (0x0907, q)
  | .schedTimequery q => some (0x0908, q)
  | .schedAuditcfg q => some (0x0909, q)
  | .schedAuditread q => some (0x090A, q)
  | .snapPlan q => some (0x0A01, q)
  | .snapPlanquery q => some (0x0A02, q)
  | .snapSeal q => some (0x0A03, q)
  | .snapReelcfg q => some (0x0A04, q)
  | .snapReelenable q => some (0x0A05, q)
  | .snapTarget q => some (0x0A06, q)
  | .snapDrain q => some (0x0A07, q)
  | .snapRestore q => some (0x0A08, q)
  | .snapList q => some (0x0A09, q)
  | .snapQuery q => some (0x0A0A, q)
  | .flashHealth q => some (0x0B01, q)
  | .flashScan q => some (0x0B02, q)
  | .flashScancfg q => some (0x0B03, q)
  | .flashBbtread q => some (0x0B04, q)
  | .flashFormat q => some (0x0B05, q)
  | .gemelPair q => some (0x0C01, q)
  | .gemelUnpair q => some (0x0C02, q)
  | .gemelQuery q => some (0x0C03, q)
  | .gemelAdopt q => some (0x0C04, q)
  | .gemelResync q => some (0x0C05, q)
  | .envCap q => some (0x0D01, q)
  | .envRampcfg q => some (0x0D02, q)
  | .envBrakecfg q => some (0x0D03, q)
  | .envOrphancfg q => some (0x0D04, q)
  | .envHeartbeat q => some (0x0D05, q)
  | .envQuery q => some (0x0D06, q)
  | .envSensors q => some (0x0D07, q)
  | .envPsu q => some (0x0D08, q)
  | .envRipcord q => some (0x0D09, q)
  | .envTraycfg q => some (0x0D0A, q)
  | .envTrayquery q => some (0x0D0B, q)
  | .faultQuery q => some (0x0E01, q)
  | .faultClasscfg q => some (0x0E02, q)
  | .faultIsolate q => some (0x0E03, q)
  | .faultRelease q => some (0x0E04, q)
  | .faultClear q => some (0x0E05, q)
  | .eventTrigcfg q => some (0x0E06, q)
  | .eventRead q => some (0x0E07, q)
  | .eventRestart q => some (0x0E08, q)
  | .cfgWrite q => some (0x0F01, q)
  | .cfgRead q => some (0x0F02, q)
  | .fwStage q => some (0x0F03, q)
  | .fwActivate q => some (0x0F04, q)
  | .fwQuery q => some (0x0F05, q)
  | .secCerts q => some (0x0F06, q)
  | .secFloor q => some (0x0F07, q)
  | .cfgJournalinit q => some (0x0F08, q)
  | .opQuery q => some (0x1001, q)
  | .opSuspend q => some (0x1002, q)
  | .opResume q => some (0x1003, q)
  | .opCancel q => some (0x1004, q)
  | .opList q => some (0x1005, q)
  | _ => none

/-- Does a command come to its owner's conditions: taken now, no replay of a command in its client's history, its lengths
right, its client privileged enough, the module's state one that accepts it, its reserved fields 0 (steps 1 to 4 of
Table 17-7)? -/
def reaches (op : Nat) (lenOk : Bool) (priv : Nat) (q : Req) (s : State) : Bool :=
  s.cmd.finishing.isNone && canTake (cat op) q s &&
    (!q.entry.replay || (histFind (takeCmd q s) (clientOf s q.from_) q.entry.cmdId).isNone) &&
    dataLenOk q && lenOk && decide (priv ≤ privOf (takeCmd q s) q.from_) && stateOk (cat op) (takeCmd q s) &&
    q.entry.rsvd == 0 && !rsvdBits (cat op) q.entry.param &&
    (onHostRing q || 48 ≤ (cat op).buf || prm q (cat op).buf 8 == 0)

/-- A command taken and completed REFUSED for a reason. -/
def refusedWith (op r : Nat) (q : Req) (s : State) : State :=
  complete (cat op) q (clientOf s q.from_) (ringOf s q.from_.ring).sqHead (takenSeqs q s) .refused r 0 [] (takeCmd q s)

/-- Tile `t` runs program `r` and fetches a word that spells, in the bits of `mask`, `word` and is an instruction. -/
def AtInsn (s : State) (t word mask : Nat) (r : Running) : Prop :=
  issuing s t = some r ∧ ((fetchInsn s t r).any fun w => insnOk w && w &&& mask == word) = true

/-- Is a command's voltage within the values of Table 23-2, beyond which no behaviour is stated (R491)? -/
def withinRatings : Instr → Bool
  | .vsb12Up cv => cv ≤ 1400
  | .vin40Fault cv => cv ≤ 6000
  | .powerMeasurement vin _ => vin ≤ 6000
  | .vinDrogueLow cv => cv ≤ 6000
  | .drogueEnd cv => cv ≤ 6000
  | _ => true

end Sys2Proof
end

