-- ==== Sys2Proof/Laws/Served.lean ====
section
/-! SUPPORT. What handling one command does once nothing stands between it and its effect. -/

set_option Elab.async false

namespace Sys2Proof.Machine

theorem runCommand_clears {op priv : Nat} {lenOk : Bool} {chk : Option Nat} {q : Req} {s : State} (res : List Byte)
    (f : State → State × List Byte) (h : clears op lenOk priv chk q s = true) :
    runCommand (cat op) lenOk priv chk res f q s =
      commit (if (cat op).long then { cat op with priv := priv } else cat op) f true q (clientOf s q.from_)
        (ringOf s q.from_.ring).sqHead (takenSeqs q s) (takeCmd q s) := by
  simp only [clears, Bool.and_eq_true, Option.isNone_iff_eq_none, Bool.not_eq_true', Bool.or_eq_true] at h
  obtain ⟨⟨⟨⟨hf, ht⟩, hr⟩, hv⟩, hj⟩ := h
  have hn : (if q.entry.replay = true then histFind (takeCmd q s) (clientOf s q.from_) q.entry.cmdId else none) = none := by
    rcases hr with hr | hr <;> simp [hr]
  simp only [runCommand, hf, ht, hn, hv]
  rcases hj with hj | ⟨hj, ha⟩
  · simp [hj]
  · simp [hj, ha]

/-- A command that is no long operation is served. -/
theorem runCommand_served {op priv : Nat} {lenOk : Bool} {chk : Option Nat} {q : Req} {s : State} (res : List Byte)
    (f : State → State × List Byte) (hl : (cat op).long = false) (h : clears op lenOk priv chk q s = true) :
    runCommand (cat op) lenOk priv chk res f q s = served op f q s := by
  rw [runCommand_clears res f h]; simp [served, hl]

/-- A query that is not journaled is answered. -/
theorem served_ans {op : Nat} {q : Req} {s : State} (f : State → List Byte) (hl : (cat op).long = false)
    (hj : journals (cat op) = false) : served op (ans f) q s = answered op (f (takeCmd q s)) q s := by
  simp [served, answered, commit, hl, hj, ans]

/-- A long operation is accepted. -/
theorem longOp_queued {op priv : Nat} {lenOk : Bool} {chk : Option Nat} {q : Req} {s : State} (hl : (cat op).long = true)
    (h : clears op lenOk priv chk q s = true) :
    ∃ k, freeSlot (takeCmd q s) = some k ∧ longOp op priv lenOk chk q s = queuedOn op priv k q s := by
  have hv : (verdict (cat op) lenOk priv chk q (takeCmd q s)).isNone = true := by
    simp only [clears, Bool.and_eq_true] at h; exact h.1.2
  cases hk : freeSlot (takeCmd q s) with
  | none =>
    rw [Option.isNone_iff_eq_none] at hv
    unfold verdict at hv
    simp [hl, hk] at hv
    repeat' split at hv
    all_goals simp_all
  | some k =>
    refine ⟨k, rfl, ?_⟩
    unfold longOp
    rw [runCommand_clears _ _ h]
    simp [hl, commit, hk, queuedOn, whenS]

/-! ### Instructions of tiles and heads of consumer queues -/

/-- An instruction at its own word has its effect. -/
theorem issue_at {s : State} {t word mask : Nat} {r : Running} {f : Running → State → State} (h : AtInsn s t word mask r) :
    issue t word mask f s = f r s := by
  obtain ⟨hi, hf⟩ := h
  unfold issue
  rw [hi]
  cases hw : fetchInsn s t r with
  | none => simp [hw] at hf
  | some w => simp only [hw, Option.any_some, Bool.and_eq_true, beq_iff_eq] at hf; simp [hw, hf.1, hf.2]

/-- A consumer takes the frame at the head of its queue. -/
theorem consume_head {key : Nat} {may : Frame → Bool} {f : QEnt → State → State} {s : State} {e : QEnt} {l : List QEnt}
    (h : consQ s key = e :: l) (hm : may e.frame = true) : consume key false may f s = f e (onCons key (fun _ => l) s) := by
  unfold consume; simp [h, hm]

/-- So does a die's `C1` consumer, unless the group's `C1` frames are held. -/
theorem consumeC1_head {d : Nat} {may : Frame → Bool} {f : QEnt → State → State} {s : State} {e : QEnt} {l : List QEnt}
    (h : consQ s (64 * d + 3) = e :: l) (hm : may e.frame = true) (hh : updHeld s d (xGroup e.frame) = false) :
    consumeC1 d false false may f s = updGate e f (onCons (64 * d + 3) (fun _ => l) s) := by
  unfold consumeC1; simp [h, hm, hh, whenS]

end Sys2Proof.Machine
end

