-- ==== Sys2Proof/Certificates/Slice0/Obligations.lean ====
section
/-! DEFINITION. The statements for the provers, one proposition each. -/

set_option Elab.async false

open Sys2Proof Sys2Proof.Machine

/-- A step runs the command at the front of the queue. (notes/assumptions/2.md) -/
def Obligations.TheFrontCommandRuns : Prop :=
  ∀ (c : Instr) (rest : List Instr) (s : State), s.pending = c :: rest → step s = exec c { s with pending := rest }

/-- On an empty queue one F cycle passes: the count and fabric time advance (the model's choice, assumption 2). (R310, notes/assumptions/2.md) -/
def Obligations.TheEmptyQueuePassesOneCycle : Prop :=
  ∀ s : State, s.pending = [] → ∃ t, step s = .next t ∧ t.mono = s.mono + 1 ∧
    t.time = { s.time with ft := (s.time.ft + s.time.rate) % 2 ^ 112 } ∧ t.set = s.set ∧ t.jrn = s.jrn ∧ t.cmd = s.cmd ∧
    t.core = s.core ∧ t.tile = s.tile ∧ t.mem = s.mem ∧ t.sched = s.sched ∧ t.snap = s.snap ∧ t.flash = s.flash ∧
    t.gemel = s.gemel ∧ t.flt = s.flt ∧ t.env = s.env ∧ t.sys = s.sys ∧ t.host = s.host ∧ t.pending = []

/-- At entry to KEEL_UP: lanes OFF, cells FREE, tiles GATED, time FREE_RUN, plan empty, no cap, no ballast, unpaired. (R60, R124, R208, R310, R327, R331, R390, R483) -/
def Obligations.ResetIsAsStated : Prop :=
  (∀ l, (laneOf State.reset l).power = .off) ∧
    (∀ d c, (mget cellDflt (dieSt State.reset d).cells c).used = false ∧ poolOcc State.reset d c = 0) ∧
    (∀ d, (dieSt State.reset d).roundRefuse = 0 ∧ (dieSt State.reset d).w3Entries = 0 ∧ (dieSt State.reset d).cutThrough = 0 ∧
      (dieSt State.reset d).storeFwd = 0 ∧ (dieSt State.reset d).cellCrc = 0 ∧ (dieSt State.reset d).stomped = 0 ∧
      (dieSt State.reset d).parity = 0 ∧ (dieSt State.reset d).doubleFree = 0 ∧ (dieSt State.reset d).retired = 0 ∧
      (dieSt State.reset d).partialDiscard = 0 ∧ (dieSt State.reset d).rrPtr = 0) ∧
    (∀ q, markDepth State.reset q = 64) ∧
    (∀ t, (tileOf State.reset t).st = .gated ∧ tilePolOf State.reset t = (0, 20) ∧ (tileOf State.reset t).lifts = 0 ∧
      (tileOf State.reset t).activeMs = 0 ∧ (tileOf State.reset t).parity = 0) ∧
    State.reset.sched.images = [] ∧ State.reset.time.ft = 0 ∧ State.reset.time.st = .freeRun ∧ State.reset.set.audited = [] ∧
    State.reset.pending = [] ∧ State.reset.sys.st = .keelUp ∧ State.reset.set.plan = ⟨0, 0, 0, 0, 0, 25⟩ ∧
    State.reset.set.env.capW = none ∧ State.reset.env.schedBallast = 0 ∧ State.reset.env.freeBallast = 0 ∧
    (∀ d, brakeOf State.reset d = ⟨100, 100, 100, 100, 100, 100⟩) ∧ State.reset.gemel.st = .unpaired ∧
    (∀ k, (ringOf State.reset k).rstate = .disabled) ∧ State.reset.cmd.sessions = [] ∧ State.reset.set.enabled = [] ∧
    State.reset.cmd.rr = 0

/-- Every addressed memory of the reset state is in canonical form. (spec/12_memory_model.md) -/
def Obligations.ResetMemoriesAreCanonical : Prop :=
  MemoriesOk State.reset

/-- Every step keeps every addressed memory in canonical form. (spec/12_memory_model.md) -/
def Obligations.MemoriesStayCanonical : Prop :=
  ∀ s t : State, MemoriesOk s → step s = .next t → MemoriesOk t

/-- No command changes the part, touches the queue, recalls what was sent, turns time back or lowers the firmware floor. (R442, R21) -/
def Obligations.NoCommandUndoesWhatMustLast : Prop :=
  ∀ (c : Instr) (s t : State), exec c s = .next t → Keeps s t

/-- Each command changes only the parts of the state that its footprint names. (spec/18_command_catalogue.md) -/
def Obligations.CommandsChangeOnlyTheirParts : Prop :=
  ∀ (c : Instr) (s t : State), exec c s = .next t → SameExcept (footprint c) s t

/-- Every command answers a next state, but for a supply voltage beyond the absolute maximum ratings. (R491) -/
def Obligations.EveryCommandAnswers : Prop :=
  ∀ (c : Instr) (s : State), if withinRatings c = true then ∃ t, exec c s = .next t else exec c s = .fault .beyondRatings

/-- While the keel die is lost no command of a ring or session is served. (R405, R482, R53) -/
def Obligations.ALostKeelDieServesNoCommand : Prop :=
  (∀ (c : Instr) (op : Nat) (q : Req) (s : State), commandOf c = some (op, q) → s.sys.keelLost = true → s.cmd.finishing = none →
      s.sys.leaving = none → exec c s = .next s) ∧
    ∀ (memOk : Bool) (s : State), s.sys.keelLost = true → exec (.commandTake memOk) s = .next s

/-- A command below its catalogue privilege is refused 0x0004, or 0x0002 for its length, with nothing else done. (R378, R392) -/
def Obligations.ACommandWithoutPrivilegeIsRefused : Prop :=
  ∀ (c : Instr) (op : Nat) (q : Req) (s : State), commandOf c = some (op, q) → s.cmd.finishing = none → s.sys.leaving = none →
    canTake (cat op) q s = true → (q.entry.replay = true → histFind (takeCmd q s) (clientOf s q.from_) q.entry.cmdId = none) →
    privOf (takeCmd q s) q.from_ < (cat op).priv →
    ∃ r res, (r = 2 ∨ r = 4) ∧ (dataLenOk q = false → r = 2) ∧
      exec c s = .next (complete (cat op) q (clientOf s q.from_) (ringOf s q.from_.ring).sqHead (takenSeqs q s) .refused r 0 res
        (takeCmd q s))

/-- A refusal posts its completion and changes nothing else. (R14, R392) -/
def Obligations.ARefusalChangesNothing : Prop :=
  ∀ (op r : Nat) (q : Req) (s : State), SameExcept (pRings + pQueues + pDies + pSent) s (refusedWith op r q s)

/-- Each command is refused with the reason of its owner's first failing condition. (R392, R2, R14) -/
def Obligations.OwnersConditionsRefuse : Prop :=
  (∀ (q : Req) (s : State) (r : Nat), reaches 0x0103 true ((cat 0x0103).priv) q s = true → (chkDevService q s) = some r →
    exec (.devService q) s = .next (refusedWith 0x0103 r q s)) ∧
  (∀ (q : Req) (s : State) (r : Nat), reaches 0x0104 true 2 q s = true → (chkDevRestart q s) = some r →
    exec (.devRestart q) s = .next (refusedWith 0x0104 r q s)) ∧
  (∀ (q : Req) (s : State) (r : Nat), reaches 0x0105 true 1 q s = true → (chkDevSelftest s) = some r →
    exec (.devSelftest q) s = .next (refusedWith 0x0105 r q s)) ∧
  (∀ (q : Req) (s : State) (r : Nat), reaches 0x0106 true ((cat 0x0106).priv) q s = true → (chkDevMgmtcfg q) = some r →
    exec (.devMgmtcfg q) s = .next (refusedWith 0x0106 r q s)) ∧
  (∀ (q : Req) (s : State) (r : Nat), reaches 0x0201 true (ownerFrom 18 31 (prm q 0 2)) q s = true → (chkPortEnable q s) = some r →
    exec (.portEnable q) s = .next (refusedWith 0x0201 r q s)) ∧
  (∀ (q : Req) (s : State) (r : Nat), reaches 0x0202 true (ownerFrom 18 31 (prm q 0 2)) q s = true → (chkPortDisable q s) = some r →
    exec (.portDisable q) s = .next (refusedWith 0x0202 r q s)) ∧
  (∀ (q : Req) (s : State) (r : Nat), reaches 0x0203 true ((cat 0x0203).priv) q s = true → (chkPortSplit q s) = some r →
    exec (.portSplit q) s = .next (refusedWith 0x0203 r q s)) ∧
  (∀ (q : Req) (s : State) (r : Nat), reaches 0x0204 true ((cat 0x0204).priv) q s = true → (chkPortPower q s) = some r →
    exec (.portPower q) s = .next (refusedWith 0x0204 r q s)) ∧
  (∀ (q : Req) (s : State) (r : Nat), reaches 0x0205 true ((cat 0x0205).priv) q s = true → (portNoChk s (prm q 0 2)) = some r →
    exec (.portQuery q) s = .next (refusedWith 0x0205 r q s)) ∧
  (∀ (q : Req) (s : State) (r : Nat), reaches 0x0206 true ((cat 0x0206).priv) q s = true → (laneNoChk s (prm q 0 2)) = some r →
    exec (.laneStats q) s = .next (refusedWith 0x0206 r q s)) ∧
  (∀ (q : Req) (s : State) (r : Nat), reaches 0x0207 true 1 q s = true → (chkLaneTest q s) = some r →
    exec (.laneTest q) s = .next (refusedWith 0x0207 r q s)) ∧
  (∀ (q : Req) (s : State) (r : Nat), reaches 0x0208 true ((cat 0x0208).priv) q s = true → (chkOptRead q s) = some r →
    exec (.optRead q) s = .next (refusedWith 0x0208 r q s)) ∧
  (∀ (q : Req) (s : State) (r : Nat), reaches 0x0209 true 1 q s = true → (chkOptInspect q s) = some r →
    exec (.optInspect q) s = .next (refusedWith 0x0209 r q s)) ∧
  (∀ (q : Req) (s : State) (r : Nat), reaches 0x020A true 1 q s = true → (chkOptClean q s) = some r →
    exec (.optClean q) s = .next (refusedWith 0x020A r q s)) ∧
  (∀ (q : Req) (s : State) (r : Nat), reaches 0x020B true (ownerFrom 18 30 (prm q 0 2)) q s = true → (chkPortLinkcfg q s) = some r →
    exec (.portLinkcfg q) s = .next (refusedWith 0x020B r q s)) ∧
  (∀ (q : Req) (s : State) (r : Nat), reaches 0x020C true ((cat 0x020C).priv) q s = true → (laneNoChk s (prm q 0 2)) = some r →
    exec (.portLstats q) s = .next (refusedWith 0x020C r q s)) ∧
  (∀ (q : Req) (s : State) (r : Nat), reaches 0x020D true ((cat 0x020D).priv) q s = true → (chkPortEthcfg q s) = some r →
    exec (.portEthcfg q) s = .next (refusedWith 0x020D r q s)) ∧
  (∀ (q : Req) (s : State) (r : Nat), reaches 0x0301 (!onHostRing q || 8192 ≤ prm q 16 4) 0 q s = true → (bayChk s (prm q 0 2)) = some r →
    exec (.cartRead q) s = .next (refusedWith 0x0301 r q s)) ∧
  (∀ (q : Req) (s : State) (r : Nat), reaches 0x0302 true ((cat 0x0302).priv) q s = true → (portRangeChk s (prm q 0 2) (prm q 2 2)) = some r →
    exec (.cartOverride q) s = .next (refusedWith 0x0302 r q s)) ∧
  (∀ (q : Req) (s : State) (r : Nat), reaches 0x0303 true 1 q s = true → (chkCartRescan q s) = some r →
    exec (.cartRescan q) s = .next (refusedWith 0x0303 r q s)) ∧
  (∀ (q : Req) (s : State) (r : Nat), reaches 0x0401 true ((cat 0x0401).priv) q s = true → (chkRouteWrite q s) = some r →
    exec (.routeWrite q) s = .next (refusedWith 0x0401 r q s)) ∧
  (∀ (q : Req) (s : State) (r : Nat), reaches 0x0402 true 2 q s = true → (chkRouteCommit q s) = some r →
    exec (.routeCommit q) s = .next (refusedWith 0x0402 r q s)) ∧
  (∀ (q : Req) (s : State) (r : Nat), reaches 0x0403 true 2 q s = true → (chkRouteHold s) = some r →
    exec (.routeHold q) s = .next (refusedWith 0x0403 r q s)) ∧
  (∀ (q : Req) (s : State) (r : Nat), reaches 0x0404 true ((cat 0x0404).priv) q s = true → (refuseIf (!s.core.held) 0x0005) = some r →
    exec (.routeRelease q) s = .next (refusedWith 0x0404 r q s)) ∧
  (∀ (q : Req) (s : State) (r : Nat), reaches 0x0405 true ((cat 0x0405).priv) q s = true → (chkRouteQuery q) = some r →
    exec (.routeQuery q) s = .next (refusedWith 0x0405 r q s)) ∧
  (∀ (q : Req) (s : State) (r : Nat), reaches 0x0407 true ((cat 0x0407).priv) q s = true → (refuseIf (prm q 0 4 < 10 || 10000 < prm q 0 4) 0x0007) = some r →
    exec (.routeCmapcfg q) s = .next (refusedWith 0x0407 r q s)) ∧
  (∀ (q : Req) (s : State) (r : Nat), reaches 0x0408 true ((cat 0x0408).priv) q s = true → (dieChk s (prm q 0 1)) = some r →
    exec (.routeSparstats q) s = .next (refusedWith 0x0408 r q s)) ∧
  (∀ (q : Req) (s : State) (r : Nat), reaches 0x0501 true (sliceBindPriv q s) q s = true → (chkSliceBind q s) = some r →
    exec (.sliceBind q) s = .next (refusedWith 0x0501 r q s)) ∧
  (∀ (q : Req) (s : State) (r : Nat), reaches 0x0502 true ((cat 0x0502).priv) q s = true → (chkSliceEnable q s) = some r →
    exec (.sliceEnable q) s = .next (refusedWith 0x0502 r q s)) ∧
  (∀ (q : Req) (s : State) (r : Nat), reaches 0x0503 true 1 q s = true → (chkSliceDisable q s) = some r →
    exec (.sliceDisable q) s = .next (refusedWith 0x0503 r q s)) ∧
  (∀ (q : Req) (s : State) (r : Nat), reaches 0x0504 true ((cat 0x0504).priv) q s = true → (chkSliceQuery q s) = some r →
    exec (.sliceQuery q) s = .next (refusedWith 0x0504 r q s)) ∧
  (∀ (q : Req) (s : State) (r : Nat), reaches 0x0601 true (qosPriv (prm q 0 2) (prm q 2 2)) q s = true → (chkQosServicecfg q s) = some r →
    exec (.qosServicecfg q) s = .next (refusedWith 0x0601 r q s)) ∧
  (∀ (q : Req) (s : State) (r : Nat), reaches 0x0602 true (qosPriv (prm q 0 2) 1) q s = true → (chkQosSubcfg q s) = some r →
    exec (.qosSubcfg q) s = .next (refusedWith 0x0602 r q s)) ∧
  (∀ (q : Req) (s : State) (r : Nat), reaches 0x0603 true (qosPriv (prm q 0 2) 1) q s = true → (chkQosShapecfg q s) = some r →
    exec (.qosShapecfg q) s = .next (refusedWith 0x0603 r q s)) ∧
  (∀ (q : Req) (s : State) (r : Nat), reaches 0x0604 true (qosPriv (prm q 0 2) 1) q s = true → (chkQosPolicecfg q s) = some r →
    exec (.qosPolicecfg q) s = .next (refusedWith 0x0604 r q s)) ∧
  (∀ (q : Req) (s : State) (r : Nat), reaches 0x0605 (8 * prm q 2 2 ≤ (inData q).length) (qosPriv (prm q 0 2) 1) q s = true → (chkQosGatewrite q s) = some r →
    exec (.qosGatewrite q) s = .next (refusedWith 0x0605 r q s)) ∧
  (∀ (q : Req) (s : State) (r : Nat), reaches 0x0606 (outRoom (cat 0x0606) (qGate s (prm q 0 2) (prm q 2 1)).length q) (qosPriv (prm q 0 2) 1) q s = true → (chkQosGatequery q s) = some r →
    exec (.qosGatequery q) s = .next (refusedWith 0x0606 r q s)) ∧
  (∀ (q : Req) (s : State) (r : Nat), reaches 0x0607 true (if ownerQueues (prm q 0 4) 1 then 2 else 1) q s = true → (queueChk s (prm q 0 4) 1) = some r →
    exec (.qosQstats q) s = .next (refusedWith 0x0607 r q s)) ∧
  (∀ (q : Req) (s : State) (r : Nat), reaches 0x0608 true (qosPriv (prm q 0 2) 1) q s = true → (firstOf [refuseIf (7 < (prm q 2 1)) 0x0007, lpRangeChk s (prm q 0 2) 1]) = some r →
    exec (.qosPstats q) s = .next (refusedWith 0x0608 r q s)) ∧
  (∀ (q : Req) (s : State) (r : Nat), reaches 0x0640 true ((cat 0x0640).priv) q s = true → (chkQosPoolcfg q s) = some r →
    exec (.qosPoolcfg q) s = .next (refusedWith 0x0640 r q s)) ∧
  (∀ (q : Req) (s : State) (r : Nat), reaches 0x0641 true ((cat 0x0641).priv) q s = true → (dieChk s (prm q 0 1)) = some r →
    exec (.qosPoolquery q) s = .next (refusedWith 0x0641 r q s)) ∧
  (∀ (q : Req) (s : State) (r : Nat), reaches 0x0642 true (if ownerQueues (prm q 0 4) (prm q 4 4) then 2 else 1) q s = true → (chkQosMarkcfg q s) = some r →
    exec (.qosMarkcfg q) s = .next (refusedWith 0x0642 r q s)) ∧
  (∀ (q : Req) (s : State) (r : Nat), reaches 0x0701 ((256 + 8 * rdLe (inData q) 26 2) ≤ (inData q).length && (!onHostRing q || (256 + 8 * rdLe (inData q) 26 2) ≤ bufLen (cat 0x0701) q)) ((cat 0x0701).priv) q s = true → (chkGroupConfig q s) = some r →
    exec (.groupConfig q) s = .next (refusedWith 0x0701 r q s)) ∧
  (∀ (q : Req) (s : State) (r : Nat), reaches 0x0702 true ((cat 0x0702).priv) q s = true → (chkGroupEnable q s) = some r →
    exec (.groupEnable q) s = .next (refusedWith 0x0702 r q s)) ∧
  (∀ (q : Req) (s : State) (r : Nat), reaches 0x0703 true 1 q s = true → (chkGroupDisable q s) = some r →
    exec (.groupDisable q) s = .next (refusedWith 0x0703 r q s)) ∧
  (∀ (q : Req) (s : State) (r : Nat), reaches 0x0704 true ((cat 0x0704).priv) q s = true → (chkGroupAbort q s) = some r →
    exec (.groupAbort q) s = .next (refusedWith 0x0704 r q s)) ∧
  (∀ (q : Req) (s : State) (r : Nat), reaches 0x0706 true ((cat 0x0706).priv) q s = true → (refuseIf (groupSt s (prm q 0 2) != 2) 0x0005) = some r →
    exec (.groupMissing q) s = .next (refusedWith 0x0706 r q s)) ∧
  (∀ (q : Req) (s : State) (r : Nat), reaches 0x0707 true ((cat 0x0707).priv) q s = true → (dieChk s (prm q 0 1)) = some r →
    exec (.groupPoolquery q) s = .next (refusedWith 0x0707 r q s)) ∧
  (∀ (q : Req) (s : State) (r : Nat), reaches 0x0708 true ((cat 0x0708).priv) q s = true → (chkGroupUpdcfg q s) = some r →
    exec (.groupUpdcfg q) s = .next (refusedWith 0x0708 r q s)) ∧
  (∀ (q : Req) (s : State) (r : Nat), reaches 0x0709 true ((cat 0x0709).priv) q s = true → (dieChk s (prm q 0 1)) = some r →
    exec (.groupUpdquery q) s = .next (refusedWith 0x0709 r q s)) ∧
  (∀ (q : Req) (s : State) (r : Nat), reaches 0x0801 true 2 q s = true → (chkTileLoad q s) = some r →
    exec (.tileLoad q) s = .next (refusedWith 0x0801 r q s)) ∧
  (∀ (q : Req) (s : State) (r : Nat), reaches 0x0802 true ((cat 0x0802).priv) q s = true → (chkTileUnload q s) = some r →
    exec (.tileUnload q) s = .next (refusedWith 0x0802 r q s)) ∧
  (∀ (q : Req) (s : State) (r : Nat), reaches 0x0803 true ((cat 0x0803).priv) q s = true → (firstOf [refuseIf (slotBad q) 0x0007, refuseIf (!s.id.tiles) 0x0003]) = some r →
    exec (.tileProgquery q) s = .next (refusedWith 0x0803 r q s)) ∧
  (∀ (q : Req) (s : State) (r : Nat), reaches 0x0804 true ((cat 0x0804).priv) q s = true → (chkTileUpdbind q s) = some r →
    exec (.tileUpdbind q) s = .next (refusedWith 0x0804 r q s)) ∧
  (∀ (q : Req) (s : State) (r : Nat), reaches 0x0805 true ((cat 0x0805).priv) q s = true → (chkTileUpdunbind q s) = some r →
    exec (.tileUpdunbind q) s = .next (refusedWith 0x0805 r q s)) ∧
  (∀ (q : Req) (s : State) (r : Nat), reaches 0x0806 true ((cat 0x0806).priv) q s = true → (refuseIf (!s.id.tiles) 0x0003) = some r →
    exec (.tileUpdquery q) s = .next (refusedWith 0x0806 r q s)) ∧
  (∀ (q : Req) (s : State) (r : Nat), reaches 0x0840 true ((cat 0x0840).priv) q s = true → (chkTileQuery q s) = some r →
    exec (.tileQuery q) s = .next (refusedWith 0x0840 r q s)) ∧
  (∀ (q : Req) (s : State) (r : Nat), reaches 0x0841 true ((cat 0x0841).priv) q s = true → (chkTilePower q s) = some r →
    exec (.tilePower q) s = .next (refusedWith 0x0841 r q s)) ∧
  (∀ (q : Req) (s : State) (r : Nat), reaches 0x0842 true 1 q s = true → (chkTileSelftest q s) = some r →
    exec (.tileSelftest q) s = .next (refusedWith 0x0842 r q s)) ∧
  (∀ (q : Req) (s : State) (r : Nat), reaches 0x0901 true (imagePriv (inData q)) q s = true → (chkSchedLoad q s) = some r →
    exec (.schedLoad q) s = .next (refusedWith 0x0901 r q s)) ∧
  (∀ (q : Req) (s : State) (r : Nat), reaches 0x0902 true ((cat 0x0902).priv) q s = true → (chkSchedUnload q s) = some r →
    exec (.schedUnload q) s = .next (refusedWith 0x0902 r q s)) ∧
  (∀ (q : Req) (s : State) (r : Nat), reaches 0x0903 true (imagePriv (mget [] s.sched.images (prm q 0 1))) q s = true → (chkSchedEnable q s) = some r →
    exec (.schedEnable q) s = .next (refusedWith 0x0903 r q s)) ∧
  (∀ (q : Req) (s : State) (r : Nat), reaches 0x0904 true ((cat 0x0904).priv) q s = true → (chkSchedStop q s) = some r →
    exec (.schedStop q) s = .next (refusedWith 0x0904 r q s)) ∧
  (∀ (q : Req) (s : State) (r : Nat), reaches 0x0905 true ((cat 0x0905).priv) q s = true → (chkSchedDisable s) = some r →
    exec (.schedDisable q) s = .next (refusedWith 0x0905 r q s)) ∧
  (∀ (q : Req) (s : State) (r : Nat), reaches 0x0907 true ((cat 0x0907).priv) q s = true → (chkSchedTimecfg q) = some r →
    exec (.schedTimecfg q) s = .next (refusedWith 0x0907 r q s)) ∧
  (∀ (q : Req) (s : State) (r : Nat), reaches 0x0909 true ((cat 0x0909).priv) q s = true → (chkSchedAuditcfg q s) = some r →
    exec (.schedAuditcfg q) s = .next (refusedWith 0x0909 r q s)) ∧
  (∀ (q : Req) (s : State) (r : Nat), reaches 0x090A true ((cat 0x090A).priv) q s = true → (chkSchedAuditread q s) = some r →
    exec (.schedAuditread q) s = .next (refusedWith 0x090A r q s)) ∧
  (∀ (q : Req) (s : State) (r : Nat), reaches 0x0A01 true ((cat 0x0A01).priv) q s = true → (chkSnapPlan q s) = some r →
    exec (.snapPlan q) s = .next (refusedWith 0x0A01 r q s)) ∧
  (∀ (q : Req) (s : State) (r : Nat), reaches 0x0A03 true ((cat 0x0A03).priv) q s = true → (chkSnapSeal q s) = some r →
    exec (.snapSeal q) s = .next (refusedWith 0x0A03 r q s)) ∧
  (∀ (q : Req) (s : State) (r : Nat), reaches 0x0A04 true ((cat 0x0A04).priv) q s = true → (chkSnapReelcfg q s) = some r →
    exec (.snapReelcfg q) s = .next (refusedWith 0x0A04 r q s)) ∧
  (∀ (q : Req) (s : State) (r : Nat), reaches 0x0A05 true ((cat 0x0A05).priv) q s = true → (chkSnapReelenable q s) = some r →
    exec (.snapReelenable q) s = .next (refusedWith 0x0A05 r q s)) ∧
  (∀ (q : Req) (s : State) (r : Nat), reaches 0x0A06 (((prm q 1 1).testBit 0) || (inData q).length == 256) 2 q s = true → (chkSnapTarget q s) = some r →
    exec (.snapTarget q) s = .next (refusedWith 0x0A06 r q s)) ∧
  (∀ (q : Req) (s : State) (r : Nat), reaches 0x0A07 true 1 q s = true → (chkSnapDrain q s) = some r →
    exec (.snapDrain q) s = .next (refusedWith 0x0A07 r q s)) ∧
  (∀ (q : Req) (s : State) (r : Nat), reaches 0x0A08 true 2 q s = true → (chkSnapRestore q s) = some r →
    exec (.snapRestore q) s = .next (refusedWith 0x0A08 r q s)) ∧
  (∀ (q : Req) (s : State) (r : Nat), reaches 0x0A09 true ((cat 0x0A09).priv) q s = true → (chkSnapList q) = some r →
    exec (.snapList q) s = .next (refusedWith 0x0A09 r q s)) ∧
  (∀ (q : Req) (s : State) (r : Nat), reaches 0x0B01 true ((cat 0x0B01).priv) q s = true → (flashChk s) = some r →
    exec (.flashHealth q) s = .next (refusedWith 0x0B01 r q s)) ∧
  (∀ (q : Req) (s : State) (r : Nat), reaches 0x0B02 true 1 q s = true → (chkFlashScan s) = some r →
    exec (.flashScan q) s = .next (refusedWith 0x0B02 r q s)) ∧
  (∀ (q : Req) (s : State) (r : Nat), reaches 0x0B03 true ((cat 0x0B03).priv) q s = true → (chkFlashScancfg q s) = some r →
    exec (.flashScancfg q) s = .next (refusedWith 0x0B03 r q s)) ∧
  (∀ (q : Req) (s : State) (r : Nat), reaches 0x0B04 (outRoom (cat 0x0B04) 512 q) 0 q s = true → (chkFlashBbtread q s) = some r →
    exec (.flashBbtread q) s = .next (refusedWith 0x0B04 r q s)) ∧
  (∀ (q : Req) (s : State) (r : Nat), reaches 0x0B05 true 2 q s = true → (firstOf [flashChk s, formatBusy s]) = some r →
    exec (.flashFormat q) s = .next (refusedWith 0x0B05 r q s)) ∧
  (∀ (q : Req) (s : State) (r : Nat), reaches 0x0C01 true 2 q s = true → (chkGemelPair q s) = some r →
    exec (.gemelPair q) s = .next (refusedWith 0x0C01 r q s)) ∧
  (∀ (q : Req) (s : State) (r : Nat), reaches 0x0C02 true ((cat 0x0C02).priv) q s = true → (chkGemelUnpair s) = some r →
    exec (.gemelUnpair q) s = .next (refusedWith 0x0C02 r q s)) ∧
  (∀ (q : Req) (s : State) (r : Nat), reaches 0x0C04 true 2 q s = true → (firstOf [refuseIf (!(liveOps s 0x0C04).isEmpty) 0x0006, adoptChk s]) = some r →
    exec (.gemelAdopt q) s = .next (refusedWith 0x0C04 r q s)) ∧
  (∀ (q : Req) (s : State) (r : Nat), reaches 0x0C05 true 1 q s = true → (firstOf [refuseIf (s.gemel.st != .paired) 0x0005, refuseIf (!(liveOps s 0x0C05).isEmpty) 0x0006]) = some r →
    exec (.gemelResync q) s = .next (refusedWith 0x0C05 r q s)) ∧
  (∀ (q : Req) (s : State) (r : Nat), reaches 0x0D01 true 2 q s = true → (chkEnvCap q s) = some r →
    exec (.envCap q) s = .next (complete (cat 0x0D01) q (clientOf s q.from_) (ringOf s q.from_.ring).sqHead (takenSeqs q s) .refused r 0 (capRefusal q s) (takeCmd q s))) ∧
  (∀ (q : Req) (s : State) (r : Nat), reaches 0x0D02 true ((cat 0x0D02).priv) q s = true → (chkEnvRampcfg q s) = some r →
    exec (.envRampcfg q) s = .next (refusedWith 0x0D02 r q s)) ∧
  (∀ (q : Req) (s : State) (r : Nat), reaches 0x0D03 true ((cat 0x0D03).priv) q s = true → (chkEnvBrakecfg q) = some r →
    exec (.envBrakecfg q) s = .next (refusedWith 0x0D03 r q s)) ∧
  (∀ (q : Req) (s : State) (r : Nat), reaches 0x0D04 true ((cat 0x0D04).priv) q s = true → (chkEnvOrphancfg q s) = some r →
    exec (.envOrphancfg q) s = .next (refusedWith 0x0D04 r q s)) ∧
  (∀ (q : Req) (s : State) (r : Nat), reaches 0x0D07 true ((cat 0x0D07).priv) q s = true → (chkEnvSensors q) = some r →
    exec (.envSensors q) s = .next (refusedWith 0x0D07 r q s)) ∧
  (∀ (q : Req) (s : State) (r : Nat), reaches 0x0D08 true ((cat 0x0D08).priv) q s = true → (refuseIf (7 < prm q 0 1) 0x0007) = some r →
    exec (.envPsu q) s = .next (refusedWith 0x0D08 r q s)) ∧
  (∀ (q : Req) (s : State) (r : Nat), reaches 0x0D09 true ((cat 0x0D09).priv) q s = true → (chkEnvRipcord q s) = some r →
    exec (.envRipcord q) s = .next (leave (refusedWith 0x0D09 r q s))) ∧
  (∀ (q : Req) (s : State) (r : Nat), reaches 0x0E01 (prm q 0 1 != 1 || 32 ≤ sourcesRoom q) ((cat 0x0E01).priv) q s = true → (chkFaultQuery q s) = some r →
    exec (.faultQuery q) s = .next (refusedWith 0x0E01 r q s)) ∧
  (∀ (q : Req) (s : State) (r : Nat), reaches 0x0E02 true ((cat 0x0E02).priv) q s = true → (chkFaultClasscfg q) = some r →
    exec (.faultClasscfg q) s = .next (refusedWith 0x0E02 r q s)) ∧
  (∀ (q : Req) (s : State) (r : Nat), reaches 0x0E03 true 2 q s = true → (chkFaultIsolate q s) = some r →
    exec (.faultIsolate q) s = .next (refusedWith 0x0E03 r q s)) ∧
  (∀ (q : Req) (s : State) (r : Nat), reaches 0x0E04 true 2 q s = true → (chkFaultRelease q s) = some r →
    exec (.faultRelease q) s = .next (refusedWith 0x0E04 r q s)) ∧
  (∀ (q : Req) (s : State) (r : Nat), reaches 0x0E06 ((prm q 2 1).testBit 2 || 4 * prm q 3 1 ≤ (inData q).length) 1 q s = true → (chkEventTrigcfg q s) = some r →
    exec (.eventTrigcfg q) s = .next (refusedWith 0x0E06 r q s)) ∧
  (∀ (q : Req) (s : State) (r : Nat), reaches 0x0E07 (readRoom q) 0 q s = true → (chkEventRead q) = some r →
    exec (.eventRead q) s = .next (refusedWith 0x0E07 r q s)) ∧
  (∀ (q : Req) (s : State) (r : Nat), reaches 0x0F01 (bufWhole 0x148 q) 2 q s = true → (firstOf [refuseIf (!(begunOps s 0x0F01).isEmpty) 0x0006, cfgRefusal s (inData q)]) = some r →
    exec (.cfgWrite q) s = .next (refusedWith 0x0F01 r q s)) ∧
  (∀ (q : Req) (s : State) (r : Nat), reaches 0x0F02 (outRoom (cat 0x0F02) (copyRaw q s).length q) 0 q s = true → (chkCfgRead q) = some r →
    exec (.cfgRead q) s = .next (refusedWith 0x0F02 r q s)) ∧
  (∀ (q : Req) (s : State) (r : Nat), reaches 0x0F03 (bufWhole 0x148 q) 2 q s = true → (firstOf [refuseIf (!(begunOps s 0x0F03).isEmpty) 0x0006, stageRefusal s (inData q)]) = some r →
    exec (.fwStage q) s = .next (refusedWith 0x0F03 r q s)) ∧
  (∀ (q : Req) (s : State) (r : Nat), reaches 0x0F04 true 2 q s = true → (chkFwActivate q s) = some r →
    exec (.fwActivate q) s = .next (refusedWith 0x0F04 r q s)) ∧
  (∀ (q : Req) (s : State) (r : Nat), reaches 0x0F07 true ((cat 0x0F07).priv) q s = true → (chkSecFloor q s) = some r →
    exec (.secFloor q) s = .next (refusedWith 0x0F07 r q s)) ∧
  (∀ (q : Req) (s : State) (r : Nat), reaches 0x0F08 true 2 q s = true → (chkJournalinit s) = some r →
    exec (.cfgJournalinit q) s = .next (refusedWith 0x0F08 r q s)) ∧
  (∀ (q : Req) (s : State) (r : Nat), reaches 0x1001 true ((cat 0x1001).priv) q s = true → (tkChk q s) = some r →
    exec (.opQuery q) s = .next (refusedWith 0x1001 r q s)) ∧
  (∀ (q : Req) (s : State) (r : Nat), reaches 0x1002 true (tkPriv q s) q s = true → (chkOpSuspend q s) = some r →
    exec (.opSuspend q) s = .next (refusedWith 0x1002 r q s)) ∧
  (∀ (q : Req) (s : State) (r : Nat), reaches 0x1003 true (tkPriv q s) q s = true → (chkOpResume q s) = some r →
    exec (.opResume q) s = .next (refusedWith 0x1003 r q s)) ∧
  (∀ (q : Req) (s : State) (r : Nat), reaches 0x1004 true (tkPriv q s) q s = true → (chkOpCancel q s) = some r →
    exec (.opCancel q) s = .next (refusedWith 0x1004 r q s))

/-- A command with an unassigned opcode is taken and refused 0x0001. (R14, R390) -/
def Obligations.AnUnassignedOpcodeIsRefused : Prop :=
  ∀ (k : Nat) (q : Req) (s : State), nextCmd s = some (k, q) → (∀ u, execOp q u = none) →
    let u := onCmd (fun c => { c with rr := (k + 1) % 192 }) s
    exec (.commandTake true) s = .next (complete (cat q.entry.opcode) q (clientOf u q.from_) (ringOf u q.from_.ring).sqHead
      (takenSeqs q u) .refused 1 0 [] (takeCmd q u))

/-- A command with REPLAY whose CMD_ID is in the history repeats the stored completion and is not applied. (R396) -/
def Obligations.AReplayIsNotAppliedAgain : Prop :=
  ∀ (c : Instr) (op : Nat) (q : Req) (s : State) (e : JEntry), commandOf c = some (op, q) → s.cmd.finishing = none →
    s.sys.leaving = none → canTake (cat op) q s = true → q.entry.replay = true →
    histFind (takeCmd q s) (clientOf s q.from_) q.entry.cmdId = some e →
    exec c s = .next (replayCmd e q (clientOf s q.from_) (takenSeqs q s) (takeCmd q s)) ∧
      SameExcept (pRings + pQueues + pDies + pSent) s (replayCmd e q (clientOf s q.from_) (takenSeqs q s) (takeCmd q s))

/-- While the twin must acknowledge, a journaled command has no effect until its entry is stored. (R366, R394) -/
def Obligations.NoEffectBeforeTheTwinStores : Prop :=
  ∀ (c : Instr) (op : Nat) (q : Req) (s t : State), commandOf c = some (op, q) → journals (cat op) = true → s.cmd.finishing = none →
    s.sys.leaving = none → mustAck (takeCmd q s) = true → exec c s = .next t →
    SameExcept (pRings + pQueues + pDies + pTwin + pSent) s t

/-- ROUTE.WRITE changes only the shadow bank and has no effect on forwarding. (R153) -/
def Obligations.RouteWriteLeavesForwarding : Prop :=
  (∀ (q : Req) (s t : State), exec (.routeWrite q) s = .next t →
      { t.set with shadow := s.set.shadow } = s.set ∧ ∀ (inp : Option (Nat × Nat)) (f : Frame), lookup t inp f = lookup s inp f) ∧
    ∀ (q : Req) (s : State), clears 0x0401 true (cat 0x0401).priv (chkRouteWrite q s) q s = true →
      ∃ t, exec (.routeWrite q) s = .next t ∧ t.set.shadow = writeBank q s.id.n s.set.shadow

/-- A drained commit makes the shadow bank the active bank, and nothing else of the settings changes. (R154) -/
def Obligations.ACommitCopiesTheShadowBank : Prop :=
  (∀ (s : State) (tk until_ : Nat), s.core.commit = some (tk, until_) → scaleOutIdle s = true →
      ∃ t, exec .commitDrained s = .next t ∧ t.set = { s.set with active := s.set.shadow } ∧ t.core.commit = none) ∧
    ∀ (s : State) (tk until_ : Nat), s.core.commit = some (tk, until_) → scaleOutIdle s = false → exec .commitDrained s = .next s

/-- A frame whose destination has A or B above 15, or T 63 with S not 0, is discarded and counted as a misroute. (R32) -/
def Obligations.AMisdirectedFrameIsDiscarded : Prop :=
  ∀ (s : State) (l : Nat) (f : Frame) (bad : Bool), (15 < coA f.dest ∨ 15 < coB f.dest ∨ (coT f.dest = 63 ∧ coS f.dest ≠ 0)) →
    fate s l f bad = .lost .misroute ∧ (let t := dropFate l f (fate s l f bad) s
      (linkOf t l).misroute = sat 32 ((linkOf s l).misroute + 1) ∧ t.net.misroutes = sat 32 (s.net.misroutes + 1) ∧
      { linkOf t l with misroute := (linkOf s l).misroute } = linkOf s l ∧ (∀ k, k ≠ l → linkOf t k = linkOf s k) ∧
      t.core = s.core ∧ t.out = s.out ∧ t.flt = s.flt)

/-- A frame whose link sequence is not the one expected is not stored: only its acknowledgement counts. (R94, R95) -/
def Obligations.OnlyTheNextSequenceIsTaken : Prop :=
  ∀ (l : Nat) (f : Frame) (par : Option Nat) (s t : State), lcrcOk f = true →
    f.seq ≠ (linkOf (takeAck l f.ack f.ackValid f.nak s) l).rxNext → exec (.frameArrival l f par) s = .next t →
    t = s ∨ (let u := takeAck l f.ack f.ackValid f.nak s
      t.core = u.core ∧ t.tile = u.tile ∧ t.mem = u.mem ∧ t.set = u.set ∧ t.flt = u.flt)

/-- The gate position is fabric time less START_FT modulo the cycle, and depends on nothing else. (R173) -/
def Obligations.GatePositionFollowsTime : Prop :=
  (∀ (s : State) (g : GateList), 0 < gateCycle g.entries →
      (gatePos s g : Int) = ((s.time.ft : Int) - (g.startFt <<< 48 : Nat)) % (gateCycle g.entries <<< 48 : Nat)) ∧
    ∀ (s t : State) (g : GateList), s.time.ft = t.time.ft → gatePos s g = gatePos t g

/-- The scrub of a lane-port gives its queue settings their defaults and drops its gate lists; of a subscriber, weights of 1. (R180) -/
def Obligations.AScrubRestoresQueueSettings : Prop :=
  (∀ (s : State) (l : Nat), let t := scrubLp l s
      (∀ c, c < 8 → prioOf t l c = prioDflt c ∧ weightOf t l c = weightDflt c ∧ shapeCfg t (8 * l + c) = ⟨0, 0, false⟩ ∧
        polCfg t l c = ⟨false, 0, 0, 0, 0, 0, 0⟩) ∧ (∀ c k, c < 8 → k < 128 → subWeight t (leafNo l c k) = 1) ∧
      mfind t.set.qos.gateOp l = none ∧ mfind t.set.qos.gatePend l = none) ∧
    ∀ (s : State) (l k c : Nat), k < 128 → c < 8 → subWeight (scrubSub (128 * l + k) s) (leafNo l c k) = 1

/-- A request to region 1 of function 0xF0 with a slice other than 0 is refused SLICE_DENIED; region 0 reads ignore the slice. (R38, R35) -/
def Obligations.RegionOneTakesOnlySliceZero : Prop :=
  (∀ (s : State) (f : Frame), xRlen f ≠ 0 → xRlen f ≤ 4096 → xOffset f % 4096 + xRlen f ≤ 4096 → xOffset f / 4096 = 1 → f.slice ≠ 0 →
      windowCause s f 0xF0 = some 2) ∧
    ∀ (s : State) (f : Frame) (x : Nat), f.typ = 1 → xRlen f ≠ 0 → xOffset f % 4096 + xRlen f ≤ 4096 → xOffset f < 4096 →
      xRlen f ≤ 4096 → windowCause s { f with slice := x } 0xF0 = none

/-- A CXL.mem write changes no byte of HBM outside the bytes it writes. (R286, R417, R304) -/
def Obligations.AHostWriteChangesOnlyItsBytes : Prop :=
  ∀ (addr tag : Nat) (bs : List Byte) (crcBad : Bool) (s t : State), exec (.cxlMemWrite addr bs tag crcBad) s = .next t →
    ∀ x, (∀ a fil, decodeHost s addr = some (a, fil) → x < a ∨ a + bs.length ≤ x) → hbmByte t x = hbmByte s x

/-- A CXL.mem write that Table 19-3 lets through is performed and completed. (R301, R286, R417) -/
def Obligations.AHostWriteIsPerformed : Prop :=
  ∀ (addr tag a fil : Nat) (bs : List Byte) (s : State), (cxlMemUp s && running s && !s.sys.keelLost) = true →
    decodeHost s addr = some (a, fil) → hostVerdict s a bs.length fil true = 1 → (marked s a || !mergesBad s a bs.length) = true →
    ∃ t, exec (.cxlMemWrite addr bs tag false) s = .next t ∧ (∀ (i : Nat) (h : i < bs.length), hbmByte t (a + i) = bs[i]) ∧
      t.out.getLast? = some (.hostData tag [])

/-- VST and VSTC change no scratchpad byte outside the bytes stored, and no byte of HBM. (R263, R266) -/
def Obligations.AVectorStoreChangesOnlyItsBytes : Prop :=
  (∀ (t vs sa off : Nat) (r : Running) (s u : State), AtInsn s t (insn 0x02 0 vs 0 0 sa off) (mOpc + mA + mS + mImm) r →
      spadOk r (spadAddr s t sa off) 64 = true → exec (.vst t vs sa off) s = .next u →
      (∀ x, (x < t * 0x200000 + spadAddr s t sa off ∨ t * 0x200000 + spadAddr s t sa off + 64 ≤ x) →
        memGet u.tile.spad x = memGet s.tile.spad x) ∧ ∀ x, hbmByte u x = hbmByte s x) ∧
    ∀ (t vs sa off fmt : Nat) (r : Running) (s u : State), AtInsn s t (insn 0x03 0 vs 0 fmt sa off) (mOpc + mA + mC + mS + mImm) r →
      spadOk r (spadAddr s t sa off) ((lanesOf (vreg s t vs)).flatMap (weightBytes fmt)).length = true →
      exec (.vstc t vs sa off fmt) s = .next u →
      (∀ x, (x < t * 0x200000 + spadAddr s t sa off ∨
          t * 0x200000 + spadAddr s t sa off + ((lanesOf (vreg s t vs)).flatMap (weightBytes fmt)).length ≤ x) →
        memGet u.tile.spad x = memGet s.tile.spad x) ∧ ∀ x, hbmByte u x = hbmByte s x

/-- VLD, VZERO, SLI, SADDI, SFMUL, SFADD and SLDU change one register of one tile and its program counter. (R263, R264) -/
def Obligations.RegisterInstructionsChangeOneRegister : Prop :=
  (∀ (t vd sa off : Nat) (r : Running) (s u : State), AtInsn s t (insn 0x01 vd 0 0 0 sa off) (mOpc + mD + mS + mImm) r → spadOk r (spadAddr s t sa off) 64 = true → 
      exec (.vld t vd sa off) s = .next u →
      (∀ k, k ≠ t → tileOf u k = tileOf s k) ∧ (∀ n, n ≠ vd → vreg u t n = vreg s t n) ∧ (∀ n, sreg u t n = sreg s t n) ∧ u.tile.spad = s.tile.spad ∧ u.mem = s.mem ∧ u.tile.groups = s.tile.groups ∧ u.set = s.set ∧ u.flt = s.flt) ∧
    (∀ (t vd : Nat) (r : Running) (s u : State), AtInsn s t (insn 0x20 vd 0 0 0 0 0) (mOpc + mD) r → 
      exec (.vzero t vd) s = .next u →
      (∀ k, k ≠ t → tileOf u k = tileOf s k) ∧ (∀ n, n ≠ vd → vreg u t n = vreg s t n) ∧ (∀ n, sreg u t n = sreg s t n) ∧ u.tile.spad = s.tile.spad ∧ u.mem = s.mem ∧ u.tile.groups = s.tile.groups ∧ u.set = s.set ∧ u.flt = s.flt) ∧
    (∀ (t sd imm : Nat) (r : Running) (s u : State), AtInsn s t (insn 0x30 sd 0 0 0 0 imm) (mOpc + mD + mImm) r → 
      exec (.sli t sd imm) s = .next u →
      (∀ k, k ≠ t → tileOf u k = tileOf s k) ∧ (∀ n, n ≠ sd → sreg u t n = sreg s t n) ∧ (∀ n, vreg u t n = vreg s t n) ∧ u.tile.spad = s.tile.spad ∧ u.mem = s.mem ∧ u.tile.groups = s.tile.groups ∧ u.set = s.set ∧ u.flt = s.flt) ∧
    (∀ (t sd sa imm : Nat) (r : Running) (s u : State), AtInsn s t (insn 0x31 sd sa 0 0 0 imm) (mOpc + mD + mA + mImm) r → 
      exec (.saddi t sd sa imm) s = .next u →
      (∀ k, k ≠ t → tileOf u k = tileOf s k) ∧ (∀ n, n ≠ sd → sreg u t n = sreg s t n) ∧ (∀ n, vreg u t n = vreg s t n) ∧ u.tile.spad = s.tile.spad ∧ u.mem = s.mem ∧ u.tile.groups = s.tile.groups ∧ u.set = s.set ∧ u.flt = s.flt) ∧
    (∀ (t sd sa sb : Nat) (r : Running) (s u : State), AtInsn s t (insn 0x32 sd sa sb 0 0 0) (mOpc + mD + mA + mB) r → 
      exec (.sfmul t sd sa sb) s = .next u →
      (∀ k, k ≠ t → tileOf u k = tileOf s k) ∧ (∀ n, n ≠ sd → sreg u t n = sreg s t n) ∧ (∀ n, vreg u t n = vreg s t n) ∧ u.tile.spad = s.tile.spad ∧ u.mem = s.mem ∧ u.tile.groups = s.tile.groups ∧ u.set = s.set ∧ u.flt = s.flt) ∧
    (∀ (t sd sa sb : Nat) (r : Running) (s u : State), AtInsn s t (insn 0x33 sd sa sb 0 0 0) (mOpc + mD + mA + mB) r → 
      exec (.sfadd t sd sa sb) s = .next u →
      (∀ k, k ≠ t → tileOf u k = tileOf s k) ∧ (∀ n, n ≠ sd → sreg u t n = sreg s t n) ∧ (∀ n, vreg u t n = vreg s t n) ∧ u.tile.spad = s.tile.spad ∧ u.mem = s.mem ∧ u.tile.groups = s.tile.groups ∧ u.set = s.set ∧ u.flt = s.flt) ∧
    (∀ (t sd off : Nat) (r : Running) (s u : State), AtInsn s t (insn 0x34 sd 0 0 0 0 off) (mOpc + mD + mImm) r → 
      exec (.sldu t sd off) s = .next u →
      (∀ k, k ≠ t → tileOf u k = tileOf s k) ∧ (∀ n, n ≠ sd → sreg u t n = sreg s t n) ∧ (∀ n, vreg u t n = vreg s t n) ∧ u.tile.spad = s.tile.spad ∧ u.mem = s.mem ∧ u.tile.groups = s.tile.groups ∧ u.set = s.set ∧ u.flt = s.flt)

/-- A vector instruction whose result has no NaN writes its result and moves on, and does nothing else. (R264, R265, R203) -/
def Obligations.ArithmeticWithoutNaN : Prop :=
  ∀ (t opc vd : Nat) (ins : List (List Nat)) (out : List Nat) (r : Running) (s : State),
    (∀ i, i < 16 → f32nan (out.getD i 0) = false ∧ ∀ l ∈ ins, f32nan (l.getD i 0) = false) →
    arith t opc vd ins out r s = setV t vd (ofLanes out) (nextPc t s)

/-- At the start of an UPDATE entry the vector registers are zero and the scalar registers are those of Table 11-1. (R262) -/
def Obligations.AnUpdateEntryStartsClean : Prop :=
  ∀ (t g seq c : Nat) (s : State) (q : Sequence) (b : UpdBind), seqOf s g seq = some q → updBindOf s q = some b → 16 ≤ b.prog →
    let u := startUpdate t g seq c s
    (∀ n, vreg u t n = 0) ∧ sreg u t 0 = basketOff (chunkIn q c) ∧ sreg u t 1 = stageOff (chunkIn q c) ∧
      sreg u t 2 = stateRegion s (gcfg s g) q b c ((updStep q + 1) % 2) ∧ sreg u t 3 = stateRegion s (gcfg s g) q b c (updStep q % 2) ∧
      sreg u t 4 = chunkLen (gcfg s g) q c ∧ sreg u t 5 = chunkElems (gcfg s g).mode q ∧
      (∀ i, i < 8 → sreg u t (6 + i) = updScalar q i) ∧ sreg u t 14 = updStep q ∧ (∀ n, 15 ≤ n → sreg u t n = 0) ∧
      ((tileOf u t).run.map (·.pc)) = some (tileSlot s (t / 32) b.prog)

/-- A long accumulator element does not depend on the order in which its inputs are combined. (R195) -/
def Obligations.AnExactSumIgnoresOrder : Prop :=
  (∀ vs ws : List Machine.Num, vs.Perm ws → vs.foldl accAdd accReset = ws.foldl accAdd accReset) ∧
    ∀ vs ws : List Machine.Num, accMerge (vs.foldl accAdd accReset) (ws.foldl accAdd accReset) = (vs ++ ws).foldl accAdd accReset

/-- MINLOC and MAXLOC give the same pair whichever of two pairs comes first. (R200, R199) -/
def Obligations.MinlocIgnoresOrder : Prop :=
  ∀ (nc : Nat) (isMax : Bool) (a b : Nat), (ncFmt nc = 3 ∨ ncFmt nc = 8 ∨ ncFmt nc = 9) → a < 2 ^ (locWidth nc + 32) →
    b < 2 ^ (locWidth nc + 32) → foldLoc nc isMax a b = foldLoc nc isMax b a

/-- A side whose regions on one die are bound to more than one slice is refused with 0x0A07. (R334) -/
def Obligations.ASideOfTwoSlicesIsNotSealed : Prop :=
  (∀ (q : Req) (s : State), reaches 0x0A03 true (cat 0x0A03).priv q s = true → prm q 0 1 ≤ 1 →
      (s.set.updBinds = [] ∨ (sideOf s (prm q 0 1)).wholeAt ≠ none) →
      (∃ d ∈ dies s, oneSlice (sideSlices s (prm q 0 1) d) = false) → exec (.snapSeal q) s = .next (refusedWith 0x0A03 0x0A07 q s)) ∧
    ∀ (side : Nat) (s t : State), (∃ d ∈ dies s, oneSlice (sideSlices s side d) = false) → exec (.sealTakeEffect side) s = .next t →
      (sideOf t side).sealed = (sideOf s side).sealed

/-- Each of the device and ticket commands completes: exec answers its own effect, or a new ticket, with its completion. (R408, R391, R399, R400) -/
def Obligations.DeviceAndTicketCommandsComplete : Prop :=
  (∀ (q : Req) (s : State), clears 0x0000 true ((cat 0x0000).priv) none q s = true →
    exec (.nop q) s = .next (answered 0x0000 [] q s)) ∧
  (∀ (q : Req) (s : State), clears 0x0001 true ((cat 0x0001).priv) none q s = true →
    exec (.caps q) s = .next (answered 0x0001 (qCaps (takeCmd q s) q.from_) q s)) ∧
  (∀ (q : Req) (s : State), clears 0x0002 true ((cat 0x0002).priv) none q s = true →
    exec (.ping q) s = .next (answered 0x0002 (leBytes 8 (prm q 0 8) ++ leBytes 8 (ftNs (takeCmd q s))) q s)) ∧
  (∀ (q : Req) (s : State), clears 0x0101 (prm q 0 8 == 0 || 256 ≤ prm q 8 4) 0 none q s = true →
    exec (.devCaps q) s = .next (answered 0x0101 (capRecord (takeCmd q s)) q s)) ∧
  (∀ (q : Req) (s : State), clears 0x0102 true ((cat 0x0102).priv) none q s = true →
    exec (.devState q) s = .next (answered 0x0102 (qState (takeCmd q s)) q s)) ∧
  (∀ (q : Req) (s : State), clears 0x0103 true ((cat 0x0103).priv) (chkDevService q s) q s = true →
    exec (.devService q) s = .next (served 0x0103 (act (setService (prm q 0 1 == 0))) q s)) ∧
  (∀ (q : Req) (s : State), clears 0x0104 true 2 (chkDevRestart q s) q s = true →
    ∃ k, freeSlot (takeCmd q s) = some k ∧ exec (.devRestart q) s = .next (queuedOn 0x0104 2 k q s)) ∧
  (∀ (q : Req) (s : State), clears 0x0105 true 1 (chkDevSelftest s) q s = true →
    ∃ k, freeSlot (takeCmd q s) = some k ∧ exec (.devSelftest q) s = .next (queuedOn 0x0105 1 k q s)) ∧
  (∀ (q : Req) (s : State), clears 0x0106 true ((cat 0x0106).priv) (chkDevMgmtcfg q) q s = true →
    exec (.devMgmtcfg q) s = .next (served 0x0106 (act (modSet fun t => if prm q 0 1 = 0 then { t with mgmt := mgmtRec q } else { t with filter0 := prm q 4 2, filter1 := prm q 6 2 })) q s)) ∧
  (∀ (q : Req) (s : State), clears 0x0107 true ((cat 0x0107).priv) none q s = true →
    exec (.devHostquery q) s = .next (answered 0x0107 (qHost (takeCmd q s)) q s)) ∧
  (∀ (q : Req) (s : State), clears 0x1001 true ((cat 0x1001).priv) (tkChk q s) q s = true →
    exec (.opQuery q) s = .next (served 0x1001 (queryTicket (prm q 0 4)) q s)) ∧
  (∀ (q : Req) (s : State), clears 0x1002 true (tkPriv q s) (chkOpSuspend q s) q s = true →
    exec (.opSuspend q) s = .next (served 0x1002 (act (suspend (prm q 0 4))) q s)) ∧
  (∀ (q : Req) (s : State), clears 0x1003 true (tkPriv q s) (chkOpResume q s) q s = true →
    exec (.opResume q) s = .next (served 0x1003 (act (resume (prm q 0 4))) q s)) ∧
  (∀ (q : Req) (s : State), clears 0x1004 true (tkPriv q s) (chkOpCancel q s) q s = true →
    exec (.opCancel q) s = .next (served 0x1004 (act (cancelTicket (prm q 0 4))) q s)) ∧
  (∀ (q : Req) (s : State), clears 0x1005 (outRoom (cat 0x1005) 2048 q) 0 none q s = true →
    exec (.opList q) s = .next (answered 0x1005 (qOpList (takeCmd q s)) q s))

/-- Each of the port, optics and cartridge commands completes: exec answers its own effect, or a new ticket, with its completion. (R391, R394) -/
def Obligations.PortCommandsComplete : Prop :=
  (∀ (q : Req) (s : State), clears 0x0201 true (ownerFrom 18 31 (prm q 0 2)) (chkPortEnable q s) q s = true →
    exec (.portEnable q) s = .next (served 0x0201 (act (enablePort (prm q 0 2))) q s)) ∧
  (∀ (q : Req) (s : State), clears 0x0202 true (ownerFrom 18 31 (prm q 0 2)) (chkPortDisable q s) q s = true →
    exec (.portDisable q) s = .next (served 0x0202 (act (disablePort (prm q 0 2))) q s)) ∧
  (∀ (q : Req) (s : State), clears 0x0203 true ((cat 0x0203).priv) (chkPortSplit q s) q s = true →
    exec (.portSplit q) s = .next (served 0x0203 (act (onPort (prm q 0 2) fun c => { c with split := prm q 2 1 })) q s)) ∧
  (∀ (q : Req) (s : State), clears 0x0204 true ((cat 0x0204).priv) (chkPortPower q s) q s = true →
    exec (.portPower q) s = .next (served 0x0204 (act (onPort (prm q 0 2) fun c => { c with policy := prm q 2 1, idleUs := if prm q 4 2 = 0 then c.idleUs else prm q 4 2 })) q s)) ∧
  (∀ (q : Req) (s : State), clears 0x0205 true ((cat 0x0205).priv) (portNoChk s (prm q 0 2)) q s = true →
    exec (.portQuery q) s = .next (answered 0x0205 (qPort (takeCmd q s) (prm q 0 2)) q s)) ∧
  (∀ (q : Req) (s : State), clears 0x0206 true ((cat 0x0206).priv) (laneNoChk s (prm q 0 2)) q s = true →
    exec (.laneStats q) s = .next (served 0x0206 (fun s => (whenS (prm q 2 1 == 1) (clearLane (prm q 0 2)) s, qLane s (prm q 0 2))) q s)) ∧
  (∀ (q : Req) (s : State), clears 0x0207 true 1 (chkLaneTest q s) q s = true →
    ∃ k, freeSlot (takeCmd q s) = some k ∧ exec (.laneTest q) s = .next (queuedOn 0x0207 1 k q s)) ∧
  (∀ (q : Req) (s : State), clears 0x0208 true ((cat 0x0208).priv) (chkOptRead q s) q s = true →
    exec (.optRead q) s = .next (answered 0x0208 (qOpt (takeCmd q s) (prm q 0 2)) q s)) ∧
  (∀ (q : Req) (s : State), clears 0x0209 true 1 (chkOptInspect q s) q s = true →
    ∃ k, freeSlot (takeCmd q s) = some k ∧ exec (.optInspect q) s = .next (queuedOn 0x0209 1 k q s)) ∧
  (∀ (q : Req) (s : State), clears 0x020A true 1 (chkOptClean q s) q s = true →
    ∃ k, freeSlot (takeCmd q s) = some k ∧ exec (.optClean q) s = .next (queuedOn 0x020A 1 k q s)) ∧
  (∀ (q : Req) (s : State), clears 0x020B true (ownerFrom 18 30 (prm q 0 2)) (chkPortLinkcfg q s) q s = true →
    exec (.portLinkcfg q) s = .next (served 0x020B (act (onPort (prm q 0 2) fun c => { c with replayUs := if prm q 2 2 = 0 then c.replayUs else some (prm q 2 2), cred := if prm q 4 1 = 1 then [] else [(0, credField q)] })) q s)) ∧
  (∀ (q : Req) (s : State), clears 0x020C true ((cat 0x020C).priv) (laneNoChk s (prm q 0 2)) q s = true →
    exec (.portLstats q) s = .next (served 0x020C (fun s => (whenS (prm q 2 1 == 1) (clearLstats (prm q 0 2)) s, qLstats s (prm q 0 2))) q s)) ∧
  (∀ (q : Req) (s : State), clears 0x020D true ((cat 0x020D).priv) (chkPortEthcfg q s) q s = true →
    exec (.portEthcfg q) s = .next (served 0x020D (act (onPort (prm q 0 2) fun c => { c with eth := some ⟨prm q 2 6, prm q 8 4, 0, 0, prm q 16 16, 0, prm q 32 2, prm q 34 1, prm q 35 1⟩ })) q s)) ∧
  (∀ (q : Req) (s : State), clears 0x0301 (!onHostRing q || 8192 ≤ prm q 16 4) 0 (bayChk s (prm q 0 2)) q s = true →
    exec (.cartRead q) s = .next (served 0x0301 (readBay q) q s)) ∧
  (∀ (q : Req) (s : State), clears 0x0302 true ((cat 0x0302).priv) (portRangeChk s (prm q 0 2) (prm q 2 2)) q s = true →
    exec (.cartOverride q) s = .next (served 0x0302 (act (forEach (portRange (prm q 0 2) (prm q 2 2)) fun p => setOverride p (prm q 4 1))) q s)) ∧
  (∀ (q : Req) (s : State), clears 0x0303 true 1 (chkCartRescan q s) q s = true →
    ∃ k, freeSlot (takeCmd q s) = some k ∧ exec (.cartRescan q) s = .next (queuedOn 0x0303 1 k q s))

/-- Each of the routing and slice commands completes: exec answers its own effect, or a new ticket, with its completion. (R391, R394) -/
def Obligations.RouteAndSliceCommandsComplete : Prop :=
  (∀ (q : Req) (s : State), clears 0x0401 true ((cat 0x0401).priv) (chkRouteWrite q s) q s = true →
    exec (.routeWrite q) s = .next (served 0x0401 (act fun s => modSet (fun t => { t with shadow := writeBank q s.id.n t.shadow }) s) q s)) ∧
  (∀ (q : Req) (s : State), clears 0x0402 true 2 (chkRouteCommit q s) q s = true →
    ∃ k, freeSlot (takeCmd q s) = some k ∧ exec (.routeCommit q) s = .next (queuedOn 0x0402 2 k q s)) ∧
  (∀ (q : Req) (s : State), clears 0x0403 true 2 (chkRouteHold s) q s = true →
    ∃ k, freeSlot (takeCmd q s) = some k ∧ exec (.routeHold q) s = .next (queuedOn 0x0403 2 k q s)) ∧
  (∀ (q : Req) (s : State), clears 0x0404 true ((cat 0x0404).priv) (refuseIf (!s.core.held) 0x0005) q s = true →
    exec (.routeRelease q) s = .next (served 0x0404 (act endHold) q s)) ∧
  (∀ (q : Req) (s : State), clears 0x0405 true ((cat 0x0405).priv) (chkRouteQuery q) q s = true →
    exec (.routeQuery q) s = .next (answered 0x0405 (qRoute (takeCmd q s) (prm q 0 1) (prm q 1 1) (prm q 2 1)) q s)) ∧
  (∀ (q : Req) (s : State), clears 0x0406 (mapRoom q) 0 none q s = true →
    exec (.routeCongmap q) s = .next (answered 0x0406 (qCongmap (takeCmd q s)) q s)) ∧
  (∀ (q : Req) (s : State), clears 0x0407 true ((cat 0x0407).priv) (refuseIf (prm q 0 4 < 10 || 10000 < prm q 0 4) 0x0007) q s = true →
    exec (.routeCmapcfg q) s = .next (served 0x0407 (act (modSet fun t => { t with cmapUs := prm q 0 4 })) q s)) ∧
  (∀ (q : Req) (s : State), clears 0x0408 true ((cat 0x0408).priv) (dieChk s (prm q 0 1)) q s = true →
    exec (.routeSparstats q) s = .next (served 0x0408 (fun s => (whenS ((prm q 1 1).testBit 0) (clearSpars (prm q 0 1)) s, qSpars s (prm q 0 1))) q s)) ∧
  (∀ (q : Req) (s : State), clears 0x0501 true (sliceBindPriv q s) (chkSliceBind q s) q s = true →
    ∃ k, freeSlot (takeCmd q s) = some k ∧ exec (.sliceBind q) s = .next (queuedOn 0x0501 (sliceBindPriv q s) k q s)) ∧
  (∀ (q : Req) (s : State), clears 0x0502 true ((cat 0x0502).priv) (chkSliceEnable q s) q s = true →
    exec (.sliceEnable q) s = .next (served 0x0502 (act (setSlice (prm q 0 2) 2)) q s)) ∧
  (∀ (q : Req) (s : State), clears 0x0503 true 1 (chkSliceDisable q s) q s = true →
    ∃ k, freeSlot (takeCmd q s) = some k ∧ exec (.sliceDisable q) s = .next (queuedOn 0x0503 1 k q s)) ∧
  (∀ (q : Req) (s : State), clears 0x0504 true ((cat 0x0504).priv) (chkSliceQuery q s) q s = true →
    exec (.sliceQuery q) s = .next (answered 0x0504 (qSlice (takeCmd q s) q.entry.param) q s))

/-- Each of the queue, shaper, gate and pool commands completes: exec answers its own effect, or a new ticket, with its completion. (R391, R394) -/
def Obligations.QosCommandsComplete : Prop :=
  (∀ (q : Req) (s : State), clears 0x0601 true (qosPriv (prm q 0 2) (prm q 2 2)) (chkQosServicecfg q s) q s = true →
    exec (.qosServicecfg q) s = .next (served 0x0601 (act fun s => forEach (lpRange (prm q 0 2) (prm q 2 2)) (fun l => onQos fun x => { x with prio := mset (prioDflt (prm q 4 1)) x.prio (8 * l + (prm q 4 1)) (prm q 5 1), weight := mset (weightDflt (prm q 4 1)) x.weight (8 * l + (prm q 4 1)) (prm q 6 1) }) s) q s)) ∧
  (∀ (q : Req) (s : State), clears 0x0602 true (qosPriv (prm q 0 2) 1) (chkQosSubcfg q s) q s = true →
    exec (.qosSubcfg q) s = .next (served 0x0602 (act (onQos fun x => { x with subw := setRange 1 x.subw (leafNo (prm q 0 2) (prm q 2 1) (prm q 3 1)) (prm q 4 1) (prm q 5 1) })) q s)) ∧
  (∀ (q : Req) (s : State), clears 0x0603 true (qosPriv (prm q 0 2) 1) (chkQosShapecfg q s) q s = true →
    exec (.qosShapecfg q) s = .next (served 0x0603 (act fun s => resetShaper (8 * prm q 0 2 + (if prm q 2 1 = 0xFF then 0 else prm q 2 1)) (onQos (fun x => { x with shape := mset ⟨0, 0, false⟩ x.shape (8 * prm q 0 2 + (if prm q 2 1 = 0xFF then 0 else prm q 2 1)) ⟨prm q 4 4, prm q 8 4, prm q 3 1 == 1⟩ }) s)) q s)) ∧
  (∀ (q : Req) (s : State), clears 0x0604 true (qosPriv (prm q 0 2) 1) (chkQosPolicecfg q s) q s = true →
    exec (.qosPolicecfg q) s = .next (served 0x0604 (act fun s => fillPolicer (8 * prm q 0 2 + prm q 2 1) (onQos (fun x => { x with police := mset ⟨false, 0, 0, 0, 0, 0, 0⟩ x.police (8 * prm q 0 2 + prm q 2 1) ⟨prm q 4 4 != 0, prm q 4 4, prm q 8 4, prm q 12 4, prm q 16 4, (polActs q).1, (polActs q).2⟩ }) s)) q s)) ∧
  (∀ (q : Req) (s : State), clears 0x0605 (8 * prm q 2 2 ≤ (inData q).length) (qosPriv (prm q 0 2) 1) (chkQosGatewrite q s) q s = true →
    ∃ k, freeSlot (takeCmd q s) = some k ∧ exec (.qosGatewrite q) s = .next (queuedOn 0x0605 (qosPriv (prm q 0 2) 1) k q s)) ∧
  (∀ (q : Req) (s : State), clears 0x0606 (outRoom (cat 0x0606) (qGate s (prm q 0 2) (prm q 2 1)).length q) (qosPriv (prm q 0 2) 1) (chkQosGatequery q s) q s = true →
    exec (.qosGatequery q) s = .next (served 0x0606 (ans fun s => qGate s (prm q 0 2) (prm q 2 1)) q s)) ∧
  (∀ (q : Req) (s : State), clears 0x0607 true (if ownerQueues (prm q 0 4) 1 then 2 else 1) (queueChk s (prm q 0 4) 1) q s = true →
    exec (.qosQstats q) s = .next (served 0x0607 (fun s => (whenS (prm q 4 1 == 1) (onCore fun c => { c with qstat := mdel c.qstat (prm q 0 4) }) s, qQstats s (prm q 0 4))) q s)) ∧
  (∀ (q : Req) (s : State), clears 0x0608 true (qosPriv (prm q 0 2) 1) (firstOf [refuseIf (7 < (prm q 2 1)) 0x0007, lpRangeChk s (prm q 0 2) 1]) q s = true →
    exec (.qosPstats q) s = .next (served 0x0608 (fun s => (whenS (prm q 3 1 == 1) (onCore fun x => { x with pol := mmod polDflt x.pol (8 * (prm q 0 2) + (prm q 2 1)) fun p => { p with green := 0, yellow := 0, red := 0, discarded := 0 } }) s, qPstats s (prm q 0 2) (prm q 2 1))) q s)) ∧
  (∀ (q : Req) (s : State), clears 0x0640 true ((cat 0x0640).priv) (chkQosPoolcfg q s) q s = true →
    exec (.qosPoolcfg q) s = .next (served 0x0640 (act fun s => forEach (dieField s (prm q 0 1)) (fun d s => relevelDie d (setPool q d s)) s) q s)) ∧
  (∀ (q : Req) (s : State), clears 0x0641 true ((cat 0x0641).priv) (dieChk s (prm q 0 1)) q s = true →
    exec (.qosPoolquery q) s = .next (served 0x0641 (fun s => (whenS ((prm q 1 1).testBit 0) (clearPool (prm q 0 1)) s, qPool s (prm q 0 1))) q s)) ∧
  (∀ (q : Req) (s : State), clears 0x0642 true (if ownerQueues (prm q 0 4) (prm q 4 4) then 2 else 1) (chkQosMarkcfg q s) q s = true →
    exec (.qosMarkcfg q) s = .next (served 0x0642 (act (modSet fun t => { t with marks := setRange 64 t.marks (prm q 0 4) (prm q 4 4) (prm q 8 4) })) q s))

/-- Each of the group and tile commands completes: exec answers its own effect, or a new ticket, with its completion. (R391, R394) -/
def Obligations.GroupAndTileCommandsComplete : Prop :=
  (∀ (q : Req) (s : State), clears 0x0701 ((256 + 8 * rdLe (inData q) 26 2) ≤ (inData q).length && (!onHostRing q || (256 + 8 * rdLe (inData q) 26 2) ≤ bufLen (cat 0x0701) q)) ((cat 0x0701).priv) (chkGroupConfig q s) q s = true →
    exec (.groupConfig q) s = .next (served 0x0701 (act (modSet fun t => { t with groups := mput t.groups (prm q 0 2) (groupRec (inData q)) })) q s)) ∧
  (∀ (q : Req) (s : State), clears 0x0702 true ((cat 0x0702).priv) (chkGroupEnable q s) q s = true →
    exec (.groupEnable q) s = .next (served 0x0702 (act (enableGroup (prm q 0 2) (prm q 4 4))) q s)) ∧
  (∀ (q : Req) (s : State), clears 0x0703 true 1 (chkGroupDisable q s) q s = true →
    ∃ k, freeSlot (takeCmd q s) = some k ∧ exec (.groupDisable q) s = .next (queuedOn 0x0703 1 k q s)) ∧
  (∀ (q : Req) (s : State), clears 0x0704 true ((cat 0x0704).priv) (chkGroupAbort q s) q s = true →
    exec (.groupAbort q) s = .next (served 0x0704 (act (failSeq (prm q 0 2) (prm q 4 4) 4)) q s)) ∧
  (∀ (q : Req) (s : State), clears 0x0705 true ((cat 0x0705).priv) none q s = true →
    exec (.groupQuery q) s = .next (served 0x0705 (fun s => (whenS (prm q 2 1 == 1) (clearGroup (prm q 0 2)) s, qGroup s (prm q 0 2))) q s)) ∧
  (∀ (q : Req) (s : State), clears 0x0706 true ((cat 0x0706).priv) (refuseIf (groupSt s (prm q 0 2) != 2) 0x0005) q s = true →
    exec (.groupMissing q) s = .next (answered 0x0706 (qMissing (takeCmd q s) (prm q 0 2) (prm q 4 4)) q s)) ∧
  (∀ (q : Req) (s : State), clears 0x0707 true ((cat 0x0707).priv) (dieChk s (prm q 0 1)) q s = true →
    exec (.groupPoolquery q) s = .next (answered 0x0707 (qGroupPool (takeCmd q s) (prm q 0 1)) q s)) ∧
  (∀ (q : Req) (s : State), clears 0x0708 true ((cat 0x0708).priv) (chkGroupUpdcfg q s) q s = true →
    exec (.groupUpdcfg q) s = .next (served 0x0708 (act (modSet fun t => { t with upd := mset updDflt t.upd (prm q 0 2) (updRec q.entry.param) })) q s)) ∧
  (∀ (q : Req) (s : State), clears 0x0709 true ((cat 0x0709).priv) (dieChk s (prm q 0 1)) q s = true →
    exec (.groupUpdquery q) s = .next (answered 0x0709 (qUpd (takeCmd q s) (prm q 0 1)) q s)) ∧
  (∀ (q : Req) (s : State), clears 0x0780 true (if (prm q 2 1 == 1) then 1 else 0) none q s = true →
    exec (.groupNanread q) s = .next (served 0x0780 (fun s => (whenS ((prm q 2 1 == 1) && groupOn s (prm q 0 2)) (clearLatch (prm q 0 2)) s, qLatch s (prm q 0 2))) q s)) ∧
  (∀ (q : Req) (s : State), clears 0x0801 true 2 (chkTileLoad q s) q s = true →
    ∃ k, freeSlot (takeCmd q s) = some k ∧ exec (.tileLoad q) s = .next (queuedOn 0x0801 2 k q s)) ∧
  (∀ (q : Req) (s : State), clears 0x0802 true ((cat 0x0802).priv) (chkTileUnload q s) q s = true →
    exec (.tileUnload q) s = .next (served 0x0802 (act (onTile fun x => { x with progs := mdel x.progs (prm q 0 1) })) q s)) ∧
  (∀ (q : Req) (s : State), clears 0x0803 true ((cat 0x0803).priv) (firstOf [refuseIf (slotBad q) 0x0007, refuseIf (!s.id.tiles) 0x0003]) q s = true →
    exec (.tileProgquery q) s = .next (answered 0x0803 (qProg (takeCmd q s) (prm q 0 1)) q s)) ∧
  (∀ (q : Req) (s : State), clears 0x0804 true ((cat 0x0804).priv) (chkTileUpdbind q s) q s = true →
    exec (.tileUpdbind q) s = .next (served 0x0804 (act fun s => syncImem (modSet (fun t => { t with updBinds := mput t.updBinds (prm q 0 1) (bindRec q) }) s)) q s)) ∧
  (∀ (q : Req) (s : State), clears 0x0805 true ((cat 0x0805).priv) (chkTileUpdunbind q s) q s = true →
    exec (.tileUpdunbind q) s = .next (served 0x0805 (act fun s => syncImem (modSet (fun t => { t with updBinds := mdel t.updBinds (prm q 0 1) }) s)) q s)) ∧
  (∀ (q : Req) (s : State), clears 0x0806 true ((cat 0x0806).priv) (refuseIf (!s.id.tiles) 0x0003) q s = true →
    exec (.tileUpdquery q) s = .next (answered 0x0806 (qUpdBind (takeCmd q s) (prm q 0 1)) q s)) ∧
  (∀ (q : Req) (s : State), clears 0x0840 true ((cat 0x0840).priv) (chkTileQuery q s) q s = true →
    exec (.tileQuery q) s = .next (answered 0x0840 (qTile (takeCmd q s) (32 * prm q 0 1 + prm q 1 1)) q s)) ∧
  (∀ (q : Req) (s : State), clears 0x0841 true ((cat 0x0841).priv) (chkTilePower q s) q s = true →
    exec (.tilePower q) s = .next (served 0x0841 (act (forEach (namedTiles s (prm q 0 1) (prm q 1 1)) fun t => setTilePower t (prm q 2 1) (prm q 4 2))) q s)) ∧
  (∀ (q : Req) (s : State), clears 0x0842 true 1 (chkTileSelftest q s) q s = true →
    ∃ k, freeSlot (takeCmd q s) = some k ∧ exec (.tileSelftest q) s = .next (queuedOn 0x0842 1 k q s))

/-- Each of the schedule, time and audit commands completes: exec answers its own effect, or a new ticket, with its completion. (R391, R394) -/
def Obligations.SchedCommandsComplete : Prop :=
  (∀ (q : Req) (s : State), clears 0x0901 true (imagePriv (inData q)) (chkSchedLoad q s) q s = true →
    ∃ k, freeSlot (takeCmd q s) = some k ∧ exec (.schedLoad q) s = .next (queuedOn 0x0901 (imagePriv (inData q)) k q s)) ∧
  (∀ (q : Req) (s : State), clears 0x0902 true ((cat 0x0902).priv) (chkSchedUnload q s) q s = true →
    exec (.schedUnload q) s = .next (served 0x0902 (act (onSched fun x => { x with images := mdel x.images (prm q 0 1) })) q s)) ∧
  (∀ (q : Req) (s : State), clears 0x0903 true (imagePriv (mget [] s.sched.images (prm q 0 1))) (chkSchedEnable q s) q s = true →
    ∃ k, freeSlot (takeCmd q s) = some k ∧ exec (.schedEnable q) s = .next (queuedOn 0x0903 (imagePriv (mget [] s.sched.images (prm q 0 1))) k q s)) ∧
  (∀ (q : Req) (s : State), clears 0x0904 true ((cat 0x0904).priv) (chkSchedStop q s) q s = true →
    exec (.schedStop q) s = .next (served 0x0904 (act fun s => if prm q 0 1 = 0 then onSched (fun x => { x with stopAtEnd := true }) s else haltImage 9 s) q s)) ∧
  (∀ (q : Req) (s : State), clears 0x0905 true ((cat 0x0905).priv) (chkSchedDisable s) q s = true →
    exec (.schedDisable q) s = .next (served 0x0905 (act disableImage) q s)) ∧
  (∀ (q : Req) (s : State), clears 0x0906 true ((cat 0x0906).priv) none q s = true →
    exec (.schedQuery q) s = .next (answered 0x0906 (qSched (takeCmd q s)) q s)) ∧
  (∀ (q : Req) (s : State), clears 0x0907 true ((cat 0x0907).priv) (chkSchedTimecfg q) q s = true →
    exec (.schedTimecfg q) s = .next (served 0x0907 (act (timecfg q)) q s)) ∧
  (∀ (q : Req) (s : State), clears 0x0908 true ((cat 0x0908).priv) none q s = true →
    exec (.schedTimequery q) s = .next (answered 0x0908 (qTime (takeCmd q s)) q s)) ∧
  (∀ (q : Req) (s : State), clears 0x0909 true ((cat 0x0909).priv) (chkSchedAuditcfg q s) q s = true →
    exec (.schedAuditcfg q) s = .next (served 0x0909 (act (setAudit (prm q 0 2) ((prm q 2 1).testBit 0))) q s)) ∧
  (∀ (q : Req) (s : State), clears 0x090A true ((cat 0x090A).priv) (chkSchedAuditread q s) q s = true →
    exec (.schedAuditread q) s = .next (answered 0x090A (qAudit (takeCmd q s) (prm q 0 2) (prm q 4 4)) q s))

/-- Each of the snapshot and flash commands completes: exec answers its own effect, or a new ticket, with its completion. (R391, R394) -/
def Obligations.SnapAndFlashCommandsComplete : Prop :=
  (∀ (q : Req) (s : State), clears 0x0A01 true ((cat 0x0A01).priv) (chkSnapPlan q s) q s = true →
    exec (.snapPlan q) s = .next (served 0x0A01 (act (setPlan (planRec q))) q s)) ∧
  (∀ (q : Req) (s : State), clears 0x0A02 true ((cat 0x0A02).priv) none q s = true →
    exec (.snapPlanquery q) s = .next (answered 0x0A02 (qPlan (takeCmd q s)) q s)) ∧
  (∀ (q : Req) (s : State), clears 0x0A03 true ((cat 0x0A03).priv) (chkSnapSeal q s) q s = true →
    exec (.snapSeal q) s = .next (served 0x0A03 (act (askSeal (prm q 0 1) (prm q 8 8) false)) q s)) ∧
  (∀ (q : Req) (s : State), clears 0x0A04 true ((cat 0x0A04).priv) (chkSnapReelcfg q s) q s = true →
    exec (.snapReelcfg q) s = .next (served 0x0A04 (act (modSet fun t => { t with reel := reelRec q })) q s)) ∧
  (∀ (q : Req) (s : State), clears 0x0A05 true ((cat 0x0A05).priv) (chkSnapReelenable q s) q s = true →
    exec (.snapReelenable q) s = .next (served 0x0A05 (act (setReel ((prm q 0 1).testBit 0))) q s)) ∧
  (∀ (q : Req) (s : State), clears 0x0A06 (((prm q 1 1).testBit 0) || (inData q).length == 256) 2 (chkSnapTarget q s) q s = true →
    exec (.snapTarget q) s = .next (served 0x0A06 (act (setTarget (prm q 0 1) (if ((prm q 1 1).testBit 0) then none else some (targetRec q)))) q s)) ∧
  (∀ (q : Req) (s : State), clears 0x0A07 true 1 (chkSnapDrain q s) q s = true →
    ∃ k, freeSlot (takeCmd q s) = some k ∧ exec (.snapDrain q) s = .next (queuedOn 0x0A07 1 k q s)) ∧
  (∀ (q : Req) (s : State), clears 0x0A08 true 2 (chkSnapRestore q s) q s = true →
    ∃ k, freeSlot (takeCmd q s) = some k ∧ exec (.snapRestore q) s = .next (queuedOn 0x0A08 2 k q s)) ∧
  (∀ (q : Req) (s : State), clears 0x0A09 true ((cat 0x0A09).priv) (chkSnapList q) q s = true →
    exec (.snapList q) s = .next (answered 0x0A09 (qList (takeCmd q s) (prm q 0 1)) q s)) ∧
  (∀ (q : Req) (s : State), clears 0x0A0A true ((cat 0x0A0A).priv) none q s = true →
    exec (.snapQuery q) s = .next (answered 0x0A0A (qSnap (takeCmd q s)) q s)) ∧
  (∀ (q : Req) (s : State), clears 0x0B01 true ((cat 0x0B01).priv) (flashChk s) q s = true →
    exec (.flashHealth q) s = .next (answered 0x0B01 (qHealth (takeCmd q s)) q s)) ∧
  (∀ (q : Req) (s : State), clears 0x0B02 true 1 (chkFlashScan s) q s = true →
    ∃ k, freeSlot (takeCmd q s) = some k ∧ exec (.flashScan q) s = .next (queuedOn 0x0B02 1 k q s)) ∧
  (∀ (q : Req) (s : State), clears 0x0B03 true ((cat 0x0B03).priv) (chkFlashScancfg q s) q s = true →
    exec (.flashScancfg q) s = .next (served 0x0B03 (act (modSet fun t => { t with scanH := if prm q 0 1 = 0 then 24 else prm q 0 1, scanPct := if prm q 1 1 = 0 then 10 else prm q 1 1, refreshPct := if prm q 2 1 = 0 then 50 else prm q 2 1 })) q s)) ∧
  (∀ (q : Req) (s : State), clears 0x0B04 (outRoom (cat 0x0B04) 512 q) 0 (chkFlashBbtread q s) q s = true →
    exec (.flashBbtread q) s = .next (answered 0x0B04 (qBbt (takeCmd q s) (prm q 0 2)) q s)) ∧
  (∀ (q : Req) (s : State), clears 0x0B05 true 2 (firstOf [flashChk s, formatBusy s]) q s = true →
    ∃ k, freeSlot (takeCmd q s) = some k ∧ exec (.flashFormat q) s = .next (queuedOn 0x0B05 2 k q s))

/-- Each of the pair, power and tray commands completes: exec answers its own effect, or a new ticket, with its completion. (R391, R394) -/
def Obligations.TwinAndPowerCommandsComplete : Prop :=
  (∀ (q : Req) (s : State), clears 0x0C01 true 2 (chkGemelPair q s) q s = true →
    ∃ k, freeSlot (takeCmd q s) = some k ∧ exec (.gemelPair q) s = .next (queuedOn 0x0C01 2 k q s)) ∧
  (∀ (q : Req) (s : State), clears 0x0C02 true ((cat 0x0C02).priv) (chkGemelUnpair s) q s = true →
    exec (.gemelUnpair q) s = .next (served 0x0C02 (act unpair) q s)) ∧
  (∀ (q : Req) (s : State), clears 0x0C03 true ((cat 0x0C03).priv) none q s = true →
    exec (.gemelQuery q) s = .next (answered 0x0C03 (qGemel (takeCmd q s)) q s)) ∧
  (∀ (q : Req) (s : State), clears 0x0C04 true 2 (firstOf [refuseIf (!(liveOps s 0x0C04).isEmpty) 0x0006, adoptChk s]) q s = true →
    ∃ k, freeSlot (takeCmd q s) = some k ∧ exec (.gemelAdopt q) s = .next (queuedOn 0x0C04 2 k q s)) ∧
  (∀ (q : Req) (s : State), clearsToTwin 0x0C05 true 1 (firstOf [refuseIf (s.gemel.st != .paired) 0x0005, refuseIf (!(liveOps s 0x0C05).isEmpty) 0x0006]) q s = true →
    exec (.gemelResync q) s = .next (awaitsTwin 0x0C05 q s)) ∧
  (∀ (q : Req) (s : State) (x : Storing) (k : Nat), s.cmd.finishing = some x → freeSlot (onCmd (fun r => { r with finishing := none }) s) = some k →
    exec (.gemelResync q) s = .next (queuedStored 0x0C05 1 k x s)) ∧
  (∀ (q : Req) (s : State), clears 0x0D01 true 2 (chkEnvCap q s) q s = true →
    exec (.envCap q) s = .next (served 0x0D01 (setCap (prm q 0 2) (prm q 2 2)) q s)) ∧
  (∀ (q : Req) (s : State), clears 0x0D02 true ((cat 0x0D02).priv) (chkEnvRampcfg q s) q s = true →
    exec (.envRampcfg q) s = .next (served 0x0D02 (act (onEnvCfg fun e => { e with ramp := orDflt (prm q 0 2) 150 })) q s)) ∧
  (∀ (q : Req) (s : State), clears 0x0D03 true ((cat 0x0D03).priv) (chkEnvBrakecfg q) q s = true →
    exec (.envBrakecfg q) s = .next (served 0x0D03 (act (onEnvCfg (brakeRec q))) q s)) ∧
  (∀ (q : Req) (s : State), clears 0x0D04 true ((cat 0x0D04).priv) (chkEnvOrphancfg q s) q s = true →
    exec (.envOrphancfg q) s = .next (served 0x0D04 (act (setOrphan q)) q s)) ∧
  (∀ (q : Req) (s : State), clears 0x0D05 true ((cat 0x0D05).priv) none q s = true →
    exec (.envHeartbeat q) s = .next (served 0x0D05 heartbeat q s)) ∧
  (∀ (q : Req) (s : State), clears 0x0D06 true ((cat 0x0D06).priv) none q s = true →
    exec (.envQuery q) s = .next (answered 0x0D06 (qEnv (takeCmd q s)) q s)) ∧
  (∀ (q : Req) (s : State), clears 0x0D07 true ((cat 0x0D07).priv) (chkEnvSensors q) q s = true →
    exec (.envSensors q) s = .next (answered 0x0D07 (qSensors (takeCmd q s) (prm q 0 1) (prm q 1 1)) q s)) ∧
  (∀ (q : Req) (s : State), clears 0x0D08 true ((cat 0x0D08).priv) (refuseIf (7 < prm q 0 1) 0x0007) q s = true →
    exec (.envPsu q) s = .next (answered 0x0D08 (qPsu (takeCmd q s) (prm q 0 1)) q s)) ∧
  (∀ (q : Req) (s : State), clears 0x0D09 true ((cat 0x0D09).priv) (chkEnvRipcord q s) q s = true →
    exec (.envRipcord q) s = .next (leave (served 0x0D09 (act fun s => if prm q 0 1 = 0 then ripcord 4 0 s else onSys (fun x => { x with leaving := some 5 }) s) q s))) ∧
  (∀ (q : Req) (s : State), clears 0x0D0A true ((cat 0x0D0A).priv) none q s = true →
    exec (.envTraycfg q) s = .next (served 0x0D0A (act (setTray q)) q s)) ∧
  (∀ (q : Req) (s : State), clears 0x0D0B true ((cat 0x0D0B).priv) none q s = true →
    exec (.envTrayquery q) s = .next (answered 0x0D0B (qTray (takeCmd q s)) q s))

/-- Each of the fault, event, configuration and firmware commands completes: exec answers its own effect, or a new ticket, with its completion. (R391, R394) -/
def Obligations.FaultAndSecurityCommandsComplete : Prop :=
  (∀ (q : Req) (s : State), clears 0x0E01 (prm q 0 1 != 1 || 32 ≤ sourcesRoom q) ((cat 0x0E01).priv) (chkFaultQuery q s) q s = true →
    exec (.faultQuery q) s = .next (answered 0x0E01 (if prm q 0 1 = 0 then qSource (takeCmd q s) (prm q 2 2) else qSources (takeCmd q s) (prm q 2 2) (sourcesRoom q)) q s)) ∧
  (∀ (q : Req) (s : State), clears 0x0E02 true ((cat 0x0E02).priv) (chkFaultClasscfg q) q s = true →
    exec (.faultClasscfg q) s = .next (served 0x0E02 (act (modSet fun t => { t with classes := mset (classDflt (prm q 0 1)) t.classes (prm q 0 1) (classRec q) })) q s)) ∧
  (∀ (q : Req) (s : State), clears 0x0E03 true 2 (chkFaultIsolate q s) q s = true →
    ∃ k, freeSlot (takeCmd q s) = some k ∧ exec (.faultIsolate q) s = .next (queuedOn 0x0E03 2 k q s)) ∧
  (∀ (q : Req) (s : State), clears 0x0E04 true 2 (chkFaultRelease q s) q s = true →
    ∃ k, freeSlot (takeCmd q s) = some k ∧ exec (.faultRelease q) s = .next (queuedOn 0x0E04 2 k q s)) ∧
  (∀ (q : Req) (s : State), clears 0x0E05 true ((cat 0x0E05).priv) none q s = true →
    exec (.faultClear q) s = .next (served 0x0E05 (act fun s => whenS ((prm q 0 1).testBit 1) clearCounts (whenS ((prm q 0 1).testBit 0) clearLatchFirst s)) q s)) ∧
  (∀ (q : Req) (s : State), clears 0x0E06 ((prm q 2 1).testBit 2 || 4 * prm q 3 1 ≤ (inData q).length) 1 (chkEventTrigcfg q s) q s = true →
    exec (.eventTrigcfg q) s = .next (served 0x0E06 (setTrigger q) q s)) ∧
  (∀ (q : Req) (s : State), clears 0x0E07 (readRoom q) 0 (chkEventRead q) q s = true →
    exec (.eventRead q) s = .next (answered 0x0E07 (qEvents (takeCmd q s) (prm q 0 4) (prm q 4 4)) q s)) ∧
  (∀ (q : Req) (s : State), clears 0x0E08 true ((cat 0x0E08).priv) none q s = true →
    exec (.eventRestart q) s = .next (served 0x0E08 (act evrRestart) q s)) ∧
  (∀ (q : Req) (s : State), clears 0x0F01 (bufWhole 0x148 q) 2 (firstOf [refuseIf (!(begunOps s 0x0F01).isEmpty) 0x0006, cfgRefusal s (inData q)]) q s = true →
    ∃ k, freeSlot (takeCmd q s) = some k ∧ exec (.cfgWrite q) s = .next (queuedOn 0x0F01 2 k q s)) ∧
  (∀ (q : Req) (s : State), clears 0x0F02 (outRoom (cat 0x0F02) (copyRaw q s).length q) 0 (chkCfgRead q) q s = true →
    exec (.cfgRead q) s = .next (answered 0x0F02 ((copyRaw q) (takeCmd q s)) q s)) ∧
  (∀ (q : Req) (s : State), clears 0x0F03 (bufWhole 0x148 q) 2 (firstOf [refuseIf (!(begunOps s 0x0F03).isEmpty) 0x0006, stageRefusal s (inData q)]) q s = true →
    ∃ k, freeSlot (takeCmd q s) = some k ∧ exec (.fwStage q) s = .next (queuedOn 0x0F03 2 k q s)) ∧
  (∀ (q : Req) (s : State), clears 0x0F04 true 2 (chkFwActivate q s) q s = true →
    ∃ k, freeSlot (takeCmd q s) = some k ∧ exec (.fwActivate q) s = .next (queuedOn 0x0F04 2 k q s)) ∧
  (∀ (q : Req) (s : State), clears 0x0F05 true ((cat 0x0F05).priv) none q s = true →
    exec (.fwQuery q) s = .next (answered 0x0F05 (qFw (takeCmd q s)) q s)) ∧
  (∀ (q : Req) (s : State), clears 0x0F06 (outRoom (cat 0x0F06) 4096 q) 0 none q s = true →
    exec (.secCerts q) s = .next (answered 0x0F06 Config.certChain q s)) ∧
  (∀ (q : Req) (s : State), clears 0x0F07 true ((cat 0x0F07).priv) (chkSecFloor q s) q s = true →
    exec (.secFloor q) s = .next (served 0x0F07 (act (raiseFloor (prm q 0 4))) q s)) ∧
  (∀ (q : Req) (s : State), clears 0x0F08 true 2 (chkJournalinit s) q s = true →
    ∃ k, freeSlot (takeCmd q s) = some k ∧ exec (.cfgJournalinit q) s = .next (queuedOn 0x0F08 2 k q s))

/-- Each of the tile instructions completes: under its condition exec answers its own effect. (R263, R264, R265, R266) -/
def Obligations.TileInstructionsComplete : Prop :=
  (∀ (t : Nat) (r : Running) (s : State), AtInsn s t (0) (mOpc) r → 
    exec (.tileNop t) s = .next (nextPc t s)) ∧
  (∀ (t vd va vb : Nat) (r : Running) (s : State), AtInsn s t (insn 0x10 vd va vb 0 0 0) (mOpc + mD + mA + mB) r → 
    exec (.vadd t vd va vb) s = .next (arith t 0x10 vd [lanesOf (vreg s t va), lanesOf (vreg s t vb)] (map2 f32add (lanesOf (vreg s t va)) (lanesOf (vreg s t vb))) r s)) ∧
  (∀ (t vd va vb : Nat) (r : Running) (s : State), AtInsn s t (insn 0x11 vd va vb 0 0 0) (mOpc + mD + mA + mB) r → 
    exec (.vsub t vd va vb) s = .next (arith t 0x11 vd [lanesOf (vreg s t va), lanesOf (vreg s t vb)] (map2 f32sub (lanesOf (vreg s t va)) (lanesOf (vreg s t vb))) r s)) ∧
  (∀ (t vd va vb : Nat) (r : Running) (s : State), AtInsn s t (insn 0x17 vd va vb 0 0 0) (mOpc + mD + mA + mB) r → 
    exec (.vmin t vd va vb) s = .next (arith t 0x17 vd [lanesOf (vreg s t va), lanesOf (vreg s t vb)] (map2 f32min (lanesOf (vreg s t va)) (lanesOf (vreg s t vb))) r s)) ∧
  (∀ (t vd va vb : Nat) (r : Running) (s : State), AtInsn s t (insn 0x18 vd va vb 0 0 0) (mOpc + mD + mA + mB) r → 
    exec (.vmax t vd va vb) s = .next (arith t 0x18 vd [lanesOf (vreg s t va), lanesOf (vreg s t vb)] (map2 f32max (lanesOf (vreg s t va)) (lanesOf (vreg s t vb))) r s)) ∧
  (∀ (t vd va vb : Nat) (r : Running) (s : State), AtInsn s t (insn 0x12 vd va vb 0 0 0) (mOpc + mD + mA + mB + mC) r → 
    exec (.vmul t vd va vb false) s = .next (arith t 0x12 vd [lanesOf (vreg s t va), lanesOf (vreg s t vb)] (map2 f32mul (lanesOf (vreg s t va)) (lanesOf (vreg s t vb))) r s)) ∧
  (∀ (t vd va sb : Nat) (r : Running) (s : State), AtInsn s t (insn 0x12 vd va 0 1 sb 0) (mOpc + mD + mA + mB + mC + mS) r → 
    exec (.vmul t vd va sb true) s = .next (arith t 0x12 vd [lanesOf (vreg s t va), splat (sreg s t sb)] (map2 f32mul (lanesOf (vreg s t va)) (splat (sreg s t sb))) r s)) ∧
  (∀ (t vd va vb vc : Nat) (r : Running) (s : State), AtInsn s t (insn 0x13 vd va vb vc 0 0) (mOpc + mD + mA + mB + mC) r → 
    exec (.vfma t vd va vb vc) s = .next (arith t 0x13 vd [lanesOf (vreg s t va), lanesOf (vreg s t vb), lanesOf (vreg s t vc)]
      (((lanesOf (vreg s t va)).zip ((lanesOf (vreg s t vb)).zip (lanesOf (vreg s t vc)))).map fun e => f32fma e.1 e.2.1 e.2.2) r s)) ∧
  (∀ (t vd va vb sc : Nat) (r : Running) (s : State), AtInsn s t (insn 0x14 vd va vb 0 sc 0) (mOpc + mD + mA + mB + mS) r → 
    exec (.vema t vd va vb sc) s = .next (arith t 0x14 vd [lanesOf (vreg s t va), lanesOf (vreg s t vb), splat (f32of (sreg s t sc))]
      (map2 (fun x y => f32ema x y (f32of (sreg s t sc))) (lanesOf (vreg s t va)) (lanesOf (vreg s t vb))) r s)) ∧
  (∀ (t vd va vb sa sb : Nat) (r : Running) (s : State), AtInsn s t (insn 0x15 vd va vb sb sa 0) (mOpc + mD + mA + mB + mC + mS) r → 
    exec (.vaxpby t vd va vb sa sb) s = .next (arith t 0x15 vd [lanesOf (vreg s t va), lanesOf (vreg s t vb), splat (f32of (sreg s t sa)), splat (f32of (sreg s t sb))]
      (map2 (fun x y => f32axpby x (f32of (sreg s t sa)) y (f32of (sreg s t sb))) (lanesOf (vreg s t va)) (lanesOf (vreg s t vb))) r s)) ∧
  (∀ (t vd va sa sb : Nat) (r : Running) (s : State), AtInsn s t (insn 0x16 vd va 0 sb sa 0) (mOpc + mD + mA + mC + mS) r → 
    exec (.vrsqa t vd va sa sb) s = .next (arith t 0x16 vd [lanesOf (vreg s t va), splat (f32of (sreg s t sa)), splat (f32of (sreg s t sb))]
      ((lanesOf (vreg s t va)).map fun x => f32rsqa x (f32of (sreg s t sa)) (f32of (sreg s t sb))) r s)) ∧
  (∀ (t vd : Nat) (r : Running) (s : State), AtInsn s t (insn 0x20 vd 0 0 0 0 0) (mOpc + mD) r → 
    exec (.vzero t vd) s = .next (setV t vd 0 (nextPc t s))) ∧
  (∀ (t sd imm : Nat) (r : Running) (s : State), AtInsn s t (insn 0x30 sd 0 0 0 0 imm) (mOpc + mD + mImm) r → 
    exec (.sli t sd imm) s = .next (setS t sd (sext imm) (nextPc t s))) ∧
  (∀ (t sd sa imm : Nat) (r : Running) (s : State), AtInsn s t (insn 0x31 sd sa 0 0 0 imm) (mOpc + mD + mA + mImm) r → 
    exec (.saddi t sd sa imm) s = .next (setS t sd (sreg s t sa + sext imm) (nextPc t s))) ∧
  (∀ (t sd sa sb : Nat) (r : Running) (s : State), AtInsn s t (insn 0x32 sd sa sb 0 0 0) (mOpc + mD + mA + mB) r → 
    exec (.sfmul t sd sa sb) s = .next (setS t sd (f32mul (f32of (sreg s t sa)) (f32of (sreg s t sb))) (nextPc t s))) ∧
  (∀ (t sd sa sb : Nat) (r : Running) (s : State), AtInsn s t (insn 0x33 sd sa sb 0 0 0) (mOpc + mD + mA + mB) r → 
    exec (.sfadd t sd sa sb) s = .next (setS t sd (f32add (f32of (sreg s t sa)) (f32of (sreg s t sb))) (nextPc t s))) ∧
  (∀ (t sd off : Nat) (r : Running) (s : State), AtInsn s t (insn 0x34 sd 0 0 0 0 off) (mOpc + mD + mImm) r → 
    exec (.sldu t sd off) s = .next (setS t sd (if off ≤ 60 then rdLe r.block off 4 else Config.unstated 62 off % 2 ^ 32) (nextPc t s))) ∧
  (∀ (t vd sa off : Nat) (r : Running) (s : State), AtInsn s t (insn 0x01 vd 0 0 0 sa off) (mOpc + mD + mS + mImm) r → spadOk r (spadAddr s t sa off) 64 = true → 
    exec (.vld t vd sa off) s = .next (setV t vd (leNat (spadRead s t (spadAddr s t sa off) 64)) (nextPc t s))) ∧
  (∀ (t vs sa off : Nat) (r : Running) (s : State), AtInsn s t (insn 0x02 0 vs 0 0 sa off) (mOpc + mA + mS + mImm) r → spadOk r (spadAddr s t sa off) 64 = true → 
    exec (.vst t vs sa off) s = .next (spadWrite t (spadAddr s t sa off) (leBytes 64 (vreg s t vs)) (nextPc t s))) ∧
  (∀ (t vs sa off fmt : Nat) (r : Running) (s : State), AtInsn s t (insn 0x03 0 vs 0 fmt sa off) (mOpc + mA + mC + mS + mImm) r → spadOk r (spadAddr s t sa off) ((lanesOf (vreg s t vs)).flatMap (weightBytes fmt)).length = true → 
    exec (.vstc t vs sa off fmt) s = .next (spadWrite t (spadAddr s t sa off) ((lanesOf (vreg s t vs)).flatMap (weightBytes fmt)) (nextPc t s))) ∧
  (∀ (t sa sb len : Nat) (r : Running) (s : State), AtInsn s t (insn 0x40 sa sb 0 0 0 len) (mOpc + mD + mA + mImm) r → dmaOk r (sreg s t sa) (sreg s t sb) len r.readLo r.readHi = true → 
    exec (.dmard t sa sb len) s = .next (startDma t ⟨r.group, r.seq, r.chunk, false, sreg s t sa, sreg s t sb, len⟩ (nextPc t s))) ∧
  (∀ (t sa sb len : Nat) (r : Running) (s : State), AtInsn s t (insn 0x41 sa sb 0 0 0 len) (mOpc + mD + mA + mImm) r → dmaOk r (sreg s t sa) (sreg s t sb) len r.writeLo r.writeHi = true → 
    exec (.dmawr t sa sb len) s = .next (stepWritten (sreg s t sb) (startDma t ⟨r.group, r.seq, r.chunk, true, sreg s t sa, sreg s t sb, len⟩ (nextPc t s)))) ∧
  (∀ (t : Nat) (r : Running) (s : State), AtInsn s t (insn 0x42 0 0 0 0 0 0) (mOpc) r → 
    exec (.dmawait t) s = .next (onRun t (fun r => { r with waiting := !r.dmas.isEmpty }) (nextPc t s))) ∧
  (∀ (t sd off : Nat) (r : Running) (s : State), AtInsn s t (insn 0x50 sd 0 0 0 0 off) (mOpc + mD + mImm) r → (sreg s t sd + 2 ^ 64 - 1) % 2 ^ 64 = 0 → 
    exec (.loop t sd off) s = .next (nextPc t (setS t sd 0 s))) ∧
  (∀ (t sd off : Nat) (r : Running) (s : State), AtInsn s t (insn 0x50 sd 0 0 0 0 off) (mOpc + mD + mImm) r → (sreg s t sd + 2 ^ 64 - 1) % 2 ^ 64 ≠ 0 → slotBase r.pc + off ≤ r.pc → 
    exec (.loop t sd off) s = .next (onRun t (fun r => { r with pc := r.pc - off }) (setS t sd ((sreg s t sd + 2 ^ 64 - 1) % 2 ^ 64) s))) ∧
  (∀ (t : Nat) (r : Running) (s : State), AtInsn s t (insn 0x51 0 0 0 0 0 0) (mOpc) r → 
    exec (.endEntry t) s = .next (endUpdate t r.group r.seq r.chunk
      (onTileU t (fun x => { x with run := none, outDma := x.outDma ++ r.dmas.filter (·.write), idleFrom := s.mono }) s)))

/-- Each of the tile-queue and tile-power events completes: under its condition exec answers its own effect. (R188, R261) -/
def Obligations.TileEntriesComplete : Prop :=
  (∀ (t : Nat) (e : TileEntry) (l : List TileEntry) (s : State), (tileOf s t).queue = e :: l → (tileOf s t).st = .active → (tileOf s t).run = none → isCombine e = true → 
    exec (.combineEntry t none) s = .next (doCombine t e (onTileU t (fun x => { x with queue := l, idleFrom := s.mono }) s))) ∧
  (∀ (t : Nat) (e : TileEntry) (l : List TileEntry) (s : State), (tileOf s t).queue = e :: l → (tileOf s t).st = .active → (tileOf s t).run = none → isFinalise e = true → 
    exec (.finaliseEntry t none) s = .next (doFinalise t e (onTileU t (fun x => { x with queue := l, idleFrom := s.mono }) s))) ∧
  (∀ (t : Nat) (e : TileEntry) (l : List TileEntry) (s : State), (tileOf s t).queue = e :: l → (tileOf s t).st = .active → (tileOf s t).run = none → updateReady s t e = true → 
    exec (.updateEntry t none) s = .next (doUpdate t e (onTileU t (fun x => { x with queue := l, idleFrom := s.mono }) s))) ∧
  (∀ (t n : Nat) (r : Running) (m : Dma) (s : State), (tileOf s t).run = some r → r.dmas[n]? = some m → 
    exec (.dmaComplete t n false) s = .next (moveDma t m (onTileU t (fun x => { x with run := x.run.map fun r => { r with dmas := r.dmas.eraseIdx n, waiting := r.waiting && r.dmas.length != 1 } }) s))) ∧
  (∀ (t : Nat) (s : State), gateOk s t = true → 
    exec (.tileIdleGate t) s = .next (onTileU t (fun x => { x with st := .gated }) (stopActive t s))) ∧
  (∀ (t : Nat) (s : State), (tileOf s t).st = .lifting → (dieSt s (t / 32)).clockOn = true → 
    exec (.tileLiftDone t) s = .next (onTileU t (fun x => { x with st := .active, activeAt := s.mono, idleFrom := s.mono, vregs := [] }) s)) ∧
  (∀ (t : Nat) (s : State), (tileOf s t).st = .fault → s.sys.keelLost = false → 
    exec (.tileReloadDone t) s = .next (loadImem t (onTileU t (fun x => { x with st := .active, activeAt := s.mono, idleFrom := s.mono, vregs := [], sregs := [] }) s))) ∧
  (∀ (tk : Nat) (failed : List Nat) (k : Ticket) (s : State), ticketOf s tk = some k → runningTk s tk 0x0842 = true → 
    exec (.tileSelftestDone tk failed) s = .next (ticketDone tk (forEach (((namedTiles s (rdLe k.param 0 1) (rdLe k.param 1 1)).filter (tileUsable s)).zipIdx)
      (fun e => noteSelftest e.1 (failed.getD e.2 0)) s)))

/-- Each of the frame, cell, pool and spar events completes: under its condition exec answers its own effect. (R121, R131, R145) -/
def Obligations.SwitchEventsComplete : Prop :=
  (∀ (lp : Nat) (f : Frame) (par : Option Nat) (s : State), linkUp s lp = true → lpLoc lp ≠ 31 → lanesActive s lp = true → lcrcOk f = true → (linkOf (takeAck lp f.ack f.ackValid f.nak s) lp).st = .up → f.seq = (linkOf (takeAck lp f.ack f.ackValid f.nak s) lp).rxNext → 
    exec (.frameArrival lp f par) s = .next (takeRx lp f par (takeAck lp f.ack f.ackValid f.nak s))) ∧
  (∀ (lp fid : Nat) (s : State), 
    exec (.frameStored lp fid) s = .next (onCore (fun c => { c with leaf := c.leaf.map fun e => (e.1, e.2.map fun x => if x.id = fid ∧ x.inL = some lp then { x with eligible := true } else x) }) s)) ∧
  (∀ (lp : Nat) (s : State), lpExists s lp = true → 
    exec (.egressGrant lp none) s = .next (grantNext lp s)) ∧
  (∀ (lp : Nat) (bad : Option (Nat × Bool)) (s : State), linkUp s lp = true → lanesActive s lp = true → 
    exec (.frameTransmit lp bad) s = .next (transmit lp bad s)) ∧
  (∀ (die cls : Nat) (s : State), dieFitted s die = true → cls < 8 → ((dieSt s die).waits.any fun w => w.frame.cls == cls) = true → 
    exec (.poolRoomAvailable die cls) s = .next (settleSeqs (restartWaits (dieSt s die).waits.length die cls (relevel die cls s)))) ∧
  (∀ (die cell : Nat) (s : State), dieFitted s die = true → cell < cellTotal → (dieSt s die).clockOn = true → (mget cellDflt (dieSt s die).cells cell).used = false → 
    exec (.freeStoreAudit die cell false true) s = .next (onDie die (fun x => { x with parity := inc32 x.parity }) (retireCell die cell s))) ∧
  (∀ (die table entry : Nat) (s : State), s.sys.keelLost = false → 
    exec (.tableEntryRewrite die table entry) s = .next (onDie die (fun x => { x with badEntries := x.badEntries.filter fun e => e != (table, entry) }) s)) ∧
  (∀ (die : Nat) (s : State), dieFitted s die = true → mayStop s die = true → 
    exec (.dieClockStop die) s = .next (onDie die (fun x => { x with clockOn := false }) s)) ∧
  (∀ (die : Nat) (s : State), dieFitted s die = true → 
    exec (.dieClockLiftDone die) s = .next (onDie die (fun x => { x with clockOn := true }) s)) ∧
  (∀ (die : Nat) (s : State), dieUsable s die = true → (dieSt s die).clockOn = true → 
    exec (.sparSlotFill die) s = .next (fillSlots die s)) ∧
  (∀ (die far : Nat) (k : SparCell) (l : List SparCell) (s : State), mget [] (dieSt s far).flight die = k :: l → k.dstDie = die → 
    exec (.sparCellLand die far true) s = .next (landCell { k with age := min 127 (k.age + sparTime s.id.n far die) }
      (onDie far (fun d => { d with flight := mset [] d.flight die l }) s))) ∧
  (∀ (die far : Nat) (k : SparCell) (l : List SparCell) (s : State), mget [] (dieSt s far).flight die = k :: l → k.dstDie ≠ die → 
    exec (.sparCellLand die far true) s = .next (onDie die (fun d => { d with landing := d.landing ++ [{ k with age := min 127 (k.age + sparTime s.id.n far die) }] })
      (onDie far (fun d => { d with flight := mset [] d.flight die l }) s))) ∧
  (∀ (lp fid : Nat) (x : TxEnt) (s : State), (unsentEnts (linkOf s lp)).find? (fun t => t.id == fid) = some x → x.firstAt.isSome = true → x.landed < x.total → x.started = false → 
    exec (.partialFrameTimeout lp fid) s = .next (frameLost x.frame (onDie (lpDie lp) (fun d => { d with partialDiscard := inc32 d.partialDiscard }) (dropTx lp x s)))) ∧
  (∀ (die far : Nat) (s : State), (sparOf s die far).st = 2 → dieUsable s die = true → dieUsable s far = true → sparHeld s die far = false → 
    exec (.sparRetrain die far true) s = .next (onSpar far die (fun p => { p with st := 4, fails := [] }) (onSpar die far (fun p => { p with st := 4, fails := [] }) s))) ∧
  (∀ (die far : Nat) (s : State), (sparOf s die far).st = 4 → (sparOf s die far).fails = [] → (sparOf s far die).fails = [] → 
    exec (.sparUp die far) s = .next (record 0x0482 [(1, min die far), (1, max die far)]
      (onSpar far die (fun p => { p with st := 1 }) (onSpar die far (fun p => { p with st := 1 }) s))))

/-- Each of the binding, drain, hold and commit events completes: under its condition exec answers its own effect. (R47, R48, R49, R154) -/
def Obligations.BindingEventsComplete : Prop :=
  (∀ (s : State), running s = true → s.sys.keelLost = false → 
    exec (.congestionMapPeriod) s = .next (restartPeaks (onCore (fun c => { c with map := congMap s, mapSeq := (c.mapSeq + 1) % 2 ^ 32 }) s))) ∧
  (∀ (tk : Nat) (s : State), s.core.holdTicket = some tk → s.core.held = true → scaleOutIdle s = true → 
    exec (.holdDrained) s = .next (ticketDone tk (onCore (fun c => { c with holdTicket := none }) s))) ∧
  (∀ (tk n : Nat) (s : State), s.core.commit = some (tk, n) → scaleOutIdle s = true → 
    exec (.commitDrained) s = .next (commitBank tk s)) ∧
  (∀ (tk n : Nat) (s : State), s.core.commit = some (tk, n) → 
    exec (.commitDrainTimeout) s = .next (ticketFail tk 0x0404 (onCore (fun c => { c with commit := none }) s))) ∧
  (∀ (tk : Nat) (s : State), 
    exec (.bindFenceAcked tk) s = .next (onNet (fun n => { n with binds := n.binds.map fun b => if b.ticket = tk ∧ b.acked = false then { b with acked := true, steps := b.steps.map fun e => (e.1, if e.2 = 0 then 1 else e.2) } else b }) s)) ∧
  (∀ (kind obj : Nat) (b : BindOp) (s : State), bindAt s kind obj 1 = some b → drainedObj s kind obj = true → 
    exec (.bindDrainEnd kind obj) s = .next (setStep b obj 2 s)) ∧
  (∀ (lp : Nat) (s : State), draining s lp = true → lpIdle s lp = false → 
    exec (.drainForced lp) s = .next (objEvent 0x0583 1 lp (onLink lp (fun k => { k with flushed := sat 32 (k.flushed + (unsentEnts (linkOf s lp)).length + (discardQueued lp (forEach (unsentEnts (linkOf s lp)) (dropTx lp) s)).1) })
      (onCore (fun c => { c with updTx := mdel c.updTx lp })
        (discardQueued lp (forEach (unsentEnts (linkOf s lp)) (dropTx lp) s)).2)))) ∧
  (∀ (kind obj : Nat) (b : BindOp) (s : State), bindAt s kind obj 2 = some b → 
    exec (.bindScrubEnd kind obj) s = .next (finishBind { b with steps := mput b.steps obj 3 } (setStep b obj 3 (bindObj kind obj b.toSlice true (scrubObj kind obj s))))) ∧
  (∀ (n : Nat) (s : State), mhas s.net.drains n = true → (sliceLps s n).all (lpIdle s) = true → (begunOps s 0x0503) = [] → sliceHeld (onNet (fun x => { x with drains := mdel x.drains n }) s) n = true → begunOps (setSlice n 1 (onNet (fun x => { x with drains := mdel x.drains n }) s)) 0x0503 = [] → 
    exec (.sliceDrainEnd n) s = .next (setSlice n 1 (onNet (fun x => { x with drains := mdel x.drains n }) s))) ∧
  (∀ (die granule : Nat) (s : State), dieUsable s die = true → 65536 * granule < shardB → 
    exec (.scrubGranuleFill die granule) s = .next (fillGranule (die * shardB + 65536 * granule) s))

/-- Each of the lane, cartridge and link events completes: under its condition exec answers its own effect. (R59, R60, R82, R96) -/
def Obligations.LaneAndLinkEventsComplete : Prop :=
  (∀ (lp : Nat) (s : State), lpHas s lp .powering = true → 
    exec (.lanePowerUpEnd lp true) s = .next (lanesReady lp (setPower lp .active s))) ∧
  (∀ (lp : Nat) (s : State), lpHas s lp .powering = true → 
    exec (.lanePowerUpEnd lp false) s = .next (noLock lp s)) ∧
  (∀ (lp : Nat) (s : State), lpHas s lp .off = true → portLive s (lpPort lp) = true → (linkOf s lp).st ≠ .disabled → 
    exec (.laneRetry lp) s = .next (forEach (lpLanes s lp) powerLane s)) ∧
  (∀ (lane : Nat) (s : State), (laneOf s lane).power = .active → 
    exec (.lossOfSignal lane) s = .next (dropLanes (laneLp (report (srcId 3 (lane / 4)) 3 (record 0x0281 [(2, lane)]
        (onLane lane (fun x => { x with los := true, losCnt := inc32 x.losCnt }) s))) lane)
      (report (srcId 3 (lane / 4)) 3 (record 0x0281 [(2, lane)] (onLane lane (fun x => { x with los := true, losCnt := inc32 x.losCnt }) s))))) ∧
  (∀ (lane : Nat) (s : State), (laneOf s lane).power = .active → 
    exec (.lossOfLock lane) s = .next (dropLanes (laneLp (report (srcId 3 (lane / 4)) 3 (record 0x0282 [(2, lane)]
        (onLane lane (fun x => { x with lol := true, lolCnt := inc32 x.lolCnt }) s))) lane)
      (report (srcId 3 (lane / 4)) 3 (record 0x0282 [(2, lane)] (onLane lane (fun x => { x with lol := true, lolCnt := inc32 x.lolCnt }) s))))) ∧
  (∀ (die : Nat) (s : State), dieFitted s die = true → mget 0 s.net.refclk die ≠ 2 → 
    exec (.refclkLoss die true) s = .next (record 0x0283 [(1, die)] (onNet (fun n => { n with refclk := mset 0 n.refclk die (1 - mget 0 s.net.refclk die) }) s))) ∧
  (∀ (die : Nat) (s : State), dieFitted s die = true → mget 0 s.net.refclk die ≠ 2 → 
    exec (.refclkLoss die false) s = .next (report (srcId 1 die) 6 (forEach ((List.range 32).map (32 * die + ·)) portOff
      (onNet (fun n => { n with refclk := mset 0 n.refclk die 2 }) s)))) ∧
  (∀ (lp : Nat) (s : State), lpHas s lp .lifting = true → 
    exec (.liftComplete lp) s = .next (onLink lp (fun k => { k with idleFrom := s.mono }) (setPower lp .active s))) ∧
  (∀ (lp : Nat) (s : State), dozeOk s lp = true → (linkOf s lp).dozeReq = false → 
    exec (.dozeIdleTimeout lp) s = .next (emit (.block lp 3 (dozeBlk 0)) (onLink lp (fun k => { k with dozeReq := true }) s))) ∧
  (∀ (lp blk : Nat) (s : State), lpExists s lp = true → lpLoc lp ≠ 31 → blockOk blk = true → blkType blk = 3 → linkUp s lp = true → 
    exec (.dozeBlockRx lp blk) s = .next (dozeMsg lp (bitsAt blk 247 246) s)) ∧
  (∀ (lp blk : Nat) (s : State), lpExists s lp = true → lpLoc lp ≠ 31 → blockOk blk = true → blkType blk = 1 → (linkOf s lp).st = .creditInit → 
    exec (.linkCtlRx lp blk) s = .next (forEach (List.range 4) (fun i => takeCret lp (bitsAt blk (183 + 16 * i) (168 + 16 * i))) s)) ∧
  (∀ (lp blk : Nat) (s : State), lpExists s lp = true → lpLoc lp ≠ 31 → blockOk blk = true → blkType blk = 2 → 
    exec (.trainRx lp blk) s = .next (trainMsg lp blk s)) ∧
  (∀ (lp : Nat) (s : State), lpExists s lp = true → lpLoc lp ≠ 31 → (linkOf s lp).st = .locking → 
    exec (.trainBlockDue lp) s = .next (sendTrain lp 0 s)) ∧
  (∀ (lp : Nat) (s : State), lpExists s lp = true → lpLoc lp ≠ 31 → (linkOf s lp).st = .creditInit → 
    exec (.trainBlockDue lp) s = .next (sendTrain lp 1 s)) ∧
  (∀ (lp : Nat) (s : State), lpExists s lp = true → lpLoc lp ≠ 31 → (linkOf s lp).st = .retrain → 
    exec (.trainBlockDue lp) s = .next (sendTrain lp 2 s)) ∧
  (∀ (lp : Nat) (s : State), linkUp s lp = true → 
    exec (.creditReturnDue lp) s = .next (onLink lp (fun k => { k with rxSent := (cretDue (linkOf s lp)).foldl (fun a e => a.set e.1 e.2) k.rxSent })
      (forEach (chunksOf 4 (cretDue (linkOf s lp))) (fun c s =>
        if c.isEmpty then s else emit (.block lp 1 (linkCtl (((linkOf s lp).rxNext + 4095) % 4096) true false c)) s) s))) ∧
  (∀ (lp : Nat) (s : State), linkUp s lp = true → sentEnts (linkOf s lp) ≠ [] → 
    exec (.replayTimeout lp) s = .next (resendLp lp s)) ∧
  (∀ (lp : Nat) (s : State), (linkOf s lp).st = .locking → lpLoc lp ≠ 31 → 
    exec (.lockingTimeout lp) s = .next (retrain lp s)) ∧
  (∀ (lp : Nat) (s : State), (linkOf s lp).st = .exchange → 
    exec (.exchangeTimeout lp) s = .next (retrain lp s)) ∧
  (∀ (lp : Nat) (s : State), (linkOf s lp).st = .retrain → 
    exec (.retrainEnd lp) s = .next (onLink lp (fun k => { k with st := if lanesActive (creditZero lp s) lp then .locking else .waitLanes, tetherSeq := 0 }) (creditZero lp s))) ∧
  (∀ (lp : Nat) (s : State), (linkOf s lp).st = .miscabled → 
    exec (.miscabledRecheck lp) s = .next (judgeFar lp s)) ∧
  (∀ (lp : Nat) (s : State), (linkOf s lp).downAt.isSome = true → linkUp s lp = false → 
    exec (.linkFlushTimeout lp) s = .next (linkEvent 0x0289 lp (linkOf (onLink lp (fun k => { k with downAt := none, flushed := sat 32 (k.flushed + (sentEnts (linkOf s lp)).length) })
        (forEach (sentEnts (linkOf s lp)) (dropTx lp) s)) lp).st
      (onLink lp (fun k => { k with downAt := none, flushed := sat 32 (k.flushed + (sentEnts (linkOf s lp)).length) })
        (forEach (sentEnts (linkOf s lp)) (dropTx lp) s)))) ∧
  (∀ (lane : Nat) (blk : Option Nat) (s : State), lpLoc (laneLp s lane) ≠ 31 → lane / 4 < 32 * s.id.n → (laneOf s lane).power = .active → 
    exec (.tetherBlockRx lane blk) s = .next (lockMoves (laneLp s lane) (laneOf s lane).lock
      (onLane lane (tetherStep (blk.any tetherOk) (bitsAt (blk.getD 0) 176 167) (bitsAt (blk.getD 0) 166 151)) s))) ∧
  (∀ (port : Nat) (s : State), lpLoc (4 * port) = 31 → portLoc port = 31 → portFitted s port = true → (linkOf s (4 * port)).st = .locking → 
    exec (.storageLinkLock port true) s = .next (linkEvent 0x0287 (4 * port) .locking (setLink (4 * port) .up s)))

/-- Each of the optics events completes: under its condition exec answers its own effect. (R65, R66, R67) -/
def Obligations.OpticsEventsComplete : Prop :=
  (∀ (engine : Nat) (rds : List OptRead) (s : State), s.id.optics = true → dieUsable s (engine / 5) = true → 
    exec (.optReadingUpdate engine rds) s = .next (forEach ((rds.take 24).zipIdx) (fun e => onNet fun n => { n with opt := mput n.opt (128 * (engine / 5) + 24 * (engine % 5) + e.2) e.1 }) s)) ∧
  (∀ (port : Nat) (rds : List OptRead) (x : Inspect) (s : State), (s.net.inspects.find? fun x => x.phase == 0 && x.todo.contains port) = some x → tkRunning s x.ticket = true → 
    exec (.inspectConnectorDone port rds) s = .next (inspectStep x port (gradePort s port rds) s)) ∧
  (∀ (x : Inspect) (s : State), (s.net.inspects.find? fun x => x.phase == 1) = some x → 
    exec (.cleanDurationEnd) s = .next (onInspect x.ticket (fun y => { y with phase := 2 }) (onNet (fun n => { n with cleanReq := false }) s))) ∧
  (∀ (x : Inspect) (d : Nat) (u : State) (s : State), (s.net.inspects.find? fun x => x.phase == 2) = some x → x.die = some d → u = forEach ((rowPorts d).filter (portIsolated s)) (fun p => setGrade p 0) s → ((rowPorts d).filter fun p => !portIsolated u p) ≠ [] → 
    exec (.cleanWaitEnd) s = .next (onInspect x.ticket (fun _ => { x with phase := 0, todo := (rowPorts d).filter fun p => !portIsolated u p }) u)) ∧
  (∀ (tk : Nat) (counts : List (Nat × Nat × Bool)) (x : LaneTest) (s : State), (s.net.tests.find? fun x => x.ticket == tk) = some x → runningTk s tk 0x0207 = true → 
    exec (.laneTestEnd tk counts) s = .next (ticketDone tk (ticketResult tk ((List.range x.count).flatMap fun i =>
        if x.loop = 0 || (counts.getD i (0, 0, false)).2.2 then
          leBytes 8 (sat 64 (counts.getD i (0, 0, false)).1) ++ leBytes 8 (sat 64 (counts.getD i (0, 0, false)).2.1)
        else leBytes 16 0) (testOff x s)))) ∧
  (∀ (bay : Nat) (b : List Byte) (s : State), keelOn s = true → bay < 3 * s.id.n → mhas s.net.rescans bay = false → (bayOf s bay).cstatus = 1 → 
    exec (.cartPoll bay (some b)) s = .next (onNet (fun n => { n with rescans := mput n.rescans bay 0 }) (bayChanged bay s))) ∧
  (∀ (bay : Nat) (raw : Option (List Byte)) (s : State), keelOn s = true → mfind s.net.rescans bay = some 0 → 
    exec (.cartRecordReadDone bay raw) s = .next (takeBay bay raw (onNet (fun n => { n with rescans := mdel n.rescans bay }) s)))

/-- Each of the storage-port events completes: under its condition exec answers its own effect. (R102, R103, R117) -/
def Obligations.StoragePortEventsComplete : Prop :=
  (∀ (port qp psn : Nat) (s : State), portLoc port = 31 → portFitted s port = true → (linkOf s (4 * port)).st = .up → ethCells s port + pktCells (.ackRoce qp psn) ≤ 2048 → 
    exec (.ethPacketRx port (.ackRoce qp psn)) s = .next (handleEth port (.ackRoce qp psn) (chargeEth port (pktCells (.ackRoce qp psn)) s))) ∧
  (∀ (qp : Nat) (x : QPair) (s : State), mfind s.net.qps qp = some x → x.unacked ≠ [] → x.retries < 7 → 
    exec (.roceAckTimeout qp) s = .next (goBackN qp (onQp qp (fun x => { x with retries := x.retries + 1 }) s))) ∧
  (∀ (qp : Nat) (x : QPair) (s : State), mfind s.net.qps qp = some x → x.unacked ≠ [] → 7 ≤ x.retries → 
    exec (.roceAckTimeout qp) s = .next (targetDown x.target s)) ∧
  (∀ (qp : Nat) (s : State), mhas s.net.qps qp = true → 
    exec (.roceRateRestore qp) s = .next (onQp qp (fun x => { x with ratePct := min 100 (x.ratePct + 5) }) s)) ∧
  (∀ (tgt : Nat) (s : State), mhas s.set.targets tgt = true → mget true s.snap.targetUp tgt = true → mget false s.snap.kaWait tgt = false → 
    exec (.nvmeKeepAlive tgt) s = .next (nvmeSend tgt 4 0 [] (onSnap (fun x => { x with kaWait := mput x.kaWait tgt true }) s))) ∧
  (∀ (tgt : Nat) (s : State), mhas s.set.targets tgt = true → mget true s.snap.targetUp tgt = false → 
    exec (.targetReconnect tgt true) s = .next (onSnap (fun x => { x with targetUp := mdel x.targetUp tgt }) (nvmeSend tgt 3 0 [] s))) ∧
  (∀ (lp : Nat) (g : GateList) (s : State), gatePendList s lp = some g → g.startFt ≤ ftNs s → g.ticket = none → g.entries ≠ [] → 
    exec (.gateTakeover lp) s = .next (record 0x0681 [(2, lp), (8, g.startFt), (4, gateCycle g.entries)]
      (onQos (fun x => { x with gateOp := mput x.gateOp lp g, gatePend := mdel x.gatePend lp }) s))) ∧
  (∀ (s : State), s.core.gateWait = true → running s = true → s.set.timeRoot = false → s.time.parent = none → 
    ∃ t, exec .gateFreeRunStart s = .next t ∧ t.core.gateWait = false ∧
      t.set.qos.gateOp = s.set.qos.gateOp.map fun e => (e.1, if e.2.ticket.isNone then { e.2 with startFt := ftNs s } else e.2))

/-- Each of the group, collective and updraft events completes: under its condition exec answers its own effect. (R219, R229, R247) -/
def Obligations.GroupEventsComplete : Prop :=
  (∀ (die : Nat) (e : QEnt) (l : List QEnt) (s : State), consQ s (64 * die + 2) = e :: l → e.frame.typ = 6 → xKind e.frame ≠ 2 → 
    exec (.contribRx die false) s = .next (takeContrib e (onCons (64 * die + 2) (fun _ => l) s))) ∧
  (∀ (die : Nat) (e : QEnt) (l : List QEnt) (s : State), consQ s (64 * die + 2) = e :: l → e.frame.typ = 7 → resultTooEarly s e.frame = false → 
    exec (.resultRx die false) s = .next (takeResult e (onCons (64 * die + 2) (fun _ => l) s))) ∧
  (∀ (die : Nat) (e : QEnt) (l : List QEnt) (s : State), consQ s (64 * die + 2) = e :: l → isNote 0 e.frame = true → 
    exec (.fallbackNoticeRx die false) s = .next (withNote noteFallback e (onCons (64 * die + 2) (fun _ => l) s))) ∧
  (∀ (die : Nat) (e : QEnt) (l : List QEnt) (s : State), consQ s (64 * die + 2) = e :: l → isNote 1 e.frame = true → 
    exec (.recomputeNoticeRx die false) s = .next (withNote noteRecompute e (onCons (64 * die + 2) (fun _ => l) s))) ∧
  (∀ (die : Nat) (e : QEnt) (l : List QEnt) (s : State), consQ s (64 * die + 2) = e :: l → isNote 2 e.frame = true → 
    exec (.treeDoneRx die false) s = .next (withNote noteTreeDone e (onCons (64 * die + 2) (fun _ => l) s))) ∧
  (∀ (s : State), 
    exec (.claimRetry) s = .next (forEach (claimOrder s) (fun e => tryClaim e.1 e.2.1 e.2.2) s)) ∧
  (∀ (g n k : Nat) (s : State), (chunkOf s g n k).basket.isSome = true → basketSpent s g n k = true → copiesOut s g n k = false → 
    exec (.basketRelease g n k) s = .next (nextClaimOf g n (dropBasket g n k s))) ∧
  (∀ (g n k : Nat) (q : Sequence) (s : State), seqOf s g n = some q → q.dstate = 1 → q.op ≠ 6 → schedGroup s g = false → (chunkIn q k).basket = none → (chunkIn q k).waitSince.isSome = true → 
    exec (.fallbackTimeout g n k) s = .next (startFallback g n k s)) ∧
  (∀ (g n : Nat) (q : Sequence) (s : State), seqOf s g n = some q → q.dstate = 1 → q.flags.testBit 1 = false → s.sys.keelLost = false → 
    exec (.groupWatchdog g n) s = .next (record 0x07C1 [(2, g), (4, n), (2, (missingOf (gcfg s g) q).1.length + popcount (missingOf (gcfg s g) q).2)]
      (onSeq g n (fun x => { x with flags := x.flags ||| 2 }) s))) ∧
  (∀ (g : Nat) (s : State), groupSt s g = 3 → groupIdle s g = true → disableTicket s g = none → 
    exec (.groupDisableDone g) s = .next (onGroup g (fun x => { x with st := 1 }) s)) ∧
  (∀ (die : Nat) (e : QEnt) (l : List QEnt) (s : State), consQ s (64 * die + 3) = e :: l → updHeld s die (xGroup e.frame) = false → xKind e.frame = 0 → 
    exec (.updraftMemberRx die false false) s = .next (updGate e takeMember (onCons (64 * die + 3) (fun _ => l) s))) ∧
  (∀ (die : Nat) (e : QEnt) (l : List QEnt) (s : State), consQ s (64 * die + 3) = e :: l → updHeld s die (xGroup e.frame) = false → (xKind e.frame = 1 ∨ xKind e.frame = 2) → 
    exec (.sweepRx die false false) s = .next (updGate e (fun e s => if xKind e.frame = 1 then takeSweep e s else takeFinal e s) (onCons (64 * die + 3) (fun _ => l) s))) ∧
  (∀ (die : Nat) (e : QEnt) (l : List QEnt) (s : State), consQ s (64 * die + 3) = e :: l → updHeld s die (xGroup e.frame) = false → isUpdNote 0 e.frame = true → 
    exec (.updraftDoneNoticeRx die false) s = .next (updGate e takeDone (onCons (64 * die + 3) (fun _ => l) s))) ∧
  (∀ (die : Nat) (e : QEnt) (l : List QEnt) (s : State), consQ s (64 * die + 3) = e :: l → updHeld s die (xGroup e.frame) = false → isUpdNote 1 e.frame = true → 
    exec (.refillRx die false) s = .next (updGate e takeRefill (onCons (64 * die + 3) (fun _ => l) s))) ∧
  (∀ (die : Nat) (e : QEnt) (l : List QEnt) (s : State), consQ s (64 * die + 3) = e :: l → updHeld s die (xGroup e.frame) = false → xKind e.frame = 3 → 2 ≤ xNote e.frame → 
    exec (.interruptedNoticeRx die false) s = .next (updGate e takeInterrupted (onCons (64 * die + 3) (fun _ => l) s))) ∧
  (∀ (die : Nat) (x : Nat × Nat × Frame) (s : State), s.tile.resend.find? (fun x => x.1 == die) = some x → ((List.range 4).find? fun dr => ((updCfg s (xGroup x.2.2)).nbrs.getD dr (0, 0)).1 >>> 8 == x.2.2.dest >>> 8) = none → 
    exec (.updraftResend die) s = .next (sendC1 x.2.2 (onTile (fun y => { y with resend := y.resend.erase x }) s)))

/-- Each of the window, fence and CXL.mem accesses completes: under its condition exec answers its own effect. (R286, R291, R295, R298) -/
def Obligations.MemoryAccessesComplete : Prop :=
  (∀ (die key : Nat) (e : QEnt) (l : List QEnt) (s : State), consQ s (64 * die + key) = e :: l → key < 64 → key ≠ 3 → key ≠ 4 → mustWait s die e = false → tileAsleep s e.frame = false → e.frame.typ = 1 → isFence e.frame = false → 
    exec (.windowRead die key false false) s = .next (perform die false false e (onCons (64 * die + key) (fun _ => l) s))) ∧
  (∀ (die key : Nat) (e : QEnt) (l : List QEnt) (s : State), consQ s (64 * die + key) = e :: l → key < 64 → key ≠ 3 → key ≠ 4 → mustWait s die e = false → tileAsleep s e.frame = false → e.frame.typ = 2 → 
    exec (.windowWrite die key false false) s = .next (perform die false false e (onCons (64 * die + key) (fun _ => l) s))) ∧
  (∀ (die : Nat) (e : QEnt) (l : List QEnt) (s : State), consQ s (64 * die) = e :: l → mustWait s die e = false → tileAsleep s e.frame = false → isFence e.frame = true → 
    exec (.fence die false) s = .next (perform die false false e (onCons (64 * die) (fun _ => l) s))) ∧
  (∀ (die src dest cls : Nat) (s : State), 
    exec (.streamMarkExpire die src dest cls) s = .next (onMem (fun m => { m with marks := m.marks.filter fun k => !(lpDie k.lanePort == die && (match k.stream with | some x => x == (src, dest, cls) | none => k.since + cycMs 1 ≤ s.mono)) }) s)) ∧
  (∀ (addr len tag a fil : Nat) (s : State), cxlMemUp s = true → running s = true → s.sys.keelLost = false → decodeHost s addr = some (a, fil) → hostVerdict s a len fil false = 1 → (!marked (wakeStack a s) a && hbmBad (wakeStack a s) a len) = false → 
    exec (.cxlMemRead addr len tag false) s = .next (emit (.hostData tag (hbmRead (wakeStack a s) a len)) (wakeStack a s))) ∧
  (∀ (addr tag a fil : Nat) (bytes : List Byte) (s : State), cxlMemUp s = true → running s = true → s.sys.keelLost = false → decodeHost s addr = some (a, fil) → hostVerdict s a bytes.length fil true = 1 → (!marked (wakeStack a s) a && mergesBad (wakeStack a s) a bytes.length) = false → 
    exec (.cxlMemWrite addr bytes tag false) s = .next (emit (.hostData tag []) (hbmWrite a bytes (sideWritten a (wakeStack a s)))))

/-- Each of the fabric-time events completes: under its condition exec answers its own effect. (R311, R312, R313, R314) -/
def Obligations.TimeEventsComplete : Prop :=
  (∀ (lp : Nat) (s : State), timeParentOn s lp = true → 
    exec (.syncDue lp) s = .next (sendTime lp 0 s.time.xseq (ftTs s) 0 0 (onTime (fun t => { t with xseq := (t.xseq + 1) % 65536 }) s))) ∧
  (∀ (lp xseq ts steps : Nat) (s : State), linkUp s lp = true → isScaleOut (lpLoc lp) = true → (chooseParent (onTime (fun t => { t with farSteps := mput t.farSteps lp (min 31 steps) }) s)).time.parent = some lp → 
    exec (.syncRx lp xseq ts steps) s = .next (sendTime lp 1 xseq (ftTs (chooseParent (onTime (fun t => { t with farSteps := mput t.farSteps lp (min 31 steps) }) s))) 0 0
      (onTime (fun t => { t with exch := some (xseq, ts, ftTs (chooseParent (onTime (fun t => { t with farSteps := mput t.farSteps lp (min 31 steps) }) s)), ftTs (chooseParent (onTime (fun t => { t with farSteps := mput t.farSteps lp (min 31 steps) }) s))) })
        (chooseParent (onTime (fun t => { t with farSteps := mput t.farSteps lp (min 31 steps) }) s))))) ∧
  (∀ (lp xseq ts : Nat) (s : State), timeParentOn s lp = true → 
    exec (.delayReqRx lp xseq ts) s = .next (sendTime lp 2 xseq (ftTs s) 0 0 s)) ∧
  (∀ (lp xseq ts t1 t2 t3 : Nat) (s : State), s.time.exch = some (xseq, t1, t2, t3) → s.time.parent = some lp → 
    exec (.delayRespRx lp xseq ts) s = .next (judgeOffset (cycUs s.set.syncUs) ((tsDiff t2 t1 - tsDiff ts t3) / 2)
      (onTime (fun t => { t with theta := (tsDiff t2 t1 - tsDiff ts t3) / 2, delta := (tsDiff t2 t1 + tsDiff ts t3) / 2, exch := none }) s))) ∧
  (∀ (lp tag count : Nat) (s : State), timeParentOn s lp = true → isScaleOut (lpLoc lp) = true → armedSum (onSched (fun x => { x with armed := (tag, lp, count) :: x.armed.filter fun e => (e.1 == tag && e.2.1 != lp) || (((armedTags s).filter (· != tag)).take 15).contains e.1 }) s) tag ≠ armedSum s tag → 
    exec (.armedRx lp tag count) s = .next (tellArmed tag (onSched (fun x => { x with armed := (tag, lp, count) :: x.armed.filter fun e => (e.1 == tag && e.2.1 != lp) || (((armedTags s).filter (· != tag)).take 15).contains e.1 }) s))) ∧
  (∀ (lp tag time : Nat) (s : State), linkUp s lp = true → s.sched.fwdLaunch.contains tag = true → schedEnabled s = true → s.sched.st = .armed → schedTag s = tag → hdrModules (enabledImg s) ≠ 0 → ftTs s < time → 
    exec (.launchRx lp tag time) s = .next (onSched (fun x => { x with launchAt := some time }) s)) ∧
  (∀ (lp tag cause : Nat) (s : State), linkUp s lp = true → haltable (forwardHalt tag cause (some lp) s) = true → schedTag (forwardHalt tag cause (some lp) s) = tag → 
    exec (.haltRx lp tag cause) s = .next (haltImage 5 (forwardHalt tag cause (some lp) s))) ∧
  (∀ (s : State), s.time.st = .aligned → s.set.timeRoot = false → 
    exec (.exchangeMissing) s = .next (timeTo .holdover s)) ∧
  (∀ (s : State), s.time.st = .holdover → 
    exec (.holdoverTimeout) s = .next (haltImage 3 (timeTo (if s.time.parent.isSome then .acquiring else .freeRun) s))) ∧
  (∀ (s : State), keelOn s = true → s.set.timeRoot = true → s.set.timePps = true → 
    exec (.syncPpsEdge) s = .next (removeOffset (cycS 1) (ppsError s) (onTime (fun t => { t with theta := ppsError s }) (onTime (fun t => { t with ppsFt := ftNs s }) s))))

/-- Each of the schedule events completes: under its condition exec answers its own effect. (R318, R319, R320, R321) -/
def Obligations.ScheduleEventsComplete : Prop :=
  (∀ (tk : Nat) (s : State), schedEnabled s = true → s.sched.st = .loaded → unitsUp s = true → s.sched.ticket = some tk → hdrModules (enabledImg s) = 0 → 
    exec (.schedArmed) s = .next (ticketDone tk (setBallast s.sched.floorW (onSched (fun x => { x with st := .armed }) s)))) ∧
  (∀ (s : State), schedEnabled s = true → s.sched.st = .armed → (launchTime s).any (fun t => t ≤ ftTs s) = true → 
    exec (.schedLaunchTime) s = .next (record 0x09C2 [(1, s.sched.slot.getD 0), (8, (launchTime s).getD 0 / 65536), (8, rdLe s.sched.ident 0 8)]
      (onSched (fun x => { x with st := .running, iter := 1, next := 0, launchFt := ftNs s, periodAt := s.mono, declared := 0, launchAt := none }) s))) ∧
  (∀ (n : Nat) (e : SEntry) (s : State), schedEnabled s = true → s.sched.st = .running → s.sched.next = n → (enabledEntries s)[n]? = some e → e.kind = 1 → (openWin 1 (eb e 95 93) (eb e 92 90) (eb e 89 89) (eb e 88 73) s).sched.st = .running → 
    exec (.schedSparEntry n) s = .next (onSched (fun x => { x with next := n + 1 }) (openWin 1 (eb e 95 93) (eb e 92 90) (eb e 89 89) (eb e 88 73) s))) ∧
  (∀ (n : Nat) (e : SEntry) (s : State), schedEnabled s = true → s.sched.st = .running → s.sched.next = n → (enabledEntries s)[n]? = some e → e.kind = 2 → (openWin 2 (eb e 95 86) (eb e 85 79) (eb e 78 78) (eb e 77 62) s).sched.st = .running → 
    exec (.schedEgressEntry n) s = .next (onSched (fun x => { x with next := n + 1 }) (openWin 2 (eb e 95 86) (eb e 85 79) (eb e 78 78) (eb e 77 62) s))) ∧
  (∀ (n : Nat) (e : SEntry) (s : State), schedEnabled s = true → s.sched.st = .running → s.sched.next = n → (enabledEntries s)[n]? = some e → e.kind = 3 → (schedClaim e s).sched.st = .running → 
    exec (.schedClaimEntry n) s = .next (onSched (fun x => { x with next := n + 1 }) (schedClaim e s))) ∧
  (∀ (n : Nat) (e : SEntry) (s : State), schedEnabled s = true → s.sched.st = .running → s.sched.next = n → (enabledEntries s)[n]? = some e → e.kind = 4 → (schedIssue n e s).sched.st = .running → 
    exec (.schedIssueEntry n) s = .next (onSched (fun x => { x with next := n + 1 }) (schedIssue n e s))) ∧
  (∀ (n : Nat) (e : SEntry) (s : State), schedEnabled s = true → s.sched.st = .running → s.sched.next = n → (enabledEntries s)[n]? = some e → e.kind = 5 → dueMet s (eb e 95 80) (iterSeq s (eb e 95 80)) (eb e 79 64) (eb e 63 40) = true → 
    exec (.schedDueEntry n) s = .next (onSched (fun x => { x with next := n + 1 }) s)) ∧
  (∀ (n : Nat) (e : SEntry) (s : State), schedEnabled s = true → s.sched.st = .running → s.sched.next = n → (enabledEntries s)[n]? = some e → e.kind = 6 → (openWin 6 (4 * eb e 95 93 + eb e 92 91) 0 0 (eb e 90 75) s).sched.st = .running → 
    exec (.schedRefreshEntry n) s = .next (onSched (fun x => { x with next := n + 1 }) (openWin 6 (4 * eb e 95 93 + eb e 92 91) 0 0 (eb e 90 75) s))) ∧
  (∀ (n : Nat) (e : SEntry) (s : State), schedEnabled s = true → s.sched.st = .running → s.sched.next = n → (enabledEntries s)[n]? = some e → e.kind = 7 → 
    exec (.schedPowerEntry n) s = .next (onSched (fun x => { x with next := n + 1 }) (setBallast (s.sched.floorW - eb e 95 80)
      (onSched (fun x => { x with declared := eb e 95 80 }) s)))) ∧
  (∀ (n : Nat) (e : SEntry) (s : State), schedEnabled s = true → s.sched.st = .running → s.sched.next = n → (enabledEntries s)[n]? = some e → e.kind = 8 → eb e 92 92 = 0 → (liftTile (32 * eb e 95 93 + eb e 91 87) s).sched.st = .running → 
    exec (.schedLiftEntry n) s = .next (onSched (fun x => { x with next := n + 1 }) (liftTile (32 * eb e 95 93 + eb e 91 87) s))) ∧
  (∀ (n : Nat) (e : SEntry) (s : State), schedEnabled s = true → s.sched.st = .running → s.sched.next = n → (enabledEntries s)[n]? = some e → e.kind = 9 → (schedGate e s).sched.st = .running → 
    exec (.schedGateEntry n) s = .next (onSched (fun x => { x with next := n + 1 }) (schedGate e s))) ∧
  (∀ (n : Nat) (e : SEntry) (s : State), schedEnabled s = true → s.sched.st = .running → s.sched.next = n → (enabledEntries s)[n]? = some e → e.kind = 10 → (openWin 10 (eb e 79 77) (eb e 95 80) 0 (eb e 76 61) s).sched.st = .running → 
    exec (.schedUpdEntry n) s = .next (onSched (fun x => { x with next := n + 1 }) (openWin 10 (eb e 79 77) (eb e 95 80) 0 (eb e 76 61) s))) ∧
  (∀ (n : Nat) (e : SEntry) (s : State), schedEnabled s = true → s.sched.st = .running → s.sched.next = n → (enabledEntries s)[n]? = some e → e.kind = 11 → 
    exec (.schedFlagEntry n) s = .next (onSched (fun x => { x with next := n + 1 }) s)) ∧
  (∀ (s : State), schedEnabled s = true → s.sched.st = .running → s.sched.next = hdrEntries (enabledImg s) → s.sched.stopAtEnd = false → (hdrIters (enabledImg s) = 0 ∨ s.sched.iter ≠ hdrIters (enabledImg s)) → 
    exec (.schedPeriodEnd) s = .next (onSched (fun x => { x with iter := x.iter + 1, next := 0, periodAt := x.periodAt + hdrPeriod (enabledImg s) }) s)) ∧
  (∀ (s : State), schedEnabled s = true → s.sched.st = .running → s.sched.next = hdrEntries (enabledImg s) → s.sched.stopAtEnd = true → 
    exec (.schedPeriodEnd) s = .next (record 0x09C4 [(8, s.sched.iter)] (setBallast s.sched.floorW (onSched (fun x => { x with st := .ended, windows := [], stopAtEnd := false }) s))))

/-- Each of the seal, drain, copy and restore events completes: under its condition exec answers its own effect. (R333, R340, R342, R343) -/
def Obligations.SnapshotEventsComplete : Prop :=
  (∀ (side k : Nat) (host auto : Bool) (s : State), (sideOf s side).pending = some (k, host, auto) → side < 2 → writesWait s side = false → sealDropped side k host s = false → 
    exec (.sealTakeEffect side) s = .next (takeSeal side k host auto s)) ∧
  (∀ (tier die : Nat) (bad : Bool) (d : Drain) (s : State), s.sys.keelLost = false → (s.snap.drains.find? fun d => d.tier == tier && !d.suspended && d.phase == 0 &&
      (4096 * d.cursors.getD die 0 < extentOf d.header die || dataMoved d)) = some d → 
    exec (.moverPiece tier die bad) s = .next (moverStep d die bad s)) ∧
  (∀ (die : Nat) (e : QEnt) (l : List QEnt) (a : Nat) (s : State), consQ s (64 * die + 4) = e :: l → xSkind e.frame = 0 → fromTwin (dropEnt e (onCons (64 * die + 4) (fun _ => l) s)) e = true → (dropEnt e (onCons (64 * die + 4) (fun _ => l) s)).gemel.holdsRole = false → twinAddr (dropEnt e (onCons (64 * die + 4) (fun _ => l) s)) (xSlot e.frame) (xAddr e.frame) = some a → twinAddr (dropEnt e (onCons (64 * die + 4) (fun _ => l) s)) (xSlot e.frame) (xAddr e.frame + e.frame.payload.length - 1) = some (a + e.frame.payload.length - 1) → 0 < e.frame.payload.length → 
    exec (.snapDataRx die false) s = .next (hbmWrite a e.frame.payload (slotWritten (xSlot e.frame) (xSnapId e.frame) (dropEnt e (onCons (64 * die + 4) (fun _ => l) s))))) ∧
  (∀ (die : Nat) (e : QEnt) (l : List QEnt) (s : State), consQ s (64 * die + 4) = e :: l → xSkind e.frame = 1 → fromTwin (dropEnt e (onCons (64 * die + 4) (fun _ => l) s)) e = true → (dropEnt e (onCons (64 * die + 4) (fun _ => l) s)).set.plan.twin = 1 → (dropEnt e (onCons (64 * die + 4) (fun _ => l) s)).gemel.holdsRole = false → (mget [] (slotWritten (xSlot e.frame) (xSnapId e.frame) (dropEnt e (onCons (64 * die + 4) (fun _ => l) s))).snap.hdrRx (xSlot e.frame) ++ e.frame.payload).length <
      headerLen (mget [] (slotWritten (xSlot e.frame) (xSnapId e.frame) (dropEnt e (onCons (64 * die + 4) (fun _ => l) s))).snap.hdrRx (xSlot e.frame) ++ e.frame.payload) → 
    exec (.snapHeaderRx die false) s = .next (onSnap (fun x => { x with hdrRx := mput x.hdrRx (xSlot e.frame) (mget [] (slotWritten (xSlot e.frame) (xSnapId e.frame) (dropEnt e (onCons (64 * die + 4) (fun _ => l) s))).snap.hdrRx (xSlot e.frame) ++ e.frame.payload) })
      (slotWritten (xSlot e.frame) (xSnapId e.frame) (dropEnt e (onCons (64 * die + 4) (fun _ => l) s))))) ∧
  (∀ (die : Nat) (e : QEnt) (l : List QEnt) (d : Drain) (s : State), consQ s (64 * die + 4) = e :: l → xSkind e.frame = 2 → fromTwin (dropEnt e (onCons (64 * die + 4) (fun _ => l) s)) e = true → ((dropEnt e (onCons (64 * die + 4) (fun _ => l) s)).snap.drains.find? fun d => d.tier == 1 && d.snapId == xSnapId e.frame && d.phase == 3) = some d → 
    exec (.snapAckRx die false) s = .next (ackCopy d (dropEnt e (onCons (64 * die + 4) (fun _ => l) s)))) ∧
  (∀ (die : Nat) (e : QEnt) (l : List QEnt) (a : Nat) (s : State), consQ s (64 * die + 4) = e :: l → xSkind e.frame = 3 → fromTwin (dropEnt e (onCons (64 * die + 4) (fun _ => l) s)) e = true → twinAddr (dropEnt e (onCons (64 * die + 4) (fun _ => l) s)) (xSlot e.frame) (xAddr e.frame) = some a → ((mfind (dropEnt e (onCons (64 * die + 4) (fun _ => l) s)).snap.twinSlots (xSlot e.frame)).any fun c => c.snapId == xSnapId e.frame && c.st == 0) = true → hbmBad (dropEnt e (onCons (64 * die + 4) (fun _ => l) s)) a 4096 = false → 
    exec (.pageReqRx die false false) s = .next (sendSnap die (snapFrame (dropEnt e (onCons (64 * die + 4) (fun _ => l) s)) (xSnapId e.frame) 4 (xSlot e.frame) (xAddr e.frame)
      (hbmRead (dropEnt e (onCons (64 * die + 4) (fun _ => l) s)) a 4096)) (dropEnt e (onCons (64 * die + 4) (fun _ => l) s)))) ∧
  (∀ (die : Nat) (e : QEnt) (l : List QEnt) (p : PageRestore) (s : State), consQ s (64 * die + 4) = e :: l → xSkind e.frame = 4 → fromTwin (dropEnt e (onCons (64 * die + 4) (fun _ => l) s)) e = true → pageAsked (dropEnt e (onCons (64 * die + 4) (fun _ => l) s)) 1 (xAddr e.frame) = some p → (sideOf (dropEnt e (onCons (64 * die + 4) (fun _ => l) s)) p.side).snapId = xSnapId e.frame → 
    exec (.pageDataRx die false) s = .next (pageBack p e.frame.payload (dropEnt e (onCons (64 * die + 4) (fun _ => l) s)))) ∧
  (∀ (die : Nat) (e : QEnt) (l : List QEnt) (p : PageRestore) (s : State), consQ s (64 * die + 4) = e :: l → xSkind e.frame = 5 → fromTwin (dropEnt e (onCons (64 * die + 4) (fun _ => l) s)) e = true → pageAsked (dropEnt e (onCons (64 * die + 4) (fun _ => l) s)) 1 (xAddr e.frame) = some p → 
    exec (.noCopyRx die false) s = .next (nextPage p (dropEnt e (onCons (64 * die + 4) (fun _ => l) s)))) ∧
  (∀ (tgt : Nat) (d : Drain) (s : State), (s.snap.drains.find? fun d => d.tier == 3 && d.target == tgt && (d.phase == 1 || d.phase == 3)) = some d → d.phase = 3 → 
    exec (.targetFlushDone tgt true) s = .next (ackCopy d s)) ∧
  (∀ (addr : Nat) (p : PageRestore) (bs : List Byte) (s : State), pageAsked s 3 addr = some p → 
    exec (.flashReadDone addr 3 (some bs)) s = .next (pageBack p bs s)) ∧
  (∀ (side : Nat) (r : Restore) (s : State), (s.snap.restores.find? fun r => r.side == side && runningTk s r.ticket 0x0A08) = some r → 
    exec (.restoreComplete side) s = .next (endRestore r s))

/-- Each of the flash events completes: under its condition exec answers its own effect. (R347, R351, R353) -/
def Obligations.FlashEventsComplete : Prop :=
  (∀ (sb page : Nat) (p : PageProg) (s : State), (s.flash.progs.find? fun p => p.sb == sb && p.page == page && pageWhole s p) = some p → s.sys.keelLost = false → p.hdr = false → 
    exec (.pageProgramDone sb page true) s = .next (afterPage p.object (pageStored p s))) ∧
  (∀ (sb fdie : Nat) (s : State), s.sys.keelLost = false → sb < superCount → (superOf s sb).st = 2 → 
    exec (.eraseComplete sb true fdie) s = .next (formatEnd (sayLife (onFlash (fun x => { x with supers := mput x.supers sb ⟨0, 0, (superOf s sb).erases + 1, 0⟩, data := memZero x.data (sb <<< 33) (1 <<< 33), eraseLog := x.eraseLog ++ [(s.mono, superBytes s)] }) s)))) ∧
  (∀ (obj : Nat) (o : FlashObj) (s : State), mfind s.flash.objs obj = some o → o.releaseDue = true → objRead s obj = false → s.sys.keelLost = false → 
    exec (.releaseAfterRead obj) s = .next (freeObj obj s)) ∧
  (∀ (s : State), s.id.flash = true → running s = true → s.sys.keelLost = false → s.flash.scanOn = false → 
    exec (.scanDue) s = .next (onFlash (fun x => { x with scanOn := true, scanTicket := none }) s)) ∧
  (∀ (fdie blk page errs : Nat) (s : State), s.flash.scanOn = true → s.snap.emergency = false → s.sys.keelLost = false → s.flash.scanTicket = none → scanned s fdie blk page = none → 
    exec (.scanBlockRead fdie blk page errs true) s = .next (onFlash (fun x => { x with scanOn := false, scanTicket := none, scanFt := ftNs s }) s)) ∧
  (∀ (fdie blk page errs id : Nat) (s : State), s.flash.scanOn = true → s.snap.emergency = false → s.sys.keelLost = false → s.flash.scanTicket = none → scanned s fdie blk page = some id → 100 < errs → 
    exec (.scanBlockRead fdie blk page errs false) s = .next (flashUncorr fdie blk page id s)) ∧
  (∀ (fdie : Nat) (s : State), flashDieOk s fdie = true → s.sys.keelLost = false → 
    exec (.flashDieUnresponsive fdie) s = .next (report (srcId 8 fdie) 8 (failFlashDie fdie s)))

/-- Each of the pair events completes: under its condition exec answers its own effect. (R361, R364, R366, R369) -/
def Obligations.TwinEventsComplete : Prop :=
  (∀ (s : State), s.set.pairIntent = true → running s = true → keelOn s = true → s.gemel.st ≠ .paired → moorUp s ≠ [] → 
    exec (.offerDue) s = .next (sendRec 3 s.cmd.jseq (offerBody s) s)) ∧
  (∀ (lp : Nat) (rec : List Byte) (s : State), keelOn s = true → lpLoc lp = 30 → linkUp s lp = true → recOk rec = true → recKind rec = 3 → 72 ≤ (recBody rec).length → (s.sys.st == .keelUp && s.sys.hold.testBit 3) = false → 
    exec (.offerRx lp rec) s = .next (holdEnds (takeOffer (recBody rec) (onGemel (fun g => { g with lastRx := s.mono }) s)))) ∧
  (∀ (lp : Nat) (rec : List Byte) (s : State), keelOn s = true → lpLoc lp = 30 → linkUp s lp = true → recOk rec = true → recKind rec = 0 → s.gemel.st = .paired → s.gemel.frozen = false → 
    exec (.mirrorEntryRx lp rec) s = .next (sendRec 1 (onGemel (storeMirror (recSeq rec) (recBody rec)) (onGemel (fun g => { g with lastRx := s.mono }) s)).gemel.mirSeq []
      (onGemel (storeMirror (recSeq rec) (recBody rec)) (onGemel (fun g => { g with lastRx := s.mono }) s)))) ∧
  (∀ (lp : Nat) (rec : List Byte) (s : State), keelOn s = true → lpLoc lp = 30 → linkUp s lp = true → recOk rec = true → recKind rec = 1 → s.gemel.st = .paired → 
    exec (.mirrorAckRx lp rec) s = .next (settleStoring (fun x => { x with acked := x.acked || x.jseq ≤ (ackRecords (recSeq rec) (onGemel (fun g => { g with lastRx := s.mono }) s)).gemel.acked })
      (ackRecords (recSeq rec) (onGemel (fun g => { g with lastRx := s.mono }) s)))) ∧
  (∀ (lp : Nat) (rec : List Byte) (s : State), keelOn s = true → lpLoc lp = 30 → linkUp s lp = true → recOk rec = true → recKind rec = 2 → 
    exec (.heartbeatRx lp rec) s = .next (onGemel (fun g => { g with lastRx := s.mono }) s)) ∧
  (∀ (lp : Nat) (rec : List Byte) (s : State), keelOn s = true → lpLoc lp = 30 → linkUp s lp = true → recOk rec = true → recKind rec = 4 → s.gemel.st ≠ .unpaired → s.gemel.role.contains (lpDie lp) = false → 
    ∃ t, exec (.keelLostRx lp rec) s = .next t ∧ t.gemel.frozen = true ∧ t.gemel.holdsRole = true ∧
      t.gemel.role = s.gemel.role ++ [lpDie lp] ∧ t.gemel.twinUsable = rdLe (recBody rec) 0 8) ∧
  (∀ (lp : Nat) (rec : List Byte) (s : State), keelOn s = true → lpLoc lp = 30 → linkUp s lp = true → recOk rec = true → recKind rec = 5 → s.gemel.st = .syncing → s.gemel.syncTx = true → 
    exec (.syncDoneRx lp rec) s = .next (pairUp (onGemel (fun g => { g with syncRx := true }) (onGemel (fun g => { g with lastRx := s.mono }) s)))) ∧
  (∀ (s : State), keelOn s = true → s.gemel.st = .paired → 
    exec (.heartbeatDue) s = .next (sendRec 2 s.cmd.jseq [] s)) ∧
  (∀ (s : State), keelOn s = true → mirroring s = true → (goSolo s).gemel.mramOk = true → 
    exec (.twinLost) s = .next (settleStoring (fun x => { x with acked := true }) (goSolo s))) ∧
  (∀ (lp : Nat) (s : State), keelOn s = true → mirroring s = true → s.gemel.acked < s.cmd.jseq → mirrorLp s = some lp → 
    exec (.mirrorResendTimeout) s = .next (emit (.journal lp (s.gemel.acked + 1) s.cmd.jseq) s)) ∧
  (∀ (n : Nat) (s : State), keelOn s = true → s.gemel.mramOk = true → 
    exec (.mramWriteDone n) s = .next (settleStoring (fun x => { x with mram := x.mram || x.jseq == n }) s)) ∧
  (∀ (s : State), keelOn s = true → s.gemel.mramOk = true → s.gemel.st = .paired → 
    exec (.mramFail) s = .next (settleStoring (fun x => { x with mram := true })
      (record 0x0CC5 [(1, pairCode .paired)] (onGemel (fun g => { g with mramOk := false, remote := true }) s)))) ∧
  (∀ (k : Ticket) (s : State), runningOp s 0x0C01 = some k → moorUp s = [] → 
    exec (.pairTimeout) s = .next (ticketFail k.ticket 0x0C02 s)) ∧
  (∀ (s : State), running s = true → s.gemel.st = .solo → 
    exec (.soloRoleRestore) s = .next (onGemel (fun g => { g with roleReturned := true }) s)) ∧
  (∀ (die src kind ft : Nat) (s : State), keelOn s = true → s.gemel.holdsRole = true → s.gemel.role.contains die = true → 
    exec (.headlessFaultReportRx die src kind ft) s = .next (record 0x0CC7 [(1, die), (2, src), (1, kind), (8, ft)] s))

/-- Each of the ring, capsule and session events completes: under its condition exec answers its own effect. (R380, R381, R385, R387) -/
def Obligations.RingAndSessionEventsComplete : Prop :=
  (∀ (ring : Nat) (x : Entry × List Byte) (s : State), ring < 64 → asleep s = false → (ringOf s ring).rstate = .enabled → ((ringOf s ring).sqTail + 1) % ringEntries (ringOf s ring) < ringEntries (ringOf s ring) → ((((ringOf s ring).sqTail + 1) % ringEntries (ringOf s ring)) + ringEntries (ringOf s ring) - (ringOf s ring).sqTail) % ringEntries (ringOf s ring) = 1 → ((ringOf s ring).sqTail + ringEntries (ringOf s ring) - (ringOf s ring).sqHead) % ringEntries (ringOf s ring) + 1 ≤ ringEntries (ringOf s ring) - 1 → 
    exec (.sqDoorbell ring (((ringOf s ring).sqTail + 1) % ringEntries (ringOf s ring)) [x]) s = .next (onRing ring (fun g => { g with sqTail := ((ringOf s ring).sqTail + 1) % ringEntries (ringOf s ring), waiting := g.waiting ++ [⟨⟨.host, ring⟩, x.1, x.2⟩] }) s)) ∧
  (∀ (ring head : Nat) (s : State), ring < 64 → asleep s = false → (ringOf s ring).rstate = .enabled → head < ringEntries (ringOf s ring) → (head + ringEntries (ringOf s ring) - (ringOf s ring).cqHead) % ringEntries (ringOf s ring) ≤ unfreed (ringOf s ring) → 
    exec (.cqDoorbell ring head) s = .next (onRing ring (fun g => { g with cqHead := head }) s)) ∧
  (∀ (ring : Nat) (s : State), ring < 64 → (ringOf s ring).enable = false → keelOn s = true → enableCause s (ringOf s ring) = 0 → 
    exec (.ringEnable ring) s = .next (postOwed ⟨.host, ring⟩ (onRing ring (fun g => { g with enable := true, rstate := .enabled, cause := 0, sqHead := 0, sqTail := 0, cqTail := 0, cqHead := 0, phase := true, waiting := [] }) s))) ∧
  (∀ (ring : Nat) (s : State), ring < 64 → keelOn s = true → 
    exec (.ringDisable ring) s = .next (onRing ring (fun g => { g with enable := false, rstate := .disabled, cause := 0, waiting := [] }) s)) ∧
  (∀ (k : Nat) (q : Req) (s : State), nextCmd s = some (k, q) → 
    exec (.commandTake true) s = .next (runReq q (onCmd (fun c => { c with rr := (k + 1) % 192 }) s))) ∧
  (∀ (h : Hello) (n mx : Nat) (leaf : Cert) (s : State), keelOn s = true → (h.xp = 1 ∨ (h.xp = 2 ∧ h.replyOff % 1024 = 0 ∧ h.replyOff ≤ 0xFC00)) → freeSess s h.xp = some n → chainPriv s h.chain = some mx → h.chain.head? = some leaf → ecdsaOk leaf.pub (helloBody h) h.sig = true → 
    ∃ t, exec (.helloRx h) s = .next t ∧ t.freeCtr = s.freeCtr + 2 ∧
      ∀ g x, ecMul 256 (ephKey (draw s).1) (some p256g) = some g → ecdhX (ephKey (draw s).1) h.pub = some x →
        t.cmd.sessions = mput s.cmd.sessions (sessKey h.xp n) (sessNew (peerId leaf)
          (min (min h.wantPriv mx) (if h.xp = 2 then min 2 s.sys.inUse.fabricPriv else 2))
          (hkdf32 x (h.nonce ++ beBytes 32 ((draw (draw s).2).1 % 2 ^ 256)) infoClient)
          (hkdf32 x (h.nonce ++ beBytes 32 ((draw (draw s).2).1 % 2 ^ 256)) infoModule) s.mono (helloTo h))) ∧
  (∀ (xp sess replyTo : Nat) (q : Session) (s : State), sessAt s xp sess = some q → q.openS = false → keelOn s = true → 
    exec (.finishRx xp sess 1 replyTo (hmac q.cliKey (capHead 2 sess 0 0 1 1))) s = .next (postOwed ⟨xpOf xp, sess⟩ (record 0x10C1 [(1, xp), (1, sess), (8, q.peer), (1, q.priv)]
      (onSess xp sess (fun y => { y with openS := true, rxMax := 1, rxSeen := [1], lastAt := s.mono, replyTo := if xp = 1 then replyTo else y.replyTo }) s)))) ∧
  (∀ (xp : Nat) (cap : Capsule) (q : Session) (s : State), sessAt s xp cap.sess = some q → q.openS = true → keelOn s = true → capMac q cap = cap.mac → (q.replies.find? fun r => r.1.contains cap.cseq) = none → capWindow q cap.cseq = true → cap.kind = 3 → cap.body.length = cap.bodyLen → 64 ≤ cap.bodyLen → cap.bodyLen ≤ 976 → cap.nseg = 1 → cap.seg = 0 → 
    exec (.commandCapsuleRx xp cap) s = .next (sessMessage xp cap.sess [cap.cseq] cap.body (onSess xp cap.sess (acceptCap cap.cseq s.mono) s))) ∧
  (∀ (xp : Nat) (cap : Capsule) (q : Session) (s : State), sessAt s xp cap.sess = some q → q.openS = true → keelOn s = true → capMac q cap = cap.mac → (q.replies.find? fun r => r.1.contains cap.cseq) = none → capWindow q cap.cseq = true → cap.kind = 5 → 
    exec (.closeRx xp cap) s = .next (closeSess xp cap.sess 0 (onSess xp cap.sess (acceptCap cap.cseq s.mono) s))) ∧
  (∀ (xp sess : Nat) (s : State), 
    exec (.sessionIdle xp sess) s = .next (closeSess xp sess 1 s)) ∧
  (∀ (xp sess msg : Nat) (e : Nat × Asm) (s : State), ((sessAt s xp sess).bind fun q => q.asm.find? fun e => e.1 == msg) = some e → 
    exec (.segmentTimeout xp sess msg) s = .next (refuseMessage xp sess 0x0002 e.2.cseqs (mget [] e.2.segs 0)
      (onSess xp sess (fun y => { y with asm := y.asm.filter fun x => x.1 != msg }) s)))

/-- Each of the ticket events completes: under its condition exec answers its own effect. (R400, R401) -/
def Obligations.TicketEventsComplete : Prop :=
  (∀ (tk : Nat) (k : Ticket) (s : State), ticketOf s tk = some k → keelOn s = true → k.ost = .queued → k.before = false → oldestQueued s k = true → workFree s k = true → 
    exec (.ticketStart tk) s = .next (holdEnds (runWork k s))) ∧
  (∀ (tk : Nat) (k : Ticket) (s : State), ticketOf s tk = some k → keelOn s = true → k.ost = .running → k.suspReq = true → 
    exec (.suspendPointReached tk) s = .next (holdDrain tk true (setOst tk .suspended (onTicket tk (fun t => { t with suspReq := false }) s)))) ∧
  (∀ (tk : Nat) (k : Ticket) (s : State), ticketOf s tk = some k → keelOn s = true → k.ost = .cancelling → 
    exec (.cancelUndoDone tk) s = .next (endTicket tk .cancelled .cancelled 0 s)) ∧
  (∀ (tk : Nat) (k : Ticket) (s : State), ticketOf s tk = some k → keelOn s = true → k.ost = .running → k.suspReq = false → 
    exec (.operationFinish tk 0) s = .next (finishWork k s)) ∧
  (∀ (tk reason : Nat) (k : Ticket) (s : State), ticketOf s tk = some k → keelOn s = true → k.ost = .running → k.suspReq = false → reason ≠ 0 → ownerFails k.opcode reason = true → k.opcode ≠ 0x0402 → 
    exec (.operationFinish tk reason) s = .next (ticketFail tk reason s))

/-- Each of the host link, register, mailbox, DOE and management events completes: under its condition exec answers its own effect. (R415, R420, R423, R425) -/
def Obligations.HostInterfaceEventsComplete : Prop :=
  (∀ (doe : Bool) (s : State), spdmUp doe s = true → 
    exec (.spdmGetVersion doe 0x10) s = .next (spdmAnswer doe (spdmMsg 0x10 0x84 0 0 []) (spdmMsg 0x10 0x04 0 0 (leBytes 1 0 ++ leBytes 1 1 ++ leBytes 2 0x1200))
      (onSpdm doe (fun _ => ⟨true, false, false, []⟩) s))) ∧
  (∀ (doe : Bool) (s : State), spdmUp doe s = true → (spdmOf doe s).version = true → (spdmOf doe s).caps = false → 
    exec (.spdmGetCapabilities doe 0x12) s = .next (spdmAnswer doe (spdmMsg 0x12 0xE1 0 0 []) (spdmMsg 0x12 0x61 0 0 spdmCaps) (onSpdm doe (fun x => { x with caps := true }) s))) ∧
  (∀ (doe : Bool) (asym hash : Nat) (s : State), spdmUp doe s = true → (spdmOf doe s).caps = true → (spdmOf doe s).algs = false → asym.testBit 4 = true → hash.testBit 0 = true → 
    exec (.spdmNegotiateAlgorithms doe 0x12 asym hash) s = .next (spdmAnswer doe (spdmMsg 0x12 0xE3 0 0 (leBytes 4 asym ++ leBytes 4 hash)) (spdmMsg 0x12 0x63 0 0 spdmAlgs)
      (onSpdm doe (fun x => { x with algs := true }) s))) ∧
  (∀ (doe : Bool) (s : State), spdmUp doe s = true → (spdmOf doe s).algs = true → 
    exec (.spdmGetDigests doe 0x12) s = .next (spdmAnswer doe (spdmMsg 0x12 0x81 0 0 []) (spdmMsg 0x12 0x01 0 1 (sha256 spdmChain)) s)) ∧
  (∀ (doe : Bool) (off len : Nat) (s : State), spdmUp doe s = true → (spdmOf doe s).algs = true → off < spdmChain.length → 
    exec (.spdmGetCertificate doe 0x12 0 off len) s = .next (spdmAnswer doe (spdmMsg 0x12 0x82 0 0 (leBytes 2 off ++ leBytes 2 len))
      (spdmMsg 0x12 0x02 0 0 (leBytes 2 (chainPortion off len).length ++
        leBytes 2 (spdmChain.length - off - (chainPortion off len).length) ++ chainPortion off len)) s)) ∧
  (∀ (doe : Bool) (nonce : List Byte) (s : State), spdmUp doe s = true → (spdmOf doe s).algs = true → 
    ∃ t, exec (.spdmChallenge doe 0x12 0 nonce) s = .next t ∧ t.freeCtr = s.freeCtr + 1 ∧ (spdmOf doe t).transcript = []) ∧
  (∀ (doe : Bool) (idx : Nat) (nonce : List Byte) (s : State), spdmUp doe s = true → (spdmOf doe s).algs = true → idx ≤ 7 → 
    ∃ t, exec (.spdmGetMeasurements doe 0x12 idx nonce) s = .next t ∧ t.freeCtr = s.freeCtr + 1) ∧
  (∀ (s : State), 
    exec (.doeAbort) s = .next (s)) ∧
  (∀ (s : State), 
    exec (.identifyMemoryDevice) s = .next (mailboxRet 0 (freeBytes 203 16 ++ fields 0x33 [(0, 8, capacityUnits s), (8, 8, capacityUnits s)]) s)) ∧
  (∀ (s : State), 
    exec (.getSupportedLogs) s = .next (mailboxRet 0 (fields 8 [(0, 2, 1)] ++ beBytes 16 effectsUuid ++ leBytes 4 effectsLog.length) s)) ∧
  (∀ (off len : Nat) (s : State), off + len ≤ effectsLog.length → 
    exec (.getLog effectsUuid off len) s = .next (mailboxRet 0 ((effectsLog.drop off).take len) s)) ∧
  (∀ (s : State), 
    exec (.getHealthInfo) s = .next (mailboxRet 0 (freeBytes 204 18) s)) ∧
  (∀ (opc : Nat) (s : State), [0x0400, 0x0401, 0x4000, 0x4200].contains opc = false → 
    exec (.mailboxUnsupported opc) s = .next (mailboxRet 3 [] s)) ∧
  (∀ (dec base size skip ways : Nat) (s : State), keelOn s = true → s.host.l0 = true → dec < 2 → 
    exec (.hdmDecoderCommit dec base size skip ways) s = .next (onHost (fun h => { h with dec := mput h.dec dec ⟨base / hdmUnit * hdmUnit, size / hdmUnit * hdmUnit, skip / hdmUnit * hdmUnit, decDpa s dec (skip / hdmUnit * hdmUnit), decOk s dec (base / hdmUnit * hdmUnit) (size / hdmUnit * hdmUnit) (skip / hdmUnit * hdmUnit) ways, !decOk s dec (base / hdmUnit * hdmUnit) (size / hdmUnit * hdmUnit) (skip / hdmUnit * hdmUnit) ways⟩ }) s)) ∧
  (∀ (hot : Bool) (s : State), keelOn s = true → 
    exec (.perstAssert hot) s = .next (hostBlocks (linkDown (onHost (fun h => { h with perst := h.perst || !hot, training := hot && !h.perst }) s)))) ∧
  (∀ (s : State), 
    exec (.perstDeassert) s = .next (onHost (fun h => { h with perst := false, training := h.training || (h.perst && keelOn s) }) s)) ∧
  (∀ (mode width rate : Nat) (s : State), keelOn s = true → (mode = 1 ∨ mode = 2) → s.host.l0 = false → s.host.perst = false → 
    exec (.hostLinkChange mode width rate) s = .next (record 0x01C8 [(1, mode), (1, width), (1, rate)]
      (onHost (fun h => { h with l0 := true, mode := mode, width := width, rate := rate, training := false }) s))) ∧
  (∀ (up : Bool) (s : State), keelOn s = true → s.host.mgmtUp ≠ up → 
    exec (.mgmtLinkChange up) s = .next (record 0x01C9 [(1, if up then 1 else 0)] (onHost (fun h => { h with mgmtUp := up }) s))) ∧
  (∀ (vlan dst : Nat) (s : State), keelOn s = true → s.host.mgmtUp = true → mgmtMine s false vlan dst = true → 
    exec (.mgmtPacketRx (.arp vlan dst)) s = .next (emit (.mgmt dst 0 []) s)) ∧
  (∀ (s : State), keelOn s = true → 
    exec (.ftNowRead 0) s = .next (emit (.regRead 0x8000 (ftNs s)) (onHost (fun h => { h with ftFrac := ftTs s % 65536 }) s))) ∧
  (∀ (off : Nat) (s : State), keelOn s = true → off % 8 = 0 → off < 0x1000 → 
    exec (.lowHalfRead off) s = .next (emit (.regRead off (bar0Read s off % 2 ^ 32)) (onHost (fun h => { h with hi := mput h.hi off (bar0Read s off / 2 ^ 32) }) s))) ∧
  (∀ (off val : Nat) (s : State), keelOn s = true → off % 8 = 0 → 
    exec (.registerWrite off 8 val) s = .next (writeReg off (val % 2 ^ 64) s))

/-- Each of the fault and recorder events completes: under its condition exec answers its own effect. (R448, R452, R456) -/
def Obligations.FaultEventsComplete : Prop :=
  (∀ (s : State), keelOn s = true → 
    exec (.fltFirstClear) s = .next (clearLatchFirst s)) ∧
  (∀ (s : State), keelOn s = true → 
    exec (.evrRestartWrite) s = .next (evrRestart s)) ∧
  (∀ (reps : List (Nat × Nat × Nat)) (s : State), collecting s = true → 
    exec (.faultReportBatch reps) s = .next (forEach (sortBatch (s.flt.pend ++ reps.map fun r => (r.2.2, r.1, r.2.1))) takeReport (onFlt (fun x => { x with pend := [] }) s))) ∧
  (∀ (src : Nat) (s : State), collecting s = true → (srcOf s src).st = .counting → 
    exec (.faultWindowExpire src) s = .next (onSrc src (fun x => { x with st := .ok, times := [] }) s)) ∧
  (∀ (src : Nat) (s : State), collecting s = true → (classOf s (srcClass src)).quietS ≠ 0 → (srcOf s src).st = .severe → 
    exec (.faultQuietExpire src) s = .next (recovered src (onSrc src (fun x => countRecovery (clearSource x)) s))) ∧
  (∀ (src : Nat) (s : State), collecting s = true → (classOf s (srcClass src)).quietS ≠ 0 → (srcOf s src).st = .isolated → (srcOf s src).sticky = false → 
    exec (.faultQuietExpire src) s = .next (onSrc src (fun x => { x with st := .releasing }) s)) ∧
  (∀ (src : Nat) (s : State), collecting s = true → (srcOf s src).st = .releasing → 
    exec (.releaseTestDone src true) s = .next (releasePass src s)) ∧
  (∀ (src : Nat) (s : State), collecting s = true → (srcOf s src).st = .releasing → 
    exec (.releaseTestDone src false) s = .next (releaseFail src s))

/-- Each of the supply, start and stop events completes: under its condition exec answers its own effect. (R429, R431, R434) -/
def Obligations.StartAndStopEventsComplete : Prop :=
  (∀ (cv : Nat) (s : State), s.sys.st = .off → 1140 ≤ cv → cv ≤ 1400 → 
    exec (.vsb12Up cv) s = .next (tryStart (onSys (fun x => { x with st := .standby, nextCause := 0 }) (onEnv (fun e => { e with vsbOk := true, vsb := cv }) s)))) ∧
  (∀ (s : State), s.sys.st ≠ .off → 
    ∃ t, exec .vsb12Lost s = .next t ∧ t.sys.st = .off ∧ t.flt.sram = [] ∧ t.flt.valid = false ∧ t.env.vsb = 0) ∧
  (∀ (s : State), s.env.pins.pwrOk = false → s.sys.st = .standby → 
    exec (.pwrOkAssert) s = .next (tryStart (onSys (fun x => { x with nextCause := 0 }) (onEnv (fun e => { e with pins := { e.pins with pwrOk := true } }) s)))) ∧
  (∀ (plane tray k : Nat) (s : State), s.sys.st = .standby → s.sys.starting = true → bootable (chooseRecord s) = some k → 
    exec (.keelUpEntry plane tray true) s = .next (enterKeelUp plane tray k (chooseRecord s))) ∧
  (∀ (b : StartData) (s : State), startingUp s = true → startingUp (startUnits b s) = true → (startUnits b s).sys.hold = 0 → 
    exec (.startupDone b) s = .next (applyEntries (enterReady 6 (startUnits b s)))) ∧
  (∀ (b : StartData) (s : State), startingUp s = true → startingUp (startUnits b s) = true → (startUnits b s).sys.hold ≠ 0 → 
    exec (.startupDone b) s = .next (enterHold (startUnits b s))) ∧
  (∀ (s : State), 
    exec (.pwrOkDeassert) s = .next (onSys (fun x => { x with nextCause := 0 }) (powerDown 0 (onEnv (fun e => { e with pins := { e.pins with pwrOk := false } }) s)))) ∧
  (∀ (cv : Nat) (s : State), cv ≤ 6000 → (cv < 3400 ∨ 4600 < cv) → 
    exec (.vin40Fault cv) s = .next (powerDown 4 (onEnv (fun e => { e with vinBad := true, vin := cv }) s))) ∧
  (∀ (s : State), keelOn s = true → (loseKeel s).sys.trial ≠ some (loseKeel s).sys.booted → 
    exec (.keelWatchdogExpire) s = .next (loseKeel s)) ∧
  (∀ (s : State), s.sys.keelLost = true → s.sys.inUse.headlessS ≠ 0 → 
    exec (.headlessRestart) s = .next (tryStart (toStandby 3 s))) ∧
  (∀ (cause : Nat) (s : State), 
    exec (.stopConditionCleared cause) s = .next (tryStart (clearStop cause s)))

/-- Each of the measurement, drogue, cap, pump, sensor and PSU events completes: under its condition exec answers its own effect. (R465, R472, R473, R476) -/
def Obligations.PowerEventsComplete : Prop :=
  (∀ (vin iin : Nat) (s : State), vin ≤ 6000 → braking (onEnv (fun e => { e with vin := vin, iin := iin, pin := vin * iin / 1000, prevPin := some (vin * iin / 1000) }) s) = true → s.env.prevPin = none → 
    exec (.powerMeasurement vin iin) s = .next (holdCap (capReached (rampBallast (onEnv (fun e => { e with vin := vin, iin := iin, pin := vin * iin / 1000, prevPin := some (vin * iin / 1000) }) s))))) ∧
  (∀ (inst : Nat) (val : Int) (s : State), sensorFitted s inst = true → braking (coolTrip (onEnv (fun e => { e with sensors := mput e.sensors inst val, rise := mput e.rise inst (riseWith s inst val) }) s)) = false → 
    exec (.sensorReading inst val) s = .next (coolTrip (onEnv (fun e => { e with sensors := mput e.sensors inst val, rise := mput e.rise inst (riseWith s inst val) }) s))) ∧
  (∀ (s : State), braking s = true → 
    exec (.droguePresetUpdate) s = .next (forEach (dies s) (fun d s => onBrake d (fun b => { b with pDuty := modelDuty (drogueLevel s) s d, pPort := portFor (modelDuty (drogueLevel s) s d) }) s) s)) ∧
  (∀ (s : State), s.env.pins.ripcord = false → s.env.pins.leak = false → 
    exec (.drogueAssert) s = .next (startDrogue 0 (onEnv (fun e => { e with pins := { e.pins with drogue := true } }) s))) ∧
  (∀ (cv : Nat) (s : State), cv ≤ 6000 → cv < s.set.env.vinDrogue → 
    exec (.vinDrogueLow cv) s = .next (startDrogue 1 (onEnv (fun e => { e with vin := cv }) s))) ∧
  (∀ (cv : Nat) (s : State), 3700 ≤ cv → cv ≤ 6000 → 
    exec (.drogueEnd cv) s = .next (onEnv (fun e => { e with shelfDrogue := false }) (onEnv (fun e => { e with vin := cv, pins := { e.pins with drogue := false } }) s))) ∧
  (∀ (s : State), s.env.pins.ripcord = false → s.env.pins.leak = false → 
    exec (.pumpConditionStart) s = .next (startPump 0 0 (onEnv (fun e => { e with pins := { e.pins with flow := true } }) s))) ∧
  (∀ (s : State), 
    exec (.pumpConditionEnd) s = .next (onEnv (fun e => { e with pump := false, pins := { e.pins with flow := false } }) s)) ∧
  (∀ (s : State), 
    exec (.ripcordInput) s = .next (ripcord 0 0 (onEnv (fun e => { e with pins := { e.pins with ripcord := true } }) s))) ∧
  (∀ (sensor : Nat) (s : State), braking (onEnv (fun e => { e with pins := { e.pins with leak := true } }) s) = true → 
    exec (.leakInput sensor) s = .next (ripcord 1 sensor (record 0x0DCA [(1, sensor)] (onEnv (fun e => { e with pins := { e.pins with leak := true } }) s)))) ∧
  (∀ (sensor : Nat) (s : State), keelPowered s = true → 
    exec (.thermalTrip sensor) s = .next (onEnv (fun e => { e with stagesOpen := true, tripFlag := true, tripSensor := sensor, pins := { e.pins with thermtrip := true } }) (toStandby 4 (haltImage 7 s)))) ∧
  (∀ (s : State), braking s = true → s.env.capAt.isSome = true → capTarget s < s.env.pin → s.env.capDrogue = false → 
    ∃ t, exec .capDeadline s = .next t ∧ t.env.capDrogue = true ∧ t.env.drogues = sat 32 (s.env.drogues + 1) ∧
      t.env.events = s.env.events ||| 2 ||| 4) ∧
  (∀ (s : State), s.sys.st = .service → s.sys.keelLost = false → 
    exec (.heartbeatMissed) s = .next (startCap (record 0x0DC6
        [(2, orphanCapW (onEnv (fun e => { e with orphanCap := true, orphanAt := s.mono }) (moveTo .orphan 10 s))), (2, schedFloor (onEnv (fun e => { e with orphanCap := true, orphanAt := s.mono }) (moveTo .orphan 10 s)))]
        (envEvent 4 (onEnv (fun e => { e with orphanCap := true, orphanAt := s.mono }) (moveTo .orphan 10 s)))))) ∧
  (∀ (s : State), s.sys.keelLost = true → braking s = true → s.env.orphanCap = false → 
    exec (.keelLossOrphanCap) s = .next (startCap (onEnv (fun e => { e with orphanCap := true }) s))) ∧
  (∀ (rds : List (Option Psu)) (s : State), keelOn s = true → 
    exec (.psuPoll rds) s = .next (takePsus rds (onEnv (fun e => { e with pins := { e.pins with pmbAlert := false } }) s))) ∧
  (∀ (rds : List (Option Psu)) (s : State), keelOn (onEnv (fun e => { e with pins := { e.pins with pmbAlert := true } }) s) = true → 
    exec (.psuAlertInput rds) s = .next (takePsus rds (onEnv (fun e => { e with pins := { e.pins with pmbAlert := true } }) s)))
end

