-- ==== Sys2Proof/Laws/Commands.lean ====
section
/-! SUPPORT. Every Onreham command is one run of the command framework. -/

set_option Elab.async false

namespace Sys2Proof.Machine

/-- What handling a command under opcode `op` answers: one run of `runCommand`, at the catalogue's privilege or a higher one,
after which `ENV.RIPCORD` alone may leave the state. -/
def Shape (op : Nat) (q : Req) (s : State) (o : Host.Outcome State Fault Refusal) : Prop :=
  ∃ (lenOk : Bool) (priv : Nat) (chk : Option Nat) (res : List Byte) (f : State → State × List Byte),
    (cat op).priv ≤ priv ∧ o = .next (if op = 0x0D09 then leave (runCommand (cat op) lenOk priv chk res f q s)
      else runCommand (cat op) lenOk priv chk res f q s)

theorem shape_nop (q : Req) (s : State) : Shape 0x0000 q s (exec (.nop q) s) :=
  ⟨true, (cat 0x0000).priv, none, [], (ans fun _ => []), Nat.le_refl _, rfl⟩
theorem shape_caps (q : Req) (s : State) : Shape 0x0001 q s (exec (.caps q) s) :=
  ⟨true, (cat 0x0001).priv, none, [], (ans fun s => qCaps s q.from_), Nat.le_refl _, rfl⟩
theorem shape_ping (q : Req) (s : State) : Shape 0x0002 q s (exec (.ping q) s) :=
  ⟨true, (cat 0x0002).priv, none, [], (ans fun s => leBytes 8 (prm q 0 8) ++ leBytes 8 (ftNs s)), Nat.le_refl _, rfl⟩
theorem shape_devCaps (q : Req) (s : State) : Shape 0x0101 q s (exec (.devCaps q) s) :=
  ⟨(prm q 0 8 == 0 || 256 ≤ prm q 8 4), 0, none, [], (ans capRecord), by decide +kernel, rfl⟩
theorem shape_devState (q : Req) (s : State) : Shape 0x0102 q s (exec (.devState q) s) :=
  ⟨true, (cat 0x0102).priv, none, [], (ans qState), Nat.le_refl _, rfl⟩
theorem shape_devService (q : Req) (s : State) : Shape 0x0103 q s (exec (.devService q) s) :=
  ⟨true, (cat 0x0103).priv, (chkDevService q s), [], (act (setService (prm q 0 1 == 0))), Nat.le_refl _, rfl⟩
theorem shape_devRestart (q : Req) (s : State) : Shape 0x0104 q s (exec (.devRestart q) s) :=
  ⟨true, 2, (chkDevRestart q s), [], (fun s => (s, [])), by decide +kernel, rfl⟩
theorem shape_devSelftest (q : Req) (s : State) : Shape 0x0105 q s (exec (.devSelftest q) s) :=
  ⟨true, 1, (chkDevSelftest s), [], (fun s => (s, [])), by decide +kernel, rfl⟩
theorem shape_devMgmtcfg (q : Req) (s : State) : Shape 0x0106 q s (exec (.devMgmtcfg q) s) :=
  ⟨true, (cat 0x0106).priv, (chkDevMgmtcfg q), [], (act (modSet fun t => if prm q 0 1 = 0 then { t with mgmt := mgmtRec q } else { t with filter0 := prm q 4 2, filter1 := prm q 6 2 })), Nat.le_refl _, rfl⟩
theorem shape_devHostquery (q : Req) (s : State) : Shape 0x0107 q s (exec (.devHostquery q) s) :=
  ⟨true, (cat 0x0107).priv, none, [], (ans qHost), Nat.le_refl _, rfl⟩
theorem shape_portEnable (q : Req) (s : State) : Shape 0x0201 q s (exec (.portEnable q) s) :=
  ⟨true, (ownerFrom 18 31 (prm q 0 2)), (chkPortEnable q s), [], (act (enablePort (prm q 0 2))), by simp only [ownerFrom]; split <;> decide +kernel, rfl⟩
theorem shape_portDisable (q : Req) (s : State) : Shape 0x0202 q s (exec (.portDisable q) s) :=
  ⟨true, (ownerFrom 18 31 (prm q 0 2)), (chkPortDisable q s), [], (act (disablePort (prm q 0 2))), by simp only [ownerFrom]; split <;> decide +kernel, rfl⟩
theorem shape_portSplit (q : Req) (s : State) : Shape 0x0203 q s (exec (.portSplit q) s) :=
  ⟨true, (cat 0x0203).priv, (chkPortSplit q s), [], (act (onPort (prm q 0 2) fun c => { c with split := prm q 2 1 })), Nat.le_refl _, rfl⟩
theorem shape_portPower (q : Req) (s : State) : Shape 0x0204 q s (exec (.portPower q) s) :=
  ⟨true, (cat 0x0204).priv, (chkPortPower q s), [], (act (onPort (prm q 0 2) fun c => { c with policy := prm q 2 1, idleUs := if prm q 4 2 = 0 then c.idleUs else prm q 4 2 })), Nat.le_refl _, rfl⟩
theorem shape_portQuery (q : Req) (s : State) : Shape 0x0205 q s (exec (.portQuery q) s) :=
  ⟨true, (cat 0x0205).priv, (portNoChk s (prm q 0 2)), [], (ans fun s => qPort s (prm q 0 2)), Nat.le_refl _, rfl⟩
theorem shape_laneStats (q : Req) (s : State) : Shape 0x0206 q s (exec (.laneStats q) s) :=
  ⟨true, (cat 0x0206).priv, (laneNoChk s (prm q 0 2)), [], (fun s => (whenS (prm q 2 1 == 1) (clearLane (prm q 0 2)) s, qLane s (prm q 0 2))), Nat.le_refl _, rfl⟩
theorem shape_laneTest (q : Req) (s : State) : Shape 0x0207 q s (exec (.laneTest q) s) :=
  ⟨true, 1, (chkLaneTest q s), [], (fun s => (s, [])), by decide +kernel, rfl⟩
theorem shape_optRead (q : Req) (s : State) : Shape 0x0208 q s (exec (.optRead q) s) :=
  ⟨true, (cat 0x0208).priv, (chkOptRead q s), [], (ans fun s => qOpt s (prm q 0 2)), Nat.le_refl _, rfl⟩
theorem shape_optInspect (q : Req) (s : State) : Shape 0x0209 q s (exec (.optInspect q) s) :=
  ⟨true, 1, (chkOptInspect q s), [], (fun s => (s, [])), by decide +kernel, rfl⟩
theorem shape_optClean (q : Req) (s : State) : Shape 0x020A q s (exec (.optClean q) s) :=
  ⟨true, 1, (chkOptClean q s), [], (fun s => (s, [])), by decide +kernel, rfl⟩
theorem shape_portLinkcfg (q : Req) (s : State) : Shape 0x020B q s (exec (.portLinkcfg q) s) :=
  ⟨true, (ownerFrom 18 30 (prm q 0 2)), (chkPortLinkcfg q s), [], (act (onPort (prm q 0 2) fun c => { c with replayUs := if prm q 2 2 = 0 then c.replayUs else some (prm q 2 2), cred := if prm q 4 1 = 1 then [] else [(0, credField q)] })), by simp only [ownerFrom]; split <;> decide +kernel, rfl⟩
theorem shape_portLstats (q : Req) (s : State) : Shape 0x020C q s (exec (.portLstats q) s) :=
  ⟨true, (cat 0x020C).priv, (laneNoChk s (prm q 0 2)), [], (fun s => (whenS (prm q 2 1 == 1) (clearLstats (prm q 0 2)) s, qLstats s (prm q 0 2))), Nat.le_refl _, rfl⟩
theorem shape_portEthcfg (q : Req) (s : State) : Shape 0x020D q s (exec (.portEthcfg q) s) :=
  ⟨true, (cat 0x020D).priv, (chkPortEthcfg q s), [], (act (onPort (prm q 0 2) fun c => { c with eth := some ⟨prm q 2 6, prm q 8 4, 0, 0, prm q 16 16, 0, prm q 32 2, prm q 34 1, prm q 35 1⟩ })), Nat.le_refl _, rfl⟩
theorem shape_cartRead (q : Req) (s : State) : Shape 0x0301 q s (exec (.cartRead q) s) :=
  ⟨(!onHostRing q || 8192 ≤ prm q 16 4), 0, (bayChk s (prm q 0 2)), [], (readBay q), by decide +kernel, rfl⟩
theorem shape_cartOverride (q : Req) (s : State) : Shape 0x0302 q s (exec (.cartOverride q) s) :=
  ⟨true, (cat 0x0302).priv, (portRangeChk s (prm q 0 2) (prm q 2 2)), [], (act (forEach (portRange (prm q 0 2) (prm q 2 2)) fun p => setOverride p (prm q 4 1))), Nat.le_refl _, rfl⟩
theorem shape_cartRescan (q : Req) (s : State) : Shape 0x0303 q s (exec (.cartRescan q) s) :=
  ⟨true, 1, (chkCartRescan q s), [], (fun s => (s, [])), by decide +kernel, rfl⟩
theorem shape_routeWrite (q : Req) (s : State) : Shape 0x0401 q s (exec (.routeWrite q) s) :=
  ⟨true, (cat 0x0401).priv, (chkRouteWrite q s), [], (act fun s => modSet (fun t => { t with shadow := writeBank q s.id.n t.shadow }) s), Nat.le_refl _, rfl⟩
theorem shape_routeCommit (q : Req) (s : State) : Shape 0x0402 q s (exec (.routeCommit q) s) :=
  ⟨true, 2, (chkRouteCommit q s), [], (fun s => (s, [])), by decide +kernel, rfl⟩
theorem shape_routeHold (q : Req) (s : State) : Shape 0x0403 q s (exec (.routeHold q) s) :=
  ⟨true, 2, (chkRouteHold s), [], (fun s => (s, [])), by decide +kernel, rfl⟩
theorem shape_routeRelease (q : Req) (s : State) : Shape 0x0404 q s (exec (.routeRelease q) s) :=
  ⟨true, (cat 0x0404).priv, (refuseIf (!s.core.held) 0x0005), [], (act endHold), Nat.le_refl _, rfl⟩
theorem shape_routeQuery (q : Req) (s : State) : Shape 0x0405 q s (exec (.routeQuery q) s) :=
  ⟨true, (cat 0x0405).priv, (chkRouteQuery q), [], (ans fun s => qRoute s (prm q 0 1) (prm q 1 1) (prm q 2 1)), Nat.le_refl _, rfl⟩
theorem shape_routeCongmap (q : Req) (s : State) : Shape 0x0406 q s (exec (.routeCongmap q) s) :=
  ⟨(mapRoom q), 0, none, [], (ans qCongmap), by decide +kernel, rfl⟩
theorem shape_routeCmapcfg (q : Req) (s : State) : Shape 0x0407 q s (exec (.routeCmapcfg q) s) :=
  ⟨true, (cat 0x0407).priv, (refuseIf (prm q 0 4 < 10 || 10000 < prm q 0 4) 0x0007), [], (act (modSet fun t => { t with cmapUs := prm q 0 4 })), Nat.le_refl _, rfl⟩
theorem shape_routeSparstats (q : Req) (s : State) : Shape 0x0408 q s (exec (.routeSparstats q) s) :=
  ⟨true, (cat 0x0408).priv, (dieChk s (prm q 0 1)), [], (fun s => (whenS ((prm q 1 1).testBit 0) (clearSpars (prm q 0 1)) s, qSpars s (prm q 0 1))), Nat.le_refl _, rfl⟩
theorem shape_sliceBind (q : Req) (s : State) : Shape 0x0501 q s (exec (.sliceBind q) s) :=
  ⟨true, (sliceBindPriv q s), (chkSliceBind q s), [], (fun s => (s, [])), by simp only [sliceBindPriv]; split <;> decide +kernel, rfl⟩
theorem shape_sliceEnable (q : Req) (s : State) : Shape 0x0502 q s (exec (.sliceEnable q) s) :=
  ⟨true, (cat 0x0502).priv, (chkSliceEnable q s), [], (act (setSlice (prm q 0 2) 2)), Nat.le_refl _, rfl⟩
theorem shape_sliceDisable (q : Req) (s : State) : Shape 0x0503 q s (exec (.sliceDisable q) s) :=
  ⟨true, 1, (chkSliceDisable q s), [], (fun s => (s, [])), by decide +kernel, rfl⟩
theorem shape_sliceQuery (q : Req) (s : State) : Shape 0x0504 q s (exec (.sliceQuery q) s) :=
  ⟨true, (cat 0x0504).priv, (chkSliceQuery q s), [], (ans fun s => qSlice s q.entry.param), Nat.le_refl _, rfl⟩
theorem shape_qosServicecfg (q : Req) (s : State) : Shape 0x0601 q s (exec (.qosServicecfg q) s) :=
  ⟨true, (qosPriv (prm q 0 2) (prm q 2 2)), (chkQosServicecfg q s), [], (act fun s => forEach (lpRange (prm q 0 2) (prm q 2 2)) (fun l => onQos fun x => { x with prio := mset (prioDflt (prm q 4 1)) x.prio (8 * l + (prm q 4 1)) (prm q 5 1), weight := mset (weightDflt (prm q 4 1)) x.weight (8 * l + (prm q 4 1)) (prm q 6 1) }) s), by simp only [qosPriv]; split <;> decide +kernel, rfl⟩
theorem shape_qosSubcfg (q : Req) (s : State) : Shape 0x0602 q s (exec (.qosSubcfg q) s) :=
  ⟨true, (qosPriv (prm q 0 2) 1), (chkQosSubcfg q s), [], (act (onQos fun x => { x with subw := setRange 1 x.subw (leafNo (prm q 0 2) (prm q 2 1) (prm q 3 1)) (prm q 4 1) (prm q 5 1) })), by simp only [qosPriv]; split <;> decide +kernel, rfl⟩
theorem shape_qosShapecfg (q : Req) (s : State) : Shape 0x0603 q s (exec (.qosShapecfg q) s) :=
  ⟨true, (qosPriv (prm q 0 2) 1), (chkQosShapecfg q s), [], (act fun s => resetShaper (8 * prm q 0 2 + (if prm q 2 1 = 0xFF then 0 else prm q 2 1)) (onQos (fun x => { x with shape := mset ⟨0, 0, false⟩ x.shape (8 * prm q 0 2 + (if prm q 2 1 = 0xFF then 0 else prm q 2 1)) ⟨prm q 4 4, prm q 8 4, prm q 3 1 == 1⟩ }) s)), by simp only [qosPriv]; split <;> decide +kernel, rfl⟩
theorem shape_qosPolicecfg (q : Req) (s : State) : Shape 0x0604 q s (exec (.qosPolicecfg q) s) :=
  ⟨true, (qosPriv (prm q 0 2) 1), (chkQosPolicecfg q s), [], (act fun s => fillPolicer (8 * prm q 0 2 + prm q 2 1) (onQos (fun x => { x with police := mset ⟨false, 0, 0, 0, 0, 0, 0⟩ x.police (8 * prm q 0 2 + prm q 2 1) ⟨prm q 4 4 != 0, prm q 4 4, prm q 8 4, prm q 12 4, prm q 16 4, (polActs q).1, (polActs q).2⟩ }) s)), by simp only [qosPriv]; split <;> decide +kernel, rfl⟩
theorem shape_qosGatewrite (q : Req) (s : State) : Shape 0x0605 q s (exec (.qosGatewrite q) s) :=
  ⟨(8 * prm q 2 2 ≤ (inData q).length), (qosPriv (prm q 0 2) 1), (chkQosGatewrite q s), [], (fun s => (s, [])), by simp only [qosPriv]; split <;> decide +kernel, rfl⟩
theorem shape_qosGatequery (q : Req) (s : State) : Shape 0x0606 q s (exec (.qosGatequery q) s) :=
  ⟨(outRoom (cat 0x0606) (qGate s (prm q 0 2) (prm q 2 1)).length q), (qosPriv (prm q 0 2) 1), (chkQosGatequery q s), [], (ans fun s => qGate s (prm q 0 2) (prm q 2 1)), by simp only [qosPriv]; split <;> decide +kernel, rfl⟩
theorem shape_qosQstats (q : Req) (s : State) : Shape 0x0607 q s (exec (.qosQstats q) s) :=
  ⟨true, (if ownerQueues (prm q 0 4) 1 then 2 else 1), (queueChk s (prm q 0 4) 1), [], (fun s => (whenS (prm q 4 1 == 1) (onCore fun c => { c with qstat := mdel c.qstat (prm q 0 4) }) s, qQstats s (prm q 0 4))), by split <;> decide +kernel, rfl⟩
theorem shape_qosPstats (q : Req) (s : State) : Shape 0x0608 q s (exec (.qosPstats q) s) :=
  ⟨true, (qosPriv (prm q 0 2) 1), (firstOf [refuseIf (7 < (prm q 2 1)) 0x0007, lpRangeChk s (prm q 0 2) 1]), [], (fun s => (whenS (prm q 3 1 == 1) (onCore fun x => { x with pol := mmod polDflt x.pol (8 * (prm q 0 2) + (prm q 2 1)) fun p => { p with green := 0, yellow := 0, red := 0, discarded := 0 } }) s, qPstats s (prm q 0 2) (prm q 2 1))), by simp only [qosPriv]; split <;> decide +kernel, rfl⟩
theorem shape_qosPoolcfg (q : Req) (s : State) : Shape 0x0640 q s (exec (.qosPoolcfg q) s) :=
  ⟨true, (cat 0x0640).priv, (chkQosPoolcfg q s), [], (act fun s => forEach (dieField s (prm q 0 1)) (fun d s => relevelDie d (setPool q d s)) s), Nat.le_refl _, rfl⟩
theorem shape_qosPoolquery (q : Req) (s : State) : Shape 0x0641 q s (exec (.qosPoolquery q) s) :=
  ⟨true, (cat 0x0641).priv, (dieChk s (prm q 0 1)), [], (fun s => (whenS ((prm q 1 1).testBit 0) (clearPool (prm q 0 1)) s, qPool s (prm q 0 1))), Nat.le_refl _, rfl⟩
theorem shape_qosMarkcfg (q : Req) (s : State) : Shape 0x0642 q s (exec (.qosMarkcfg q) s) :=
  ⟨true, (if ownerQueues (prm q 0 4) (prm q 4 4) then 2 else 1), (chkQosMarkcfg q s), [], (act (modSet fun t => { t with marks := setRange 64 t.marks (prm q 0 4) (prm q 4 4) (prm q 8 4) })), by split <;> decide +kernel, rfl⟩
theorem shape_groupConfig (q : Req) (s : State) : Shape 0x0701 q s (exec (.groupConfig q) s) :=
  ⟨((256 + 8 * rdLe (inData q) 26 2) ≤ (inData q).length && (!onHostRing q || (256 + 8 * rdLe (inData q) 26 2) ≤ bufLen (cat 0x0701) q)), (cat 0x0701).priv, (chkGroupConfig q s), [], (act (modSet fun t => { t with groups := mput t.groups (prm q 0 2) (groupRec (inData q)) })), Nat.le_refl _, rfl⟩
theorem shape_groupEnable (q : Req) (s : State) : Shape 0x0702 q s (exec (.groupEnable q) s) :=
  ⟨true, (cat 0x0702).priv, (chkGroupEnable q s), [], (act (enableGroup (prm q 0 2) (prm q 4 4))), Nat.le_refl _, rfl⟩
theorem shape_groupDisable (q : Req) (s : State) : Shape 0x0703 q s (exec (.groupDisable q) s) :=
  ⟨true, 1, (chkGroupDisable q s), [], (fun s => (s, [])), by decide +kernel, rfl⟩
theorem shape_groupAbort (q : Req) (s : State) : Shape 0x0704 q s (exec (.groupAbort q) s) :=
  ⟨true, (cat 0x0704).priv, (chkGroupAbort q s), [], (act (failSeq (prm q 0 2) (prm q 4 4) 4)), Nat.le_refl _, rfl⟩
theorem shape_groupQuery (q : Req) (s : State) : Shape 0x0705 q s (exec (.groupQuery q) s) :=
  ⟨true, (cat 0x0705).priv, none, [], (fun s => (whenS (prm q 2 1 == 1) (clearGroup (prm q 0 2)) s, qGroup s (prm q 0 2))), Nat.le_refl _, rfl⟩
theorem shape_groupMissing (q : Req) (s : State) : Shape 0x0706 q s (exec (.groupMissing q) s) :=
  ⟨true, (cat 0x0706).priv, (refuseIf (groupSt s (prm q 0 2) != 2) 0x0005), [], (ans fun s => qMissing s (prm q 0 2) (prm q 4 4)), Nat.le_refl _, rfl⟩
theorem shape_groupPoolquery (q : Req) (s : State) : Shape 0x0707 q s (exec (.groupPoolquery q) s) :=
  ⟨true, (cat 0x0707).priv, (dieChk s (prm q 0 1)), [], (ans fun s => qGroupPool s (prm q 0 1)), Nat.le_refl _, rfl⟩
theorem shape_groupUpdcfg (q : Req) (s : State) : Shape 0x0708 q s (exec (.groupUpdcfg q) s) :=
  ⟨true, (cat 0x0708).priv, (chkGroupUpdcfg q s), [], (act (modSet fun t => { t with upd := mset updDflt t.upd (prm q 0 2) (updRec q.entry.param) })), Nat.le_refl _, rfl⟩
theorem shape_groupUpdquery (q : Req) (s : State) : Shape 0x0709 q s (exec (.groupUpdquery q) s) :=
  ⟨true, (cat 0x0709).priv, (dieChk s (prm q 0 1)), [], (ans fun s => qUpd s (prm q 0 1)), Nat.le_refl _, rfl⟩
theorem shape_groupNanread (q : Req) (s : State) : Shape 0x0780 q s (exec (.groupNanread q) s) :=
  ⟨true, (if (prm q 2 1 == 1) then 1 else 0), none, [], (fun s => (whenS ((prm q 2 1 == 1) && groupOn s (prm q 0 2)) (clearLatch (prm q 0 2)) s, qLatch s (prm q 0 2))), by split <;> decide +kernel, rfl⟩
theorem shape_tileLoad (q : Req) (s : State) : Shape 0x0801 q s (exec (.tileLoad q) s) :=
  ⟨true, 2, (chkTileLoad q s), [], (fun s => (s, [])), by decide +kernel, rfl⟩
theorem shape_tileUnload (q : Req) (s : State) : Shape 0x0802 q s (exec (.tileUnload q) s) :=
  ⟨true, (cat 0x0802).priv, (chkTileUnload q s), [], (act (onTile fun x => { x with progs := mdel x.progs (prm q 0 1) })), Nat.le_refl _, rfl⟩
theorem shape_tileProgquery (q : Req) (s : State) : Shape 0x0803 q s (exec (.tileProgquery q) s) :=
  ⟨true, (cat 0x0803).priv, (firstOf [refuseIf (slotBad q) 0x0007, refuseIf (!s.id.tiles) 0x0003]), [], (ans fun s => qProg s (prm q 0 1)), Nat.le_refl _, rfl⟩
theorem shape_tileUpdbind (q : Req) (s : State) : Shape 0x0804 q s (exec (.tileUpdbind q) s) :=
  ⟨true, (cat 0x0804).priv, (chkTileUpdbind q s), [], (act fun s => syncImem (modSet (fun t => { t with updBinds := mput t.updBinds (prm q 0 1) (bindRec q) }) s)), Nat.le_refl _, rfl⟩
theorem shape_tileUpdunbind (q : Req) (s : State) : Shape 0x0805 q s (exec (.tileUpdunbind q) s) :=
  ⟨true, (cat 0x0805).priv, (chkTileUpdunbind q s), [], (act fun s => syncImem (modSet (fun t => { t with updBinds := mdel t.updBinds (prm q 0 1) }) s)), Nat.le_refl _, rfl⟩
theorem shape_tileUpdquery (q : Req) (s : State) : Shape 0x0806 q s (exec (.tileUpdquery q) s) :=
  ⟨true, (cat 0x0806).priv, (refuseIf (!s.id.tiles) 0x0003), [], (ans fun s => qUpdBind s (prm q 0 1)), Nat.le_refl _, rfl⟩
theorem shape_tileQuery (q : Req) (s : State) : Shape 0x0840 q s (exec (.tileQuery q) s) :=
  ⟨true, (cat 0x0840).priv, (chkTileQuery q s), [], (ans fun s => qTile s (32 * prm q 0 1 + prm q 1 1)), Nat.le_refl _, rfl⟩
theorem shape_tilePower (q : Req) (s : State) : Shape 0x0841 q s (exec (.tilePower q) s) :=
  ⟨true, (cat 0x0841).priv, (chkTilePower q s), [], (act (forEach (namedTiles s (prm q 0 1) (prm q 1 1)) fun t => setTilePower t (prm q 2 1) (prm q 4 2))), Nat.le_refl _, rfl⟩
theorem shape_tileSelftest (q : Req) (s : State) : Shape 0x0842 q s (exec (.tileSelftest q) s) :=
  ⟨true, 1, (chkTileSelftest q s), [], (fun s => (s, [])), by decide +kernel, rfl⟩
theorem shape_schedLoad (q : Req) (s : State) : Shape 0x0901 q s (exec (.schedLoad q) s) :=
  ⟨true, (imagePriv (inData q)), (chkSchedLoad q s), [], (fun s => (s, [])), by simp only [imagePriv]; split <;> decide +kernel, rfl⟩
theorem shape_schedUnload (q : Req) (s : State) : Shape 0x0902 q s (exec (.schedUnload q) s) :=
  ⟨true, (cat 0x0902).priv, (chkSchedUnload q s), [], (act (onSched fun x => { x with images := mdel x.images (prm q 0 1) })), Nat.le_refl _, rfl⟩
theorem shape_schedEnable (q : Req) (s : State) : Shape 0x0903 q s (exec (.schedEnable q) s) :=
  ⟨true, (imagePriv (mget [] s.sched.images (prm q 0 1))), (chkSchedEnable q s), [], (fun s => (s, [])), by simp only [imagePriv]; split <;> decide +kernel, rfl⟩
theorem shape_schedStop (q : Req) (s : State) : Shape 0x0904 q s (exec (.schedStop q) s) :=
  ⟨true, (cat 0x0904).priv, (chkSchedStop q s), [], (act fun s => if prm q 0 1 = 0 then onSched (fun x => { x with stopAtEnd := true }) s else haltImage 9 s), Nat.le_refl _, rfl⟩
theorem shape_schedDisable (q : Req) (s : State) : Shape 0x0905 q s (exec (.schedDisable q) s) :=
  ⟨true, (cat 0x0905).priv, (chkSchedDisable s), [], (act disableImage), Nat.le_refl _, rfl⟩
theorem shape_schedQuery (q : Req) (s : State) : Shape 0x0906 q s (exec (.schedQuery q) s) :=
  ⟨true, (cat 0x0906).priv, none, [], (ans qSched), Nat.le_refl _, rfl⟩
theorem shape_schedTimecfg (q : Req) (s : State) : Shape 0x0907 q s (exec (.schedTimecfg q) s) :=
  ⟨true, (cat 0x0907).priv, (chkSchedTimecfg q), [], (act (timecfg q)), Nat.le_refl _, rfl⟩
theorem shape_schedTimequery (q : Req) (s : State) : Shape 0x0908 q s (exec (.schedTimequery q) s) :=
  ⟨true, (cat 0x0908).priv, none, [], (ans qTime), Nat.le_refl _, rfl⟩
theorem shape_schedAuditcfg (q : Req) (s : State) : Shape 0x0909 q s (exec (.schedAuditcfg q) s) :=
  ⟨true, (cat 0x0909).priv, (chkSchedAuditcfg q s), [], (act (setAudit (prm q 0 2) ((prm q 2 1).testBit 0))), Nat.le_refl _, rfl⟩
theorem shape_schedAuditread (q : Req) (s : State) : Shape 0x090A q s (exec (.schedAuditread q) s) :=
  ⟨true, (cat 0x090A).priv, (chkSchedAuditread q s), [], (ans fun s => qAudit s (prm q 0 2) (prm q 4 4)), Nat.le_refl _, rfl⟩
theorem shape_snapPlan (q : Req) (s : State) : Shape 0x0A01 q s (exec (.snapPlan q) s) :=
  ⟨true, (cat 0x0A01).priv, (chkSnapPlan q s), [], (act (setPlan (planRec q))), Nat.le_refl _, rfl⟩
theorem shape_snapPlanquery (q : Req) (s : State) : Shape 0x0A02 q s (exec (.snapPlanquery q) s) :=
  ⟨true, (cat 0x0A02).priv, none, [], (ans qPlan), Nat.le_refl _, rfl⟩
theorem shape_snapSeal (q : Req) (s : State) : Shape 0x0A03 q s (exec (.snapSeal q) s) :=
  ⟨true, (cat 0x0A03).priv, (chkSnapSeal q s), [], (act (askSeal (prm q 0 1) (prm q 8 8) false)), Nat.le_refl _, rfl⟩
theorem shape_snapReelcfg (q : Req) (s : State) : Shape 0x0A04 q s (exec (.snapReelcfg q) s) :=
  ⟨true, (cat 0x0A04).priv, (chkSnapReelcfg q s), [], (act (modSet fun t => { t with reel := reelRec q })), Nat.le_refl _, rfl⟩
theorem shape_snapReelenable (q : Req) (s : State) : Shape 0x0A05 q s (exec (.snapReelenable q) s) :=
  ⟨true, (cat 0x0A05).priv, (chkSnapReelenable q s), [], (act (setReel ((prm q 0 1).testBit 0))), Nat.le_refl _, rfl⟩
theorem shape_snapTarget (q : Req) (s : State) : Shape 0x0A06 q s (exec (.snapTarget q) s) :=
  ⟨(((prm q 1 1).testBit 0) || (inData q).length == 256), 2, (chkSnapTarget q s), [], (act (setTarget (prm q 0 1) (if ((prm q 1 1).testBit 0) then none else some (targetRec q)))), by decide +kernel, rfl⟩
theorem shape_snapDrain (q : Req) (s : State) : Shape 0x0A07 q s (exec (.snapDrain q) s) :=
  ⟨true, 1, (chkSnapDrain q s), [], (fun s => (s, [])), by decide +kernel, rfl⟩
theorem shape_snapRestore (q : Req) (s : State) : Shape 0x0A08 q s (exec (.snapRestore q) s) :=
  ⟨true, 2, (chkSnapRestore q s), [], (fun s => (s, [])), by decide +kernel, rfl⟩
theorem shape_snapList (q : Req) (s : State) : Shape 0x0A09 q s (exec (.snapList q) s) :=
  ⟨true, (cat 0x0A09).priv, (chkSnapList q), [], (ans fun s => qList s (prm q 0 1)), Nat.le_refl _, rfl⟩
theorem shape_snapQuery (q : Req) (s : State) : Shape 0x0A0A q s (exec (.snapQuery q) s) :=
  ⟨true, (cat 0x0A0A).priv, none, [], (ans qSnap), Nat.le_refl _, rfl⟩
theorem shape_flashHealth (q : Req) (s : State) : Shape 0x0B01 q s (exec (.flashHealth q) s) :=
  ⟨true, (cat 0x0B01).priv, (flashChk s), [], (ans qHealth), Nat.le_refl _, rfl⟩
theorem shape_flashScan (q : Req) (s : State) : Shape 0x0B02 q s (exec (.flashScan q) s) :=
  ⟨true, 1, (chkFlashScan s), [], (fun s => (s, [])), by decide +kernel, rfl⟩
theorem shape_flashScancfg (q : Req) (s : State) : Shape 0x0B03 q s (exec (.flashScancfg q) s) :=
  ⟨true, (cat 0x0B03).priv, (chkFlashScancfg q s), [], (act (modSet fun t => { t with scanH := if prm q 0 1 = 0 then 24 else prm q 0 1, scanPct := if prm q 1 1 = 0 then 10 else prm q 1 1, refreshPct := if prm q 2 1 = 0 then 50 else prm q 2 1 })), Nat.le_refl _, rfl⟩
theorem shape_flashBbtread (q : Req) (s : State) : Shape 0x0B04 q s (exec (.flashBbtread q) s) :=
  ⟨(outRoom (cat 0x0B04) 512 q), 0, (chkFlashBbtread q s), [], (ans fun s => qBbt s (prm q 0 2)), by decide +kernel, rfl⟩
theorem shape_flashFormat (q : Req) (s : State) : Shape 0x0B05 q s (exec (.flashFormat q) s) :=
  ⟨true, 2, (firstOf [flashChk s, formatBusy s]), [], (fun s => (s, [])), by decide +kernel, rfl⟩
theorem shape_gemelPair (q : Req) (s : State) : Shape 0x0C01 q s (exec (.gemelPair q) s) :=
  ⟨true, 2, (chkGemelPair q s), [], (fun s => (s, [])), by decide +kernel, rfl⟩
theorem shape_gemelUnpair (q : Req) (s : State) : Shape 0x0C02 q s (exec (.gemelUnpair q) s) :=
  ⟨true, (cat 0x0C02).priv, (chkGemelUnpair s), [], (act unpair), Nat.le_refl _, rfl⟩
theorem shape_gemelQuery (q : Req) (s : State) : Shape 0x0C03 q s (exec (.gemelQuery q) s) :=
  ⟨true, (cat 0x0C03).priv, none, [], (ans qGemel), Nat.le_refl _, rfl⟩
theorem shape_gemelAdopt (q : Req) (s : State) : Shape 0x0C04 q s (exec (.gemelAdopt q) s) :=
  ⟨true, 2, (firstOf [refuseIf (!(liveOps s 0x0C04).isEmpty) 0x0006, adoptChk s]), [], (fun s => (s, [])), by decide +kernel, rfl⟩
theorem shape_gemelResync (q : Req) (s : State) : Shape 0x0C05 q s (exec (.gemelResync q) s) :=
  ⟨true, 1, (firstOf [refuseIf (s.gemel.st != .paired) 0x0005, refuseIf (!(liveOps s 0x0C05).isEmpty) 0x0006]), [], (fun s => (s, [])), by decide +kernel, rfl⟩
theorem shape_envCap (q : Req) (s : State) : Shape 0x0D01 q s (exec (.envCap q) s) :=
  ⟨true, 2, (chkEnvCap q s), (capRefusal q s), (setCap (prm q 0 2) (prm q 2 2)), by decide +kernel, rfl⟩
theorem shape_envRampcfg (q : Req) (s : State) : Shape 0x0D02 q s (exec (.envRampcfg q) s) :=
  ⟨true, (cat 0x0D02).priv, (chkEnvRampcfg q s), [], (act (onEnvCfg fun e => { e with ramp := orDflt (prm q 0 2) 150 })), Nat.le_refl _, rfl⟩
theorem shape_envBrakecfg (q : Req) (s : State) : Shape 0x0D03 q s (exec (.envBrakecfg q) s) :=
  ⟨true, (cat 0x0D03).priv, (chkEnvBrakecfg q), [], (act (onEnvCfg (brakeRec q))), Nat.le_refl _, rfl⟩
theorem shape_envOrphancfg (q : Req) (s : State) : Shape 0x0D04 q s (exec (.envOrphancfg q) s) :=
  ⟨true, (cat 0x0D04).priv, (chkEnvOrphancfg q s), [], (act (setOrphan q)), Nat.le_refl _, rfl⟩
theorem shape_envHeartbeat (q : Req) (s : State) : Shape 0x0D05 q s (exec (.envHeartbeat q) s) :=
  ⟨true, (cat 0x0D05).priv, none, [], heartbeat, Nat.le_refl _, rfl⟩
theorem shape_envQuery (q : Req) (s : State) : Shape 0x0D06 q s (exec (.envQuery q) s) :=
  ⟨true, (cat 0x0D06).priv, none, [], (ans qEnv), Nat.le_refl _, rfl⟩
theorem shape_envSensors (q : Req) (s : State) : Shape 0x0D07 q s (exec (.envSensors q) s) :=
  ⟨true, (cat 0x0D07).priv, (chkEnvSensors q), [], (ans fun s => qSensors s (prm q 0 1) (prm q 1 1)), Nat.le_refl _, rfl⟩
theorem shape_envPsu (q : Req) (s : State) : Shape 0x0D08 q s (exec (.envPsu q) s) :=
  ⟨true, (cat 0x0D08).priv, (refuseIf (7 < prm q 0 1) 0x0007), [], (ans fun s => qPsu s (prm q 0 1)), Nat.le_refl _, rfl⟩
theorem shape_envRipcord (q : Req) (s : State) : Shape 0x0D09 q s (exec (.envRipcord q) s) :=
  ⟨true, (cat 0x0D09).priv, (chkEnvRipcord q s), [], (act fun s => if prm q 0 1 = 0 then ripcord 4 0 s else onSys (fun x => { x with leaving := some 5 }) s), Nat.le_refl _, rfl⟩
theorem shape_envTraycfg (q : Req) (s : State) : Shape 0x0D0A q s (exec (.envTraycfg q) s) :=
  ⟨true, (cat 0x0D0A).priv, none, [], (act (setTray q)), Nat.le_refl _, rfl⟩
theorem shape_envTrayquery (q : Req) (s : State) : Shape 0x0D0B q s (exec (.envTrayquery q) s) :=
  ⟨true, (cat 0x0D0B).priv, none, [], (ans qTray), Nat.le_refl _, rfl⟩
theorem shape_faultQuery (q : Req) (s : State) : Shape 0x0E01 q s (exec (.faultQuery q) s) :=
  ⟨(prm q 0 1 != 1 || 32 ≤ sourcesRoom q), (cat 0x0E01).priv, (chkFaultQuery q s), [], (ans fun s => if prm q 0 1 = 0 then qSource s (prm q 2 2) else qSources s (prm q 2 2) (sourcesRoom q)), Nat.le_refl _, rfl⟩
theorem shape_faultClasscfg (q : Req) (s : State) : Shape 0x0E02 q s (exec (.faultClasscfg q) s) :=
  ⟨true, (cat 0x0E02).priv, (chkFaultClasscfg q), [], (act (modSet fun t => { t with classes := mset (classDflt (prm q 0 1)) t.classes (prm q 0 1) (classRec q) })), Nat.le_refl _, rfl⟩
theorem shape_faultIsolate (q : Req) (s : State) : Shape 0x0E03 q s (exec (.faultIsolate q) s) :=
  ⟨true, 2, (chkFaultIsolate q s), [], (fun s => (s, [])), by decide +kernel, rfl⟩
theorem shape_faultRelease (q : Req) (s : State) : Shape 0x0E04 q s (exec (.faultRelease q) s) :=
  ⟨true, 2, (chkFaultRelease q s), [], (fun s => (s, [])), by decide +kernel, rfl⟩
theorem shape_faultClear (q : Req) (s : State) : Shape 0x0E05 q s (exec (.faultClear q) s) :=
  ⟨true, (cat 0x0E05).priv, none, [], (act fun s => whenS ((prm q 0 1).testBit 1) clearCounts (whenS ((prm q 0 1).testBit 0) clearLatchFirst s)), Nat.le_refl _, rfl⟩
theorem shape_eventTrigcfg (q : Req) (s : State) : Shape 0x0E06 q s (exec (.eventTrigcfg q) s) :=
  ⟨((prm q 2 1).testBit 2 || 4 * prm q 3 1 ≤ (inData q).length), 1, (chkEventTrigcfg q s), [], (setTrigger q), by decide +kernel, rfl⟩
theorem shape_eventRead (q : Req) (s : State) : Shape 0x0E07 q s (exec (.eventRead q) s) :=
  ⟨(readRoom q), 0, (chkEventRead q), [], (ans fun s => qEvents s (prm q 0 4) (prm q 4 4)), by decide +kernel, rfl⟩
theorem shape_eventRestart (q : Req) (s : State) : Shape 0x0E08 q s (exec (.eventRestart q) s) :=
  ⟨true, (cat 0x0E08).priv, none, [], (act evrRestart), Nat.le_refl _, rfl⟩
theorem shape_cfgWrite (q : Req) (s : State) : Shape 0x0F01 q s (exec (.cfgWrite q) s) :=
  ⟨(bufWhole 0x148 q), 2, (firstOf [refuseIf (!(begunOps s 0x0F01).isEmpty) 0x0006, cfgRefusal s (inData q)]), [], (fun s => (s, [])), by decide +kernel, rfl⟩
theorem shape_cfgRead (q : Req) (s : State) : Shape 0x0F02 q s (exec (.cfgRead q) s) :=
  ⟨(outRoom (cat 0x0F02) (copyRaw q s).length q), 0, (chkCfgRead q), [], (ans (copyRaw q)), by decide +kernel, rfl⟩
theorem shape_fwStage (q : Req) (s : State) : Shape 0x0F03 q s (exec (.fwStage q) s) :=
  ⟨(bufWhole 0x148 q), 2, (firstOf [refuseIf (!(begunOps s 0x0F03).isEmpty) 0x0006, stageRefusal s (inData q)]), [], (fun s => (s, [])), by decide +kernel, rfl⟩
theorem shape_fwActivate (q : Req) (s : State) : Shape 0x0F04 q s (exec (.fwActivate q) s) :=
  ⟨true, 2, (chkFwActivate q s), [], (fun s => (s, [])), by decide +kernel, rfl⟩
theorem shape_fwQuery (q : Req) (s : State) : Shape 0x0F05 q s (exec (.fwQuery q) s) :=
  ⟨true, (cat 0x0F05).priv, none, [], (ans qFw), Nat.le_refl _, rfl⟩
theorem shape_secCerts (q : Req) (s : State) : Shape 0x0F06 q s (exec (.secCerts q) s) :=
  ⟨(outRoom (cat 0x0F06) 4096 q), 0, none, [], (ans fun _ => Config.certChain), by decide +kernel, rfl⟩
theorem shape_secFloor (q : Req) (s : State) : Shape 0x0F07 q s (exec (.secFloor q) s) :=
  ⟨true, (cat 0x0F07).priv, (chkSecFloor q s), [], (act (raiseFloor (prm q 0 4))), Nat.le_refl _, rfl⟩
theorem shape_cfgJournalinit (q : Req) (s : State) : Shape 0x0F08 q s (exec (.cfgJournalinit q) s) :=
  ⟨true, 2, (chkJournalinit s), [], (fun s => (s, [])), by decide +kernel, rfl⟩
theorem shape_opQuery (q : Req) (s : State) : Shape 0x1001 q s (exec (.opQuery q) s) :=
  ⟨true, (cat 0x1001).priv, (tkChk q s), [], (queryTicket (prm q 0 4)), Nat.le_refl _, rfl⟩
theorem shape_opSuspend (q : Req) (s : State) : Shape 0x1002 q s (exec (.opSuspend q) s) :=
  ⟨true, (tkPriv q s), (chkOpSuspend q s), [], (act (suspend (prm q 0 4))), Nat.zero_le _, rfl⟩
theorem shape_opResume (q : Req) (s : State) : Shape 0x1003 q s (exec (.opResume q) s) :=
  ⟨true, (tkPriv q s), (chkOpResume q s), [], (act (resume (prm q 0 4))), Nat.zero_le _, rfl⟩
theorem shape_opCancel (q : Req) (s : State) : Shape 0x1004 q s (exec (.opCancel q) s) :=
  ⟨true, (tkPriv q s), (chkOpCancel q s), [], (act (cancelTicket (prm q 0 4))), Nat.zero_le _, rfl⟩
theorem shape_opList (q : Req) (s : State) : Shape 0x1005 q s (exec (.opList q) s) :=
  ⟨(outRoom (cat 0x1005) 2048 q), 0, none, [], (ans qOpList), by decide +kernel, rfl⟩

theorem command_shape {c : Instr} {op : Nat} {q : Req} (s : State) (hc : commandOf c = some (op, q)) :
    Shape op q s (exec c s) := by
  cases c <;> cases hc
  · exact shape_nop _ s
  · exact shape_caps _ s
  · exact shape_ping _ s
  · exact shape_devCaps _ s
  · exact shape_devState _ s
  · exact shape_devService _ s
  · exact shape_devRestart _ s
  · exact shape_devSelftest _ s
  · exact shape_devMgmtcfg _ s
  · exact shape_devHostquery _ s
  · exact shape_portEnable _ s
  · exact shape_portDisable _ s
  · exact shape_portSplit _ s
  · exact shape_portPower _ s
  · exact shape_portQuery _ s
  · exact shape_laneStats _ s
  · exact shape_laneTest _ s
  · exact shape_optRead _ s
  · exact shape_optInspect _ s
  · exact shape_optClean _ s
  · exact shape_portLinkcfg _ s
  · exact shape_portLstats _ s
  · exact shape_portEthcfg _ s
  · exact shape_cartRead _ s
  · exact shape_cartOverride _ s
  · exact shape_cartRescan _ s
  · exact shape_routeWrite _ s
  · exact shape_routeCommit _ s
  · exact shape_routeHold _ s
  · exact shape_routeRelease _ s
  · exact shape_routeQuery _ s
  · exact shape_routeCongmap _ s
  · exact shape_routeCmapcfg _ s
  · exact shape_routeSparstats _ s
  · exact shape_sliceBind _ s
  · exact shape_sliceEnable _ s
  · exact shape_sliceDisable _ s
  · exact shape_sliceQuery _ s
  · exact shape_qosServicecfg _ s
  · exact shape_qosSubcfg _ s
  · exact shape_qosShapecfg _ s
  · exact shape_qosPolicecfg _ s
  · exact shape_qosGatewrite _ s
  · exact shape_qosGatequery _ s
  · exact shape_qosQstats _ s
  · exact shape_qosPstats _ s
  · exact shape_qosPoolcfg _ s
  · exact shape_qosPoolquery _ s
  · exact shape_qosMarkcfg _ s
  · exact shape_groupConfig _ s
  · exact shape_groupEnable _ s
  · exact shape_groupDisable _ s
  · exact shape_groupAbort _ s
  · exact shape_groupQuery _ s
  · exact shape_groupMissing _ s
  · exact shape_groupPoolquery _ s
  · exact shape_groupUpdcfg _ s
  · exact shape_groupUpdquery _ s
  · exact shape_groupNanread _ s
  · exact shape_tileLoad _ s
  · exact shape_tileUnload _ s
  · exact shape_tileProgquery _ s
  · exact shape_tileUpdbind _ s
  · exact shape_tileUpdunbind _ s
  · exact shape_tileUpdquery _ s
  · exact shape_tileQuery _ s
  · exact shape_tilePower _ s
  · exact shape_tileSelftest _ s
  · exact shape_schedLoad _ s
  · exact shape_schedUnload _ s
  · exact shape_schedEnable _ s
  · exact shape_schedStop _ s
  · exact shape_schedDisable _ s
  · exact shape_schedQuery _ s
  · exact shape_schedTimecfg _ s
  · exact shape_schedTimequery _ s
  · exact shape_schedAuditcfg _ s
  · exact shape_schedAuditread _ s
  · exact shape_snapPlan _ s
  · exact shape_snapPlanquery _ s
  · exact shape_snapSeal _ s
  · exact shape_snapReelcfg _ s
  · exact shape_snapReelenable _ s
  · exact shape_snapTarget _ s
  · exact shape_snapDrain _ s
  · exact shape_snapRestore _ s
  · exact shape_snapList _ s
  · exact shape_snapQuery _ s
  · exact shape_flashHealth _ s
  · exact shape_flashScan _ s
  · exact shape_flashScancfg _ s
  · exact shape_flashBbtread _ s
  · exact shape_flashFormat _ s
  · exact shape_gemelPair _ s
  · exact shape_gemelUnpair _ s
  · exact shape_gemelQuery _ s
  · exact shape_gemelAdopt _ s
  · exact shape_gemelResync _ s
  · exact shape_envCap _ s
  · exact shape_envRampcfg _ s
  · exact shape_envBrakecfg _ s
  · exact shape_envOrphancfg _ s
  · exact shape_envHeartbeat _ s
  · exact shape_envQuery _ s
  · exact shape_envSensors _ s
  · exact shape_envPsu _ s
  · exact shape_envRipcord _ s
  · exact shape_envTraycfg _ s
  · exact shape_envTrayquery _ s
  · exact shape_faultQuery _ s
  · exact shape_faultClasscfg _ s
  · exact shape_faultIsolate _ s
  · exact shape_faultRelease _ s
  · exact shape_faultClear _ s
  · exact shape_eventTrigcfg _ s
  · exact shape_eventRead _ s
  · exact shape_eventRestart _ s
  · exact shape_cfgWrite _ s
  · exact shape_cfgRead _ s
  · exact shape_fwStage _ s
  · exact shape_fwActivate _ s
  · exact shape_fwQuery _ s
  · exact shape_secCerts _ s
  · exact shape_secFloor _ s
  · exact shape_cfgJournalinit _ s
  · exact shape_opQuery _ s
  · exact shape_opSuspend _ s
  · exact shape_opResume _ s
  · exact shape_opCancel _ s
  · exact shape_opList _ s

end Sys2Proof.Machine
end

