-- ==== Sys2Proof/Laws/Maps.lean ====
section
/-! SUPPORT. Laws of sparse tables and memories: a read after a write, and the canonical form that every operation
keeps. -/

set_option Elab.async false

namespace Sys2Proof.Machine

theorem mabove_of_lt {α : Type} {x y : Nat} (m : Map α) (h : x ≤ y) : mabove y m = true → mabove x m = true := by
  induction m with
  | nil => simp [mabove]
  | cons e r ih =>
    simp only [mabove, Bool.and_eq_true, decide_eq_true_eq]
    exact fun ⟨a, b⟩ => ⟨by omega, ih b⟩

theorem mabove_mput {α : Type} (m : Map α) (x k : Nat) (v : α) : x < k → mabove x m = true → mabove x (mput m k v) = true := by
  induction m with
  | nil => simp [mput, mabove]
  | cons e r ih =>
    simp only [mabove, Bool.and_eq_true, decide_eq_true_eq]
    intro hk ⟨a, b⟩
    simp only [mput]
    split
    · simp [mabove, a, b, hk]
    · split
      · simp [mabove, b, hk]
      · simp [mabove, a, ih hk b]

theorem msorted_mput {α : Type} (m : Map α) (k : Nat) (v : α) : msorted m = true → msorted (mput m k v) = true := by
  induction m with
  | nil => simp [mput, msorted, mabove]
  | cons e r ih =>
    simp only [msorted, Bool.and_eq_true]
    intro ⟨a, b⟩
    simp only [mput]
    split
    · rename_i h
      simp [msorted, mabove, a, b, h, mabove_of_lt r (Nat.le_of_lt h) a]
    · split
      · subst_vars; simp [msorted, a, b]
      · simp only [msorted, ih b, Bool.and_true]
        exact mabove_mput r _ k v (by omega) a

theorem mabove_filter {α : Type} (m : Map α) (p : Nat × α → Bool) (x : Nat) : mabove x m = true → mabove x (m.filter p) = true := by
  induction m with
  | nil => simp [mabove]
  | cons e r ih =>
    simp only [mabove, Bool.and_eq_true, decide_eq_true_eq]
    intro ⟨a, b⟩
    by_cases hp : p e <;> simp [List.filter, hp, mabove, a, ih b]

theorem msorted_filter {α : Type} (m : Map α) (p : Nat × α → Bool) : msorted m = true → msorted (m.filter p) = true := by
  induction m with
  | nil => simp [msorted]
  | cons e r ih =>
    simp only [msorted, Bool.and_eq_true]
    intro ⟨a, b⟩
    by_cases hp : p e <;> simp [List.filter, hp, msorted, ih b, mabove_filter r p _ a]

theorem mem_mput {α : Type} (m : Map α) (k : Nat) (v : α) (e : Nat × α) : e ∈ mput m k v → e = (k, v) ∨ e ∈ m := by
  induction m with
  | nil => simp [mput]
  | cons x r ih =>
    simp only [mput]
    split
    · simp
    · split
      · simp only [List.mem_cons]; rintro (h | h)
        · exact .inl h
        · exact .inr (.inr h)
      · simp only [List.mem_cons]; rintro (h | h)
        · exact .inr (.inl h)
        · exact (ih h).elim .inl (fun h => .inr (.inr h))

theorem mem_mdel {α : Type} (m : Map α) (k : Nat) (e : Nat × α) (h : e ∈ mdel m k) : e ∈ m := (List.mem_filter.mp h).1
theorem msorted_mdel {α : Type} (m : Map α) (k : Nat) (h : msorted m = true) : msorted (mdel m k) = true := msorted_filter m _ h

/-- A set keeps the canonical form. -/
theorem mwf_mset {α : Type} [DecidableEq α] (d : α) (m : Map α) (k : Nat) (v : α) : mwf d m = true → mwf d (mset d m k v) = true := by
  simp only [mwf, Bool.and_eq_true, List.all_eq_true, decide_eq_true_eq]
  intro ⟨h, g⟩
  unfold mset
  split
  · exact ⟨msorted_mdel m k h, fun e he => g e (mem_mdel m k e he)⟩
  · rename_i hv
    refine ⟨msorted_mput m k v h, fun e he => ?_⟩
    rcases mem_mput m k v e he with rfl | h'
    · exact hv
    · exact g e h'

theorem mwf_filter {α : Type} [DecidableEq α] (d : α) (m : Map α) (p : Nat × α → Bool) : mwf d m = true → mwf d (m.filter p) = true := by
  simp only [mwf, Bool.and_eq_true, List.all_eq_true, decide_eq_true_eq]
  exact fun ⟨h, g⟩ => ⟨msorted_filter m p h, fun e he => g e (List.mem_filter.mp he |>.1)⟩

/-- A write of bytes keeps memory in canonical form. -/
theorem memWrite_wf (bs : List Byte) : ∀ (m : Memory) (a : Nat), Memory.wf m = true → Memory.wf (memWrite m a bs) = true := by
  induction bs with
  | nil => intro m a h; exact h
  | cons b r ih => intro m a h; exact ih _ _ (mwf_mset 0 m a b h)

theorem memSet_wf (m : Memory) (a : Nat) (b : Byte) : Memory.wf m = true → Memory.wf (memSet m a b) = true := mwf_mset 0 m a b

theorem memNil_wf : Memory.wf [] = true := rfl

/-- Zeroing keeps memory in canonical form. -/
theorem memZero_wf (m : Memory) (a n : Nat) : Memory.wf m = true → Memory.wf (memZero m a n) = true := mwf_filter 0 m _

/-! ### Reads after writes -/

/-- A read after a put, in any table. -/
theorem mfind_mput {α : Type} (m : Map α) (k x : Nat) (v : α) :
    mfind (mput m k v) x = if x = k then some v else mfind m x := by
  induction m with
  | nil => simp only [mput, mfind]
  | cons e r ih =>
    obtain ⟨y, w⟩ := e
    simp only [mput]
    split
    · simp only [mfind]
    · split
      · subst_vars; simp only [mfind]; split <;> simp_all
      · simp only [mfind, ih]; by_cases h1 : x = y <;> by_cases h2 : x = k <;> simp_all

@[simp] theorem mfind_mput_self {α : Type} (m : Map α) (k : Nat) (v : α) : mfind (mput m k v) k = some v := by
  simp [mfind_mput]

@[simp] theorem mget_mput_self {α : Type} (d : α) (m : Map α) (k : Nat) (v : α) : mget d (mput m k v) k = v := by
  simp [mget]

/-- A read after keys were filtered out. -/
theorem mfind_filter {α : Type} (p : Nat → Bool) (m : Map α) (k : Nat) :
    mfind (m.filter fun e => p e.1) k = if p k then mfind m k else none := by
  induction m with
  | nil => simp [mfind]
  | cons e r ih =>
    obtain ⟨x, v⟩ := e
    by_cases hp : p x = true
    · simp only [List.filter_cons, hp, if_true, mfind]
      by_cases e1 : k = x
      · subst e1; simp [hp]
      · simp [e1, ih]
    · simp only [List.filter_cons, hp, Bool.false_eq_true, if_false, mfind]
      by_cases e1 : k = x
      · subst e1; simp [ih, hp]
      · simp [e1, ih]

theorem mfind_mdel {α : Type} (m : Map α) (k x : Nat) : mfind (mdel m k) x = if x = k then none else mfind m x := by
  unfold mdel
  rw [mfind_filter (fun y => y != k) m x]
  by_cases h : x = k <;> simp [h]

/-- A read after a set. -/
@[simp] theorem mget_mset {α : Type} [DecidableEq α] (d : α) (m : Map α) (k x : Nat) (v : α) :
    mget d (mset d m k v) x = if x = k then v else mget d m x := by
  unfold mset mget
  split
  · rename_i hv; rw [mfind_mdel m k x]; split <;> simp [hv]
  · rw [mfind_mput m k x v]; split <;> rfl

/-- A byte read after a byte written. -/
theorem memGet_memSet (m : Memory) (a x : Nat) (b : Byte) : memGet (memSet m a b) x = if x = a then b else memGet m x :=
  mget_mset 0 m a x b

/-- A byte outside the written bytes reads as before. -/
theorem memGet_memWrite_outside (bs : List Byte) : ∀ (m : Memory) (a x : Nat), (x < a ∨ a + bs.length ≤ x) →
    memGet (memWrite m a bs) x = memGet m x := by
  induction bs with
  | nil => intro m a x _; rfl
  | cons b r ih =>
    intro m a x hx
    simp only [List.length_cons] at hx
    simp only [memWrite]
    rw [ih _ _ _ (by omega), memGet_memSet m a x b, if_neg (by omega)]

/-- A written byte reads back. -/
theorem memGet_memWrite_inside (bs : List Byte) : ∀ (m : Memory) (a i : Nat) (hi : i < bs.length),
    memGet (memWrite m a bs) (a + i) = bs[i] := by
  induction bs with
  | nil => intro m a i hi; exact absurd hi (Nat.not_lt_zero _)
  | cons b r ih =>
    intro m a i hi
    simp only [memWrite]
    cases i with
    | zero => rw [memGet_memWrite_outside r _ _ _ (by omega), memGet_memSet m a _ b]; simp
    | succ n =>
      have := ih (memSet m a b) (a + 1) n (by simpa using hi)
      rw [show a + (n + 1) = a + 1 + n by omega, this]; simp

/-- Every byte after a write of bytes. -/
theorem memGet_memWrite (m : Memory) (a x : Nat) (bs : List Byte) :
    memGet (memWrite m a bs) x = if a ≤ x ∧ x < a + bs.length then bs.getD (x - a) 0 else memGet m x := by
  by_cases e : a ≤ x ∧ x < a + bs.length
  · have hi := memGet_memWrite_inside bs m a (x - a) (by omega)
    rw [show a + (x - a) = x by omega] at hi
    simp only [e, and_self, if_true, hi]
    simp [List.getD_eq_getElem?_getD, show x - a < bs.length by omega]
  · rw [memGet_memWrite_outside bs _ a x (by omega), if_neg e]

/-- Every byte after bytes are zeroed. -/
theorem memGet_memZero (m : Memory) (a n x : Nat) : memGet (memZero m a n) x = if a ≤ x ∧ x < a + n then 0 else memGet m x := by
  have := mfind_filter (fun y => y < a || a + n ≤ y) m x
  unfold memGet mget memZero
  rw [this]
  by_cases e : a ≤ x ∧ x < a + n
  · have : (decide (x < a) || decide (a + n ≤ x)) = false := by simp; omega
    simp [this, e]
  · have : (decide (x < a) || decide (a + n ≤ x)) = true := by simp; omega
    simp [this, e]

end Sys2Proof.Machine
end

