-- ==== Sys2Proof/Laws/Keeps.lean ====
section
/-! SUPPORT. `Fr M`: a change that keeps what may not be undone and touches no part of the state outside `M`. It is a
preorder, and the shared updates have it. -/

set_option Elab.async false

namespace Sys2Proof.Machine

/-- Every bit of `a` is one of `b`. -/
def Sub (a b : Nat) : Prop := ∀ i, a.testBit i = true → b.testBit i = true
theorem sub_of {a b m : Nat} (h : Sub b m) (e : a &&& b = a) : Sub a m := by
  intro i hi
  apply h
  rw [← e, Nat.testBit_and] at hi
  exact (Bool.and_eq_true _ _ ▸ hi).2
theorem sub_num {a b : Nat} (e : a &&& b = a) : Sub a b := sub_of (fun _ h => h) e

/-- A change that keeps what may not be undone and touches nothing outside `M`. -/
def Fr (M : Nat) (s t : State) : Prop := Keeps s t ∧ SameExcept M s t

theorem keeps_refl' (s : State) : Keeps s s := ⟨rfl, rfl, List.prefix_rfl, Nat.le_refl _, Nat.le_refl _, Nat.le_refl _, id⟩
theorem keeps_trans' {a b c : State} (h : Keeps a b) (g : Keeps b c) : Keeps a c :=
  ⟨g.1.trans h.1, g.2.1.trans h.2.1, h.2.2.1.trans g.2.2.1, Nat.le_trans h.2.2.2.1 g.2.2.2.1, Nat.le_trans h.2.2.2.2.1 g.2.2.2.2.1,
    Nat.le_trans h.2.2.2.2.2.1 g.2.2.2.2.2.1, fun m => g.2.2.2.2.2.2 (h.2.2.2.2.2.2 m)⟩

theorem same_refl (M : Nat) (s : State) : SameExcept M s s := by
  unfold SameExcept
  exact ⟨rfl, rfl, fun _ => rfl, fun _ => ⟨rfl, rfl⟩, fun _ => rfl, fun _ => rfl, fun _ => rfl, fun _ => rfl, fun _ => rfl,
    fun _ => rfl, fun _ => rfl, fun _ => rfl, fun _ => rfl, fun _ => rfl, fun _ => rfl, fun _ => rfl, fun _ => rfl,
    fun _ => rfl, fun _ => rfl, fun _ => rfl, fun _ => rfl, fun _ => rfl, fun _ => rfl, fun _ => rfl, fun _ => rfl,
    fun _ => rfl, fun _ => rfl, fun _ => rfl⟩
theorem same_trans {M : Nat} {a b c : State} (h : SameExcept M a b) (g : SameExcept M b c) : SameExcept M a c := by
  obtain ⟨a0, a1, a2, a3, a4, a5, a6, a7, a8, a9, a10, a11, a12, a13, a14, a15, a16, a17, a18, a19, a20, a21, a22, a23, a24, a25,
    a26, a27⟩ := h
  obtain ⟨b0, b1, b2, b3, b4, b5, b6, b7, b8, b9, b10, b11, b12, b13, b14, b15, b16, b17, b18, b19, b20, b21, b22, b23, b24, b25,
    b26, b27⟩ := g
  refine ⟨b0.trans a0, b1.trans a1, fun m => (b2 m).trans (a2 m), fun m => ⟨(b3 m).1.trans (a3 m).1, (b3 m).2.trans (a3 m).2⟩,
    fun m => (b4 m).trans (a4 m), fun m => ?_, fun m => (b6 m).trans (a6 m), fun m => (b7 m).trans (a7 m),
    fun m => (b8 m).trans (a8 m), fun m => ?_, fun m => (b10 m).trans (a10 m), fun m => ?_, fun m => (b12 m).trans (a12 m),
    fun m => ?_, fun m => (b14 m).trans (a14 m), fun m => ?_, fun m => (b16 m).trans (a16 m), fun m => (b17 m).trans (a17 m),
    fun m => (b18 m).trans (a18 m), fun m => (b19 m).trans (a19 m), fun m => ?_, fun m => (b21 m).trans (a21 m),
    fun m => (b22 m).trans (a22 m), fun m => (b23 m).trans (a23 m), fun m => (b24 m).trans (a24 m), fun m => (b25 m).trans (a25 m),
    fun m => (b26 m).trans (a26 m), fun m => (b27 m).trans (a27 m)⟩
  · have x := a5 m; have y := b5 m
    rw [← x, ← y]
  · have x := a9 m; have y := b9 m
    rw [← x, ← y]
  · have x := a11 m; have y := b11 m
    rw [← x, ← y]
  · have x := a13 m; have y := b13 m
    rw [← x, ← y]
  · have x := a15 m; have y := b15 m
    rw [← x, ← y]
  · have x := a20 m; have y := b20 m
    rw [← x, ← y]

theorem same_weaken {a b : Nat} {s t : State} (h : SameExcept a s t) (w : Sub a b) : SameExcept b s t := by
  have z : ∀ i, b.testBit i = false → a.testBit i = false := fun i hi => by
    cases e : a.testBit i with
    | false => rfl
    | true => rw [w i e] at hi; cases hi
  obtain ⟨a0, a1, a2, a3, a4, a5, a6, a7, a8, a9, a10, a11, a12, a13, a14, a15, a16, a17, a18, a19, a20, a21, a22, a23, a24, a25,
    a26, a27⟩ := h
  exact ⟨a0, a1, fun m => a2 (z _ m), fun m => a3 (z _ m), fun m => a4 (z _ m), fun m => a5 (z _ m), fun m => a6 (z _ m),
    fun m => a7 (z _ m), fun m => a8 (z _ m), fun m => a9 (z _ m), fun m => a10 (z _ m), fun m => a11 (z _ m),
    fun m => a12 (z _ m), fun m => a13 (z _ m), fun m => a14 (z _ m), fun m => a15 (z _ m), fun m => a16 (z _ m),
    fun m => a17 (z _ m), fun m => a18 (z _ m), fun m => a19 (z _ m), fun m => a20 (z _ m), fun m => a21 (z _ m),
    fun m => a22 (z _ m), fun m => a23 (z _ m), fun m => a24 (z _ m), fun m => a25 (z _ m), fun m => a26 (z _ m), fun m => a27 (z _ m)⟩

theorem keeps_trans {M : Nat} {a b c : State} (h : Fr M a b) (g : Fr M b c) : Fr M a c :=
  ⟨keeps_trans' h.1 g.1, same_trans h.2 g.2⟩
theorem fr_refl (M : Nat) (s : State) : Fr M s s := ⟨keeps_refl' s, same_refl M s⟩
theorem not_sub {a m i : Nat} (h : Sub a m) (e : a.testBit i = true) (n : m.testBit i = false) {p : Prop} : p := by
  rw [h i e] at n; cases n

variable {M : Nat} {s0 s : State}

theorem keeps_emit (o : Out) (hm : Sub 8388608 M) (h : Fr M s0 s) : Fr M s0 (emit o s) := by
  refine keeps_trans h ⟨⟨rfl, rfl, List.prefix_append _ _, Nat.le_refl _, Nat.le_refl _, Nat.le_refl _, id⟩, ?_⟩
  unfold SameExcept
  refine ⟨rfl, rfl, ?_, ?_, ?_, ?_, ?_, ?_, ?_, ?_, ?_, ?_, ?_, ?_, ?_, ?_, ?_, ?_, ?_, ?_, ?_, ?_, ?_, ?_, ?_, ?_, ?_, ?_⟩ <;> intro m <;>
    first | rfl | exact ⟨rfl, rfl⟩ | exact not_sub hm rfl m
theorem keeps_draw (hm : Sub 33554432 M) (h : Fr M s0 s) : Fr M s0 ((draw s).2) := by
  refine keeps_trans h ⟨⟨rfl, rfl, List.prefix_rfl, Nat.le_refl _, Nat.le_succ _, Nat.le_refl _, id⟩, ?_⟩
  unfold SameExcept
  refine ⟨rfl, rfl, ?_, ?_, ?_, ?_, ?_, ?_, ?_, ?_, ?_, ?_, ?_, ?_, ?_, ?_, ?_, ?_, ?_, ?_, ?_, ?_, ?_, ?_, ?_, ?_, ?_, ?_⟩ <;> intro m <;>
    first | rfl | exact ⟨rfl, rfl⟩ | exact not_sub hm rfl m
theorem keeps_tick (hm : Sub 16809984 M) (h : Fr M s0 s) : Fr M s0 (tick s) := by
  refine keeps_trans h ⟨⟨rfl, rfl, List.prefix_rfl, Nat.le_succ _, Nat.le_refl _, Nat.le_refl _, id⟩, ?_⟩
  unfold SameExcept
  refine ⟨rfl, rfl, ?_, ?_, ?_, ?_, ?_, ?_, ?_, ?_, ?_, ?_, ?_, ?_, ?_, ?_, ?_, ?_, ?_, ?_, ?_, ?_, ?_, ?_, ?_, ?_, ?_, ?_⟩ <;> intro m <;>
    first | rfl | exact ⟨rfl, rfl⟩ | exact not_sub hm rfl m
theorem keeps_modSet (f : Settings → Settings) (hm : Sub 6291456 M) (h : Fr M s0 s) : Fr M s0 (modSet f s) := by
  refine keeps_trans h ⟨⟨rfl, rfl, List.prefix_rfl, Nat.le_refl _, Nat.le_refl _, Nat.le_refl _, id⟩, ?_⟩
  unfold SameExcept
  refine ⟨rfl, rfl, ?_, ?_, ?_, ?_, ?_, ?_, ?_, ?_, ?_, ?_, ?_, ?_, ?_, ?_, ?_, ?_, ?_, ?_, ?_, ?_, ?_, ?_, ?_, ?_, ?_, ?_⟩ <;> intro m <;>
    first | rfl | exact ⟨rfl, rfl⟩ | exact not_sub hm rfl m
theorem keeps_onSet (f : Settings → Settings) (hm : Sub 2097152 M) (h : Fr M s0 s) : Fr M s0 (onSet f s) := by
  refine keeps_trans h ⟨⟨rfl, rfl, List.prefix_rfl, Nat.le_refl _, Nat.le_refl _, Nat.le_refl _, id⟩, ?_⟩
  unfold SameExcept
  refine ⟨rfl, rfl, ?_, ?_, ?_, ?_, ?_, ?_, ?_, ?_, ?_, ?_, ?_, ?_, ?_, ?_, ?_, ?_, ?_, ?_, ?_, ?_, ?_, ?_, ?_, ?_, ?_, ?_⟩ <;> intro m <;>
    first | rfl | exact ⟨rfl, rfl⟩ | exact not_sub hm rfl m
theorem keeps_onJrn (f : Settings → Settings) (hm : Sub 4194304 M) (h : Fr M s0 s) : Fr M s0 (onJrn f s) := by
  refine keeps_trans h ⟨⟨rfl, rfl, List.prefix_rfl, Nat.le_refl _, Nat.le_refl _, Nat.le_refl _, id⟩, ?_⟩
  unfold SameExcept
  refine ⟨rfl, rfl, ?_, ?_, ?_, ?_, ?_, ?_, ?_, ?_, ?_, ?_, ?_, ?_, ?_, ?_, ?_, ?_, ?_, ?_, ?_, ?_, ?_, ?_, ?_, ?_, ?_, ?_⟩ <;> intro m <;>
    first | rfl | exact ⟨rfl, rfl⟩ | exact not_sub hm rfl m
theorem keeps_onCmd (f : CmdSt → CmdSt) (hm : Sub 14 M) (h : Fr M s0 s) : Fr M s0 (onCmd f s) := by
  refine keeps_trans h ⟨⟨rfl, rfl, List.prefix_rfl, Nat.le_refl _, Nat.le_refl _, Nat.le_refl _, id⟩, ?_⟩
  unfold SameExcept
  refine ⟨rfl, rfl, ?_, ?_, ?_, ?_, ?_, ?_, ?_, ?_, ?_, ?_, ?_, ?_, ?_, ?_, ?_, ?_, ?_, ?_, ?_, ?_, ?_, ?_, ?_, ?_, ?_, ?_⟩ <;> intro m <;>
    first | rfl | exact ⟨rfl, rfl⟩ | exact not_sub hm rfl m
theorem keeps_onHost (f : HostSt → HostSt) (hm : Sub 16 M) (h : Fr M s0 s) : Fr M s0 (onHost f s) := by
  refine keeps_trans h ⟨⟨rfl, rfl, List.prefix_rfl, Nat.le_refl _, Nat.le_refl _, Nat.le_refl _, id⟩, ?_⟩
  unfold SameExcept
  refine ⟨rfl, rfl, ?_, ?_, ?_, ?_, ?_, ?_, ?_, ?_, ?_, ?_, ?_, ?_, ?_, ?_, ?_, ?_, ?_, ?_, ?_, ?_, ?_, ?_, ?_, ?_, ?_, ?_⟩ <;> intro m <;>
    first | rfl | exact ⟨rfl, rfl⟩ | exact not_sub hm rfl m
theorem keeps_onEnv (f : EnvSt → EnvSt) (hm : Sub 64 M) (h : Fr M s0 s) : Fr M s0 (onEnv f s) := by
  refine keeps_trans h ⟨⟨rfl, rfl, List.prefix_rfl, Nat.le_refl _, Nat.le_refl _, Nat.le_refl _, id⟩, ?_⟩
  unfold SameExcept
  refine ⟨rfl, rfl, ?_, ?_, ?_, ?_, ?_, ?_, ?_, ?_, ?_, ?_, ?_, ?_, ?_, ?_, ?_, ?_, ?_, ?_, ?_, ?_, ?_, ?_, ?_, ?_, ?_, ?_⟩ <;> intro m <;>
    first | rfl | exact ⟨rfl, rfl⟩ | exact not_sub hm rfl m
theorem keeps_onNet (f : NetSt → NetSt) (hm : Sub 384 M) (h : Fr M s0 s) : Fr M s0 (onNet f s) := by
  refine keeps_trans h ⟨⟨rfl, rfl, List.prefix_rfl, Nat.le_refl _, Nat.le_refl _, Nat.le_refl _, id⟩, ?_⟩
  unfold SameExcept
  refine ⟨rfl, rfl, ?_, ?_, ?_, ?_, ?_, ?_, ?_, ?_, ?_, ?_, ?_, ?_, ?_, ?_, ?_, ?_, ?_, ?_, ?_, ?_, ?_, ?_, ?_, ?_, ?_, ?_⟩ <;> intro m <;>
    first | rfl | exact ⟨rfl, rfl⟩ | exact not_sub hm rfl m
theorem keeps_onCore (f : CoreSt → CoreSt) (hm : Sub 1536 M) (h : Fr M s0 s) : Fr M s0 (onCore f s) := by
  refine keeps_trans h ⟨⟨rfl, rfl, List.prefix_rfl, Nat.le_refl _, Nat.le_refl _, Nat.le_refl _, id⟩, ?_⟩
  unfold SameExcept
  refine ⟨rfl, rfl, ?_, ?_, ?_, ?_, ?_, ?_, ?_, ?_, ?_, ?_, ?_, ?_, ?_, ?_, ?_, ?_, ?_, ?_, ?_, ?_, ?_, ?_, ?_, ?_, ?_, ?_⟩ <;> intro m <;>
    first | rfl | exact ⟨rfl, rfl⟩ | exact not_sub hm rfl m
theorem keeps_onTime (f : TimeSt → TimeSt) (hm : Sub 32768 M) (h : Fr M s0 s) : Fr M s0 (onTime f s) := by
  refine keeps_trans h ⟨⟨rfl, rfl, List.prefix_rfl, Nat.le_refl _, Nat.le_refl _, Nat.le_refl _, id⟩, ?_⟩
  unfold SameExcept
  refine ⟨rfl, rfl, ?_, ?_, ?_, ?_, ?_, ?_, ?_, ?_, ?_, ?_, ?_, ?_, ?_, ?_, ?_, ?_, ?_, ?_, ?_, ?_, ?_, ?_, ?_, ?_, ?_, ?_⟩ <;> intro m <;>
    first | rfl | exact ⟨rfl, rfl⟩ | exact not_sub hm rfl m
theorem keeps_onSched (f : SchedSt → SchedSt) (hm : Sub 65536 M) (h : Fr M s0 s) : Fr M s0 (onSched f s) := by
  refine keeps_trans h ⟨⟨rfl, rfl, List.prefix_rfl, Nat.le_refl _, Nat.le_refl _, Nat.le_refl _, id⟩, ?_⟩
  unfold SameExcept
  refine ⟨rfl, rfl, ?_, ?_, ?_, ?_, ?_, ?_, ?_, ?_, ?_, ?_, ?_, ?_, ?_, ?_, ?_, ?_, ?_, ?_, ?_, ?_, ?_, ?_, ?_, ?_, ?_, ?_⟩ <;> intro m <;>
    first | rfl | exact ⟨rfl, rfl⟩ | exact not_sub hm rfl m
theorem keeps_onSnap (f : SnapSt → SnapSt) (hm : Sub 131072 M) (h : Fr M s0 s) : Fr M s0 (onSnap f s) := by
  refine keeps_trans h ⟨⟨rfl, rfl, List.prefix_rfl, Nat.le_refl _, Nat.le_refl _, Nat.le_refl _, id⟩, ?_⟩
  unfold SameExcept
  refine ⟨rfl, rfl, ?_, ?_, ?_, ?_, ?_, ?_, ?_, ?_, ?_, ?_, ?_, ?_, ?_, ?_, ?_, ?_, ?_, ?_, ?_, ?_, ?_, ?_, ?_, ?_, ?_, ?_⟩ <;> intro m <;>
    first | rfl | exact ⟨rfl, rfl⟩ | exact not_sub hm rfl m
theorem keeps_onGemel (f : GemelSt → GemelSt) (hm : Sub 1048576 M) (h : Fr M s0 s) : Fr M s0 (onGemel f s) := by
  refine keeps_trans h ⟨⟨rfl, rfl, List.prefix_rfl, Nat.le_refl _, Nat.le_refl _, Nat.le_refl _, id⟩, ?_⟩
  unfold SameExcept
  refine ⟨rfl, rfl, ?_, ?_, ?_, ?_, ?_, ?_, ?_, ?_, ?_, ?_, ?_, ?_, ?_, ?_, ?_, ?_, ?_, ?_, ?_, ?_, ?_, ?_, ?_, ?_, ?_, ?_⟩ <;> intro m <;>
    first | rfl | exact ⟨rfl, rfl⟩ | exact not_sub hm rfl m
theorem keeps_onCmdR (f : CmdSt → CmdSt) (hm : Sub 8 M) (h : Fr M s0 s) (hf : ∀ x, (f x).tickets = x.tickets ∧ (f x).serial = x.serial ∧ (f x).history = x.history) : Fr M s0 (onCmd f s) := by
  refine keeps_trans h ⟨⟨rfl, rfl, List.prefix_rfl, Nat.le_refl _, Nat.le_refl _, Nat.le_refl _, id⟩, ?_⟩
  unfold SameExcept
  refine ⟨rfl, rfl, ?_, ?_, ?_, ?_, ?_, ?_, ?_, ?_, ?_, ?_, ?_, ?_, ?_, ?_, ?_, ?_, ?_, ?_, ?_, ?_, ?_, ?_, ?_, ?_, ?_, ?_⟩ <;> intro m <;>
    first | rfl | exact ⟨rfl, rfl⟩ | exact not_sub hm rfl m | exact ⟨(hf _).1, (hf _).2.1⟩ | exact (hf _).2.2
theorem keeps_onNetR (f : NetSt → NetSt) (hm : Sub 128 M) (h : Fr M s0 s) (hf : ∀ x, (f x).scrub = x.scrub) : Fr M s0 (onNet f s) := by
  refine keeps_trans h ⟨⟨rfl, rfl, List.prefix_rfl, Nat.le_refl _, Nat.le_refl _, Nat.le_refl _, id⟩, ?_⟩
  unfold SameExcept
  refine ⟨rfl, rfl, ?_, ?_, ?_, ?_, ?_, ?_, ?_, ?_, ?_, ?_, ?_, ?_, ?_, ?_, ?_, ?_, ?_, ?_, ?_, ?_, ?_, ?_, ?_, ?_, ?_, ?_⟩ <;> intro m <;>
    first | rfl | exact ⟨rfl, rfl⟩ | exact not_sub hm rfl m | exact hf _
theorem keeps_onNetM (f : NetSt → NetSt) (hm : Sub 256 M) (h : Fr M s0 s) (hf : ∀ x, { f x with scrub := x.scrub } = x) : Fr M s0 (onNet f s) := by
  refine keeps_trans h ⟨⟨rfl, rfl, List.prefix_rfl, Nat.le_refl _, Nat.le_refl _, Nat.le_refl _, id⟩, ?_⟩
  unfold SameExcept
  refine ⟨rfl, rfl, ?_, ?_, ?_, ?_, ?_, ?_, ?_, ?_, ?_, ?_, ?_, ?_, ?_, ?_, ?_, ?_, ?_, ?_, ?_, ?_, ?_, ?_, ?_, ?_, ?_, ?_⟩ <;> intro m <;>
    first | rfl | exact ⟨rfl, rfl⟩ | exact not_sub hm rfl m | exact hf _
theorem keeps_onCoreR (f : CoreSt → CoreSt) (hm : Sub 512 M) (h : Fr M s0 s) (hf : ∀ x, (f x).dies = x.dies) : Fr M s0 (onCore f s) := by
  refine keeps_trans h ⟨⟨rfl, rfl, List.prefix_rfl, Nat.le_refl _, Nat.le_refl _, Nat.le_refl _, id⟩, ?_⟩
  unfold SameExcept
  refine ⟨rfl, rfl, ?_, ?_, ?_, ?_, ?_, ?_, ?_, ?_, ?_, ?_, ?_, ?_, ?_, ?_, ?_, ?_, ?_, ?_, ?_, ?_, ?_, ?_, ?_, ?_, ?_, ?_⟩ <;> intro m <;>
    first | rfl | exact ⟨rfl, rfl⟩ | exact not_sub hm rfl m | exact hf _
theorem keeps_onCoreD (f : CoreSt → CoreSt) (hm : Sub 1024 M) (h : Fr M s0 s) (hf : ∀ x, { f x with dies := x.dies } = x) : Fr M s0 (onCore f s) := by
  refine keeps_trans h ⟨⟨rfl, rfl, List.prefix_rfl, Nat.le_refl _, Nat.le_refl _, Nat.le_refl _, id⟩, ?_⟩
  unfold SameExcept
  refine ⟨rfl, rfl, ?_, ?_, ?_, ?_, ?_, ?_, ?_, ?_, ?_, ?_, ?_, ?_, ?_, ?_, ?_, ?_, ?_, ?_, ?_, ?_, ?_, ?_, ?_, ?_, ?_, ?_⟩ <;> intro m <;>
    first | rfl | exact ⟨rfl, rfl⟩ | exact not_sub hm rfl m | exact hf _
theorem keeps_onTileW (f : TileSt → TileSt) (hm : Sub 6144 M) (h : Fr M s0 s) (hf : ∀ x, Memory.wf x.spad = true → Memory.wf (f x).spad = true) : Fr M s0 (onTile f s) := by
  refine keeps_trans h ⟨⟨rfl, rfl, List.prefix_rfl, Nat.le_refl _, Nat.le_refl _, Nat.le_refl _, fun m => ⟨m.1, hf _ m.2.1, m.2.2.1, m.2.2.2⟩⟩, ?_⟩
  unfold SameExcept
  refine ⟨rfl, rfl, ?_, ?_, ?_, ?_, ?_, ?_, ?_, ?_, ?_, ?_, ?_, ?_, ?_, ?_, ?_, ?_, ?_, ?_, ?_, ?_, ?_, ?_, ?_, ?_, ?_, ?_⟩ <;> intro m <;>
    first | rfl | exact ⟨rfl, rfl⟩ | exact not_sub hm rfl m | exact hf _
theorem keeps_onTile (f : TileSt → TileSt) (hm : Sub 2048 M) (h : Fr M s0 s) (hf : ∀ x, (f x).spad = x.spad) : Fr M s0 (onTile f s) := by
  refine keeps_trans h ⟨⟨rfl, rfl, List.prefix_rfl, Nat.le_refl _, Nat.le_refl _, Nat.le_refl _, fun m => ?_⟩, ?_⟩
  · obtain ⟨m1, m2, m3, m4⟩ := m
    refine ⟨?_, ?_, ?_, ?_⟩ <;> first | assumption | (show Memory.wf (f _).spad = true; rw [hf]; assumption)
  unfold SameExcept
  refine ⟨rfl, rfl, ?_, ?_, ?_, ?_, ?_, ?_, ?_, ?_, ?_, ?_, ?_, ?_, ?_, ?_, ?_, ?_, ?_, ?_, ?_, ?_, ?_, ?_, ?_, ?_, ?_, ?_⟩ <;> intro m <;>
    first | rfl | exact ⟨rfl, rfl⟩ | exact not_sub hm rfl m | exact hf _
theorem keeps_onMemW (f : MemSt → MemSt) (hm : Sub 24576 M) (h : Fr M s0 s) (hf : ∀ x, Memory.wf x.hbm = true → Memory.wf (f x).hbm = true) : Fr M s0 (onMem f s) := by
  refine keeps_trans h ⟨⟨rfl, rfl, List.prefix_rfl, Nat.le_refl _, Nat.le_refl _, Nat.le_refl _, fun m => ⟨hf _ m.1, m.2.1, m.2.2.1, m.2.2.2⟩⟩, ?_⟩
  unfold SameExcept
  refine ⟨rfl, rfl, ?_, ?_, ?_, ?_, ?_, ?_, ?_, ?_, ?_, ?_, ?_, ?_, ?_, ?_, ?_, ?_, ?_, ?_, ?_, ?_, ?_, ?_, ?_, ?_, ?_, ?_⟩ <;> intro m <;>
    first | rfl | exact ⟨rfl, rfl⟩ | exact not_sub hm rfl m | exact hf _
theorem keeps_onMem (f : MemSt → MemSt) (hm : Sub 8192 M) (h : Fr M s0 s) (hf : ∀ x, (f x).hbm = x.hbm) : Fr M s0 (onMem f s) := by
  refine keeps_trans h ⟨⟨rfl, rfl, List.prefix_rfl, Nat.le_refl _, Nat.le_refl _, Nat.le_refl _, fun m => ?_⟩, ?_⟩
  · obtain ⟨m1, m2, m3, m4⟩ := m
    refine ⟨?_, ?_, ?_, ?_⟩ <;> first | assumption | (show Memory.wf (f _).hbm = true; rw [hf]; assumption)
  unfold SameExcept
  refine ⟨rfl, rfl, ?_, ?_, ?_, ?_, ?_, ?_, ?_, ?_, ?_, ?_, ?_, ?_, ?_, ?_, ?_, ?_, ?_, ?_, ?_, ?_, ?_, ?_, ?_, ?_, ?_, ?_⟩ <;> intro m <;>
    first | rfl | exact ⟨rfl, rfl⟩ | exact not_sub hm rfl m | exact hf _
theorem keeps_onFlashW (f : FlashSt → FlashSt) (hm : Sub 786432 M) (h : Fr M s0 s) (hf : ∀ x, Memory.wf x.data = true → Memory.wf (f x).data = true) : Fr M s0 (onFlash f s) := by
  refine keeps_trans h ⟨⟨rfl, rfl, List.prefix_rfl, Nat.le_refl _, Nat.le_refl _, Nat.le_refl _, fun m => ⟨m.1, m.2.1, hf _ m.2.2.1, m.2.2.2⟩⟩, ?_⟩
  unfold SameExcept
  refine ⟨rfl, rfl, ?_, ?_, ?_, ?_, ?_, ?_, ?_, ?_, ?_, ?_, ?_, ?_, ?_, ?_, ?_, ?_, ?_, ?_, ?_, ?_, ?_, ?_, ?_, ?_, ?_, ?_⟩ <;> intro m <;>
    first | rfl | exact ⟨rfl, rfl⟩ | exact not_sub hm rfl m | exact hf _
theorem keeps_onFlash (f : FlashSt → FlashSt) (hm : Sub 262144 M) (h : Fr M s0 s) (hf : ∀ x, (f x).data = x.data) : Fr M s0 (onFlash f s) := by
  refine keeps_trans h ⟨⟨rfl, rfl, List.prefix_rfl, Nat.le_refl _, Nat.le_refl _, Nat.le_refl _, fun m => ?_⟩, ?_⟩
  · obtain ⟨m1, m2, m3, m4⟩ := m
    refine ⟨?_, ?_, ?_, ?_⟩ <;> first | assumption | (show Memory.wf (f _).data = true; rw [hf]; assumption)
  unfold SameExcept
  refine ⟨rfl, rfl, ?_, ?_, ?_, ?_, ?_, ?_, ?_, ?_, ?_, ?_, ?_, ?_, ?_, ?_, ?_, ?_, ?_, ?_, ?_, ?_, ?_, ?_, ?_, ?_, ?_, ?_⟩ <;> intro m <;>
    first | rfl | exact ⟨rfl, rfl⟩ | exact not_sub hm rfl m | exact hf _
theorem keeps_onSys (f : SysSt → SysSt) (hm : Sub 1 M) (h : Fr M s0 s) (hf : ∀ x, x.floor ≤ (f x).floor) : Fr M s0 (onSys f s) := by
  refine keeps_trans h ⟨⟨rfl, rfl, List.prefix_rfl, Nat.le_refl _, Nat.le_refl _, hf _, id⟩, ?_⟩
  unfold SameExcept
  refine ⟨rfl, rfl, ?_, ?_, ?_, ?_, ?_, ?_, ?_, ?_, ?_, ?_, ?_, ?_, ?_, ?_, ?_, ?_, ?_, ?_, ?_, ?_, ?_, ?_, ?_, ?_, ?_, ?_⟩ <;> intro m <;>
    first | rfl | exact ⟨rfl, rfl⟩ | exact not_sub hm rfl m
theorem keeps_onSysAt (f : SysSt → SysSt) (hm : Sub 1 M) (h : Fr M s0 s) (hf : s.sys.floor ≤ (f s.sys).floor) : Fr M s0 (onSys f s) := by
  refine keeps_trans h ⟨⟨rfl, rfl, List.prefix_rfl, Nat.le_refl _, Nat.le_refl _, hf, id⟩, ?_⟩
  unfold SameExcept
  refine ⟨rfl, rfl, ?_, ?_, ?_, ?_, ?_, ?_, ?_, ?_, ?_, ?_, ?_, ?_, ?_, ?_, ?_, ?_, ?_, ?_, ?_, ?_, ?_, ?_, ?_, ?_, ?_, ?_⟩ <;> intro m <;>
    first | rfl | exact ⟨rfl, rfl⟩ | exact not_sub hm rfl m
theorem keeps_onFlt (f : FltSt → FltSt) (hm : Sub 32 M) (h : Fr M s0 s) (hf : ∀ x, Memory.wf x.sram = true → Memory.wf (f x).sram = true) : Fr M s0 (onFlt f s) := by
  refine keeps_trans h ⟨⟨rfl, rfl, List.prefix_rfl, Nat.le_refl _, Nat.le_refl _, Nat.le_refl _, fun m => ⟨m.1, m.2.1, m.2.2.1, hf _ m.2.2.2⟩⟩, ?_⟩
  unfold SameExcept
  refine ⟨rfl, rfl, ?_, ?_, ?_, ?_, ?_, ?_, ?_, ?_, ?_, ?_, ?_, ?_, ?_, ?_, ?_, ?_, ?_, ?_, ?_, ?_, ?_, ?_, ?_, ?_, ?_, ?_⟩ <;> intro m <;>
    first | rfl | exact ⟨rfl, rfl⟩ | exact not_sub hm rfl m

theorem keeps_forEach {α : Type} (l : List α) (f : α → State → State) (hf : ∀ x t, Fr M s0 t → Fr M s0 (f x t)) (h : Fr M s0 s) :
    Fr M s0 (forEach l f s) := by
  unfold forEach
  induction l generalizing s with
  | nil => exact h
  | cons x r ih => exact ih (hf x s h)
theorem keeps_foldl {α : Type} (l : List α) (f : State → α → State) (hf : ∀ t x, Fr M s0 t → Fr M s0 (f t x)) (h : Fr M s0 s) :
    Fr M s0 (l.foldl f s) := by
  induction l generalizing s with
  | nil => exact h
  | cons x r ih => exact ih (hf s x h)
theorem keeps_foldlSnd {α β : Type} (l : List α) (f : β × State → α → β × State) (b : β × State)
    (hf : ∀ p x, Fr M s0 p.2 → Fr M s0 (f p x).2) (h : Fr M s0 b.2) : Fr M s0 (l.foldl f b).2 := by
  induction l generalizing b with
  | nil => exact h
  | cons x r ih => exact ih (f b x) (hf b x h)
theorem keeps_foldlThd {α β γ : Type} (l : List α) (f : β × γ × State → α → β × γ × State) (b : β × γ × State)
    (hf : ∀ p x, Fr M s0 p.2.2 → Fr M s0 (f p x).2.2) (h : Fr M s0 b.2.2) : Fr M s0 (l.foldl f b).2.2 := by
  induction l generalizing b with
  | nil => exact h
  | cons x r ih => exact ih (f b x) (hf b x h)
theorem keeps_whenS (b : Bool) (f : State → State) (hf : ∀ t, Fr M s0 t → Fr M s0 (f t)) (h : Fr M s0 s) :
    Fr M s0 (whenS b f s) := by
  unfold whenS; split
  · exact hf s h
  · exact h

/-- Every state that an operation which may decline answers with keeps what may not be undone. -/
def KeepsO (M : Nat) (s0 : State) (o : Option State) : Prop := ∀ t, o = some t → Fr M s0 t
/-- The same, where the operation answers something beside the state. -/
def KeepsP (M : Nat) {α : Type} (s0 : State) (o : Option (α × State)) : Prop := ∀ a t, o = some (a, t) → Fr M s0 t

theorem keepsO_some {t : State} (h : Fr M s0 t) : KeepsO M s0 (some t) := fun _ e => Option.some.inj e ▸ h
theorem keepsO_none : KeepsO M s0 none := fun _ e => nomatch e
theorem keepsO_get {o : Option State} {t : State} (e : o = some t) (h : KeepsO M s0 o) : Fr M s0 t := h t e
theorem keepsO_map {o : Option State} {f : State → State} (h : KeepsO M s0 o) (hf : ∀ t, Fr M s0 t → Fr M s0 (f t)) :
    KeepsO M s0 (o.map f) := by
  cases o with
  | none => exact keepsO_none
  | some t => exact keepsO_some (hf t (h t rfl))
theorem keepsO_mapOf {α : Type} {o : Option α} {f : α → State} (hf : ∀ a, Fr M s0 (f a)) : KeepsO M s0 (o.map f) := by
  cases o with
  | none => exact keepsO_none
  | some a => exact keepsO_some (hf a)
theorem keepsO_bind {α : Type} {o : Option α} {f : α → Option State} (hf : ∀ a, KeepsO M s0 (f a)) : KeepsO M s0 (o.bind f) := by
  cases o with
  | none => exact keepsO_none
  | some a => exact hf a
theorem keepsO_orElse {o p : Option State} (h : KeepsO M s0 o) (g : KeepsO M s0 p) : KeepsO M s0 (o.or p) := by
  cases o with
  | none => exact g
  | some t => exact keepsO_some (h t rfl)
theorem keepsP_some {α : Type} {a : α} {t : State} (h : Fr M s0 t) : KeepsP M s0 (some (a, t)) := by
  intro b u e; cases e; exact h
theorem keepsP_none {α : Type} : KeepsP (α := α) M s0 none := fun _ _ e => nomatch e
theorem keepsP_get {α : Type} {o : Option (α × State)} {a : α} {t : State} (e : o = some (a, t)) (h : KeepsP M s0 o) : Fr M s0 t :=
  h a t e
theorem keepsO_mapP {α : Type} {o : Option (α × State)} {f : α × State → State} (h : KeepsP M s0 o)
    (hf : ∀ p, Fr M s0 p.2 → Fr M s0 (f p)) : KeepsO M s0 (o.map f) := by
  cases o with
  | none => exact keepsO_none
  | some p => exact keepsO_some (hf p (h p.1 p.2 rfl))
/-- Every next state of an outcome keeps what may not be undone. -/
def KeepsX (M : Nat) (s0 : State) (o : Host.Outcome State Fault Refusal) : Prop := ∀ t, o = .next t → Fr M s0 t
/-- The same, of an outcome that need not be there. -/
def KeepsXO (M : Nat) (s0 : State) (x : Option (Host.Outcome State Fault Refusal)) : Prop := ∀ o, x = some o → KeepsX M s0 o

theorem keepsX_next {t : State} (h : Fr M s0 t) : KeepsX M s0 (.next t) := by intro u e; cases e; exact h
theorem keepsX_fault {f : Fault} : KeepsX M s0 (.fault f) := fun _ e => nomatch e
theorem keepsX_refused {r : Refusal} : KeepsX M s0 (.refused r) := fun _ e => nomatch e
theorem keepsX_get {o : Host.Outcome State Fault Refusal} {t : State} (e : o = .next t) (h : KeepsX M s0 o) : Fr M s0 t := h t e
theorem keepsXO_some {o : Host.Outcome State Fault Refusal} (h : KeepsX M s0 o) : KeepsXO M s0 (some o) := by
  intro u e; cases e; exact h
theorem keepsXO_none : KeepsXO M s0 none := fun _ e => nomatch e
theorem keepsXO_get {x : Option (Host.Outcome State Fault Refusal)} {o : Host.Outcome State Fault Refusal} (e : x = some o)
    (h : KeepsXO M s0 x) : KeepsX M s0 o := h o e
theorem keepsXO_orElse {x : Option (Host.Outcome State Fault Refusal)} {y : Unit → Option (Host.Outcome State Fault Refusal)}
    (h : KeepsXO M s0 x) (g : ∀ u, KeepsXO M s0 (y u)) : KeepsXO M s0 (x.orElse y) := by
  cases x with
  | none => exact g ()
  | some o => exact h
theorem keeps_snd {α : Type} {x : α × State} {a : α} {t : State} (e : x = (a, t)) (h : Fr M s0 x.2) : Fr M s0 t := by
  rw [e] at h; exact h
theorem keeps_fst {α : Type} {x : State × α} {a : α} {t : State} (e : x = (t, a)) (h : Fr M s0 x.1) : Fr M s0 t := by
  rw [e] at h; exact h
theorem keeps_getD {o : Option State} {d : State} (hf : KeepsO M s0 o) (h : Fr M s0 d) : Fr M s0 (o.getD d) := by
  cases o with
  | none => exact h
  | some t => exact hf t rfl
theorem keeps_elim {α : Type} {o : Option α} {d : State} {f : α → State} (hf : ∀ t, Fr M s0 (f t)) (h : Fr M s0 d) :
    Fr M s0 (o.elim d f) := by
  cases o with
  | none => exact h
  | some t => exact hf t

end Sys2Proof.Machine
end

