-- ==== Sys2Proof/Laws/KeepsShared.lean ====
section
/-! SUPPORT. What the operations that every chapter shares can change, one lemma per definition: nothing outside the parts given, and nothing that may not be
undone. -/

set_option Elab.async false

namespace Sys2Proof.Machine

set_option linter.all false
variable {M : Nat} {s0 : State}

/-! ### Ops -/

theorem keeps_irq (hm : Sub 8388608 M) (v : Nat) (s : State) (hk : Fr M s0 s) :
    Fr M s0 (irq v s) := by
  unfold irq
  repeat' (first
    | with_reducible assumption
    | with_reducible apply keeps_emit
    | ((with_reducible refine sub_of hm ?_); exact rfl)
    | with_reducible exact Nat.le_refl _
    | with_reducible rfl
    | with_reducible exact ⟨rfl, rfl, rfl⟩
    | with_reducible intro _
    | split
    | dsimp only)

theorem keeps_onLane (hm : Sub 128 M) (l : Nat) (f : Lane → Lane) (s : State) (hk : Fr M s0 s) :
    Fr M s0 (onLane l f s) := by
  unfold onLane
  repeat' (first
    | with_reducible assumption
    | with_reducible apply keeps_onNetR
    | ((with_reducible refine sub_of hm ?_); exact rfl)
    | with_reducible exact Nat.le_refl _
    | with_reducible rfl
    | with_reducible exact ⟨rfl, rfl, rfl⟩
    | with_reducible intro _
    | split
    | dsimp only)

theorem keeps_onLink (hm : Sub 128 M) (l : Nat) (f : Link → Link) (s : State) (hk : Fr M s0 s) :
    Fr M s0 (onLink l f s) := by
  unfold onLink
  repeat' (first
    | with_reducible assumption
    | with_reducible apply keeps_onNetR
    | ((with_reducible refine sub_of hm ?_); exact rfl)
    | with_reducible exact Nat.le_refl _
    | with_reducible rfl
    | with_reducible exact ⟨rfl, rfl, rfl⟩
    | with_reducible intro _
    | split
    | dsimp only)

theorem keeps_onPort (hm : Sub 6291456 M) (p : Nat) (f : PortCfg → PortCfg) (s : State) (hk : Fr M s0 s) :
    Fr M s0 (onPort p f s) := by
  unfold onPort
  repeat' (first
    | with_reducible assumption
    | with_reducible apply keeps_modSet
    | ((with_reducible refine sub_of hm ?_); exact rfl)
    | with_reducible exact Nat.le_refl _
    | with_reducible rfl
    | with_reducible exact ⟨rfl, rfl, rfl⟩
    | with_reducible intro _
    | split
    | dsimp only)

theorem keeps_onTileU (hm : Sub 2048 M) (t : Nat) (f : Tile → Tile) (s : State) (hk : Fr M s0 s) :
    Fr M s0 (onTileU t f s) := by
  unfold onTileU
  repeat' (first
    | with_reducible assumption
    | with_reducible apply keeps_onTile
    | ((with_reducible refine sub_of hm ?_); exact rfl)
    | with_reducible exact Nat.le_refl _
    | with_reducible rfl
    | with_reducible exact ⟨rfl, rfl, rfl⟩
    | with_reducible intro _
    | split
    | dsimp only)

theorem keeps_onSrc (hm : Sub 32 M) (id : Nat) (f : Source → Source) (s : State) (hk : Fr M s0 s) :
    Fr M s0 (onSrc id f s) := by
  unfold onSrc
  repeat' (first
    | with_reducible assumption
    | with_reducible apply keeps_onFlt
    | ((with_reducible refine sub_of hm ?_); exact rfl)
    | with_reducible exact Nat.le_refl _
    | with_reducible rfl
    | with_reducible exact ⟨rfl, rfl, rfl⟩
    | with_reducible intro _
    | split
    | dsimp only)

theorem keeps_onRing (hm : Sub 8 M) (r : Nat) (f : Ring → Ring) (s : State) (hk : Fr M s0 s) :
    Fr M s0 (onRing r f s) := by
  unfold onRing
  repeat' (first
    | with_reducible assumption
    | with_reducible apply keeps_onCmdR
    | ((with_reducible refine sub_of hm ?_); exact rfl)
    | with_reducible exact Nat.le_refl _
    | with_reducible rfl
    | with_reducible exact ⟨rfl, rfl, rfl⟩
    | with_reducible intro _
    | split
    | dsimp only)

theorem keeps_evrInt (hm : Sub 8388640 M) (s : State) (hk : Fr M s0 s) :
    Fr M s0 (evrInt s) := by
  unfold evrInt
  repeat' (first
    | with_reducible assumption
    | with_reducible apply keeps_onFlt
    | with_reducible apply keeps_whenS
    | with_reducible apply keeps_irq
    | ((with_reducible refine sub_of hm ?_); exact rfl)
    | with_reducible exact Nat.le_refl _
    | with_reducible rfl
    | with_reducible exact ⟨rfl, rfl, rfl⟩
    | with_reducible intro _
    | split
    | dsimp only)

theorem keeps_evrDrop (hm : Sub 32 M) (code : Nat) (s : State) (hk : Fr M s0 s) :
    Fr M s0 (evrDrop code s) := by
  unfold evrDrop
  repeat' (first
    | with_reducible assumption
    | with_reducible apply keeps_onFlt
    | ((with_reducible refine sub_of hm ?_); exact rfl)
    | with_reducible exact Nat.le_refl _
    | with_reducible rfl
    | with_reducible exact ⟨rfl, rfl, rfl⟩
    | with_reducible intro _
    | split
    | dsimp only)

theorem keeps_evrWrite (hm : Sub 8388640 M) (code src : Nat) (items : List (Nat × Nat)) (s : State) (hk : Fr M s0 s) :
    Fr M s0 (evrWrite code src items s) := by
  unfold evrWrite
  repeat' (first
    | with_reducible assumption
    | with_reducible apply keeps_onFlt
    | with_reducible apply keeps_whenS
    | with_reducible apply keeps_evrInt
    | with_reducible exact memWrite_wf _ _ _ ‹_›
    | ((with_reducible refine sub_of hm ?_); exact rfl)
    | with_reducible exact Nat.le_refl _
    | with_reducible rfl
    | with_reducible exact ⟨rfl, rfl, rfl⟩
    | with_reducible intro _
    | split
    | dsimp only)

theorem keeps_recordSrc (hm : Sub 8388640 M) (code src : Nat) (items : List (Nat × Nat)) (s : State) (hk : Fr M s0 s) :
    Fr M s0 (recordSrc code src items s) := by
  unfold recordSrc
  repeat' (first
    | with_reducible assumption
    | with_reducible apply keeps_onFlt
    | with_reducible apply keeps_evrDrop
    | with_reducible apply keeps_evrWrite
    | ((with_reducible refine sub_of hm ?_); exact rfl)
    | with_reducible exact Nat.le_refl _
    | with_reducible rfl
    | with_reducible exact ⟨rfl, rfl, rfl⟩
    | with_reducible intro _
    | split
    | dsimp only)

theorem keeps_record (hm : Sub 8388640 M) (code : Nat) (items : List (Nat × Nat)) (s : State) (hk : Fr M s0 s) :
    Fr M s0 (record code items s) := by
  unfold record
  repeat' (first
    | with_reducible assumption
    | with_reducible apply keeps_recordSrc
    | ((with_reducible refine sub_of hm ?_); exact rfl)
    | with_reducible exact Nat.le_refl _
    | with_reducible rfl
    | with_reducible exact ⟨rfl, rfl, rfl⟩
    | with_reducible intro _
    | split
    | dsimp only)

theorem keeps_evrRestart (hm : Sub 8388640 M) (s : State) (hk : Fr M s0 s) :
    Fr M s0 (evrRestart s) := by
  unfold evrRestart
  repeat' (first
    | with_reducible assumption
    | with_reducible apply keeps_onFlt
    | with_reducible apply keeps_record
    | with_reducible exact memNil_wf
    | ((with_reducible refine sub_of hm ?_); exact rfl)
    | with_reducible exact Nat.le_refl _
    | with_reducible rfl
    | with_reducible exact ⟨rfl, rfl, rfl⟩
    | with_reducible intro _
    | split
    | dsimp only)

theorem keeps_report (hm : Sub 8388640 M) (src kind : Nat) (s : State) (hk : Fr M s0 s) :
    Fr M s0 (report src kind s) := by
  unfold report
  repeat' (first
    | with_reducible assumption
    | with_reducible apply keeps_emit
    | with_reducible apply keeps_onFlt
    | ((with_reducible refine sub_of hm ?_); exact rfl)
    | with_reducible exact Nat.le_refl _
    | with_reducible rfl
    | with_reducible exact ⟨rfl, rfl, rfl⟩
    | with_reducible intro _
    | split
    | dsimp only)

theorem keeps_envEvent (hm : Sub 8388672 M) (b : Nat) (s : State) (hk : Fr M s0 s) :
    Fr M s0 (envEvent b s) := by
  unfold envEvent
  repeat' (first
    | with_reducible assumption
    | with_reducible apply keeps_onEnv
    | with_reducible apply keeps_whenS
    | with_reducible apply keeps_irq
    | ((with_reducible refine sub_of hm ?_); exact rfl)
    | with_reducible exact Nat.le_refl _
    | with_reducible rfl
    | with_reducible exact ⟨rfl, rfl, rfl⟩
    | with_reducible intro _
    | split
    | dsimp only)

theorem keeps_setBallast (hm : Sub 64 M) (w : Nat) (s : State) (hk : Fr M s0 s) :
    Fr M s0 (setBallast w s) := by
  unfold setBallast
  repeat' (first
    | with_reducible assumption
    | with_reducible apply keeps_onEnv
    | ((with_reducible refine sub_of hm ?_); exact rfl)
    | with_reducible exact Nat.le_refl _
    | with_reducible rfl
    | with_reducible exact ⟨rfl, rfl, rfl⟩
    | with_reducible intro _
    | split
    | dsimp only)

theorem keeps_floorMissed (hm : Sub 8388704 M) (s : State) (hk : Fr M s0 s) :
    Fr M s0 (floorMissed s) := by
  unfold floorMissed
  repeat' (first
    | with_reducible assumption
    | with_reducible apply keeps_record
    | with_reducible apply keeps_envEvent
    | ((with_reducible refine sub_of hm ?_); exact rfl)
    | with_reducible exact Nat.le_refl _
    | with_reducible rfl
    | with_reducible exact ⟨rfl, rfl, rfl⟩
    | with_reducible intro _
    | split
    | dsimp only)

theorem keeps_journalE (hm : Sub 9437192 M) (e : JEntry) (s : State) (hk : Fr M s0 s) :
    Fr M s0 (journalE e s) := by
  unfold journalE
  repeat' (first
    | with_reducible assumption
    | with_reducible apply keeps_emit
    | with_reducible apply keeps_onCmdR
    | with_reducible apply keeps_onGemel
    | with_reducible apply keeps_whenS
    | ((with_reducible refine sub_of hm ?_); exact rfl)
    | with_reducible exact Nat.le_refl _
    | with_reducible rfl
    | with_reducible exact ⟨rfl, rfl, rfl⟩
    | with_reducible intro _
    | split
    | dsimp only)

theorem keeps_journalOwn (hm : Sub 9437192 M) (tag : Nat) (param : List Byte) (s : State) (hk : Fr M s0 s) :
    Fr M s0 (journalOwn tag param s) := by
  unfold journalOwn
  repeat' (first
    | with_reducible assumption
    | with_reducible apply keeps_journalE
    | ((with_reducible refine sub_of hm ?_); exact rfl)
    | with_reducible exact Nat.le_refl _
    | with_reducible rfl
    | with_reducible exact ⟨rfl, rfl, rfl⟩
    | with_reducible intro _
    | split
    | dsimp only)

theorem keeps_sendCapsule (hm : Sub 8390144 M) (xp sess dst : Nat) (b : List Byte) (s : State) (hk : Fr M s0 s) :
    Fr M s0 (sendCapsule xp sess dst b s) := by
  unfold sendCapsule
  repeat' (first
    | with_reducible assumption
    | with_reducible apply keeps_emit
    | with_reducible apply keeps_onCore
    | with_reducible apply keeps_getD
    | ((with_reducible refine sub_of hm ?_); exact rfl)
    | with_reducible exact Nat.le_refl _
    | with_reducible rfl
    | with_reducible exact ⟨rfl, rfl, rfl⟩
    | with_reducible intro _
    | split
    | dsimp only)

theorem keeps_postHost (hm : Sub 8388616 M) (r : Nat) (c : Cpl) (s : State) (hk : Fr M s0 s) :
    Fr M s0 (postHost r c s) := by
  unfold postHost
  repeat' (first
    | with_reducible assumption
    | with_reducible apply keeps_emit
    | with_reducible apply keeps_irq
    | with_reducible apply keeps_onRing
    | ((with_reducible refine sub_of hm ?_); exact rfl)
    | with_reducible exact Nat.le_refl _
    | with_reducible rfl
    | with_reducible exact ⟨rfl, rfl, rfl⟩
    | with_reducible intro _
    | split
    | dsimp only)

theorem keeps_postSess (hm : Sub 8390152 M) (r : RingId) (c : Cpl) (result : List Byte) (cseqs : List Nat) (s : State) (hk : Fr M s0 s) :
    Fr M s0 (postSess r c result cseqs s) := by
  unfold postSess
  repeat' (first
    | with_reducible assumption
    | with_reducible apply keeps_emit
    | with_reducible apply keeps_onCmdR
    | with_reducible apply keeps_forEach
    | with_reducible apply keeps_sendCapsule
    | ((with_reducible refine sub_of hm ?_); exact rfl)
    | with_reducible exact Nat.le_refl _
    | with_reducible rfl
    | with_reducible exact ⟨rfl, rfl, rfl⟩
    | with_reducible intro _
    | split
    | dsimp only)

theorem keeps_post (hm : Sub 8390152 M) (r : RingId) (client : Client) (c : Cpl) (result : List Byte) (dst : Nat) (cseqs : List Nat) (s : State) (hk : Fr M s0 s) :
    Fr M s0 (post r client c result dst cseqs s) := by
  unfold post
  repeat' (first
    | with_reducible assumption
    | with_reducible apply keeps_emit
    | with_reducible apply keeps_onCmdR
    | with_reducible apply keeps_whenS
    | with_reducible apply keeps_postHost
    | with_reducible apply keeps_postSess
    | ((with_reducible refine sub_of hm ?_); exact rfl)
    | with_reducible exact Nat.le_refl _
    | with_reducible rfl
    | with_reducible exact ⟨rfl, rfl, rfl⟩
    | with_reducible intro _
    | split
    | dsimp only)

theorem keeps_postOwed (hm : Sub 8390152 M) (r : RingId) (s : State) (hk : Fr M s0 s) :
    Fr M s0 (postOwed r s) := by
  unfold postOwed
  repeat' (first
    | with_reducible assumption
    | with_reducible apply keeps_onCmdR
    | with_reducible apply keeps_forEach
    | with_reducible apply keeps_post
    | ((with_reducible refine sub_of hm ?_); exact rfl)
    | with_reducible exact Nat.le_refl _
    | with_reducible rfl
    | with_reducible exact ⟨rfl, rfl, rfl⟩
    | with_reducible intro _
    | split
    | dsimp only)

theorem keeps_onTicket (hm : Sub 14 M) (tk : Nat) (f : Ticket → Ticket) (s : State) (hk : Fr M s0 s) :
    Fr M s0 (onTicket tk f s) := by
  unfold onTicket
  repeat' (first
    | with_reducible assumption
    | with_reducible apply keeps_onCmd
    | ((with_reducible refine sub_of hm ?_); exact rfl)
    | with_reducible exact Nat.le_refl _
    | with_reducible rfl
    | with_reducible exact ⟨rfl, rfl, rfl⟩
    | with_reducible intro _
    | split
    | dsimp only)

theorem keeps_setOst (hm : Sub 9437198 M) (tk : Nat) (o : OState) (s : State) (hk : Fr M s0 s) :
    Fr M s0 (setOst tk o s) := by
  unfold setOst
  repeat' (first
    | with_reducible assumption
    | with_reducible apply keeps_journalOwn
    | with_reducible apply keeps_onTicket
    | ((with_reducible refine sub_of hm ?_); exact rfl)
    | with_reducible exact Nat.le_refl _
    | with_reducible rfl
    | with_reducible exact ⟨rfl, rfl, rfl⟩
    | with_reducible intro _
    | split
    | dsimp only)

theorem keeps_postFinal (hm : Sub 8390158 M) (tk : Nat) (st : CStatus) (reason : Nat) (s : State) (hk : Fr M s0 s) :
    Fr M s0 (postFinal tk st reason s) := by
  unfold postFinal
  repeat' (first
    | with_reducible assumption
    | with_reducible apply keeps_onCmdR
    | with_reducible apply keeps_post
    | with_reducible apply keeps_onTicket
    | ((with_reducible refine sub_of hm ?_); exact rfl)
    | with_reducible exact Nat.le_refl _
    | with_reducible rfl
    | with_reducible exact ⟨rfl, rfl, rfl⟩
    | with_reducible intro _
    | split
    | dsimp only)

theorem keeps_endTicket (hm : Sub 9438734 M) (tk : Nat) (o : OState) (st : CStatus) (reason : Nat) (s : State) (hk : Fr M s0 s) :
    Fr M s0 (endTicket tk o st reason s) := by
  unfold endTicket
  repeat' (first
    | with_reducible assumption
    | with_reducible apply keeps_onCmdR
    | with_reducible apply keeps_onTicket
    | with_reducible apply keeps_setOst
    | with_reducible apply keeps_postFinal
    | ((with_reducible refine sub_of hm ?_); exact rfl)
    | with_reducible exact Nat.le_refl _
    | with_reducible rfl
    | with_reducible exact ⟨rfl, rfl, rfl⟩
    | with_reducible intro _
    | split
    | dsimp only)

theorem keeps_ticketDone (hm : Sub 9438734 M) (tk : Nat) (s : State) (hk : Fr M s0 s) :
    Fr M s0 (ticketDone tk s) := by
  unfold ticketDone
  repeat' (first
    | with_reducible assumption
    | with_reducible apply keeps_endTicket
    | ((with_reducible refine sub_of hm ?_); exact rfl)
    | with_reducible exact Nat.le_refl _
    | with_reducible rfl
    | with_reducible exact ⟨rfl, rfl, rfl⟩
    | with_reducible intro _
    | split
    | dsimp only)

theorem keeps_ticketFail (hm : Sub 9438734 M) (tk reason : Nat) (s : State) (hk : Fr M s0 s) :
    Fr M s0 (ticketFail tk reason s) := by
  unfold ticketFail
  repeat' (first
    | with_reducible assumption
    | with_reducible apply keeps_endTicket
    | ((with_reducible refine sub_of hm ?_); exact rfl)
    | with_reducible exact Nat.le_refl _
    | with_reducible rfl
    | with_reducible exact ⟨rfl, rfl, rfl⟩
    | with_reducible intro _
    | split
    | dsimp only)

theorem keeps_ticketResult (hm : Sub 14 M) (tk : Nat) (bs : List Byte) (s : State) (hk : Fr M s0 s) :
    Fr M s0 (ticketResult tk bs s) := by
  unfold ticketResult
  repeat' (first
    | with_reducible assumption
    | with_reducible apply keeps_onTicket
    | ((with_reducible refine sub_of hm ?_); exact rfl)
    | with_reducible exact Nat.le_refl _
    | with_reducible rfl
    | with_reducible exact ⟨rfl, rfl, rfl⟩
    | with_reducible intro _
    | split
    | dsimp only)

/-! ### Onreham -/

theorem keeps_takeCmd (hm : Sub 8 M) (q : Req) (s : State) (hk : Fr M s0 s) :
    Fr M s0 (takeCmd q s) := by
  unfold takeCmd
  repeat' (first
    | with_reducible assumption
    | with_reducible apply keeps_onCmdR
    | with_reducible apply keeps_onRing
    | ((with_reducible refine sub_of hm ?_); exact rfl)
    | with_reducible exact Nat.le_refl _
    | with_reducible rfl
    | with_reducible exact ⟨rfl, rfl, rfl⟩
    | with_reducible intro _
    | split
    | dsimp only)

theorem keeps_histAdd (hm : Sub 14 M) (e : JEntry) (s : State) (hk : Fr M s0 s) :
    Fr M s0 (histAdd e s) := by
  unfold histAdd
  repeat' (first
    | with_reducible assumption
    | with_reducible apply keeps_onCmd
    | ((with_reducible refine sub_of hm ?_); exact rfl)
    | with_reducible exact Nat.le_refl _
    | with_reducible rfl
    | with_reducible exact ⟨rfl, rfl, rfl⟩
    | with_reducible intro _
    | split
    | dsimp only)

theorem keeps_complete (hm : Sub 8390152 M) (c : CmdSpec) (q : Req) (cl : Client) (slot : Nat) (seqs : List Nat) (st : CStatus) (reason tk : Nat) (res : List Byte) (s : State) (hk : Fr M s0 s) :
    Fr M s0 (complete c q cl slot seqs st reason tk res s) := by
  unfold complete
  repeat' (first
    | with_reducible assumption
    | with_reducible apply keeps_post
    | ((with_reducible refine sub_of hm ?_); exact rfl)
    | with_reducible exact Nat.le_refl _
    | with_reducible rfl
    | with_reducible exact ⟨rfl, rfl, rfl⟩
    | with_reducible intro _
    | split
    | dsimp only)

theorem keeps_commit (hm : Sub 9438734 M) (c : CmdSpec) (apply : State → State × List Byte) (jnl : Bool) (q : Req) (cl : Client) (slot : Nat) (seqs : List Nat) (s : State) (hf_apply : ∀ x0, Fr M s0 x0 → Fr M s0 (apply x0).1) (hk : Fr M s0 s) :
    Fr M s0 (commit c apply jnl q cl slot seqs s) := by
  unfold commit
  repeat' (first
    | with_reducible assumption
    | with_reducible apply keeps_onCmd
    | with_reducible apply keeps_whenS
    | with_reducible apply keeps_journalE
    | with_reducible apply keeps_histAdd
    | with_reducible apply keeps_complete
    | with_reducible apply hf_apply
    | with_reducible refine keeps_fst ‹_› ?_
    | ((with_reducible refine sub_of hm ?_); exact rfl)
    | with_reducible exact Nat.le_refl _
    | with_reducible rfl
    | with_reducible exact ⟨rfl, rfl, rfl⟩
    | with_reducible intro _
    | split
    | dsimp only)

theorem keeps_replayCmd (hm : Sub 8390152 M) (e : JEntry) (q : Req) (cl : Client) (seqs : List Nat) (s : State) (hk : Fr M s0 s) :
    Fr M s0 (replayCmd e q cl seqs s) := by
  unfold replayCmd
  repeat' (first
    | with_reducible assumption
    | with_reducible apply keeps_post
    | ((with_reducible refine sub_of hm ?_); exact rfl)
    | with_reducible exact Nat.le_refl _
    | with_reducible rfl
    | with_reducible exact ⟨rfl, rfl, rfl⟩
    | with_reducible intro _
    | split
    | dsimp only)

theorem keeps_runCommand (hm : Sub 9438734 M) (c : CmdSpec) (lenOk : Bool) (priv : Nat) (chk : Option Nat) (refRes : List Byte) (apply : State → State × List Byte) (q : Req) (s : State) (hf_apply : ∀ x0, Fr M s0 x0 → Fr M s0 (apply x0).1) (hk : Fr M s0 s) :
    Fr M s0 (runCommand c lenOk priv chk refRes apply q s) := by
  unfold runCommand
  repeat' (first
    | with_reducible assumption
    | with_reducible apply keeps_onCmdR
    | with_reducible apply keeps_journalE
    | with_reducible apply keeps_takeCmd
    | with_reducible apply keeps_complete
    | with_reducible apply keeps_commit
    | with_reducible apply keeps_replayCmd
    | with_reducible apply hf_apply
    | with_reducible refine keeps_fst ‹_› ?_
    | ((with_reducible refine sub_of hm ?_); exact rfl)
    | with_reducible exact Nat.le_refl _
    | with_reducible rfl
    | with_reducible exact ⟨rfl, rfl, rfl⟩
    | with_reducible intro _
    | split
    | dsimp only)

theorem keeps_plain (hm : Sub 9438734 M) (op : Nat) (chk : Option Nat) (apply : State → State × List Byte) (q : Req) (s : State) (hf_apply : ∀ x0, Fr M s0 x0 → Fr M s0 (apply x0).1) (hk : Fr M s0 s) :
    Fr M s0 (plain op chk apply q s) := by
  unfold plain
  repeat' (first
    | with_reducible assumption
    | with_reducible apply keeps_runCommand
    | with_reducible apply hf_apply
    | with_reducible refine keeps_fst ‹_› ?_
    | ((with_reducible refine sub_of hm ?_); exact rfl)
    | with_reducible exact Nat.le_refl _
    | with_reducible rfl
    | with_reducible exact ⟨rfl, rfl, rfl⟩
    | with_reducible intro _
    | split
    | dsimp only)

theorem keeps_act (hm : Sub 0 M) (f : State → State) (hf : ∀ t, Fr M s0 t → Fr M s0 (f t)) (s : State) (h : Fr M s0 s) : Fr M s0 (act f s).1 := hf s h

theorem keeps_ans (hm : Sub 0 M) (f : State → List Byte) (s : State) (h : Fr M s0 s) : Fr M s0 (ans f s).1 := h

theorem keeps_longOp (hm : Sub 9438734 M) (op : Nat) (priv : Nat) (lenOk : Bool) (chk : Option Nat) (q : Req) (s : State) (hk : Fr M s0 s) :
    Fr M s0 (longOp op priv lenOk chk q s) := by
  unfold longOp
  repeat' (first
    | with_reducible assumption
    | with_reducible apply keeps_runCommand
    | ((with_reducible refine sub_of hm ?_); exact rfl)
    | with_reducible exact Nat.le_refl _
    | with_reducible rfl
    | with_reducible exact ⟨rfl, rfl, rfl⟩
    | with_reducible intro _
    | split
    | dsimp only)

/-! ### Cells -/

theorem keeps_onDie (hm : Sub 1024 M) (d : Nat) (f : Die → Die) (s : State) (hk : Fr M s0 s) :
    Fr M s0 (onDie d f s) := by
  unfold onDie
  repeat' (first
    | with_reducible assumption
    | with_reducible apply keeps_onCoreD
    | ((with_reducible refine sub_of hm ?_); exact rfl)
    | with_reducible exact Nat.le_refl _
    | with_reducible rfl
    | with_reducible exact ⟨rfl, rfl, rfl⟩
    | with_reducible intro _
    | split
    | dsimp only)

theorem keeps_allocCells (hm : Sub 1024 M) (d req n owner : Nat) (s : State) (hk : Fr M s0 s) :
    KeepsP M s0 (allocCells d req n owner s) := by
  unfold allocCells
  repeat' (first
    | with_reducible assumption
    | with_reducible apply keeps_onDie
    | with_reducible apply keepsP_some
    | with_reducible exact keepsP_none
    | ((with_reducible refine sub_of hm ?_); exact rfl)
    | with_reducible exact Nat.le_refl _
    | with_reducible rfl
    | with_reducible exact ⟨rfl, rfl, rfl⟩
    | with_reducible intro _
    | split
    | dsimp only)

theorem keeps_coreReport (hm : Sub 8388640 M) (d kind : Nat) (s : State) (hk : Fr M s0 s) :
    Fr M s0 (coreReport d kind s) := by
  unfold coreReport
  repeat' (first
    | with_reducible assumption
    | with_reducible apply keeps_report
    | ((with_reducible refine sub_of hm ?_); exact rfl)
    | with_reducible exact Nat.le_refl _
    | with_reducible rfl
    | with_reducible exact ⟨rfl, rfl, rfl⟩
    | with_reducible intro _
    | split
    | dsimp only)

theorem keeps_freeCell (hm : Sub 8389664 M) (d k : Nat) (s : State) (hk : Fr M s0 s) :
    Fr M s0 (freeCell d k s) := by
  unfold freeCell
  repeat' (first
    | with_reducible assumption
    | with_reducible apply keeps_record
    | with_reducible apply keeps_onDie
    | with_reducible apply keeps_coreReport
    | ((with_reducible refine sub_of hm ?_); exact rfl)
    | with_reducible exact Nat.le_refl _
    | with_reducible rfl
    | with_reducible exact ⟨rfl, rfl, rfl⟩
    | with_reducible intro _
    | split
    | dsimp only)

theorem keeps_freeCells (hm : Sub 8389664 M) (d : Nat) (ks : List Nat) (s : State) (hk : Fr M s0 s) :
    Fr M s0 (freeCells d ks s) := by
  unfold freeCells
  repeat' (first
    | with_reducible assumption
    | with_reducible apply keeps_forEach
    | with_reducible apply keeps_freeCell
    | ((with_reducible refine sub_of hm ?_); exact rfl)
    | with_reducible exact Nat.le_refl _
    | with_reducible rfl
    | with_reducible exact ⟨rfl, rfl, rfl⟩
    | with_reducible intro _
    | split
    | dsimp only)

theorem keeps_retireCell (hm : Sub 8389664 M) (d k : Nat) (s : State) (hk : Fr M s0 s) :
    Fr M s0 (retireCell d k s) := by
  unfold retireCell
  repeat' (first
    | with_reducible assumption
    | with_reducible apply keeps_onDie
    | with_reducible apply keeps_coreReport
    | ((with_reducible refine sub_of hm ?_); exact rfl)
    | with_reducible exact Nat.le_refl _
    | with_reducible rfl
    | with_reducible exact ⟨rfl, rfl, rfl⟩
    | with_reducible intro _
    | split
    | dsimp only)

theorem keeps_relevel (hm : Sub 8389664 M) (d c : Nat) (s : State) (hk : Fr M s0 s) :
    Fr M s0 (relevel d c s) := by
  unfold relevel
  repeat' (first
    | with_reducible assumption
    | with_reducible apply keeps_record
    | with_reducible apply keeps_onDie
    | with_reducible apply keeps_getD
    | ((with_reducible refine sub_of hm ?_); exact rfl)
    | with_reducible exact Nat.le_refl _
    | with_reducible rfl
    | with_reducible exact ⟨rfl, rfl, rfl⟩
    | with_reducible intro _
    | split
    | dsimp only)

theorem keeps_chargePool (hm : Sub 8389664 M) (d c q : Nat) (s : State) (hk : Fr M s0 s) :
    Fr M s0 (chargePool d c q s) := by
  unfold chargePool
  repeat' (first
    | with_reducible assumption
    | with_reducible apply keeps_onDie
    | with_reducible apply keeps_relevel
    | ((with_reducible refine sub_of hm ?_); exact rfl)
    | with_reducible exact Nat.le_refl _
    | with_reducible rfl
    | with_reducible exact ⟨rfl, rfl, rfl⟩
    | with_reducible intro _
    | split
    | dsimp only)

theorem keeps_releasePool (hm : Sub 8389664 M) (d c q : Nat) (s : State) (hk : Fr M s0 s) :
    Fr M s0 (releasePool d c q s) := by
  unfold releasePool
  repeat' (first
    | with_reducible assumption
    | with_reducible apply keeps_onDie
    | with_reducible apply keeps_relevel
    | ((with_reducible refine sub_of hm ?_); exact rfl)
    | with_reducible exact Nat.le_refl _
    | with_reducible rfl
    | with_reducible exact ⟨rfl, rfl, rfl⟩
    | with_reducible intro _
    | split
    | dsimp only)

theorem keeps_poolTooFull (hm : Sub 1024 M) (d c : Nat) (s : State) (hk : Fr M s0 s) :
    Fr M s0 (poolTooFull d c s) := by
  unfold poolTooFull
  repeat' (first
    | with_reducible assumption
    | with_reducible apply keeps_onDie
    | ((with_reducible refine sub_of hm ?_); exact rfl)
    | with_reducible exact Nat.le_refl _
    | with_reducible rfl
    | with_reducible exact ⟨rfl, rfl, rfl⟩
    | with_reducible intro _
    | split
    | dsimp only)

theorem keeps_relevelDie (hm : Sub 8389664 M) (d : Nat) (s : State) (hk : Fr M s0 s) :
    Fr M s0 (relevelDie d s) := by
  unfold relevelDie
  repeat' (first
    | with_reducible assumption
    | with_reducible apply keeps_forEach
    | with_reducible apply keeps_relevel
    | ((with_reducible refine sub_of hm ?_); exact rfl)
    | with_reducible exact Nat.le_refl _
    | with_reducible rfl
    | with_reducible exact ⟨rfl, rfl, rfl⟩
    | with_reducible intro _
    | split
    | dsimp only)

theorem keeps_freeCredits (hm : Sub 128 M) (l vc n : Nat) (s : State) (hk : Fr M s0 s) :
    Fr M s0 (freeCredits l vc n s) := by
  unfold freeCredits
  repeat' (first
    | with_reducible assumption
    | with_reducible apply keeps_onLink
    | ((with_reducible refine sub_of hm ?_); exact rfl)
    | with_reducible exact Nat.le_refl _
    | with_reducible rfl
    | with_reducible exact ⟨rfl, rfl, rfl⟩
    | with_reducible intro _
    | split
    | dsimp only)

theorem keeps_releaseCharge (hm : Sub 8389792 M) (e : QEnt) (s : State) (hk : Fr M s0 s) :
    Fr M s0 (releaseCharge e s) := by
  unfold releaseCharge
  repeat' (first
    | with_reducible assumption
    | with_reducible apply keeps_releasePool
    | with_reducible apply keeps_freeCredits
    | ((with_reducible refine sub_of hm ?_); exact rfl)
    | with_reducible exact Nat.le_refl _
    | with_reducible rfl
    | with_reducible exact ⟨rfl, rfl, rfl⟩
    | with_reducible intro _
    | split
    | dsimp only)

theorem keeps_dropEnt (hm : Sub 8389792 M) (e : QEnt) (s : State) (hk : Fr M s0 s) :
    Fr M s0 (dropEnt e s) := by
  unfold dropEnt
  repeat' (first
    | with_reducible assumption
    | with_reducible apply keeps_freeCells
    | with_reducible apply keeps_releaseCharge
    | ((with_reducible refine sub_of hm ?_); exact rfl)
    | with_reducible exact Nat.le_refl _
    | with_reducible rfl
    | with_reducible exact ⟨rfl, rfl, rfl⟩
    | with_reducible intro _
    | split
    | dsimp only)

/-! ### Queues -/

theorem keeps_onLeaf (hm : Sub 512 M) (q : Nat) (f : List QEnt → List QEnt) (s : State) (hk : Fr M s0 s) :
    Fr M s0 (onLeaf q f s) := by
  unfold onLeaf
  repeat' (first
    | with_reducible assumption
    | with_reducible apply keeps_onCoreR
    | ((with_reducible refine sub_of hm ?_); exact rfl)
    | with_reducible exact Nat.le_refl _
    | with_reducible rfl
    | with_reducible exact ⟨rfl, rfl, rfl⟩
    | with_reducible intro _
    | split
    | dsimp only)

theorem keeps_onCons (hm : Sub 512 M) (k : Nat) (f : List QEnt → List QEnt) (s : State) (hk : Fr M s0 s) :
    Fr M s0 (onCons k f s) := by
  unfold onCons
  repeat' (first
    | with_reducible assumption
    | with_reducible apply keeps_onCoreR
    | ((with_reducible refine sub_of hm ?_); exact rfl)
    | with_reducible exact Nat.le_refl _
    | with_reducible rfl
    | with_reducible exact ⟨rfl, rfl, rfl⟩
    | with_reducible intro _
    | split
    | dsimp only)

theorem keeps_policeFrame (hm : Sub 512 M) (l : Nat) (f : Frame) (s : State) (hk : Fr M s0 s) :
    Fr M s0 (policeFrame l f s).2 := by
  unfold policeFrame
  repeat' (first
    | with_reducible assumption
    | with_reducible apply keeps_onCoreR
    | ((with_reducible refine sub_of hm ?_); exact rfl)
    | with_reducible exact Nat.le_refl _
    | with_reducible rfl
    | with_reducible exact ⟨rfl, rfl, rfl⟩
    | with_reducible intro _
    | split
    | dsimp only)

theorem keeps_shapeCharge (hm : Sub 512 M) (k len : Nat) (s : State) (hk : Fr M s0 s) :
    Fr M s0 (shapeCharge k len s) := by
  unfold shapeCharge
  repeat' (first
    | with_reducible assumption
    | with_reducible apply keeps_onCoreR
    | ((with_reducible refine sub_of hm ?_); exact rfl)
    | with_reducible exact Nat.le_refl _
    | with_reducible rfl
    | with_reducible exact ⟨rfl, rfl, rfl⟩
    | with_reducible intro _
    | split
    | dsimp only)

theorem keeps_brakeCharge (hm : Sub 512 M) (l c len : Nat) (s : State) (hk : Fr M s0 s) :
    Fr M s0 (brakeCharge l c len s) := by
  unfold brakeCharge
  repeat' (first
    | with_reducible assumption
    | with_reducible apply keeps_onCoreR
    | ((with_reducible refine sub_of hm ?_); exact rfl)
    | with_reducible exact Nat.le_refl _
    | with_reducible rfl
    | with_reducible exact ⟨rfl, rfl, rfl⟩
    | with_reducible intro _
    | split
    | dsimp only)

theorem keeps_chargeShapers (hm : Sub 512 M) (l : Nat) (f : Frame) (s : State) (hk : Fr M s0 s) :
    Fr M s0 (chargeShapers l f s) := by
  unfold chargeShapers
  repeat' (first
    | with_reducible assumption
    | with_reducible apply keeps_shapeCharge
    | with_reducible apply keeps_brakeCharge
    | ((with_reducible refine sub_of hm ?_); exact rfl)
    | with_reducible exact Nat.le_refl _
    | with_reducible rfl
    | with_reducible exact ⟨rfl, rfl, rfl⟩
    | with_reducible intro _
    | split
    | dsimp only)

/-! ### Fabric -/

theorem keeps_countMisroute (hm : Sub 128 M) (inp : Option Nat) (s : State) (hk : Fr M s0 s) :
    Fr M s0 (countMisroute inp s) := by
  unfold countMisroute
  repeat' (first
    | with_reducible assumption
    | with_reducible apply keeps_onNetR
    | with_reducible apply keeps_onLink
    | ((with_reducible refine sub_of hm ?_); exact rfl)
    | with_reducible exact Nat.le_refl _
    | with_reducible rfl
    | with_reducible exact ⟨rfl, rfl, rfl⟩
    | with_reducible intro _
    | split
    | dsimp only)

theorem keeps_countLost (hm : Sub 8389280 M) (r : Route) (inp : Option Nat) (f : Frame) (s : State) (hk : Fr M s0 s) :
    Fr M s0 (countLost r inp f s) := by
  unfold countLost
  repeat' (first
    | with_reducible assumption
    | with_reducible apply keeps_onCoreR
    | with_reducible apply keeps_record
    | with_reducible apply keeps_countMisroute
    | with_reducible apply keeps_getD
    | ((with_reducible refine sub_of hm ?_); exact rfl)
    | with_reducible exact Nat.le_refl _
    | with_reducible rfl
    | with_reducible exact ⟨rfl, rfl, rfl⟩
    | with_reducible intro _
    | split
    | dsimp only)

theorem keeps_liftLp (hm : Sub 8388736 M) (l : Nat) (s : State) (hk : Fr M s0 s) :
    Fr M s0 (liftLp l s) := by
  unfold liftLp
  repeat' (first
    | with_reducible assumption
    | with_reducible apply keeps_emit
    | with_reducible apply keeps_forEach
    | with_reducible apply keeps_onLane
    | with_reducible apply keeps_onLink
    | ((with_reducible refine sub_of hm ?_); exact rfl)
    | with_reducible exact Nat.le_refl _
    | with_reducible rfl
    | with_reducible exact ⟨rfl, rfl, rfl⟩
    | with_reducible intro _
    | split
    | dsimp only)

theorem keeps_enqueue (hm : Sub 8389248 M) (d q : Nat) (e : QEnt) (s : State) (hk : Fr M s0 s) :
    Fr M s0 (enqueue d q e s) := by
  unfold enqueue
  repeat' (first
    | with_reducible assumption
    | with_reducible apply keeps_onCoreR
    | with_reducible apply keeps_onLeaf
    | with_reducible apply keeps_liftLp
    | ((with_reducible refine sub_of hm ?_); exact rfl)
    | with_reducible exact Nat.le_refl _
    | with_reducible rfl
    | with_reducible exact ⟨rfl, rfl, rfl⟩
    | with_reducible intro _
    | split
    | dsimp only)

theorem keeps_nextId (hm : Sub 512 M) (s : State) (hk : Fr M s0 s) :
    Fr M s0 (nextId s).2 := by
  unfold nextId
  repeat' (first
    | with_reducible assumption
    | with_reducible apply keeps_onCoreR
    | ((with_reducible refine sub_of hm ?_); exact rfl)
    | with_reducible exact Nat.le_refl _
    | with_reducible rfl
    | with_reducible exact ⟨rfl, rfl, rfl⟩
    | with_reducible intro _
    | split
    | dsimp only)

theorem keeps_storeRx (hm : Sub 8390304 M) (l : Nat) (f : Frame) (vc : Nat) (mark : Bool) (dst : Nat × Bool) (r : Nat × Nat × Nat) (elig : Bool) (s : State) (hk : Fr M s0 s) :
    KeepsO M s0 (storeRx l f vc mark dst r elig s) := by
  unfold storeRx
  repeat' (first
    | with_reducible assumption
    | with_reducible apply keeps_allocCells
    | with_reducible apply keeps_chargePool
    | with_reducible apply keeps_onCons
    | with_reducible apply keeps_enqueue
    | with_reducible apply keeps_nextId
    | with_reducible apply keepsO_some
    | with_reducible exact keepsO_none
    | with_reducible apply keepsO_map
    | with_reducible apply keepsO_orElse
    | with_reducible apply keepsO_mapP
    | with_reducible apply keepsO_mapOf
    | with_reducible apply keepsO_bind
    | with_reducible refine keepsP_get ‹_› ?_
    | with_reducible refine keeps_snd ‹_› ?_
    | ((with_reducible refine sub_of hm ?_); exact rfl)
    | with_reducible exact Nat.le_refl _
    | with_reducible rfl
    | with_reducible exact ⟨rfl, rfl, rfl⟩
    | with_reducible intro _
    | split
    | dsimp only)

theorem keeps_storeGen (hm : Sub 8390304 M) (d : Nat) (f : Frame) (dst : Nat × Bool) (r : Nat × Nat × Nat) (s : State) (hk : Fr M s0 s) :
    KeepsO M s0 (storeGen d f dst r s) := by
  unfold storeGen
  repeat' (first
    | with_reducible assumption
    | with_reducible apply keeps_allocCells
    | with_reducible apply keeps_chargePool
    | with_reducible apply keeps_onCons
    | with_reducible apply keeps_enqueue
    | with_reducible apply keeps_nextId
    | with_reducible apply keepsO_some
    | with_reducible exact keepsO_none
    | with_reducible apply keepsO_map
    | with_reducible apply keepsO_orElse
    | with_reducible apply keepsO_mapP
    | with_reducible apply keepsO_mapOf
    | with_reducible apply keepsO_bind
    | with_reducible refine keepsP_get ‹_› ?_
    | with_reducible refine keeps_snd ‹_› ?_
    | ((with_reducible refine sub_of hm ?_); exact rfl)
    | with_reducible exact Nat.le_refl _
    | with_reducible rfl
    | with_reducible exact ⟨rfl, rfl, rfl⟩
    | with_reducible intro _
    | split
    | dsimp only)

theorem keeps_placeGen (hm : Sub 8390304 M) (d : Nat) (f : Frame) (s : State) (hk : Fr M s0 s) :
    KeepsO M s0 (placeGen d f s) := by
  unfold placeGen
  repeat' (first
    | with_reducible assumption
    | with_reducible apply keeps_countLost
    | with_reducible apply keeps_storeGen
    | with_reducible apply keepsO_some
    | with_reducible exact keepsO_none
    | with_reducible apply keepsO_map
    | with_reducible apply keepsO_orElse
        | with_reducible apply keepsO_mapOf
    | with_reducible apply keepsO_bind
    | with_reducible refine keepsO_get ‹_› ?_
    | ((with_reducible refine sub_of hm ?_); exact rfl)
    | with_reducible exact Nat.le_refl _
    | with_reducible rfl
    | with_reducible exact ⟨rfl, rfl, rfl⟩
    | with_reducible intro _
    | split
    | dsimp only)

theorem keeps_inject (hm : Sub 8390304 M) (d : Nat) (f : Frame) (s : State) (hk : Fr M s0 s) :
    Fr M s0 (inject d f s) := by
  unfold inject
  repeat' (first
    | with_reducible assumption
    | with_reducible apply keeps_onCoreR
    | with_reducible apply keeps_onDie
    | with_reducible apply keeps_poolTooFull
    | with_reducible apply keeps_placeGen
    | with_reducible refine keepsO_get ‹_› ?_
    | with_reducible apply keeps_getD
    | ((with_reducible refine sub_of hm ?_); exact rfl)
    | with_reducible exact Nat.le_refl _
    | with_reducible rfl
    | with_reducible exact ⟨rfl, rfl, rfl⟩
    | with_reducible intro _
    | split
    | dsimp only)

theorem keeps_nack (hm : Sub 8390304 M) (d : Nat) (f : Frame) (cause : Nat) (s : State) (hk : Fr M s0 s) :
    Fr M s0 (nack d f cause s) := by
  unfold nack
  repeat' (first
    | with_reducible assumption
    | with_reducible apply keeps_inject
    | ((with_reducible refine sub_of hm ?_); exact rfl)
    | with_reducible exact Nat.le_refl _
    | with_reducible rfl
    | with_reducible exact ⟨rfl, rfl, rfl⟩
    | with_reducible intro _
    | split
    | dsimp only)

theorem keeps_onQstat (hm : Sub 512 M) (q : Nat) (f : QStat → QStat) (s : State) (hk : Fr M s0 s) :
    Fr M s0 (onQstat q f s) := by
  unfold onQstat
  repeat' (first
    | with_reducible assumption
    | with_reducible apply keeps_onCoreR
    | ((with_reducible refine sub_of hm ?_); exact rfl)
    | with_reducible exact Nat.le_refl _
    | with_reducible rfl
    | with_reducible exact ⟨rfl, rfl, rfl⟩
    | with_reducible intro _
    | split
    | dsimp only)

theorem keeps_sendEnt (hm : Sub 8390304 M) (l : Nat) (t : TxEnt) (stomp : Bool) (s : State) (hk : Fr M s0 s) :
    Fr M s0 (sendEnt l t stomp s) := by
  unfold sendEnt
  repeat' (first
    | with_reducible assumption
    | with_reducible apply keeps_emit
    | with_reducible apply keeps_whenS
    | with_reducible apply keeps_onLink
    | with_reducible apply keeps_record
    | with_reducible apply keeps_onDie
    | with_reducible apply keeps_chargeShapers
    | with_reducible apply keeps_onQstat
    | ((with_reducible refine sub_of hm ?_); exact rfl)
    | with_reducible exact Nat.le_refl _
    | with_reducible rfl
    | with_reducible exact ⟨rfl, rfl, rfl⟩
    | with_reducible intro _
    | split
    | dsimp only)

theorem keeps_dropTx (hm : Sub 8389792 M) (l : Nat) (t : TxEnt) (s : State) (hk : Fr M s0 s) :
    Fr M s0 (dropTx l t s) := by
  unfold dropTx
  repeat' (first
    | with_reducible assumption
    | with_reducible apply keeps_onLink
    | with_reducible apply keeps_onDie
    | with_reducible apply keeps_freeCells
    | ((with_reducible refine sub_of hm ?_); exact rfl)
    | with_reducible exact Nat.le_refl _
    | with_reducible rfl
    | with_reducible exact ⟨rfl, rfl, rfl⟩
    | with_reducible intro _
    | split
    | dsimp only)

theorem keeps_ackUpTo (hm : Sub 8389792 M) (l n : Nat) (s : State) (hk : Fr M s0 s) :
    Fr M s0 (ackUpTo l n s) := by
  unfold ackUpTo
  repeat' (first
    | with_reducible assumption
    | with_reducible apply keeps_forEach
    | with_reducible apply keeps_whenS
    | with_reducible apply keeps_onLink
    | with_reducible apply keeps_dropTx
    | ((with_reducible refine sub_of hm ?_); exact rfl)
    | with_reducible exact Nat.le_refl _
    | with_reducible rfl
    | with_reducible exact ⟨rfl, rfl, rfl⟩
    | with_reducible intro _
    | split
    | dsimp only)

/-! ### Links -/

theorem keeps_linkEvent (hm : Sub 8388640 M) (code l : Nat) (left : LinkState) (s : State) (hk : Fr M s0 s) :
    Fr M s0 (linkEvent code l left s) := by
  unfold linkEvent
  repeat' (first
    | with_reducible assumption
    | with_reducible apply keeps_record
    | ((with_reducible refine sub_of hm ?_); exact rfl)
    | with_reducible exact Nat.le_refl _
    | with_reducible rfl
    | with_reducible exact ⟨rfl, rfl, rfl⟩
    | with_reducible intro _
    | split
    | dsimp only)

theorem keeps_mirrorMoved (hm : Sub 8388608 M) (was : Option Nat) (s : State) (hk : Fr M s0 s) :
    Fr M s0 (mirrorMoved was s) := by
  unfold mirrorMoved
  repeat' (first
    | with_reducible assumption
    | with_reducible apply keeps_emit
    | ((with_reducible refine sub_of hm ?_); exact rfl)
    | with_reducible exact Nat.le_refl _
    | with_reducible rfl
    | with_reducible exact ⟨rfl, rfl, rfl⟩
    | with_reducible intro _
    | split
    | dsimp only)

theorem keeps_setLink (hm : Sub 8388736 M) (l : Nat) (st : LinkState) (s : State) (hk : Fr M s0 s) :
    Fr M s0 (setLink l st s) := by
  unfold setLink
  repeat' (first
    | with_reducible assumption
    | with_reducible apply keeps_onLink
    | with_reducible apply keeps_mirrorMoved
    | ((with_reducible refine sub_of hm ?_); exact rfl)
    | with_reducible exact Nat.le_refl _
    | with_reducible rfl
    | with_reducible exact ⟨rfl, rfl, rfl⟩
    | with_reducible intro _
    | split
    | dsimp only)

theorem keeps_leaveUp (hm : Sub 128 M) (l : Nat) (s : State) (hk : Fr M s0 s) :
    Fr M s0 (leaveUp l s) := by
  unfold leaveUp
  repeat' (first
    | with_reducible assumption
    | with_reducible apply keeps_whenS
    | with_reducible apply keeps_onLink
    | ((with_reducible refine sub_of hm ?_); exact rfl)
    | with_reducible exact Nat.le_refl _
    | with_reducible rfl
    | with_reducible exact ⟨rfl, rfl, rfl⟩
    | with_reducible intro _
    | split
    | dsimp only)

theorem keeps_sendTrain (hm : Sub 8388608 M) (l phase : Nat) (s : State) (hk : Fr M s0 s) :
    Fr M s0 (sendTrain l phase s) := by
  unfold sendTrain
  repeat' (first
    | with_reducible assumption
    | with_reducible apply keeps_emit
    | ((with_reducible refine sub_of hm ?_); exact rfl)
    | with_reducible exact Nat.le_refl _
    | with_reducible rfl
    | with_reducible exact ⟨rfl, rfl, rfl⟩
    | with_reducible intro _
    | split
    | dsimp only)

theorem keeps_sendAck (hm : Sub 8388608 M) (l : Nat) (nak : Bool) (s : State) (hk : Fr M s0 s) :
    Fr M s0 (sendAck l nak s) := by
  unfold sendAck
  repeat' (first
    | with_reducible assumption
    | with_reducible apply keeps_emit
    | ((with_reducible refine sub_of hm ?_); exact rfl)
    | with_reducible exact Nat.le_refl _
    | with_reducible rfl
    | with_reducible exact ⟨rfl, rfl, rfl⟩
    | with_reducible intro _
    | split
    | dsimp only)

theorem keeps_sendNak (hm : Sub 8388736 M) (l : Nat) (s : State) (hk : Fr M s0 s) :
    Fr M s0 (sendNak l s) := by
  unfold sendNak
  repeat' (first
    | with_reducible assumption
    | with_reducible apply keeps_onLink
    | with_reducible apply keeps_sendAck
    | ((with_reducible refine sub_of hm ?_); exact rfl)
    | with_reducible exact Nat.le_refl _
    | with_reducible rfl
    | with_reducible exact ⟨rfl, rfl, rfl⟩
    | with_reducible intro _
    | split
    | dsimp only)

theorem keeps_discardQueued (hm : Sub 8390304 M) (l : Nat) (s : State) (hk : Fr M s0 s) :
    Fr M s0 (discardQueued l s).2 := by
  unfold discardQueued
  repeat' (first
    | with_reducible assumption
    | with_reducible apply keeps_onCoreR
    | with_reducible apply keeps_forEach
    | with_reducible apply keeps_dropEnt
    | ((with_reducible refine sub_of hm ?_); exact rfl)
    | with_reducible exact Nat.le_refl _
    | with_reducible rfl
    | with_reducible exact ⟨rfl, rfl, rfl⟩
    | with_reducible intro _
    | split
    | dsimp only)

theorem keeps_flushLink (hm : Sub 8390304 M) (l : Nat) (s : State) (hk : Fr M s0 s) :
    Fr M s0 (flushLink l s) := by
  unfold flushLink
  repeat' (first
    | with_reducible assumption
    | with_reducible apply keeps_onCoreR
    | with_reducible apply keeps_forEach
    | with_reducible apply keeps_onLink
    | with_reducible apply keeps_dropTx
    | with_reducible apply keeps_discardQueued
    | with_reducible refine keeps_snd ‹_› ?_
    | ((with_reducible refine sub_of hm ?_); exact rfl)
    | with_reducible exact Nat.le_refl _
    | with_reducible rfl
    | with_reducible exact ⟨rfl, rfl, rfl⟩
    | with_reducible intro _
    | split
    | dsimp only)

theorem keeps_disableLink (hm : Sub 8390304 M) (l : Nat) (s : State) (hk : Fr M s0 s) :
    Fr M s0 (disableLink l s) := by
  unfold disableLink
  repeat' (first
    | with_reducible assumption
    | with_reducible apply keeps_onLink
    | with_reducible apply keeps_flushLink
    | ((with_reducible refine sub_of hm ?_); exact rfl)
    | with_reducible exact Nat.le_refl _
    | with_reducible rfl
    | with_reducible exact ⟨rfl, rfl, rfl⟩
    | with_reducible intro _
    | split
    | dsimp only)

theorem keeps_laneDown (hm : Sub 128 M) (i : Nat) (s : State) (hk : Fr M s0 s) :
    Fr M s0 (laneDown i s) := by
  unfold laneDown
  repeat' (first
    | with_reducible assumption
    | with_reducible apply keeps_onLane
    | ((with_reducible refine sub_of hm ?_); exact rfl)
    | with_reducible exact Nat.le_refl _
    | with_reducible rfl
    | with_reducible exact ⟨rfl, rfl, rfl⟩
    | with_reducible intro _
    | split
    | dsimp only)

theorem keeps_lanesDown (hm : Sub 128 M) (l : Nat) (s : State) (hk : Fr M s0 s) :
    Fr M s0 (lanesDown l s) := by
  unfold lanesDown
  repeat' (first
    | with_reducible assumption
    | with_reducible apply keeps_forEach
    | with_reducible apply keeps_onLink
    | with_reducible apply keeps_leaveUp
    | with_reducible apply keeps_laneDown
    | ((with_reducible refine sub_of hm ?_); exact rfl)
    | with_reducible exact Nat.le_refl _
    | with_reducible rfl
    | with_reducible exact ⟨rfl, rfl, rfl⟩
    | with_reducible intro _
    | split
    | dsimp only)

theorem keeps_portDown (hm : Sub 8390304 M) (p : Nat) (s : State) (hk : Fr M s0 s) :
    Fr M s0 (portDown p s) := by
  unfold portDown
  repeat' (first
    | with_reducible assumption
    | with_reducible apply keeps_forEach
    | with_reducible apply keeps_disableLink
    | with_reducible apply keeps_laneDown
    | ((with_reducible refine sub_of hm ?_); exact rfl)
    | with_reducible exact Nat.le_refl _
    | with_reducible rfl
    | with_reducible exact ⟨rfl, rfl, rfl⟩
    | with_reducible intro _
    | split
    | dsimp only)

theorem keeps_powerLane (hm : Sub 128 M) (i : Nat) (s : State) (hk : Fr M s0 s) :
    Fr M s0 (powerLane i s) := by
  unfold powerLane
  repeat' (first
    | with_reducible assumption
    | with_reducible apply keeps_onLane
    | ((with_reducible refine sub_of hm ?_); exact rfl)
    | with_reducible exact Nat.le_refl _
    | with_reducible rfl
    | with_reducible exact ⟨rfl, rfl, rfl⟩
    | with_reducible intro _
    | split
    | dsimp only)

theorem keeps_portUp (hm : Sub 128 M) (p : Nat) (s : State) (hk : Fr M s0 s) :
    Fr M s0 (portUp p s) := by
  unfold portUp
  repeat' (first
    | with_reducible assumption
    | with_reducible apply keeps_forEach
    | with_reducible apply keeps_onLink
    | with_reducible apply keeps_powerLane
    | ((with_reducible refine sub_of hm ?_); exact rfl)
    | with_reducible exact Nat.le_refl _
    | with_reducible rfl
    | with_reducible exact ⟨rfl, rfl, rfl⟩
    | with_reducible intro _
    | split
    | dsimp only)

theorem keeps_retrain (hm : Sub 8388768 M) (l : Nat) (s : State) (hk : Fr M s0 s) :
    Fr M s0 (retrain l s) := by
  unfold retrain
  repeat' (first
    | with_reducible assumption
    | with_reducible apply keeps_onLink
    | with_reducible apply keeps_report
    | with_reducible apply keeps_linkEvent
    | with_reducible apply keeps_leaveUp
    | with_reducible apply keeps_sendTrain
    | ((with_reducible refine sub_of hm ?_); exact rfl)
    | with_reducible exact Nat.le_refl _
    | with_reducible rfl
    | with_reducible exact ⟨rfl, rfl, rfl⟩
    | with_reducible intro _
    | split
    | dsimp only)

theorem keeps_creditZero (hm : Sub 128 M) (l : Nat) (s : State) (hk : Fr M s0 s) :
    Fr M s0 (creditZero l s) := by
  unfold creditZero
  repeat' (first
    | with_reducible assumption
    | with_reducible apply keeps_onLink
    | ((with_reducible refine sub_of hm ?_); exact rfl)
    | with_reducible exact Nat.le_refl _
    | with_reducible rfl
    | with_reducible exact ⟨rfl, rfl, rfl⟩
    | with_reducible intro _
    | split
    | dsimp only)

theorem keeps_advertise (hm : Sub 8388736 M) (l : Nat) (s : State) (hk : Fr M s0 s) :
    Fr M s0 (advertise l s) := by
  unfold advertise
  repeat' (first
    | with_reducible assumption
    | with_reducible apply keeps_emit
    | with_reducible apply keeps_forEach
    | with_reducible apply keeps_onLink
    | ((with_reducible refine sub_of hm ?_); exact rfl)
    | with_reducible exact Nat.le_refl _
    | with_reducible rfl
    | with_reducible exact ⟨rfl, rfl, rfl⟩
    | with_reducible intro _
    | split
    | dsimp only)

theorem keeps_goReady (hm : Sub 8388736 M) (l : Nat) (s : State) (hk : Fr M s0 s) :
    Fr M s0 (goReady l s) := by
  unfold goReady
  repeat' (first
    | with_reducible assumption
    | with_reducible apply keeps_setLink
    | with_reducible apply keeps_sendTrain
    | with_reducible apply keeps_creditZero
    | ((with_reducible refine sub_of hm ?_); exact rfl)
    | with_reducible exact Nat.le_refl _
    | with_reducible rfl
    | with_reducible exact ⟨rfl, rfl, rfl⟩
    | with_reducible intro _
    | split
    | dsimp only)

theorem keeps_recordMiscabled (hm : Sub 8388640 M) (l : Nat) (s : State) (hk : Fr M s0 s) :
    Fr M s0 (recordMiscabled l s) := by
  unfold recordMiscabled
  repeat' (first
    | with_reducible assumption
    | with_reducible apply keeps_record
    | with_reducible apply keeps_getD
    | ((with_reducible refine sub_of hm ?_); exact rfl)
    | with_reducible exact Nat.le_refl _
    | with_reducible rfl
    | with_reducible exact ⟨rfl, rfl, rfl⟩
    | with_reducible intro _
    | split
    | dsimp only)

theorem keeps_takeSeen (hm : Sub 128 M) (l : Nat) (s : State) (hk : Fr M s0 s) :
    Fr M s0 (takeSeen l s) := by
  unfold takeSeen
  repeat' (first
    | with_reducible assumption
    | with_reducible apply keeps_onNetR
    | with_reducible apply keeps_getD
    | ((with_reducible refine sub_of hm ?_); exact rfl)
    | with_reducible exact Nat.le_refl _
    | with_reducible rfl
    | with_reducible exact ⟨rfl, rfl, rfl⟩
    | with_reducible intro _
    | split
    | dsimp only)

theorem keeps_judgeFar (hm : Sub 8388768 M) (l : Nat) (s : State) (hk : Fr M s0 s) :
    Fr M s0 (judgeFar l s) := by
  unfold judgeFar
  repeat' (first
    | with_reducible assumption
    | with_reducible apply keeps_whenS
    | with_reducible apply keeps_record
    | with_reducible apply keeps_setLink
    | with_reducible apply keeps_goReady
    | with_reducible apply keeps_recordMiscabled
    | with_reducible apply keeps_takeSeen
    | ((with_reducible refine sub_of hm ?_); exact rfl)
    | with_reducible exact Nat.le_refl _
    | with_reducible rfl
    | with_reducible exact ⟨rfl, rfl, rfl⟩
    | with_reducible intro _
    | split
    | dsimp only)

theorem keeps_resendAll (hm : Sub 8388736 M) (l : Nat) (s : State) (hk : Fr M s0 s) :
    Fr M s0 (resendAll l s) := by
  unfold resendAll
  repeat' (first
    | with_reducible assumption
    | with_reducible apply keeps_emit
    | with_reducible apply keeps_forEach
    | with_reducible apply keeps_onLink
    | ((with_reducible refine sub_of hm ?_); exact rfl)
    | with_reducible exact Nat.le_refl _
    | with_reducible rfl
    | with_reducible exact ⟨rfl, rfl, rfl⟩
    | with_reducible intro _
    | split
    | dsimp only)

theorem keeps_enterUp (hm : Sub 8389792 M) (l nextRx : Nat) (s : State) (hk : Fr M s0 s) :
    Fr M s0 (enterUp l nextRx s) := by
  unfold enterUp
  repeat' (first
    | with_reducible assumption
    | with_reducible apply keeps_emit
    | with_reducible apply keeps_forEach
    | with_reducible apply keeps_onLink
    | with_reducible apply keeps_dropTx
    | with_reducible apply keeps_linkEvent
    | with_reducible apply keeps_advertise
    | ((with_reducible refine sub_of hm ?_); exact rfl)
    | with_reducible exact Nat.le_refl _
    | with_reducible rfl
    | with_reducible exact ⟨rfl, rfl, rfl⟩
    | with_reducible intro _
    | split
    | dsimp only)

theorem keeps_lanesReady (hm : Sub 128 M) (l : Nat) (s : State) (hk : Fr M s0 s) :
    Fr M s0 (lanesReady l s) := by
  unfold lanesReady
  repeat' (first
    | with_reducible assumption
    | with_reducible apply keeps_onLink
    | ((with_reducible refine sub_of hm ?_); exact rfl)
    | with_reducible exact Nat.le_refl _
    | with_reducible rfl
    | with_reducible exact ⟨rfl, rfl, rfl⟩
    | with_reducible intro _
    | split
    | dsimp only)

theorem keeps_resendOrRetrain (hm : Sub 8388768 M) (l : Nat) (s : State) (hk : Fr M s0 s) :
    Fr M s0 (resendOrRetrain l s) := by
  unfold resendOrRetrain
  repeat' (first
    | with_reducible assumption
    | with_reducible apply keeps_onLink
    | with_reducible apply keeps_retrain
    | with_reducible apply keeps_resendAll
    | ((with_reducible refine sub_of hm ?_); exact rfl)
    | with_reducible exact Nat.le_refl _
    | with_reducible rfl
    | with_reducible exact ⟨rfl, rfl, rfl⟩
    | with_reducible intro _
    | split
    | dsimp only)

/-! ### Mem -/

theorem keeps_fillGranule (hm : Sub 24832 M) (a : Nat) (s : State) (hk : Fr M s0 s) :
    Fr M s0 (fillGranule a s) := by
  unfold fillGranule
  repeat' (first
    | with_reducible assumption
    | with_reducible apply keeps_onNetM
    | with_reducible apply keeps_onMemW
    | with_reducible apply keeps_getD
    | with_reducible exact memZero_wf _ _ _ ‹_›
    | ((with_reducible refine sub_of hm ?_); exact rfl)
    | with_reducible exact Nat.le_refl _
    | with_reducible rfl
    | with_reducible exact ⟨rfl, rfl, rfl⟩
    | with_reducible intro _
    | split
    | dsimp only)

theorem keeps_markRegion (hm : Sub 256 M) (r : Nat) (s : State) (hk : Fr M s0 s) :
    Fr M s0 (markRegion r s) := by
  unfold markRegion
  repeat' (first
    | with_reducible assumption
    | with_reducible apply keeps_onNetM
    | ((with_reducible refine sub_of hm ?_); exact rfl)
    | with_reducible exact Nat.le_refl _
    | with_reducible rfl
    | with_reducible exact ⟨rfl, rfl, rfl⟩
    | with_reducible intro _
    | split
    | dsimp only)

theorem keeps_hbmWrite (hm : Sub 24832 M) (a : Nat) (bs : List Byte) (s : State) (hk : Fr M s0 s) :
    Fr M s0 (hbmWrite a bs s) := by
  unfold hbmWrite
  repeat' (first
    | with_reducible assumption
    | with_reducible apply keeps_onMemW
    | with_reducible apply keeps_forEach
    | with_reducible apply keeps_fillGranule
    | with_reducible apply keeps_foldl | with_reducible apply keeps_foldlSnd | with_reducible apply keeps_foldlThd
    | with_reducible exact memWrite_wf _ _ _ ‹_›
    | ((with_reducible refine sub_of hm ?_); exact rfl)
    | with_reducible exact Nat.le_refl _
    | with_reducible rfl
    | with_reducible exact ⟨rfl, rfl, rfl⟩
    | with_reducible intro _
    | split
    | dsimp only)

theorem keeps_badBlock (hm : Sub 8396832 M) (a : Nat) (s : State) (hk : Fr M s0 s) :
    Fr M s0 (badBlock a s) := by
  unfold badBlock
  repeat' (first
    | with_reducible assumption
    | with_reducible apply keeps_onMem
    | with_reducible apply keeps_report
    | ((with_reducible refine sub_of hm ?_); exact rfl)
    | with_reducible exact Nat.le_refl _
    | with_reducible rfl
    | with_reducible exact ⟨rfl, rfl, rfl⟩
    | with_reducible intro _
    | split
    | dsimp only)

theorem keeps_spadWrite (hm : Sub 6144 M) (t o : Nat) (bs : List Byte) (s : State) (hk : Fr M s0 s) :
    Fr M s0 (spadWrite t o bs s) := by
  unfold spadWrite
  repeat' (first
    | with_reducible assumption
    | with_reducible apply keeps_onTileW
    | with_reducible exact memWrite_wf _ _ _ ‹_›
    | ((with_reducible refine sub_of hm ?_); exact rfl)
    | with_reducible exact Nat.le_refl _
    | with_reducible rfl
    | with_reducible exact ⟨rfl, rfl, rfl⟩
    | with_reducible intro _
    | split
    | dsimp only)

theorem keeps_spadZero (hm : Sub 6144 M) (t o n : Nat) (s : State) (hk : Fr M s0 s) :
    Fr M s0 (spadZero t o n s) := by
  unfold spadZero
  repeat' (first
    | with_reducible assumption
    | with_reducible apply keeps_onTileW
    | with_reducible exact memZero_wf _ _ _ ‹_›
    | ((with_reducible refine sub_of hm ?_); exact rfl)
    | with_reducible exact Nat.le_refl _
    | with_reducible rfl
    | with_reducible exact ⟨rfl, rfl, rfl⟩
    | with_reducible intro _
    | split
    | dsimp only)

theorem keeps_basketWrite (hm : Sub 30976 M) (b : Basket) (o : Nat) (bs : List Byte) (s : State) (hk : Fr M s0 s) :
    Fr M s0 (basketWrite b o bs s) := by
  unfold basketWrite
  repeat' (first
    | with_reducible assumption
    | with_reducible apply keeps_hbmWrite
    | with_reducible apply keeps_spadWrite
    | ((with_reducible refine sub_of hm ?_); exact rfl)
    | with_reducible exact Nat.le_refl _
    | with_reducible rfl
    | with_reducible exact ⟨rfl, rfl, rfl⟩
    | with_reducible intro _
    | split
    | dsimp only)

theorem keeps_basketZero (hm : Sub 30976 M) (b : Basket) (s : State) (hk : Fr M s0 s) :
    Fr M s0 (basketZero b s) := by
  unfold basketZero
  repeat' (first
    | with_reducible assumption
    | with_reducible apply keeps_hbmWrite
    | with_reducible apply keeps_spadZero
    | ((with_reducible refine sub_of hm ?_); exact rfl)
    | with_reducible exact Nat.le_refl _
    | with_reducible rfl
    | with_reducible exact ⟨rfl, rfl, rfl⟩
    | with_reducible intro _
    | split
    | dsimp only)

/-! ### Sides -/

theorem keeps_onSide (hm : Sub 131072 M) (sd : Nat) (f : Side → Side) (s : State) (hk : Fr M s0 s) :
    Fr M s0 (onSide sd f s) := by
  unfold onSide
  repeat' (first
    | with_reducible assumption
    | with_reducible apply keeps_onSnap
    | ((with_reducible refine sub_of hm ?_); exact rfl)
    | with_reducible exact Nat.le_refl _
    | with_reducible rfl
    | with_reducible exact ⟨rfl, rfl, rfl⟩
    | with_reducible intro _
    | split
    | dsimp only)

theorem keeps_askSeal (hm : Sub 131072 M) (sd step : Nat) (auto : Bool) (s : State) (hk : Fr M s0 s) :
    Fr M s0 (askSeal sd step auto s) := by
  unfold askSeal
  repeat' (first
    | with_reducible assumption
    | with_reducible apply keeps_onSide
    | ((with_reducible refine sub_of hm ?_); exact rfl)
    | with_reducible exact Nat.le_refl _
    | with_reducible rfl
    | with_reducible exact ⟨rfl, rfl, rfl⟩
    | with_reducible intro _
    | split
    | dsimp only)

theorem keeps_freeObj (hm : Sub 262144 M) (id : Nat) (s : State) (hk : Fr M s0 s) :
    Fr M s0 (freeObj id s) := by
  unfold freeObj
  repeat' (first
    | with_reducible assumption
    | with_reducible apply keeps_onFlash
    | with_reducible apply keeps_foldl | with_reducible apply keeps_foldlSnd | with_reducible apply keeps_foldlThd
    | ((with_reducible refine sub_of hm ?_); exact rfl)
    | with_reducible exact Nat.le_refl _
    | with_reducible rfl
    | with_reducible exact ⟨rfl, rfl, rfl⟩
    | with_reducible intro _
    | split
    | dsimp only)

theorem keeps_dropDrain (hm : Sub 6684672 M) (d : Drain) (s : State) (hk : Fr M s0 s) :
    Fr M s0 (dropDrain d s) := by
  unfold dropDrain
  repeat' (first
    | with_reducible assumption
    | with_reducible apply keeps_modSet
    | with_reducible apply keeps_onSnap
    | with_reducible apply keeps_freeObj
    | ((with_reducible refine sub_of hm ?_); exact rfl)
    | with_reducible exact Nat.le_refl _
    | with_reducible rfl
    | with_reducible exact ⟨rfl, rfl, rfl⟩
    | with_reducible intro _
    | split
    | dsimp only)

theorem keeps_abandonDrain (hm : Sub 16123438 M) (d : Drain) (s : State) (hk : Fr M s0 s) :
    Fr M s0 (abandonDrain d s) := by
  unfold abandonDrain
  repeat' (first
    | with_reducible assumption
    | with_reducible apply keeps_record
    | with_reducible apply keeps_ticketFail
    | with_reducible apply keeps_dropDrain
    | ((with_reducible refine sub_of hm ?_); exact rfl)
    | with_reducible exact Nat.le_refl _
    | with_reducible rfl
    | with_reducible exact ⟨rfl, rfl, rfl⟩
    | with_reducible intro _
    | split
    | dsimp only)

theorem keeps_abandonSeal (hm : Sub 16123438 M) (snapId : Nat) (s : State) (hk : Fr M s0 s) :
    Fr M s0 (abandonSeal snapId s) := by
  unfold abandonSeal
  repeat' (first
    | with_reducible assumption
    | with_reducible apply keeps_forEach
    | with_reducible apply keeps_abandonDrain
    | ((with_reducible refine sub_of hm ?_); exact rfl)
    | with_reducible exact Nat.le_refl _
    | with_reducible rfl
    | with_reducible exact ⟨rfl, rfl, rfl⟩
    | with_reducible intro _
    | split
    | dsimp only)

theorem keeps_reopenSide (hm : Sub 16123438 M) (sd : Nat) (s : State) (hk : Fr M s0 s) :
    Fr M s0 (reopenSide sd s) := by
  unfold reopenSide
  repeat' (first
    | with_reducible assumption
    | with_reducible apply keeps_onSide
    | with_reducible apply keeps_abandonSeal
    | ((with_reducible refine sub_of hm ?_); exact rfl)
    | with_reducible exact Nat.le_refl _
    | with_reducible rfl
    | with_reducible exact ⟨rfl, rfl, rfl⟩
    | with_reducible intro _
    | split
    | dsimp only)

theorem keeps_sideWritten (hm : Sub 16123438 M) (a : Nat) (s : State) (hk : Fr M s0 s) :
    Fr M s0 (sideWritten a s) := by
  unfold sideWritten
  repeat' (first
    | with_reducible assumption
    | with_reducible apply keeps_reopenSide
    | ((with_reducible refine sub_of hm ?_); exact rfl)
    | with_reducible exact Nat.le_refl _
    | with_reducible rfl
    | with_reducible exact ⟨rfl, rfl, rfl⟩
    | with_reducible intro _
    | split
    | dsimp only)

theorem keeps_stepWritten (hm : Sub 16123438 M) (a : Nat) (s : State) (hk : Fr M s0 s) :
    Fr M s0 (stepWritten a s) := by
  unfold stepWritten
  repeat' (first
    | with_reducible assumption
    | with_reducible apply keeps_onSide
    | with_reducible apply keeps_reopenSide
    | ((with_reducible refine sub_of hm ?_); exact rfl)
    | with_reducible exact Nat.le_refl _
    | with_reducible rfl
    | with_reducible exact ⟨rfl, rfl, rfl⟩
    | with_reducible intro _
    | split
    | dsimp only)

theorem keeps_sendSnap (hm : Sub 8390304 M) (d : Nat) (f : Frame) (s : State) (hk : Fr M s0 s) :
    Fr M s0 (sendSnap d f s) := by
  unfold sendSnap
  repeat' (first
    | with_reducible assumption
    | with_reducible apply keeps_onDie
    | with_reducible apply keeps_storeGen
    | with_reducible refine keepsO_get ‹_› ?_
    | with_reducible apply keeps_getD
    | ((with_reducible refine sub_of hm ?_); exact rfl)
    | with_reducible exact Nat.le_refl _
    | with_reducible rfl
    | with_reducible exact ⟨rfl, rfl, rfl⟩
    | with_reducible intro _
    | split
    | dsimp only)

theorem keeps_onQp (hm : Sub 128 M) (t : Nat) (f : QPair → QPair) (s : State) (hk : Fr M s0 s) :
    Fr M s0 (onQp t f s) := by
  unfold onQp
  repeat' (first
    | with_reducible assumption
    | with_reducible apply keeps_onNetR
    | ((with_reducible refine sub_of hm ?_); exact rfl)
    | with_reducible exact Nat.le_refl _
    | with_reducible rfl
    | with_reducible exact ⟨rfl, rfl, rfl⟩
    | with_reducible intro _
    | split
    | dsimp only)

theorem keeps_sendEth (hm : Sub 8388608 M) (p : EthPkt) (s : State) (hk : Fr M s0 s) :
    Fr M s0 (sendEth p s) := by
  unfold sendEth
  repeat' (first
    | with_reducible assumption
    | with_reducible apply keeps_emit
    | ((with_reducible refine sub_of hm ?_); exact rfl)
    | with_reducible exact Nat.le_refl _
    | with_reducible rfl
    | with_reducible exact ⟨rfl, rfl, rfl⟩
    | with_reducible intro _
    | split
    | dsimp only)

theorem keeps_nvmeSend (hm : Sub 8388736 M) (t kind addr : Nat) (bs : List Byte) (s : State) (hk : Fr M s0 s) :
    Fr M s0 (nvmeSend t kind addr bs s) := by
  unfold nvmeSend
  repeat' (first
    | with_reducible assumption
    | with_reducible apply keeps_emit
    | with_reducible apply keeps_onQp
    | with_reducible apply keeps_sendEth
    | ((with_reducible refine sub_of hm ?_); exact rfl)
    | with_reducible exact Nat.le_refl _
    | with_reducible rfl
    | with_reducible exact ⟨rfl, rfl, rfl⟩
    | with_reducible intro _
    | split
    | dsimp only)

theorem keeps_pageLost (hm : Sub 8519712 M) (p : PageRestore) (s : State) (hk : Fr M s0 s) :
    Fr M s0 (pageLost p s) := by
  unfold pageLost
  repeat' (first
    | with_reducible assumption
    | with_reducible apply keeps_onSnap
    | with_reducible apply keeps_record
    | ((with_reducible refine sub_of hm ?_); exact rfl)
    | with_reducible exact Nat.le_refl _
    | with_reducible rfl
    | with_reducible exact ⟨rfl, rfl, rfl⟩
    | with_reducible intro _
    | split
    | dsimp only)

theorem keeps_askPage (hm : Sub 8521376 M) (p : PageRestore) (s : State) (hk : Fr M s0 s) :
    Fr M s0 (askPage p s) := by
  unfold askPage
  repeat' (first
    | with_reducible assumption
    | with_reducible apply keeps_onSnap
    | with_reducible apply keeps_sendSnap
    | with_reducible apply keeps_nvmeSend
    | with_reducible apply keeps_getD
    | ((with_reducible refine sub_of hm ?_); exact rfl)
    | with_reducible exact Nat.le_refl _
    | with_reducible rfl
    | with_reducible exact ⟨rfl, rfl, rfl⟩
    | with_reducible intro _
    | split
    | dsimp only)

theorem keeps_restorePage (hm : Sub 8521376 M) (a : Nat) (s : State) (hk : Fr M s0 s) :
    Fr M s0 (restorePage a s) := by
  unfold restorePage
  repeat' (first
    | with_reducible assumption
    | with_reducible apply keeps_record
    | with_reducible apply keeps_pageLost
    | with_reducible apply keeps_askPage
    | ((with_reducible refine sub_of hm ?_); exact rfl)
    | with_reducible exact Nat.le_refl _
    | with_reducible rfl
    | with_reducible exact ⟨rfl, rfl, rfl⟩
    | with_reducible intro _
    | split
    | dsimp only)

end Sys2Proof.Machine
end

