-- ==== Sys2Proof/Laws/KeepsGroups.lean ====
section
/-! SUPPORT. What groups, reduction and the updraft path can change, one lemma per definition: nothing outside the parts given, and nothing that may not be
undone. -/

set_option Elab.async false

namespace Sys2Proof.Machine

set_option linter.all false
variable {M : Nat} {s0 : State}

/-! ### Groups -/

theorem keeps_onGroup (hm : Sub 2048 M) (g : Nat) (f : Group → Group) (s : State) (hk : Fr M s0 s) :
    Fr M s0 (onGroup g f s) := by
  unfold onGroup
  repeat' (first
    | with_reducible assumption
    | with_reducible apply keeps_onTile
    | ((with_reducible refine sub_of hm ?_); exact rfl)
    | with_reducible exact Nat.le_refl _
    | with_reducible rfl
    | with_reducible exact ⟨rfl, rfl, rfl⟩
    | with_reducible intro _
    | split
    | dsimp only)

theorem keeps_onSeq (hm : Sub 2048 M) (g seq : Nat) (f : Sequence → Sequence) (s : State) (hk : Fr M s0 s) :
    Fr M s0 (onSeq g seq f s) := by
  unfold onSeq
  repeat' (first
    | with_reducible assumption
    | with_reducible apply keeps_onGroup
    | ((with_reducible refine sub_of hm ?_); exact rfl)
    | with_reducible exact Nat.le_refl _
    | with_reducible rfl
    | with_reducible exact ⟨rfl, rfl, rfl⟩
    | with_reducible intro _
    | split
    | dsimp only)

theorem keeps_onChunk (hm : Sub 2048 M) (g seq c : Nat) (f : Chunk → Chunk) (s : State) (hk : Fr M s0 s) :
    Fr M s0 (onChunk g seq c f s) := by
  unfold onChunk
  repeat' (first
    | with_reducible assumption
    | with_reducible apply keeps_onSeq
    | ((with_reducible refine sub_of hm ?_); exact rfl)
    | with_reducible exact Nat.le_refl _
    | with_reducible rfl
    | with_reducible exact ⟨rfl, rfl, rfl⟩
    | with_reducible intro _
    | split
    | dsimp only)

theorem keeps_sendGroup (hm : Sub 8390304 M) (d g dest gen typ cls ext : Nat) (p : List Byte) (s : State) (hk : Fr M s0 s) :
    Fr M s0 (sendGroup d g dest gen typ cls ext p s) := by
  unfold sendGroup
  repeat' (first
    | with_reducible assumption
    | with_reducible apply keeps_inject
    | ((with_reducible refine sub_of hm ?_); exact rfl)
    | with_reducible exact Nat.le_refl _
    | with_reducible rfl
    | with_reducible exact ⟨rfl, rfl, rfl⟩
    | with_reducible intro _
    | split
    | dsimp only)

theorem keeps_sendNote (hm : Sub 8390304 M) (g seq : Nat) (dst : Nat × Nat) (note c epoch status : Nat) (s : State) (hk : Fr M s0 s) :
    Fr M s0 (sendNote g seq dst note c epoch status s) := by
  unfold sendNote
  repeat' (first
    | with_reducible assumption
    | with_reducible apply keeps_sendGroup
    | ((with_reducible refine sub_of hm ?_); exact rfl)
    | with_reducible exact Nat.le_refl _
    | with_reducible rfl
    | with_reducible exact ⟨rfl, rfl, rfl⟩
    | with_reducible intro _
    | split
    | dsimp only)

theorem keeps_noteParent (hm : Sub 8390304 M) (g seq c note epoch status : Nat) (s : State) (hk : Fr M s0 s) :
    Fr M s0 (noteParent g seq c note epoch status s) := by
  unfold noteParent
  repeat' (first
    | with_reducible assumption
    | with_reducible apply keeps_sendNote
    | ((with_reducible refine sub_of hm ?_); exact rfl)
    | with_reducible exact Nat.le_refl _
    | with_reducible rfl
    | with_reducible exact ⟨rfl, rfl, rfl⟩
    | with_reducible intro _
    | split
    | dsimp only)

theorem keeps_noteChildren (hm : Sub 8390304 M) (g seq j note c epoch status : Nat) (s : State) (hk : Fr M s0 s) :
    Fr M s0 (noteChildren g seq j note c epoch status s) := by
  unfold noteChildren
  repeat' (first
    | with_reducible assumption
    | with_reducible apply keeps_forEach
    | with_reducible apply keeps_sendNote
    | ((with_reducible refine sub_of hm ?_); exact rfl)
    | with_reducible exact Nat.le_refl _
    | with_reducible rfl
    | with_reducible exact ⟨rfl, rfl, rfl⟩
    | with_reducible intro _
    | split
    | dsimp only)

theorem keeps_resendNack (hm : Sub 8390304 M) (g seq c epoch : Nat) (e : Nat × Nat) (s : State) (hk : Fr M s0 s) :
    Fr M s0 (resendNack g seq c epoch e s) := by
  unfold resendNack
  repeat' (first
    | with_reducible assumption
    | with_reducible apply keeps_inject
    | ((with_reducible refine sub_of hm ?_); exact rfl)
    | with_reducible exact Nat.le_refl _
    | with_reducible rfl
    | with_reducible exact ⟨rfl, rfl, rfl⟩
    | with_reducible intro _
    | split
    | dsimp only)

theorem keeps_sendC1 (hm : Sub 8389280 M) (f : Frame) (s : State) (hk : Fr M s0 s) :
    Fr M s0 (sendC1 f s) := by
  unfold sendC1
  repeat' (first
    | with_reducible assumption
    | with_reducible apply keeps_onCoreR
    | with_reducible apply keeps_countLost
    | with_reducible apply keeps_liftLp
    | ((with_reducible refine sub_of hm ?_); exact rfl)
    | with_reducible exact Nat.le_refl _
    | with_reducible rfl
    | with_reducible exact ⟨rfl, rfl, rfl⟩
    | with_reducible intro _
    | split
    | dsimp only)

theorem keeps_updResult (hm : Sub 8389280 M) (g seq : Nat) (q : Sequence) (status epoch : Nat) (rec_ : Bool) (p : List Byte) (e : Nat × Nat) (s : State) (hk : Fr M s0 s) :
    Fr M s0 (updResult g seq q status epoch rec_ p e s) := by
  unfold updResult
  repeat' (first
    | with_reducible assumption
    | with_reducible apply keeps_forEach
    | with_reducible apply keeps_sendC1
    | ((with_reducible refine sub_of hm ?_); exact rfl)
    | with_reducible exact Nat.le_refl _
    | with_reducible rfl
    | with_reducible exact ⟨rfl, rfl, rfl⟩
    | with_reducible intro _
    | split
    | dsimp only)

theorem keeps_liftTile (hm : Sub 2048 M) (t : Nat) (s : State) (hk : Fr M s0 s) :
    Fr M s0 (liftTile t s) := by
  unfold liftTile
  repeat' (first
    | with_reducible assumption
    | with_reducible apply keeps_onTileU
    | ((with_reducible refine sub_of hm ?_); exact rfl)
    | with_reducible exact Nat.le_refl _
    | with_reducible rfl
    | with_reducible exact ⟨rfl, rfl, rfl⟩
    | with_reducible intro _
    | split
    | dsimp only)

theorem keeps_pushEntry (hm : Sub 2048 M) (t : Nat) (e : TileEntry) (s : State) (hk : Fr M s0 s) :
    Fr M s0 (pushEntry t e s) := by
  unfold pushEntry
  repeat' (first
    | with_reducible assumption
    | with_reducible apply keeps_onTileU
    | with_reducible apply keeps_liftTile
    | ((with_reducible refine sub_of hm ?_); exact rfl)
    | with_reducible exact Nat.le_refl _
    | with_reducible rfl
    | with_reducible exact ⟨rfl, rfl, rfl⟩
    | with_reducible intro _
    | split
    | dsimp only)

theorem keeps_dropEntries (hm : Sub 2048 M) (g seq : Nat) (c : Option Nat) (s : State) (hk : Fr M s0 s) :
    Fr M s0 (dropEntries g seq c s) := by
  unfold dropEntries
  repeat' (first
    | with_reducible assumption
    | with_reducible apply keeps_forEach
    | with_reducible apply keeps_onTileU
    | ((with_reducible refine sub_of hm ?_); exact rfl)
    | with_reducible exact Nat.le_refl _
    | with_reducible rfl
    | with_reducible exact ⟨rfl, rfl, rfl⟩
    | with_reducible intro _
    | split
    | dsimp only)

theorem keeps_startStateRead (hm : Sub 2048 M) (g seq c : Nat) (s : State) (hk : Fr M s0 s) :
    Fr M s0 (startStateRead g seq c s) := by
  unfold startStateRead
  repeat' (first
    | with_reducible assumption
    | with_reducible apply keeps_forEach
    | with_reducible apply keeps_onTileU
    | ((with_reducible refine sub_of hm ?_); exact rfl)
    | with_reducible exact Nat.le_refl _
    | with_reducible rfl
    | with_reducible exact ⟨rfl, rfl, rfl⟩
    | with_reducible intro _
    | split
    | dsimp only)

theorem keeps_grantBasket (hm : Sub 30976 M) (g seq c : Nat) (b : Basket) (stages : List Basket) (mib : Nat) (s : State) (hk : Fr M s0 s) :
    Fr M s0 (grantBasket g seq c b stages mib s) := by
  unfold grantBasket
  repeat' (first
    | with_reducible assumption
    | with_reducible apply keeps_onTile
    | with_reducible apply keeps_forEach
    | with_reducible apply keeps_whenS
    | with_reducible apply keeps_basketZero
    | with_reducible apply keeps_onChunk
    | with_reducible apply keeps_liftTile
    | with_reducible apply keeps_startStateRead
    | ((with_reducible refine sub_of hm ?_); exact rfl)
    | with_reducible exact Nat.le_refl _
    | with_reducible rfl
    | with_reducible exact ⟨rfl, rfl, rfl⟩
    | with_reducible intro _
    | split
    | dsimp only)

theorem keeps_claimOne (hm : Sub 30976 M) (g seq c : Nat) (s : State) (hk : Fr M s0 s) :
    KeepsO M s0 (claimOne g seq c s) := by
  unfold claimOne
  repeat' (first
    | with_reducible assumption
    | with_reducible apply keeps_grantBasket
    | with_reducible apply keepsO_some
    | with_reducible exact keepsO_none
    | with_reducible apply keepsO_map
    | with_reducible apply keepsO_orElse
        | with_reducible apply keepsO_mapOf
    | with_reducible apply keepsO_bind
    | ((with_reducible refine sub_of hm ?_); exact rfl)
    | with_reducible exact Nat.le_refl _
    | with_reducible rfl
    | with_reducible exact ⟨rfl, rfl, rfl⟩
    | with_reducible intro _
    | split
    | dsimp only)

theorem keeps_claimAll (hm : Sub 30976 M) (g seq : Nat) (l : List Nat) : ∀ (s : State), Fr M s0 s → KeepsO M s0 (claimAll g seq l s) := by
  induction l with
  | nil => intro s h; exact keepsO_some h
  | cons c r ih =>
    intro s h t e
    simp only [claimAll, Option.bind_eq_some_iff] at e
    obtain ⟨u, hu, ht⟩ := e
    exact ih u (keeps_claimOne (sub_of hm rfl) g seq c s h u hu) t ht

theorem keeps_latchNan (hm : Sub 8456224 M) (g seq origin opcode member tile nc element : Nat) (s : State) (hk : Fr M s0 s) :
    Fr M s0 (latchNan g seq origin opcode member tile nc element s) := by
  unfold latchNan
  repeat' (first
    | with_reducible assumption
    | with_reducible apply keeps_onSched
    | with_reducible apply keeps_whenS
    | with_reducible apply keeps_record
    | with_reducible apply keeps_onGroup
    | ((with_reducible refine sub_of hm ?_); exact rfl)
    | with_reducible exact Nat.le_refl _
    | with_reducible rfl
    | with_reducible exact ⟨rfl, rfl, rfl⟩
    | with_reducible intro _
    | split
    | dsimp only)

/-! ### Reduce -/

theorem keeps_advanceBase (hm : Sub 2048 M) (n : Nat) : ∀ (g : Nat) (s : State), Fr M s0 s → Fr M s0 (advanceBase n g s) := by
  induction n with
  | zero => intro g s h; exact h
  | succ n ih =>
    intro g s h
    unfold advanceBase
    repeat' (first
      | with_reducible assumption
      | with_reducible apply ih
      | with_reducible apply keeps_onGroup
      | ((with_reducible refine sub_of hm ?_); exact rfl)
      | split
      | dsimp only)

theorem keeps_openSeq (hm : Sub 2048 M) (g seq root : Nat) (f : Frame) (s : State) (hk : Fr M s0 s) :
    Fr M s0 (openSeq g seq root f s) := by
  unfold openSeq
  repeat' (first
    | with_reducible assumption
    | with_reducible apply keeps_onGroup
    | ((with_reducible refine sub_of hm ?_); exact rfl)
    | with_reducible exact Nat.le_refl _
    | with_reducible rfl
    | with_reducible exact ⟨rfl, rfl, rfl⟩
    | with_reducible intro _
    | split
    | dsimp only)

theorem keeps_dropBasket (hm : Sub 2048 M) (g seq c : Nat) (s : State) (hk : Fr M s0 s) :
    Fr M s0 (dropBasket g seq c s) := by
  unfold dropBasket
  repeat' (first
    | with_reducible assumption
    | with_reducible apply keeps_onChunk
    | ((with_reducible refine sub_of hm ?_); exact rfl)
    | with_reducible exact Nat.le_refl _
    | with_reducible rfl
    | with_reducible exact ⟨rfl, rfl, rfl⟩
    | with_reducible intro _
    | split
    | dsimp only)

theorem keeps_dropWaiting (hm : Sub 8391840 M) (g seq c : Nat) (s : State) (hk : Fr M s0 s) :
    Fr M s0 (dropWaiting g seq c s) := by
  unfold dropWaiting
  repeat' (first
    | with_reducible assumption
    | with_reducible apply keeps_forEach
    | with_reducible apply keeps_dropEnt
    | with_reducible apply keeps_onChunk
    | ((with_reducible refine sub_of hm ?_); exact rfl)
    | with_reducible exact Nat.le_refl _
    | with_reducible rfl
    | with_reducible exact ⟨rfl, rfl, rfl⟩
    | with_reducible intro _
    | split
    | dsimp only)

theorem keeps_dropSeq (hm : Sub 8391840 M) (g seq : Nat) (s : State) (hk : Fr M s0 s) :
    Fr M s0 (dropSeq g seq s) := by
  unfold dropSeq
  repeat' (first
    | with_reducible assumption
    | with_reducible apply keeps_onTile
    | with_reducible apply keeps_forEach
    | with_reducible apply keeps_dropEntries
    | with_reducible apply keeps_dropBasket
    | with_reducible apply keeps_dropWaiting
    | ((with_reducible refine sub_of hm ?_); exact rfl)
    | with_reducible exact Nat.le_refl _
    | with_reducible rfl
    | with_reducible exact ⟨rfl, rfl, rfl⟩
    | with_reducible intro _
    | split
    | dsimp only)

theorem keeps_auditPiece (hm : Sub 2048 M) (g seq member pos total : Nat) (bs : List Byte) (s : State) (hk : Fr M s0 s) :
    Fr M s0 (auditPiece g seq member pos total bs s) := by
  unfold auditPiece
  repeat' (first
    | with_reducible assumption
    | with_reducible apply keeps_onSeq
    | ((with_reducible refine sub_of hm ?_); exact rfl)
    | with_reducible exact Nat.le_refl _
    | with_reducible rfl
    | with_reducible exact ⟨rfl, rfl, rfl⟩
    | with_reducible intro _
    | split
    | dsimp only)

theorem keeps_auditEnd (hm : Sub 65536 M) (g seq : Nat) (s : State) (hk : Fr M s0 s) :
    Fr M s0 (auditEnd g seq s) := by
  unfold auditEnd
  repeat' (first
    | with_reducible assumption
    | with_reducible apply keeps_onSched
    | ((with_reducible refine sub_of hm ?_); exact rfl)
    | with_reducible exact Nat.le_refl _
    | with_reducible rfl
    | with_reducible exact ⟨rfl, rfl, rfl⟩
    | with_reducible intro _
    | split
    | dsimp only)

theorem keeps_sendComplete (hm : Sub 8390304 M) (g seq : Nat) (q : Sequence) (s : State) (hk : Fr M s0 s) :
    Fr M s0 (sendComplete g seq q s) := by
  unfold sendComplete
  repeat' (first
    | with_reducible assumption
    | with_reducible apply keeps_forEach
    | with_reducible apply keeps_sendGroup
    | with_reducible apply keeps_updResult
    | ((with_reducible refine sub_of hm ?_); exact rfl)
    | with_reducible exact Nat.le_refl _
    | with_reducible rfl
    | with_reducible exact ⟨rfl, rfl, rfl⟩
    | with_reducible intro _
    | split
    | dsimp only)

theorem keeps_closeSeq (hm : Sub 8457888 M) (g seq status : Nat) (tell : Bool) (s : State) (hk : Fr M s0 s) :
    Fr M s0 (closeSeq g seq status tell s) := by
  unfold closeSeq
  repeat' (first
    | with_reducible assumption
    | with_reducible apply keeps_onTile
    | with_reducible apply keeps_whenS
    | with_reducible apply keeps_onGroup
    | with_reducible apply keeps_onSeq
    | with_reducible apply keeps_advanceBase
    | with_reducible apply keeps_auditEnd
    | with_reducible apply keeps_sendComplete
    | ((with_reducible refine sub_of hm ?_); exact rfl)
    | with_reducible exact Nat.le_refl _
    | with_reducible rfl
    | with_reducible exact ⟨rfl, rfl, rfl⟩
    | with_reducible intro _
    | split
    | dsimp only)

theorem keeps_endSeq (hm : Sub 8457888 M) (g seq status : Nat) (s : State) (hk : Fr M s0 s) :
    Fr M s0 (endSeq g seq status s) := by
  unfold endSeq
  repeat' (first
    | with_reducible assumption
    | with_reducible apply keeps_closeSeq
    | ((with_reducible refine sub_of hm ?_); exact rfl)
    | with_reducible exact Nat.le_refl _
    | with_reducible rfl
    | with_reducible exact ⟨rfl, rfl, rfl⟩
    | with_reducible intro _
    | split
    | dsimp only)

theorem keeps_failSeq (hm : Sub 8457888 M) (g seq status : Nat) (s : State) (hk : Fr M s0 s) :
    Fr M s0 (failSeq g seq status s) := by
  unfold failSeq
  repeat' (first
    | with_reducible assumption
    | with_reducible apply keeps_noteChildren
    | with_reducible apply keeps_dropSeq
    | with_reducible apply keeps_endSeq
    | with_reducible apply keeps_elim
    | ((with_reducible refine sub_of hm ?_); exact rfl)
    | with_reducible exact Nat.le_refl _
    | with_reducible rfl
    | with_reducible exact ⟨rfl, rfl, rfl⟩
    | with_reducible intro _
    | split
    | dsimp only)

theorem keeps_mismatch (hm : Sub 8457888 M) (g seq member field : Nat) (s : State) (hk : Fr M s0 s) :
    Fr M s0 (mismatch g seq member field s) := by
  unfold mismatch
  repeat' (first
    | with_reducible assumption
    | with_reducible apply keeps_record
    | with_reducible apply keeps_failSeq
    | ((with_reducible refine sub_of hm ?_); exact rfl)
    | with_reducible exact Nat.le_refl _
    | with_reducible rfl
    | with_reducible exact ⟨rfl, rfl, rfl⟩
    | with_reducible intro _
    | split
    | dsimp only)

theorem keeps_sideWhole (hm : Sub 8519712 M) (step : Nat) (auto : Bool) (s : State) (hk : Fr M s0 s) :
    Fr M s0 (sideWhole step auto s) := by
  unfold sideWhole
  repeat' (first
    | with_reducible assumption
    | with_reducible apply keeps_whenS
    | with_reducible apply keeps_record
    | with_reducible apply keeps_onSide
    | with_reducible apply keeps_askSeal
    | ((with_reducible refine sub_of hm ?_); exact rfl)
    | with_reducible exact Nat.le_refl _
    | with_reducible rfl
    | with_reducible exact ⟨rfl, rfl, rfl⟩
    | with_reducible intro _
    | split
    | dsimp only)

theorem keeps_doneStep (hm : Sub 15861800 M) (g seq : Nat) (s : State) (hk : Fr M s0 s) :
    Fr M s0 (doneStep g seq s) := by
  unfold doneStep
  repeat' (first
    | with_reducible assumption
    | with_reducible apply keeps_modSet
    | with_reducible apply keeps_onGemel
    | with_reducible apply keeps_onTile
    | with_reducible apply keeps_whenS
    | with_reducible apply keeps_journalOwn
    | with_reducible apply keeps_onSeq
    | with_reducible apply keeps_sideWhole
    | ((with_reducible refine sub_of hm ?_); exact rfl)
    | with_reducible exact Nat.le_refl _
    | with_reducible rfl
    | with_reducible exact ⟨rfl, rfl, rfl⟩
    | with_reducible intro _
    | split
    | dsimp only)

theorem keeps_checkDone (hm : Sub 15929000 M) (g seq : Nat) (s : State) (hk : Fr M s0 s) :
    Fr M s0 (checkDone g seq s) := by
  unfold checkDone
  repeat' (first
    | with_reducible assumption
    | with_reducible apply keeps_forEach
    | with_reducible apply keeps_whenS
    | with_reducible apply keeps_onSeq
    | with_reducible apply keeps_noteChildren
    | with_reducible apply keeps_endSeq
    | with_reducible apply keeps_doneStep
    | ((with_reducible refine sub_of hm ?_); exact rfl)
    | with_reducible exact Nat.le_refl _
    | with_reducible rfl
    | with_reducible exact ⟨rfl, rfl, rfl⟩
    | with_reducible intro _
    | split
    | dsimp only)

theorem keeps_finishChunk (hm : Sub 15929000 M) (g seq c : Nat) (s : State) (hk : Fr M s0 s) :
    Fr M s0 (finishChunk g seq c s) := by
  unfold finishChunk
  repeat' (first
    | with_reducible assumption
    | with_reducible apply keeps_onSeq
    | with_reducible apply keeps_onChunk
    | with_reducible apply keeps_checkDone
    | ((with_reducible refine sub_of hm ?_); exact rfl)
    | with_reducible exact Nat.le_refl _
    | with_reducible rfl
    | with_reducible exact ⟨rfl, rfl, rfl⟩
    | with_reducible intro _
    | split
    | dsimp only)

theorem keeps_endTree (hm : Sub 15929000 M) (g seq j status : Nat) (s : State) (hk : Fr M s0 s) :
    Fr M s0 (endTree g seq j status s) := by
  unfold endTree
  repeat' (first
    | with_reducible assumption
    | with_reducible apply keeps_forEach
    | with_reducible apply keeps_onSeq
    | with_reducible apply keeps_dropEntries
    | with_reducible apply keeps_dropBasket
    | with_reducible apply keeps_dropWaiting
    | with_reducible apply keeps_finishChunk
    | ((with_reducible refine sub_of hm ?_); exact rfl)
    | with_reducible exact Nat.le_refl _
    | with_reducible rfl
    | with_reducible exact ⟨rfl, rfl, rfl⟩
    | with_reducible intro _
    | split
    | dsimp only)

theorem keeps_sendResult (hm : Sub 8390304 M) (d g seq c pc kind member : Nat) (skip : Nat) (bs : List Byte) (s : State) (hk : Fr M s0 s) :
    Fr M s0 (sendResult d g seq c pc kind member skip bs s) := by
  unfold sendResult
  repeat' (first
    | with_reducible assumption
    | with_reducible apply keeps_forEach
    | with_reducible apply keeps_sendGroup
    | ((with_reducible refine sub_of hm ?_); exact rfl)
    | with_reducible exact Nat.le_refl _
    | with_reducible rfl
    | with_reducible exact ⟨rfl, rfl, rfl⟩
    | with_reducible intro _
    | split
    | dsimp only)

theorem keeps_relayResult (hm : Sub 8392352 M) (d g seq c pc sub : Nat) (f : Frame) (s : State) (hk : Fr M s0 s) :
    Fr M s0 (relayResult d g seq c pc sub f s) := by
  unfold relayResult
  repeat' (first
    | with_reducible assumption
    | with_reducible apply keeps_forEach
    | with_reducible apply keeps_onSeq
    | with_reducible apply keeps_onChunk
    | with_reducible apply keeps_sendGroup
    | ((with_reducible refine sub_of hm ?_); exact rfl)
    | with_reducible exact Nat.le_refl _
    | with_reducible rfl
    | with_reducible exact ⟨rfl, rfl, rfl⟩
    | with_reducible intro _
    | split
    | dsimp only)

theorem keeps_sendPartial (hm : Sub 8392352 M) (g seq c pc : Nat) (s : State) (hk : Fr M s0 s) :
    Fr M s0 (sendPartial g seq c pc s) := by
  unfold sendPartial
  repeat' (first
    | with_reducible assumption
    | with_reducible apply keeps_forEach
    | with_reducible apply keeps_onChunk
    | with_reducible apply keeps_sendGroup
    | ((with_reducible refine sub_of hm ?_); exact rfl)
    | with_reducible exact Nat.le_refl _
    | with_reducible rfl
    | with_reducible exact ⟨rfl, rfl, rfl⟩
    | with_reducible intro _
    | split
    | dsimp only)

theorem keeps_noteEntry (hm : Sub 2048 M) (g seq c : Nat) (n : Nat) (y0 : TileEntry) (s : State) (hk : Fr M s0 s) :
    Fr M s0 (noteEntry g seq c n y0 s) := by
  unfold noteEntry
  repeat' (first
    | with_reducible assumption
    | with_reducible apply keeps_onChunk
    | ((with_reducible refine sub_of hm ?_); exact rfl)
    | with_reducible exact Nat.le_refl _
    | with_reducible rfl
    | with_reducible exact ⟨rfl, rfl, rfl⟩
    | with_reducible intro _
    | split
    | dsimp only)

theorem keeps_feedChunk (hm : Sub 2048 M) (g seq c : Nat) (s : State) (hk : Fr M s0 s) :
    Fr M s0 (feedChunk g seq c s) := by
  unfold feedChunk
  repeat' (first
    | with_reducible assumption
    | with_reducible apply keeps_forEach
    | with_reducible apply keeps_pushEntry
    | with_reducible apply keeps_noteEntry
    | ((with_reducible refine sub_of hm ?_); exact rfl)
    | with_reducible exact Nat.le_refl _
    | with_reducible rfl
    | with_reducible exact ⟨rfl, rfl, rfl⟩
    | with_reducible intro _
    | split
    | dsimp only)

theorem keeps_stagePiece (hm : Sub 2048 M) (g seq c : Nat) (p : Piece) (s : State) (hk : Fr M s0 s) :
    Fr M s0 (stagePiece g seq c p s) := by
  unfold stagePiece
  repeat' (first
    | with_reducible assumption
    | with_reducible apply keeps_whenS
    | with_reducible apply keeps_onGroup
    | with_reducible apply keeps_onChunk
    | with_reducible apply keeps_auditPiece
    | with_reducible apply keeps_getD
    | ((with_reducible refine sub_of hm ?_); exact rfl)
    | with_reducible exact Nat.le_refl _
    | with_reducible rfl
    | with_reducible exact ⟨rfl, rfl, rfl⟩
    | with_reducible intro _
    | split
    | dsimp only)

theorem keeps_takeFrame (hm : Sub 8391840 M) (g seq c : Nat) (e : QEnt) (s : State) (hk : Fr M s0 s) :
    Fr M s0 (takeFrame g seq c e s) := by
  unfold takeFrame
  repeat' (first
    | with_reducible assumption
    | with_reducible apply keeps_dropEnt
    | with_reducible apply keeps_stagePiece
    | ((with_reducible refine sub_of hm ?_); exact rfl)
    | with_reducible exact Nat.le_refl _
    | with_reducible rfl
    | with_reducible exact ⟨rfl, rfl, rfl⟩
    | with_reducible intro _
    | split
    | dsimp only)

theorem keeps_drainWaiting (hm : Sub 8391840 M) (n : Nat) : ∀ (g seq c : Nat) (s : State), Fr M s0 s → Fr M s0 (drainWaiting n g seq c s) := by
  induction n with
  | zero => intro g seq c s h; exact keeps_feedChunk (sub_of hm rfl) g seq c s h
  | succ n ih =>
    intro g seq c s h
    unfold drainWaiting
    repeat' (first
      | with_reducible assumption
      | with_reducible apply ih
      | with_reducible apply keeps_feedChunk
      | with_reducible apply keeps_takeFrame
      | with_reducible apply keeps_onChunk
      | ((with_reducible refine sub_of hm ?_); exact rfl)
      | split
      | dsimp only)

theorem keeps_serveChunk (hm : Sub 8391840 M) (g seq c : Nat) (s : State) (hk : Fr M s0 s) :
    Fr M s0 (serveChunk g seq c s) := by
  unfold serveChunk
  repeat' (first
    | with_reducible assumption
    | with_reducible apply keeps_drainWaiting
    | ((with_reducible refine sub_of hm ?_); exact rfl)
    | with_reducible exact Nat.le_refl _
    | with_reducible rfl
    | with_reducible exact ⟨rfl, rfl, rfl⟩
    | with_reducible intro _
    | split
    | dsimp only)

theorem keeps_passPiece (hm : Sub 15929000 M) (d g seq c : Nat) (f : Frame) (s : State) (hk : Fr M s0 s) :
    Fr M s0 (passPiece d g seq c f s) := by
  unfold passPiece
  repeat' (first
    | with_reducible assumption
    | with_reducible apply keeps_onGroup
    | with_reducible apply keeps_onChunk
    | with_reducible apply keeps_finishChunk
    | with_reducible apply keeps_sendResult
    | ((with_reducible refine sub_of hm ?_); exact rfl)
    | with_reducible exact Nat.le_refl _
    | with_reducible rfl
    | with_reducible exact ⟨rfl, rfl, rfl⟩
    | with_reducible intro _
    | split
    | dsimp only)

theorem keeps_passChunk (hm : Sub 15929000 M) (g seq c : Nat) (s : State) (hk : Fr M s0 s) :
    Fr M s0 (passChunk g seq c s) := by
  unfold passChunk
  repeat' (first
    | with_reducible assumption
    | with_reducible apply keeps_onTile
    | with_reducible apply keeps_forEach
    | with_reducible apply keeps_record
    | with_reducible apply keeps_dropEnt
    | with_reducible apply keeps_onGroup
    | with_reducible apply keeps_onSeq
    | with_reducible apply keeps_onChunk
    | with_reducible apply keeps_resendNack
    | with_reducible apply keeps_dropEntries
    | with_reducible apply keeps_passPiece
    | ((with_reducible refine sub_of hm ?_); exact rfl)
    | with_reducible exact Nat.le_refl _
    | with_reducible rfl
    | with_reducible exact ⟨rfl, rfl, rfl⟩
    | with_reducible intro _
    | split
    | dsimp only)

theorem keeps_startFallback (hm : Sub 15929000 M) (g seq c : Nat) (s : State) (hk : Fr M s0 s) :
    Fr M s0 (startFallback g seq c s) := by
  unfold startFallback
  repeat' (first
    | with_reducible assumption
    | with_reducible apply keeps_noteParent
    | with_reducible apply keeps_noteChildren
    | with_reducible apply keeps_passChunk
    | ((with_reducible refine sub_of hm ?_); exact rfl)
    | with_reducible exact Nat.le_refl _
    | with_reducible rfl
    | with_reducible exact ⟨rfl, rfl, rfl⟩
    | with_reducible intro _
    | split
    | dsimp only)

theorem keeps_waitClaim (hm : Sub 2048 M) (g seq c : Nat) (s : State) (hk : Fr M s0 s) :
    Fr M s0 (waitClaim g seq c s) := by
  unfold waitClaim
  repeat' (first
    | with_reducible assumption
    | with_reducible apply keeps_onTile
    | ((with_reducible refine sub_of hm ?_); exact rfl)
    | with_reducible exact Nat.le_refl _
    | with_reducible rfl
    | with_reducible exact ⟨rfl, rfl, rfl⟩
    | with_reducible intro _
    | split
    | dsimp only)

theorem keeps_loseTie (hm : Sub 8392352 M) (g seq : Nat) (cs : List Nat) (s : State) (hk : Fr M s0 s) :
    Fr M s0 (loseTie g seq cs s) := by
  unfold loseTie
  repeat' (first
    | with_reducible assumption
    | with_reducible apply keeps_onTile
    | with_reducible apply keeps_dropEnt
    | with_reducible apply keeps_nack
    | with_reducible apply keeps_onChunk
    | ((with_reducible refine sub_of hm ?_); exact rfl)
    | with_reducible exact Nat.le_refl _
    | with_reducible rfl
    | with_reducible exact ⟨rfl, rfl, rfl⟩
    | with_reducible intro _
    | split
    | dsimp only)

theorem keeps_tryClaim (hm : Sub 8421280 M) (g seq c : Nat) (s : State) (hk : Fr M s0 s) :
    Fr M s0 (tryClaim g seq c s) := by
  unfold tryClaim
  repeat' (first
    | with_reducible assumption
    | with_reducible apply keeps_onTile
    | with_reducible apply keeps_forEach
    | with_reducible apply keeps_claimAll
    | with_reducible apply keeps_serveChunk
    | with_reducible apply keeps_waitClaim
    | with_reducible apply keeps_loseTie
    | with_reducible refine keepsO_get ‹_› ?_
    | ((with_reducible refine sub_of hm ?_); exact rfl)
    | with_reducible exact Nat.le_refl _
    | with_reducible rfl
    | with_reducible exact ⟨rfl, rfl, rfl⟩
    | with_reducible intro _
    | split
    | dsimp only)

theorem keeps_firstClaimOf (hm : Sub 8421280 M) (g seq : Nat) (s : State) (hk : Fr M s0 s) :
    Fr M s0 (firstClaimOf g seq s) := by
  unfold firstClaimOf
  repeat' (first
    | with_reducible assumption
    | with_reducible apply keeps_onSeq
    | with_reducible apply keeps_waitClaim
    | with_reducible apply keeps_tryClaim
    | ((with_reducible refine sub_of hm ?_); exact rfl)
    | with_reducible exact Nat.le_refl _
    | with_reducible rfl
    | with_reducible exact ⟨rfl, rfl, rfl⟩
    | with_reducible intro _
    | split
    | dsimp only)

theorem keeps_nextClaimOf (hm : Sub 8421280 M) (g seq : Nat) (s : State) (hk : Fr M s0 s) :
    Fr M s0 (nextClaimOf g seq s) := by
  unfold nextClaimOf
  repeat' (first
    | with_reducible assumption
    | with_reducible apply keeps_onSeq
    | with_reducible apply keeps_tryClaim
    | ((with_reducible refine sub_of hm ?_); exact rfl)
    | with_reducible exact Nat.le_refl _
    | with_reducible rfl
    | with_reducible exact ⟨rfl, rfl, rfl⟩
    | with_reducible intro _
    | split
    | dsimp only)

theorem keeps_recompute (hm : Sub 8421280 M) (g seq c epoch detection : Nat) (s : State) (hk : Fr M s0 s) :
    Fr M s0 (recompute g seq c epoch detection s) := by
  unfold recompute
  repeat' (first
    | with_reducible assumption
    | with_reducible apply keeps_forEach
    | with_reducible apply keeps_whenS
    | with_reducible apply keeps_record
    | with_reducible apply keeps_onGroup
    | with_reducible apply keeps_onSeq
    | with_reducible apply keeps_onChunk
    | with_reducible apply keeps_resendNack
    | with_reducible apply keeps_dropEntries
    | with_reducible apply keeps_dropWaiting
    | with_reducible apply keeps_tryClaim
    | ((with_reducible refine sub_of hm ?_); exact rfl)
    | with_reducible exact Nat.le_refl _
    | with_reducible rfl
    | with_reducible exact ⟨rfl, rfl, rfl⟩
    | with_reducible intro _
    | split
    | dsimp only)

theorem keeps_interrupt (hm : Sub 8457888 M) (g seq c : Nat) (s : State) (hk : Fr M s0 s) :
    Fr M s0 (interrupt g seq c s) := by
  unfold interrupt
  repeat' (first
    | with_reducible assumption
    | with_reducible apply keeps_record
    | with_reducible apply keeps_failSeq
    | ((with_reducible refine sub_of hm ?_); exact rfl)
    | with_reducible exact Nat.le_refl _
    | with_reducible rfl
    | with_reducible exact ⟨rfl, rfl, rfl⟩
    | with_reducible intro _
    | split
    | dsimp only)

theorem keeps_rootRecompute (hm : Sub 8486816 M) (g seq c detection : Nat) (s : State) (hk : Fr M s0 s) :
    Fr M s0 (rootRecompute g seq c detection s) := by
  unfold rootRecompute
  repeat' (first
    | with_reducible assumption
    | with_reducible apply keeps_noteChildren
    | with_reducible apply keeps_recompute
    | with_reducible apply keeps_interrupt
    | ((with_reducible refine sub_of hm ?_); exact rfl)
    | with_reducible exact Nat.le_refl _
    | with_reducible rfl
    | with_reducible exact ⟨rfl, rfl, rfl⟩
    | with_reducible intro _
    | split
    | dsimp only)

theorem keeps_loseChunk (hm : Sub 8486816 M) (g seq c detection : Nat) (s : State) (hk : Fr M s0 s) :
    Fr M s0 (loseChunk g seq c detection s) := by
  unfold loseChunk
  repeat' (first
    | with_reducible assumption
    | with_reducible apply keeps_noteParent
    | with_reducible apply keeps_rootRecompute
    | ((with_reducible refine sub_of hm ?_); exact rfl)
    | with_reducible exact Nat.le_refl _
    | with_reducible rfl
    | with_reducible exact ⟨rfl, rfl, rfl⟩
    | with_reducible intro _
    | split
    | dsimp only)

theorem keeps_nanTrap (hm : Sub 15929000 M) (g seq j tile : Nat) (s : State) (hk : Fr M s0 s) :
    Fr M s0 (nanTrap g seq j tile s) := by
  unfold nanTrap
  repeat' (first
    | with_reducible assumption
    | with_reducible apply keeps_record
    | with_reducible apply keeps_endTree
    | ((with_reducible refine sub_of hm ?_); exact rfl)
    | with_reducible exact Nat.le_refl _
    | with_reducible rfl
    | with_reducible exact ⟨rfl, rfl, rfl⟩
    | with_reducible intro _
    | split
    | dsimp only)

/-! ### Halt -/

theorem keeps_sendTime (hm : Sub 8388608 M) (l msg xseq ts tag count : Nat) (s : State) (hk : Fr M s0 s) :
    Fr M s0 (sendTime l msg xseq ts tag count s) := by
  unfold sendTime
  repeat' (first
    | with_reducible assumption
    | with_reducible apply keeps_emit
    | ((with_reducible refine sub_of hm ?_); exact rfl)
    | with_reducible exact Nat.le_refl _
    | with_reducible rfl
    | with_reducible exact ⟨rfl, rfl, rfl⟩
    | with_reducible intro _
    | split
    | dsimp only)

theorem keeps_timeTo (hm : Sub 8421920 M) (st : TimeState) (s : State) (hk : Fr M s0 s) :
    Fr M s0 (timeTo st s) := by
  unfold timeTo
  repeat' (first
    | with_reducible assumption
    | with_reducible apply keeps_onCoreR
    | with_reducible apply keeps_onTime
    | with_reducible apply keeps_whenS
    | with_reducible apply keeps_record
    | with_reducible apply keeps_getD
    | ((with_reducible refine sub_of hm ?_); exact rfl)
    | with_reducible exact Nat.le_refl _
    | with_reducible rfl
    | with_reducible exact ⟨rfl, rfl, rfl⟩
    | with_reducible intro _
    | split
    | dsimp only)

theorem keeps_chooseParent (hm : Sub 8421920 M) (s : State) (hk : Fr M s0 s) :
    Fr M s0 (chooseParent s) := by
  unfold chooseParent
  repeat' (first
    | with_reducible assumption
    | with_reducible apply keeps_onTime
    | with_reducible apply keeps_timeTo
    | ((with_reducible refine sub_of hm ?_); exact rfl)
    | with_reducible exact Nat.le_refl _
    | with_reducible rfl
    | with_reducible exact ⟨rfl, rfl, rfl⟩
    | with_reducible intro _
    | split
    | dsimp only)

theorem keeps_forwardHalt (hm : Sub 8454144 M) (tag cause : Nat) (but : Option Nat) (s : State) (hk : Fr M s0 s) :
    Fr M s0 (forwardHalt tag cause but s) := by
  unfold forwardHalt
  repeat' (first
    | with_reducible assumption
    | with_reducible apply keeps_onSched
    | with_reducible apply keeps_forEach
    | with_reducible apply keeps_sendTime
    | ((with_reducible refine sub_of hm ?_); exact rfl)
    | with_reducible exact Nat.le_refl _
    | with_reducible rfl
    | with_reducible exact ⟨rfl, rfl, rfl⟩
    | with_reducible intro _
    | split
    | dsimp only)

theorem keeps_discardPlaced (hm : Sub 8455840 M) (s : State) (hk : Fr M s0 s) :
    Fr M s0 (discardPlaced s) := by
  unfold discardPlaced
  repeat' (first
    | with_reducible assumption
    | with_reducible apply keeps_onSched
    | with_reducible apply keeps_forEach
    | with_reducible apply keeps_dropEnt
    | with_reducible apply keeps_onLeaf
    | ((with_reducible refine sub_of hm ?_); exact rfl)
    | with_reducible exact Nat.le_refl _
    | with_reducible rfl
    | with_reducible exact ⟨rfl, rfl, rfl⟩
    | with_reducible intro _
    | split
    | dsimp only)

theorem keeps_interruptGroup (hm : Sub 8457888 M) (g : Nat) (s : State) (hk : Fr M s0 s) :
    Fr M s0 (interruptGroup g s) := by
  unfold interruptGroup
  repeat' (first
    | with_reducible assumption
    | with_reducible apply keeps_forEach
    | with_reducible apply keeps_dropSeq
    | with_reducible apply keeps_endSeq
    | ((with_reducible refine sub_of hm ?_); exact rfl)
    | with_reducible exact Nat.le_refl _
    | with_reducible rfl
    | with_reducible exact ⟨rfl, rfl, rfl⟩
    | with_reducible intro _
    | split
    | dsimp only)

theorem keeps_haltImage (hm : Sub 8457952 M) (cause : Nat) (s : State) (hk : Fr M s0 s) :
    Fr M s0 (haltImage cause s) := by
  unfold haltImage
  repeat' (first
    | with_reducible assumption
    | with_reducible apply keeps_onSched
    | with_reducible apply keeps_forEach
    | with_reducible apply keeps_record
    | with_reducible apply keeps_setBallast
    | with_reducible apply keeps_forwardHalt
    | with_reducible apply keeps_discardPlaced
    | with_reducible apply keeps_interruptGroup
    | ((with_reducible refine sub_of hm ?_); exact rfl)
    | with_reducible exact Nat.le_refl _
    | with_reducible rfl
    | with_reducible exact ⟨rfl, rfl, rfl⟩
    | with_reducible intro _
    | split
    | dsimp only)

theorem keeps_detectOn (hm : Sub 8457952 M) (g : Nat) (f : State → State) (s : State) (hf_f : ∀ x0, Fr M s0 x0 → Fr M s0 (f x0)) (hk : Fr M s0 s) :
    Fr M s0 (detectOn g f s) := by
  unfold detectOn
  repeat' (first
    | with_reducible assumption
    | with_reducible apply keeps_haltImage
    | with_reducible apply hf_f
    | ((with_reducible refine sub_of hm ?_); exact rfl)
    | with_reducible exact Nat.le_refl _
    | with_reducible rfl
    | with_reducible exact ⟨rfl, rfl, rfl⟩
    | with_reducible intro _
    | split
    | dsimp only)

theorem keeps_chunkLost (hm : Sub 8486880 M) (g seq c detection : Nat) (s : State) (hk : Fr M s0 s) :
    Fr M s0 (chunkLost g seq c detection s) := by
  unfold chunkLost
  repeat' (first
    | with_reducible assumption
    | with_reducible apply keeps_loseChunk
    | with_reducible apply keeps_detectOn
    | ((with_reducible refine sub_of hm ?_); exact rfl)
    | with_reducible exact Nat.le_refl _
    | with_reducible rfl
    | with_reducible exact ⟨rfl, rfl, rfl⟩
    | with_reducible intro _
    | split
    | dsimp only)

theorem keeps_pathLost (hm : Sub 8490720 M) (l : Nat) (s : State) (hk : Fr M s0 s) :
    Fr M s0 (pathLost l s) := by
  unfold pathLost
  repeat' (first
    | with_reducible assumption
    | with_reducible apply keeps_onTime
    | with_reducible apply keeps_whenS
    | with_reducible apply keeps_chooseParent
    | with_reducible apply keeps_haltImage
    | ((with_reducible refine sub_of hm ?_); exact rfl)
    | with_reducible exact Nat.le_refl _
    | with_reducible rfl
    | with_reducible exact ⟨rfl, rfl, rfl⟩
    | with_reducible intro _
    | split
    | dsimp only)

theorem keeps_frameLost (hm : Sub 8457952 M) (f : Frame) (s : State) (hk : Fr M s0 s) :
    Fr M s0 (frameLost f s) := by
  unfold frameLost
  repeat' (first
    | with_reducible assumption
    | with_reducible apply keeps_whenS
    | with_reducible apply keeps_haltImage
    | ((with_reducible refine sub_of hm ?_); exact rfl)
    | with_reducible exact Nat.le_refl _
    | with_reducible rfl
    | with_reducible exact ⟨rfl, rfl, rfl⟩
    | with_reducible intro _
    | split
    | dsimp only)

theorem keeps_cellBad (hm : Sub 8457952 M) (e : QEnt) (s : State) (hk : Fr M s0 s) :
    Fr M s0 (cellBad e s) := by
  unfold cellBad
  repeat' (first
    | with_reducible assumption
    | with_reducible apply keeps_whenS
    | with_reducible apply keeps_record
    | with_reducible apply keeps_onDie
    | with_reducible apply keeps_coreReport
    | with_reducible apply keeps_dropEnt
    | with_reducible apply keeps_nack
    | with_reducible apply keeps_frameLost
    | ((with_reducible refine sub_of hm ?_); exact rfl)
    | with_reducible exact Nat.le_refl _
    | with_reducible rfl
    | with_reducible exact ⟨rfl, rfl, rfl⟩
    | with_reducible intro _
    | split
    | dsimp only)

theorem keeps_consume (hm : Sub 8457952 M) (key : Nat) (bad : Bool) (p : Frame → Bool) (f : QEnt → State → State) (s : State) (hf_f : ∀ x0 x1, Fr M s0 x1 → Fr M s0 (f x0 x1)) (hk : Fr M s0 s) :
    Fr M s0 (consume key bad p f s) := by
  unfold consume
  repeat' (first
    | with_reducible assumption
    | with_reducible apply keeps_onCons
    | with_reducible apply keeps_cellBad
    | with_reducible apply hf_f
    | ((with_reducible refine sub_of hm ?_); exact rfl)
    | with_reducible exact Nat.le_refl _
    | with_reducible rfl
    | with_reducible exact ⟨rfl, rfl, rfl⟩
    | with_reducible intro _
    | split
    | dsimp only)

/-! ### Tiles -/

theorem keeps_tileParity (hm : Sub 8390688 M) (t : Nat) (s : State) (hk : Fr M s0 s) :
    Fr M s0 (tileParity t s) := by
  unfold tileParity
  repeat' (first
    | with_reducible assumption
    | with_reducible apply keeps_onTileU
    | with_reducible apply keeps_report
    | ((with_reducible refine sub_of hm ?_); exact rfl)
    | with_reducible exact Nat.le_refl _
    | with_reducible rfl
    | with_reducible exact ⟨rfl, rfl, rfl⟩
    | with_reducible intro _
    | split
    | dsimp only)

theorem keeps_badPage (hm : Sub 2048 M) (y0 : Option Basket) (s : State) (hk : Fr M s0 s) :
    Fr M s0 (badPage y0 s) := by
  unfold badPage
  repeat' (first
    | with_reducible assumption
    | exact hk
    | with_reducible apply keeps_onTileU
    | ((with_reducible refine sub_of hm ?_); exact rfl)
    | with_reducible exact Nat.le_refl _
    | with_reducible rfl
    | with_reducible exact ⟨rfl, rfl, rfl⟩
    | with_reducible intro _
    | split
    | dsimp only)

theorem keeps_entryParity (hm : Sub 8486880 M) (t what : Nat) (e : TileEntry) (s : State) (hk : Fr M s0 s) :
    Fr M s0 (entryParity t what e s) := by
  unfold entryParity
  repeat' (first
    | with_reducible assumption
    | with_reducible apply keeps_whenS
    | with_reducible apply keeps_onTileU
    | with_reducible apply keeps_onChunk
    | with_reducible apply keeps_pushEntry
    | with_reducible apply keeps_feedChunk
    | with_reducible apply keeps_detectOn
    | with_reducible apply keeps_chunkLost
    | with_reducible apply keeps_tileParity
    | with_reducible apply keeps_badPage
    | ((with_reducible refine sub_of hm ?_); exact rfl)
    | with_reducible exact Nat.le_refl _
    | with_reducible rfl
    | with_reducible exact ⟨rfl, rfl, rfl⟩
    | with_reducible intro _
    | split
    | dsimp only)

theorem keeps_runEntry (hm : Sub 8486880 M) (t : Nat) (parity : Option Nat) (p : TileEntry → Bool) (f : TileEntry → State → State) (s : State) (hf_f : ∀ x0 x1, Fr M s0 x1 → Fr M s0 (f x0 x1)) (hk : Fr M s0 s) :
    Fr M s0 (runEntry t parity p f s) := by
  unfold runEntry
  repeat' (first
    | with_reducible assumption
    | with_reducible apply keeps_onTileU
    | with_reducible apply keeps_entryParity
    | with_reducible apply hf_f
    | ((with_reducible refine sub_of hm ?_); exact rfl)
    | with_reducible exact Nat.le_refl _
    | with_reducible rfl
    | with_reducible exact ⟨rfl, rfl, rfl⟩
    | with_reducible intro _
    | split
    | dsimp only)

theorem keeps_latchFolds (hm : Sub 8456224 M) (g seq t member : Nat) (nc oper base : Nat) (rs : List (Bool × Bool)) (s : State) (hk : Fr M s0 s) :
    Fr M s0 (latchFolds g seq t member nc oper base rs s) := by
  unfold latchFolds
  repeat' (first
    | with_reducible assumption
    | with_reducible apply keeps_forEach
    | with_reducible apply keeps_latchNan
    | ((with_reducible refine sub_of hm ?_); exact rfl)
    | with_reducible exact Nat.le_refl _
    | with_reducible rfl
    | with_reducible exact ⟨rfl, rfl, rfl⟩
    | with_reducible intro _
    | split
    | dsimp only)

theorem keeps_combinePiece (hm : Sub 8486816 M) (t g seq c pc src : Nat) (s : State) (hk : Fr M s0 s) :
    Fr M s0 (combinePiece t g seq c pc src s) := by
  unfold combinePiece
  repeat' (first
    | with_reducible assumption
    | with_reducible apply keeps_whenS
    | with_reducible apply keeps_record
    | with_reducible apply keeps_basketWrite
    | with_reducible apply keeps_onSeq
    | with_reducible apply keeps_onChunk
    | with_reducible apply keeps_sendPartial
    | with_reducible apply keeps_serveChunk
    | with_reducible apply keeps_latchFolds
    | ((with_reducible refine sub_of hm ?_); exact rfl)
    | with_reducible exact Nat.le_refl _
    | with_reducible rfl
    | with_reducible exact ⟨rfl, rfl, rfl⟩
    | with_reducible intro _
    | split
    | dsimp only)

theorem keeps_finalisePiece (hm : Sub 15929000 M) (t g seq c pc : Nat) (s : State) (hk : Fr M s0 s) :
    Fr M s0 (finalisePiece t g seq c pc s) := by
  unfold finalisePiece
  repeat' (first
    | with_reducible assumption
    | with_reducible apply keeps_forEach
    | with_reducible apply keeps_whenS
    | with_reducible apply keeps_onChunk
    | with_reducible apply keeps_latchNan
    | with_reducible apply keeps_finishChunk
    | with_reducible apply keeps_sendResult
    | with_reducible apply keeps_serveChunk
    | with_reducible apply keeps_nanTrap
    | ((with_reducible refine sub_of hm ?_); exact rfl)
    | with_reducible exact Nat.le_refl _
    | with_reducible rfl
    | with_reducible exact ⟨rfl, rfl, rfl⟩
    | with_reducible intro _
    | split
    | dsimp only)

theorem keeps_finaliseUpdate (hm : Sub 15957928 M) (t g seq c : Nat) (s : State) (hk : Fr M s0 s) :
    Fr M s0 (finaliseUpdate t g seq c s) := by
  unfold finaliseUpdate
  repeat' (first
    | with_reducible assumption
    | with_reducible apply keeps_forEach
    | with_reducible apply keeps_whenS
    | with_reducible apply keeps_basketWrite
    | with_reducible apply keeps_pushEntry
    | with_reducible apply keeps_latchNan
    | with_reducible apply keeps_nanTrap
    | ((with_reducible refine sub_of hm ?_); exact rfl)
    | with_reducible exact Nat.le_refl _
    | with_reducible rfl
    | with_reducible exact ⟨rfl, rfl, rfl⟩
    | with_reducible intro _
    | split
    | dsimp only)

theorem keeps_sendWeights (hm : Sub 8390304 M) (d g seq c fmt : Nat) (s : State) (hk : Fr M s0 s) :
    Fr M s0 (sendWeights d g seq c fmt s) := by
  unfold sendWeights
  repeat' (first
    | with_reducible assumption
    | with_reducible apply keeps_forEach
    | with_reducible apply keeps_sendResult
    | ((with_reducible refine sub_of hm ?_); exact rfl)
    | with_reducible exact Nat.le_refl _
    | with_reducible rfl
    | with_reducible exact ⟨rfl, rfl, rfl⟩
    | with_reducible intro _
    | split
    | dsimp only)

theorem keeps_checkWrites (hm : Sub 15929000 M) (g seq c : Nat) (s : State) (hk : Fr M s0 s) :
    Fr M s0 (checkWrites g seq c s) := by
  unfold checkWrites
  repeat' (first
    | with_reducible assumption
    | with_reducible apply keeps_whenS
    | with_reducible apply keeps_finishChunk
    | ((with_reducible refine sub_of hm ?_); exact rfl)
    | with_reducible exact Nat.le_refl _
    | with_reducible rfl
    | with_reducible exact ⟨rfl, rfl, rfl⟩
    | with_reducible intro _
    | split
    | dsimp only)

theorem keeps_endUpdate (hm : Sub 15929000 M) (t g seq c : Nat) (s : State) (hk : Fr M s0 s) :
    Fr M s0 (endUpdate t g seq c s) := by
  unfold endUpdate
  repeat' (first
    | with_reducible assumption
    | with_reducible apply keeps_onChunk
    | with_reducible apply keeps_sendWeights
    | with_reducible apply keeps_checkWrites
    | with_reducible apply keeps_elim
    | ((with_reducible refine sub_of hm ?_); exact rfl)
    | with_reducible exact Nat.le_refl _
    | with_reducible rfl
    | with_reducible exact ⟨rfl, rfl, rfl⟩
    | with_reducible intro _
    | split
    | dsimp only)

theorem keeps_startWrite (hm : Sub 16125486 M) (t : Nat) (m : Dma) (s : State) (hk : Fr M s0 s) :
    Fr M s0 (startWrite t m s) := by
  unfold startWrite
  repeat' (first
    | with_reducible assumption
    | with_reducible apply keeps_onTileU
    | with_reducible apply keeps_stepWritten
    | ((with_reducible refine sub_of hm ?_); exact rfl)
    | with_reducible exact Nat.le_refl _
    | with_reducible rfl
    | with_reducible exact ⟨rfl, rfl, rfl⟩
    | with_reducible intro _
    | split
    | dsimp only)

theorem keeps_runBuiltIn (hm : Sub 16195246 M) (t g seq c : Nat) (b : UpdBind) (s : State) (hk : Fr M s0 s) :
    Fr M s0 (runBuiltIn t g seq c b s) := by
  unfold runBuiltIn
  repeat' (first
    | with_reducible assumption
    | with_reducible apply keeps_forEach
    | with_reducible apply keeps_spadWrite
    | with_reducible apply keeps_latchNan
    | with_reducible apply keeps_nanTrap
    | with_reducible apply keeps_endUpdate
    | with_reducible apply keeps_startWrite
    | with_reducible apply keeps_getD
    | ((with_reducible refine sub_of hm ?_); exact rfl)
    | with_reducible exact Nat.le_refl _
    | with_reducible rfl
    | with_reducible exact ⟨rfl, rfl, rfl⟩
    | with_reducible intro _
    | split
    | dsimp only)

theorem keeps_startUpdate (hm : Sub 16195246 M) (t g seq c : Nat) (s : State) (hk : Fr M s0 s) :
    Fr M s0 (startUpdate t g seq c s) := by
  unfold startUpdate
  repeat' (first
    | with_reducible assumption
    | with_reducible apply keeps_onTileU
    | with_reducible apply keeps_runBuiltIn
    | ((with_reducible refine sub_of hm ?_); exact rfl)
    | with_reducible exact Nat.le_refl _
    | with_reducible rfl
    | with_reducible exact ⟨rfl, rfl, rfl⟩
    | with_reducible intro _
    | split
    | dsimp only)

theorem keeps_doCombine (hm : Sub 8486816 M) (t : Nat) (y0 : TileEntry) (s : State) (hk : Fr M s0 s) :
    Fr M s0 (doCombine t y0 s) := by
  unfold doCombine
  repeat' (first
    | with_reducible assumption
    | exact hk
    | with_reducible apply keeps_combinePiece
    | ((with_reducible refine sub_of hm ?_); exact rfl)
    | with_reducible exact Nat.le_refl _
    | with_reducible rfl
    | with_reducible exact ⟨rfl, rfl, rfl⟩
    | with_reducible intro _
    | split
    | dsimp only)

theorem keeps_doFinalise (hm : Sub 15957928 M) (t : Nat) (y0 : TileEntry) (s : State) (hk : Fr M s0 s) :
    Fr M s0 (doFinalise t y0 s) := by
  unfold doFinalise
  repeat' (first
    | with_reducible assumption
    | exact hk
    | with_reducible apply keeps_finalisePiece
    | with_reducible apply keeps_finaliseUpdate
    | with_reducible apply keeps_elim
    | ((with_reducible refine sub_of hm ?_); exact rfl)
    | with_reducible exact Nat.le_refl _
    | with_reducible rfl
    | with_reducible exact ⟨rfl, rfl, rfl⟩
    | with_reducible intro _
    | split
    | dsimp only)

theorem keeps_doUpdate (hm : Sub 16195246 M) (t : Nat) (y0 : TileEntry) (s : State) (hk : Fr M s0 s) :
    Fr M s0 (doUpdate t y0 s) := by
  unfold doUpdate
  repeat' (first
    | with_reducible assumption
    | exact hk
    | with_reducible apply keeps_startUpdate
    | ((with_reducible refine sub_of hm ?_); exact rfl)
    | with_reducible exact Nat.le_refl _
    | with_reducible rfl
    | with_reducible exact ⟨rfl, rfl, rfl⟩
    | with_reducible intro _
    | split
    | dsimp only)

theorem keeps_moveDma (hm : Sub 30976 M) (t : Nat) (m : Dma) (s : State) (hk : Fr M s0 s) :
    Fr M s0 (moveDma t m s) := by
  unfold moveDma
  repeat' (first
    | with_reducible assumption
    | with_reducible apply keeps_hbmWrite
    | with_reducible apply keeps_spadWrite
    | ((with_reducible refine sub_of hm ?_); exact rfl)
    | with_reducible exact Nat.le_refl _
    | with_reducible rfl
    | with_reducible exact ⟨rfl, rfl, rfl⟩
    | with_reducible intro _
    | split
    | dsimp only)

theorem keeps_readBad (hm : Sub 8597216 M) (m : Dma) (s : State) (hk : Fr M s0 s) :
    Fr M s0 (readBad m s) := by
  unfold readBad
  repeat' (first
    | with_reducible assumption
    | with_reducible apply keeps_onSnap
    | with_reducible apply keeps_badBlock
    | with_reducible apply keeps_restorePage
    | with_reducible apply keeps_interrupt
    | with_reducible apply keeps_detectOn
    | ((with_reducible refine sub_of hm ?_); exact rfl)
    | with_reducible exact Nat.le_refl _
    | with_reducible rfl
    | with_reducible exact ⟨rfl, rfl, rfl⟩
    | with_reducible intro _
    | split
    | dsimp only)

theorem keeps_dmaDone (hm : Sub 15957992 M) (t n : Nat) (crcBad : Bool) (s : State) (hk : Fr M s0 s) :
    Fr M s0 (dmaDone t n crcBad s) := by
  unfold dmaDone
  repeat' (first
    | with_reducible assumption
    | with_reducible apply keeps_onTileU
    | with_reducible apply keeps_dropEntries
    | with_reducible apply keeps_checkWrites
    | with_reducible apply keeps_moveDma
    | with_reducible apply keeps_readBad
    | ((with_reducible refine sub_of hm ?_); exact rfl)
    | with_reducible exact Nat.le_refl _
    | with_reducible rfl
    | with_reducible exact ⟨rfl, rfl, rfl⟩
    | with_reducible intro _
    | split
    | dsimp only)

/-! ### GroupEvents -/

theorem keeps_badMember (hm : Sub 8391840 M) (g : Nat) (e : QEnt) (s : State) (hk : Fr M s0 s) :
    Fr M s0 (badMember g e s) := by
  unfold badMember
  repeat' (first
    | with_reducible assumption
    | with_reducible apply keeps_dropEnt
    | with_reducible apply keeps_onGroup
    | ((with_reducible refine sub_of hm ?_); exact rfl)
    | with_reducible exact Nat.le_refl _
    | with_reducible rfl
    | with_reducible exact ⟨rfl, rfl, rfl⟩
    | with_reducible intro _
    | split
    | dsimp only)

theorem keeps_countDup (hm : Sub 8391840 M) (g : Nat) (e : QEnt) (s : State) (hk : Fr M s0 s) :
    Fr M s0 (countDup g e s) := by
  unfold countDup
  repeat' (first
    | with_reducible assumption
    | with_reducible apply keeps_dropEnt
    | with_reducible apply keeps_onGroup
    | ((with_reducible refine sub_of hm ?_); exact rfl)
    | with_reducible exact Nat.le_refl _
    | with_reducible rfl
    | with_reducible exact ⟨rfl, rfl, rfl⟩
    | with_reducible intro _
    | split
    | dsimp only)

theorem keeps_claimPage (hm : Sub 8420768 M) (g seq c key : Nat) (s : State) (hk : Fr M s0 s) :
    Fr M s0 (claimPage g seq c key s) := by
  unfold claimPage
  repeat' (first
    | with_reducible assumption
    | with_reducible apply keeps_grantBasket
    | with_reducible apply keeps_serveChunk
    | ((with_reducible refine sub_of hm ?_); exact rfl)
    | with_reducible exact Nat.le_refl _
    | with_reducible rfl
    | with_reducible exact ⟨rfl, rfl, rfl⟩
    | with_reducible intro _
    | split
    | dsimp only)

theorem keeps_takeClaims (hm : Sub 8486304 M) (g seq : Nat) (s : State) (hk : Fr M s0 s) :
    Fr M s0 (takeClaims g seq s) := by
  unfold takeClaims
  repeat' (first
    | with_reducible assumption
    | with_reducible apply keeps_onSched
    | with_reducible apply keeps_forEach
    | with_reducible apply keeps_claimPage
    | ((with_reducible refine sub_of hm ?_); exact rfl)
    | with_reducible exact Nat.le_refl _
    | with_reducible rfl
    | with_reducible exact ⟨rfl, rfl, rfl⟩
    | with_reducible intro _
    | split
    | dsimp only)

theorem keeps_openWith (hm : Sub 15957928 M) (g seq root : Nat) (f : Frame) (s : State) (hk : Fr M s0 s) :
    Fr M s0 (openWith g seq root f s) := by
  unfold openWith
  repeat' (first
    | with_reducible assumption
    | with_reducible apply keeps_whenS
    | with_reducible apply keeps_record
    | with_reducible apply keeps_onSeq
    | with_reducible apply keeps_openSeq
    | with_reducible apply keeps_failSeq
    | with_reducible apply keeps_mismatch
    | with_reducible apply keeps_checkDone
    | with_reducible apply keeps_takeClaims
    | ((with_reducible refine sub_of hm ?_); exact rfl)
    | with_reducible exact Nat.le_refl _
    | with_reducible rfl
    | with_reducible exact ⟨rfl, rfl, rfl⟩
    | with_reducible intro _
    | split
    | dsimp only)

theorem keeps_placePiece (hm : Sub 15929000 M) (g seq : Nat) (src : Nat) (e : QEnt) (s : State) (hk : Fr M s0 s) :
    Fr M s0 (placePiece g seq src e s) := by
  unfold placePiece
  repeat' (first
    | with_reducible assumption
    | with_reducible apply keeps_dropEnt
    | with_reducible apply keeps_onChunk
    | with_reducible apply keeps_feedChunk
    | with_reducible apply keeps_takeFrame
    | with_reducible apply keeps_passPiece
    | with_reducible apply keeps_countDup
    | ((with_reducible refine sub_of hm ?_); exact rfl)
    | with_reducible exact Nat.le_refl _
    | with_reducible rfl
    | with_reducible exact ⟨rfl, rfl, rfl⟩
    | with_reducible intro _
    | split
    | dsimp only)

theorem keeps_takeContrib (hm : Sub 15957928 M) (e : QEnt) (s : State) (hk : Fr M s0 s) :
    Fr M s0 (takeContrib e s) := by
  unfold takeContrib
  repeat' (first
    | with_reducible assumption
    | with_reducible apply keeps_dropEnt
    | with_reducible apply keeps_onGroup
    | with_reducible apply keeps_onSeq
    | with_reducible apply keeps_mismatch
    | with_reducible apply keeps_firstClaimOf
    | with_reducible apply keeps_badMember
    | with_reducible apply keeps_countDup
    | with_reducible apply keeps_openWith
    | with_reducible apply keeps_placePiece
    | ((with_reducible refine sub_of hm ?_); exact rfl)
    | with_reducible exact Nat.le_refl _
    | with_reducible rfl
    | with_reducible exact ⟨rfl, rfl, rfl⟩
    | with_reducible intro _
    | split
    | dsimp only)

theorem keeps_execContribRx (hm : Sub 15957992 M) (d : Nat) (bad : Bool) (s : State) (hk : Fr M s0 s) :
    KeepsX M s0 (execContribRx d bad s) := by
  unfold execContribRx
  repeat' (first
    | with_reducible assumption
    | with_reducible apply keeps_consume
    | with_reducible apply keeps_takeContrib
    | with_reducible apply keepsX_next
    | with_reducible exact keepsX_fault
    | with_reducible exact keepsX_refused
    | ((with_reducible refine sub_of hm ?_); exact rfl)
    | with_reducible exact Nat.le_refl _
    | with_reducible rfl
    | with_reducible exact ⟨rfl, rfl, rfl⟩
    | with_reducible intro _
    | split
    | dsimp only)

theorem keeps_takeData (hm : Sub 15929000 M) (e : QEnt) (s : State) (hk : Fr M s0 s) :
    Fr M s0 (takeData e s) := by
  unfold takeData
  repeat' (first
    | with_reducible assumption
    | with_reducible apply keeps_dropEnt
    | with_reducible apply keeps_onGroup
    | with_reducible apply keeps_finishChunk
    | with_reducible apply keeps_relayResult
    | ((with_reducible refine sub_of hm ?_); exact rfl)
    | with_reducible exact Nat.le_refl _
    | with_reducible rfl
    | with_reducible exact ⟨rfl, rfl, rfl⟩
    | with_reducible intro _
    | split
    | dsimp only)

theorem keeps_takePassthru (hm : Sub 15929000 M) (e : QEnt) (s : State) (hk : Fr M s0 s) :
    Fr M s0 (takePassthru e s) := by
  unfold takePassthru
  repeat' (first
    | with_reducible assumption
    | with_reducible apply keeps_dropEnt
    | with_reducible apply keeps_passPiece
    | with_reducible apply keeps_passChunk
    | ((with_reducible refine sub_of hm ?_); exact rfl)
    | with_reducible exact Nat.le_refl _
    | with_reducible rfl
    | with_reducible exact ⟨rfl, rfl, rfl⟩
    | with_reducible intro _
    | split
    | dsimp only)

theorem keeps_takeResult (hm : Sub 15957928 M) (e : QEnt) (s : State) (hk : Fr M s0 s) :
    Fr M s0 (takeResult e s) := by
  unfold takeResult
  repeat' (first
    | with_reducible assumption
    | with_reducible apply keeps_dropEnt
    | with_reducible apply keeps_openWith
    | with_reducible apply keeps_takeData
    | with_reducible apply keeps_takePassthru
    | ((with_reducible refine sub_of hm ?_); exact rfl)
    | with_reducible exact Nat.le_refl _
    | with_reducible rfl
    | with_reducible exact ⟨rfl, rfl, rfl⟩
    | with_reducible intro _
    | split
    | dsimp only)

theorem keeps_execResultRx (hm : Sub 15957992 M) (d : Nat) (bad : Bool) (s : State) (hk : Fr M s0 s) :
    KeepsX M s0 (execResultRx d bad s) := by
  unfold execResultRx
  repeat' (first
    | with_reducible assumption
    | with_reducible apply keeps_consume
    | with_reducible apply keeps_takeResult
    | with_reducible apply keepsX_next
    | with_reducible exact keepsX_fault
    | with_reducible exact keepsX_refused
    | ((with_reducible refine sub_of hm ?_); exact rfl)
    | with_reducible exact Nat.le_refl _
    | with_reducible rfl
    | with_reducible exact ⟨rfl, rfl, rfl⟩
    | with_reducible intro _
    | split
    | dsimp only)

theorem keeps_withNote (hm : Sub 15957928 M) (f : QEnt → State → State) (e : QEnt) (s : State) (hf_f : ∀ x0 x1, Fr M s0 x1 → Fr M s0 (f x0 x1)) (hk : Fr M s0 s) :
    Fr M s0 (withNote f e s) := by
  unfold withNote
  repeat' (first
    | with_reducible assumption
    | with_reducible apply keeps_dropEnt
    | with_reducible apply keeps_openWith
    | with_reducible apply hf_f
    | ((with_reducible refine sub_of hm ?_); exact rfl)
    | with_reducible exact Nat.le_refl _
    | with_reducible rfl
    | with_reducible exact ⟨rfl, rfl, rfl⟩
    | with_reducible intro _
    | split
    | dsimp only)

theorem keeps_noteFallback (hm : Sub 15929000 M) (e : QEnt) (s : State) (hk : Fr M s0 s) :
    Fr M s0 (noteFallback e s) := by
  unfold noteFallback
  repeat' (first
    | with_reducible assumption
    | with_reducible apply keeps_noteChildren
    | with_reducible apply keeps_passChunk
    | with_reducible apply keeps_startFallback
    | ((with_reducible refine sub_of hm ?_); exact rfl)
    | with_reducible exact Nat.le_refl _
    | with_reducible rfl
    | with_reducible exact ⟨rfl, rfl, rfl⟩
    | with_reducible intro _
    | split
    | dsimp only)

theorem keeps_noteRecompute (hm : Sub 8486880 M) (e : QEnt) (s : State) (hk : Fr M s0 s) :
    Fr M s0 (noteRecompute e s) := by
  unfold noteRecompute
  repeat' (first
    | with_reducible assumption
    | with_reducible apply keeps_noteParent
    | with_reducible apply keeps_noteChildren
    | with_reducible apply keeps_recompute
    | with_reducible apply keeps_rootRecompute
    | with_reducible apply keeps_detectOn
    | ((with_reducible refine sub_of hm ?_); exact rfl)
    | with_reducible exact Nat.le_refl _
    | with_reducible rfl
    | with_reducible exact ⟨rfl, rfl, rfl⟩
    | with_reducible intro _
    | split
    | dsimp only)

theorem keeps_noteTreeDone (hm : Sub 15929000 M) (e : QEnt) (s : State) (hk : Fr M s0 s) :
    Fr M s0 (noteTreeDone e s) := by
  unfold noteTreeDone
  repeat' (first
    | with_reducible assumption
    | with_reducible apply keeps_onSeq
    | with_reducible apply keeps_noteChildren
    | with_reducible apply keeps_checkDone
    | with_reducible apply keeps_endTree
    | ((with_reducible refine sub_of hm ?_); exact rfl)
    | with_reducible exact Nat.le_refl _
    | with_reducible rfl
    | with_reducible exact ⟨rfl, rfl, rfl⟩
    | with_reducible intro _
    | split
    | dsimp only)

theorem keeps_execFallbackNoticeRx (hm : Sub 15957992 M) (d : Nat) (bad : Bool) (s : State) (hk : Fr M s0 s) :
    KeepsX M s0 (execFallbackNoticeRx d bad s) := by
  unfold execFallbackNoticeRx
  repeat' (first
    | with_reducible assumption
    | with_reducible apply keeps_consume
    | with_reducible apply keeps_withNote
    | with_reducible apply keeps_noteFallback
    | with_reducible apply keepsX_next
    | with_reducible exact keepsX_fault
    | with_reducible exact keepsX_refused
    | ((with_reducible refine sub_of hm ?_); exact rfl)
    | with_reducible exact Nat.le_refl _
    | with_reducible rfl
    | with_reducible exact ⟨rfl, rfl, rfl⟩
    | with_reducible intro _
    | split
    | dsimp only)

theorem keeps_execRecomputeNoticeRx (hm : Sub 15957992 M) (d : Nat) (bad : Bool) (s : State) (hk : Fr M s0 s) :
    KeepsX M s0 (execRecomputeNoticeRx d bad s) := by
  unfold execRecomputeNoticeRx
  repeat' (first
    | with_reducible assumption
    | with_reducible apply keeps_consume
    | with_reducible apply keeps_withNote
    | with_reducible apply keeps_noteRecompute
    | with_reducible apply keepsX_next
    | with_reducible exact keepsX_fault
    | with_reducible exact keepsX_refused
    | ((with_reducible refine sub_of hm ?_); exact rfl)
    | with_reducible exact Nat.le_refl _
    | with_reducible rfl
    | with_reducible exact ⟨rfl, rfl, rfl⟩
    | with_reducible intro _
    | split
    | dsimp only)

theorem keeps_execTreeDoneRx (hm : Sub 15957992 M) (d : Nat) (bad : Bool) (s : State) (hk : Fr M s0 s) :
    KeepsX M s0 (execTreeDoneRx d bad s) := by
  unfold execTreeDoneRx
  repeat' (first
    | with_reducible assumption
    | with_reducible apply keeps_consume
    | with_reducible apply keeps_withNote
    | with_reducible apply keeps_noteTreeDone
    | with_reducible apply keepsX_next
    | with_reducible exact keepsX_fault
    | with_reducible exact keepsX_refused
    | ((with_reducible refine sub_of hm ?_); exact rfl)
    | with_reducible exact Nat.le_refl _
    | with_reducible rfl
    | with_reducible exact ⟨rfl, rfl, rfl⟩
    | with_reducible intro _
    | split
    | dsimp only)

theorem keeps_execClaimRetry (hm : Sub 8421280 M) (s : State) (hk : Fr M s0 s) :
    KeepsX M s0 (execClaimRetry s) := by
  unfold execClaimRetry
  repeat' (first
    | with_reducible assumption
    | with_reducible apply keeps_forEach
    | with_reducible apply keeps_tryClaim
    | with_reducible apply keepsX_next
    | with_reducible exact keepsX_fault
    | with_reducible exact keepsX_refused
    | ((with_reducible refine sub_of hm ?_); exact rfl)
    | with_reducible exact Nat.le_refl _
    | with_reducible rfl
    | with_reducible exact ⟨rfl, rfl, rfl⟩
    | with_reducible intro _
    | split
    | dsimp only)

theorem keeps_execBasketRelease (hm : Sub 8421280 M) (g seq c : Nat) (s : State) (hk : Fr M s0 s) :
    KeepsX M s0 (execBasketRelease g seq c s) := by
  unfold execBasketRelease
  repeat' (first
    | with_reducible assumption
    | with_reducible apply keeps_dropBasket
    | with_reducible apply keeps_nextClaimOf
    | with_reducible apply keepsX_next
    | with_reducible exact keepsX_fault
    | with_reducible exact keepsX_refused
    | ((with_reducible refine sub_of hm ?_); exact rfl)
    | with_reducible exact Nat.le_refl _
    | with_reducible rfl
    | with_reducible exact ⟨rfl, rfl, rfl⟩
    | with_reducible intro _
    | split
    | dsimp only)

theorem keeps_execFallbackTimeout (hm : Sub 15929000 M) (g seq c : Nat) (s : State) (hk : Fr M s0 s) :
    KeepsX M s0 (execFallbackTimeout g seq c s) := by
  unfold execFallbackTimeout
  repeat' (first
    | with_reducible assumption
    | with_reducible apply keeps_startFallback
    | with_reducible apply keepsX_next
    | with_reducible exact keepsX_fault
    | with_reducible exact keepsX_refused
    | ((with_reducible refine sub_of hm ?_); exact rfl)
    | with_reducible exact Nat.le_refl _
    | with_reducible rfl
    | with_reducible exact ⟨rfl, rfl, rfl⟩
    | with_reducible intro _
    | split
    | dsimp only)

theorem keeps_execGroupWatchdog (hm : Sub 8390688 M) (g seq : Nat) (s : State) (hk : Fr M s0 s) :
    KeepsX M s0 (execGroupWatchdog g seq s) := by
  unfold execGroupWatchdog
  repeat' (first
    | with_reducible assumption
    | with_reducible apply keeps_record
    | with_reducible apply keeps_onSeq
    | with_reducible apply keepsX_next
    | with_reducible exact keepsX_fault
    | with_reducible exact keepsX_refused
    | ((with_reducible refine sub_of hm ?_); exact rfl)
    | with_reducible exact Nat.le_refl _
    | with_reducible rfl
    | with_reducible exact ⟨rfl, rfl, rfl⟩
    | with_reducible intro _
    | split
    | dsimp only)

theorem keeps_execGroupDisableDone (hm : Sub 9440782 M) (g : Nat) (s : State) (hk : Fr M s0 s) :
    KeepsX M s0 (execGroupDisableDone g s) := by
  unfold execGroupDisableDone
  repeat' (first
    | with_reducible assumption
    | with_reducible apply keeps_ticketDone
    | with_reducible apply keeps_onGroup
    | with_reducible apply keepsX_next
    | with_reducible exact keepsX_fault
    | with_reducible exact keepsX_refused
    | ((with_reducible refine sub_of hm ?_); exact rfl)
    | with_reducible exact Nat.le_refl _
    | with_reducible rfl
    | with_reducible exact ⟨rfl, rfl, rfl⟩
    | with_reducible intro _
    | split
    | dsimp only)

theorem keeps_execCombineEntry (hm : Sub 8486880 M) (t : Nat) (parity : Option Nat) (s : State) (hk : Fr M s0 s) :
    KeepsX M s0 (execCombineEntry t parity s) := by
  unfold execCombineEntry
  repeat' (first
    | with_reducible assumption
    | with_reducible apply keeps_runEntry
    | with_reducible apply keeps_doCombine
    | with_reducible apply keepsX_next
    | with_reducible exact keepsX_fault
    | with_reducible exact keepsX_refused
    | ((with_reducible refine sub_of hm ?_); exact rfl)
    | with_reducible exact Nat.le_refl _
    | with_reducible rfl
    | with_reducible exact ⟨rfl, rfl, rfl⟩
    | with_reducible intro _
    | split
    | dsimp only)

theorem keeps_execFinaliseEntry (hm : Sub 15957992 M) (t : Nat) (parity : Option Nat) (s : State) (hk : Fr M s0 s) :
    KeepsX M s0 (execFinaliseEntry t parity s) := by
  unfold execFinaliseEntry
  repeat' (first
    | with_reducible assumption
    | with_reducible apply keeps_runEntry
    | with_reducible apply keeps_doFinalise
    | with_reducible apply keepsX_next
    | with_reducible exact keepsX_fault
    | with_reducible exact keepsX_refused
    | ((with_reducible refine sub_of hm ?_); exact rfl)
    | with_reducible exact Nat.le_refl _
    | with_reducible rfl
    | with_reducible exact ⟨rfl, rfl, rfl⟩
    | with_reducible intro _
    | split
    | dsimp only)

theorem keeps_execUpdateEntry (hm : Sub 16220142 M) (t : Nat) (parity : Option Nat) (s : State) (hk : Fr M s0 s) :
    KeepsX M s0 (execUpdateEntry t parity s) := by
  unfold execUpdateEntry
  repeat' (first
    | with_reducible assumption
    | with_reducible apply keeps_runEntry
    | with_reducible apply keeps_doUpdate
    | with_reducible apply keepsX_next
    | with_reducible exact keepsX_fault
    | with_reducible exact keepsX_refused
    | ((with_reducible refine sub_of hm ?_); exact rfl)
    | with_reducible exact Nat.le_refl _
    | with_reducible rfl
    | with_reducible exact ⟨rfl, rfl, rfl⟩
    | with_reducible intro _
    | split
    | dsimp only)

theorem keeps_execDmaComplete (hm : Sub 15957992 M) (t n : Nat) (crcBad : Bool) (s : State) (hk : Fr M s0 s) :
    KeepsX M s0 (execDmaComplete t n crcBad s) := by
  unfold execDmaComplete
  repeat' (first
    | with_reducible assumption
    | with_reducible apply keeps_dmaDone
    | with_reducible apply keepsX_next
    | with_reducible exact keepsX_fault
    | with_reducible exact keepsX_refused
    | ((with_reducible refine sub_of hm ?_); exact rfl)
    | with_reducible exact Nat.le_refl _
    | with_reducible rfl
    | with_reducible exact ⟨rfl, rfl, rfl⟩
    | with_reducible intro _
    | split
    | dsimp only)

/-! ### Updraft -/

theorem keeps_onCtx (hm : Sub 2048 M) (g seq : Nat) (f : UpdCtx → UpdCtx) (s : State) (hk : Fr M s0 s) :
    Fr M s0 (onCtx g seq f s) := by
  unfold onCtx
  repeat' (first
    | with_reducible assumption
    | with_reducible apply keeps_onTile
    | ((with_reducible refine sub_of hm ?_); exact rfl)
    | with_reducible exact Nat.le_refl _
    | with_reducible rfl
    | with_reducible exact ⟨rfl, rfl, rfl⟩
    | with_reducible intro _
    | split
    | dsimp only)

theorem keeps_dropCtx (hm : Sub 2048 M) (g seq : Nat) (s : State) (hk : Fr M s0 s) :
    Fr M s0 (dropCtx g seq s) := by
  unfold dropCtx
  repeat' (first
    | with_reducible assumption
    | with_reducible apply keeps_onTile
    | ((with_reducible refine sub_of hm ?_); exact rfl)
    | with_reducible exact Nat.le_refl _
    | with_reducible rfl
    | with_reducible exact ⟨rfl, rfl, rfl⟩
    | with_reducible intro _
    | split
    | dsimp only)

theorem keeps_claimCtx (hm : Sub 33556480 M) (g seq : Nat) (q : Sequence) (s : State) (hk : Fr M s0 s) :
    KeepsO M s0 (claimCtx g seq q s) := by
  unfold claimCtx
  repeat' (first
    | with_reducible assumption
    | with_reducible apply keeps_draw
    | with_reducible apply keeps_onTile
    | with_reducible apply keepsO_some
    | with_reducible exact keepsO_none
    | with_reducible apply keepsO_map
    | with_reducible apply keepsO_orElse
        | with_reducible apply keepsO_mapOf
    | with_reducible apply keepsO_bind
    | with_reducible refine keeps_snd ‹_› ?_
    | with_reducible apply keeps_getD
    | ((with_reducible refine sub_of hm ?_); exact rfl)
    | with_reducible exact Nat.le_refl _
    | with_reducible rfl
    | with_reducible exact ⟨rfl, rfl, rfl⟩
    | with_reducible intro _
    | split
    | dsimp only)

theorem keeps_foldInputs (hm : Sub 8456224 M) (g seq : Nat) (home : Nat) (ins : List (Nat × List Nat)) (s : State) (hk : Fr M s0 s) :
    Fr M s0 (foldInputs g seq home ins s).2 := by
  unfold foldInputs
  repeat' (first
    | with_reducible assumption
    | with_reducible apply keeps_latchFolds
    | with_reducible apply keeps_foldl | with_reducible apply keeps_foldlSnd | with_reducible apply keeps_foldlThd
    | ((with_reducible refine sub_of hm ?_); exact rfl)
    | with_reducible exact Nat.le_refl _
    | with_reducible rfl
    | with_reducible exact ⟨rfl, rfl, rfl⟩
    | with_reducible intro _
    | split
    | dsimp only)

theorem keeps_sendSweep (hm : Sub 8392360 M) (g : Nat) (home dirn : Nat) (post : Bool) (ext : Nat) (p : List Byte) (s : State) (hk : Fr M s0 s) :
    Fr M s0 (sendSweep g home dirn post ext p s) := by
  unfold sendSweep
  repeat' (first
    | with_reducible assumption
    | with_reducible apply keeps_onCoreR
    | with_reducible apply keeps_post
    | with_reducible apply keeps_countLost
    | with_reducible apply keeps_liftLp
    | with_reducible apply keeps_onCtx
    | with_reducible apply keeps_getD
    | ((with_reducible refine sub_of hm ?_); exact rfl)
    | with_reducible exact Nat.le_refl _
    | with_reducible rfl
    | with_reducible exact ⟨rfl, rfl, rfl⟩
    | with_reducible intro _
    | split
    | dsimp only)

theorem keeps_sweepOut (hm : Sub 8392360 M) (g seq dim : Nat) (ps : List Nat) (s : State) (hk : Fr M s0 s) :
    Fr M s0 (sweepOut g seq dim ps s) := by
  unfold sweepOut
  repeat' (first
    | with_reducible assumption
    | with_reducible apply keeps_forEach
    | with_reducible apply keeps_sendSweep
    | with_reducible apply keeps_getD
    | ((with_reducible refine sub_of hm ?_); exact rfl)
    | with_reducible exact Nat.le_refl _
    | with_reducible rfl
    | with_reducible exact ⟨rfl, rfl, rfl⟩
    | with_reducible intro _
    | split
    | dsimp only)

theorem keeps_sweepNotice (hm : Sub 8392360 M) (g seq note : Nat) (s : State) (hk : Fr M s0 s) :
    Fr M s0 (sweepNotice g seq note s) := by
  unfold sweepNotice
  repeat' (first
    | with_reducible assumption
    | with_reducible apply keeps_forEach
    | with_reducible apply keeps_sendSweep
    | with_reducible apply keeps_getD
    | ((with_reducible refine sub_of hm ?_); exact rfl)
    | with_reducible exact Nat.le_refl _
    | with_reducible rfl
    | with_reducible exact ⟨rfl, rfl, rfl⟩
    | with_reducible intro _
    | split
    | dsimp only)

theorem keeps_checkCtx (hm : Sub 2048 M) (g seq : Nat) (s : State) (hk : Fr M s0 s) :
    Fr M s0 (checkCtx g seq s) := by
  unfold checkCtx
  repeat' (first
    | with_reducible assumption
    | with_reducible apply keeps_dropCtx
    | ((with_reducible refine sub_of hm ?_); exact rfl)
    | with_reducible exact Nat.le_refl _
    | with_reducible rfl
    | with_reducible exact ⟨rfl, rfl, rfl⟩
    | with_reducible intro _
    | split
    | dsimp only)

theorem keeps_deliverUpd (hm : Sub 8457896 M) (g seq : Nat) (ps : List Nat) (s : State) (hk : Fr M s0 s) :
    Fr M s0 (deliverUpd g seq ps s) := by
  unfold deliverUpd
  repeat' (first
    | with_reducible assumption
    | with_reducible apply keeps_forEach
    | with_reducible apply keeps_whenS
    | with_reducible apply keeps_record
    | with_reducible apply keeps_updResult
    | with_reducible apply keeps_latchNan
    | with_reducible apply keeps_closeSeq
    | with_reducible apply keeps_onCtx
    | with_reducible apply keeps_sweepNotice
    | with_reducible apply keeps_checkCtx
    | ((with_reducible refine sub_of hm ?_); exact rfl)
    | with_reducible exact Nat.le_refl _
    | with_reducible rfl
    | with_reducible exact ⟨rfl, rfl, rfl⟩
    | with_reducible intro _
    | split
    | dsimp only)

theorem keeps_advanceRack (hm : Sub 8457896 M) (g seq : Nat) (s : State) (hk : Fr M s0 s) :
    Fr M s0 (advanceRack g seq s) := by
  unfold advanceRack
  repeat' (first
    | with_reducible assumption
    | with_reducible apply keeps_onCtx
    | with_reducible apply keeps_foldInputs
    | with_reducible apply keeps_sweepOut
    | with_reducible refine keeps_snd ‹_› ?_
    | ((with_reducible refine sub_of hm ?_); exact rfl)
    | with_reducible exact Nat.le_refl _
    | with_reducible rfl
    | with_reducible exact ⟨rfl, rfl, rfl⟩
    | with_reducible intro _
    | split
    | dsimp only)

theorem keeps_advanceA (hm : Sub 8457896 M) (g seq : Nat) (s : State) (hk : Fr M s0 s) :
    Fr M s0 (advanceA g seq s) := by
  unfold advanceA
  repeat' (first
    | with_reducible assumption
    | with_reducible apply keeps_onCtx
    | with_reducible apply keeps_foldInputs
    | with_reducible apply keeps_sweepOut
    | with_reducible refine keeps_snd ‹_› ?_
    | ((with_reducible refine sub_of hm ?_); exact rfl)
    | with_reducible exact Nat.le_refl _
    | with_reducible rfl
    | with_reducible exact ⟨rfl, rfl, rfl⟩
    | with_reducible intro _
    | split
    | dsimp only)

theorem keeps_advanceB (hm : Sub 8457896 M) (g seq : Nat) (s : State) (hk : Fr M s0 s) :
    Fr M s0 (advanceB g seq s) := by
  unfold advanceB
  repeat' (first
    | with_reducible assumption
    | with_reducible apply keeps_foldInputs
    | with_reducible apply keeps_deliverUpd
    | with_reducible refine keeps_snd ‹_› ?_
    | ((with_reducible refine sub_of hm ?_); exact rfl)
    | with_reducible exact Nat.le_refl _
    | with_reducible rfl
    | with_reducible exact ⟨rfl, rfl, rfl⟩
    | with_reducible intro _
    | split
    | dsimp only)

theorem keeps_advanceCtx (hm : Sub 8457896 M) (g seq : Nat) (s : State) (hk : Fr M s0 s) :
    Fr M s0 (advanceCtx g seq s) := by
  unfold advanceCtx
  repeat' (first
    | with_reducible assumption
    | with_reducible apply keeps_advanceRack
    | with_reducible apply keeps_advanceA
    | with_reducible apply keeps_advanceB
    | ((with_reducible refine sub_of hm ?_); exact rfl)
    | with_reducible exact Nat.le_refl _
    | with_reducible rfl
    | with_reducible exact ⟨rfl, rfl, rfl⟩
    | with_reducible intro _
    | split
    | dsimp only)

theorem keeps_busyUpd (hm : Sub 8392352 M) (e : QEnt) (s : State) (hk : Fr M s0 s) :
    Fr M s0 (busyUpd e s) := by
  unfold busyUpd
  repeat' (first
    | with_reducible assumption
    | with_reducible apply keeps_onTile
    | with_reducible apply keeps_record
    | with_reducible apply keeps_dropEnt
    | with_reducible apply keeps_nack
    | ((with_reducible refine sub_of hm ?_); exact rfl)
    | with_reducible exact Nat.le_refl _
    | with_reducible rfl
    | with_reducible exact ⟨rfl, rfl, rfl⟩
    | with_reducible intro _
    | split
    | dsimp only)

theorem keeps_withCtx (hm : Sub 42012320 M) (e : QEnt) (act : State → State) (s : State) (hf_act : ∀ x0, Fr M s0 x0 → Fr M s0 (act x0)) (hk : Fr M s0 s) :
    Fr M s0 (withCtx e act s) := by
  unfold withCtx
  repeat' (first
    | with_reducible assumption
    | with_reducible apply keeps_act
    | with_reducible apply keeps_dropEnt
    | with_reducible apply keeps_onGroup
    | with_reducible apply keeps_openSeq
    | with_reducible apply keeps_mismatch
    | with_reducible apply keeps_claimCtx
    | with_reducible apply keeps_busyUpd
    | with_reducible apply hf_act
    | with_reducible refine keepsO_get ‹_› ?_
    | ((with_reducible refine sub_of hm ?_); exact rfl)
    | with_reducible exact Nat.le_refl _
    | with_reducible rfl
    | with_reducible exact ⟨rfl, rfl, rfl⟩
    | with_reducible intro _
    | split
    | dsimp only)

theorem keeps_updGate (hm : Sub 8391840 M) (e : QEnt) (f : QEnt → State → State) (s : State) (hf_f : ∀ x0 x1, Fr M s0 x1 → Fr M s0 (f x0 x1)) (hk : Fr M s0 s) :
    Fr M s0 (updGate e f s) := by
  unfold updGate
  repeat' (first
    | with_reducible assumption
    | with_reducible apply keeps_dropEnt
    | with_reducible apply keeps_onGroup
    | with_reducible apply keeps_badMember
    | with_reducible apply hf_f
    | ((with_reducible refine sub_of hm ?_); exact rfl)
    | with_reducible exact Nat.le_refl _
    | with_reducible rfl
    | with_reducible exact ⟨rfl, rfl, rfl⟩
    | with_reducible intro _
    | split
    | dsimp only)

theorem keeps_sendRefill (hm : Sub 8392360 M) (g seq : Nat) (s : State) (hk : Fr M s0 s) :
    Fr M s0 (sendRefill g seq s) := by
  unfold sendRefill
  repeat' (first
    | with_reducible assumption
    | with_reducible apply keeps_forEach
    | with_reducible apply keeps_sendSweep
    | with_reducible apply keeps_getD
    | ((with_reducible refine sub_of hm ?_); exact rfl)
    | with_reducible exact Nat.le_refl _
    | with_reducible rfl
    | with_reducible exact ⟨rfl, rfl, rfl⟩
    | with_reducible intro _
    | split
    | dsimp only)

theorem keeps_loseCtx (hm : Sub 8457960 M) (g seq : Nat) (s : State) (hk : Fr M s0 s) :
    Fr M s0 (loseCtx g seq s) := by
  unfold loseCtx
  repeat' (first
    | with_reducible assumption
    | with_reducible apply keeps_onTile
    | with_reducible apply keeps_forEach
    | with_reducible apply keeps_record
    | with_reducible apply keeps_coreReport
    | with_reducible apply keeps_inject
    | with_reducible apply keeps_onGroup
    | with_reducible apply keeps_onSeq
    | with_reducible apply keeps_dropSeq
    | with_reducible apply keeps_endSeq
    | with_reducible apply keeps_haltImage
    | with_reducible apply keeps_onCtx
    | with_reducible apply keeps_sweepNotice
    | with_reducible apply keeps_sendRefill
    | with_reducible apply keeps_getD
    | ((with_reducible refine sub_of hm ?_); exact rfl)
    | with_reducible exact Nat.le_refl _
    | with_reducible rfl
    | with_reducible exact ⟨rfl, rfl, rfl⟩
    | with_reducible intro _
    | split
    | dsimp only)

theorem keeps_updBad (hm : Sub 8457952 M) (e : QEnt) (s : State) (hk : Fr M s0 s) :
    Fr M s0 (updBad e s) := by
  unfold updBad
  repeat' (first
    | with_reducible assumption
    | with_reducible apply keeps_onDie
    | with_reducible apply keeps_coreReport
    | with_reducible apply keeps_dropEnt
    | with_reducible apply keeps_nack
    | with_reducible apply keeps_frameLost
    | ((with_reducible refine sub_of hm ?_); exact rfl)
    | with_reducible exact Nat.le_refl _
    | with_reducible rfl
    | with_reducible exact ⟨rfl, rfl, rfl⟩
    | with_reducible intro _
    | split
    | dsimp only)

theorem keeps_consumeC1 (hm : Sub 8457960 M) (d : Nat) (bad parity : Bool) (p : Frame → Bool) (f : QEnt → State → State) (s : State) (hf_f : ∀ x0 x1, Fr M s0 x1 → Fr M s0 (f x0 x1)) (hk : Fr M s0 s) :
    Fr M s0 (consumeC1 d bad parity p f s) := by
  unfold consumeC1
  repeat' (first
    | with_reducible assumption
    | with_reducible apply keeps_whenS
    | with_reducible apply keeps_onCons
    | with_reducible apply keeps_updGate
    | with_reducible apply keeps_loseCtx
    | with_reducible apply keeps_updBad
    | with_reducible apply hf_f
    | ((with_reducible refine sub_of hm ?_); exact rfl)
    | with_reducible exact Nat.le_refl _
    | with_reducible rfl
    | with_reducible exact ⟨rfl, rfl, rfl⟩
    | with_reducible intro _
    | split
    | dsimp only)

theorem keeps_takeMember (hm : Sub 42012328 M) (e : QEnt) (s : State) (hk : Fr M s0 s) :
    Fr M s0 (takeMember e s) := by
  unfold takeMember
  repeat' (first
    | with_reducible assumption
    | with_reducible apply keeps_onGroup
    | with_reducible apply keeps_auditPiece
    | with_reducible apply keeps_mismatch
    | with_reducible apply keeps_badMember
    | with_reducible apply keeps_onCtx
    | with_reducible apply keeps_advanceCtx
    | with_reducible apply keeps_withCtx
    | ((with_reducible refine sub_of hm ?_); exact rfl)
    | with_reducible exact Nat.le_refl _
    | with_reducible rfl
    | with_reducible exact ⟨rfl, rfl, rfl⟩
    | with_reducible intro _
    | split
    | dsimp only)

theorem keeps_execUpdraftMemberRx (hm : Sub 42012392 M) (d : Nat) (bad parity : Bool) (s : State) (hk : Fr M s0 s) :
    KeepsX M s0 (execUpdraftMemberRx d bad parity s) := by
  unfold execUpdraftMemberRx
  repeat' (first
    | with_reducible assumption
    | with_reducible apply keeps_consumeC1
    | with_reducible apply keeps_takeMember
    | with_reducible apply keepsX_next
    | with_reducible exact keepsX_fault
    | with_reducible exact keepsX_refused
    | ((with_reducible refine sub_of hm ?_); exact rfl)
    | with_reducible exact Nat.le_refl _
    | with_reducible rfl
    | with_reducible exact ⟨rfl, rfl, rfl⟩
    | with_reducible intro _
    | split
    | dsimp only)

theorem keeps_passOn (hm : Sub 8392360 M) (g : Nat) (home : Nat) (post : Bool) (f : Frame) (s : State) (hk : Fr M s0 s) :
    Fr M s0 (passOn g home post f s) := by
  unfold passOn
  repeat' (first
    | with_reducible assumption
    | with_reducible apply keeps_post
    | with_reducible apply keeps_sendSweep
    | ((with_reducible refine sub_of hm ?_); exact rfl)
    | with_reducible exact Nat.le_refl _
    | with_reducible rfl
    | with_reducible exact ⟨rfl, rfl, rfl⟩
    | with_reducible intro _
    | split
    | dsimp only)

theorem keeps_takeSweep (hm : Sub 42012328 M) (e : QEnt) (s : State) (hk : Fr M s0 s) :
    Fr M s0 (takeSweep e s) := by
  unfold takeSweep
  repeat' (first
    | with_reducible assumption
    | with_reducible apply keeps_onGroup
    | with_reducible apply keeps_mismatch
    | with_reducible apply keeps_onCtx
    | with_reducible apply keeps_advanceCtx
    | with_reducible apply keeps_withCtx
    | with_reducible apply keeps_passOn
    | ((with_reducible refine sub_of hm ?_); exact rfl)
    | with_reducible exact Nat.le_refl _
    | with_reducible rfl
    | with_reducible exact ⟨rfl, rfl, rfl⟩
    | with_reducible intro _
    | split
    | dsimp only)

theorem keeps_takeFinal (hm : Sub 8391840 M) (e : QEnt) (s : State) (hk : Fr M s0 s) :
    Fr M s0 (takeFinal e s) := by
  unfold takeFinal
  repeat' (first
    | with_reducible assumption
    | with_reducible apply keeps_dropEnt
    | with_reducible apply keeps_onCtx
    | ((with_reducible refine sub_of hm ?_); exact rfl)
    | with_reducible exact Nat.le_refl _
    | with_reducible rfl
    | with_reducible exact ⟨rfl, rfl, rfl⟩
    | with_reducible intro _
    | split
    | dsimp only)

theorem keeps_execSweepRx (hm : Sub 42012392 M) (d : Nat) (bad parity : Bool) (s : State) (hk : Fr M s0 s) :
    KeepsX M s0 (execSweepRx d bad parity s) := by
  unfold execSweepRx
  repeat' (first
    | with_reducible assumption
    | with_reducible apply keeps_consumeC1
    | with_reducible apply keeps_takeSweep
    | with_reducible apply keeps_takeFinal
    | with_reducible apply keepsX_next
    | with_reducible exact keepsX_fault
    | with_reducible exact keepsX_refused
    | ((with_reducible refine sub_of hm ?_); exact rfl)
    | with_reducible exact Nat.le_refl _
    | with_reducible rfl
    | with_reducible exact ⟨rfl, rfl, rfl⟩
    | with_reducible intro _
    | split
    | dsimp only)

theorem keeps_takeDone (hm : Sub 8392360 M) (e : QEnt) (s : State) (hk : Fr M s0 s) :
    Fr M s0 (takeDone e s) := by
  unfold takeDone
  repeat' (first
    | with_reducible assumption
    | with_reducible apply keeps_dropEnt
    | with_reducible apply keeps_onCtx
    | with_reducible apply keeps_checkCtx
    | with_reducible apply keeps_passOn
    | ((with_reducible refine sub_of hm ?_); exact rfl)
    | with_reducible exact Nat.le_refl _
    | with_reducible rfl
    | with_reducible exact ⟨rfl, rfl, rfl⟩
    | with_reducible intro _
    | split
    | dsimp only)

theorem keeps_execUpdraftDoneNoticeRx (hm : Sub 8457960 M) (d : Nat) (bad : Bool) (s : State) (hk : Fr M s0 s) :
    KeepsX M s0 (execUpdraftDoneNoticeRx d bad s) := by
  unfold execUpdraftDoneNoticeRx
  repeat' (first
    | with_reducible assumption
    | with_reducible apply keeps_consumeC1
    | with_reducible apply keeps_takeDone
    | with_reducible apply keepsX_next
    | with_reducible exact keepsX_fault
    | with_reducible exact keepsX_refused
    | ((with_reducible refine sub_of hm ?_); exact rfl)
    | with_reducible exact Nat.le_refl _
    | with_reducible rfl
    | with_reducible exact ⟨rfl, rfl, rfl⟩
    | with_reducible intro _
    | split
    | dsimp only)

theorem keeps_takeRefill (hm : Sub 8392360 M) (e : QEnt) (s : State) (hk : Fr M s0 s) :
    Fr M s0 (takeRefill e s) := by
  unfold takeRefill
  repeat' (first
    | with_reducible assumption
    | with_reducible apply keeps_onCoreR
    | with_reducible apply keeps_forEach
    | with_reducible apply keeps_dropEnt
    | with_reducible apply keeps_liftLp
    | with_reducible apply keeps_sendSweep
    | with_reducible apply keeps_getD
    | ((with_reducible refine sub_of hm ?_); exact rfl)
    | with_reducible exact Nat.le_refl _
    | with_reducible rfl
    | with_reducible exact ⟨rfl, rfl, rfl⟩
    | with_reducible intro _
    | split
    | dsimp only)

theorem keeps_execRefillRx (hm : Sub 8457960 M) (d : Nat) (bad : Bool) (s : State) (hk : Fr M s0 s) :
    KeepsX M s0 (execRefillRx d bad s) := by
  unfold execRefillRx
  repeat' (first
    | with_reducible assumption
    | with_reducible apply keeps_consumeC1
    | with_reducible apply keeps_takeRefill
    | with_reducible apply keepsX_next
    | with_reducible exact keepsX_fault
    | with_reducible exact keepsX_refused
    | ((with_reducible refine sub_of hm ?_); exact rfl)
    | with_reducible exact Nat.le_refl _
    | with_reducible rfl
    | with_reducible exact ⟨rfl, rfl, rfl⟩
    | with_reducible intro _
    | split
    | dsimp only)

theorem keeps_takeInterrupted (hm : Sub 8457896 M) (e : QEnt) (s : State) (hk : Fr M s0 s) :
    Fr M s0 (takeInterrupted e s) := by
  unfold takeInterrupted
  repeat' (first
    | with_reducible assumption
    | with_reducible apply keeps_dropEnt
    | with_reducible apply keeps_dropSeq
    | with_reducible apply keeps_endSeq
    | with_reducible apply keeps_sweepNotice
    | with_reducible apply keeps_passOn
    | ((with_reducible refine sub_of hm ?_); exact rfl)
    | with_reducible exact Nat.le_refl _
    | with_reducible rfl
    | with_reducible exact ⟨rfl, rfl, rfl⟩
    | with_reducible intro _
    | split
    | dsimp only)

theorem keeps_execInterruptedNoticeRx (hm : Sub 8457960 M) (d : Nat) (bad : Bool) (s : State) (hk : Fr M s0 s) :
    KeepsX M s0 (execInterruptedNoticeRx d bad s) := by
  unfold execInterruptedNoticeRx
  repeat' (first
    | with_reducible assumption
    | with_reducible apply keeps_consumeC1
    | with_reducible apply keeps_takeInterrupted
    | with_reducible apply keepsX_next
    | with_reducible exact keepsX_fault
    | with_reducible exact keepsX_refused
    | ((with_reducible refine sub_of hm ?_); exact rfl)
    | with_reducible exact Nat.le_refl _
    | with_reducible rfl
    | with_reducible exact ⟨rfl, rfl, rfl⟩
    | with_reducible intro _
    | split
    | dsimp only)

theorem keeps_execUpdraftResend (hm : Sub 8391328 M) (d : Nat) (s : State) (hk : Fr M s0 s) :
    KeepsX M s0 (execUpdraftResend d s) := by
  unfold execUpdraftResend
  repeat' (first
    | with_reducible assumption
    | with_reducible apply keeps_onCoreR
    | with_reducible apply keeps_onTile
    | with_reducible apply keeps_liftLp
    | with_reducible apply keeps_sendC1
    | with_reducible apply keepsX_next
    | with_reducible exact keepsX_fault
    | with_reducible exact keepsX_refused
    | with_reducible apply keeps_getD
    | ((with_reducible refine sub_of hm ?_); exact rfl)
    | with_reducible exact Nat.le_refl _
    | with_reducible rfl
    | with_reducible exact ⟨rfl, rfl, rfl⟩
    | with_reducible intro _
    | split
    | dsimp only)

/-! ### GroupCmds -/

theorem keeps_execGroupConfig (hm : Sub 15730190 M) (q : Req) (s : State) (hk : Fr M s0 s) :
    KeepsX M s0 (execGroupConfig q s) := by
  unfold execGroupConfig
  repeat' (first
    | with_reducible assumption
    | with_reducible apply keeps_modSet
    | with_reducible apply keeps_runCommand
    | with_reducible apply keeps_act
    | with_reducible apply keepsX_next
    | with_reducible exact keepsX_fault
    | with_reducible exact keepsX_refused
    | ((with_reducible refine sub_of hm ?_); exact rfl)
    | with_reducible exact Nat.le_refl _
    | with_reducible rfl
    | with_reducible exact ⟨rfl, rfl, rfl⟩
    | with_reducible intro _
    | split
    | dsimp only)

theorem keeps_enableGroup (hm : Sub 6293504 M) (g base : Nat) (s : State) (hk : Fr M s0 s) :
    Fr M s0 (enableGroup g base s) := by
  unfold enableGroup
  repeat' (first
    | with_reducible assumption
    | with_reducible apply keeps_modSet
    | with_reducible apply keeps_onGroup
    | ((with_reducible refine sub_of hm ?_); exact rfl)
    | with_reducible exact Nat.le_refl _
    | with_reducible rfl
    | with_reducible exact ⟨rfl, rfl, rfl⟩
    | with_reducible intro _
    | split
    | dsimp only)

theorem keeps_execGroupEnable (hm : Sub 15732238 M) (q : Req) (s : State) (hk : Fr M s0 s) :
    KeepsX M s0 (execGroupEnable q s) := by
  unfold execGroupEnable
  repeat' (first
    | with_reducible assumption
    | with_reducible apply keeps_plain
    | with_reducible apply keeps_act
    | with_reducible apply keeps_enableGroup
    | with_reducible apply keepsX_next
    | with_reducible exact keepsX_fault
    | with_reducible exact keepsX_refused
    | ((with_reducible refine sub_of hm ?_); exact rfl)
    | with_reducible exact Nat.le_refl _
    | with_reducible rfl
    | with_reducible exact ⟨rfl, rfl, rfl⟩
    | with_reducible intro _
    | split
    | dsimp only)

theorem keeps_execGroupDisable (hm : Sub 9438734 M) (q : Req) (s : State) (hk : Fr M s0 s) :
    KeepsX M s0 (execGroupDisable q s) := by
  unfold execGroupDisable
  repeat' (first
    | with_reducible assumption
    | with_reducible apply keeps_longOp
    | with_reducible apply keepsX_next
    | with_reducible exact keepsX_fault
    | with_reducible exact keepsX_refused
    | ((with_reducible refine sub_of hm ?_); exact rfl)
    | with_reducible exact Nat.le_refl _
    | with_reducible rfl
    | with_reducible exact ⟨rfl, rfl, rfl⟩
    | with_reducible intro _
    | split
    | dsimp only)

theorem keeps_startGroupDisable (hm : Sub 15797934 M) (tk g : Nat) (s : State) (hk : Fr M s0 s) :
    Fr M s0 (startGroupDisable tk g s) := by
  unfold startGroupDisable
  repeat' (first
    | with_reducible assumption
    | with_reducible apply keeps_modSet
    | with_reducible apply keeps_forEach
    | with_reducible apply keeps_ticketFail
    | with_reducible apply keeps_onGroup
    | with_reducible apply keeps_failSeq
    | ((with_reducible refine sub_of hm ?_); exact rfl)
    | with_reducible exact Nat.le_refl _
    | with_reducible rfl
    | with_reducible exact ⟨rfl, rfl, rfl⟩
    | with_reducible intro _
    | split
    | dsimp only)

theorem keeps_execGroupAbort (hm : Sub 9506478 M) (q : Req) (s : State) (hk : Fr M s0 s) :
    KeepsX M s0 (execGroupAbort q s) := by
  unfold execGroupAbort
  repeat' (first
    | with_reducible assumption
    | with_reducible apply keeps_plain
    | with_reducible apply keeps_act
    | with_reducible apply keeps_failSeq
    | with_reducible apply keepsX_next
    | with_reducible exact keepsX_fault
    | with_reducible exact keepsX_refused
    | ((with_reducible refine sub_of hm ?_); exact rfl)
    | with_reducible exact Nat.le_refl _
    | with_reducible rfl
    | with_reducible exact ⟨rfl, rfl, rfl⟩
    | with_reducible intro _
    | split
    | dsimp only)

theorem keeps_clearGroup (hm : Sub 8391840 M) (g : Nat) (s : State) (hk : Fr M s0 s) :
    Fr M s0 (clearGroup g s) := by
  unfold clearGroup
  repeat' (first
    | with_reducible assumption
    | with_reducible apply keeps_onGroup
    | with_reducible apply keeps_badMember
    | ((with_reducible refine sub_of hm ?_); exact rfl)
    | with_reducible exact Nat.le_refl _
    | with_reducible rfl
    | with_reducible exact ⟨rfl, rfl, rfl⟩
    | with_reducible intro _
    | split
    | dsimp only)

theorem keeps_execGroupQuery (hm : Sub 9440942 M) (q : Req) (s : State) (hk : Fr M s0 s) :
    KeepsX M s0 (execGroupQuery q s) := by
  unfold execGroupQuery
  repeat' (first
    | with_reducible assumption
    | with_reducible apply keeps_whenS
    | with_reducible apply keeps_plain
    | with_reducible apply keeps_clearGroup
    | with_reducible apply keepsX_next
    | with_reducible exact keepsX_fault
    | with_reducible exact keepsX_refused
    | ((with_reducible refine sub_of hm ?_); exact rfl)
    | with_reducible exact Nat.le_refl _
    | with_reducible rfl
    | with_reducible exact ⟨rfl, rfl, rfl⟩
    | with_reducible intro _
    | split
    | dsimp only)

theorem keeps_execGroupMissing (hm : Sub 9438734 M) (q : Req) (s : State) (hk : Fr M s0 s) :
    KeepsX M s0 (execGroupMissing q s) := by
  unfold execGroupMissing
  repeat' (first
    | with_reducible assumption
    | with_reducible apply keeps_plain
    | with_reducible apply keeps_ans
    | with_reducible apply keepsX_next
    | with_reducible exact keepsX_fault
    | with_reducible exact keepsX_refused
    | ((with_reducible refine sub_of hm ?_); exact rfl)
    | with_reducible exact Nat.le_refl _
    | with_reducible rfl
    | with_reducible exact ⟨rfl, rfl, rfl⟩
    | with_reducible intro _
    | split
    | dsimp only)

theorem keeps_execGroupPoolquery (hm : Sub 9438734 M) (q : Req) (s : State) (hk : Fr M s0 s) :
    KeepsX M s0 (execGroupPoolquery q s) := by
  unfold execGroupPoolquery
  repeat' (first
    | with_reducible assumption
    | with_reducible apply keeps_plain
    | with_reducible apply keeps_ans
    | with_reducible apply keepsX_next
    | with_reducible exact keepsX_fault
    | with_reducible exact keepsX_refused
    | ((with_reducible refine sub_of hm ?_); exact rfl)
    | with_reducible exact Nat.le_refl _
    | with_reducible rfl
    | with_reducible exact ⟨rfl, rfl, rfl⟩
    | with_reducible intro _
    | split
    | dsimp only)

theorem keeps_execGroupUpdquery (hm : Sub 9438734 M) (q : Req) (s : State) (hk : Fr M s0 s) :
    KeepsX M s0 (execGroupUpdquery q s) := by
  unfold execGroupUpdquery
  repeat' (first
    | with_reducible assumption
    | with_reducible apply keeps_plain
    | with_reducible apply keeps_ans
    | with_reducible apply keepsX_next
    | with_reducible exact keepsX_fault
    | with_reducible exact keepsX_refused
    | ((with_reducible refine sub_of hm ?_); exact rfl)
    | with_reducible exact Nat.le_refl _
    | with_reducible rfl
    | with_reducible exact ⟨rfl, rfl, rfl⟩
    | with_reducible intro _
    | split
    | dsimp only)

theorem keeps_clearLatch (hm : Sub 2048 M) (g : Nat) (s : State) (hk : Fr M s0 s) :
    Fr M s0 (clearLatch g s) := by
  unfold clearLatch
  repeat' (first
    | with_reducible assumption
    | with_reducible apply keeps_onGroup
    | ((with_reducible refine sub_of hm ?_); exact rfl)
    | with_reducible exact Nat.le_refl _
    | with_reducible rfl
    | with_reducible exact ⟨rfl, rfl, rfl⟩
    | with_reducible intro _
    | split
    | dsimp only)

theorem keeps_execGroupNanread (hm : Sub 9440782 M) (q : Req) (s : State) (hk : Fr M s0 s) :
    KeepsX M s0 (execGroupNanread q s) := by
  unfold execGroupNanread
  repeat' (first
    | with_reducible assumption
    | with_reducible apply keeps_whenS
    | with_reducible apply keeps_runCommand
    | with_reducible apply keeps_clearLatch
    | with_reducible apply keepsX_next
    | with_reducible exact keepsX_fault
    | with_reducible exact keepsX_refused
    | ((with_reducible refine sub_of hm ?_); exact rfl)
    | with_reducible exact Nat.le_refl _
    | with_reducible rfl
    | with_reducible exact ⟨rfl, rfl, rfl⟩
    | with_reducible intro _
    | split
    | dsimp only)

theorem keeps_execGroupUpdcfg (hm : Sub 15730190 M) (q : Req) (s : State) (hk : Fr M s0 s) :
    KeepsX M s0 (execGroupUpdcfg q s) := by
  unfold execGroupUpdcfg
  repeat' (first
    | with_reducible assumption
    | with_reducible apply keeps_modSet
    | with_reducible apply keeps_plain
    | with_reducible apply keeps_act
    | with_reducible apply keepsX_next
    | with_reducible exact keepsX_fault
    | with_reducible exact keepsX_refused
    | ((with_reducible refine sub_of hm ?_); exact rfl)
    | with_reducible exact Nat.le_refl _
    | with_reducible rfl
    | with_reducible exact ⟨rfl, rfl, rfl⟩
    | with_reducible intro _
    | split
    | dsimp only)

theorem keeps_scrubGroup (hm : Sub 6293504 M) (g : Nat) (s : State) (hk : Fr M s0 s) :
    Fr M s0 (scrubGroup g s) := by
  unfold scrubGroup
  repeat' (first
    | with_reducible assumption
    | with_reducible apply keeps_modSet
    | with_reducible apply keeps_onTile
    | ((with_reducible refine sub_of hm ?_); exact rfl)
    | with_reducible exact Nat.le_refl _
    | with_reducible rfl
    | with_reducible exact ⟨rfl, rfl, rfl⟩
    | with_reducible intro _
    | split
    | dsimp only)

end Sys2Proof.Machine
end

