-- ==== Sys2Proof/Laws/KeepsTiles.lean ====
section
/-! SUPPORT. What tiles, slices and ports can change, one lemma per definition: nothing outside the parts given, and nothing that may not be
undone. -/

set_option Elab.async false

namespace Sys2Proof.Machine

set_option linter.all false
variable {M : Nat} {s0 : State}

/-! ### TileCmds -/

theorem keeps_copyImage (hm : Sub 2048 M) (t i p : Nat) (s : State) (hk : Fr M s0 s) :
    Fr M s0 (copyImage t i p s) := by
  unfold copyImage
  repeat' (first
    | with_reducible assumption
    | with_reducible apply keeps_onTileU
    | with_reducible apply keeps_foldl | with_reducible apply keeps_foldlSnd | with_reducible apply keeps_foldlThd | with_reducible apply keeps_elim
    | ((with_reducible refine sub_of hm ?_); exact rfl)
    | with_reducible exact Nat.le_refl _
    | with_reducible rfl
    | with_reducible exact ⟨rfl, rfl, rfl⟩
    | with_reducible intro _
    | split
    | dsimp only)

theorem keeps_loadImem (hm : Sub 2048 M) (t : Nat) (s : State) (hk : Fr M s0 s) :
    Fr M s0 (loadImem t s) := by
  unfold loadImem
  repeat' (first
    | with_reducible assumption
    | with_reducible apply keeps_forEach
    | with_reducible apply keeps_copyImage
    | ((with_reducible refine sub_of hm ?_); exact rfl)
    | with_reducible exact Nat.le_refl _
    | with_reducible rfl
    | with_reducible exact ⟨rfl, rfl, rfl⟩
    | with_reducible intro _
    | split
    | dsimp only)

theorem keeps_syncDie (hm : Sub 2048 M) (d : Nat) (s : State) (hk : Fr M s0 s) :
    Fr M s0 (syncDie d s) := by
  unfold syncDie
  repeat' (first
    | with_reducible assumption
    | with_reducible apply keeps_onTile
    | with_reducible apply keeps_forEach
    | with_reducible apply keeps_copyImage
    | ((with_reducible refine sub_of hm ?_); exact rfl)
    | with_reducible exact Nat.le_refl _
    | with_reducible rfl
    | with_reducible exact ⟨rfl, rfl, rfl⟩
    | with_reducible intro _
    | split
    | dsimp only)

theorem keeps_syncImem (hm : Sub 2048 M) (s : State) (hk : Fr M s0 s) :
    Fr M s0 (syncImem s) := by
  unfold syncImem
  repeat' (first
    | with_reducible assumption
    | with_reducible apply keeps_forEach
    | with_reducible apply keeps_syncDie
    | ((with_reducible refine sub_of hm ?_); exact rfl)
    | with_reducible exact Nat.le_refl _
    | with_reducible rfl
    | with_reducible exact ⟨rfl, rfl, rfl⟩
    | with_reducible intro _
    | split
    | dsimp only)

theorem keeps_stopActive (hm : Sub 2048 M) (t : Nat) (s : State) (hk : Fr M s0 s) :
    Fr M s0 (stopActive t s) := by
  unfold stopActive
  repeat' (first
    | with_reducible assumption
    | with_reducible apply keeps_onTileU
    | ((with_reducible refine sub_of hm ?_); exact rfl)
    | with_reducible exact Nat.le_refl _
    | with_reducible rfl
    | with_reducible exact ⟨rfl, rfl, rfl⟩
    | with_reducible intro _
    | split
    | dsimp only)

theorem keeps_loseTile (hm : Sub 8486880 M) (t : Nat) (s : State) (hk : Fr M s0 s) :
    Fr M s0 (loseTile t s) := by
  unfold loseTile
  repeat' (first
    | with_reducible assumption
    | with_reducible apply keeps_forEach
    | with_reducible apply keeps_chunkLost
    | ((with_reducible refine sub_of hm ?_); exact rfl)
    | with_reducible exact Nat.le_refl _
    | with_reducible rfl
    | with_reducible exact ⟨rfl, rfl, rfl⟩
    | with_reducible intro _
    | split
    | dsimp only)

theorem keeps_isolateTile (hm : Sub 8486880 M) (t : Nat) (s : State) (hk : Fr M s0 s) :
    Fr M s0 (isolateTile t s) := by
  unfold isolateTile
  repeat' (first
    | with_reducible assumption
    | with_reducible apply keeps_onTileU
    | with_reducible apply keeps_stopActive
    | with_reducible apply keeps_loseTile
    | ((with_reducible refine sub_of hm ?_); exact rfl)
    | with_reducible exact Nat.le_refl _
    | with_reducible rfl
    | with_reducible exact ⟨rfl, rfl, rfl⟩
    | with_reducible intro _
    | split
    | dsimp only)

theorem keeps_unpowerTile (hm : Sub 8486880 M) (t : Nat) (s : State) (hk : Fr M s0 s) :
    Fr M s0 (unpowerTile t s) := by
  unfold unpowerTile
  repeat' (first
    | with_reducible assumption
    | with_reducible apply keeps_onTileU
    | with_reducible apply keeps_spadZero
    | with_reducible apply keeps_stopActive
    | with_reducible apply keeps_loseTile
    | ((with_reducible refine sub_of hm ?_); exact rfl)
    | with_reducible exact Nat.le_refl _
    | with_reducible rfl
    | with_reducible exact ⟨rfl, rfl, rfl⟩
    | with_reducible intro _
    | split
    | dsimp only)

theorem keeps_scrubTile (hm : Sub 6144 M) (t : Nat) (s : State) (hk : Fr M s0 s) :
    Fr M s0 (scrubTile t s) := by
  unfold scrubTile
  repeat' (first
    | with_reducible assumption
    | with_reducible apply keeps_onTileU
    | with_reducible apply keeps_spadZero
    | with_reducible apply keeps_liftTile
    | with_reducible apply keeps_loadImem
    | ((with_reducible refine sub_of hm ?_); exact rfl)
    | with_reducible exact Nat.le_refl _
    | with_reducible rfl
    | with_reducible exact ⟨rfl, rfl, rfl⟩
    | with_reducible intro _
    | split
    | dsimp only)

theorem keeps_releaseTile (hm : Sub 6144 M) (t : Nat) (s : State) (hk : Fr M s0 s) :
    Fr M s0 (releaseTile t s) := by
  unfold releaseTile
  repeat' (first
    | with_reducible assumption
    | with_reducible apply keeps_onTileU
    | with_reducible apply keeps_scrubTile
    | ((with_reducible refine sub_of hm ?_); exact rfl)
    | with_reducible exact Nat.le_refl _
    | with_reducible rfl
    | with_reducible exact ⟨rfl, rfl, rfl⟩
    | with_reducible intro _
    | split
    | dsimp only)

theorem keeps_execTileIdleGate (hm : Sub 2048 M) (t : Nat) (s : State) (hk : Fr M s0 s) :
    KeepsX M s0 (execTileIdleGate t s) := by
  unfold execTileIdleGate
  repeat' (first
    | with_reducible assumption
    | with_reducible apply keeps_onTileU
    | with_reducible apply keeps_stopActive
    | with_reducible apply keepsX_next
    | with_reducible exact keepsX_fault
    | with_reducible exact keepsX_refused
    | ((with_reducible refine sub_of hm ?_); exact rfl)
    | with_reducible exact Nat.le_refl _
    | with_reducible rfl
    | with_reducible exact ⟨rfl, rfl, rfl⟩
    | with_reducible intro _
    | split
    | dsimp only)

theorem keeps_execTileLiftDone (hm : Sub 2048 M) (t : Nat) (s : State) (hk : Fr M s0 s) :
    KeepsX M s0 (execTileLiftDone t s) := by
  unfold execTileLiftDone
  repeat' (first
    | with_reducible assumption
    | with_reducible apply keeps_onTileU
    | with_reducible apply keepsX_next
    | with_reducible exact keepsX_fault
    | with_reducible exact keepsX_refused
    | ((with_reducible refine sub_of hm ?_); exact rfl)
    | with_reducible exact Nat.le_refl _
    | with_reducible rfl
    | with_reducible exact ⟨rfl, rfl, rfl⟩
    | with_reducible intro _
    | split
    | dsimp only)

theorem keeps_execTileReloadDone (hm : Sub 2048 M) (t : Nat) (s : State) (hk : Fr M s0 s) :
    KeepsX M s0 (execTileReloadDone t s) := by
  unfold execTileReloadDone
  repeat' (first
    | with_reducible assumption
    | with_reducible apply keeps_onTileU
    | with_reducible apply keeps_loadImem
    | with_reducible apply keepsX_next
    | with_reducible exact keepsX_fault
    | with_reducible exact keepsX_refused
    | ((with_reducible refine sub_of hm ?_); exact rfl)
    | with_reducible exact Nat.le_refl _
    | with_reducible rfl
    | with_reducible exact ⟨rfl, rfl, rfl⟩
    | with_reducible intro _
    | split
    | dsimp only)

theorem keeps_execTileQuery (hm : Sub 9438734 M) (q : Req) (s : State) (hk : Fr M s0 s) :
    KeepsX M s0 (execTileQuery q s) := by
  unfold execTileQuery
  repeat' (first
    | with_reducible assumption
    | with_reducible apply keeps_plain
    | with_reducible apply keeps_ans
    | with_reducible apply keepsX_next
    | with_reducible exact keepsX_fault
    | with_reducible exact keepsX_refused
    | ((with_reducible refine sub_of hm ?_); exact rfl)
    | with_reducible exact Nat.le_refl _
    | with_reducible rfl
    | with_reducible exact ⟨rfl, rfl, rfl⟩
    | with_reducible intro _
    | split
    | dsimp only)

theorem keeps_setTilePower (hm : Sub 6293504 M) (t pol idle : Nat) (s : State) (hk : Fr M s0 s) :
    Fr M s0 (setTilePower t pol idle s) := by
  unfold setTilePower
  repeat' (first
    | with_reducible assumption
    | with_reducible apply keeps_modSet
    | with_reducible apply keeps_whenS
    | with_reducible apply keeps_liftTile
    | ((with_reducible refine sub_of hm ?_); exact rfl)
    | with_reducible exact Nat.le_refl _
    | with_reducible rfl
    | with_reducible exact ⟨rfl, rfl, rfl⟩
    | with_reducible intro _
    | split
    | dsimp only)

theorem keeps_execTilePower (hm : Sub 15732238 M) (q : Req) (s : State) (hk : Fr M s0 s) :
    KeepsX M s0 (execTilePower q s) := by
  unfold execTilePower
  repeat' (first
    | with_reducible assumption
    | with_reducible apply keeps_forEach
    | with_reducible apply keeps_plain
    | with_reducible apply keeps_act
    | with_reducible apply keeps_setTilePower
    | with_reducible apply keepsX_next
    | with_reducible exact keepsX_fault
    | with_reducible exact keepsX_refused
    | ((with_reducible refine sub_of hm ?_); exact rfl)
    | with_reducible exact Nat.le_refl _
    | with_reducible rfl
    | with_reducible exact ⟨rfl, rfl, rfl⟩
    | with_reducible intro _
    | split
    | dsimp only)

theorem keeps_execTileSelftest (hm : Sub 9438734 M) (q : Req) (s : State) (hk : Fr M s0 s) :
    KeepsX M s0 (execTileSelftest q s) := by
  unfold execTileSelftest
  repeat' (first
    | with_reducible assumption
    | with_reducible apply keeps_longOp
    | with_reducible apply keepsX_next
    | with_reducible exact keepsX_fault
    | with_reducible exact keepsX_refused
    | ((with_reducible refine sub_of hm ?_); exact rfl)
    | with_reducible exact Nat.le_refl _
    | with_reducible rfl
    | with_reducible exact ⟨rfl, rfl, rfl⟩
    | with_reducible intro _
    | split
    | dsimp only)

theorem keeps_noteSelftest (hm : Sub 8394784 M) (t failed : Nat) (s : State) (hk : Fr M s0 s) :
    Fr M s0 (noteSelftest t failed s) := by
  unfold noteSelftest
  repeat' (first
    | with_reducible assumption
    | with_reducible apply keeps_onTileU
    | with_reducible apply keeps_record
    | with_reducible apply keeps_report
    | with_reducible apply keeps_scrubTile
    | ((with_reducible refine sub_of hm ?_); exact rfl)
    | with_reducible exact Nat.le_refl _
    | with_reducible rfl
    | with_reducible exact ⟨rfl, rfl, rfl⟩
    | with_reducible intro _
    | split
    | dsimp only)

theorem keeps_execTileSelftestDone (hm : Sub 9444910 M) (tk : Nat) (failed : List Nat) (s : State) (hk : Fr M s0 s) :
    KeepsX M s0 (execTileSelftestDone tk failed s) := by
  unfold execTileSelftestDone
  repeat' (first
    | with_reducible assumption
    | with_reducible apply keeps_forEach
    | with_reducible apply keeps_ticketDone
    | with_reducible apply keeps_noteSelftest
    | with_reducible apply keepsX_next
    | with_reducible exact keepsX_fault
    | with_reducible exact keepsX_refused
    | with_reducible apply keeps_getD
    | ((with_reducible refine sub_of hm ?_); exact rfl)
    | with_reducible exact Nat.le_refl _
    | with_reducible rfl
    | with_reducible exact ⟨rfl, rfl, rfl⟩
    | with_reducible intro _
    | split
    | dsimp only)

theorem keeps_execTileLoad (hm : Sub 9438734 M) (q : Req) (s : State) (hk : Fr M s0 s) :
    KeepsX M s0 (execTileLoad q s) := by
  unfold execTileLoad
  repeat' (first
    | with_reducible assumption
    | with_reducible apply keeps_longOp
    | with_reducible apply keepsX_next
    | with_reducible exact keepsX_fault
    | with_reducible exact keepsX_refused
    | ((with_reducible refine sub_of hm ?_); exact rfl)
    | with_reducible exact Nat.le_refl _
    | with_reducible rfl
    | with_reducible exact ⟨rfl, rfl, rfl⟩
    | with_reducible intro _
    | split
    | dsimp only)

theorem keeps_finishTileLoad (hm : Sub 9440782 M) (tk : Nat) (s : State) (hk : Fr M s0 s) :
    Fr M s0 (finishTileLoad tk s) := by
  unfold finishTileLoad
  repeat' (first
    | with_reducible assumption
    | with_reducible apply keeps_onTile
    | with_reducible apply keeps_ticketDone
    | ((with_reducible refine sub_of hm ?_); exact rfl)
    | with_reducible exact Nat.le_refl _
    | with_reducible rfl
    | with_reducible exact ⟨rfl, rfl, rfl⟩
    | with_reducible intro _
    | split
    | dsimp only)

theorem keeps_execTileUnload (hm : Sub 9440782 M) (q : Req) (s : State) (hk : Fr M s0 s) :
    KeepsX M s0 (execTileUnload q s) := by
  unfold execTileUnload
  repeat' (first
    | with_reducible assumption
    | with_reducible apply keeps_onTile
    | with_reducible apply keeps_plain
    | with_reducible apply keeps_act
    | with_reducible apply keepsX_next
    | with_reducible exact keepsX_fault
    | with_reducible exact keepsX_refused
    | ((with_reducible refine sub_of hm ?_); exact rfl)
    | with_reducible exact Nat.le_refl _
    | with_reducible rfl
    | with_reducible exact ⟨rfl, rfl, rfl⟩
    | with_reducible intro _
    | split
    | dsimp only)

theorem keeps_execTileProgquery (hm : Sub 9438734 M) (q : Req) (s : State) (hk : Fr M s0 s) :
    KeepsX M s0 (execTileProgquery q s) := by
  unfold execTileProgquery
  repeat' (first
    | with_reducible assumption
    | with_reducible apply keeps_plain
    | with_reducible apply keeps_ans
    | with_reducible apply keepsX_next
    | with_reducible exact keepsX_fault
    | with_reducible exact keepsX_refused
    | ((with_reducible refine sub_of hm ?_); exact rfl)
    | with_reducible exact Nat.le_refl _
    | with_reducible rfl
    | with_reducible exact ⟨rfl, rfl, rfl⟩
    | with_reducible intro _
    | split
    | dsimp only)

theorem keeps_execTileUpdbind (hm : Sub 15732238 M) (q : Req) (s : State) (hk : Fr M s0 s) :
    KeepsX M s0 (execTileUpdbind q s) := by
  unfold execTileUpdbind
  repeat' (first
    | with_reducible assumption
    | with_reducible apply keeps_modSet
    | with_reducible apply keeps_plain
    | with_reducible apply keeps_act
    | with_reducible apply keeps_syncImem
    | with_reducible apply keepsX_next
    | with_reducible exact keepsX_fault
    | with_reducible exact keepsX_refused
    | ((with_reducible refine sub_of hm ?_); exact rfl)
    | with_reducible exact Nat.le_refl _
    | with_reducible rfl
    | with_reducible exact ⟨rfl, rfl, rfl⟩
    | with_reducible intro _
    | split
    | dsimp only)

theorem keeps_execTileUpdunbind (hm : Sub 15732238 M) (q : Req) (s : State) (hk : Fr M s0 s) :
    KeepsX M s0 (execTileUpdunbind q s) := by
  unfold execTileUpdunbind
  repeat' (first
    | with_reducible assumption
    | with_reducible apply keeps_modSet
    | with_reducible apply keeps_plain
    | with_reducible apply keeps_act
    | with_reducible apply keeps_syncImem
    | with_reducible apply keepsX_next
    | with_reducible exact keepsX_fault
    | with_reducible exact keepsX_refused
    | ((with_reducible refine sub_of hm ?_); exact rfl)
    | with_reducible exact Nat.le_refl _
    | with_reducible rfl
    | with_reducible exact ⟨rfl, rfl, rfl⟩
    | with_reducible intro _
    | split
    | dsimp only)

theorem keeps_execTileUpdquery (hm : Sub 9438734 M) (q : Req) (s : State) (hk : Fr M s0 s) :
    KeepsX M s0 (execTileUpdquery q s) := by
  unfold execTileUpdquery
  repeat' (first
    | with_reducible assumption
    | with_reducible apply keeps_plain
    | with_reducible apply keeps_ans
    | with_reducible apply keepsX_next
    | with_reducible exact keepsX_fault
    | with_reducible exact keepsX_refused
    | ((with_reducible refine sub_of hm ?_); exact rfl)
    | with_reducible exact Nat.le_refl _
    | with_reducible rfl
    | with_reducible exact ⟨rfl, rfl, rfl⟩
    | with_reducible intro _
    | split
    | dsimp only)

/-! ### TileInsns -/

theorem keeps_stopEntry (hm : Sub 8457888 M) (r : Running) (s : State) (hk : Fr M s0 s) :
    Fr M s0 (stopEntry r s) := by
  unfold stopEntry
  repeat' (first
    | with_reducible assumption
    | with_reducible apply keeps_dropEntries
    | with_reducible apply keeps_interrupt
    | ((with_reducible refine sub_of hm ?_); exact rfl)
    | with_reducible exact Nat.le_refl _
    | with_reducible rfl
    | with_reducible exact ⟨rfl, rfl, rfl⟩
    | with_reducible intro _
    | split
    | dsimp only)

theorem keeps_denied (hm : Sub 8457888 M) (t addr : Nat) (r : Running) (s : State) (hk : Fr M s0 s) :
    Fr M s0 (denied t addr r s) := by
  unfold denied
  repeat' (first
    | with_reducible assumption
    | with_reducible apply keeps_record
    | with_reducible apply keeps_stopEntry
    | with_reducible apply keeps_getD
    | ((with_reducible refine sub_of hm ?_); exact rfl)
    | with_reducible exact Nat.le_refl _
    | with_reducible rfl
    | with_reducible exact ⟨rfl, rfl, rfl⟩
    | with_reducible intro _
    | split
    | dsimp only)

theorem keeps_onRun (hm : Sub 2048 M) (t : Nat) (f : Running → Running) (s : State) (hk : Fr M s0 s) :
    Fr M s0 (onRun t f s) := by
  unfold onRun
  repeat' (first
    | with_reducible assumption
    | with_reducible apply keeps_onTileU
    | ((with_reducible refine sub_of hm ?_); exact rfl)
    | with_reducible exact Nat.le_refl _
    | with_reducible rfl
    | with_reducible exact ⟨rfl, rfl, rfl⟩
    | with_reducible intro _
    | split
    | dsimp only)

theorem keeps_nextPc (hm : Sub 2048 M) (t : Nat) (s : State) (hk : Fr M s0 s) :
    Fr M s0 (nextPc t s) := by
  unfold nextPc
  repeat' (first
    | with_reducible assumption
    | with_reducible apply keeps_onRun
    | ((with_reducible refine sub_of hm ?_); exact rfl)
    | with_reducible exact Nat.le_refl _
    | with_reducible rfl
    | with_reducible exact ⟨rfl, rfl, rfl⟩
    | with_reducible intro _
    | split
    | dsimp only)

theorem keeps_issue (hm : Sub 8457888 M) (t word mask : Nat) (f : Running → State → State) (s : State) (hf_f : ∀ x0 x1, Fr M s0 x1 → Fr M s0 (f x0 x1)) (hk : Fr M s0 s) :
    Fr M s0 (issue t word mask f s) := by
  unfold issue
  repeat' (first
    | with_reducible assumption
    | with_reducible apply keeps_stopEntry
    | with_reducible apply hf_f
    | ((with_reducible refine sub_of hm ?_); exact rfl)
    | with_reducible exact Nat.le_refl _
    | with_reducible rfl
    | with_reducible exact ⟨rfl, rfl, rfl⟩
    | with_reducible intro _
    | split
    | dsimp only)

theorem keeps_setV (hm : Sub 2048 M) (t n v : Nat) (s : State) (hk : Fr M s0 s) :
    Fr M s0 (setV t n v s) := by
  unfold setV
  repeat' (first
    | with_reducible assumption
    | with_reducible apply keeps_onTileU
    | ((with_reducible refine sub_of hm ?_); exact rfl)
    | with_reducible exact Nat.le_refl _
    | with_reducible rfl
    | with_reducible exact ⟨rfl, rfl, rfl⟩
    | with_reducible intro _
    | split
    | dsimp only)

theorem keeps_setS (hm : Sub 2048 M) (t n v : Nat) (s : State) (hk : Fr M s0 s) :
    Fr M s0 (setS t n v s) := by
  unfold setS
  repeat' (first
    | with_reducible assumption
    | with_reducible apply keeps_onTileU
    | ((with_reducible refine sub_of hm ?_); exact rfl)
    | with_reducible exact Nat.le_refl _
    | with_reducible rfl
    | with_reducible exact ⟨rfl, rfl, rfl⟩
    | with_reducible intro _
    | split
    | dsimp only)

theorem keeps_arith (hm : Sub 15929000 M) (t opc vd : Nat) (ins : List (List Nat)) (out : List Nat) (r : Running) (s : State) (hk : Fr M s0 s) :
    Fr M s0 (arith t opc vd ins out r s) := by
  unfold arith
  repeat' (first
    | with_reducible assumption
    | with_reducible apply keeps_forEach
    | with_reducible apply keeps_dropEntries
    | with_reducible apply keeps_latchNan
    | with_reducible apply keeps_nanTrap
    | with_reducible apply keeps_nextPc
    | with_reducible apply keeps_setV
    | with_reducible apply keeps_getD | with_reducible apply keeps_elim
    | ((with_reducible refine sub_of hm ?_); exact rfl)
    | with_reducible exact Nat.le_refl _
    | with_reducible rfl
    | with_reducible exact ⟨rfl, rfl, rfl⟩
    | with_reducible intro _
    | split
    | dsimp only)

theorem keeps_vec2 (hm : Sub 15929000 M) (opc t vd va vb : Nat) (f : Nat → Nat → Nat) (s : State) (hk : Fr M s0 s) :
    Fr M s0 (vec2 opc t vd va vb f s) := by
  unfold vec2
  repeat' (first
    | with_reducible assumption
    | with_reducible apply keeps_issue
    | with_reducible apply keeps_arith
    | ((with_reducible refine sub_of hm ?_); exact rfl)
    | with_reducible exact Nat.le_refl _
    | with_reducible rfl
    | with_reducible exact ⟨rfl, rfl, rfl⟩
    | with_reducible intro _
    | split
    | dsimp only)

theorem keeps_execTileNop (hm : Sub 8457888 M) (t : Nat) (s : State) (hk : Fr M s0 s) :
    KeepsX M s0 (execTileNop t s) := by
  unfold execTileNop
  repeat' (first
    | with_reducible assumption
    | with_reducible apply keeps_nextPc
    | with_reducible apply keeps_issue
    | with_reducible apply keepsX_next
    | with_reducible exact keepsX_fault
    | with_reducible exact keepsX_refused
    | ((with_reducible refine sub_of hm ?_); exact rfl)
    | with_reducible exact Nat.le_refl _
    | with_reducible rfl
    | with_reducible exact ⟨rfl, rfl, rfl⟩
    | with_reducible intro _
    | split
    | dsimp only)

theorem keeps_execVadd (hm : Sub 15929000 M) (t vd va vb : Nat) (s : State) (hk : Fr M s0 s) :
    KeepsX M s0 (execVadd t vd va vb s) := by
  unfold execVadd
  repeat' (first
    | with_reducible assumption
    | with_reducible apply keeps_vec2
    | with_reducible apply keepsX_next
    | with_reducible exact keepsX_fault
    | with_reducible exact keepsX_refused
    | ((with_reducible refine sub_of hm ?_); exact rfl)
    | with_reducible exact Nat.le_refl _
    | with_reducible rfl
    | with_reducible exact ⟨rfl, rfl, rfl⟩
    | with_reducible intro _
    | split
    | dsimp only)

theorem keeps_execVsub (hm : Sub 15929000 M) (t vd va vb : Nat) (s : State) (hk : Fr M s0 s) :
    KeepsX M s0 (execVsub t vd va vb s) := by
  unfold execVsub
  repeat' (first
    | with_reducible assumption
    | with_reducible apply keeps_vec2
    | with_reducible apply keepsX_next
    | with_reducible exact keepsX_fault
    | with_reducible exact keepsX_refused
    | ((with_reducible refine sub_of hm ?_); exact rfl)
    | with_reducible exact Nat.le_refl _
    | with_reducible rfl
    | with_reducible exact ⟨rfl, rfl, rfl⟩
    | with_reducible intro _
    | split
    | dsimp only)

theorem keeps_execVmul (hm : Sub 15929000 M) (t vd va vb : Nat) (scalar : Bool) (s : State) (hk : Fr M s0 s) :
    KeepsX M s0 (execVmul t vd va vb scalar s) := by
  unfold execVmul
  repeat' (first
    | with_reducible assumption
    | with_reducible apply keeps_issue
    | with_reducible apply keeps_arith
    | with_reducible apply keepsX_next
    | with_reducible exact keepsX_fault
    | with_reducible exact keepsX_refused
    | ((with_reducible refine sub_of hm ?_); exact rfl)
    | with_reducible exact Nat.le_refl _
    | with_reducible rfl
    | with_reducible exact ⟨rfl, rfl, rfl⟩
    | with_reducible intro _
    | split
    | dsimp only)

theorem keeps_execVfma (hm : Sub 15929000 M) (t vd va vb vc : Nat) (s : State) (hk : Fr M s0 s) :
    KeepsX M s0 (execVfma t vd va vb vc s) := by
  unfold execVfma
  repeat' (first
    | with_reducible assumption
    | with_reducible apply keeps_issue
    | with_reducible apply keeps_arith
    | with_reducible apply keepsX_next
    | with_reducible exact keepsX_fault
    | with_reducible exact keepsX_refused
    | ((with_reducible refine sub_of hm ?_); exact rfl)
    | with_reducible exact Nat.le_refl _
    | with_reducible rfl
    | with_reducible exact ⟨rfl, rfl, rfl⟩
    | with_reducible intro _
    | split
    | dsimp only)

theorem keeps_execVema (hm : Sub 15929000 M) (t vd va vb sc : Nat) (s : State) (hk : Fr M s0 s) :
    KeepsX M s0 (execVema t vd va vb sc s) := by
  unfold execVema
  repeat' (first
    | with_reducible assumption
    | with_reducible apply keeps_issue
    | with_reducible apply keeps_arith
    | with_reducible apply keepsX_next
    | with_reducible exact keepsX_fault
    | with_reducible exact keepsX_refused
    | ((with_reducible refine sub_of hm ?_); exact rfl)
    | with_reducible exact Nat.le_refl _
    | with_reducible rfl
    | with_reducible exact ⟨rfl, rfl, rfl⟩
    | with_reducible intro _
    | split
    | dsimp only)

theorem keeps_execVaxpby (hm : Sub 15929000 M) (t vd va vb sa sb : Nat) (s : State) (hk : Fr M s0 s) :
    KeepsX M s0 (execVaxpby t vd va vb sa sb s) := by
  unfold execVaxpby
  repeat' (first
    | with_reducible assumption
    | with_reducible apply keeps_issue
    | with_reducible apply keeps_arith
    | with_reducible apply keepsX_next
    | with_reducible exact keepsX_fault
    | with_reducible exact keepsX_refused
    | ((with_reducible refine sub_of hm ?_); exact rfl)
    | with_reducible exact Nat.le_refl _
    | with_reducible rfl
    | with_reducible exact ⟨rfl, rfl, rfl⟩
    | with_reducible intro _
    | split
    | dsimp only)

theorem keeps_execVrsqa (hm : Sub 15929000 M) (t vd va sa sb : Nat) (s : State) (hk : Fr M s0 s) :
    KeepsX M s0 (execVrsqa t vd va sa sb s) := by
  unfold execVrsqa
  repeat' (first
    | with_reducible assumption
    | with_reducible apply keeps_issue
    | with_reducible apply keeps_arith
    | with_reducible apply keepsX_next
    | with_reducible exact keepsX_fault
    | with_reducible exact keepsX_refused
    | ((with_reducible refine sub_of hm ?_); exact rfl)
    | with_reducible exact Nat.le_refl _
    | with_reducible rfl
    | with_reducible exact ⟨rfl, rfl, rfl⟩
    | with_reducible intro _
    | split
    | dsimp only)

theorem keeps_execVmin (hm : Sub 15929000 M) (t vd va vb : Nat) (s : State) (hk : Fr M s0 s) :
    KeepsX M s0 (execVmin t vd va vb s) := by
  unfold execVmin
  repeat' (first
    | with_reducible assumption
    | with_reducible apply keeps_vec2
    | with_reducible apply keepsX_next
    | with_reducible exact keepsX_fault
    | with_reducible exact keepsX_refused
    | ((with_reducible refine sub_of hm ?_); exact rfl)
    | with_reducible exact Nat.le_refl _
    | with_reducible rfl
    | with_reducible exact ⟨rfl, rfl, rfl⟩
    | with_reducible intro _
    | split
    | dsimp only)

theorem keeps_execVmax (hm : Sub 15929000 M) (t vd va vb : Nat) (s : State) (hk : Fr M s0 s) :
    KeepsX M s0 (execVmax t vd va vb s) := by
  unfold execVmax
  repeat' (first
    | with_reducible assumption
    | with_reducible apply keeps_vec2
    | with_reducible apply keepsX_next
    | with_reducible exact keepsX_fault
    | with_reducible exact keepsX_refused
    | ((with_reducible refine sub_of hm ?_); exact rfl)
    | with_reducible exact Nat.le_refl _
    | with_reducible rfl
    | with_reducible exact ⟨rfl, rfl, rfl⟩
    | with_reducible intro _
    | split
    | dsimp only)

theorem keeps_execVzero (hm : Sub 8457888 M) (t vd : Nat) (s : State) (hk : Fr M s0 s) :
    KeepsX M s0 (execVzero t vd s) := by
  unfold execVzero
  repeat' (first
    | with_reducible assumption
    | with_reducible apply keeps_nextPc
    | with_reducible apply keeps_issue
    | with_reducible apply keeps_setV
    | with_reducible apply keepsX_next
    | with_reducible exact keepsX_fault
    | with_reducible exact keepsX_refused
    | ((with_reducible refine sub_of hm ?_); exact rfl)
    | with_reducible exact Nat.le_refl _
    | with_reducible rfl
    | with_reducible exact ⟨rfl, rfl, rfl⟩
    | with_reducible intro _
    | split
    | dsimp only)

theorem keeps_execSli (hm : Sub 8457888 M) (t sd imm : Nat) (s : State) (hk : Fr M s0 s) :
    KeepsX M s0 (execSli t sd imm s) := by
  unfold execSli
  repeat' (first
    | with_reducible assumption
    | with_reducible apply keeps_nextPc
    | with_reducible apply keeps_issue
    | with_reducible apply keeps_setS
    | with_reducible apply keepsX_next
    | with_reducible exact keepsX_fault
    | with_reducible exact keepsX_refused
    | ((with_reducible refine sub_of hm ?_); exact rfl)
    | with_reducible exact Nat.le_refl _
    | with_reducible rfl
    | with_reducible exact ⟨rfl, rfl, rfl⟩
    | with_reducible intro _
    | split
    | dsimp only)

theorem keeps_execSaddi (hm : Sub 8457888 M) (t sd sa imm : Nat) (s : State) (hk : Fr M s0 s) :
    KeepsX M s0 (execSaddi t sd sa imm s) := by
  unfold execSaddi
  repeat' (first
    | with_reducible assumption
    | with_reducible apply keeps_nextPc
    | with_reducible apply keeps_issue
    | with_reducible apply keeps_setS
    | with_reducible apply keepsX_next
    | with_reducible exact keepsX_fault
    | with_reducible exact keepsX_refused
    | ((with_reducible refine sub_of hm ?_); exact rfl)
    | with_reducible exact Nat.le_refl _
    | with_reducible rfl
    | with_reducible exact ⟨rfl, rfl, rfl⟩
    | with_reducible intro _
    | split
    | dsimp only)

theorem keeps_execSfmul (hm : Sub 8457888 M) (t sd sa sb : Nat) (s : State) (hk : Fr M s0 s) :
    KeepsX M s0 (execSfmul t sd sa sb s) := by
  unfold execSfmul
  repeat' (first
    | with_reducible assumption
    | with_reducible apply keeps_nextPc
    | with_reducible apply keeps_issue
    | with_reducible apply keeps_setS
    | with_reducible apply keepsX_next
    | with_reducible exact keepsX_fault
    | with_reducible exact keepsX_refused
    | ((with_reducible refine sub_of hm ?_); exact rfl)
    | with_reducible exact Nat.le_refl _
    | with_reducible rfl
    | with_reducible exact ⟨rfl, rfl, rfl⟩
    | with_reducible intro _
    | split
    | dsimp only)

theorem keeps_execSfadd (hm : Sub 8457888 M) (t sd sa sb : Nat) (s : State) (hk : Fr M s0 s) :
    KeepsX M s0 (execSfadd t sd sa sb s) := by
  unfold execSfadd
  repeat' (first
    | with_reducible assumption
    | with_reducible apply keeps_nextPc
    | with_reducible apply keeps_issue
    | with_reducible apply keeps_setS
    | with_reducible apply keepsX_next
    | with_reducible exact keepsX_fault
    | with_reducible exact keepsX_refused
    | ((with_reducible refine sub_of hm ?_); exact rfl)
    | with_reducible exact Nat.le_refl _
    | with_reducible rfl
    | with_reducible exact ⟨rfl, rfl, rfl⟩
    | with_reducible intro _
    | split
    | dsimp only)

theorem keeps_execSldu (hm : Sub 8457888 M) (t sd off : Nat) (s : State) (hk : Fr M s0 s) :
    KeepsX M s0 (execSldu t sd off s) := by
  unfold execSldu
  repeat' (first
    | with_reducible assumption
    | with_reducible apply keeps_nextPc
    | with_reducible apply keeps_issue
    | with_reducible apply keeps_setS
    | with_reducible apply keepsX_next
    | with_reducible exact keepsX_fault
    | with_reducible exact keepsX_refused
    | ((with_reducible refine sub_of hm ?_); exact rfl)
    | with_reducible exact Nat.le_refl _
    | with_reducible rfl
    | with_reducible exact ⟨rfl, rfl, rfl⟩
    | with_reducible intro _
    | split
    | dsimp only)

theorem keeps_execVld (hm : Sub 8457888 M) (t vd sa off : Nat) (s : State) (hk : Fr M s0 s) :
    KeepsX M s0 (execVld t vd sa off s) := by
  unfold execVld
  repeat' (first
    | with_reducible assumption
    | with_reducible apply keeps_denied
    | with_reducible apply keeps_nextPc
    | with_reducible apply keeps_issue
    | with_reducible apply keeps_setV
    | with_reducible apply keepsX_next
    | with_reducible exact keepsX_fault
    | with_reducible exact keepsX_refused
    | ((with_reducible refine sub_of hm ?_); exact rfl)
    | with_reducible exact Nat.le_refl _
    | with_reducible rfl
    | with_reducible exact ⟨rfl, rfl, rfl⟩
    | with_reducible intro _
    | split
    | dsimp only)

theorem keeps_execVst (hm : Sub 8461984 M) (t vs sa off : Nat) (s : State) (hk : Fr M s0 s) :
    KeepsX M s0 (execVst t vs sa off s) := by
  unfold execVst
  repeat' (first
    | with_reducible assumption
    | with_reducible apply keeps_spadWrite
    | with_reducible apply keeps_denied
    | with_reducible apply keeps_nextPc
    | with_reducible apply keeps_issue
    | with_reducible apply keepsX_next
    | with_reducible exact keepsX_fault
    | with_reducible exact keepsX_refused
    | ((with_reducible refine sub_of hm ?_); exact rfl)
    | with_reducible exact Nat.le_refl _
    | with_reducible rfl
    | with_reducible exact ⟨rfl, rfl, rfl⟩
    | with_reducible intro _
    | split
    | dsimp only)

theorem keeps_execVstc (hm : Sub 8461984 M) (t vs sa off fmt : Nat) (s : State) (hk : Fr M s0 s) :
    KeepsX M s0 (execVstc t vs sa off fmt s) := by
  unfold execVstc
  repeat' (first
    | with_reducible assumption
    | with_reducible apply keeps_spadWrite
    | with_reducible apply keeps_denied
    | with_reducible apply keeps_nextPc
    | with_reducible apply keeps_issue
    | with_reducible apply keepsX_next
    | with_reducible exact keepsX_fault
    | with_reducible exact keepsX_refused
    | ((with_reducible refine sub_of hm ?_); exact rfl)
    | with_reducible exact Nat.le_refl _
    | with_reducible rfl
    | with_reducible exact ⟨rfl, rfl, rfl⟩
    | with_reducible intro _
    | split
    | dsimp only)

theorem keeps_startDma (hm : Sub 2048 M) (t : Nat) (m : Dma) (s : State) (hk : Fr M s0 s) :
    Fr M s0 (startDma t m s) := by
  unfold startDma
  repeat' (first
    | with_reducible assumption
    | with_reducible apply keeps_onRun
    | ((with_reducible refine sub_of hm ?_); exact rfl)
    | with_reducible exact Nat.le_refl _
    | with_reducible rfl
    | with_reducible exact ⟨rfl, rfl, rfl⟩
    | with_reducible intro _
    | split
    | dsimp only)

theorem keeps_execDmard (hm : Sub 8457888 M) (t sa sb len : Nat) (s : State) (hk : Fr M s0 s) :
    KeepsX M s0 (execDmard t sa sb len s) := by
  unfold execDmard
  repeat' (first
    | with_reducible assumption
    | with_reducible apply keeps_denied
    | with_reducible apply keeps_nextPc
    | with_reducible apply keeps_issue
    | with_reducible apply keeps_startDma
    | with_reducible apply keepsX_next
    | with_reducible exact keepsX_fault
    | with_reducible exact keepsX_refused
    | ((with_reducible refine sub_of hm ?_); exact rfl)
    | with_reducible exact Nat.le_refl _
    | with_reducible rfl
    | with_reducible exact ⟨rfl, rfl, rfl⟩
    | with_reducible intro _
    | split
    | dsimp only)

theorem keeps_execDmawr (hm : Sub 16191150 M) (t sa sb len : Nat) (s : State) (hk : Fr M s0 s) :
    KeepsX M s0 (execDmawr t sa sb len s) := by
  unfold execDmawr
  repeat' (first
    | with_reducible assumption
    | with_reducible apply keeps_stepWritten
    | with_reducible apply keeps_denied
    | with_reducible apply keeps_nextPc
    | with_reducible apply keeps_issue
    | with_reducible apply keeps_startDma
    | with_reducible apply keepsX_next
    | with_reducible exact keepsX_fault
    | with_reducible exact keepsX_refused
    | ((with_reducible refine sub_of hm ?_); exact rfl)
    | with_reducible exact Nat.le_refl _
    | with_reducible rfl
    | with_reducible exact ⟨rfl, rfl, rfl⟩
    | with_reducible intro _
    | split
    | dsimp only)

theorem keeps_execDmawait (hm : Sub 8457888 M) (t : Nat) (s : State) (hk : Fr M s0 s) :
    KeepsX M s0 (execDmawait t s) := by
  unfold execDmawait
  repeat' (first
    | with_reducible assumption
    | with_reducible apply keeps_onRun
    | with_reducible apply keeps_nextPc
    | with_reducible apply keeps_issue
    | with_reducible apply keepsX_next
    | with_reducible exact keepsX_fault
    | with_reducible exact keepsX_refused
    | ((with_reducible refine sub_of hm ?_); exact rfl)
    | with_reducible exact Nat.le_refl _
    | with_reducible rfl
    | with_reducible exact ⟨rfl, rfl, rfl⟩
    | with_reducible intro _
    | split
    | dsimp only)

theorem keeps_execLoop (hm : Sub 8457888 M) (t sd off : Nat) (s : State) (hk : Fr M s0 s) :
    KeepsX M s0 (execLoop t sd off s) := by
  unfold execLoop
  repeat' (first
    | with_reducible assumption
    | with_reducible apply keeps_stopEntry
    | with_reducible apply keeps_onRun
    | with_reducible apply keeps_nextPc
    | with_reducible apply keeps_issue
    | with_reducible apply keeps_setS
    | with_reducible apply keepsX_next
    | with_reducible exact keepsX_fault
    | with_reducible exact keepsX_refused
    | ((with_reducible refine sub_of hm ?_); exact rfl)
    | with_reducible exact Nat.le_refl _
    | with_reducible rfl
    | with_reducible exact ⟨rfl, rfl, rfl⟩
    | with_reducible intro _
    | split
    | dsimp only)

theorem keeps_execEndEntry (hm : Sub 15929000 M) (t : Nat) (s : State) (hk : Fr M s0 s) :
    KeepsX M s0 (execEndEntry t s) := by
  unfold execEndEntry
  repeat' (first
    | with_reducible assumption
    | with_reducible apply keeps_onTileU
    | with_reducible apply keeps_endUpdate
    | with_reducible apply keeps_issue
    | with_reducible apply keepsX_next
    | with_reducible exact keepsX_fault
    | with_reducible exact keepsX_refused
    | ((with_reducible refine sub_of hm ?_); exact rfl)
    | with_reducible exact Nat.le_refl _
    | with_reducible rfl
    | with_reducible exact ⟨rfl, rfl, rfl⟩
    | with_reducible intro _
    | split
    | dsimp only)

/-! ### Slices -/

theorem keeps_onBind (hm : Sub 6291456 M) (kind i : Nat) (f : Binding → Binding) (s : State) (hk : Fr M s0 s) :
    Fr M s0 (onBind kind i f s) := by
  unfold onBind
  repeat' (first
    | with_reducible assumption
    | with_reducible apply keeps_modSet
    | ((with_reducible refine sub_of hm ?_); exact rfl)
    | with_reducible exact Nat.le_refl _
    | with_reducible rfl
    | with_reducible exact ⟨rfl, rfl, rfl⟩
    | with_reducible intro _
    | split
    | dsimp only)

theorem keeps_setSlice (hm : Sub 6291456 M) (sl st : Nat) (s : State) (hk : Fr M s0 s) :
    Fr M s0 (setSlice sl st s) := by
  unfold setSlice
  repeat' (first
    | with_reducible assumption
    | with_reducible apply keeps_modSet
    | ((with_reducible refine sub_of hm ?_); exact rfl)
    | with_reducible exact Nat.le_refl _
    | with_reducible rfl
    | with_reducible exact ⟨rfl, rfl, rfl⟩
    | with_reducible intro _
    | split
    | dsimp only)

theorem keeps_countStale (hm : Sub 128 M) (sl : Nat) (s : State) (hk : Fr M s0 s) :
    Fr M s0 (countStale sl s) := by
  unfold countStale
  repeat' (first
    | with_reducible assumption
    | with_reducible apply keeps_onNetR
    | ((with_reducible refine sub_of hm ?_); exact rfl)
    | with_reducible exact Nat.le_refl _
    | with_reducible rfl
    | with_reducible exact ⟨rfl, rfl, rfl⟩
    | with_reducible intro _
    | split
    | dsimp only)

theorem keeps_dropStale (hm : Sub 128 M) (sl : Nat) (s : State) (hk : Fr M s0 s) :
    Fr M s0 (dropStale sl s) := by
  unfold dropStale
  repeat' (first
    | with_reducible assumption
    | with_reducible apply keeps_onNetR
    | ((with_reducible refine sub_of hm ?_); exact rfl)
    | with_reducible exact Nat.le_refl _
    | with_reducible rfl
    | with_reducible exact ⟨rfl, rfl, rfl⟩
    | with_reducible intro _
    | split
    | dsimp only)

theorem keeps_objEvent (hm : Sub 8388640 M) (code kind i : Nat) (s : State) (hk : Fr M s0 s) :
    Fr M s0 (objEvent code kind i s) := by
  unfold objEvent
  repeat' (first
    | with_reducible assumption
    | with_reducible apply keeps_record
    | ((with_reducible refine sub_of hm ?_); exact rfl)
    | with_reducible exact Nat.le_refl _
    | with_reducible rfl
    | with_reducible exact ⟨rfl, rfl, rfl⟩
    | with_reducible intro _
    | split
    | dsimp only)

theorem keeps_execSliceBind (hm : Sub 9438734 M) (q : Req) (s : State) (hk : Fr M s0 s) :
    KeepsX M s0 (execSliceBind q s) := by
  unfold execSliceBind
  repeat' (first
    | with_reducible assumption
    | with_reducible apply keeps_longOp
    | with_reducible apply keepsX_next
    | with_reducible exact keepsX_fault
    | with_reducible exact keepsX_refused
    | ((with_reducible refine sub_of hm ?_); exact rfl)
    | with_reducible exact Nat.le_refl _
    | with_reducible rfl
    | with_reducible exact ⟨rfl, rfl, rfl⟩
    | with_reducible intro _
    | split
    | dsimp only)

theorem keeps_startSliceBind (hm : Sub 6291584 M) (t : Ticket) (s : State) (hk : Fr M s0 s) :
    Fr M s0 (startSliceBind t s) := by
  unfold startSliceBind
  repeat' (first
    | with_reducible assumption
    | with_reducible apply keeps_onNetR
    | with_reducible apply keeps_forEach
    | with_reducible apply keeps_onBind
    | ((with_reducible refine sub_of hm ?_); exact rfl)
    | with_reducible exact Nat.le_refl _
    | with_reducible rfl
    | with_reducible exact ⟨rfl, rfl, rfl⟩
    | with_reducible intro _
    | split
    | dsimp only)

theorem keeps_setStep (hm : Sub 128 M) (b : BindOp) (i step : Nat) (s : State) (hk : Fr M s0 s) :
    Fr M s0 (setStep b i step s) := by
  unfold setStep
  repeat' (first
    | with_reducible assumption
    | with_reducible apply keeps_onNetR
    | ((with_reducible refine sub_of hm ?_); exact rfl)
    | with_reducible exact Nat.le_refl _
    | with_reducible rfl
    | with_reducible exact ⟨rfl, rfl, rfl⟩
    | with_reducible intro _
    | split
    | dsimp only)

theorem keeps_execBindFenceAcked (hm : Sub 128 M) (tk : Nat) (s : State) (hk : Fr M s0 s) :
    KeepsX M s0 (execBindFenceAcked tk s) := by
  unfold execBindFenceAcked
  repeat' (first
    | with_reducible assumption
    | with_reducible apply keeps_onNetR
    | with_reducible apply keepsX_next
    | with_reducible exact keepsX_fault
    | with_reducible exact keepsX_refused
    | ((with_reducible refine sub_of hm ?_); exact rfl)
    | with_reducible exact Nat.le_refl _
    | with_reducible rfl
    | with_reducible exact ⟨rfl, rfl, rfl⟩
    | with_reducible intro _
    | split
    | dsimp only)

theorem keeps_execBindDrainEnd (hm : Sub 128 M) (kind obj : Nat) (s : State) (hk : Fr M s0 s) :
    KeepsX M s0 (execBindDrainEnd kind obj s) := by
  unfold execBindDrainEnd
  repeat' (first
    | with_reducible assumption
    | with_reducible apply keeps_setStep
    | with_reducible apply keepsX_next
    | with_reducible exact keepsX_fault
    | with_reducible exact keepsX_refused
    | ((with_reducible refine sub_of hm ?_); exact rfl)
    | with_reducible exact Nat.le_refl _
    | with_reducible rfl
    | with_reducible exact ⟨rfl, rfl, rfl⟩
    | with_reducible intro _
    | split
    | dsimp only)

theorem keeps_execDrainForced (hm : Sub 8390304 M) (lp : Nat) (s : State) (hk : Fr M s0 s) :
    KeepsX M s0 (execDrainForced lp s) := by
  unfold execDrainForced
  repeat' (first
    | with_reducible assumption
    | with_reducible apply keeps_onCoreR
    | with_reducible apply keeps_forEach
    | with_reducible apply keeps_onLink
    | with_reducible apply keeps_dropTx
    | with_reducible apply keeps_discardQueued
    | with_reducible apply keeps_objEvent
    | with_reducible apply keepsX_next
    | with_reducible exact keepsX_fault
    | with_reducible exact keepsX_refused
    | with_reducible refine keeps_snd ‹_› ?_
    | ((with_reducible refine sub_of hm ?_); exact rfl)
    | with_reducible exact Nat.le_refl _
    | with_reducible rfl
    | with_reducible exact ⟨rfl, rfl, rfl⟩
    | with_reducible intro _
    | split
    | dsimp only)

theorem keeps_dropGates (hm : Sub 15730190 M) (l : Nat) (s : State) (hk : Fr M s0 s) :
    Fr M s0 (dropGates l s) := by
  unfold dropGates
  repeat' (first
    | with_reducible assumption
    | with_reducible apply keeps_modSet
    | with_reducible apply keeps_ticketFail
    | ((with_reducible refine sub_of hm ?_); exact rfl)
    | with_reducible exact Nat.le_refl _
    | with_reducible rfl
    | with_reducible exact ⟨rfl, rfl, rfl⟩
    | with_reducible intro _
    | split
    | dsimp only)

theorem keeps_qosDefault (hm : Sub 6291456 M) (l : Nat) (s : State) (hk : Fr M s0 s) :
    Fr M s0 (qosDefault l s) := by
  unfold qosDefault
  repeat' (first
    | with_reducible assumption
    | with_reducible apply keeps_modSet
    | ((with_reducible refine sub_of hm ?_); exact rfl)
    | with_reducible exact Nat.le_refl _
    | with_reducible rfl
    | with_reducible exact ⟨rfl, rfl, rfl⟩
    | with_reducible intro _
    | split
    | dsimp only)

theorem keeps_scrubLp (hm : Sub 15730350 M) (l : Nat) (s : State) (hk : Fr M s0 s) :
    Fr M s0 (scrubLp l s) := by
  unfold scrubLp
  repeat' (first
    | with_reducible assumption
    | with_reducible apply keeps_onCoreR
    | with_reducible apply keeps_discardQueued
    | with_reducible apply keeps_dropGates
    | with_reducible apply keeps_qosDefault
    | with_reducible refine keeps_snd ‹_› ?_
    | ((with_reducible refine sub_of hm ?_); exact rfl)
    | with_reducible exact Nat.le_refl _
    | with_reducible rfl
    | with_reducible exact ⟨rfl, rfl, rfl⟩
    | with_reducible intro _
    | split
    | dsimp only)

theorem keeps_scrubSub (hm : Sub 14681760 M) (i : Nat) (s : State) (hk : Fr M s0 s) :
    Fr M s0 (scrubSub i s) := by
  unfold scrubSub
  repeat' (first
    | with_reducible assumption
    | with_reducible apply keeps_modSet
    | with_reducible apply keeps_onCoreR
    | with_reducible apply keeps_forEach
    | with_reducible apply keeps_dropEnt
    | ((with_reducible refine sub_of hm ?_); exact rfl)
    | with_reducible exact Nat.le_refl _
    | with_reducible rfl
    | with_reducible exact ⟨rfl, rfl, rfl⟩
    | with_reducible intro _
    | split
    | dsimp only)

theorem keeps_scrubObj (hm : Sub 15736750 M) (kind i : Nat) (s : State) (hk : Fr M s0 s) :
    Fr M s0 (scrubObj kind i s) := by
  unfold scrubObj
  repeat' (first
    | with_reducible assumption
    | with_reducible apply keeps_markRegion
    | with_reducible apply keeps_scrubGroup
    | with_reducible apply keeps_scrubTile
    | with_reducible apply keeps_scrubLp
    | with_reducible apply keeps_scrubSub
    | ((with_reducible refine sub_of hm ?_); exact rfl)
    | with_reducible exact Nat.le_refl _
    | with_reducible rfl
    | with_reducible exact ⟨rfl, rfl, rfl⟩
    | with_reducible intro _
    | split
    | dsimp only)

theorem keeps_joinSlice (hm : Sub 6291456 M) (sl : Nat) (s : State) (hk : Fr M s0 s) :
    Fr M s0 (joinSlice sl s) := by
  unfold joinSlice
  repeat' (first
    | with_reducible assumption
    | with_reducible apply keeps_setSlice
    | ((with_reducible refine sub_of hm ?_); exact rfl)
    | with_reducible exact Nat.le_refl _
    | with_reducible rfl
    | with_reducible exact ⟨rfl, rfl, rfl⟩
    | with_reducible intro _
    | split
    | dsimp only)

theorem keeps_leaveSlice (hm : Sub 6291584 M) (sl : Nat) (s : State) (hk : Fr M s0 s) :
    Fr M s0 (leaveSlice sl s) := by
  unfold leaveSlice
  repeat' (first
    | with_reducible assumption
    | with_reducible apply keeps_setSlice
    | with_reducible apply keeps_dropStale
    | ((with_reducible refine sub_of hm ?_); exact rfl)
    | with_reducible exact Nat.le_refl _
    | with_reducible rfl
    | with_reducible exact ⟨rfl, rfl, rfl⟩
    | with_reducible intro _
    | split
    | dsimp only)

theorem keeps_bindObj (hm : Sub 6291584 M) (kind i : Nat) (dst : Option Nat) (scrubbed : Bool) (s : State) (hk : Fr M s0 s) :
    Fr M s0 (bindObj kind i dst scrubbed s) := by
  unfold bindObj
  repeat' (first
    | with_reducible assumption
    | with_reducible apply keeps_onBind
    | with_reducible apply keeps_joinSlice
    | with_reducible apply keeps_leaveSlice
    | with_reducible apply keeps_getD
    | ((with_reducible refine sub_of hm ?_); exact rfl)
    | with_reducible exact Nat.le_refl _
    | with_reducible rfl
    | with_reducible exact ⟨rfl, rfl, rfl⟩
    | with_reducible intro _
    | split
    | dsimp only)

theorem keeps_finishBind (hm : Sub 9438894 M) (b : BindOp) (s : State) (hk : Fr M s0 s) :
    Fr M s0 (finishBind b s) := by
  unfold finishBind
  repeat' (first
    | with_reducible assumption
    | with_reducible apply keeps_onNetR
    | with_reducible apply keeps_record
    | with_reducible apply keeps_ticketDone
    | with_reducible apply keeps_getD
    | ((with_reducible refine sub_of hm ?_); exact rfl)
    | with_reducible exact Nat.le_refl _
    | with_reducible rfl
    | with_reducible exact ⟨rfl, rfl, rfl⟩
    | with_reducible intro _
    | split
    | dsimp only)

theorem keeps_execBindScrubEnd (hm : Sub 15736750 M) (kind obj : Nat) (s : State) (hk : Fr M s0 s) :
    KeepsX M s0 (execBindScrubEnd kind obj s) := by
  unfold execBindScrubEnd
  repeat' (first
    | with_reducible assumption
    | with_reducible apply keeps_setStep
    | with_reducible apply keeps_scrubObj
    | with_reducible apply keeps_bindObj
    | with_reducible apply keeps_finishBind
    | with_reducible apply keepsX_next
    | with_reducible exact keepsX_fault
    | with_reducible exact keepsX_refused
    | ((with_reducible refine sub_of hm ?_); exact rfl)
    | with_reducible exact Nat.le_refl _
    | with_reducible rfl
    | with_reducible exact ⟨rfl, rfl, rfl⟩
    | with_reducible intro _
    | split
    | dsimp only)

theorem keeps_bindDieLost (hm : Sub 15730350 M) (d : Nat) (s : State) (hk : Fr M s0 s) :
    Fr M s0 (bindDieLost d s) := by
  unfold bindDieLost
  repeat' (first
    | with_reducible assumption
    | with_reducible apply keeps_forEach
    | with_reducible apply keeps_ticketFail
    | with_reducible apply keeps_setStep
    | with_reducible apply keeps_bindObj
    | with_reducible apply keeps_finishBind
    | ((with_reducible refine sub_of hm ?_); exact rfl)
    | with_reducible exact Nat.le_refl _
    | with_reducible rfl
    | with_reducible exact ⟨rfl, rfl, rfl⟩
    | with_reducible intro _
    | split
    | dsimp only)

theorem keeps_scrubDie (hm : Sub 15736750 M) (d : Nat) (s : State) (hk : Fr M s0 s) :
    Fr M s0 (scrubDie d s) := by
  unfold scrubDie
  repeat' (first
    | with_reducible assumption
    | with_reducible apply keeps_forEach
    | with_reducible apply keeps_onBind
    | with_reducible apply keeps_scrubObj
    | ((with_reducible refine sub_of hm ?_); exact rfl)
    | with_reducible exact Nat.le_refl _
    | with_reducible rfl
    | with_reducible exact ⟨rfl, rfl, rfl⟩
    | with_reducible intro _
    | split
    | dsimp only)

theorem keeps_execScrubGranuleFill (hm : Sub 24832 M) (die granule : Nat) (s : State) (hk : Fr M s0 s) :
    KeepsX M s0 (execScrubGranuleFill die granule s) := by
  unfold execScrubGranuleFill
  repeat' (first
    | with_reducible assumption
    | with_reducible apply keeps_fillGranule
    | with_reducible apply keepsX_next
    | with_reducible exact keepsX_fault
    | with_reducible exact keepsX_refused
    | ((with_reducible refine sub_of hm ?_); exact rfl)
    | with_reducible exact Nat.le_refl _
    | with_reducible rfl
    | with_reducible exact ⟨rfl, rfl, rfl⟩
    | with_reducible intro _
    | split
    | dsimp only)

theorem keeps_execSliceEnable (hm : Sub 15730190 M) (q : Req) (s : State) (hk : Fr M s0 s) :
    KeepsX M s0 (execSliceEnable q s) := by
  unfold execSliceEnable
  repeat' (first
    | with_reducible assumption
    | with_reducible apply keeps_plain
    | with_reducible apply keeps_act
    | with_reducible apply keeps_setSlice
    | with_reducible apply keepsX_next
    | with_reducible exact keepsX_fault
    | with_reducible exact keepsX_refused
    | ((with_reducible refine sub_of hm ?_); exact rfl)
    | with_reducible exact Nat.le_refl _
    | with_reducible rfl
    | with_reducible exact ⟨rfl, rfl, rfl⟩
    | with_reducible intro _
    | split
    | dsimp only)

theorem keeps_execSliceDisable (hm : Sub 9438734 M) (q : Req) (s : State) (hk : Fr M s0 s) :
    KeepsX M s0 (execSliceDisable q s) := by
  unfold execSliceDisable
  repeat' (first
    | with_reducible assumption
    | with_reducible apply keeps_longOp
    | with_reducible apply keepsX_next
    | with_reducible exact keepsX_fault
    | with_reducible exact keepsX_refused
    | ((with_reducible refine sub_of hm ?_); exact rfl)
    | with_reducible exact Nat.le_refl _
    | with_reducible rfl
    | with_reducible exact ⟨rfl, rfl, rfl⟩
    | with_reducible intro _
    | split
    | dsimp only)

theorem keeps_startSliceDisable (hm : Sub 15730318 M) (tk sl : Nat) (s : State) (hk : Fr M s0 s) :
    Fr M s0 (startSliceDisable tk sl s) := by
  unfold startSliceDisable
  repeat' (first
    | with_reducible assumption
    | with_reducible apply keeps_onNetR
    | with_reducible apply keeps_ticketFail
    | with_reducible apply keeps_setSlice
    | ((with_reducible refine sub_of hm ?_); exact rfl)
    | with_reducible exact Nat.le_refl _
    | with_reducible rfl
    | with_reducible exact ⟨rfl, rfl, rfl⟩
    | with_reducible intro _
    | split
    | dsimp only)

theorem keeps_execSliceDrainEnd (hm : Sub 15730318 M) (slice : Nat) (s : State) (hk : Fr M s0 s) :
    KeepsX M s0 (execSliceDrainEnd slice s) := by
  unfold execSliceDrainEnd
  repeat' (first
    | with_reducible assumption
    | with_reducible apply keeps_onNetR
    | with_reducible apply keeps_ticketDone
    | with_reducible apply keeps_setSlice
    | with_reducible apply keeps_dropStale
    | with_reducible apply keepsX_next
    | with_reducible exact keepsX_fault
    | with_reducible exact keepsX_refused
    | ((with_reducible refine sub_of hm ?_); exact rfl)
    | with_reducible exact Nat.le_refl _
    | with_reducible rfl
    | with_reducible exact ⟨rfl, rfl, rfl⟩
    | with_reducible intro _
    | split
    | dsimp only)

theorem keeps_execSliceQuery (hm : Sub 9438734 M) (q : Req) (s : State) (hk : Fr M s0 s) :
    KeepsX M s0 (execSliceQuery q s) := by
  unfold execSliceQuery
  repeat' (first
    | with_reducible assumption
    | with_reducible apply keeps_plain
    | with_reducible apply keeps_ans
    | with_reducible apply keepsX_next
    | with_reducible exact keepsX_fault
    | with_reducible exact keepsX_refused
    | ((with_reducible refine sub_of hm ?_); exact rfl)
    | with_reducible exact Nat.le_refl _
    | with_reducible rfl
    | with_reducible exact ⟨rfl, rfl, rfl⟩
    | with_reducible intro _
    | split
    | dsimp only)

theorem keeps_restoreBinds (hm : Sub 6291712 M) (s : State) (hk : Fr M s0 s) :
    Fr M s0 (restoreBinds s) := by
  unfold restoreBinds
  repeat' (first
    | with_reducible assumption
    | with_reducible apply keeps_modSet
    | with_reducible apply keeps_forEach
    | with_reducible apply keeps_markRegion
    | ((with_reducible refine sub_of hm ?_); exact rfl)
    | with_reducible exact Nat.le_refl _
    | with_reducible rfl
    | with_reducible exact ⟨rfl, rfl, rfl⟩
    | with_reducible intro _
    | split
    | dsimp only)

theorem keeps_restoreSlices (hm : Sub 6291456 M) (s : State) (hk : Fr M s0 s) :
    Fr M s0 (restoreSlices s) := by
  unfold restoreSlices
  repeat' (first
    | with_reducible assumption
    | with_reducible apply keeps_forEach
    | with_reducible apply keeps_setSlice
    | ((with_reducible refine sub_of hm ?_); exact rfl)
    | with_reducible exact Nat.le_refl _
    | with_reducible rfl
    | with_reducible exact ⟨rfl, rfl, rfl⟩
    | with_reducible intro _
    | split
    | dsimp only)

/-! ### PortCmds -/

theorem keeps_withAdmin (hm : Sub 6291456 M) (p : Nat) (b : Bool) (s : State) (hk : Fr M s0 s) :
    Fr M s0 (withAdmin p b s) := by
  unfold withAdmin
  repeat' (first
    | with_reducible assumption
    | with_reducible apply keeps_onPort
    | ((with_reducible refine sub_of hm ?_); exact rfl)
    | with_reducible exact Nat.le_refl _
    | with_reducible rfl
    | with_reducible exact ⟨rfl, rfl, rfl⟩
    | with_reducible intro _
    | split
    | dsimp only)

theorem keeps_enablePort (hm : Sub 14681248 M) (p : Nat) (s : State) (hk : Fr M s0 s) :
    Fr M s0 (enablePort p s) := by
  unfold enablePort
  repeat' (first
    | with_reducible assumption
    | with_reducible apply keeps_relevelDie
    | with_reducible apply keeps_portUp
    | with_reducible apply keeps_withAdmin
    | ((with_reducible refine sub_of hm ?_); exact rfl)
    | with_reducible exact Nat.le_refl _
    | with_reducible rfl
    | with_reducible exact ⟨rfl, rfl, rfl⟩
    | with_reducible intro _
    | split
    | dsimp only)

theorem keeps_execPortEnable (hm : Sub 15730350 M) (q : Req) (s : State) (hk : Fr M s0 s) :
    KeepsX M s0 (execPortEnable q s) := by
  unfold execPortEnable
  repeat' (first
    | with_reducible assumption
    | with_reducible apply keeps_runCommand
    | with_reducible apply keeps_act
    | with_reducible apply keeps_enablePort
    | with_reducible apply keepsX_next
    | with_reducible exact keepsX_fault
    | with_reducible exact keepsX_refused
    | ((with_reducible refine sub_of hm ?_); exact rfl)
    | with_reducible exact Nat.le_refl _
    | with_reducible rfl
    | with_reducible exact ⟨rfl, rfl, rfl⟩
    | with_reducible intro _
    | split
    | dsimp only)

theorem keeps_dropPort (hm : Sub 8490720 M) (p : Nat) (s : State) (hk : Fr M s0 s) :
    Fr M s0 (dropPort p s) := by
  unfold dropPort
  repeat' (first
    | with_reducible assumption
    | with_reducible apply keeps_forEach
    | with_reducible apply keeps_portDown
    | with_reducible apply keeps_pathLost
    | ((with_reducible refine sub_of hm ?_); exact rfl)
    | with_reducible exact Nat.le_refl _
    | with_reducible rfl
    | with_reducible exact ⟨rfl, rfl, rfl⟩
    | with_reducible intro _
    | split
    | dsimp only)

theorem keeps_disablePort (hm : Sub 14782176 M) (p : Nat) (s : State) (hk : Fr M s0 s) :
    Fr M s0 (disablePort p s) := by
  unfold disablePort
  repeat' (first
    | with_reducible assumption
    | with_reducible apply keeps_relevelDie
    | with_reducible apply keeps_withAdmin
    | with_reducible apply keeps_dropPort
    | ((with_reducible refine sub_of hm ?_); exact rfl)
    | with_reducible exact Nat.le_refl _
    | with_reducible rfl
    | with_reducible exact ⟨rfl, rfl, rfl⟩
    | with_reducible intro _
    | split
    | dsimp only)

theorem keeps_execPortDisable (hm : Sub 15830766 M) (q : Req) (s : State) (hk : Fr M s0 s) :
    KeepsX M s0 (execPortDisable q s) := by
  unfold execPortDisable
  repeat' (first
    | with_reducible assumption
    | with_reducible apply keeps_runCommand
    | with_reducible apply keeps_act
    | with_reducible apply keeps_disablePort
    | with_reducible apply keepsX_next
    | with_reducible exact keepsX_fault
    | with_reducible exact keepsX_refused
    | ((with_reducible refine sub_of hm ?_); exact rfl)
    | with_reducible exact Nat.le_refl _
    | with_reducible rfl
    | with_reducible exact ⟨rfl, rfl, rfl⟩
    | with_reducible intro _
    | split
    | dsimp only)

theorem keeps_execPortSplit (hm : Sub 15730190 M) (q : Req) (s : State) (hk : Fr M s0 s) :
    KeepsX M s0 (execPortSplit q s) := by
  unfold execPortSplit
  repeat' (first
    | with_reducible assumption
    | with_reducible apply keeps_onPort
    | with_reducible apply keeps_plain
    | with_reducible apply keeps_act
    | with_reducible apply keepsX_next
    | with_reducible exact keepsX_fault
    | with_reducible exact keepsX_refused
    | ((with_reducible refine sub_of hm ?_); exact rfl)
    | with_reducible exact Nat.le_refl _
    | with_reducible rfl
    | with_reducible exact ⟨rfl, rfl, rfl⟩
    | with_reducible intro _
    | split
    | dsimp only)

theorem keeps_execPortPower (hm : Sub 15730190 M) (q : Req) (s : State) (hk : Fr M s0 s) :
    KeepsX M s0 (execPortPower q s) := by
  unfold execPortPower
  repeat' (first
    | with_reducible assumption
    | with_reducible apply keeps_onPort
    | with_reducible apply keeps_plain
    | with_reducible apply keeps_act
    | with_reducible apply keepsX_next
    | with_reducible exact keepsX_fault
    | with_reducible exact keepsX_refused
    | ((with_reducible refine sub_of hm ?_); exact rfl)
    | with_reducible exact Nat.le_refl _
    | with_reducible rfl
    | with_reducible exact ⟨rfl, rfl, rfl⟩
    | with_reducible intro _
    | split
    | dsimp only)

theorem keeps_execPortQuery (hm : Sub 9438734 M) (q : Req) (s : State) (hk : Fr M s0 s) :
    KeepsX M s0 (execPortQuery q s) := by
  unfold execPortQuery
  repeat' (first
    | with_reducible assumption
    | with_reducible apply keeps_plain
    | with_reducible apply keeps_ans
    | with_reducible apply keepsX_next
    | with_reducible exact keepsX_fault
    | with_reducible exact keepsX_refused
    | ((with_reducible refine sub_of hm ?_); exact rfl)
    | with_reducible exact Nat.le_refl _
    | with_reducible rfl
    | with_reducible exact ⟨rfl, rfl, rfl⟩
    | with_reducible intro _
    | split
    | dsimp only)

theorem keeps_clearLane (hm : Sub 128 M) (l : Nat) (s : State) (hk : Fr M s0 s) :
    Fr M s0 (clearLane l s) := by
  unfold clearLane
  repeat' (first
    | with_reducible assumption
    | with_reducible apply keeps_onLane
    | ((with_reducible refine sub_of hm ?_); exact rfl)
    | with_reducible exact Nat.le_refl _
    | with_reducible rfl
    | with_reducible exact ⟨rfl, rfl, rfl⟩
    | with_reducible intro _
    | split
    | dsimp only)

theorem keeps_execLaneStats (hm : Sub 9438862 M) (q : Req) (s : State) (hk : Fr M s0 s) :
    KeepsX M s0 (execLaneStats q s) := by
  unfold execLaneStats
  repeat' (first
    | with_reducible assumption
    | with_reducible apply keeps_whenS
    | with_reducible apply keeps_plain
    | with_reducible apply keeps_clearLane
    | with_reducible apply keepsX_next
    | with_reducible exact keepsX_fault
    | with_reducible exact keepsX_refused
    | ((with_reducible refine sub_of hm ?_); exact rfl)
    | with_reducible exact Nat.le_refl _
    | with_reducible rfl
    | with_reducible exact ⟨rfl, rfl, rfl⟩
    | with_reducible intro _
    | split
    | dsimp only)

theorem keeps_execLaneTest (hm : Sub 9438734 M) (q : Req) (s : State) (hk : Fr M s0 s) :
    KeepsX M s0 (execLaneTest q s) := by
  unfold execLaneTest
  repeat' (first
    | with_reducible assumption
    | with_reducible apply keeps_longOp
    | with_reducible apply keepsX_next
    | with_reducible exact keepsX_fault
    | with_reducible exact keepsX_refused
    | ((with_reducible refine sub_of hm ?_); exact rfl)
    | with_reducible exact Nat.le_refl _
    | with_reducible rfl
    | with_reducible exact ⟨rfl, rfl, rfl⟩
    | with_reducible intro _
    | split
    | dsimp only)

theorem keeps_testOff (hm : Sub 128 M) (t : LaneTest) (s : State) (hk : Fr M s0 s) :
    Fr M s0 (testOff t s) := by
  unfold testOff
  repeat' (first
    | with_reducible assumption
    | with_reducible apply keeps_onNetR
    | with_reducible apply keeps_forEach
    | with_reducible apply keeps_onLane
    | ((with_reducible refine sub_of hm ?_); exact rfl)
    | with_reducible exact Nat.le_refl _
    | with_reducible rfl
    | with_reducible exact ⟨rfl, rfl, rfl⟩
    | with_reducible intro _
    | split
    | dsimp only)

theorem keeps_startLaneTest (hm : Sub 9438862 M) (t : Ticket) (s : State) (hk : Fr M s0 s) :
    Fr M s0 (startLaneTest t s) := by
  unfold startLaneTest
  repeat' (first
    | with_reducible assumption
    | with_reducible apply keeps_onNetR
    | with_reducible apply keeps_forEach
    | with_reducible apply keeps_onLane
    | with_reducible apply keeps_ticketFail
    | ((with_reducible refine sub_of hm ?_); exact rfl)
    | with_reducible exact Nat.le_refl _
    | with_reducible rfl
    | with_reducible exact ⟨rfl, rfl, rfl⟩
    | with_reducible intro _
    | split
    | dsimp only)

theorem keeps_execLaneTestEnd (hm : Sub 9438862 M) (tk : Nat) (counts : List (Nat × Nat × Bool)) (s : State) (hk : Fr M s0 s) :
    KeepsX M s0 (execLaneTestEnd tk counts s) := by
  unfold execLaneTestEnd
  repeat' (first
    | with_reducible assumption
    | with_reducible apply keeps_ticketDone
    | with_reducible apply keeps_ticketResult
    | with_reducible apply keeps_testOff
    | with_reducible apply keepsX_next
    | with_reducible exact keepsX_fault
    | with_reducible exact keepsX_refused
    | with_reducible apply keeps_getD
    | ((with_reducible refine sub_of hm ?_); exact rfl)
    | with_reducible exact Nat.le_refl _
    | with_reducible rfl
    | with_reducible exact ⟨rfl, rfl, rfl⟩
    | with_reducible intro _
    | split
    | dsimp only)

theorem keeps_execPortLinkcfg (hm : Sub 15730190 M) (q : Req) (s : State) (hk : Fr M s0 s) :
    KeepsX M s0 (execPortLinkcfg q s) := by
  unfold execPortLinkcfg
  repeat' (first
    | with_reducible assumption
    | with_reducible apply keeps_onPort
    | with_reducible apply keeps_runCommand
    | with_reducible apply keeps_act
    | with_reducible apply keepsX_next
    | with_reducible exact keepsX_fault
    | with_reducible exact keepsX_refused
    | ((with_reducible refine sub_of hm ?_); exact rfl)
    | with_reducible exact Nat.le_refl _
    | with_reducible rfl
    | with_reducible exact ⟨rfl, rfl, rfl⟩
    | with_reducible intro _
    | split
    | dsimp only)

theorem keeps_clearLstats (hm : Sub 128 M) (l : Nat) (s : State) (hk : Fr M s0 s) :
    Fr M s0 (clearLstats l s) := by
  unfold clearLstats
  repeat' (first
    | with_reducible assumption
    | with_reducible apply keeps_onNetR
    | with_reducible apply keeps_onLink
    | ((with_reducible refine sub_of hm ?_); exact rfl)
    | with_reducible exact Nat.le_refl _
    | with_reducible rfl
    | with_reducible exact ⟨rfl, rfl, rfl⟩
    | with_reducible intro _
    | split
    | dsimp only)

theorem keeps_execPortLstats (hm : Sub 9438862 M) (q : Req) (s : State) (hk : Fr M s0 s) :
    KeepsX M s0 (execPortLstats q s) := by
  unfold execPortLstats
  repeat' (first
    | with_reducible assumption
    | with_reducible apply keeps_whenS
    | with_reducible apply keeps_plain
    | with_reducible apply keeps_clearLstats
    | with_reducible apply keepsX_next
    | with_reducible exact keepsX_fault
    | with_reducible exact keepsX_refused
    | ((with_reducible refine sub_of hm ?_); exact rfl)
    | with_reducible exact Nat.le_refl _
    | with_reducible rfl
    | with_reducible exact ⟨rfl, rfl, rfl⟩
    | with_reducible intro _
    | split
    | dsimp only)

theorem keeps_execPortEthcfg (hm : Sub 15730190 M) (q : Req) (s : State) (hk : Fr M s0 s) :
    KeepsX M s0 (execPortEthcfg q s) := by
  unfold execPortEthcfg
  repeat' (first
    | with_reducible assumption
    | with_reducible apply keeps_onPort
    | with_reducible apply keeps_plain
    | with_reducible apply keeps_act
    | with_reducible apply keepsX_next
    | with_reducible exact keepsX_fault
    | with_reducible exact keepsX_refused
    | ((with_reducible refine sub_of hm ?_); exact rfl)
    | with_reducible exact Nat.le_refl _
    | with_reducible rfl
    | with_reducible exact ⟨rfl, rfl, rfl⟩
    | with_reducible intro _
    | split
    | dsimp only)

end Sys2Proof.Machine
end

