-- ==== Sys2Proof/Laws/KeepsLinks.lean ====
section
/-! SUPPORT. What lanes, links, forwarding, service and windows can change, one lemma per definition: nothing outside the parts given, and nothing that may not be
undone. -/

set_option Elab.async false

namespace Sys2Proof.Machine

set_option linter.all false
variable {M : Nat} {s0 : State}

/-! ### Optics -/

theorem keeps_execOptRead (hm : Sub 9438734 M) (q : Req) (s : State) (hk : Fr M s0 s) :
    KeepsX M s0 (execOptRead q s) := by
  unfold execOptRead
  repeat' (first
    | with_reducible assumption
    | with_reducible apply keeps_plain
    | with_reducible apply keeps_ans
    | with_reducible apply keepsX_next
    | with_reducible exact keepsX_fault
    | with_reducible exact keepsX_refused
    | ((with_reducible refine sub_of hm ?_); exact rfl)
    | with_reducible exact Nat.le_refl _
    | with_reducible rfl
    | with_reducible exact ⟨rfl, rfl, rfl⟩
    | with_reducible intro _
    | split
    | dsimp only)

theorem keeps_execOptReadingUpdate (hm : Sub 128 M) (engine : Nat) (rds : List OptRead) (s : State) (hk : Fr M s0 s) :
    KeepsX M s0 (execOptReadingUpdate engine rds s) := by
  unfold execOptReadingUpdate
  repeat' (first
    | with_reducible assumption
    | with_reducible apply keeps_onNetR
    | with_reducible apply keeps_forEach
    | with_reducible apply keepsX_next
    | with_reducible exact keepsX_fault
    | with_reducible exact keepsX_refused
    | ((with_reducible refine sub_of hm ?_); exact rfl)
    | with_reducible exact Nat.le_refl _
    | with_reducible rfl
    | with_reducible exact ⟨rfl, rfl, rfl⟩
    | with_reducible intro _
    | split
    | dsimp only)

theorem keeps_setGrade (hm : Sub 8388768 M) (p g : Nat) (s : State) (hk : Fr M s0 s) :
    Fr M s0 (setGrade p g s) := by
  unfold setGrade
  repeat' (first
    | with_reducible assumption
    | with_reducible apply keeps_onNetR
    | with_reducible apply keeps_record
    | ((with_reducible refine sub_of hm ?_); exact rfl)
    | with_reducible exact Nat.le_refl _
    | with_reducible rfl
    | with_reducible exact ⟨rfl, rfl, rfl⟩
    | with_reducible intro _
    | split
    | dsimp only)

theorem keeps_execOptInspect (hm : Sub 9438734 M) (q : Req) (s : State) (hk : Fr M s0 s) :
    KeepsX M s0 (execOptInspect q s) := by
  unfold execOptInspect
  repeat' (first
    | with_reducible assumption
    | with_reducible apply keeps_longOp
    | with_reducible apply keepsX_next
    | with_reducible exact keepsX_fault
    | with_reducible exact keepsX_refused
    | ((with_reducible refine sub_of hm ?_); exact rfl)
    | with_reducible exact Nat.le_refl _
    | with_reducible rfl
    | with_reducible exact ⟨rfl, rfl, rfl⟩
    | with_reducible intro _
    | split
    | dsimp only)

theorem keeps_startInspect (hm : Sub 9438894 M) (t : Ticket) (s : State) (hk : Fr M s0 s) :
    Fr M s0 (startInspect t s) := by
  unfold startInspect
  repeat' (first
    | with_reducible assumption
    | with_reducible apply keeps_onNetR
    | with_reducible apply keeps_forEach
    | with_reducible apply keeps_ticketDone
    | with_reducible apply keeps_ticketFail
    | with_reducible apply keeps_setGrade
    | ((with_reducible refine sub_of hm ?_); exact rfl)
    | with_reducible exact Nat.le_refl _
    | with_reducible rfl
    | with_reducible exact ⟨rfl, rfl, rfl⟩
    | with_reducible intro _
    | split
    | dsimp only)

theorem keeps_finishInspect (hm : Sub 9438894 M) (x : Inspect) (s : State) (hk : Fr M s0 s) :
    Fr M s0 (finishInspect x s) := by
  unfold finishInspect
  repeat' (first
    | with_reducible assumption
    | with_reducible apply keeps_onNetR
    | with_reducible apply keeps_record
    | with_reducible apply keeps_ticketDone
    | ((with_reducible refine sub_of hm ?_); exact rfl)
    | with_reducible exact Nat.le_refl _
    | with_reducible rfl
    | with_reducible exact ⟨rfl, rfl, rfl⟩
    | with_reducible intro _
    | split
    | dsimp only)

theorem keeps_onInspect (hm : Sub 128 M) (tk : Nat) (f : Inspect → Inspect) (s : State) (hk : Fr M s0 s) :
    Fr M s0 (onInspect tk f s) := by
  unfold onInspect
  repeat' (first
    | with_reducible assumption
    | with_reducible apply keeps_onNetR
    | ((with_reducible refine sub_of hm ?_); exact rfl)
    | with_reducible exact Nat.le_refl _
    | with_reducible rfl
    | with_reducible exact ⟨rfl, rfl, rfl⟩
    | with_reducible intro _
    | split
    | dsimp only)

theorem keeps_inspectStep (hm : Sub 9438894 M) (x : Inspect) (port g : Nat) (s : State) (hk : Fr M s0 s) :
    Fr M s0 (inspectStep x port g s) := by
  unfold inspectStep
  repeat' (first
    | with_reducible assumption
    | with_reducible apply keeps_setGrade
    | with_reducible apply keeps_finishInspect
    | with_reducible apply keeps_onInspect
    | ((with_reducible refine sub_of hm ?_); exact rfl)
    | with_reducible exact Nat.le_refl _
    | with_reducible rfl
    | with_reducible exact ⟨rfl, rfl, rfl⟩
    | with_reducible intro _
    | split
    | dsimp only)

theorem keeps_execInspectConnectorDone (hm : Sub 9438894 M) (port : Nat) (rds : List OptRead) (s : State) (hk : Fr M s0 s) :
    KeepsX M s0 (execInspectConnectorDone port rds s) := by
  unfold execInspectConnectorDone
  repeat' (first
    | with_reducible assumption
    | with_reducible apply keeps_inspectStep
    | with_reducible apply keepsX_next
    | with_reducible exact keepsX_fault
    | with_reducible exact keepsX_refused
    | ((with_reducible refine sub_of hm ?_); exact rfl)
    | with_reducible exact Nat.le_refl _
    | with_reducible rfl
    | with_reducible exact ⟨rfl, rfl, rfl⟩
    | with_reducible intro _
    | split
    | dsimp only)

theorem keeps_execOptClean (hm : Sub 9438734 M) (q : Req) (s : State) (hk : Fr M s0 s) :
    KeepsX M s0 (execOptClean q s) := by
  unfold execOptClean
  repeat' (first
    | with_reducible assumption
    | with_reducible apply keeps_longOp
    | with_reducible apply keepsX_next
    | with_reducible exact keepsX_fault
    | with_reducible exact keepsX_refused
    | ((with_reducible refine sub_of hm ?_); exact rfl)
    | with_reducible exact Nat.le_refl _
    | with_reducible rfl
    | with_reducible exact ⟨rfl, rfl, rfl⟩
    | with_reducible intro _
    | split
    | dsimp only)

theorem keeps_startClean (hm : Sub 9438862 M) (t : Ticket) (s : State) (hk : Fr M s0 s) :
    Fr M s0 (startClean t s) := by
  unfold startClean
  repeat' (first
    | with_reducible assumption
    | with_reducible apply keeps_emit
    | with_reducible apply keeps_onNetR
    | with_reducible apply keeps_ticketFail
    | ((with_reducible refine sub_of hm ?_); exact rfl)
    | with_reducible exact Nat.le_refl _
    | with_reducible rfl
    | with_reducible exact ⟨rfl, rfl, rfl⟩
    | with_reducible intro _
    | split
    | dsimp only)

theorem keeps_execCleanDurationEnd (hm : Sub 128 M) (s : State) (hk : Fr M s0 s) :
    KeepsX M s0 (execCleanDurationEnd s) := by
  unfold execCleanDurationEnd
  repeat' (first
    | with_reducible assumption
    | with_reducible apply keeps_onNetR
    | with_reducible apply keeps_onInspect
    | with_reducible apply keepsX_next
    | with_reducible exact keepsX_fault
    | with_reducible exact keepsX_refused
    | ((with_reducible refine sub_of hm ?_); exact rfl)
    | with_reducible exact Nat.le_refl _
    | with_reducible rfl
    | with_reducible exact ⟨rfl, rfl, rfl⟩
    | with_reducible intro _
    | split
    | dsimp only)

theorem keeps_execCleanWaitEnd (hm : Sub 9438894 M) (s : State) (hk : Fr M s0 s) :
    KeepsX M s0 (execCleanWaitEnd s) := by
  unfold execCleanWaitEnd
  repeat' (first
    | with_reducible assumption
    | with_reducible apply keeps_forEach
    | with_reducible apply keeps_setGrade
    | with_reducible apply keeps_finishInspect
    | with_reducible apply keeps_onInspect
    | with_reducible apply keepsX_next
    | with_reducible exact keepsX_fault
    | with_reducible exact keepsX_refused
    | ((with_reducible refine sub_of hm ?_); exact rfl)
    | with_reducible exact Nat.le_refl _
    | with_reducible rfl
    | with_reducible exact ⟨rfl, rfl, rfl⟩
    | with_reducible intro _
    | split
    | dsimp only)

theorem keeps_setBay (hm : Sub 128 M) (b : Nat) (x : Bay) (s : State) (hk : Fr M s0 s) :
    Fr M s0 (setBay b x s) := by
  unfold setBay
  repeat' (first
    | with_reducible assumption
    | with_reducible apply keeps_onNetR
    | ((with_reducible refine sub_of hm ?_); exact rfl)
    | with_reducible exact Nat.le_refl _
    | with_reducible rfl
    | with_reducible exact ⟨rfl, rfl, rfl⟩
    | with_reducible intro _
    | split
    | dsimp only)

theorem keeps_bayEvent (hm : Sub 8388640 M) (b : Nat) (s : State) (hk : Fr M s0 s) :
    Fr M s0 (bayEvent b s) := by
  unfold bayEvent
  repeat' (first
    | with_reducible assumption
    | with_reducible apply keeps_whenS
    | with_reducible apply keeps_record
    | ((with_reducible refine sub_of hm ?_); exact rfl)
    | with_reducible exact Nat.le_refl _
    | with_reducible rfl
    | with_reducible exact ⟨rfl, rfl, rfl⟩
    | with_reducible intro _
    | split
    | dsimp only)

theorem keeps_portOff (hm : Sub 8490720 M) (p : Nat) (s : State) (hk : Fr M s0 s) :
    Fr M s0 (portOff p s) := by
  unfold portOff
  repeat' (first
    | with_reducible assumption
    | with_reducible apply keeps_forEach
    | with_reducible apply keeps_lanesDown
    | with_reducible apply keeps_pathLost
    | ((with_reducible refine sub_of hm ?_); exact rfl)
    | with_reducible exact Nat.le_refl _
    | with_reducible rfl
    | with_reducible exact ⟨rfl, rfl, rfl⟩
    | with_reducible intro _
    | split
    | dsimp only)

theorem keeps_retrainLp (hm : Sub 8490720 M) (l : Nat) (s : State) (hk : Fr M s0 s) :
    Fr M s0 (retrainLp l s) := by
  unfold retrainLp
  repeat' (first
    | with_reducible assumption
    | with_reducible apply keeps_whenS
    | with_reducible apply keeps_retrain
    | with_reducible apply keeps_pathLost
    | ((with_reducible refine sub_of hm ?_); exact rfl)
    | with_reducible exact Nat.le_refl _
    | with_reducible rfl
    | with_reducible exact ⟨rfl, rfl, rfl⟩
    | with_reducible intro _
    | split
    | dsimp only)

theorem keeps_endOverride (hm : Sub 14782176 M) (p : Nat) (s : State) (hk : Fr M s0 s) :
    Fr M s0 (endOverride p s) := by
  unfold endOverride
  repeat' (first
    | with_reducible assumption
    | with_reducible apply keeps_onNetR
    | with_reducible apply keeps_forEach
    | with_reducible apply keeps_onPort
    | with_reducible apply keeps_retrainLp
    | ((with_reducible refine sub_of hm ?_); exact rfl)
    | with_reducible exact Nat.le_refl _
    | with_reducible rfl
    | with_reducible exact ⟨rfl, rfl, rfl⟩
    | with_reducible intro _
    | split
    | dsimp only)

theorem keeps_settlePort (hm : Sub 8490720 M) (p : Nat) (s : State) (hk : Fr M s0 s) :
    Fr M s0 (settlePort p s) := by
  unfold settlePort
  repeat' (first
    | with_reducible assumption
    | with_reducible apply keeps_portUp
    | with_reducible apply keeps_portOff
    | ((with_reducible refine sub_of hm ?_); exact rfl)
    | with_reducible exact Nat.le_refl _
    | with_reducible rfl
    | with_reducible exact ⟨rfl, rfl, rfl⟩
    | with_reducible intro _
    | split
    | dsimp only)

theorem keeps_setOverride (hm : Sub 14782176 M) (p bits : Nat) (s : State) (hk : Fr M s0 s) :
    Fr M s0 (setOverride p bits s) := by
  unfold setOverride
  repeat' (first
    | with_reducible assumption
    | with_reducible apply keeps_forEach
    | with_reducible apply keeps_onPort
    | with_reducible apply keeps_judgeFar
    | with_reducible apply keeps_endOverride
    | with_reducible apply keeps_settlePort
    | ((with_reducible refine sub_of hm ?_); exact rfl)
    | with_reducible exact Nat.le_refl _
    | with_reducible rfl
    | with_reducible exact ⟨rfl, rfl, rfl⟩
    | with_reducible intro _
    | split
    | dsimp only)

theorem keeps_execCartOverride (hm : Sub 15830766 M) (q : Req) (s : State) (hk : Fr M s0 s) :
    KeepsX M s0 (execCartOverride q s) := by
  unfold execCartOverride
  repeat' (first
    | with_reducible assumption
    | with_reducible apply keeps_forEach
    | with_reducible apply keeps_plain
    | with_reducible apply keeps_act
    | with_reducible apply keeps_setOverride
    | with_reducible apply keepsX_next
    | with_reducible exact keepsX_fault
    | with_reducible exact keepsX_refused
    | ((with_reducible refine sub_of hm ?_); exact rfl)
    | with_reducible exact Nat.le_refl _
    | with_reducible rfl
    | with_reducible exact ⟨rfl, rfl, rfl⟩
    | with_reducible intro _
    | split
    | dsimp only)

theorem keeps_bayChanged (hm : Sub 8490720 M) (b : Nat) (s : State) (hk : Fr M s0 s) :
    Fr M s0 (bayChanged b s) := by
  unfold bayChanged
  repeat' (first
    | with_reducible assumption
    | with_reducible apply keeps_forEach
    | with_reducible apply keeps_record
    | with_reducible apply keeps_portOff
    | ((with_reducible refine sub_of hm ?_); exact rfl)
    | with_reducible exact Nat.le_refl _
    | with_reducible rfl
    | with_reducible exact ⟨rfl, rfl, rfl⟩
    | with_reducible intro _
    | split
    | dsimp only)

theorem keeps_execCartPoll (hm : Sub 8490720 M) (bay : Nat) (serial : Option (List Byte)) (s : State) (hk : Fr M s0 s) :
    KeepsX M s0 (execCartPoll bay serial s) := by
  unfold execCartPoll
  repeat' (first
    | with_reducible assumption
    | with_reducible apply keeps_onNetR
    | with_reducible apply keeps_bayChanged
    | with_reducible apply keepsX_next
    | with_reducible exact keepsX_fault
    | with_reducible exact keepsX_refused
    | ((with_reducible refine sub_of hm ?_); exact rfl)
    | with_reducible exact Nat.le_refl _
    | with_reducible rfl
    | with_reducible exact ⟨rfl, rfl, rfl⟩
    | with_reducible intro _
    | split
    | dsimp only)

theorem keeps_takeBay (hm : Sub 14782176 M) (b : Nat) (raw : Option (List Byte)) (s : State) (hk : Fr M s0 s) :
    Fr M s0 (takeBay b raw s) := by
  unfold takeBay
  repeat' (first
    | with_reducible assumption
    | with_reducible apply keeps_forEach
    | with_reducible apply keeps_whenS
    | with_reducible apply keeps_setBay
    | with_reducible apply keeps_bayEvent
    | with_reducible apply keeps_endOverride
    | with_reducible apply keeps_settlePort
    | ((with_reducible refine sub_of hm ?_); exact rfl)
    | with_reducible exact Nat.le_refl _
    | with_reducible rfl
    | with_reducible exact ⟨rfl, rfl, rfl⟩
    | with_reducible intro _
    | split
    | dsimp only)

theorem keeps_execCartRecordReadDone (hm : Sub 15830766 M) (bay : Nat) (raw : Option (List Byte)) (s : State) (hk : Fr M s0 s) :
    KeepsX M s0 (execCartRecordReadDone bay raw s) := by
  unfold execCartRecordReadDone
  repeat' (first
    | with_reducible assumption
    | with_reducible apply keeps_onNetR
    | with_reducible apply keeps_whenS
    | with_reducible apply keeps_ticketDone
    | with_reducible apply keeps_bayChanged
    | with_reducible apply keeps_takeBay
    | with_reducible apply keepsX_next
    | with_reducible exact keepsX_fault
    | with_reducible exact keepsX_refused
    | ((with_reducible refine sub_of hm ?_); exact rfl)
    | with_reducible exact Nat.le_refl _
    | with_reducible rfl
    | with_reducible exact ⟨rfl, rfl, rfl⟩
    | with_reducible intro _
    | split
    | dsimp only)

theorem keeps_readBay (hm : Sub 8388608 M) (q : Req) (s : State) (hk : Fr M s0 s) :
    Fr M s0 (readBay q s).1 := by
  unfold readBay
  repeat' (first
    | with_reducible assumption
    | with_reducible apply keeps_emit
    | ((with_reducible refine sub_of hm ?_); exact rfl)
    | with_reducible exact Nat.le_refl _
    | with_reducible rfl
    | with_reducible exact ⟨rfl, rfl, rfl⟩
    | with_reducible intro _
    | split
    | dsimp only)

theorem keeps_execCartRead (hm : Sub 9438734 M) (q : Req) (s : State) (hk : Fr M s0 s) :
    KeepsX M s0 (execCartRead q s) := by
  unfold execCartRead
  repeat' (first
    | with_reducible assumption
    | with_reducible apply keeps_runCommand
    | with_reducible apply keeps_readBay
    | with_reducible apply keepsX_next
    | with_reducible exact keepsX_fault
    | with_reducible exact keepsX_refused
    | with_reducible refine keeps_fst ‹_› ?_
    | ((with_reducible refine sub_of hm ?_); exact rfl)
    | with_reducible exact Nat.le_refl _
    | with_reducible rfl
    | with_reducible exact ⟨rfl, rfl, rfl⟩
    | with_reducible intro _
    | split
    | dsimp only)

theorem keeps_execCartRescan (hm : Sub 9438734 M) (q : Req) (s : State) (hk : Fr M s0 s) :
    KeepsX M s0 (execCartRescan q s) := by
  unfold execCartRescan
  repeat' (first
    | with_reducible assumption
    | with_reducible apply keeps_longOp
    | with_reducible apply keepsX_next
    | with_reducible exact keepsX_fault
    | with_reducible exact keepsX_refused
    | ((with_reducible refine sub_of hm ?_); exact rfl)
    | with_reducible exact Nat.le_refl _
    | with_reducible rfl
    | with_reducible exact ⟨rfl, rfl, rfl⟩
    | with_reducible intro _
    | split
    | dsimp only)

theorem keeps_startRescan (hm : Sub 9438862 M) (t : Ticket) (s : State) (hk : Fr M s0 s) :
    Fr M s0 (startRescan t s) := by
  unfold startRescan
  repeat' (first
    | with_reducible assumption
    | with_reducible apply keeps_onNetR
    | with_reducible apply keeps_forEach
    | with_reducible apply keeps_ticketDone
    | ((with_reducible refine sub_of hm ?_); exact rfl)
    | with_reducible exact Nat.le_refl _
    | with_reducible rfl
    | with_reducible exact ⟨rfl, rfl, rfl⟩
    | with_reducible intro _
    | split
    | dsimp only)

/-! ### LaneEvents -/

theorem keeps_setPower (hm : Sub 128 M) (l : Nat) (p : LanePower) (s : State) (hk : Fr M s0 s) :
    Fr M s0 (setPower l p s) := by
  unfold setPower
  repeat' (first
    | with_reducible assumption
    | with_reducible apply keeps_forEach
    | with_reducible apply keeps_onLane
    | ((with_reducible refine sub_of hm ?_); exact rfl)
    | with_reducible exact Nat.le_refl _
    | with_reducible rfl
    | with_reducible exact ⟨rfl, rfl, rfl⟩
    | with_reducible intro _
    | split
    | dsimp only)

theorem keeps_noLock (hm : Sub 8388768 M) (l : Nat) (s : State) (hk : Fr M s0 s) :
    Fr M s0 (noLock l s) := by
  unfold noLock
  repeat' (first
    | with_reducible assumption
    | with_reducible apply keeps_forEach
    | with_reducible apply keeps_onLane
    | with_reducible apply keeps_record
    | ((with_reducible refine sub_of hm ?_); exact rfl)
    | with_reducible exact Nat.le_refl _
    | with_reducible rfl
    | with_reducible exact ⟨rfl, rfl, rfl⟩
    | with_reducible intro _
    | split
    | dsimp only)

theorem keeps_execLanePowerUpEnd (hm : Sub 8388768 M) (lp : Nat) (locked : Bool) (s : State) (hk : Fr M s0 s) :
    KeepsX M s0 (execLanePowerUpEnd lp locked s) := by
  unfold execLanePowerUpEnd
  repeat' (first
    | with_reducible assumption
    | with_reducible apply keeps_lanesReady
    | with_reducible apply keeps_setPower
    | with_reducible apply keeps_noLock
    | with_reducible apply keepsX_next
    | with_reducible exact keepsX_fault
    | with_reducible exact keepsX_refused
    | ((with_reducible refine sub_of hm ?_); exact rfl)
    | with_reducible exact Nat.le_refl _
    | with_reducible rfl
    | with_reducible exact ⟨rfl, rfl, rfl⟩
    | with_reducible intro _
    | split
    | dsimp only)

theorem keeps_execLaneRetry (hm : Sub 128 M) (lp : Nat) (s : State) (hk : Fr M s0 s) :
    KeepsX M s0 (execLaneRetry lp s) := by
  unfold execLaneRetry
  repeat' (first
    | with_reducible assumption
    | with_reducible apply keeps_forEach
    | with_reducible apply keeps_powerLane
    | with_reducible apply keepsX_next
    | with_reducible exact keepsX_fault
    | with_reducible exact keepsX_refused
    | ((with_reducible refine sub_of hm ?_); exact rfl)
    | with_reducible exact Nat.le_refl _
    | with_reducible rfl
    | with_reducible exact ⟨rfl, rfl, rfl⟩
    | with_reducible intro _
    | split
    | dsimp only)

theorem keeps_dropLanes (hm : Sub 8490720 M) (l : Nat) (s : State) (hk : Fr M s0 s) :
    Fr M s0 (dropLanes l s) := by
  unfold dropLanes
  repeat' (first
    | with_reducible assumption
    | with_reducible apply keeps_whenS
    | with_reducible apply keeps_lanesDown
    | with_reducible apply keeps_pathLost
    | ((with_reducible refine sub_of hm ?_); exact rfl)
    | with_reducible exact Nat.le_refl _
    | with_reducible rfl
    | with_reducible exact ⟨rfl, rfl, rfl⟩
    | with_reducible intro _
    | split
    | dsimp only)

theorem keeps_detect (hm : Sub 8490720 M) (lane code : Nat) (f : Lane → Lane) (s : State) (hk : Fr M s0 s) :
    Fr M s0 (detect lane code f s) := by
  unfold detect
  repeat' (first
    | with_reducible assumption
    | with_reducible apply keeps_onLane
    | with_reducible apply keeps_record
    | with_reducible apply keeps_report
    | with_reducible apply keeps_dropLanes
    | ((with_reducible refine sub_of hm ?_); exact rfl)
    | with_reducible exact Nat.le_refl _
    | with_reducible rfl
    | with_reducible exact ⟨rfl, rfl, rfl⟩
    | with_reducible intro _
    | split
    | dsimp only)

theorem keeps_execLossOfSignal (hm : Sub 8490720 M) (lane : Nat) (s : State) (hk : Fr M s0 s) :
    KeepsX M s0 (execLossOfSignal lane s) := by
  unfold execLossOfSignal
  repeat' (first
    | with_reducible assumption
    | with_reducible apply keeps_detect
    | with_reducible apply keepsX_next
    | with_reducible exact keepsX_fault
    | with_reducible exact keepsX_refused
    | ((with_reducible refine sub_of hm ?_); exact rfl)
    | with_reducible exact Nat.le_refl _
    | with_reducible rfl
    | with_reducible exact ⟨rfl, rfl, rfl⟩
    | with_reducible intro _
    | split
    | dsimp only)

theorem keeps_execLossOfLock (hm : Sub 8490720 M) (lane : Nat) (s : State) (hk : Fr M s0 s) :
    KeepsX M s0 (execLossOfLock lane s) := by
  unfold execLossOfLock
  repeat' (first
    | with_reducible assumption
    | with_reducible apply keeps_detect
    | with_reducible apply keepsX_next
    | with_reducible exact keepsX_fault
    | with_reducible exact keepsX_refused
    | ((with_reducible refine sub_of hm ?_); exact rfl)
    | with_reducible exact Nat.le_refl _
    | with_reducible rfl
    | with_reducible exact ⟨rfl, rfl, rfl⟩
    | with_reducible intro _
    | split
    | dsimp only)

theorem keeps_execRefclkLoss (hm : Sub 8490720 M) (die : Nat) (otherGood : Bool) (s : State) (hk : Fr M s0 s) :
    KeepsX M s0 (execRefclkLoss die otherGood s) := by
  unfold execRefclkLoss
  repeat' (first
    | with_reducible assumption
    | with_reducible apply keeps_onNetR
    | with_reducible apply keeps_forEach
    | with_reducible apply keeps_record
    | with_reducible apply keeps_report
    | with_reducible apply keeps_portOff
    | with_reducible apply keepsX_next
    | with_reducible exact keepsX_fault
    | with_reducible exact keepsX_refused
    | ((with_reducible refine sub_of hm ?_); exact rfl)
    | with_reducible exact Nat.le_refl _
    | with_reducible rfl
    | with_reducible exact ⟨rfl, rfl, rfl⟩
    | with_reducible intro _
    | split
    | dsimp only)

theorem keeps_execLiftComplete (hm : Sub 128 M) (lp : Nat) (s : State) (hk : Fr M s0 s) :
    KeepsX M s0 (execLiftComplete lp s) := by
  unfold execLiftComplete
  repeat' (first
    | with_reducible assumption
    | with_reducible apply keeps_onLink
    | with_reducible apply keeps_setPower
    | with_reducible apply keepsX_next
    | with_reducible exact keepsX_fault
    | with_reducible exact keepsX_refused
    | ((with_reducible refine sub_of hm ?_); exact rfl)
    | with_reducible exact Nat.le_refl _
    | with_reducible rfl
    | with_reducible exact ⟨rfl, rfl, rfl⟩
    | with_reducible intro _
    | split
    | dsimp only)

theorem keeps_execDozeIdleTimeout (hm : Sub 8388736 M) (lp : Nat) (s : State) (hk : Fr M s0 s) :
    KeepsX M s0 (execDozeIdleTimeout lp s) := by
  unfold execDozeIdleTimeout
  repeat' (first
    | with_reducible assumption
    | with_reducible apply keeps_emit
    | with_reducible apply keeps_onLink
    | with_reducible apply keepsX_next
    | with_reducible exact keepsX_fault
    | with_reducible exact keepsX_refused
    | ((with_reducible refine sub_of hm ?_); exact rfl)
    | with_reducible exact Nat.le_refl _
    | with_reducible rfl
    | with_reducible exact ⟨rfl, rfl, rfl⟩
    | with_reducible intro _
    | split
    | dsimp only)

theorem keeps_enterDoze (hm : Sub 128 M) (l : Nat) (s : State) (hk : Fr M s0 s) :
    Fr M s0 (enterDoze l s) := by
  unfold enterDoze
  repeat' (first
    | with_reducible assumption
    | with_reducible apply keeps_forEach
    | with_reducible apply keeps_onLane
    | with_reducible apply keeps_onLink
    | ((with_reducible refine sub_of hm ?_); exact rfl)
    | with_reducible exact Nat.le_refl _
    | with_reducible rfl
    | with_reducible exact ⟨rfl, rfl, rfl⟩
    | with_reducible intro _
    | split
    | dsimp only)

theorem keeps_badBlk (hm : Sub 128 M) (l : Nat) (s : State) (hk : Fr M s0 s) :
    Fr M s0 (badBlk l s) := by
  unfold badBlk
  repeat' (first
    | with_reducible assumption
    | with_reducible apply keeps_onLink
    | ((with_reducible refine sub_of hm ?_); exact rfl)
    | with_reducible exact Nat.le_refl _
    | with_reducible rfl
    | with_reducible exact ⟨rfl, rfl, rfl⟩
    | with_reducible intro _
    | split
    | dsimp only)

theorem keeps_ctlRx (hm : Sub 128 M) (l blk ty : Nat) (f : State → State) (s : State) (hf_f : ∀ x0, Fr M s0 x0 → Fr M s0 (f x0)) (hk : Fr M s0 s) :
    Fr M s0 (ctlRx l blk ty f s) := by
  unfold ctlRx
  repeat' (first
    | with_reducible assumption
    | with_reducible apply keeps_badBlk
    | with_reducible apply hf_f
    | ((with_reducible refine sub_of hm ?_); exact rfl)
    | with_reducible exact Nat.le_refl _
    | with_reducible rfl
    | with_reducible exact ⟨rfl, rfl, rfl⟩
    | with_reducible intro _
    | split
    | dsimp only)

theorem keeps_farLift (hm : Sub 128 M) (l : Nat) (s : State) (hk : Fr M s0 s) :
    Fr M s0 (farLift l s) := by
  unfold farLift
  repeat' (first
    | with_reducible assumption
    | with_reducible apply keeps_forEach
    | with_reducible apply keeps_onLane
    | with_reducible apply keeps_onLink
    | ((with_reducible refine sub_of hm ?_); exact rfl)
    | with_reducible exact Nat.le_refl _
    | with_reducible rfl
    | with_reducible exact ⟨rfl, rfl, rfl⟩
    | with_reducible intro _
    | split
    | dsimp only)

theorem keeps_dozeMsg (hm : Sub 8388736 M) (l m : Nat) (s : State) (hk : Fr M s0 s) :
    Fr M s0 (dozeMsg l m s) := by
  unfold dozeMsg
  repeat' (first
    | with_reducible assumption
    | with_reducible apply keeps_emit
    | with_reducible apply keeps_onLink
    | with_reducible apply keeps_enterDoze
    | with_reducible apply keeps_farLift
    | ((with_reducible refine sub_of hm ?_); exact rfl)
    | with_reducible exact Nat.le_refl _
    | with_reducible rfl
    | with_reducible exact ⟨rfl, rfl, rfl⟩
    | with_reducible intro _
    | split
    | dsimp only)

theorem keeps_execDozeBlockRx (hm : Sub 8388736 M) (lp blk : Nat) (s : State) (hk : Fr M s0 s) :
    KeepsX M s0 (execDozeBlockRx lp blk s) := by
  unfold execDozeBlockRx
  repeat' (first
    | with_reducible assumption
    | with_reducible apply keeps_ctlRx
    | with_reducible apply keeps_dozeMsg
    | with_reducible apply keepsX_next
    | with_reducible exact keepsX_fault
    | with_reducible exact keepsX_refused
    | ((with_reducible refine sub_of hm ?_); exact rfl)
    | with_reducible exact Nat.le_refl _
    | with_reducible rfl
    | with_reducible exact ⟨rfl, rfl, rfl⟩
    | with_reducible intro _
    | split
    | dsimp only)

theorem keeps_lockMoves (hm : Sub 8490720 M) (l : Nat) (had : Bool) (s : State) (hk : Fr M s0 s) :
    Fr M s0 (lockMoves l had s) := by
  unfold lockMoves
  repeat' (first
    | with_reducible assumption
    | with_reducible apply keeps_setLink
    | with_reducible apply keeps_sendTrain
    | with_reducible apply keeps_retrainLp
    | ((with_reducible refine sub_of hm ?_); exact rfl)
    | with_reducible exact Nat.le_refl _
    | with_reducible rfl
    | with_reducible exact ⟨rfl, rfl, rfl⟩
    | with_reducible intro _
    | split
    | dsimp only)

theorem keeps_execTetherBlockRx (hm : Sub 8490720 M) (lane : Nat) (blk : Option Nat) (s : State) (hk : Fr M s0 s) :
    KeepsX M s0 (execTetherBlockRx lane blk s) := by
  unfold execTetherBlockRx
  repeat' (first
    | with_reducible assumption
    | with_reducible apply keeps_onLane
    | with_reducible apply keeps_lockMoves
    | with_reducible apply keepsX_next
    | with_reducible exact keepsX_fault
    | with_reducible exact keepsX_refused
    | with_reducible apply keeps_getD
    | ((with_reducible refine sub_of hm ?_); exact rfl)
    | with_reducible exact Nat.le_refl _
    | with_reducible rfl
    | with_reducible exact ⟨rfl, rfl, rfl⟩
    | with_reducible intro _
    | split
    | dsimp only)

theorem keeps_takeCret (hm : Sub 128 M) (l slot : Nat) (s : State) (hk : Fr M s0 s) :
    Fr M s0 (takeCret l slot s) := by
  unfold takeCret
  repeat' (first
    | with_reducible assumption
    | with_reducible apply keeps_onLink
    | with_reducible apply keeps_getD
    | ((with_reducible refine sub_of hm ?_); exact rfl)
    | with_reducible exact Nat.le_refl _
    | with_reducible rfl
    | with_reducible exact ⟨rfl, rfl, rfl⟩
    | with_reducible intro _
    | split
    | dsimp only)

theorem keeps_resendLp (hm : Sub 8490720 M) (l : Nat) (s : State) (hk : Fr M s0 s) :
    Fr M s0 (resendLp l s) := by
  unfold resendLp
  repeat' (first
    | with_reducible assumption
    | with_reducible apply keeps_whenS
    | with_reducible apply keeps_resendOrRetrain
    | with_reducible apply keeps_pathLost
    | ((with_reducible refine sub_of hm ?_); exact rfl)
    | with_reducible exact Nat.le_refl _
    | with_reducible rfl
    | with_reducible exact ⟨rfl, rfl, rfl⟩
    | with_reducible intro _
    | split
    | dsimp only)

theorem keeps_takeAck (hm : Sub 8490720 M) (l ack : Nat) (valid nak : Bool) (s : State) (hk : Fr M s0 s) :
    Fr M s0 (takeAck l ack valid nak s) := by
  unfold takeAck
  repeat' (first
    | with_reducible assumption
    | with_reducible apply keeps_whenS
    | with_reducible apply keeps_onLink
    | with_reducible apply keeps_ackUpTo
    | with_reducible apply keeps_resendLp
    | ((with_reducible refine sub_of hm ?_); exact rfl)
    | with_reducible exact Nat.le_refl _
    | with_reducible rfl
    | with_reducible exact ⟨rfl, rfl, rfl⟩
    | with_reducible intro _
    | split
    | dsimp only)

theorem keeps_execLinkCtlRx (hm : Sub 8490720 M) (lp : Nat) (blk : Nat) (s : State) (hk : Fr M s0 s) :
    KeepsX M s0 (execLinkCtlRx lp blk s) := by
  unfold execLinkCtlRx
  repeat' (first
    | with_reducible assumption
    | with_reducible apply keeps_forEach
    | with_reducible apply keeps_ctlRx
    | with_reducible apply keeps_takeCret
    | with_reducible apply keeps_takeAck
    | with_reducible apply keepsX_next
    | with_reducible exact keepsX_fault
    | with_reducible exact keepsX_refused
    | ((with_reducible refine sub_of hm ?_); exact rfl)
    | with_reducible exact Nat.le_refl _
    | with_reducible rfl
    | with_reducible exact ⟨rfl, rfl, rfl⟩
    | with_reducible intro _
    | split
    | dsimp only)

theorem keeps_execCreditReturnDue (hm : Sub 8388736 M) (lp : Nat) (s : State) (hk : Fr M s0 s) :
    KeepsX M s0 (execCreditReturnDue lp s) := by
  unfold execCreditReturnDue
  repeat' (first
    | with_reducible assumption
    | with_reducible apply keeps_emit
    | with_reducible apply keeps_forEach
    | with_reducible apply keeps_onLink
    | with_reducible apply keepsX_next
    | with_reducible exact keepsX_fault
    | with_reducible exact keepsX_refused
    | with_reducible apply keeps_foldl | with_reducible apply keeps_foldlSnd | with_reducible apply keeps_foldlThd
    | ((with_reducible refine sub_of hm ?_); exact rfl)
    | with_reducible exact Nat.le_refl _
    | with_reducible rfl
    | with_reducible exact ⟨rfl, rfl, rfl⟩
    | with_reducible intro _
    | split
    | dsimp only)

theorem keeps_execReplayTimeout (hm : Sub 8490720 M) (lp : Nat) (s : State) (hk : Fr M s0 s) :
    KeepsX M s0 (execReplayTimeout lp s) := by
  unfold execReplayTimeout
  repeat' (first
    | with_reducible assumption
    | with_reducible apply keeps_resendLp
    | with_reducible apply keepsX_next
    | with_reducible exact keepsX_fault
    | with_reducible exact keepsX_refused
    | ((with_reducible refine sub_of hm ?_); exact rfl)
    | with_reducible exact Nat.le_refl _
    | with_reducible rfl
    | with_reducible exact ⟨rfl, rfl, rfl⟩
    | with_reducible intro _
    | split
    | dsimp only)

theorem keeps_keepFar (hm : Sub 128 M) (l blk : Nat) (s : State) (hk : Fr M s0 s) :
    Fr M s0 (keepFar l blk s) := by
  unfold keepFar
  repeat' (first
    | with_reducible assumption
    | with_reducible apply keeps_onLink
    | ((with_reducible refine sub_of hm ?_); exact rfl)
    | with_reducible exact Nat.le_refl _
    | with_reducible rfl
    | with_reducible exact ⟨rfl, rfl, rfl⟩
    | with_reducible intro _
    | split
    | dsimp only)

theorem keeps_trainMsg (hm : Sub 8490720 M) (l blk : Nat) (s : State) (hk : Fr M s0 s) :
    Fr M s0 (trainMsg l blk s) := by
  unfold trainMsg
  repeat' (first
    | with_reducible assumption
    | with_reducible apply keeps_judgeFar
    | with_reducible apply keeps_enterUp
    | with_reducible apply keeps_retrainLp
    | with_reducible apply keeps_keepFar
    | ((with_reducible refine sub_of hm ?_); exact rfl)
    | with_reducible exact Nat.le_refl _
    | with_reducible rfl
    | with_reducible exact ⟨rfl, rfl, rfl⟩
    | with_reducible intro _
    | split
    | dsimp only)

theorem keeps_execTrainRx (hm : Sub 8490720 M) (lp blk : Nat) (s : State) (hk : Fr M s0 s) :
    KeepsX M s0 (execTrainRx lp blk s) := by
  unfold execTrainRx
  repeat' (first
    | with_reducible assumption
    | with_reducible apply keeps_ctlRx
    | with_reducible apply keeps_trainMsg
    | with_reducible apply keepsX_next
    | with_reducible exact keepsX_fault
    | with_reducible exact keepsX_refused
    | ((with_reducible refine sub_of hm ?_); exact rfl)
    | with_reducible exact Nat.le_refl _
    | with_reducible rfl
    | with_reducible exact ⟨rfl, rfl, rfl⟩
    | with_reducible intro _
    | split
    | dsimp only)

theorem keeps_execTrainBlockDue (hm : Sub 8388768 M) (lp : Nat) (s : State) (hk : Fr M s0 s) :
    KeepsX M s0 (execTrainBlockDue lp s) := by
  unfold execTrainBlockDue
  repeat' (first
    | with_reducible assumption
    | with_reducible apply keeps_sendTrain
    | with_reducible apply keeps_retrain
    | with_reducible apply keepsX_next
    | with_reducible exact keepsX_fault
    | with_reducible exact keepsX_refused
    | ((with_reducible refine sub_of hm ?_); exact rfl)
    | with_reducible exact Nat.le_refl _
    | with_reducible rfl
    | with_reducible exact ⟨rfl, rfl, rfl⟩
    | with_reducible intro _
    | split
    | dsimp only)

theorem keeps_execLockingTimeout (hm : Sub 8388768 M) (lp : Nat) (s : State) (hk : Fr M s0 s) :
    KeepsX M s0 (execLockingTimeout lp s) := by
  unfold execLockingTimeout
  repeat' (first
    | with_reducible assumption
    | with_reducible apply keeps_retrain
    | with_reducible apply keepsX_next
    | with_reducible exact keepsX_fault
    | with_reducible exact keepsX_refused
    | ((with_reducible refine sub_of hm ?_); exact rfl)
    | with_reducible exact Nat.le_refl _
    | with_reducible rfl
    | with_reducible exact ⟨rfl, rfl, rfl⟩
    | with_reducible intro _
    | split
    | dsimp only)

theorem keeps_execExchangeTimeout (hm : Sub 8388768 M) (lp : Nat) (s : State) (hk : Fr M s0 s) :
    KeepsX M s0 (execExchangeTimeout lp s) := by
  unfold execExchangeTimeout
  repeat' (first
    | with_reducible assumption
    | with_reducible apply keeps_retrain
    | with_reducible apply keepsX_next
    | with_reducible exact keepsX_fault
    | with_reducible exact keepsX_refused
    | ((with_reducible refine sub_of hm ?_); exact rfl)
    | with_reducible exact Nat.le_refl _
    | with_reducible rfl
    | with_reducible exact ⟨rfl, rfl, rfl⟩
    | with_reducible intro _
    | split
    | dsimp only)

theorem keeps_execRetrainEnd (hm : Sub 8388768 M) (lp : Nat) (s : State) (hk : Fr M s0 s) :
    KeepsX M s0 (execRetrainEnd lp s) := by
  unfold execRetrainEnd
  repeat' (first
    | with_reducible assumption
    | with_reducible apply keeps_onLink
    | with_reducible apply keeps_retrain
    | with_reducible apply keeps_creditZero
    | with_reducible apply keepsX_next
    | with_reducible exact keepsX_fault
    | with_reducible exact keepsX_refused
    | ((with_reducible refine sub_of hm ?_); exact rfl)
    | with_reducible exact Nat.le_refl _
    | with_reducible rfl
    | with_reducible exact ⟨rfl, rfl, rfl⟩
    | with_reducible intro _
    | split
    | dsimp only)

theorem keeps_execMiscabledRecheck (hm : Sub 8388768 M) (lp : Nat) (s : State) (hk : Fr M s0 s) :
    KeepsX M s0 (execMiscabledRecheck lp s) := by
  unfold execMiscabledRecheck
  repeat' (first
    | with_reducible assumption
    | with_reducible apply keeps_judgeFar
    | with_reducible apply keepsX_next
    | with_reducible exact keepsX_fault
    | with_reducible exact keepsX_refused
    | ((with_reducible refine sub_of hm ?_); exact rfl)
    | with_reducible exact Nat.le_refl _
    | with_reducible rfl
    | with_reducible exact ⟨rfl, rfl, rfl⟩
    | with_reducible intro _
    | split
    | dsimp only)

theorem keeps_execLinkFlushTimeout (hm : Sub 8389792 M) (lp : Nat) (s : State) (hk : Fr M s0 s) :
    KeepsX M s0 (execLinkFlushTimeout lp s) := by
  unfold execLinkFlushTimeout
  repeat' (first
    | with_reducible assumption
    | with_reducible apply keeps_forEach
    | with_reducible apply keeps_onLink
    | with_reducible apply keeps_dropTx
    | with_reducible apply keeps_linkEvent
    | with_reducible apply keepsX_next
    | with_reducible exact keepsX_fault
    | with_reducible exact keepsX_refused
    | ((with_reducible refine sub_of hm ?_); exact rfl)
    | with_reducible exact Nat.le_refl _
    | with_reducible rfl
    | with_reducible exact ⟨rfl, rfl, rfl⟩
    | with_reducible intro _
    | split
    | dsimp only)

theorem keeps_execStorageLinkLock (hm : Sub 8388768 M) (port : Nat) (locked : Bool) (s : State) (hk : Fr M s0 s) :
    KeepsX M s0 (execStorageLinkLock port locked s) := by
  unfold execStorageLinkLock
  repeat' (first
    | with_reducible assumption
    | with_reducible apply keeps_linkEvent
    | with_reducible apply keeps_setLink
    | with_reducible apply keepsX_next
    | with_reducible exact keepsX_fault
    | with_reducible exact keepsX_refused
    | ((with_reducible refine sub_of hm ?_); exact rfl)
    | with_reducible exact Nat.le_refl _
    | with_reducible rfl
    | with_reducible exact ⟨rfl, rfl, rfl⟩
    | with_reducible intro _
    | split
    | dsimp only)

/-! ### Ingress -/

theorem keeps_markStream (hm : Sub 8192 M) (l vc : Nat) (f : Frame) (cause : Nat) (s : State) (hk : Fr M s0 s) :
    Fr M s0 (markStream l vc f cause s) := by
  unfold markStream
  repeat' (first
    | with_reducible assumption
    | with_reducible apply keeps_onMem
    | ((with_reducible refine sub_of hm ?_); exact rfl)
    | with_reducible exact Nat.le_refl _
    | with_reducible rfl
    | with_reducible exact ⟨rfl, rfl, rfl⟩
    | with_reducible intro _
    | split
    | dsimp only)

theorem keeps_refuse (hm : Sub 8398496 M) (l : Nat) (f : Frame) (cause : Nat) (s : State) (hk : Fr M s0 s) :
    Fr M s0 (refuse l f cause s) := by
  unfold refuse
  repeat' (first
    | with_reducible assumption
    | with_reducible apply keeps_nack
    | with_reducible apply keeps_markStream
    | ((with_reducible refine sub_of hm ?_); exact rfl)
    | with_reducible exact Nat.le_refl _
    | with_reducible rfl
    | with_reducible exact ⟨rfl, rfl, rfl⟩
    | with_reducible intro _
    | split
    | dsimp only)

theorem keeps_failCheck (hm : Sub 8398496 M) (l : Nat) (f : Frame) (c : Check) (s : State) (hk : Fr M s0 s) :
    Fr M s0 (failCheck l f c s) := by
  unfold failCheck
  repeat' (first
    | with_reducible assumption
    | with_reducible apply keeps_countStale
    | with_reducible apply keeps_objEvent
    | with_reducible apply keeps_refuse
    | ((with_reducible refine sub_of hm ?_); exact rfl)
    | with_reducible exact Nat.le_refl _
    | with_reducible rfl
    | with_reducible exact ⟨rfl, rfl, rfl⟩
    | with_reducible intro _
    | split
    | dsimp only)

theorem keeps_police (hm : Sub 8389152 M) (l : Nat) (f : Frame) (s : State) (hk : Fr M s0 s) :
    Fr M s0 (police l f s).2 := by
  unfold police
  repeat' (first
    | with_reducible assumption
    | with_reducible apply keeps_onCoreR
    | with_reducible apply keeps_record
    | with_reducible apply keeps_policeFrame
    | with_reducible refine keeps_snd ‹_› ?_
    | ((with_reducible refine sub_of hm ?_); exact rfl)
    | with_reducible exact Nat.le_refl _
    | with_reducible rfl
    | with_reducible exact ⟨rfl, rfl, rfl⟩
    | with_reducible intro _
    | split
    | dsimp only)

theorem keeps_takeNack (hm : Sub 8486880 M) (d : Nat) (f : Frame) (s : State) (hk : Fr M s0 s) :
    Fr M s0 (takeNack d f s) := by
  unfold takeNack
  repeat' (first
    | with_reducible assumption
    | with_reducible apply keeps_onTile
    | with_reducible apply keeps_sendPartial
    | with_reducible apply keeps_chunkLost
    | ((with_reducible refine sub_of hm ?_); exact rfl)
    | with_reducible exact Nat.le_refl _
    | with_reducible rfl
    | with_reducible exact ⟨rfl, rfl, rfl⟩
    | with_reducible intro _
    | split
    | dsimp only)

theorem keeps_dropFate (hm : Sub 8486888 M) (l : Nat) (f : Frame) (x : Fate) (s : State) (hk : Fr M s0 s) :
    Fr M s0 (dropFate l f x s) := by
  unfold dropFate
  repeat' (first
    | with_reducible assumption
    | with_reducible apply keeps_onCmdR
    | with_reducible apply keeps_coreReport
    | with_reducible apply keeps_countLost
    | with_reducible apply keeps_frameLost
    | with_reducible apply keeps_refuse
    | with_reducible apply keeps_failCheck
    | with_reducible apply keeps_takeNack
    | ((with_reducible refine sub_of hm ?_); exact rfl)
    | with_reducible exact Nat.le_refl _
    | with_reducible rfl
    | with_reducible exact ⟨rfl, rfl, rfl⟩
    | with_reducible intro _
    | split
    | dsimp only)

theorem keeps_lose (hm : Sub 128 M) (l : Nat) (f : Frame) (s : State) (hk : Fr M s0 s) :
    Fr M s0 (lose l f s) := by
  unfold lose
  repeat' (first
    | with_reducible assumption
    | with_reducible apply keeps_freeCredits
    | ((with_reducible refine sub_of hm ?_); exact rfl)
    | with_reducible exact Nat.le_refl _
    | with_reducible rfl
    | with_reducible exact ⟨rfl, rfl, rfl⟩
    | with_reducible intro _
    | split
    | dsimp only)

theorem keeps_storeIn (hm : Sub 8390304 M) (l : Nat) (f : Frame) (mark : Bool) (dst : Nat × Bool) (r : Nat × Nat × Nat) (elig : Bool) (s : State) (hk : Fr M s0 s) :
    KeepsO M s0 (storeIn l f mark dst r elig s) := by
  unfold storeIn
  repeat' (first
    | with_reducible assumption
    | with_reducible apply keeps_storeRx
    | with_reducible apply keepsO_some
    | with_reducible exact keepsO_none
    | with_reducible apply keepsO_map
    | with_reducible apply keepsO_orElse
        | with_reducible apply keepsO_mapOf
    | with_reducible apply keepsO_bind
    | with_reducible refine keepsO_get ‹_› ?_
    | ((with_reducible refine sub_of hm ?_); exact rfl)
    | with_reducible exact Nat.le_refl _
    | with_reducible rfl
    | with_reducible exact ⟨rfl, rfl, rfl⟩
    | with_reducible intro _
    | split
    | dsimp only)

theorem keeps_storeHeld (hm : Sub 8390176 M) (l : Nat) (f : Frame) (mark : Bool) (s : State) (hk : Fr M s0 s) :
    KeepsO M s0 (storeHeld l f mark s) := by
  unfold storeHeld
  repeat' (first
    | with_reducible assumption
    | with_reducible apply keeps_onCoreR
    | with_reducible apply keeps_allocCells
    | with_reducible apply keeps_chargePool
    | with_reducible apply keeps_nextId
    | with_reducible apply keepsO_some
    | with_reducible exact keepsO_none
    | with_reducible apply keepsO_map
    | with_reducible apply keepsO_orElse
    | with_reducible apply keepsO_mapP
    | with_reducible apply keepsO_mapOf
    | with_reducible apply keepsO_bind
    | with_reducible refine keepsP_get ‹_› ?_
    | with_reducible refine keeps_snd ‹_› ?_
    | ((with_reducible refine sub_of hm ?_); exact rfl)
    | with_reducible exact Nat.le_refl _
    | with_reducible rfl
    | with_reducible exact ⟨rfl, rfl, rfl⟩
    | with_reducible intro _
    | split
    | dsimp only)

theorem keeps_countCut (hm : Sub 1024 M) (d : Nat) (cut : Bool) (s : State) (hk : Fr M s0 s) :
    Fr M s0 (countCut d cut s) := by
  unfold countCut
  repeat' (first
    | with_reducible assumption
    | with_reducible apply keeps_onDie
    | ((with_reducible refine sub_of hm ?_); exact rfl)
    | with_reducible exact Nat.le_refl _
    | with_reducible rfl
    | with_reducible exact ⟨rfl, rfl, rfl⟩
    | with_reducible intro _
    | split
    | dsimp only)

theorem keeps_arriveC1 (hm : Sub 8486888 M) (l : Nat) (f : Frame) (s : State) (hk : Fr M s0 s) :
    KeepsO M s0 (arriveC1 l f s) := by
  unfold arriveC1
  repeat' (first
    | with_reducible assumption
    | with_reducible apply keeps_countMisroute
    | with_reducible apply keeps_failCheck
    | with_reducible apply keeps_dropFate
    | with_reducible apply keeps_lose
    | with_reducible apply keeps_storeIn
    | with_reducible apply keepsO_some
    | with_reducible exact keepsO_none
    | with_reducible apply keepsO_map
    | with_reducible apply keepsO_orElse
        | with_reducible apply keepsO_mapOf
    | with_reducible apply keepsO_bind
    | with_reducible refine keepsO_get ‹_› ?_
    | ((with_reducible refine sub_of hm ?_); exact rfl)
    | with_reducible exact Nat.le_refl _
    | with_reducible rfl
    | with_reducible exact ⟨rfl, rfl, rfl⟩
    | with_reducible intro _
    | split
    | dsimp only)

theorem keeps_ingest (hm : Sub 8486888 M) (l : Nat) (f : Frame) (par : Option Nat) (s : State) (hk : Fr M s0 s) :
    KeepsO M s0 (ingest l f par s) := by
  unfold ingest
  repeat' (first
    | with_reducible assumption
    | with_reducible apply keeps_failCheck
    | with_reducible apply keeps_police
    | with_reducible apply keeps_dropFate
    | with_reducible apply keeps_lose
    | with_reducible apply keeps_storeIn
    | with_reducible apply keeps_storeHeld
    | with_reducible apply keeps_countCut
    | with_reducible apply keeps_arriveC1
    | with_reducible apply keepsO_some
    | with_reducible exact keepsO_none
    | with_reducible apply keepsO_map
    | with_reducible apply keepsO_orElse
        | with_reducible apply keepsO_mapOf
    | with_reducible apply keepsO_bind
    | with_reducible refine keepsO_get ‹_› ?_
    | with_reducible refine keeps_snd ‹_› ?_
    | ((with_reducible refine sub_of hm ?_); exact rfl)
    | with_reducible exact Nat.le_refl _
    | with_reducible rfl
    | with_reducible exact ⟨rfl, rfl, rfl⟩
    | with_reducible intro _
    | split
    | dsimp only)

theorem keeps_stompOut (hm : Sub 8390304 M) (l : Nat) (f : Frame) (x : Nat × Nat × Nat × Nat) (s : State) (hk : Fr M s0 s) :
    Fr M s0 (stompOut l f x s) := by
  unfold stompOut
  repeat' (first
    | with_reducible assumption
    | with_reducible apply keeps_onLink
    | with_reducible apply keeps_onDie
    | with_reducible apply keeps_allocCells
    | with_reducible apply keeps_nextId
    | with_reducible apply keeps_onQstat
    | with_reducible apply keeps_sendEnt
    | with_reducible apply keeps_countCut
    | with_reducible refine keepsP_get ‹_› ?_
    | with_reducible refine keeps_snd ‹_› ?_
    | ((with_reducible refine sub_of hm ?_); exact rfl)
    | with_reducible exact Nat.le_refl _
    | with_reducible rfl
    | with_reducible exact ⟨rfl, rfl, rfl⟩
    | with_reducible intro _
    | split
    | dsimp only)

theorem keeps_badLcrc (hm : Sub 8390304 M) (l : Nat) (f : Frame) (par : Option Nat) (s : State) (hk : Fr M s0 s) :
    Fr M s0 (badLcrc l f par s) := by
  unfold badLcrc
  repeat' (first
    | with_reducible assumption
    | with_reducible apply keeps_onLink
    | with_reducible apply keeps_coreReport
    | with_reducible apply keeps_sendNak
    | with_reducible apply keeps_stompOut
    | ((with_reducible refine sub_of hm ?_); exact rfl)
    | with_reducible exact Nat.le_refl _
    | with_reducible rfl
    | with_reducible exact ⟨rfl, rfl, rfl⟩
    | with_reducible intro _
    | split
    | dsimp only)

theorem keeps_acceptSeq (hm : Sub 8388736 M) (l : Nat) (s : State) (hk : Fr M s0 s) :
    Fr M s0 (acceptSeq l s) := by
  unfold acceptSeq
  repeat' (first
    | with_reducible assumption
    | with_reducible apply keeps_onLink
    | with_reducible apply keeps_sendAck
    | ((with_reducible refine sub_of hm ?_); exact rfl)
    | with_reducible exact Nat.le_refl _
    | with_reducible rfl
    | with_reducible exact ⟨rfl, rfl, rfl⟩
    | with_reducible intro _
    | split
    | dsimp only)

theorem keeps_notePar (hm : Sub 8389664 M) (l : Nat) (f : Frame) (par : Option Nat) (s : State) (hk : Fr M s0 s) :
    Fr M s0 (notePar l f par s) := by
  unfold notePar
  repeat' (first
    | with_reducible assumption
    | with_reducible apply keeps_onDie
    | with_reducible apply keeps_coreReport
    | ((with_reducible refine sub_of hm ?_); exact rfl)
    | with_reducible exact Nat.le_refl _
    | with_reducible rfl
    | with_reducible exact ⟨rfl, rfl, rfl⟩
    | with_reducible intro _
    | split
    | dsimp only)

theorem keeps_takeRx (hm : Sub 8486888 M) (l : Nat) (f : Frame) (par : Option Nat) (s : State) (hk : Fr M s0 s) :
    Fr M s0 (takeRx l f par s) := by
  unfold takeRx
  repeat' (first
    | with_reducible assumption
    | with_reducible apply keeps_onLink
    | with_reducible apply keeps_onDie
    | with_reducible apply keeps_poolTooFull
    | with_reducible apply keeps_sendNak
    | with_reducible apply keeps_lose
    | with_reducible apply keeps_ingest
    | with_reducible apply keeps_acceptSeq
    | with_reducible apply keeps_notePar
    | with_reducible refine keepsO_get ‹_› ?_
    | ((with_reducible refine sub_of hm ?_); exact rfl)
    | with_reducible exact Nat.le_refl _
    | with_reducible rfl
    | with_reducible exact ⟨rfl, rfl, rfl⟩
    | with_reducible intro _
    | split
    | dsimp only)

theorem keeps_arrive (hm : Sub 8519656 M) (l : Nat) (f : Frame) (par : Option Nat) (s : State) (hk : Fr M s0 s) :
    Fr M s0 (arrive l f par s) := by
  unfold arrive
  repeat' (first
    | with_reducible assumption
    | with_reducible apply keeps_onLink
    | with_reducible apply keeps_sendAck
    | with_reducible apply keeps_sendNak
    | with_reducible apply keeps_takeAck
    | with_reducible apply keeps_badLcrc
    | with_reducible apply keeps_takeRx
    | ((with_reducible refine sub_of hm ?_); exact rfl)
    | with_reducible exact Nat.le_refl _
    | with_reducible rfl
    | with_reducible exact ⟨rfl, rfl, rfl⟩
    | with_reducible intro _
    | split
    | dsimp only)

theorem keeps_execFrameArrival (hm : Sub 8519656 M) (lp : Nat) (f : Frame) (par : Option Nat) (s : State) (hk : Fr M s0 s) :
    KeepsX M s0 (execFrameArrival lp f par s) := by
  unfold execFrameArrival
  repeat' (first
    | with_reducible assumption
    | with_reducible apply keeps_arrive
    | with_reducible apply keepsX_next
    | with_reducible exact keepsX_fault
    | with_reducible exact keepsX_refused
    | ((with_reducible refine sub_of hm ?_); exact rfl)
    | with_reducible exact Nat.le_refl _
    | with_reducible rfl
    | with_reducible exact ⟨rfl, rfl, rfl⟩
    | with_reducible intro _
    | split
    | dsimp only)

theorem keeps_execFrameStored (hm : Sub 512 M) (lp fid : Nat) (s : State) (hk : Fr M s0 s) :
    KeepsX M s0 (execFrameStored lp fid s) := by
  unfold execFrameStored
  repeat' (first
    | with_reducible assumption
    | with_reducible apply keeps_onCoreR
    | with_reducible apply keepsX_next
    | with_reducible exact keepsX_fault
    | with_reducible exact keepsX_refused
    | ((with_reducible refine sub_of hm ?_); exact rfl)
    | with_reducible exact Nat.le_refl _
    | with_reducible rfl
    | with_reducible exact ⟨rfl, rfl, rfl⟩
    | with_reducible intro _
    | split
    | dsimp only)

theorem keeps_ownCells (hm : Sub 1024 M) (d owner : Nat) (ks : List Nat) (s : State) (hk : Fr M s0 s) :
    Fr M s0 (ownCells d owner ks s) := by
  unfold ownCells
  repeat' (first
    | with_reducible assumption
    | with_reducible apply keeps_forEach
    | with_reducible apply keeps_onDie
    | ((with_reducible refine sub_of hm ?_); exact rfl)
    | with_reducible exact Nat.le_refl _
    | with_reducible rfl
    | with_reducible exact ⟨rfl, rfl, rfl⟩
    | with_reducible intro _
    | split
    | dsimp only)

theorem keeps_placeHeld (hm : Sub 8486888 M) (e : QEnt) (s : State) (hk : Fr M s0 s) :
    Fr M s0 (placeHeld e s) := by
  unfold placeHeld
  repeat' (first
    | with_reducible assumption
    | with_reducible apply keeps_dropEnt
    | with_reducible apply keeps_onCons
    | with_reducible apply keeps_enqueue
    | with_reducible apply keeps_inject
    | with_reducible apply keeps_dropFate
    | with_reducible apply keeps_ownCells
    | ((with_reducible refine sub_of hm ?_); exact rfl)
    | with_reducible exact Nat.le_refl _
    | with_reducible rfl
    | with_reducible exact ⟨rfl, rfl, rfl⟩
    | with_reducible intro _
    | split
    | dsimp only)

theorem keeps_releaseHold (hm : Sub 8486888 M) (s : State) (hk : Fr M s0 s) :
    Fr M s0 (releaseHold s) := by
  unfold releaseHold
  repeat' (first
    | with_reducible assumption
    | with_reducible apply keeps_onCoreR
    | with_reducible apply keeps_forEach
    | with_reducible apply keeps_placeHeld
    | ((with_reducible refine sub_of hm ?_); exact rfl)
    | with_reducible exact Nat.le_refl _
    | with_reducible rfl
    | with_reducible exact ⟨rfl, rfl, rfl⟩
    | with_reducible intro _
    | split
    | dsimp only)

/-! ### Egress -/

theorem keeps_countGrant (hm : Sub 512 M) (q : Nat) (f : Frame) (s : State) (hk : Fr M s0 s) :
    Fr M s0 (countGrant q f s) := by
  unfold countGrant
  repeat' (first
    | with_reducible assumption
    | with_reducible apply keeps_onQstat
    | ((with_reducible refine sub_of hm ?_); exact rfl)
    | with_reducible exact Nat.le_refl _
    | with_reducible rfl
    | with_reducible exact ⟨rfl, rfl, rfl⟩
    | with_reducible intro _
    | split
    | dsimp only)

theorem keeps_pushTx (hm : Sub 1152 M) (l : Nat) (t : TxEnt) (s : State) (hk : Fr M s0 s) :
    Fr M s0 (pushTx l t s) := by
  unfold pushTx
  repeat' (first
    | with_reducible assumption
    | with_reducible apply keeps_onLink
    | with_reducible apply keeps_onDie
    | ((with_reducible refine sub_of hm ?_); exact rfl)
    | with_reducible exact Nat.le_refl _
    | with_reducible rfl
    | with_reducible exact ⟨rfl, rfl, rfl⟩
    | with_reducible intro _
    | split
    | dsimp only)

theorem keeps_grantHead (hm : Sub 8390304 M) (l q : Nat) (s : State) (hk : Fr M s0 s) :
    KeepsO M s0 (grantHead l q s) := by
  unfold grantHead
  repeat' (first
    | with_reducible assumption
    | with_reducible apply keeps_onCoreR
    | with_reducible apply keeps_onDie
    | with_reducible apply keeps_allocCells
    | with_reducible apply keeps_releaseCharge
    | with_reducible apply keeps_onLeaf
    | with_reducible apply keeps_countGrant
    | with_reducible apply keeps_pushTx
    | with_reducible apply keepsO_some
    | with_reducible exact keepsO_none
    | with_reducible apply keepsO_map
    | with_reducible apply keepsO_orElse
    | with_reducible apply keepsO_mapP
    | with_reducible apply keepsO_mapOf
    | with_reducible apply keepsO_bind
    | with_reducible refine keepsP_get ‹_› ?_
    | ((with_reducible refine sub_of hm ?_); exact rfl)
    | with_reducible exact Nat.le_refl _
    | with_reducible rfl
    | with_reducible exact ⟨rfl, rfl, rfl⟩
    | with_reducible intro _
    | split
    | dsimp only)

theorem keeps_grantUpd (hm : Sub 1664 M) (l : Nat) (s : State) (hk : Fr M s0 s) :
    KeepsO M s0 (grantUpd l s) := by
  unfold grantUpd
  repeat' (first
    | with_reducible assumption
    | with_reducible apply keeps_onCoreR
    | with_reducible apply keeps_nextId
    | with_reducible apply keeps_pushTx
    | with_reducible apply keepsO_some
    | with_reducible exact keepsO_none
    | with_reducible apply keepsO_map
    | with_reducible apply keepsO_orElse
        | with_reducible apply keepsO_mapOf
    | with_reducible apply keepsO_bind
    | with_reducible refine keeps_snd ‹_› ?_
    | ((with_reducible refine sub_of hm ?_); exact rfl)
    | with_reducible exact Nat.le_refl _
    | with_reducible rfl
    | with_reducible exact ⟨rfl, rfl, rfl⟩
    | with_reducible intro _
    | split
    | dsimp only)

theorem keeps_flushLeaf (hm : Sub 8457952 M) (q : Nat) (s : State) (hk : Fr M s0 s) :
    Fr M s0 (flushLeaf q s) := by
  unfold flushLeaf
  repeat' (first
    | with_reducible assumption
    | with_reducible apply keeps_onCoreR
    | with_reducible apply keeps_forEach
    | with_reducible apply keeps_record
    | with_reducible apply keeps_onDie
    | with_reducible apply keeps_coreReport
    | with_reducible apply keeps_dropEnt
    | with_reducible apply keeps_frameLost
    | with_reducible apply keeps_getD
    | ((with_reducible refine sub_of hm ?_); exact rfl)
    | with_reducible exact Nat.le_refl _
    | with_reducible rfl
    | with_reducible exact ⟨rfl, rfl, rfl⟩
    | with_reducible intro _
    | split
    | dsimp only)

theorem keeps_grantNext (hm : Sub 8390304 M) (l : Nat) (s : State) (hk : Fr M s0 s) :
    Fr M s0 (grantNext l s) := by
  unfold grantNext
  repeat' (first
    | with_reducible assumption
    | with_reducible apply keeps_onCoreR
    | with_reducible apply keeps_grantHead
    | with_reducible apply keeps_grantUpd
    | with_reducible refine keepsO_get ‹_› ?_
    | ((with_reducible refine sub_of hm ?_); exact rfl)
    | with_reducible exact Nat.le_refl _
    | with_reducible rfl
    | with_reducible exact ⟨rfl, rfl, rfl⟩
    | with_reducible intro _
    | split
    | dsimp only)

theorem keeps_execEgressGrant (hm : Sub 8457952 M) (lp : Nat) (parity : Option Nat) (s : State) (hk : Fr M s0 s) :
    KeepsX M s0 (execEgressGrant lp parity s) := by
  unfold execEgressGrant
  repeat' (first
    | with_reducible assumption
    | with_reducible apply keeps_flushLeaf
    | with_reducible apply keeps_grantNext
    | with_reducible apply keepsX_next
    | with_reducible exact keepsX_fault
    | with_reducible exact keepsX_refused
    | ((with_reducible refine sub_of hm ?_); exact rfl)
    | with_reducible exact Nat.le_refl _
    | with_reducible rfl
    | with_reducible exact ⟨rfl, rfl, rfl⟩
    | with_reducible intro _
    | split
    | dsimp only)

theorem keeps_onTx (hm : Sub 128 M) (l id : Nat) (f : TxEnt → TxEnt) (s : State) (hk : Fr M s0 s) :
    Fr M s0 (onTx l id f s) := by
  unfold onTx
  repeat' (first
    | with_reducible assumption
    | with_reducible apply keeps_onLink
    | ((with_reducible refine sub_of hm ?_); exact rfl)
    | with_reducible exact Nat.le_refl _
    | with_reducible rfl
    | with_reducible exact ⟨rfl, rfl, rfl⟩
    | with_reducible intro _
    | split
    | dsimp only)

theorem keeps_regenerate (hm : Sub 8390304 M) (l : Nat) (t : TxEnt) (s : State) (hk : Fr M s0 s) :
    Fr M s0 (regenerate l t s) := by
  unfold regenerate
  repeat' (first
    | with_reducible assumption
    | with_reducible apply keeps_onCoreR
    | with_reducible apply keeps_inject
    | with_reducible apply keeps_sendSnap
    | ((with_reducible refine sub_of hm ?_); exact rfl)
    | with_reducible exact Nat.le_refl _
    | with_reducible rfl
    | with_reducible exact ⟨rfl, rfl, rfl⟩
    | with_reducible intro _
    | split
    | dsimp only)

theorem keeps_txBad (hm : Sub 8457952 M) (l : Nat) (t : TxEnt) (k : Nat) (s : State) (hk : Fr M s0 s) :
    Fr M s0 (txBad l t k s) := by
  unfold txBad
  repeat' (first
    | with_reducible assumption
    | with_reducible apply keeps_whenS
    | with_reducible apply keeps_record
    | with_reducible apply keeps_onDie
    | with_reducible apply keeps_coreReport
    | with_reducible apply keeps_nack
    | with_reducible apply keeps_dropTx
    | with_reducible apply keeps_frameLost
    | with_reducible apply keeps_regenerate
    | ((with_reducible refine sub_of hm ?_); exact rfl)
    | with_reducible exact Nat.le_refl _
    | with_reducible rfl
    | with_reducible exact ⟨rfl, rfl, rfl⟩
    | with_reducible intro _
    | split
    | dsimp only)

theorem keeps_transmit (hm : Sub 8457952 M) (l : Nat) (bad : Option (Nat × Bool)) (s : State) (hk : Fr M s0 s) :
    Fr M s0 (transmit l bad s) := by
  unfold transmit
  repeat' (first
    | with_reducible assumption
    | with_reducible apply keeps_onCoreR
    | with_reducible apply keeps_whenS
    | with_reducible apply keeps_coreReport
    | with_reducible apply keeps_retireCell
    | with_reducible apply keeps_sendEnt
    | with_reducible apply keeps_frameLost
    | with_reducible apply keeps_onTx
    | with_reducible apply keeps_txBad
    | with_reducible apply keeps_getD
    | ((with_reducible refine sub_of hm ?_); exact rfl)
    | with_reducible exact Nat.le_refl _
    | with_reducible rfl
    | with_reducible exact ⟨rfl, rfl, rfl⟩
    | with_reducible intro _
    | split
    | dsimp only)

theorem keeps_execFrameTransmit (hm : Sub 8457952 M) (lp : Nat) (bad : Option (Nat × Bool)) (s : State) (hk : Fr M s0 s) :
    KeepsX M s0 (execFrameTransmit lp bad s) := by
  unfold execFrameTransmit
  repeat' (first
    | with_reducible assumption
    | with_reducible apply keeps_transmit
    | with_reducible apply keepsX_next
    | with_reducible exact keepsX_fault
    | with_reducible exact keepsX_refused
    | ((with_reducible refine sub_of hm ?_); exact rfl)
    | with_reducible exact Nat.le_refl _
    | with_reducible rfl
    | with_reducible exact ⟨rfl, rfl, rfl⟩
    | with_reducible intro _
    | split
    | dsimp only)

theorem keeps_execPartialFrameTimeout (hm : Sub 8457952 M) (lp fid : Nat) (s : State) (hk : Fr M s0 s) :
    KeepsX M s0 (execPartialFrameTimeout lp fid s) := by
  unfold execPartialFrameTimeout
  repeat' (first
    | with_reducible assumption
    | with_reducible apply keeps_onDie
    | with_reducible apply keeps_sendEnt
    | with_reducible apply keeps_dropTx
    | with_reducible apply keeps_frameLost
    | with_reducible apply keepsX_next
    | with_reducible exact keepsX_fault
    | with_reducible exact keepsX_refused
    | ((with_reducible refine sub_of hm ?_); exact rfl)
    | with_reducible exact Nat.le_refl _
    | with_reducible rfl
    | with_reducible exact ⟨rfl, rfl, rfl⟩
    | with_reducible intro _
    | split
    | dsimp only)

theorem keeps_placeWait (hm : Sub 8390304 M) (d : Nat) (w : Waiting) (s : State) (hk : Fr M s0 s) :
    KeepsO M s0 (placeWait d w s) := by
  unfold placeWait
  repeat' (first
    | with_reducible assumption
    | with_reducible apply keeps_onCoreR
    | with_reducible apply keeps_storeGen
    | with_reducible apply keeps_placeGen
    | with_reducible apply keepsO_some
    | with_reducible exact keepsO_none
    | with_reducible apply keepsO_map
    | with_reducible apply keepsO_orElse
        | with_reducible apply keepsO_mapOf
    | with_reducible apply keepsO_bind
    | with_reducible refine keepsO_get ‹_› ?_
    | ((with_reducible refine sub_of hm ?_); exact rfl)
    | with_reducible exact Nat.le_refl _
    | with_reducible rfl
    | with_reducible exact ⟨rfl, rfl, rfl⟩
    | with_reducible intro _
    | split
    | dsimp only)

theorem keeps_restartWaits (hm : Sub 8390304 M) (n : Nat) : ∀ (d c : Nat) (s : State), Fr M s0 s → Fr M s0 (restartWaits n d c s) := by
  induction n with
  | zero => intro d c s h; exact h
  | succ n ih =>
    intro d c s h
    unfold restartWaits
    repeat' (first
      | with_reducible assumption
      | with_reducible apply ih
      | with_reducible refine keepsO_get ‹_› ?_
      | with_reducible apply keeps_placeWait
      | with_reducible apply keeps_onDie
      | ((with_reducible refine sub_of hm ?_); exact rfl)
      | split
      | dsimp only)

theorem keeps_settleSeqs (hm : Sub 15929000 M) (s : State) (hk : Fr M s0 s) :
    Fr M s0 (settleSeqs s) := by
  unfold settleSeqs
  repeat' (first
    | with_reducible assumption
    | with_reducible apply keeps_forEach
    | with_reducible apply keeps_checkDone
    | ((with_reducible refine sub_of hm ?_); exact rfl)
    | with_reducible exact Nat.le_refl _
    | with_reducible rfl
    | with_reducible exact ⟨rfl, rfl, rfl⟩
    | with_reducible intro _
    | split
    | dsimp only)

theorem keeps_execPoolRoomAvailable (hm : Sub 15929000 M) (die cls : Nat) (s : State) (hk : Fr M s0 s) :
    KeepsX M s0 (execPoolRoomAvailable die cls s) := by
  unfold execPoolRoomAvailable
  repeat' (first
    | with_reducible assumption
    | with_reducible apply keeps_relevel
    | with_reducible apply keeps_restartWaits
    | with_reducible apply keeps_settleSeqs
    | with_reducible apply keepsX_next
    | with_reducible exact keepsX_fault
    | with_reducible exact keepsX_refused
    | ((with_reducible refine sub_of hm ?_); exact rfl)
    | with_reducible exact Nat.le_refl _
    | with_reducible rfl
    | with_reducible exact ⟨rfl, rfl, rfl⟩
    | with_reducible intro _
    | split
    | dsimp only)

theorem keeps_rebuildWord (hm : Sub 8389664 M) (d cell : Nat) (s : State) (hk : Fr M s0 s) :
    Fr M s0 (rebuildWord d cell s) := by
  unfold rebuildWord
  repeat' (first
    | with_reducible assumption
    | with_reducible apply keeps_onDie
    | with_reducible apply keeps_coreReport
    | ((with_reducible refine sub_of hm ?_); exact rfl)
    | with_reducible exact Nat.le_refl _
    | with_reducible rfl
    | with_reducible exact ⟨rfl, rfl, rfl⟩
    | with_reducible intro _
    | split
    | dsimp only)

theorem keeps_dropHolder (hm : Sub 8457952 M) (d cell : Nat) (s : State) (hk : Fr M s0 s) :
    Fr M s0 (dropHolder d cell s) := by
  unfold dropHolder
  repeat' (first
    | with_reducible assumption
    | with_reducible apply keeps_onCoreR
    | with_reducible apply keeps_cellBad
    | ((with_reducible refine sub_of hm ?_); exact rfl)
    | with_reducible exact Nat.le_refl _
    | with_reducible rfl
    | with_reducible exact ⟨rfl, rfl, rfl⟩
    | with_reducible intro _
    | split
    | dsimp only)

theorem keeps_execFreeStoreAudit (hm : Sub 8457952 M) (die cell : Nat) (agree mapOk : Bool) (s : State) (hk : Fr M s0 s) :
    KeepsX M s0 (execFreeStoreAudit die cell agree mapOk s) := by
  unfold execFreeStoreAudit
  repeat' (first
    | with_reducible assumption
    | with_reducible apply keeps_whenS
    | with_reducible apply keeps_onDie
    | with_reducible apply keeps_retireCell
    | with_reducible apply keeps_rebuildWord
    | with_reducible apply keeps_dropHolder
    | with_reducible apply keepsX_next
    | with_reducible exact keepsX_fault
    | with_reducible exact keepsX_refused
    | ((with_reducible refine sub_of hm ?_); exact rfl)
    | with_reducible exact Nat.le_refl _
    | with_reducible rfl
    | with_reducible exact ⟨rfl, rfl, rfl⟩
    | with_reducible intro _
    | split
    | dsimp only)

theorem keeps_execTableEntryRewrite (hm : Sub 1024 M) (die table entry : Nat) (s : State) (hk : Fr M s0 s) :
    KeepsX M s0 (execTableEntryRewrite die table entry s) := by
  unfold execTableEntryRewrite
  repeat' (first
    | with_reducible assumption
    | with_reducible apply keeps_onDie
    | with_reducible apply keepsX_next
    | with_reducible exact keepsX_fault
    | with_reducible exact keepsX_refused
    | ((with_reducible refine sub_of hm ?_); exact rfl)
    | with_reducible exact Nat.le_refl _
    | with_reducible rfl
    | with_reducible exact ⟨rfl, rfl, rfl⟩
    | with_reducible intro _
    | split
    | dsimp only)

theorem keeps_execDieClockStop (hm : Sub 1024 M) (die : Nat) (s : State) (hk : Fr M s0 s) :
    KeepsX M s0 (execDieClockStop die s) := by
  unfold execDieClockStop
  repeat' (first
    | with_reducible assumption
    | with_reducible apply keeps_onDie
    | with_reducible apply keepsX_next
    | with_reducible exact keepsX_fault
    | with_reducible exact keepsX_refused
    | ((with_reducible refine sub_of hm ?_); exact rfl)
    | with_reducible exact Nat.le_refl _
    | with_reducible rfl
    | with_reducible exact ⟨rfl, rfl, rfl⟩
    | with_reducible intro _
    | split
    | dsimp only)

theorem keeps_execDieClockLiftDone (hm : Sub 1024 M) (die : Nat) (s : State) (hk : Fr M s0 s) :
    KeepsX M s0 (execDieClockLiftDone die s) := by
  unfold execDieClockLiftDone
  repeat' (first
    | with_reducible assumption
    | with_reducible apply keeps_onDie
    | with_reducible apply keepsX_next
    | with_reducible exact keepsX_fault
    | with_reducible exact keepsX_refused
    | ((with_reducible refine sub_of hm ?_); exact rfl)
    | with_reducible exact Nat.le_refl _
    | with_reducible rfl
    | with_reducible exact ⟨rfl, rfl, rfl⟩
    | with_reducible intro _
    | split
    | dsimp only)

/-! ### Spars -/

theorem keeps_onSpar (hm : Sub 512 M) (x y : Nat) (f : Spar → Spar) (s : State) (hk : Fr M s0 s) :
    Fr M s0 (onSpar x y f s) := by
  unfold onSpar
  repeat' (first
    | with_reducible assumption
    | with_reducible apply keeps_onCoreR
    | ((with_reducible refine sub_of hm ?_); exact rfl)
    | with_reducible exact Nat.le_refl _
    | with_reducible rfl
    | with_reducible exact ⟨rfl, rfl, rfl⟩
    | with_reducible intro _
    | split
    | dsimp only)

theorem keeps_launchCell (hm : Sub 1536 M) (x y : Nat) (deflected : Bool) (c : SparCell) (s : State) (hk : Fr M s0 s) :
    Fr M s0 (launchCell x y deflected c s) := by
  unfold launchCell
  repeat' (first
    | with_reducible assumption
    | with_reducible apply keeps_onDie
    | with_reducible apply keeps_onSpar
    | ((with_reducible refine sub_of hm ?_); exact rfl)
    | with_reducible exact Nat.le_refl _
    | with_reducible rfl
    | with_reducible exact ⟨rfl, rfl, rfl⟩
    | with_reducible intro _
    | split
    | dsimp only)

theorem keeps_directAll (hm : Sub 1536 M) (x : Nat) (cs : List SparCell) (a : List Nat × State) (h_a : Fr M s0 a.2) :
    Fr M s0 (directAll x cs a).2.2 := by
  unfold directAll
  repeat' (first
    | with_reducible assumption
    | with_reducible apply keeps_launchCell
    | with_reducible apply keeps_getD | with_reducible apply keeps_foldl | with_reducible apply keeps_foldlSnd | with_reducible apply keeps_foldlThd
    | ((with_reducible refine sub_of hm ?_); exact rfl)
    | with_reducible exact Nat.le_refl _
    | with_reducible rfl
    | with_reducible exact ⟨rfl, rfl, rfl⟩
    | with_reducible intro _
    | split
    | dsimp only)

theorem keeps_holdCell (hm : Sub 8389664 M) (x : Nat) (c : SparCell) (s : State) (hk : Fr M s0 s) :
    Fr M s0 (holdCell x c s) := by
  unfold holdCell
  repeat' (first
    | with_reducible assumption
    | with_reducible apply keeps_record
    | with_reducible apply keeps_report
    | with_reducible apply keeps_onDie
    | ((with_reducible refine sub_of hm ?_); exact rfl)
    | with_reducible exact Nat.le_refl _
    | with_reducible rfl
    | with_reducible exact ⟨rfl, rfl, rfl⟩
    | with_reducible intro _
    | split
    | dsimp only)

theorem keeps_passTransit (hm : Sub 8390176 M) (x : Nat) (c : SparCell) (a : List Nat × State) (h_a : Fr M s0 a.2) :
    Fr M s0 (passTransit x c a).2 := by
  unfold passTransit
  repeat' (first
    | with_reducible assumption
    | with_reducible apply keeps_launchCell
    | with_reducible apply keeps_holdCell
    | ((with_reducible refine sub_of hm ?_); exact rfl)
    | with_reducible exact Nat.le_refl _
    | with_reducible rfl
    | with_reducible exact ⟨rfl, rfl, rfl⟩
    | with_reducible intro _
    | split
    | dsimp only)

theorem keeps_launchPlaced (hm : Sub 1536 M) (x : Nat) (cs : List SparCell) (s : State) (hk : Fr M s0 s) :
    Fr M s0 (launchPlaced x cs s).2 := by
  unfold launchPlaced
  repeat' (first
    | with_reducible assumption
    | with_reducible apply keeps_directAll
    | ((with_reducible refine sub_of hm ?_); exact rfl)
    | with_reducible exact Nat.le_refl _
    | with_reducible rfl
    | with_reducible exact ⟨rfl, rfl, rfl⟩
    | with_reducible intro _
    | split
    | dsimp only)

theorem keeps_passLocal (hm : Sub 1536 M) (x : Nat) (c : SparCell) (a : Slots) (h_a : Fr M s0 a.2.2) :
    Fr M s0 (passLocal x c a).2.2 := by
  unfold passLocal
  repeat' (first
    | with_reducible assumption
    | with_reducible apply keeps_launchCell
    | ((with_reducible refine sub_of hm ?_); exact rfl)
    | with_reducible exact Nat.le_refl _
    | with_reducible rfl
    | with_reducible exact ⟨rfl, rfl, rfl⟩
    | with_reducible intro _
    | split
    | dsimp only)

theorem keeps_fillSlots (hm : Sub 8390176 M) (x : Nat) (s : State) (hk : Fr M s0 s) :
    Fr M s0 (fillSlots x s) := by
  unfold fillSlots
  repeat' (first
    | with_reducible assumption
    | with_reducible apply keeps_onDie
    | with_reducible apply keeps_directAll
    | with_reducible apply keeps_passTransit
    | with_reducible apply keeps_launchPlaced
    | with_reducible apply keeps_passLocal
    | with_reducible refine keeps_snd ‹_› ?_
    | with_reducible apply keeps_foldl | with_reducible apply keeps_foldlSnd | with_reducible apply keeps_foldlThd
    | ((with_reducible refine sub_of hm ?_); exact rfl)
    | with_reducible exact Nat.le_refl _
    | with_reducible rfl
    | with_reducible exact ⟨rfl, rfl, rfl⟩
    | with_reducible intro _
    | split
    | dsimp only)

theorem keeps_execSparSlotFill (hm : Sub 8390176 M) (die : Nat) (s : State) (hk : Fr M s0 s) :
    KeepsX M s0 (execSparSlotFill die s) := by
  unfold execSparSlotFill
  repeat' (first
    | with_reducible assumption
    | with_reducible apply keeps_fillSlots
    | with_reducible apply keepsX_next
    | with_reducible exact keepsX_fault
    | with_reducible exact keepsX_refused
    | ((with_reducible refine sub_of hm ?_); exact rfl)
    | with_reducible exact Nat.le_refl _
    | with_reducible rfl
    | with_reducible exact ⟨rfl, rfl, rfl⟩
    | with_reducible intro _
    | split
    | dsimp only)

theorem keeps_sparFail (hm : Sub 8389152 M) (die far : Nat) (s : State) (hk : Fr M s0 s) :
    Fr M s0 (sparFail die far s) := by
  unfold sparFail
  repeat' (first
    | with_reducible assumption
    | with_reducible apply keeps_record
    | with_reducible apply keeps_report
    | with_reducible apply keeps_onSpar
    | ((with_reducible refine sub_of hm ?_); exact rfl)
    | with_reducible exact Nat.le_refl _
    | with_reducible rfl
    | with_reducible exact ⟨rfl, rfl, rfl⟩
    | with_reducible intro _
    | split
    | dsimp only)

theorem keeps_landCell (hm : Sub 8389792 M) (c : SparCell) (s : State) (hk : Fr M s0 s) :
    Fr M s0 (landCell c s) := by
  unfold landCell
  repeat' (first
    | with_reducible assumption
    | with_reducible apply keeps_onLink
    | with_reducible apply keeps_freeCell
    | with_reducible apply keeps_getD
    | ((with_reducible refine sub_of hm ?_); exact rfl)
    | with_reducible exact Nat.le_refl _
    | with_reducible rfl
    | with_reducible exact ⟨rfl, rfl, rfl⟩
    | with_reducible intro _
    | split
    | dsimp only)

theorem keeps_execSparCellLand (hm : Sub 8390304 M) (die far : Nat) (hcrcOk : Bool) (s : State) (hk : Fr M s0 s) :
    KeepsX M s0 (execSparCellLand die far hcrcOk s) := by
  unfold execSparCellLand
  repeat' (first
    | with_reducible assumption
    | with_reducible apply keeps_onDie
    | with_reducible apply keeps_freeCell
    | with_reducible apply keeps_sparFail
    | with_reducible apply keeps_landCell
    | with_reducible apply keepsX_next
    | with_reducible exact keepsX_fault
    | with_reducible exact keepsX_refused
    | ((with_reducible refine sub_of hm ?_); exact rfl)
    | with_reducible exact Nat.le_refl _
    | with_reducible rfl
    | with_reducible exact ⟨rfl, rfl, rfl⟩
    | with_reducible intro _
    | split
    | dsimp only)

theorem keeps_execSparRetrain (hm : Sub 512 M) (die far : Nat) (ok : Bool) (s : State) (hk : Fr M s0 s) :
    KeepsX M s0 (execSparRetrain die far ok s) := by
  unfold execSparRetrain
  repeat' (first
    | with_reducible assumption
    | with_reducible apply keeps_onSpar
    | with_reducible apply keepsX_next
    | with_reducible exact keepsX_fault
    | with_reducible exact keepsX_refused
    | ((with_reducible refine sub_of hm ?_); exact rfl)
    | with_reducible exact Nat.le_refl _
    | with_reducible rfl
    | with_reducible exact ⟨rfl, rfl, rfl⟩
    | with_reducible intro _
    | split
    | dsimp only)

theorem keeps_execSparUp (hm : Sub 8389152 M) (die far : Nat) (s : State) (hk : Fr M s0 s) :
    KeepsX M s0 (execSparUp die far s) := by
  unfold execSparUp
  repeat' (first
    | with_reducible assumption
    | with_reducible apply keeps_record
    | with_reducible apply keeps_onSpar
    | with_reducible apply keepsX_next
    | with_reducible exact keepsX_fault
    | with_reducible exact keepsX_refused
    | ((with_reducible refine sub_of hm ?_); exact rfl)
    | with_reducible exact Nat.le_refl _
    | with_reducible rfl
    | with_reducible exact ⟨rfl, rfl, rfl⟩
    | with_reducible intro _
    | split
    | dsimp only)

theorem keeps_dropSpars (hm : Sub 8389664 M) (d : Nat) (s : State) (hk : Fr M s0 s) :
    Fr M s0 (dropSpars d s) := by
  unfold dropSpars
  repeat' (first
    | with_reducible assumption
    | with_reducible apply keeps_forEach
    | with_reducible apply keeps_onDie
    | with_reducible apply keeps_freeCell
    | ((with_reducible refine sub_of hm ?_); exact rfl)
    | with_reducible exact Nat.le_refl _
    | with_reducible rfl
    | with_reducible exact ⟨rfl, rfl, rfl⟩
    | with_reducible intro _
    | split
    | dsimp only)

/-! ### Routing -/

theorem keeps_execRouteWrite (hm : Sub 15730190 M) (q : Req) (s : State) (hk : Fr M s0 s) :
    KeepsX M s0 (execRouteWrite q s) := by
  unfold execRouteWrite
  repeat' (first
    | with_reducible assumption
    | with_reducible apply keeps_modSet
    | with_reducible apply keeps_plain
    | with_reducible apply keeps_act
    | with_reducible apply keepsX_next
    | with_reducible exact keepsX_fault
    | with_reducible exact keepsX_refused
    | ((with_reducible refine sub_of hm ?_); exact rfl)
    | with_reducible exact Nat.le_refl _
    | with_reducible rfl
    | with_reducible exact ⟨rfl, rfl, rfl⟩
    | with_reducible intro _
    | split
    | dsimp only)

theorem keeps_execRouteCommit (hm : Sub 9438734 M) (q : Req) (s : State) (hk : Fr M s0 s) :
    KeepsX M s0 (execRouteCommit q s) := by
  unfold execRouteCommit
  repeat' (first
    | with_reducible assumption
    | with_reducible apply keeps_longOp
    | with_reducible apply keepsX_next
    | with_reducible exact keepsX_fault
    | with_reducible exact keepsX_refused
    | ((with_reducible refine sub_of hm ?_); exact rfl)
    | with_reducible exact Nat.le_refl _
    | with_reducible rfl
    | with_reducible exact ⟨rfl, rfl, rfl⟩
    | with_reducible intro _
    | split
    | dsimp only)

theorem keeps_commitBank (hm : Sub 15730222 M) (tk : Nat) (s : State) (hk : Fr M s0 s) :
    Fr M s0 (commitBank tk s) := by
  unfold commitBank
  repeat' (first
    | with_reducible assumption
    | with_reducible apply keeps_modSet
    | with_reducible apply keeps_onCoreR
    | with_reducible apply keeps_record
    | with_reducible apply keeps_ticketDone
    | with_reducible apply keeps_commit
    | ((with_reducible refine sub_of hm ?_); exact rfl)
    | with_reducible exact Nat.le_refl _
    | with_reducible rfl
    | with_reducible exact ⟨rfl, rfl, rfl⟩
    | with_reducible intro _
    | split
    | dsimp only)

theorem keeps_startCommit (hm : Sub 15730222 M) (t : Ticket) (s : State) (hk : Fr M s0 s) :
    Fr M s0 (startCommit t s) := by
  unfold startCommit
  repeat' (first
    | with_reducible assumption
    | with_reducible apply keeps_onCoreR
    | with_reducible apply keeps_ticketFail
    | with_reducible apply keeps_commit
    | with_reducible apply keeps_commitBank
    | ((with_reducible refine sub_of hm ?_); exact rfl)
    | with_reducible exact Nat.le_refl _
    | with_reducible rfl
    | with_reducible exact ⟨rfl, rfl, rfl⟩
    | with_reducible intro _
    | split
    | dsimp only)

theorem keeps_execCommitDrained (hm : Sub 15730222 M) (s : State) (hk : Fr M s0 s) :
    KeepsX M s0 (execCommitDrained s) := by
  unfold execCommitDrained
  repeat' (first
    | with_reducible assumption
    | with_reducible apply keeps_commit
    | with_reducible apply keeps_commitBank
    | with_reducible apply keepsX_next
    | with_reducible exact keepsX_fault
    | with_reducible exact keepsX_refused
    | ((with_reducible refine sub_of hm ?_); exact rfl)
    | with_reducible exact Nat.le_refl _
    | with_reducible rfl
    | with_reducible exact ⟨rfl, rfl, rfl⟩
    | with_reducible intro _
    | split
    | dsimp only)

theorem keeps_execCommitDrainTimeout (hm : Sub 9438734 M) (s : State) (hk : Fr M s0 s) :
    KeepsX M s0 (execCommitDrainTimeout s) := by
  unfold execCommitDrainTimeout
  repeat' (first
    | with_reducible assumption
    | with_reducible apply keeps_onCoreR
    | with_reducible apply keeps_ticketFail
    | with_reducible apply keeps_commit
    | with_reducible apply keepsX_next
    | with_reducible exact keepsX_fault
    | with_reducible exact keepsX_refused
    | ((with_reducible refine sub_of hm ?_); exact rfl)
    | with_reducible exact Nat.le_refl _
    | with_reducible rfl
    | with_reducible exact ⟨rfl, rfl, rfl⟩
    | with_reducible intro _
    | split
    | dsimp only)

theorem keeps_execRouteHold (hm : Sub 9438734 M) (q : Req) (s : State) (hk : Fr M s0 s) :
    KeepsX M s0 (execRouteHold q s) := by
  unfold execRouteHold
  repeat' (first
    | with_reducible assumption
    | with_reducible apply keeps_longOp
    | with_reducible apply keepsX_next
    | with_reducible exact keepsX_fault
    | with_reducible exact keepsX_refused
    | ((with_reducible refine sub_of hm ?_); exact rfl)
    | with_reducible exact Nat.le_refl _
    | with_reducible rfl
    | with_reducible exact ⟨rfl, rfl, rfl⟩
    | with_reducible intro _
    | split
    | dsimp only)

theorem keeps_startHold (hm : Sub 512 M) (t : Ticket) (s : State) (hk : Fr M s0 s) :
    Fr M s0 (startHold t s) := by
  unfold startHold
  repeat' (first
    | with_reducible assumption
    | with_reducible apply keeps_onCoreR
    | ((with_reducible refine sub_of hm ?_); exact rfl)
    | with_reducible exact Nat.le_refl _
    | with_reducible rfl
    | with_reducible exact ⟨rfl, rfl, rfl⟩
    | with_reducible intro _
    | split
    | dsimp only)

theorem keeps_execHoldDrained (hm : Sub 9438734 M) (s : State) (hk : Fr M s0 s) :
    KeepsX M s0 (execHoldDrained s) := by
  unfold execHoldDrained
  repeat' (first
    | with_reducible assumption
    | with_reducible apply keeps_onCoreR
    | with_reducible apply keeps_ticketDone
    | with_reducible apply keepsX_next
    | with_reducible exact keepsX_fault
    | with_reducible exact keepsX_refused
    | ((with_reducible refine sub_of hm ?_); exact rfl)
    | with_reducible exact Nat.le_refl _
    | with_reducible rfl
    | with_reducible exact ⟨rfl, rfl, rfl⟩
    | with_reducible intro _
    | split
    | dsimp only)

theorem keeps_endHold (hm : Sub 9535470 M) (s : State) (hk : Fr M s0 s) :
    Fr M s0 (endHold s) := by
  unfold endHold
  repeat' (first
    | with_reducible assumption
    | with_reducible apply keeps_endTicket
    | with_reducible apply keeps_releaseHold
    | ((with_reducible refine sub_of hm ?_); exact rfl)
    | with_reducible exact Nat.le_refl _
    | with_reducible rfl
    | with_reducible exact ⟨rfl, rfl, rfl⟩
    | with_reducible intro _
    | split
    | dsimp only)

theorem keeps_execRouteRelease (hm : Sub 9535470 M) (q : Req) (s : State) (hk : Fr M s0 s) :
    KeepsX M s0 (execRouteRelease q s) := by
  unfold execRouteRelease
  repeat' (first
    | with_reducible assumption
    | with_reducible apply keeps_plain
    | with_reducible apply keeps_act
    | with_reducible apply keeps_endHold
    | with_reducible apply keepsX_next
    | with_reducible exact keepsX_fault
    | with_reducible exact keepsX_refused
    | ((with_reducible refine sub_of hm ?_); exact rfl)
    | with_reducible exact Nat.le_refl _
    | with_reducible rfl
    | with_reducible exact ⟨rfl, rfl, rfl⟩
    | with_reducible intro _
    | split
    | dsimp only)

theorem keeps_execRouteQuery (hm : Sub 9438734 M) (q : Req) (s : State) (hk : Fr M s0 s) :
    KeepsX M s0 (execRouteQuery q s) := by
  unfold execRouteQuery
  repeat' (first
    | with_reducible assumption
    | with_reducible apply keeps_plain
    | with_reducible apply keeps_ans
    | with_reducible apply keepsX_next
    | with_reducible exact keepsX_fault
    | with_reducible exact keepsX_refused
    | ((with_reducible refine sub_of hm ?_); exact rfl)
    | with_reducible exact Nat.le_refl _
    | with_reducible rfl
    | with_reducible exact ⟨rfl, rfl, rfl⟩
    | with_reducible intro _
    | split
    | dsimp only)

theorem keeps_execRouteCongmap (hm : Sub 9438734 M) (q : Req) (s : State) (hk : Fr M s0 s) :
    KeepsX M s0 (execRouteCongmap q s) := by
  unfold execRouteCongmap
  repeat' (first
    | with_reducible assumption
    | with_reducible apply keeps_runCommand
    | with_reducible apply keeps_ans
    | with_reducible apply keepsX_next
    | with_reducible exact keepsX_fault
    | with_reducible exact keepsX_refused
    | ((with_reducible refine sub_of hm ?_); exact rfl)
    | with_reducible exact Nat.le_refl _
    | with_reducible rfl
    | with_reducible exact ⟨rfl, rfl, rfl⟩
    | with_reducible intro _
    | split
    | dsimp only)

theorem keeps_execRouteCmapcfg (hm : Sub 15730190 M) (q : Req) (s : State) (hk : Fr M s0 s) :
    KeepsX M s0 (execRouteCmapcfg q s) := by
  unfold execRouteCmapcfg
  repeat' (first
    | with_reducible assumption
    | with_reducible apply keeps_modSet
    | with_reducible apply keeps_plain
    | with_reducible apply keeps_act
    | with_reducible apply keepsX_next
    | with_reducible exact keepsX_fault
    | with_reducible exact keepsX_refused
    | ((with_reducible refine sub_of hm ?_); exact rfl)
    | with_reducible exact Nat.le_refl _
    | with_reducible rfl
    | with_reducible exact ⟨rfl, rfl, rfl⟩
    | with_reducible intro _
    | split
    | dsimp only)

theorem keeps_clearSpars (hm : Sub 1536 M) (d : Nat) (s : State) (hk : Fr M s0 s) :
    Fr M s0 (clearSpars d s) := by
  unfold clearSpars
  repeat' (first
    | with_reducible assumption
    | with_reducible apply keeps_forEach
    | with_reducible apply keeps_onDie
    | with_reducible apply keeps_onSpar
    | ((with_reducible refine sub_of hm ?_); exact rfl)
    | with_reducible exact Nat.le_refl _
    | with_reducible rfl
    | with_reducible exact ⟨rfl, rfl, rfl⟩
    | with_reducible intro _
    | split
    | dsimp only)

theorem keeps_execRouteSparstats (hm : Sub 9438734 M) (q : Req) (s : State) (hk : Fr M s0 s) :
    KeepsX M s0 (execRouteSparstats q s) := by
  unfold execRouteSparstats
  repeat' (first
    | with_reducible assumption
    | with_reducible apply keeps_whenS
    | with_reducible apply keeps_plain
    | with_reducible apply keeps_clearSpars
    | with_reducible apply keepsX_next
    | with_reducible exact keepsX_fault
    | with_reducible exact keepsX_refused
    | ((with_reducible refine sub_of hm ?_); exact rfl)
    | with_reducible exact Nat.le_refl _
    | with_reducible rfl
    | with_reducible exact ⟨rfl, rfl, rfl⟩
    | with_reducible intro _
    | split
    | dsimp only)

theorem keeps_restartPeaks (hm : Sub 1536 M) (s : State) (hk : Fr M s0 s) :
    Fr M s0 (restartPeaks s) := by
  unfold restartPeaks
  repeat' (first
    | with_reducible assumption
    | with_reducible apply keeps_onCoreR
    | with_reducible apply keeps_forEach
    | with_reducible apply keeps_onDie
    | with_reducible apply keeps_foldl | with_reducible apply keeps_foldlSnd | with_reducible apply keeps_foldlThd
    | ((with_reducible refine sub_of hm ?_); exact rfl)
    | with_reducible exact Nat.le_refl _
    | with_reducible rfl
    | with_reducible exact ⟨rfl, rfl, rfl⟩
    | with_reducible intro _
    | split
    | dsimp only)

theorem keeps_execCongestionMapPeriod (hm : Sub 1536 M) (s : State) (hk : Fr M s0 s) :
    KeepsX M s0 (execCongestionMapPeriod s) := by
  unfold execCongestionMapPeriod
  repeat' (first
    | with_reducible assumption
    | with_reducible apply keeps_onCoreR
    | with_reducible apply keeps_restartPeaks
    | with_reducible apply keepsX_next
    | with_reducible exact keepsX_fault
    | with_reducible exact keepsX_refused
    | ((with_reducible refine sub_of hm ?_); exact rfl)
    | with_reducible exact Nat.le_refl _
    | with_reducible rfl
    | with_reducible exact ⟨rfl, rfl, rfl⟩
    | with_reducible intro _
    | split
    | dsimp only)

/-! ### Qos -/

theorem keeps_setPool (hm : Sub 6291456 M) (q : Req) (d : Nat) (s : State) (hk : Fr M s0 s) :
    Fr M s0 (setPool q d s) := by
  unfold setPool
  repeat' (first
    | with_reducible assumption
    | with_reducible apply keeps_modSet
    | ((with_reducible refine sub_of hm ?_); exact rfl)
    | with_reducible exact Nat.le_refl _
    | with_reducible rfl
    | with_reducible exact ⟨rfl, rfl, rfl⟩
    | with_reducible intro _
    | split
    | dsimp only)

theorem keeps_execQosPoolcfg (hm : Sub 15730222 M) (q : Req) (s : State) (hk : Fr M s0 s) :
    KeepsX M s0 (execQosPoolcfg q s) := by
  unfold execQosPoolcfg
  repeat' (first
    | with_reducible assumption
    | with_reducible apply keeps_forEach
    | with_reducible apply keeps_plain
    | with_reducible apply keeps_act
    | with_reducible apply keeps_relevelDie
    | with_reducible apply keeps_setPool
    | with_reducible apply keepsX_next
    | with_reducible exact keepsX_fault
    | with_reducible exact keepsX_refused
    | ((with_reducible refine sub_of hm ?_); exact rfl)
    | with_reducible exact Nat.le_refl _
    | with_reducible rfl
    | with_reducible exact ⟨rfl, rfl, rfl⟩
    | with_reducible intro _
    | split
    | dsimp only)

theorem keeps_clearPool (hm : Sub 1024 M) (d : Nat) (s : State) (hk : Fr M s0 s) :
    Fr M s0 (clearPool d s) := by
  unfold clearPool
  repeat' (first
    | with_reducible assumption
    | with_reducible apply keeps_onDie
    | ((with_reducible refine sub_of hm ?_); exact rfl)
    | with_reducible exact Nat.le_refl _
    | with_reducible rfl
    | with_reducible exact ⟨rfl, rfl, rfl⟩
    | with_reducible intro _
    | split
    | dsimp only)

theorem keeps_execQosPoolquery (hm : Sub 9438734 M) (q : Req) (s : State) (hk : Fr M s0 s) :
    KeepsX M s0 (execQosPoolquery q s) := by
  unfold execQosPoolquery
  repeat' (first
    | with_reducible assumption
    | with_reducible apply keeps_whenS
    | with_reducible apply keeps_plain
    | with_reducible apply keeps_clearPool
    | with_reducible apply keepsX_next
    | with_reducible exact keepsX_fault
    | with_reducible exact keepsX_refused
    | ((with_reducible refine sub_of hm ?_); exact rfl)
    | with_reducible exact Nat.le_refl _
    | with_reducible rfl
    | with_reducible exact ⟨rfl, rfl, rfl⟩
    | with_reducible intro _
    | split
    | dsimp only)

theorem keeps_execQosMarkcfg (hm : Sub 15730190 M) (q : Req) (s : State) (hk : Fr M s0 s) :
    KeepsX M s0 (execQosMarkcfg q s) := by
  unfold execQosMarkcfg
  repeat' (first
    | with_reducible assumption
    | with_reducible apply keeps_modSet
    | with_reducible apply keeps_runCommand
    | with_reducible apply keeps_act
    | with_reducible apply keepsX_next
    | with_reducible exact keepsX_fault
    | with_reducible exact keepsX_refused
    | ((with_reducible refine sub_of hm ?_); exact rfl)
    | with_reducible exact Nat.le_refl _
    | with_reducible rfl
    | with_reducible exact ⟨rfl, rfl, rfl⟩
    | with_reducible intro _
    | split
    | dsimp only)

theorem keeps_onQos (hm : Sub 6291456 M) (f : QosCfg → QosCfg) (s : State) (hk : Fr M s0 s) :
    Fr M s0 (onQos f s) := by
  unfold onQos
  repeat' (first
    | with_reducible assumption
    | with_reducible apply keeps_modSet
    | ((with_reducible refine sub_of hm ?_); exact rfl)
    | with_reducible exact Nat.le_refl _
    | with_reducible rfl
    | with_reducible exact ⟨rfl, rfl, rfl⟩
    | with_reducible intro _
    | split
    | dsimp only)

theorem keeps_execQosServicecfg (hm : Sub 15730190 M) (q : Req) (s : State) (hk : Fr M s0 s) :
    KeepsX M s0 (execQosServicecfg q s) := by
  unfold execQosServicecfg
  repeat' (first
    | with_reducible assumption
    | with_reducible apply keeps_forEach
    | with_reducible apply keeps_runCommand
    | with_reducible apply keeps_act
    | with_reducible apply keeps_onQos
    | with_reducible apply keepsX_next
    | with_reducible exact keepsX_fault
    | with_reducible exact keepsX_refused
    | ((with_reducible refine sub_of hm ?_); exact rfl)
    | with_reducible exact Nat.le_refl _
    | with_reducible rfl
    | with_reducible exact ⟨rfl, rfl, rfl⟩
    | with_reducible intro _
    | split
    | dsimp only)

theorem keeps_execQosSubcfg (hm : Sub 15730190 M) (q : Req) (s : State) (hk : Fr M s0 s) :
    KeepsX M s0 (execQosSubcfg q s) := by
  unfold execQosSubcfg
  repeat' (first
    | with_reducible assumption
    | with_reducible apply keeps_runCommand
    | with_reducible apply keeps_act
    | with_reducible apply keeps_onQos
    | with_reducible apply keepsX_next
    | with_reducible exact keepsX_fault
    | with_reducible exact keepsX_refused
    | ((with_reducible refine sub_of hm ?_); exact rfl)
    | with_reducible exact Nat.le_refl _
    | with_reducible rfl
    | with_reducible exact ⟨rfl, rfl, rfl⟩
    | with_reducible intro _
    | split
    | dsimp only)

theorem keeps_resetShaper (hm : Sub 512 M) (k : Nat) (s : State) (hk : Fr M s0 s) :
    Fr M s0 (resetShaper k s) := by
  unfold resetShaper
  repeat' (first
    | with_reducible assumption
    | with_reducible apply keeps_onCoreR
    | ((with_reducible refine sub_of hm ?_); exact rfl)
    | with_reducible exact Nat.le_refl _
    | with_reducible rfl
    | with_reducible exact ⟨rfl, rfl, rfl⟩
    | with_reducible intro _
    | split
    | dsimp only)

theorem keeps_execQosShapecfg (hm : Sub 15730190 M) (q : Req) (s : State) (hk : Fr M s0 s) :
    KeepsX M s0 (execQosShapecfg q s) := by
  unfold execQosShapecfg
  repeat' (first
    | with_reducible assumption
    | with_reducible apply keeps_runCommand
    | with_reducible apply keeps_act
    | with_reducible apply keeps_onQos
    | with_reducible apply keeps_resetShaper
    | with_reducible apply keepsX_next
    | with_reducible exact keepsX_fault
    | with_reducible exact keepsX_refused
    | ((with_reducible refine sub_of hm ?_); exact rfl)
    | with_reducible exact Nat.le_refl _
    | with_reducible rfl
    | with_reducible exact ⟨rfl, rfl, rfl⟩
    | with_reducible intro _
    | split
    | dsimp only)

theorem keeps_fillPolicer (hm : Sub 512 M) (k : Nat) (s : State) (hk : Fr M s0 s) :
    Fr M s0 (fillPolicer k s) := by
  unfold fillPolicer
  repeat' (first
    | with_reducible assumption
    | with_reducible apply keeps_onCoreR
    | ((with_reducible refine sub_of hm ?_); exact rfl)
    | with_reducible exact Nat.le_refl _
    | with_reducible rfl
    | with_reducible exact ⟨rfl, rfl, rfl⟩
    | with_reducible intro _
    | split
    | dsimp only)

theorem keeps_execQosPolicecfg (hm : Sub 15730222 M) (q : Req) (s : State) (hk : Fr M s0 s) :
    KeepsX M s0 (execQosPolicecfg q s) := by
  unfold execQosPolicecfg
  repeat' (first
    | with_reducible assumption
    | with_reducible apply keeps_runCommand
    | with_reducible apply keeps_act
    | with_reducible apply keeps_police
    | with_reducible apply keeps_onQos
    | with_reducible apply keeps_fillPolicer
    | with_reducible apply keepsX_next
    | with_reducible exact keepsX_fault
    | with_reducible exact keepsX_refused
    | with_reducible refine keeps_snd ‹_› ?_
    | ((with_reducible refine sub_of hm ?_); exact rfl)
    | with_reducible exact Nat.le_refl _
    | with_reducible rfl
    | with_reducible exact ⟨rfl, rfl, rfl⟩
    | with_reducible intro _
    | split
    | dsimp only)

theorem keeps_execQosGatewrite (hm : Sub 9438734 M) (q : Req) (s : State) (hk : Fr M s0 s) :
    KeepsX M s0 (execQosGatewrite q s) := by
  unfold execQosGatewrite
  repeat' (first
    | with_reducible assumption
    | with_reducible apply keeps_longOp
    | with_reducible apply keepsX_next
    | with_reducible exact keepsX_fault
    | with_reducible exact keepsX_refused
    | ((with_reducible refine sub_of hm ?_); exact rfl)
    | with_reducible exact Nat.le_refl _
    | with_reducible rfl
    | with_reducible exact ⟨rfl, rfl, rfl⟩
    | with_reducible intro _
    | split
    | dsimp only)

theorem keeps_startGatewrite (hm : Sub 15730190 M) (t : Ticket) (s : State) (hk : Fr M s0 s) :
    Fr M s0 (startGatewrite t s) := by
  unfold startGatewrite
  repeat' (first
    | with_reducible assumption
    | with_reducible apply keeps_endTicket
    | with_reducible apply keeps_onQos
    | ((with_reducible refine sub_of hm ?_); exact rfl)
    | with_reducible exact Nat.le_refl _
    | with_reducible rfl
    | with_reducible exact ⟨rfl, rfl, rfl⟩
    | with_reducible intro _
    | split
    | dsimp only)

theorem keeps_dropPending (hm : Sub 6291456 M) (t : Ticket) (s : State) (hk : Fr M s0 s) :
    Fr M s0 (dropPending t s) := by
  unfold dropPending
  repeat' (first
    | with_reducible assumption
    | with_reducible apply keeps_onQos
    | ((with_reducible refine sub_of hm ?_); exact rfl)
    | with_reducible exact Nat.le_refl _
    | with_reducible rfl
    | with_reducible exact ⟨rfl, rfl, rfl⟩
    | with_reducible intro _
    | split
    | dsimp only)

theorem keeps_execGateTakeover (hm : Sub 15730222 M) (lp : Nat) (s : State) (hk : Fr M s0 s) :
    KeepsX M s0 (execGateTakeover lp s) := by
  unfold execGateTakeover
  repeat' (first
    | with_reducible assumption
    | with_reducible apply keeps_record
    | with_reducible apply keeps_ticketDone
    | with_reducible apply keeps_onQos
    | with_reducible apply keepsX_next
    | with_reducible exact keepsX_fault
    | with_reducible exact keepsX_refused
    | ((with_reducible refine sub_of hm ?_); exact rfl)
    | with_reducible exact Nat.le_refl _
    | with_reducible rfl
    | with_reducible exact ⟨rfl, rfl, rfl⟩
    | with_reducible intro _
    | split
    | dsimp only)

theorem keeps_execGateFreeRunStart (hm : Sub 14680608 M) (s : State) (hk : Fr M s0 s) :
    KeepsX M s0 (execGateFreeRunStart s) := by
  unfold execGateFreeRunStart
  repeat' (first
    | with_reducible assumption
    | with_reducible apply keeps_onCoreR
    | with_reducible apply keeps_forEach
    | with_reducible apply keeps_record
    | with_reducible apply keeps_onQos
    | with_reducible apply keepsX_next
    | with_reducible exact keepsX_fault
    | with_reducible exact keepsX_refused
    | ((with_reducible refine sub_of hm ?_); exact rfl)
    | with_reducible exact Nat.le_refl _
    | with_reducible rfl
    | with_reducible exact ⟨rfl, rfl, rfl⟩
    | with_reducible intro _
    | split
    | dsimp only)

theorem keeps_execQosGatequery (hm : Sub 9438734 M) (q : Req) (s : State) (hk : Fr M s0 s) :
    KeepsX M s0 (execQosGatequery q s) := by
  unfold execQosGatequery
  repeat' (first
    | with_reducible assumption
    | with_reducible apply keeps_runCommand
    | with_reducible apply keeps_ans
    | with_reducible apply keepsX_next
    | with_reducible exact keepsX_fault
    | with_reducible exact keepsX_refused
    | ((with_reducible refine sub_of hm ?_); exact rfl)
    | with_reducible exact Nat.le_refl _
    | with_reducible rfl
    | with_reducible exact ⟨rfl, rfl, rfl⟩
    | with_reducible intro _
    | split
    | dsimp only)

theorem keeps_execQosQstats (hm : Sub 9438734 M) (q : Req) (s : State) (hk : Fr M s0 s) :
    KeepsX M s0 (execQosQstats q s) := by
  unfold execQosQstats
  repeat' (first
    | with_reducible assumption
    | with_reducible apply keeps_onCoreR
    | with_reducible apply keeps_whenS
    | with_reducible apply keeps_runCommand
    | with_reducible apply keepsX_next
    | with_reducible exact keepsX_fault
    | with_reducible exact keepsX_refused
    | ((with_reducible refine sub_of hm ?_); exact rfl)
    | with_reducible exact Nat.le_refl _
    | with_reducible rfl
    | with_reducible exact ⟨rfl, rfl, rfl⟩
    | with_reducible intro _
    | split
    | dsimp only)

theorem keeps_execQosPstats (hm : Sub 9438734 M) (q : Req) (s : State) (hk : Fr M s0 s) :
    KeepsX M s0 (execQosPstats q s) := by
  unfold execQosPstats
  repeat' (first
    | with_reducible assumption
    | with_reducible apply keeps_onCoreR
    | with_reducible apply keeps_whenS
    | with_reducible apply keeps_runCommand
    | with_reducible apply keepsX_next
    | with_reducible exact keepsX_fault
    | with_reducible exact keepsX_refused
    | ((with_reducible refine sub_of hm ?_); exact rfl)
    | with_reducible exact Nat.le_refl _
    | with_reducible rfl
    | with_reducible exact ⟨rfl, rfl, rfl⟩
    | with_reducible intro _
    | split
    | dsimp only)

/-! ### Windows -/

theorem keeps_writeUpdate (hm : Sub 2048 M) (g slot o : Nat) (bs : List Byte) (s : State) (hk : Fr M s0 s) :
    Fr M s0 (writeUpdate g slot o bs s) := by
  unfold writeUpdate
  repeat' (first
    | with_reducible assumption
    | with_reducible apply keeps_onGroup
    | ((with_reducible refine sub_of hm ?_); exact rfl)
    | with_reducible exact Nat.le_refl _
    | with_reducible rfl
    | with_reducible exact ⟨rfl, rfl, rfl⟩
    | with_reducible intro _
    | split
    | dsimp only)

theorem keeps_wakeStack (hm : Sub 8192 M) (a : Nat) (s : State) (hk : Fr M s0 s) :
    Fr M s0 (wakeStack a s) := by
  unfold wakeStack
  repeat' (first
    | with_reducible assumption
    | with_reducible apply keeps_onMem
    | ((with_reducible refine sub_of hm ?_); exact rfl)
    | with_reducible exact Nat.le_refl _
    | with_reducible rfl
    | with_reducible exact ⟨rfl, rfl, rfl⟩
    | with_reducible intro _
    | split
    | dsimp only)

theorem keeps_answer (hm : Sub 8390304 M) (d : Nat) (e : QEnt) (typ : Nat) (p : List Byte) (s : State) (hk : Fr M s0 s) :
    Fr M s0 (answer d e typ p s) := by
  unfold answer
  repeat' (first
    | with_reducible assumption
    | with_reducible apply keeps_dropEnt
    | with_reducible apply keeps_inject
    | ((with_reducible refine sub_of hm ?_); exact rfl)
    | with_reducible exact Nat.le_refl _
    | with_reducible rfl
    | with_reducible exact ⟨rfl, rfl, rfl⟩
    | with_reducible intro _
    | split
    | dsimp only)

theorem keeps_refuseReq (hm : Sub 8398496 M) (d : Nat) (e : QEnt) (cause : Nat) (s : State) (hk : Fr M s0 s) :
    Fr M s0 (refuseReq d e cause s) := by
  unfold refuseReq
  repeat' (first
    | with_reducible assumption
    | with_reducible apply keeps_dropEnt
    | with_reducible apply keeps_nack
    | with_reducible apply keeps_refuse
    | ((with_reducible refine sub_of hm ?_); exact rfl)
    | with_reducible exact Nat.le_refl _
    | with_reducible rfl
    | with_reducible exact ⟨rfl, rfl, rfl⟩
    | with_reducible intro _
    | split
    | dsimp only)

theorem keeps_performRead (hm : Sub 8531616 M) (d : Nat) (memBad : Bool) (e : QEnt) (s : State) (hk : Fr M s0 s) :
    Fr M s0 (performRead d memBad e s) := by
  unfold performRead
  repeat' (first
    | with_reducible assumption
    | with_reducible apply keeps_badBlock
    | with_reducible apply keeps_restorePage
    | with_reducible apply keeps_tileParity
    | with_reducible apply keeps_wakeStack
    | with_reducible apply keeps_answer
    | with_reducible apply keeps_refuseReq
    | ((with_reducible refine sub_of hm ?_); exact rfl)
    | with_reducible exact Nat.le_refl _
    | with_reducible rfl
    | with_reducible exact ⟨rfl, rfl, rfl⟩
    | with_reducible intro _
    | split
    | dsimp only)

theorem keeps_performWrite (hm : Sub 16154542 M) (d : Nat) (memBad : Bool) (e : QEnt) (s : State) (hk : Fr M s0 s) :
    Fr M s0 (performWrite d memBad e s) := by
  unfold performWrite
  repeat' (first
    | with_reducible assumption
    | with_reducible apply keeps_hbmWrite
    | with_reducible apply keeps_badBlock
    | with_reducible apply keeps_spadWrite
    | with_reducible apply keeps_sideWritten
    | with_reducible apply keeps_restorePage
    | with_reducible apply keeps_writeUpdate
    | with_reducible apply keeps_wakeStack
    | with_reducible apply keeps_answer
    | with_reducible apply keeps_refuseReq
    | ((with_reducible refine sub_of hm ?_); exact rfl)
    | with_reducible exact Nat.le_refl _
    | with_reducible rfl
    | with_reducible exact ⟨rfl, rfl, rfl⟩
    | with_reducible intro _
    | split
    | dsimp only)

theorem keeps_perform (hm : Sub 16220142 M) (d : Nat) (bad memBad : Bool) (e : QEnt) (s : State) (hk : Fr M s0 s) :
    Fr M s0 (perform d bad memBad e s) := by
  unfold perform
  repeat' (first
    | with_reducible assumption
    | with_reducible apply keeps_cellBad
    | with_reducible apply keeps_markStream
    | with_reducible apply keeps_refuseReq
    | with_reducible apply keeps_performRead
    | with_reducible apply keeps_performWrite
    | ((with_reducible refine sub_of hm ?_); exact rfl)
    | with_reducible exact Nat.le_refl _
    | with_reducible rfl
    | with_reducible exact ⟨rfl, rfl, rfl⟩
    | with_reducible intro _
    | split
    | dsimp only)

theorem keeps_windowStep (hm : Sub 16220142 M) (d k : Nat) (bad memBad : Bool) (p : Frame → Bool) (s : State) (hk : Fr M s0 s) :
    Fr M s0 (windowStep d k bad memBad p s) := by
  unfold windowStep
  repeat' (first
    | with_reducible assumption
    | with_reducible apply keeps_onCons
    | with_reducible apply keeps_liftTile
    | with_reducible apply keeps_perform
    | ((with_reducible refine sub_of hm ?_); exact rfl)
    | with_reducible exact Nat.le_refl _
    | with_reducible rfl
    | with_reducible exact ⟨rfl, rfl, rfl⟩
    | with_reducible intro _
    | split
    | dsimp only)

theorem keeps_execWindowRead (hm : Sub 16220142 M) (die key : Nat) (bad memBad : Bool) (s : State) (hk : Fr M s0 s) :
    KeepsX M s0 (execWindowRead die key bad memBad s) := by
  unfold execWindowRead
  repeat' (first
    | with_reducible assumption
    | with_reducible apply keeps_windowStep
    | with_reducible apply keepsX_next
    | with_reducible exact keepsX_fault
    | with_reducible exact keepsX_refused
    | ((with_reducible refine sub_of hm ?_); exact rfl)
    | with_reducible exact Nat.le_refl _
    | with_reducible rfl
    | with_reducible exact ⟨rfl, rfl, rfl⟩
    | with_reducible intro _
    | split
    | dsimp only)

theorem keeps_execWindowWrite (hm : Sub 16220142 M) (die key : Nat) (bad memBad : Bool) (s : State) (hk : Fr M s0 s) :
    KeepsX M s0 (execWindowWrite die key bad memBad s) := by
  unfold execWindowWrite
  repeat' (first
    | with_reducible assumption
    | with_reducible apply keeps_windowStep
    | with_reducible apply keepsX_next
    | with_reducible exact keepsX_fault
    | with_reducible exact keepsX_refused
    | ((with_reducible refine sub_of hm ?_); exact rfl)
    | with_reducible exact Nat.le_refl _
    | with_reducible rfl
    | with_reducible exact ⟨rfl, rfl, rfl⟩
    | with_reducible intro _
    | split
    | dsimp only)

theorem keeps_execFence (hm : Sub 16220142 M) (die : Nat) (bad : Bool) (s : State) (hk : Fr M s0 s) :
    KeepsX M s0 (execFence die bad s) := by
  unfold execFence
  repeat' (first
    | with_reducible assumption
    | with_reducible apply keeps_windowStep
    | with_reducible apply keepsX_next
    | with_reducible exact keepsX_fault
    | with_reducible exact keepsX_refused
    | ((with_reducible refine sub_of hm ?_); exact rfl)
    | with_reducible exact Nat.le_refl _
    | with_reducible rfl
    | with_reducible exact ⟨rfl, rfl, rfl⟩
    | with_reducible intro _
    | split
    | dsimp only)

theorem keeps_execStreamMarkExpire (hm : Sub 8192 M) (die src dest cls : Nat) (s : State) (hk : Fr M s0 s) :
    KeepsX M s0 (execStreamMarkExpire die src dest cls s) := by
  unfold execStreamMarkExpire
  repeat' (first
    | with_reducible assumption
    | with_reducible apply keeps_onMem
    | with_reducible apply keepsX_next
    | with_reducible exact keepsX_fault
    | with_reducible exact keepsX_refused
    | ((with_reducible refine sub_of hm ?_); exact rfl)
    | with_reducible exact Nat.le_refl _
    | with_reducible rfl
    | with_reducible exact ⟨rfl, rfl, rfl⟩
    | with_reducible intro _
    | split
    | dsimp only)

theorem keeps_holdHost (hm : Sub 8192 M) (h : HeldRead) (s : State) (hk : Fr M s0 s) :
    Fr M s0 (holdHost h s) := by
  unfold holdHost
  repeat' (first
    | with_reducible assumption
    | with_reducible apply keeps_onMem
    | ((with_reducible refine sub_of hm ?_); exact rfl)
    | with_reducible exact Nat.le_refl _
    | with_reducible rfl
    | with_reducible exact ⟨rfl, rfl, rfl⟩
    | with_reducible intro _
    | split
    | dsimp only)

theorem keeps_hostAccess (hm : Sub 16148398 M) (h : HeldRead) (s : State) (hk : Fr M s0 s) :
    Fr M s0 (hostAccess h s) := by
  unfold hostAccess
  repeat' (first
    | with_reducible assumption
    | with_reducible apply keeps_emit
    | with_reducible apply keeps_hbmWrite
    | with_reducible apply keeps_sideWritten
    | with_reducible apply keeps_restorePage
    | with_reducible apply keeps_wakeStack
    | with_reducible apply keeps_holdHost
    | ((with_reducible refine sub_of hm ?_); exact rfl)
    | with_reducible exact Nat.le_refl _
    | with_reducible rfl
    | with_reducible exact ⟨rfl, rfl, rfl⟩
    | with_reducible intro _
    | split
    | dsimp only)

theorem keeps_hostTake (hm : Sub 16148414 M) (h : HeldRead) (fil : Nat) (s : State) (hk : Fr M s0 s) :
    Fr M s0 (hostTake h fil s) := by
  unfold hostTake
  repeat' (first
    | with_reducible assumption
    | with_reducible apply keeps_emit
    | with_reducible apply keeps_onHost
    | with_reducible apply keeps_holdHost
    | with_reducible apply keeps_hostAccess
    | ((with_reducible refine sub_of hm ?_); exact rfl)
    | with_reducible exact Nat.le_refl _
    | with_reducible rfl
    | with_reducible exact ⟨rfl, rfl, rfl⟩
    | with_reducible intro _
    | split
    | dsimp only)

theorem keeps_serveHeld (hm : Sub 16148398 M) (lo hi : Nat) (s : State) (hk : Fr M s0 s) :
    Fr M s0 (serveHeld lo hi s) := by
  unfold serveHeld
  repeat' (first
    | with_reducible assumption
    | with_reducible apply keeps_onMem
    | with_reducible apply keeps_forEach
    | with_reducible apply keeps_holdHost
    | with_reducible apply keeps_hostAccess
    | ((with_reducible refine sub_of hm ?_); exact rfl)
    | with_reducible exact Nat.le_refl _
    | with_reducible rfl
    | with_reducible exact ⟨rfl, rfl, rfl⟩
    | with_reducible intro _
    | split
    | dsimp only)

theorem keeps_hostMem (hm : Sub 16148414 M) (addr len tag : Nat) (wr : Option (List Byte)) (crcBad : Bool) (s : State) (hk : Fr M s0 s) :
    Fr M s0 (hostMem addr len tag wr crcBad s) := by
  unfold hostMem
  repeat' (first
    | with_reducible assumption
    | with_reducible apply keeps_badBlock
    | with_reducible apply keeps_hostTake
    | ((with_reducible refine sub_of hm ?_); exact rfl)
    | with_reducible exact Nat.le_refl _
    | with_reducible rfl
    | with_reducible exact ⟨rfl, rfl, rfl⟩
    | with_reducible intro _
    | split
    | dsimp only)

theorem keeps_execCxlMemRead (hm : Sub 16148414 M) (addr len tag : Nat) (crcBad : Bool) (s : State) (hk : Fr M s0 s) :
    KeepsX M s0 (execCxlMemRead addr len tag crcBad s) := by
  unfold execCxlMemRead
  repeat' (first
    | with_reducible assumption
    | with_reducible apply keeps_hostMem
    | with_reducible apply keepsX_next
    | with_reducible exact keepsX_fault
    | with_reducible exact keepsX_refused
    | ((with_reducible refine sub_of hm ?_); exact rfl)
    | with_reducible exact Nat.le_refl _
    | with_reducible rfl
    | with_reducible exact ⟨rfl, rfl, rfl⟩
    | with_reducible intro _
    | split
    | dsimp only)

theorem keeps_execCxlMemWrite (hm : Sub 16148414 M) (addr : Nat) (bytes : List Byte) (tag : Nat) (crcBad : Bool) (s : State) (hk : Fr M s0 s) :
    KeepsX M s0 (execCxlMemWrite addr bytes tag crcBad s) := by
  unfold execCxlMemWrite
  repeat' (first
    | with_reducible assumption
    | with_reducible apply keeps_hostMem
    | with_reducible apply keepsX_next
    | with_reducible exact keepsX_fault
    | with_reducible exact keepsX_refused
    | ((with_reducible refine sub_of hm ?_); exact rfl)
    | with_reducible exact Nat.le_refl _
    | with_reducible rfl
    | with_reducible exact ⟨rfl, rfl, rfl⟩
    | with_reducible intro _
    | split
    | dsimp only)

end Sys2Proof.Machine
end

