-- ==== Sys2Proof/Laws/KeepsStores.lean ====
section
/-! SUPPORT. What time, schedules, snapshots and storage can change, one lemma per definition: nothing outside the parts given, and nothing that may not be
undone. -/

set_option Elab.async false

namespace Sys2Proof.Machine

set_option linter.all false
variable {M : Nat} {s0 : State}

/-! ### Timing -/

theorem keeps_removeOffset (hm : Sub 32768 M) (cyc : Nat) (v : Int) (s : State) (hk : Fr M s0 s) :
    Fr M s0 (removeOffset cyc v s) := by
  unfold removeOffset
  repeat' (first
    | with_reducible assumption
    | with_reducible apply keeps_onTime
    | ((with_reducible refine sub_of hm ?_); exact rfl)
    | with_reducible exact Nat.le_refl _
    | with_reducible rfl
    | with_reducible exact ⟨rfl, rfl, rfl⟩
    | with_reducible intro _
    | split
    | dsimp only)

theorem keeps_execSyncDue (hm : Sub 8421376 M) (lp : Nat) (s : State) (hk : Fr M s0 s) :
    KeepsX M s0 (execSyncDue lp s) := by
  unfold execSyncDue
  repeat' (first
    | with_reducible assumption
    | with_reducible apply keeps_onTime
    | with_reducible apply keeps_sendTime
    | with_reducible apply keepsX_next
    | with_reducible exact keepsX_fault
    | with_reducible exact keepsX_refused
    | ((with_reducible refine sub_of hm ?_); exact rfl)
    | with_reducible exact Nat.le_refl _
    | with_reducible rfl
    | with_reducible exact ⟨rfl, rfl, rfl⟩
    | with_reducible intro _
    | split
    | dsimp only)

theorem keeps_execSyncRx (hm : Sub 8421920 M) (lp xseq ts steps : Nat) (s : State) (hk : Fr M s0 s) :
    KeepsX M s0 (execSyncRx lp xseq ts steps s) := by
  unfold execSyncRx
  repeat' (first
    | with_reducible assumption
    | with_reducible apply keeps_onTime
    | with_reducible apply keeps_sendTime
    | with_reducible apply keeps_chooseParent
    | with_reducible apply keepsX_next
    | with_reducible exact keepsX_fault
    | with_reducible exact keepsX_refused
    | ((with_reducible refine sub_of hm ?_); exact rfl)
    | with_reducible exact Nat.le_refl _
    | with_reducible rfl
    | with_reducible exact ⟨rfl, rfl, rfl⟩
    | with_reducible intro _
    | split
    | dsimp only)

theorem keeps_execDelayReqRx (hm : Sub 8388608 M) (lp xseq _ts : Nat) (s : State) (hk : Fr M s0 s) :
    KeepsX M s0 (execDelayReqRx lp xseq _ts s) := by
  unfold execDelayReqRx
  repeat' (first
    | with_reducible assumption
    | with_reducible apply keeps_sendTime
    | with_reducible apply keepsX_next
    | with_reducible exact keepsX_fault
    | with_reducible exact keepsX_refused
    | ((with_reducible refine sub_of hm ?_); exact rfl)
    | with_reducible exact Nat.le_refl _
    | with_reducible rfl
    | with_reducible exact ⟨rfl, rfl, rfl⟩
    | with_reducible intro _
    | split
    | dsimp only)

theorem keeps_judgeOffset (hm : Sub 8421920 M) (cyc : Nat) (v : Int) (s : State) (hk : Fr M s0 s) :
    Fr M s0 (judgeOffset cyc v s) := by
  unfold judgeOffset
  repeat' (first
    | with_reducible assumption
    | with_reducible apply keeps_onTime
    | with_reducible apply keeps_whenS
    | with_reducible apply keeps_timeTo
    | with_reducible apply keeps_removeOffset
    | ((with_reducible refine sub_of hm ?_); exact rfl)
    | with_reducible exact Nat.le_refl _
    | with_reducible rfl
    | with_reducible exact ⟨rfl, rfl, rfl⟩
    | with_reducible intro _
    | split
    | dsimp only)

theorem keeps_execDelayRespRx (hm : Sub 8421920 M) (lp xseq ts : Nat) (s : State) (hk : Fr M s0 s) :
    KeepsX M s0 (execDelayRespRx lp xseq ts s) := by
  unfold execDelayRespRx
  repeat' (first
    | with_reducible assumption
    | with_reducible apply keeps_onTime
    | with_reducible apply keeps_judgeOffset
    | with_reducible apply keepsX_next
    | with_reducible exact keepsX_fault
    | with_reducible exact keepsX_refused
    | ((with_reducible refine sub_of hm ?_); exact rfl)
    | with_reducible exact Nat.le_refl _
    | with_reducible rfl
    | with_reducible exact ⟨rfl, rfl, rfl⟩
    | with_reducible intro _
    | split
    | dsimp only)

theorem keeps_execExchangeMissing (hm : Sub 8421920 M) (s : State) (hk : Fr M s0 s) :
    KeepsX M s0 (execExchangeMissing s) := by
  unfold execExchangeMissing
  repeat' (first
    | with_reducible assumption
    | with_reducible apply keeps_timeTo
    | with_reducible apply keepsX_next
    | with_reducible exact keepsX_fault
    | with_reducible exact keepsX_refused
    | ((with_reducible refine sub_of hm ?_); exact rfl)
    | with_reducible exact Nat.le_refl _
    | with_reducible rfl
    | with_reducible exact ⟨rfl, rfl, rfl⟩
    | with_reducible intro _
    | split
    | dsimp only)

theorem keeps_execHoldoverTimeout (hm : Sub 8490720 M) (s : State) (hk : Fr M s0 s) :
    KeepsX M s0 (execHoldoverTimeout s) := by
  unfold execHoldoverTimeout
  repeat' (first
    | with_reducible assumption
    | with_reducible apply keeps_timeTo
    | with_reducible apply keeps_haltImage
    | with_reducible apply keepsX_next
    | with_reducible exact keepsX_fault
    | with_reducible exact keepsX_refused
    | ((with_reducible refine sub_of hm ?_); exact rfl)
    | with_reducible exact Nat.le_refl _
    | with_reducible rfl
    | with_reducible exact ⟨rfl, rfl, rfl⟩
    | with_reducible intro _
    | split
    | dsimp only)

theorem keeps_execSyncPpsEdge (hm : Sub 32768 M) (s : State) (hk : Fr M s0 s) :
    KeepsX M s0 (execSyncPpsEdge s) := by
  unfold execSyncPpsEdge
  repeat' (first
    | with_reducible assumption
    | with_reducible apply keeps_onTime
    | with_reducible apply keeps_removeOffset
    | with_reducible apply keepsX_next
    | with_reducible exact keepsX_fault
    | with_reducible exact keepsX_refused
    | ((with_reducible refine sub_of hm ?_); exact rfl)
    | with_reducible exact Nat.le_refl _
    | with_reducible rfl
    | with_reducible exact ⟨rfl, rfl, rfl⟩
    | with_reducible intro _
    | split
    | dsimp only)

theorem keeps_rootLaunch (hm : Sub 8454144 M) (s : State) (hk : Fr M s0 s) :
    Fr M s0 (rootLaunch s) := by
  unfold rootLaunch
  repeat' (first
    | with_reducible assumption
    | with_reducible apply keeps_onSched
    | with_reducible apply keeps_forEach
    | with_reducible apply keeps_sendTime
    | ((with_reducible refine sub_of hm ?_); exact rfl)
    | with_reducible exact Nat.le_refl _
    | with_reducible rfl
    | with_reducible exact ⟨rfl, rfl, rfl⟩
    | with_reducible intro _
    | split
    | dsimp only)

theorem keeps_tellArmed (hm : Sub 8454144 M) (tag : Nat) (s : State) (hk : Fr M s0 s) :
    Fr M s0 (tellArmed tag s) := by
  unfold tellArmed
  repeat' (first
    | with_reducible assumption
    | with_reducible apply keeps_sendTime
    | with_reducible apply keeps_rootLaunch
    | ((with_reducible refine sub_of hm ?_); exact rfl)
    | with_reducible exact Nat.le_refl _
    | with_reducible rfl
    | with_reducible exact ⟨rfl, rfl, rfl⟩
    | with_reducible intro _
    | split
    | dsimp only)

theorem keeps_execArmedRx (hm : Sub 8454144 M) (lp tag count : Nat) (s : State) (hk : Fr M s0 s) :
    KeepsX M s0 (execArmedRx lp tag count s) := by
  unfold execArmedRx
  repeat' (first
    | with_reducible assumption
    | with_reducible apply keeps_onSched
    | with_reducible apply keeps_tellArmed
    | with_reducible apply keepsX_next
    | with_reducible exact keepsX_fault
    | with_reducible exact keepsX_refused
    | ((with_reducible refine sub_of hm ?_); exact rfl)
    | with_reducible exact Nat.le_refl _
    | with_reducible rfl
    | with_reducible exact ⟨rfl, rfl, rfl⟩
    | with_reducible intro _
    | split
    | dsimp only)

theorem keeps_execLaunchRx (hm : Sub 8457952 M) (lp tag time : Nat) (s : State) (hk : Fr M s0 s) :
    KeepsX M s0 (execLaunchRx lp tag time s) := by
  unfold execLaunchRx
  repeat' (first
    | with_reducible assumption
    | with_reducible apply keeps_onSched
    | with_reducible apply keeps_forEach
    | with_reducible apply keeps_sendTime
    | with_reducible apply keeps_haltImage
    | with_reducible apply keepsX_next
    | with_reducible exact keepsX_fault
    | with_reducible exact keepsX_refused
    | ((with_reducible refine sub_of hm ?_); exact rfl)
    | with_reducible exact Nat.le_refl _
    | with_reducible rfl
    | with_reducible exact ⟨rfl, rfl, rfl⟩
    | with_reducible intro _
    | split
    | dsimp only)

theorem keeps_execHaltRx (hm : Sub 8457952 M) (lp tag cause : Nat) (s : State) (hk : Fr M s0 s) :
    KeepsX M s0 (execHaltRx lp tag cause s) := by
  unfold execHaltRx
  repeat' (first
    | with_reducible assumption
    | with_reducible apply keeps_forwardHalt
    | with_reducible apply keeps_haltImage
    | with_reducible apply keepsX_next
    | with_reducible exact keepsX_fault
    | with_reducible exact keepsX_refused
    | ((with_reducible refine sub_of hm ?_); exact rfl)
    | with_reducible exact Nat.le_refl _
    | with_reducible rfl
    | with_reducible exact ⟨rfl, rfl, rfl⟩
    | with_reducible intro _
    | split
    | dsimp only)

theorem keeps_setRoot (hm : Sub 8421920 M) (root : Bool) (s : State) (hk : Fr M s0 s) :
    Fr M s0 (setRoot root s) := by
  unfold setRoot
  repeat' (first
    | with_reducible assumption
    | with_reducible apply keeps_onTime
    | with_reducible apply keeps_timeTo
    | with_reducible apply keeps_chooseParent
    | ((with_reducible refine sub_of hm ?_); exact rfl)
    | with_reducible exact Nat.le_refl _
    | with_reducible rfl
    | with_reducible exact ⟨rfl, rfl, rfl⟩
    | with_reducible intro _
    | split
    | dsimp only)

theorem keeps_timecfg (hm : Sub 14713376 M) (q : Req) (s : State) (hk : Fr M s0 s) :
    Fr M s0 (timecfg q s) := by
  unfold timecfg
  repeat' (first
    | with_reducible assumption
    | with_reducible apply keeps_modSet
    | with_reducible apply keeps_setRoot
    | ((with_reducible refine sub_of hm ?_); exact rfl)
    | with_reducible exact Nat.le_refl _
    | with_reducible rfl
    | with_reducible exact ⟨rfl, rfl, rfl⟩
    | with_reducible intro _
    | split
    | dsimp only)

theorem keeps_execSchedTimecfg (hm : Sub 15762990 M) (q : Req) (s : State) (hk : Fr M s0 s) :
    KeepsX M s0 (execSchedTimecfg q s) := by
  unfold execSchedTimecfg
  repeat' (first
    | with_reducible assumption
    | with_reducible apply keeps_plain
    | with_reducible apply keeps_act
    | with_reducible apply keeps_timecfg
    | with_reducible apply keepsX_next
    | with_reducible exact keepsX_fault
    | with_reducible exact keepsX_refused
    | ((with_reducible refine sub_of hm ?_); exact rfl)
    | with_reducible exact Nat.le_refl _
    | with_reducible rfl
    | with_reducible exact ⟨rfl, rfl, rfl⟩
    | with_reducible intro _
    | split
    | dsimp only)

theorem keeps_execSchedTimequery (hm : Sub 9438734 M) (q : Req) (s : State) (hk : Fr M s0 s) :
    KeepsX M s0 (execSchedTimequery q s) := by
  unfold execSchedTimequery
  repeat' (first
    | with_reducible assumption
    | with_reducible apply keeps_plain
    | with_reducible apply keeps_ans
    | with_reducible apply keepsX_next
    | with_reducible exact keepsX_fault
    | with_reducible exact keepsX_refused
    | ((with_reducible refine sub_of hm ?_); exact rfl)
    | with_reducible exact Nat.le_refl _
    | with_reducible rfl
    | with_reducible exact ⟨rfl, rfl, rfl⟩
    | with_reducible intro _
    | split
    | dsimp only)

theorem keeps_setAudit (hm : Sub 6291456 M) (g : Nat) (on_ : Bool) (s : State) (hk : Fr M s0 s) :
    Fr M s0 (setAudit g on_ s) := by
  unfold setAudit
  repeat' (first
    | with_reducible assumption
    | with_reducible apply keeps_modSet
    | ((with_reducible refine sub_of hm ?_); exact rfl)
    | with_reducible exact Nat.le_refl _
    | with_reducible rfl
    | with_reducible exact ⟨rfl, rfl, rfl⟩
    | with_reducible intro _
    | split
    | dsimp only)

theorem keeps_execSchedAuditcfg (hm : Sub 15730190 M) (q : Req) (s : State) (hk : Fr M s0 s) :
    KeepsX M s0 (execSchedAuditcfg q s) := by
  unfold execSchedAuditcfg
  repeat' (first
    | with_reducible assumption
    | with_reducible apply keeps_plain
    | with_reducible apply keeps_act
    | with_reducible apply keeps_setAudit
    | with_reducible apply keepsX_next
    | with_reducible exact keepsX_fault
    | with_reducible exact keepsX_refused
    | ((with_reducible refine sub_of hm ?_); exact rfl)
    | with_reducible exact Nat.le_refl _
    | with_reducible rfl
    | with_reducible exact ⟨rfl, rfl, rfl⟩
    | with_reducible intro _
    | split
    | dsimp only)

theorem keeps_execSchedAuditread (hm : Sub 9438734 M) (q : Req) (s : State) (hk : Fr M s0 s) :
    KeepsX M s0 (execSchedAuditread q s) := by
  unfold execSchedAuditread
  repeat' (first
    | with_reducible assumption
    | with_reducible apply keeps_plain
    | with_reducible apply keeps_ans
    | with_reducible apply keepsX_next
    | with_reducible exact keepsX_fault
    | with_reducible exact keepsX_refused
    | ((with_reducible refine sub_of hm ?_); exact rfl)
    | with_reducible exact Nat.le_refl _
    | with_reducible rfl
    | with_reducible exact ⟨rfl, rfl, rfl⟩
    | with_reducible intro _
    | split
    | dsimp only)

/-! ### SchedRun -/

theorem keeps_execSchedLoad (hm : Sub 9438734 M) (q : Req) (s : State) (hk : Fr M s0 s) :
    KeepsX M s0 (execSchedLoad q s) := by
  unfold execSchedLoad
  repeat' (first
    | with_reducible assumption
    | with_reducible apply keeps_longOp
    | with_reducible apply keepsX_next
    | with_reducible exact keepsX_fault
    | with_reducible exact keepsX_refused
    | ((with_reducible refine sub_of hm ?_); exact rfl)
    | with_reducible exact Nat.le_refl _
    | with_reducible rfl
    | with_reducible exact ⟨rfl, rfl, rfl⟩
    | with_reducible intro _
    | split
    | dsimp only)

theorem keeps_finishSchedLoad (hm : Sub 9504270 M) (t : Ticket) (s : State) (hk : Fr M s0 s) :
    Fr M s0 (finishSchedLoad t s) := by
  unfold finishSchedLoad
  repeat' (first
    | with_reducible assumption
    | with_reducible apply keeps_onSched
    | with_reducible apply keeps_ticketDone
    | with_reducible apply keeps_ticketFail
    | ((with_reducible refine sub_of hm ?_); exact rfl)
    | with_reducible exact Nat.le_refl _
    | with_reducible rfl
    | with_reducible exact ⟨rfl, rfl, rfl⟩
    | with_reducible intro _
    | split
    | dsimp only)

theorem keeps_execSchedUnload (hm : Sub 9504270 M) (q : Req) (s : State) (hk : Fr M s0 s) :
    KeepsX M s0 (execSchedUnload q s) := by
  unfold execSchedUnload
  repeat' (first
    | with_reducible assumption
    | with_reducible apply keeps_onSched
    | with_reducible apply keeps_plain
    | with_reducible apply keeps_act
    | with_reducible apply keepsX_next
    | with_reducible exact keepsX_fault
    | with_reducible exact keepsX_refused
    | ((with_reducible refine sub_of hm ?_); exact rfl)
    | with_reducible exact Nat.le_refl _
    | with_reducible rfl
    | with_reducible exact ⟨rfl, rfl, rfl⟩
    | with_reducible intro _
    | split
    | dsimp only)

theorem keeps_execSchedEnable (hm : Sub 9438734 M) (q : Req) (s : State) (hk : Fr M s0 s) :
    KeepsX M s0 (execSchedEnable q s) := by
  unfold execSchedEnable
  repeat' (first
    | with_reducible assumption
    | with_reducible apply keeps_longOp
    | with_reducible apply keepsX_next
    | with_reducible exact keepsX_fault
    | with_reducible exact keepsX_refused
    | ((with_reducible refine sub_of hm ?_); exact rfl)
    | with_reducible exact Nat.le_refl _
    | with_reducible rfl
    | with_reducible exact ⟨rfl, rfl, rfl⟩
    | with_reducible intro _
    | split
    | dsimp only)

theorem keeps_startSchedEnable (hm : Sub 9514734 M) (t : Ticket) (s : State) (hk : Fr M s0 s) :
    Fr M s0 (startSchedEnable t s) := by
  unfold startSchedEnable
  repeat' (first
    | with_reducible assumption
    | with_reducible apply keeps_onSched
    | with_reducible apply keeps_onMem
    | with_reducible apply keeps_forEach
    | with_reducible apply keeps_whenS
    | with_reducible apply keeps_floorMissed
    | with_reducible apply keeps_ticketFail
    | with_reducible apply keeps_liftLp
    | with_reducible apply keeps_liftTile
    | ((with_reducible refine sub_of hm ?_); exact rfl)
    | with_reducible exact Nat.le_refl _
    | with_reducible rfl
    | with_reducible exact ⟨rfl, rfl, rfl⟩
    | with_reducible intro _
    | split
    | dsimp only)

theorem keeps_execSchedArmed (hm : Sub 9504334 M) (s : State) (hk : Fr M s0 s) :
    KeepsX M s0 (execSchedArmed s) := by
  unfold execSchedArmed
  repeat' (first
    | with_reducible assumption
    | with_reducible apply keeps_onSched
    | with_reducible apply keeps_setBallast
    | with_reducible apply keeps_ticketDone
    | with_reducible apply keeps_tellArmed
    | with_reducible apply keepsX_next
    | with_reducible exact keepsX_fault
    | with_reducible exact keepsX_refused
    | ((with_reducible refine sub_of hm ?_); exact rfl)
    | with_reducible exact Nat.le_refl _
    | with_reducible rfl
    | with_reducible exact ⟨rfl, rfl, rfl⟩
    | with_reducible intro _
    | split
    | dsimp only)

theorem keeps_execSchedStop (hm : Sub 9506542 M) (q : Req) (s : State) (hk : Fr M s0 s) :
    KeepsX M s0 (execSchedStop q s) := by
  unfold execSchedStop
  repeat' (first
    | with_reducible assumption
    | with_reducible apply keeps_onSched
    | with_reducible apply keeps_plain
    | with_reducible apply keeps_act
    | with_reducible apply keeps_haltImage
    | with_reducible apply keepsX_next
    | with_reducible exact keepsX_fault
    | with_reducible exact keepsX_refused
    | ((with_reducible refine sub_of hm ?_); exact rfl)
    | with_reducible exact Nat.le_refl _
    | with_reducible rfl
    | with_reducible exact ⟨rfl, rfl, rfl⟩
    | with_reducible intro _
    | split
    | dsimp only)

theorem keeps_disableImage (hm : Sub 8454144 M) (s : State) (hk : Fr M s0 s) :
    Fr M s0 (disableImage s) := by
  unfold disableImage
  repeat' (first
    | with_reducible assumption
    | with_reducible apply keeps_onSched
    | with_reducible apply keeps_tellArmed
    | ((with_reducible refine sub_of hm ?_); exact rfl)
    | with_reducible exact Nat.le_refl _
    | with_reducible rfl
    | with_reducible exact ⟨rfl, rfl, rfl⟩
    | with_reducible intro _
    | split
    | dsimp only)

theorem keeps_execSchedDisable (hm : Sub 9504270 M) (q : Req) (s : State) (hk : Fr M s0 s) :
    KeepsX M s0 (execSchedDisable q s) := by
  unfold execSchedDisable
  repeat' (first
    | with_reducible assumption
    | with_reducible apply keeps_plain
    | with_reducible apply keeps_act
    | with_reducible apply keeps_disableImage
    | with_reducible apply keepsX_next
    | with_reducible exact keepsX_fault
    | with_reducible exact keepsX_refused
    | ((with_reducible refine sub_of hm ?_); exact rfl)
    | with_reducible exact Nat.le_refl _
    | with_reducible rfl
    | with_reducible exact ⟨rfl, rfl, rfl⟩
    | with_reducible intro _
    | split
    | dsimp only)

theorem keeps_execSchedQuery (hm : Sub 9438734 M) (q : Req) (s : State) (hk : Fr M s0 s) :
    KeepsX M s0 (execSchedQuery q s) := by
  unfold execSchedQuery
  repeat' (first
    | with_reducible assumption
    | with_reducible apply keeps_plain
    | with_reducible apply keeps_ans
    | with_reducible apply keepsX_next
    | with_reducible exact keepsX_fault
    | with_reducible exact keepsX_refused
    | ((with_reducible refine sub_of hm ?_); exact rfl)
    | with_reducible exact Nat.le_refl _
    | with_reducible rfl
    | with_reducible exact ⟨rfl, rfl, rfl⟩
    | with_reducible intro _
    | split
    | dsimp only)

theorem keeps_execSchedLaunchTime (hm : Sub 8454176 M) (s : State) (hk : Fr M s0 s) :
    KeepsX M s0 (execSchedLaunchTime s) := by
  unfold execSchedLaunchTime
  repeat' (first
    | with_reducible assumption
    | with_reducible apply keeps_onSched
    | with_reducible apply keeps_record
    | with_reducible apply keepsX_next
    | with_reducible exact keepsX_fault
    | with_reducible exact keepsX_refused
    | with_reducible apply keeps_getD
    | ((with_reducible refine sub_of hm ?_); exact rfl)
    | with_reducible exact Nat.le_refl _
    | with_reducible rfl
    | with_reducible exact ⟨rfl, rfl, rfl⟩
    | with_reducible intro _
    | split
    | dsimp only)

theorem keeps_issueEntry (hm : Sub 65536 M) (n kind : Nat) (f : SEntry → State → State) (s : State) (hf_f : ∀ x0 x1, Fr M s0 x1 → Fr M s0 (f x0 x1)) (hk : Fr M s0 s) :
    Fr M s0 (issueEntry n kind f s) := by
  unfold issueEntry
  repeat' (first
    | with_reducible assumption
    | with_reducible apply keeps_onSched
    | with_reducible apply hf_f
    | ((with_reducible refine sub_of hm ?_); exact rfl)
    | with_reducible exact Nat.le_refl _
    | with_reducible rfl
    | with_reducible exact ⟨rfl, rfl, rfl⟩
    | with_reducible intro _
    | split
    | dsimp only)

theorem keeps_openWin (hm : Sub 65536 M) (kind a b c run : Nat) (s : State) (hk : Fr M s0 s) :
    Fr M s0 (openWin kind a b c run s) := by
  unfold openWin
  repeat' (first
    | with_reducible assumption
    | with_reducible apply keeps_onSched
    | ((with_reducible refine sub_of hm ?_); exact rfl)
    | with_reducible exact Nat.le_refl _
    | with_reducible rfl
    | with_reducible exact ⟨rfl, rfl, rfl⟩
    | with_reducible intro _
    | split
    | dsimp only)

theorem keeps_execSchedSparEntry (hm : Sub 65536 M) (n : Nat) (s : State) (hk : Fr M s0 s) :
    KeepsX M s0 (execSchedSparEntry n s) := by
  unfold execSchedSparEntry
  repeat' (first
    | with_reducible assumption
    | with_reducible apply keeps_issueEntry
    | with_reducible apply keeps_openWin
    | with_reducible apply keepsX_next
    | with_reducible exact keepsX_fault
    | with_reducible exact keepsX_refused
    | ((with_reducible refine sub_of hm ?_); exact rfl)
    | with_reducible exact Nat.le_refl _
    | with_reducible rfl
    | with_reducible exact ⟨rfl, rfl, rfl⟩
    | with_reducible intro _
    | split
    | dsimp only)

theorem keeps_execSchedEgressEntry (hm : Sub 65536 M) (n : Nat) (s : State) (hk : Fr M s0 s) :
    KeepsX M s0 (execSchedEgressEntry n s) := by
  unfold execSchedEgressEntry
  repeat' (first
    | with_reducible assumption
    | with_reducible apply keeps_issueEntry
    | with_reducible apply keeps_openWin
    | with_reducible apply keepsX_next
    | with_reducible exact keepsX_fault
    | with_reducible exact keepsX_refused
    | ((with_reducible refine sub_of hm ?_); exact rfl)
    | with_reducible exact Nat.le_refl _
    | with_reducible rfl
    | with_reducible exact ⟨rfl, rfl, rfl⟩
    | with_reducible intro _
    | split
    | dsimp only)

theorem keeps_schedClaim (hm : Sub 8486304 M) (e : SEntry) (s : State) (hk : Fr M s0 s) :
    Fr M s0 (schedClaim e s) := by
  unfold schedClaim
  repeat' (first
    | with_reducible assumption
    | with_reducible apply keeps_claimPage
    | with_reducible apply keeps_openWin
    | ((with_reducible refine sub_of hm ?_); exact rfl)
    | with_reducible exact Nat.le_refl _
    | with_reducible rfl
    | with_reducible exact ⟨rfl, rfl, rfl⟩
    | with_reducible intro _
    | split
    | dsimp only)

theorem keeps_execSchedClaimEntry (hm : Sub 8486304 M) (n : Nat) (s : State) (hk : Fr M s0 s) :
    KeepsX M s0 (execSchedClaimEntry n s) := by
  unfold execSchedClaimEntry
  repeat' (first
    | with_reducible assumption
    | with_reducible apply keeps_issueEntry
    | with_reducible apply keeps_schedClaim
    | with_reducible apply keepsX_next
    | with_reducible exact keepsX_fault
    | with_reducible exact keepsX_refused
    | ((with_reducible refine sub_of hm ?_); exact rfl)
    | with_reducible exact Nat.le_refl _
    | with_reducible rfl
    | with_reducible exact ⟨rfl, rfl, rfl⟩
    | with_reducible intro _
    | split
    | dsimp only)

theorem keeps_schedIssue (hm : Sub 2048 M) (n : Nat) (e : SEntry) (s : State) (hk : Fr M s0 s) :
    Fr M s0 (schedIssue n e s) := by
  unfold schedIssue
  repeat' (first
    | with_reducible assumption
    | with_reducible apply keeps_pushEntry
    | with_reducible apply keeps_noteEntry
    | ((with_reducible refine sub_of hm ?_); exact rfl)
    | with_reducible exact Nat.le_refl _
    | with_reducible rfl
    | with_reducible exact ⟨rfl, rfl, rfl⟩
    | with_reducible intro _
    | split
    | dsimp only)

theorem keeps_execSchedIssueEntry (hm : Sub 67584 M) (n : Nat) (s : State) (hk : Fr M s0 s) :
    KeepsX M s0 (execSchedIssueEntry n s) := by
  unfold execSchedIssueEntry
  repeat' (first
    | with_reducible assumption
    | with_reducible apply keeps_issueEntry
    | with_reducible apply keeps_schedIssue
    | with_reducible apply keepsX_next
    | with_reducible exact keepsX_fault
    | with_reducible exact keepsX_refused
    | ((with_reducible refine sub_of hm ?_); exact rfl)
    | with_reducible exact Nat.le_refl _
    | with_reducible rfl
    | with_reducible exact ⟨rfl, rfl, rfl⟩
    | with_reducible intro _
    | split
    | dsimp only)

theorem keeps_execSchedDueEntry (hm : Sub 8457952 M) (n : Nat) (s : State) (hk : Fr M s0 s) :
    KeepsX M s0 (execSchedDueEntry n s) := by
  unfold execSchedDueEntry
  repeat' (first
    | with_reducible assumption
    | with_reducible apply keeps_haltImage
    | with_reducible apply keeps_issueEntry
    | with_reducible apply keepsX_next
    | with_reducible exact keepsX_fault
    | with_reducible exact keepsX_refused
    | ((with_reducible refine sub_of hm ?_); exact rfl)
    | with_reducible exact Nat.le_refl _
    | with_reducible rfl
    | with_reducible exact ⟨rfl, rfl, rfl⟩
    | with_reducible intro _
    | split
    | dsimp only)

theorem keeps_execSchedRefreshEntry (hm : Sub 65536 M) (n : Nat) (s : State) (hk : Fr M s0 s) :
    KeepsX M s0 (execSchedRefreshEntry n s) := by
  unfold execSchedRefreshEntry
  repeat' (first
    | with_reducible assumption
    | with_reducible apply keeps_issueEntry
    | with_reducible apply keeps_openWin
    | with_reducible apply keepsX_next
    | with_reducible exact keepsX_fault
    | with_reducible exact keepsX_refused
    | ((with_reducible refine sub_of hm ?_); exact rfl)
    | with_reducible exact Nat.le_refl _
    | with_reducible rfl
    | with_reducible exact ⟨rfl, rfl, rfl⟩
    | with_reducible intro _
    | split
    | dsimp only)

theorem keeps_execSchedPowerEntry (hm : Sub 65600 M) (n : Nat) (s : State) (hk : Fr M s0 s) :
    KeepsX M s0 (execSchedPowerEntry n s) := by
  unfold execSchedPowerEntry
  repeat' (first
    | with_reducible assumption
    | with_reducible apply keeps_onSched
    | with_reducible apply keeps_setBallast
    | with_reducible apply keeps_issueEntry
    | with_reducible apply keepsX_next
    | with_reducible exact keepsX_fault
    | with_reducible exact keepsX_refused
    | ((with_reducible refine sub_of hm ?_); exact rfl)
    | with_reducible exact Nat.le_refl _
    | with_reducible rfl
    | with_reducible exact ⟨rfl, rfl, rfl⟩
    | with_reducible intro _
    | split
    | dsimp only)

theorem keeps_setStack (hm : Sub 8192 M) (k v : Nat) (s : State) (hk : Fr M s0 s) :
    Fr M s0 (setStack k v s) := by
  unfold setStack
  repeat' (first
    | with_reducible assumption
    | with_reducible apply keeps_onMem
    | ((with_reducible refine sub_of hm ?_); exact rfl)
    | with_reducible exact Nat.le_refl _
    | with_reducible rfl
    | with_reducible exact ⟨rfl, rfl, rfl⟩
    | with_reducible intro _
    | split
    | dsimp only)

theorem keeps_execSchedLiftEntry (hm : Sub 75776 M) (n : Nat) (s : State) (hk : Fr M s0 s) :
    KeepsX M s0 (execSchedLiftEntry n s) := by
  unfold execSchedLiftEntry
  repeat' (first
    | with_reducible assumption
    | with_reducible apply keeps_liftTile
    | with_reducible apply keeps_issueEntry
    | with_reducible apply keeps_setStack
    | with_reducible apply keepsX_next
    | with_reducible exact keepsX_fault
    | with_reducible exact keepsX_refused
    | ((with_reducible refine sub_of hm ?_); exact rfl)
    | with_reducible exact Nat.le_refl _
    | with_reducible rfl
    | with_reducible exact ⟨rfl, rfl, rfl⟩
    | with_reducible intro _
    | split
    | dsimp only)

theorem keeps_schedGate (hm : Sub 10240 M) (e : SEntry) (s : State) (hk : Fr M s0 s) :
    Fr M s0 (schedGate e s) := by
  unfold schedGate
  repeat' (first
    | with_reducible assumption
    | with_reducible apply keeps_onTileU
    | with_reducible apply keeps_stopActive
    | with_reducible apply keeps_setStack
    | ((with_reducible refine sub_of hm ?_); exact rfl)
    | with_reducible exact Nat.le_refl _
    | with_reducible rfl
    | with_reducible exact ⟨rfl, rfl, rfl⟩
    | with_reducible intro _
    | split
    | dsimp only)

theorem keeps_execSchedGateEntry (hm : Sub 75776 M) (n : Nat) (s : State) (hk : Fr M s0 s) :
    KeepsX M s0 (execSchedGateEntry n s) := by
  unfold execSchedGateEntry
  repeat' (first
    | with_reducible assumption
    | with_reducible apply keeps_issueEntry
    | with_reducible apply keeps_schedGate
    | with_reducible apply keepsX_next
    | with_reducible exact keepsX_fault
    | with_reducible exact keepsX_refused
    | ((with_reducible refine sub_of hm ?_); exact rfl)
    | with_reducible exact Nat.le_refl _
    | with_reducible rfl
    | with_reducible exact ⟨rfl, rfl, rfl⟩
    | with_reducible intro _
    | split
    | dsimp only)

theorem keeps_execSchedUpdEntry (hm : Sub 65536 M) (n : Nat) (s : State) (hk : Fr M s0 s) :
    KeepsX M s0 (execSchedUpdEntry n s) := by
  unfold execSchedUpdEntry
  repeat' (first
    | with_reducible assumption
    | with_reducible apply keeps_issueEntry
    | with_reducible apply keeps_openWin
    | with_reducible apply keepsX_next
    | with_reducible exact keepsX_fault
    | with_reducible exact keepsX_refused
    | ((with_reducible refine sub_of hm ?_); exact rfl)
    | with_reducible exact Nat.le_refl _
    | with_reducible rfl
    | with_reducible exact ⟨rfl, rfl, rfl⟩
    | with_reducible intro _
    | split
    | dsimp only)

theorem keeps_execSchedFlagEntry (hm : Sub 65536 M) (n : Nat) (s : State) (hk : Fr M s0 s) :
    KeepsX M s0 (execSchedFlagEntry n s) := by
  unfold execSchedFlagEntry
  repeat' (first
    | with_reducible assumption
    | with_reducible apply keeps_issueEntry
    | with_reducible apply keepsX_next
    | with_reducible exact keepsX_fault
    | with_reducible exact keepsX_refused
    | ((with_reducible refine sub_of hm ?_); exact rfl)
    | with_reducible exact Nat.le_refl _
    | with_reducible rfl
    | with_reducible exact ⟨rfl, rfl, rfl⟩
    | with_reducible intro _
    | split
    | dsimp only)

theorem keeps_execSchedPeriodEnd (hm : Sub 8454240 M) (s : State) (hk : Fr M s0 s) :
    KeepsX M s0 (execSchedPeriodEnd s) := by
  unfold execSchedPeriodEnd
  repeat' (first
    | with_reducible assumption
    | with_reducible apply keeps_onSched
    | with_reducible apply keeps_record
    | with_reducible apply keeps_setBallast
    | with_reducible apply keepsX_next
    | with_reducible exact keepsX_fault
    | with_reducible exact keepsX_refused
    | ((with_reducible refine sub_of hm ?_); exact rfl)
    | with_reducible exact Nat.le_refl _
    | with_reducible rfl
    | with_reducible exact ⟨rfl, rfl, rfl⟩
    | with_reducible intro _
    | split
    | dsimp only)

/-! ### Snaps -/

theorem keeps_setPlan (hm : Sub 16123694 M) (p : Plan) (s : State) (hk : Fr M s0 s) :
    Fr M s0 (setPlan p s) := by
  unfold setPlan
  repeat' (first
    | with_reducible assumption
    | with_reducible apply keeps_modSet
    | with_reducible apply keeps_forEach
    | with_reducible apply keeps_markRegion
    | with_reducible apply keeps_onSide
    | with_reducible apply keeps_reopenSide
    | ((with_reducible refine sub_of hm ?_); exact rfl)
    | with_reducible exact Nat.le_refl _
    | with_reducible rfl
    | with_reducible exact ⟨rfl, rfl, rfl⟩
    | with_reducible intro _
    | split
    | dsimp only)

theorem keeps_execSnapPlan (hm : Sub 16123694 M) (q : Req) (s : State) (hk : Fr M s0 s) :
    KeepsX M s0 (execSnapPlan q s) := by
  unfold execSnapPlan
  repeat' (first
    | with_reducible assumption
    | with_reducible apply keeps_plain
    | with_reducible apply keeps_act
    | with_reducible apply keeps_setPlan
    | with_reducible apply keepsX_next
    | with_reducible exact keepsX_fault
    | with_reducible exact keepsX_refused
    | ((with_reducible refine sub_of hm ?_); exact rfl)
    | with_reducible exact Nat.le_refl _
    | with_reducible rfl
    | with_reducible exact ⟨rfl, rfl, rfl⟩
    | with_reducible intro _
    | split
    | dsimp only)

theorem keeps_execSnapPlanquery (hm : Sub 9438734 M) (q : Req) (s : State) (hk : Fr M s0 s) :
    KeepsX M s0 (execSnapPlanquery q s) := by
  unfold execSnapPlanquery
  repeat' (first
    | with_reducible assumption
    | with_reducible apply keeps_plain
    | with_reducible apply keeps_ans
    | with_reducible apply keepsX_next
    | with_reducible exact keepsX_fault
    | with_reducible exact keepsX_refused
    | ((with_reducible refine sub_of hm ?_); exact rfl)
    | with_reducible exact Nat.le_refl _
    | with_reducible rfl
    | with_reducible exact ⟨rfl, rfl, rfl⟩
    | with_reducible intro _
    | split
    | dsimp only)

theorem keeps_execSnapSeal (hm : Sub 9569806 M) (q : Req) (s : State) (hk : Fr M s0 s) :
    KeepsX M s0 (execSnapSeal q s) := by
  unfold execSnapSeal
  repeat' (first
    | with_reducible assumption
    | with_reducible apply keeps_plain
    | with_reducible apply keeps_act
    | with_reducible apply keeps_askSeal
    | with_reducible apply keepsX_next
    | with_reducible exact keepsX_fault
    | with_reducible exact keepsX_refused
    | ((with_reducible refine sub_of hm ?_); exact rfl)
    | with_reducible exact Nat.le_refl _
    | with_reducible rfl
    | with_reducible exact ⟨rfl, rfl, rfl⟩
    | with_reducible intro _
    | split
    | dsimp only)

theorem keeps_startDrain (hm : Sub 15073408 M) (sd tier target snapId : Nat) (header : List Byte) (ticket : Option Nat) (emergency : Bool) (s : State) (hk : Fr M s0 s) :
    Fr M s0 (startDrain sd tier target snapId header ticket emergency s) := by
  unfold startDrain
  repeat' (first
    | with_reducible assumption
    | with_reducible apply keeps_modSet
    | with_reducible apply keeps_onSnap
    | with_reducible apply keeps_onFlash
    | with_reducible apply keeps_nvmeSend
    | ((with_reducible refine sub_of hm ?_); exact rfl)
    | with_reducible exact Nat.le_refl _
    | with_reducible rfl
    | with_reducible exact ⟨rfl, rfl, rfl⟩
    | with_reducible intro _
    | split
    | dsimp only)

theorem keeps_onDrain (hm : Sub 131072 M) (d : Drain) (f : Drain → Drain) (s : State) (hk : Fr M s0 s) :
    Fr M s0 (onDrain d f s) := by
  unfold onDrain
  repeat' (first
    | with_reducible assumption
    | with_reducible apply keeps_onSnap
    | ((with_reducible refine sub_of hm ?_); exact rfl)
    | with_reducible exact Nat.le_refl _
    | with_reducible rfl
    | with_reducible exact ⟨rfl, rfl, rfl⟩
    | with_reducible intro _
    | split
    | dsimp only)

theorem keeps_releaseOld (hm : Sub 6553600 M) (s : State) (hk : Fr M s0 s) :
    Fr M s0 (releaseOld s) := by
  unfold releaseOld
  repeat' (first
    | with_reducible assumption
    | with_reducible apply keeps_modSet
    | with_reducible apply keeps_onFlash
    | with_reducible apply keeps_forEach
    | with_reducible apply keeps_freeObj
    | ((with_reducible refine sub_of hm ?_); exact rfl)
    | with_reducible exact Nat.le_refl _
    | with_reducible rfl
    | with_reducible exact ⟨rfl, rfl, rfl⟩
    | with_reducible intro _
    | split
    | dsimp only)

theorem keeps_resumeDrains (hm : Sub 131072 M) (s : State) (hk : Fr M s0 s) :
    Fr M s0 (resumeDrains s) := by
  unfold resumeDrains
  repeat' (first
    | with_reducible assumption
    | with_reducible apply keeps_onSnap
    | ((with_reducible refine sub_of hm ?_); exact rfl)
    | with_reducible exact Nat.le_refl _
    | with_reducible rfl
    | with_reducible exact ⟨rfl, rfl, rfl⟩
    | with_reducible intro _
    | split
    | dsimp only)

theorem keeps_endEmergency (hm : Sub 131072 M) (s : State) (hk : Fr M s0 s) :
    Fr M s0 (endEmergency s) := by
  unfold endEmergency
  repeat' (first
    | with_reducible assumption
    | with_reducible apply keeps_onSnap
    | with_reducible apply keeps_resumeDrains
    | ((with_reducible refine sub_of hm ?_); exact rfl)
    | with_reducible exact Nat.le_refl _
    | with_reducible rfl
    | with_reducible exact ⟨rfl, rfl, rfl⟩
    | with_reducible intro _
    | split
    | dsimp only)

theorem keeps_ackDone (hm : Sub 16123438 M) (d : Drain) (s : State) (hk : Fr M s0 s) :
    Fr M s0 (ackDone d s) := by
  unfold ackDone
  repeat' (first
    | with_reducible assumption
    | with_reducible apply keeps_modSet
    | with_reducible apply keeps_onSnap
    | with_reducible apply keeps_whenS
    | with_reducible apply keeps_record
    | with_reducible apply keeps_ticketDone
    | with_reducible apply keeps_onSide
    | with_reducible apply keeps_releaseOld
    | with_reducible apply keeps_endEmergency
    | with_reducible apply keeps_foldl | with_reducible apply keeps_foldlSnd | with_reducible apply keeps_foldlThd
    | ((with_reducible refine sub_of hm ?_); exact rfl)
    | with_reducible exact Nat.le_refl _
    | with_reducible rfl
    | with_reducible exact ⟨rfl, rfl, rfl⟩
    | with_reducible intro _
    | split
    | dsimp only)

theorem keeps_ackCopy (hm : Sub 16123438 M) (d : Drain) (s : State) (hk : Fr M s0 s) :
    Fr M s0 (ackCopy d s) := by
  unfold ackCopy
  repeat' (first
    | with_reducible assumption
    | with_reducible apply keeps_onGemel
    | with_reducible apply keeps_journalOwn
    | with_reducible apply keeps_onDrain
    | with_reducible apply keeps_ackDone
    | ((with_reducible refine sub_of hm ?_); exact rfl)
    | with_reducible exact Nat.le_refl _
    | with_reducible rfl
    | with_reducible exact ⟨rfl, rfl, rfl⟩
    | with_reducible intro _
    | split
    | dsimp only)

theorem keeps_startDue (hm : Sub 15073408 M) (sd snapId : Nat) (header : List Byte) (s : State) (hk : Fr M s0 s) :
    Fr M s0 (startDue sd snapId header s) := by
  unfold startDue
  repeat' (first
    | with_reducible assumption
    | with_reducible apply keeps_forEach
    | with_reducible apply keeps_startDrain
    | ((with_reducible refine sub_of hm ?_); exact rfl)
    | with_reducible exact Nat.le_refl _
    | with_reducible rfl
    | with_reducible exact ⟨rfl, rfl, rfl⟩
    | with_reducible intro _
    | split
    | dsimp only)

theorem keeps_takeSeal (hm : Sub 16122024 M) (side k : Nat) (host auto : Bool) (s : State) (hk : Fr M s0 s) :
    Fr M s0 (takeSeal side k host auto s) := by
  unfold takeSeal
  repeat' (first
    | with_reducible assumption
    | with_reducible apply keeps_modSet
    | with_reducible apply keeps_onSnap
    | with_reducible apply keeps_record
    | with_reducible apply keeps_journalOwn
    | with_reducible apply keeps_onSide
    | with_reducible apply keeps_startDue
    | ((with_reducible refine sub_of hm ?_); exact rfl)
    | with_reducible exact Nat.le_refl _
    | with_reducible rfl
    | with_reducible exact ⟨rfl, rfl, rfl⟩
    | with_reducible intro _
    | split
    | dsimp only)

theorem keeps_execSealTakeEffect (hm : Sub 16122024 M) (side : Nat) (s : State) (hk : Fr M s0 s) :
    KeepsX M s0 (execSealTakeEffect side s) := by
  unfold execSealTakeEffect
  repeat' (first
    | with_reducible assumption
    | with_reducible apply keeps_onSide
    | with_reducible apply keeps_takeSeal
    | with_reducible apply keepsX_next
    | with_reducible exact keepsX_fault
    | with_reducible exact keepsX_refused
    | ((with_reducible refine sub_of hm ?_); exact rfl)
    | with_reducible exact Nat.le_refl _
    | with_reducible rfl
    | with_reducible exact ⟨rfl, rfl, rfl⟩
    | with_reducible intro _
    | split
    | dsimp only)

theorem keeps_execSnapReelcfg (hm : Sub 15730190 M) (q : Req) (s : State) (hk : Fr M s0 s) :
    KeepsX M s0 (execSnapReelcfg q s) := by
  unfold execSnapReelcfg
  repeat' (first
    | with_reducible assumption
    | with_reducible apply keeps_modSet
    | with_reducible apply keeps_plain
    | with_reducible apply keeps_act
    | with_reducible apply keepsX_next
    | with_reducible exact keepsX_fault
    | with_reducible exact keepsX_refused
    | ((with_reducible refine sub_of hm ?_); exact rfl)
    | with_reducible exact Nat.le_refl _
    | with_reducible rfl
    | with_reducible exact ⟨rfl, rfl, rfl⟩
    | with_reducible intro _
    | split
    | dsimp only)

theorem keeps_setReel (hm : Sub 16123438 M) (on_ : Bool) (s : State) (hk : Fr M s0 s) :
    Fr M s0 (setReel on_ s) := by
  unfold setReel
  repeat' (first
    | with_reducible assumption
    | with_reducible apply keeps_onSnap
    | with_reducible apply keeps_forEach
    | with_reducible apply keeps_abandonDrain
    | ((with_reducible refine sub_of hm ?_); exact rfl)
    | with_reducible exact Nat.le_refl _
    | with_reducible rfl
    | with_reducible exact ⟨rfl, rfl, rfl⟩
    | with_reducible intro _
    | split
    | dsimp only)

theorem keeps_execSnapReelenable (hm : Sub 16123438 M) (q : Req) (s : State) (hk : Fr M s0 s) :
    KeepsX M s0 (execSnapReelenable q s) := by
  unfold execSnapReelenable
  repeat' (first
    | with_reducible assumption
    | with_reducible apply keeps_plain
    | with_reducible apply keeps_act
    | with_reducible apply keeps_setReel
    | with_reducible apply keepsX_next
    | with_reducible exact keepsX_fault
    | with_reducible exact keepsX_refused
    | ((with_reducible refine sub_of hm ?_); exact rfl)
    | with_reducible exact Nat.le_refl _
    | with_reducible rfl
    | with_reducible exact ⟨rfl, rfl, rfl⟩
    | with_reducible intro _
    | split
    | dsimp only)

theorem keeps_execSnapDrain (hm : Sub 9438734 M) (q : Req) (s : State) (hk : Fr M s0 s) :
    KeepsX M s0 (execSnapDrain q s) := by
  unfold execSnapDrain
  repeat' (first
    | with_reducible assumption
    | with_reducible apply keeps_longOp
    | with_reducible apply keepsX_next
    | with_reducible exact keepsX_fault
    | with_reducible exact keepsX_refused
    | ((with_reducible refine sub_of hm ?_); exact rfl)
    | with_reducible exact Nat.le_refl _
    | with_reducible rfl
    | with_reducible exact ⟨rfl, rfl, rfl⟩
    | with_reducible intro _
    | split
    | dsimp only)

theorem keeps_startSnapDrain (hm : Sub 16123534 M) (t : Ticket) (s : State) (hk : Fr M s0 s) :
    Fr M s0 (startSnapDrain t s) := by
  unfold startSnapDrain
  repeat' (first
    | with_reducible assumption
    | with_reducible apply keeps_ticketFail
    | with_reducible apply keeps_startDrain
    | ((with_reducible refine sub_of hm ?_); exact rfl)
    | with_reducible exact Nat.le_refl _
    | with_reducible rfl
    | with_reducible exact ⟨rfl, rfl, rfl⟩
    | with_reducible intro _
    | split
    | dsimp only)

theorem keeps_setTarget (hm : Sub 14811264 M) (i : Nat) (t : Option Target) (s : State) (hk : Fr M s0 s) :
    Fr M s0 (setTarget i t s) := by
  unfold setTarget
  repeat' (first
    | with_reducible assumption
    | with_reducible apply keeps_modSet
    | with_reducible apply keeps_onNetR
    | with_reducible apply keeps_onSnap
    | with_reducible apply keeps_nvmeSend
    | ((with_reducible refine sub_of hm ?_); exact rfl)
    | with_reducible exact Nat.le_refl _
    | with_reducible rfl
    | with_reducible exact ⟨rfl, rfl, rfl⟩
    | with_reducible intro _
    | split
    | dsimp only)

theorem keeps_execSnapTarget (hm : Sub 15861390 M) (q : Req) (s : State) (hk : Fr M s0 s) :
    KeepsX M s0 (execSnapTarget q s) := by
  unfold execSnapTarget
  repeat' (first
    | with_reducible assumption
    | with_reducible apply keeps_runCommand
    | with_reducible apply keeps_act
    | with_reducible apply keeps_setTarget
    | with_reducible apply keepsX_next
    | with_reducible exact keepsX_fault
    | with_reducible exact keepsX_refused
    | ((with_reducible refine sub_of hm ?_); exact rfl)
    | with_reducible exact Nat.le_refl _
    | with_reducible rfl
    | with_reducible exact ⟨rfl, rfl, rfl⟩
    | with_reducible intro _
    | split
    | dsimp only)

theorem keeps_moverBad (hm : Sub 16199342 M) (d : Drain) (a : Nat) (s : State) (hk : Fr M s0 s) :
    Fr M s0 (moverBad d a s) := by
  unfold moverBad
  repeat' (first
    | with_reducible assumption
    | with_reducible apply keeps_forEach
    | with_reducible apply keeps_badBlock
    | with_reducible apply keeps_abandonSeal
    | with_reducible apply keeps_failSeq
    | ((with_reducible refine sub_of hm ?_); exact rfl)
    | with_reducible exact Nat.le_refl _
    | with_reducible rfl
    | with_reducible exact ⟨rfl, rfl, rfl⟩
    | with_reducible intro _
    | split
    | dsimp only)

theorem keeps_flashPut (hm : Sub 262144 M) (id : Nat) (o : FlashObj) (bs : List Byte) (s : State) (hk : Fr M s0 s) :
    Fr M s0 (flashPut id o bs s) := by
  unfold flashPut
  repeat' (first
    | with_reducible assumption
    | with_reducible apply keeps_onFlash
    | ((with_reducible refine sub_of hm ?_); exact rfl)
    | with_reducible exact Nat.le_refl _
    | with_reducible rfl
    | with_reducible exact ⟨rfl, rfl, rfl⟩
    | with_reducible intro _
    | split
    | dsimp only)

theorem keeps_flashFull (hm : Sub 16123438 M) (d : Drain) (s : State) (hk : Fr M s0 s) :
    Fr M s0 (flashFull d s) := by
  unfold flashFull
  repeat' (first
    | with_reducible assumption
    | with_reducible apply keeps_record
    | with_reducible apply keeps_abandonDrain
    | ((with_reducible refine sub_of hm ?_); exact rfl)
    | with_reducible exact Nat.le_refl _
    | with_reducible rfl
    | with_reducible exact ⟨rfl, rfl, rfl⟩
    | with_reducible intro _
    | split
    | dsimp only)

theorem keeps_putPiece (hm : Sub 8652448 M) (d : Drain) (die : Nat) (bs : List Byte) (s : State) (hk : Fr M s0 s) :
    KeepsO M s0 (putPiece d die bs s) := by
  unfold putPiece
  repeat' (first
    | with_reducible assumption
    | with_reducible apply keeps_onFlash
    | with_reducible apply keeps_sendSnap
    | with_reducible apply keeps_nvmeSend
    | with_reducible apply keeps_flashPut
    | with_reducible apply keepsO_some
    | with_reducible exact keepsO_none
    | with_reducible apply keepsO_map
    | with_reducible apply keepsO_orElse
        | with_reducible apply keepsO_mapOf
    | with_reducible apply keepsO_bind
    | with_reducible apply keeps_getD
    | ((with_reducible refine sub_of hm ?_); exact rfl)
    | with_reducible exact Nat.le_refl _
    | with_reducible rfl
    | with_reducible exact ⟨rfl, rfl, rfl⟩
    | with_reducible intro _
    | split
    | dsimp only)

theorem keeps_afterData (hm : Sub 8521376 M) (d : Drain) (s : State) (hk : Fr M s0 s) :
    Fr M s0 (afterData d s) := by
  unfold afterData
  repeat' (first
    | with_reducible assumption
    | with_reducible apply keeps_forEach
    | with_reducible apply keeps_sendSnap
    | with_reducible apply keeps_nvmeSend
    | with_reducible apply keeps_onDrain
    | with_reducible apply keeps_getD
    | ((with_reducible refine sub_of hm ?_); exact rfl)
    | with_reducible exact Nat.le_refl _
    | with_reducible rfl
    | with_reducible exact ⟨rfl, rfl, rfl⟩
    | with_reducible intro _
    | split
    | dsimp only)

theorem keeps_moverStep (hm : Sub 16199342 M) (d : Drain) (die : Nat) (bad : Bool) (s : State) (hk : Fr M s0 s) :
    Fr M s0 (moverStep d die bad s) := by
  unfold moverStep
  repeat' (first
    | with_reducible assumption
    | with_reducible apply keeps_wakeStack
    | with_reducible apply keeps_onDrain
    | with_reducible apply keeps_moverBad
    | with_reducible apply keeps_flashFull
    | with_reducible apply keeps_putPiece
    | with_reducible apply keeps_afterData
    | with_reducible refine keepsO_get ‹_› ?_
    | with_reducible apply keeps_getD
    | ((with_reducible refine sub_of hm ?_); exact rfl)
    | with_reducible exact Nat.le_refl _
    | with_reducible rfl
    | with_reducible exact ⟨rfl, rfl, rfl⟩
    | with_reducible intro _
    | split
    | dsimp only)

theorem keeps_execMoverPiece (hm : Sub 16199342 M) (tier die : Nat) (bad : Bool) (s : State) (hk : Fr M s0 s) :
    KeepsX M s0 (execMoverPiece tier die bad s) := by
  unfold execMoverPiece
  repeat' (first
    | with_reducible assumption
    | with_reducible apply keeps_moverStep
    | with_reducible apply keepsX_next
    | with_reducible exact keepsX_fault
    | with_reducible exact keepsX_refused
    | with_reducible apply keeps_getD
    | ((with_reducible refine sub_of hm ?_); exact rfl)
    | with_reducible exact Nat.le_refl _
    | with_reducible rfl
    | with_reducible exact ⟨rfl, rfl, rfl⟩
    | with_reducible intro _
    | split
    | dsimp only)

theorem keeps_snapDrop (hm : Sub 131072 M) (s : State) (hk : Fr M s0 s) :
    Fr M s0 (snapDrop s) := by
  unfold snapDrop
  repeat' (first
    | with_reducible assumption
    | with_reducible apply keeps_onSnap
    | ((with_reducible refine sub_of hm ?_); exact rfl)
    | with_reducible exact Nat.le_refl _
    | with_reducible rfl
    | with_reducible exact ⟨rfl, rfl, rfl⟩
    | with_reducible intro _
    | split
    | dsimp only)

theorem keeps_takeSnap (hm : Sub 8589024 M) (die kind : Nat) (bad : Bool) (f : QEnt → State → State) (s : State) (hf_f : ∀ x0 x1, Fr M s0 x1 → Fr M s0 (f x0 x1)) (hk : Fr M s0 s) :
    Fr M s0 (takeSnap die kind bad f s) := by
  unfold takeSnap
  repeat' (first
    | with_reducible assumption
    | with_reducible apply keeps_dropEnt
    | with_reducible apply keeps_consume
    | with_reducible apply keeps_snapDrop
    | with_reducible apply hf_f
    | ((with_reducible refine sub_of hm ?_); exact rfl)
    | with_reducible exact Nat.le_refl _
    | with_reducible rfl
    | with_reducible exact ⟨rfl, rfl, rfl⟩
    | with_reducible intro _
    | split
    | dsimp only)

theorem keeps_slotWritten (hm : Sub 131072 M) (slot snapId : Nat) (s : State) (hk : Fr M s0 s) :
    Fr M s0 (slotWritten slot snapId s) := by
  unfold slotWritten
  repeat' (first
    | with_reducible assumption
    | with_reducible apply keeps_onSnap
    | ((with_reducible refine sub_of hm ?_); exact rfl)
    | with_reducible exact Nat.le_refl _
    | with_reducible rfl
    | with_reducible exact ⟨rfl, rfl, rfl⟩
    | with_reducible intro _
    | split
    | dsimp only)

theorem keeps_execSnapDataRx (hm : Sub 8613856 M) (die : Nat) (bad : Bool) (s : State) (hk : Fr M s0 s) :
    KeepsX M s0 (execSnapDataRx die bad s) := by
  unfold execSnapDataRx
  repeat' (first
    | with_reducible assumption
    | with_reducible apply keeps_hbmWrite
    | with_reducible apply keeps_snapDrop
    | with_reducible apply keeps_takeSnap
    | with_reducible apply keeps_slotWritten
    | with_reducible apply keepsX_next
    | with_reducible exact keepsX_fault
    | with_reducible exact keepsX_refused
    | ((with_reducible refine sub_of hm ?_); exact rfl)
    | with_reducible exact Nat.le_refl _
    | with_reducible rfl
    | with_reducible exact ⟨rfl, rfl, rfl⟩
    | with_reducible intro _
    | split
    | dsimp only)

theorem keeps_execSnapHeaderRx (hm : Sub 8589024 M) (die : Nat) (bad : Bool) (s : State) (hk : Fr M s0 s) :
    KeepsX M s0 (execSnapHeaderRx die bad s) := by
  unfold execSnapHeaderRx
  repeat' (first
    | with_reducible assumption
    | with_reducible apply keeps_onSnap
    | with_reducible apply keeps_sendSnap
    | with_reducible apply keeps_snapDrop
    | with_reducible apply keeps_takeSnap
    | with_reducible apply keeps_slotWritten
    | with_reducible apply keepsX_next
    | with_reducible exact keepsX_fault
    | with_reducible exact keepsX_refused
    | ((with_reducible refine sub_of hm ?_); exact rfl)
    | with_reducible exact Nat.le_refl _
    | with_reducible rfl
    | with_reducible exact ⟨rfl, rfl, rfl⟩
    | with_reducible intro _
    | split
    | dsimp only)

theorem keeps_execSnapAckRx (hm : Sub 16191214 M) (die : Nat) (bad : Bool) (s : State) (hk : Fr M s0 s) :
    KeepsX M s0 (execSnapAckRx die bad s) := by
  unfold execSnapAckRx
  repeat' (first
    | with_reducible assumption
    | with_reducible apply keeps_ackCopy
    | with_reducible apply keeps_snapDrop
    | with_reducible apply keeps_takeSnap
    | with_reducible apply keepsX_next
    | with_reducible exact keepsX_fault
    | with_reducible exact keepsX_refused
    | ((with_reducible refine sub_of hm ?_); exact rfl)
    | with_reducible exact Nat.le_refl _
    | with_reducible rfl
    | with_reducible exact ⟨rfl, rfl, rfl⟩
    | with_reducible intro _
    | split
    | dsimp only)

theorem keeps_execPageReqRx (hm : Sub 8597216 M) (die : Nat) (bad memBad : Bool) (s : State) (hk : Fr M s0 s) :
    KeepsX M s0 (execPageReqRx die bad memBad s) := by
  unfold execPageReqRx
  repeat' (first
    | with_reducible assumption
    | with_reducible apply keeps_whenS
    | with_reducible apply keeps_badBlock
    | with_reducible apply keeps_sendSnap
    | with_reducible apply keeps_answer
    | with_reducible apply keeps_takeSnap
    | with_reducible apply keepsX_next
    | with_reducible exact keepsX_fault
    | with_reducible exact keepsX_refused
    | ((with_reducible refine sub_of hm ?_); exact rfl)
    | with_reducible exact Nat.le_refl _
    | with_reducible rfl
    | with_reducible exact ⟨rfl, rfl, rfl⟩
    | with_reducible intro _
    | split
    | dsimp only)

theorem keeps_pageGone (hm : Sub 8588960 M) (p : PageRestore) (s : State) (hk : Fr M s0 s) :
    Fr M s0 (pageGone p s) := by
  unfold pageGone
  repeat' (first
    | with_reducible assumption
    | with_reducible apply keeps_onSnap
    | with_reducible apply keeps_forEach
    | with_reducible apply keeps_pageLost
    | with_reducible apply keeps_interrupt
    | ((with_reducible refine sub_of hm ?_); exact rfl)
    | with_reducible exact Nat.le_refl _
    | with_reducible rfl
    | with_reducible exact ⟨rfl, rfl, rfl⟩
    | with_reducible intro _
    | split
    | dsimp only)

theorem keeps_nextPage (hm : Sub 8588960 M) (p : PageRestore) (s : State) (hk : Fr M s0 s) :
    Fr M s0 (nextPage p s) := by
  unfold nextPage
  repeat' (first
    | with_reducible assumption
    | with_reducible apply keeps_askPage
    | with_reducible apply keeps_pageGone
    | ((with_reducible refine sub_of hm ?_); exact rfl)
    | with_reducible exact Nat.le_refl _
    | with_reducible rfl
    | with_reducible exact ⟨rfl, rfl, rfl⟩
    | with_reducible intro _
    | split
    | dsimp only)

theorem keeps_pageBack (hm : Sub 16220142 M) (p : PageRestore) (bs : List Byte) (s : State) (hk : Fr M s0 s) :
    Fr M s0 (pageBack p bs s) := by
  unfold pageBack
  repeat' (first
    | with_reducible assumption
    | with_reducible apply keeps_onSnap
    | with_reducible apply keeps_forEach
    | with_reducible apply keeps_record
    | with_reducible apply keeps_hbmWrite
    | with_reducible apply keeps_chunkLost
    | with_reducible apply keeps_serveHeld
    | with_reducible apply keeps_pageGone
    | ((with_reducible refine sub_of hm ?_); exact rfl)
    | with_reducible exact Nat.le_refl _
    | with_reducible rfl
    | with_reducible exact ⟨rfl, rfl, rfl⟩
    | with_reducible intro _
    | split
    | dsimp only)

theorem keeps_execPageDataRx (hm : Sub 16220142 M) (die : Nat) (bad : Bool) (s : State) (hk : Fr M s0 s) :
    KeepsX M s0 (execPageDataRx die bad s) := by
  unfold execPageDataRx
  repeat' (first
    | with_reducible assumption
    | with_reducible apply keeps_snapDrop
    | with_reducible apply keeps_takeSnap
    | with_reducible apply keeps_pageBack
    | with_reducible apply keepsX_next
    | with_reducible exact keepsX_fault
    | with_reducible exact keepsX_refused
    | ((with_reducible refine sub_of hm ?_); exact rfl)
    | with_reducible exact Nat.le_refl _
    | with_reducible rfl
    | with_reducible exact ⟨rfl, rfl, rfl⟩
    | with_reducible intro _
    | split
    | dsimp only)

theorem keeps_execNoCopyRx (hm : Sub 8589024 M) (die : Nat) (bad : Bool) (s : State) (hk : Fr M s0 s) :
    KeepsX M s0 (execNoCopyRx die bad s) := by
  unfold execNoCopyRx
  repeat' (first
    | with_reducible assumption
    | with_reducible apply keeps_snapDrop
    | with_reducible apply keeps_takeSnap
    | with_reducible apply keeps_nextPage
    | with_reducible apply keepsX_next
    | with_reducible exact keepsX_fault
    | with_reducible exact keepsX_refused
    | ((with_reducible refine sub_of hm ?_); exact rfl)
    | with_reducible exact Nat.le_refl _
    | with_reducible rfl
    | with_reducible exact ⟨rfl, rfl, rfl⟩
    | with_reducible intro _
    | split
    | dsimp only)

theorem keeps_targetDown (hm : Sub 16191150 M) (t : Nat) (s : State) (hk : Fr M s0 s) :
    Fr M s0 (targetDown t s) := by
  unfold targetDown
  repeat' (first
    | with_reducible assumption
    | with_reducible apply keeps_onNetR
    | with_reducible apply keeps_onSnap
    | with_reducible apply keeps_forEach
    | with_reducible apply keeps_record
    | with_reducible apply keeps_abandonDrain
    | with_reducible apply keeps_nextPage
    | ((with_reducible refine sub_of hm ?_); exact rfl)
    | with_reducible exact Nat.le_refl _
    | with_reducible rfl
    | with_reducible exact ⟨rfl, rfl, rfl⟩
    | with_reducible intro _
    | split
    | dsimp only)

theorem keeps_execTargetFlushDone (hm : Sub 16191150 M) (tgt : Nat) (ok : Bool) (s : State) (hk : Fr M s0 s) :
    KeepsX M s0 (execTargetFlushDone tgt ok s) := by
  unfold execTargetFlushDone
  repeat' (first
    | with_reducible assumption
    | with_reducible apply keeps_nvmeSend
    | with_reducible apply keeps_onDrain
    | with_reducible apply keeps_ackCopy
    | with_reducible apply keeps_targetDown
    | with_reducible apply keepsX_next
    | with_reducible exact keepsX_fault
    | with_reducible exact keepsX_refused
    | ((with_reducible refine sub_of hm ?_); exact rfl)
    | with_reducible exact Nat.le_refl _
    | with_reducible rfl
    | with_reducible exact ⟨rfl, rfl, rfl⟩
    | with_reducible intro _
    | split
    | dsimp only)

theorem keeps_execTargetReconnect (hm : Sub 8519808 M) (tgt : Nat) (ok : Bool) (s : State) (hk : Fr M s0 s) :
    KeepsX M s0 (execTargetReconnect tgt ok s) := by
  unfold execTargetReconnect
  repeat' (first
    | with_reducible assumption
    | with_reducible apply keeps_onSnap
    | with_reducible apply keeps_whenS
    | with_reducible apply keeps_nvmeSend
    | with_reducible apply keepsX_next
    | with_reducible exact keepsX_fault
    | with_reducible exact keepsX_refused
    | ((with_reducible refine sub_of hm ?_); exact rfl)
    | with_reducible exact Nat.le_refl _
    | with_reducible rfl
    | with_reducible exact ⟨rfl, rfl, rfl⟩
    | with_reducible intro _
    | split
    | dsimp only)

theorem keeps_execNvmeKeepAlive (hm : Sub 16191150 M) (tgt : Nat) (s : State) (hk : Fr M s0 s) :
    KeepsX M s0 (execNvmeKeepAlive tgt s) := by
  unfold execNvmeKeepAlive
  repeat' (first
    | with_reducible assumption
    | with_reducible apply keeps_onSnap
    | with_reducible apply keeps_nvmeSend
    | with_reducible apply keeps_targetDown
    | with_reducible apply keepsX_next
    | with_reducible exact keepsX_fault
    | with_reducible exact keepsX_refused
    | ((with_reducible refine sub_of hm ?_); exact rfl)
    | with_reducible exact Nat.le_refl _
    | with_reducible rfl
    | with_reducible exact ⟨rfl, rfl, rfl⟩
    | with_reducible intro _
    | split
    | dsimp only)

theorem keeps_execSnapRestore (hm : Sub 9438734 M) (q : Req) (s : State) (hk : Fr M s0 s) :
    KeepsX M s0 (execSnapRestore q s) := by
  unfold execSnapRestore
  repeat' (first
    | with_reducible assumption
    | with_reducible apply keeps_longOp
    | with_reducible apply keepsX_next
    | with_reducible exact keepsX_fault
    | with_reducible exact keepsX_refused
    | ((with_reducible refine sub_of hm ?_); exact rfl)
    | with_reducible exact Nat.le_refl _
    | with_reducible rfl
    | with_reducible exact ⟨rfl, rfl, rfl⟩
    | with_reducible intro _
    | split
    | dsimp only)

theorem keeps_startRestore (hm : Sub 16123438 M) (t : Ticket) (s : State) (hk : Fr M s0 s) :
    Fr M s0 (startRestore t s) := by
  unfold startRestore
  repeat' (first
    | with_reducible assumption
    | with_reducible apply keeps_onSnap
    | with_reducible apply keeps_ticketFail
    | with_reducible apply keeps_reopenSide
    | ((with_reducible refine sub_of hm ?_); exact rfl)
    | with_reducible exact Nat.le_refl _
    | with_reducible rfl
    | with_reducible exact ⟨rfl, rfl, rfl⟩
    | with_reducible intro _
    | split
    | dsimp only)

theorem keeps_restoreDie (hm : Sub 24832 M) (r : Restore) (d : Nat) (s : State) (hk : Fr M s0 s) :
    Fr M s0 (restoreDie r d s) := by
  unfold restoreDie
  repeat' (first
    | with_reducible assumption
    | with_reducible apply keeps_forEach
    | with_reducible apply keeps_fillGranule
    | with_reducible apply keeps_markRegion
    | with_reducible apply keeps_hbmWrite
    | ((with_reducible refine sub_of hm ?_); exact rfl)
    | with_reducible exact Nat.le_refl _
    | with_reducible rfl
    | with_reducible exact ⟨rfl, rfl, rfl⟩
    | with_reducible intro _
    | split
    | dsimp only)

theorem keeps_restoreSteps (hm : Sub 15861800 M) (h : List Byte) (s : State) (hk : Fr M s0 s) :
    Fr M s0 (restoreSteps h s) := by
  unfold restoreSteps
  repeat' (first
    | with_reducible assumption
    | with_reducible apply keeps_modSet
    | with_reducible apply keeps_forEach
    | with_reducible apply keeps_journalOwn
    | with_reducible apply keeps_doneStep
    | ((with_reducible refine sub_of hm ?_); exact rfl)
    | with_reducible exact Nat.le_refl _
    | with_reducible rfl
    | with_reducible exact ⟨rfl, rfl, rfl⟩
    | with_reducible intro _
    | split
    | dsimp only)

theorem keeps_endRestore (hm : Sub 16150446 M) (r : Restore) (s : State) (hk : Fr M s0 s) :
    Fr M s0 (endRestore r s) := by
  unfold endRestore
  repeat' (first
    | with_reducible assumption
    | with_reducible apply keeps_onSnap
    | with_reducible apply keeps_forEach
    | with_reducible apply keeps_record
    | with_reducible apply keeps_ticketDone
    | with_reducible apply keeps_onSide
    | with_reducible apply keeps_serveHeld
    | with_reducible apply keeps_restoreDie
    | with_reducible apply keeps_restoreSteps
    | ((with_reducible refine sub_of hm ?_); exact rfl)
    | with_reducible exact Nat.le_refl _
    | with_reducible rfl
    | with_reducible exact ⟨rfl, rfl, rfl⟩
    | with_reducible intro _
    | split
    | dsimp only)

theorem keeps_execRestoreComplete (hm : Sub 16150446 M) (side : Nat) (s : State) (hk : Fr M s0 s) :
    KeepsX M s0 (execRestoreComplete side s) := by
  unfold execRestoreComplete
  repeat' (first
    | with_reducible assumption
    | with_reducible apply keeps_endRestore
    | with_reducible apply keepsX_next
    | with_reducible exact keepsX_fault
    | with_reducible exact keepsX_refused
    | ((with_reducible refine sub_of hm ?_); exact rfl)
    | with_reducible exact Nat.le_refl _
    | with_reducible rfl
    | with_reducible exact ⟨rfl, rfl, rfl⟩
    | with_reducible intro _
    | split
    | dsimp only)

theorem keeps_startEmergency (hm : Sub 15073440 M) (s : State) (hk : Fr M s0 s) :
    Fr M s0 (startEmergency s) := by
  unfold startEmergency
  repeat' (first
    | with_reducible assumption
    | with_reducible apply keeps_onSnap
    | with_reducible apply keeps_record
    | with_reducible apply keeps_startDrain
    | with_reducible apply keeps_onDrain
    | with_reducible apply keeps_resumeDrains
    | ((with_reducible refine sub_of hm ?_); exact rfl)
    | with_reducible exact Nat.le_refl _
    | with_reducible rfl
    | with_reducible exact ⟨rfl, rfl, rfl⟩
    | with_reducible intro _
    | split
    | dsimp only)

theorem keeps_execSnapList (hm : Sub 9438734 M) (q : Req) (s : State) (hk : Fr M s0 s) :
    KeepsX M s0 (execSnapList q s) := by
  unfold execSnapList
  repeat' (first
    | with_reducible assumption
    | with_reducible apply keeps_plain
    | with_reducible apply keeps_ans
    | with_reducible apply keepsX_next
    | with_reducible exact keepsX_fault
    | with_reducible exact keepsX_refused
    | ((with_reducible refine sub_of hm ?_); exact rfl)
    | with_reducible exact Nat.le_refl _
    | with_reducible rfl
    | with_reducible exact ⟨rfl, rfl, rfl⟩
    | with_reducible intro _
    | split
    | dsimp only)

theorem keeps_execSnapQuery (hm : Sub 9438734 M) (q : Req) (s : State) (hk : Fr M s0 s) :
    KeepsX M s0 (execSnapQuery q s) := by
  unfold execSnapQuery
  repeat' (first
    | with_reducible assumption
    | with_reducible apply keeps_plain
    | with_reducible apply keeps_ans
    | with_reducible apply keepsX_next
    | with_reducible exact keepsX_fault
    | with_reducible exact keepsX_refused
    | ((with_reducible refine sub_of hm ?_); exact rfl)
    | with_reducible exact Nat.le_refl _
    | with_reducible rfl
    | with_reducible exact ⟨rfl, rfl, rfl⟩
    | with_reducible intro _
    | split
    | dsimp only)

/-! ### Flash -/

theorem keeps_damageObj (hm : Sub 16123438 M) (id : Nat) (s : State) (hk : Fr M s0 s) :
    Fr M s0 (damageObj id s) := by
  unfold damageObj
  repeat' (first
    | with_reducible assumption
    | with_reducible apply keeps_modSet
    | with_reducible apply keeps_abandonDrain
    | ((with_reducible refine sub_of hm ?_); exact rfl)
    | with_reducible exact Nat.le_refl _
    | with_reducible rfl
    | with_reducible exact ⟨rfl, rfl, rfl⟩
    | with_reducible intro _
    | split
    | dsimp only)

theorem keeps_writeBbt (hm : Sub 262144 M) (s : State) (hk : Fr M s0 s) :
    Fr M s0 (writeBbt s) := by
  unfold writeBbt
  repeat' (first
    | with_reducible assumption
    | with_reducible apply keeps_onFlash
    | ((with_reducible refine sub_of hm ?_); exact rfl)
    | with_reducible exact Nat.le_refl _
    | with_reducible rfl
    | with_reducible exact ⟨rfl, rfl, rfl⟩
    | with_reducible intro _
    | split
    | dsimp only)

theorem keeps_retireSuper (hm : Sub 16123438 M) (sb : Nat) (s : State) (hk : Fr M s0 s) :
    Fr M s0 (retireSuper sb s) := by
  unfold retireSuper
  repeat' (first
    | with_reducible assumption
    | with_reducible apply keeps_onFlash
    | with_reducible apply keeps_damageObj
    | ((with_reducible refine sub_of hm ?_); exact rfl)
    | with_reducible exact Nat.le_refl _
    | with_reducible rfl
    | with_reducible exact ⟨rfl, rfl, rfl⟩
    | with_reducible intro _
    | split
    | dsimp only)

theorem keeps_toSpare (hm : Sub 16123438 M) (f blk : Nat) (s : State) (hk : Fr M s0 s) :
    Fr M s0 (toSpare f blk s) := by
  unfold toSpare
  repeat' (first
    | with_reducible assumption
    | with_reducible apply keeps_onFlash
    | with_reducible apply keeps_retireSuper
    | ((with_reducible refine sub_of hm ?_); exact rfl)
    | with_reducible exact Nat.le_refl _
    | with_reducible rfl
    | with_reducible exact ⟨rfl, rfl, rfl⟩
    | with_reducible intro _
    | split
    | dsimp only)

theorem keeps_retireBlock (hm : Sub 16123438 M) (f blk cause : Nat) (s : State) (hk : Fr M s0 s) :
    Fr M s0 (retireBlock f blk cause s) := by
  unfold retireBlock
  repeat' (first
    | with_reducible assumption
    | with_reducible apply keeps_onFlash
    | with_reducible apply keeps_record
    | with_reducible apply keeps_writeBbt
    | with_reducible apply keeps_toSpare
    | ((with_reducible refine sub_of hm ?_); exact rfl)
    | with_reducible exact Nat.le_refl _
    | with_reducible rfl
    | with_reducible exact ⟨rfl, rfl, rfl⟩
    | with_reducible intro _
    | split
    | dsimp only)

theorem keeps_flashUncorr (hm : Sub 16123438 M) (f blk page id : Nat) (s : State) (hk : Fr M s0 s) :
    Fr M s0 (flashUncorr f blk page id s) := by
  unfold flashUncorr
  repeat' (first
    | with_reducible assumption
    | with_reducible apply keeps_onFlash
    | with_reducible apply keeps_record
    | with_reducible apply keeps_damageObj
    | with_reducible apply keeps_retireBlock
    | ((with_reducible refine sub_of hm ?_); exact rfl)
    | with_reducible exact Nat.le_refl _
    | with_reducible rfl
    | with_reducible exact ⟨rfl, rfl, rfl⟩
    | with_reducible intro _
    | split
    | dsimp only)

theorem keeps_afterPage (hm : Sub 393216 M) (id : Nat) (s : State) (hk : Fr M s0 s) :
    Fr M s0 (afterPage id s) := by
  unfold afterPage
  repeat' (first
    | with_reducible assumption
    | with_reducible apply keeps_onFlash
    | with_reducible apply keeps_onDrain
    | ((with_reducible refine sub_of hm ?_); exact rfl)
    | with_reducible exact Nat.le_refl _
    | with_reducible rfl
    | with_reducible exact ⟨rfl, rfl, rfl⟩
    | with_reducible intro _
    | split
    | dsimp only)

theorem keeps_pageStored (hm : Sub 786432 M) (p : PageProg) (s : State) (hk : Fr M s0 s) :
    Fr M s0 (pageStored p s) := by
  unfold pageStored
  repeat' (first
    | with_reducible assumption
    | with_reducible apply keeps_onFlashW
    | with_reducible exact memWrite_wf _ _ _ ‹_›
    | ((with_reducible refine sub_of hm ?_); exact rfl)
    | with_reducible exact Nat.le_refl _
    | with_reducible rfl
    | with_reducible exact ⟨rfl, rfl, rfl⟩
    | with_reducible intro _
    | split
    | dsimp only)

theorem keeps_execPageProgramDone (hm : Sub 16647726 M) (sb page : Nat) (ok : Bool) (s : State) (hk : Fr M s0 s) :
    KeepsX M s0 (execPageProgramDone sb page ok s) := by
  unfold execPageProgramDone
  repeat' (first
    | with_reducible assumption
    | with_reducible apply keeps_onFlash
    | with_reducible apply keeps_ackCopy
    | with_reducible apply keeps_retireBlock
    | with_reducible apply keeps_afterPage
    | with_reducible apply keeps_pageStored
    | with_reducible apply keepsX_next
    | with_reducible exact keepsX_fault
    | with_reducible exact keepsX_refused
    | ((with_reducible refine sub_of hm ?_); exact rfl)
    | with_reducible exact Nat.le_refl _
    | with_reducible rfl
    | with_reducible exact ⟨rfl, rfl, rfl⟩
    | with_reducible intro _
    | split
    | dsimp only)

theorem keeps_sayLife (hm : Sub 8650784 M) (s : State) (hk : Fr M s0 s) :
    Fr M s0 (sayLife s) := by
  unfold sayLife
  repeat' (first
    | with_reducible assumption
    | with_reducible apply keeps_onFlash
    | with_reducible apply keeps_forEach
    | with_reducible apply keeps_record
    | ((with_reducible refine sub_of hm ?_); exact rfl)
    | with_reducible exact Nat.le_refl _
    | with_reducible rfl
    | with_reducible exact ⟨rfl, rfl, rfl⟩
    | with_reducible intro _
    | split
    | dsimp only)

theorem keeps_formatEnd (hm : Sub 9438734 M) (s : State) (hk : Fr M s0 s) :
    Fr M s0 (formatEnd s) := by
  unfold formatEnd
  repeat' (first
    | with_reducible assumption
    | with_reducible apply keeps_ticketDone
    | ((with_reducible refine sub_of hm ?_); exact rfl)
    | with_reducible exact Nat.le_refl _
    | with_reducible rfl
    | with_reducible exact ⟨rfl, rfl, rfl⟩
    | with_reducible intro _
    | split
    | dsimp only)

theorem keeps_execEraseComplete (hm : Sub 16647726 M) (sb : Nat) (ok : Bool) (fdie : Nat) (s : State) (hk : Fr M s0 s) :
    KeepsX M s0 (execEraseComplete sb ok fdie s) := by
  unfold execEraseComplete
  repeat' (first
    | with_reducible assumption
    | with_reducible apply keeps_onFlashW
    | with_reducible apply keeps_retireBlock
    | with_reducible apply keeps_sayLife
    | with_reducible apply keeps_formatEnd
    | with_reducible apply keepsX_next
    | with_reducible exact keepsX_fault
    | with_reducible exact keepsX_refused
    | with_reducible exact memZero_wf _ _ _ ‹_›
    | ((with_reducible refine sub_of hm ?_); exact rfl)
    | with_reducible exact Nat.le_refl _
    | with_reducible rfl
    | with_reducible exact ⟨rfl, rfl, rfl⟩
    | with_reducible intro _
    | split
    | dsimp only)

theorem keeps_execReleaseAfterRead (hm : Sub 262144 M) (obj : Nat) (s : State) (hk : Fr M s0 s) :
    KeepsX M s0 (execReleaseAfterRead obj s) := by
  unfold execReleaseAfterRead
  repeat' (first
    | with_reducible assumption
    | with_reducible apply keeps_freeObj
    | with_reducible apply keepsX_next
    | with_reducible exact keepsX_fault
    | with_reducible exact keepsX_refused
    | ((with_reducible refine sub_of hm ?_); exact rfl)
    | with_reducible exact Nat.le_refl _
    | with_reducible rfl
    | with_reducible exact ⟨rfl, rfl, rfl⟩
    | with_reducible intro _
    | split
    | dsimp only)

theorem keeps_beginScan (hm : Sub 262144 M) (tk : Option Nat) (s : State) (hk : Fr M s0 s) :
    Fr M s0 (beginScan tk s) := by
  unfold beginScan
  repeat' (first
    | with_reducible assumption
    | with_reducible apply keeps_onFlash
    | ((with_reducible refine sub_of hm ?_); exact rfl)
    | with_reducible exact Nat.le_refl _
    | with_reducible rfl
    | with_reducible exact ⟨rfl, rfl, rfl⟩
    | with_reducible intro _
    | split
    | dsimp only)

theorem keeps_execScanDue (hm : Sub 262144 M) (s : State) (hk : Fr M s0 s) :
    KeepsX M s0 (execScanDue s) := by
  unfold execScanDue
  repeat' (first
    | with_reducible assumption
    | with_reducible apply keeps_beginScan
    | with_reducible apply keepsX_next
    | with_reducible exact keepsX_fault
    | with_reducible exact keepsX_refused
    | ((with_reducible refine sub_of hm ?_); exact rfl)
    | with_reducible exact Nat.le_refl _
    | with_reducible rfl
    | with_reducible exact ⟨rfl, rfl, rfl⟩
    | with_reducible intro _
    | split
    | dsimp only)

theorem keeps_execFlashScan (hm : Sub 9438734 M) (q : Req) (s : State) (hk : Fr M s0 s) :
    KeepsX M s0 (execFlashScan q s) := by
  unfold execFlashScan
  repeat' (first
    | with_reducible assumption
    | with_reducible apply keeps_longOp
    | with_reducible apply keepsX_next
    | with_reducible exact keepsX_fault
    | with_reducible exact keepsX_refused
    | ((with_reducible refine sub_of hm ?_); exact rfl)
    | with_reducible exact Nat.le_refl _
    | with_reducible rfl
    | with_reducible exact ⟨rfl, rfl, rfl⟩
    | with_reducible intro _
    | split
    | dsimp only)

theorem keeps_startScan (hm : Sub 9700878 M) (t : Ticket) (s : State) (hk : Fr M s0 s) :
    Fr M s0 (startScan t s) := by
  unfold startScan
  repeat' (first
    | with_reducible assumption
    | with_reducible apply keeps_ticketFail
    | with_reducible apply keeps_beginScan
    | ((with_reducible refine sub_of hm ?_); exact rfl)
    | with_reducible exact Nat.le_refl _
    | with_reducible rfl
    | with_reducible exact ⟨rfl, rfl, rfl⟩
    | with_reducible intro _
    | split
    | dsimp only)

theorem keeps_refreshBlock (hm : Sub 16123438 M) (f blk share : Nat) (s : State) (hk : Fr M s0 s) :
    Fr M s0 (refreshBlock f blk share s) := by
  unfold refreshBlock
  repeat' (first
    | with_reducible assumption
    | with_reducible apply keeps_onFlash
    | with_reducible apply keeps_record
    | with_reducible apply keeps_toSpare
    | with_reducible apply keeps_retireBlock
    | ((with_reducible refine sub_of hm ?_); exact rfl)
    | with_reducible exact Nat.le_refl _
    | with_reducible rfl
    | with_reducible exact ⟨rfl, rfl, rfl⟩
    | with_reducible intro _
    | split
    | dsimp only)

theorem keeps_execScanBlockRead (hm : Sub 16123438 M) (fdie blk page errs : Nat) (endScan : Bool) (s : State) (hk : Fr M s0 s) :
    KeepsX M s0 (execScanBlockRead fdie blk page errs endScan s) := by
  unfold execScanBlockRead
  repeat' (first
    | with_reducible assumption
    | with_reducible apply keeps_onFlash
    | with_reducible apply keeps_ticketDone
    | with_reducible apply keeps_flashUncorr
    | with_reducible apply keeps_refreshBlock
    | with_reducible apply keepsX_next
    | with_reducible exact keepsX_fault
    | with_reducible exact keepsX_refused
    | ((with_reducible refine sub_of hm ?_); exact rfl)
    | with_reducible exact Nat.le_refl _
    | with_reducible rfl
    | with_reducible exact ⟨rfl, rfl, rfl⟩
    | with_reducible intro _
    | split
    | dsimp only)

theorem keeps_failFlashDie (hm : Sub 16123438 M) (f : Nat) (s : State) (hk : Fr M s0 s) :
    Fr M s0 (failFlashDie f s) := by
  unfold failFlashDie
  repeat' (first
    | with_reducible assumption
    | with_reducible apply keeps_onFlash
    | with_reducible apply keeps_forEach
    | with_reducible apply keeps_record
    | with_reducible apply keeps_damageObj
    | ((with_reducible refine sub_of hm ?_); exact rfl)
    | with_reducible exact Nat.le_refl _
    | with_reducible rfl
    | with_reducible exact ⟨rfl, rfl, rfl⟩
    | with_reducible intro _
    | split
    | dsimp only)

theorem keeps_execFlashDieUnresponsive (hm : Sub 16123438 M) (fdie : Nat) (s : State) (hk : Fr M s0 s) :
    KeepsX M s0 (execFlashDieUnresponsive fdie s) := by
  unfold execFlashDieUnresponsive
  repeat' (first
    | with_reducible assumption
    | with_reducible apply keeps_report
    | with_reducible apply keeps_failFlashDie
    | with_reducible apply keepsX_next
    | with_reducible exact keepsX_fault
    | with_reducible exact keepsX_refused
    | ((with_reducible refine sub_of hm ?_); exact rfl)
    | with_reducible exact Nat.le_refl _
    | with_reducible rfl
    | with_reducible exact ⟨rfl, rfl, rfl⟩
    | with_reducible intro _
    | split
    | dsimp only)

theorem keeps_execFlashReadDone (hm : Sub 16220142 M) (addr tier : Nat) (bytes : Option (List Byte)) (s : State) (hk : Fr M s0 s) :
    KeepsX M s0 (execFlashReadDone addr tier bytes s) := by
  unfold execFlashReadDone
  repeat' (first
    | with_reducible assumption
    | with_reducible apply keeps_nextPage
    | with_reducible apply keeps_pageBack
    | with_reducible apply keeps_flashUncorr
    | with_reducible apply keepsX_next
    | with_reducible exact keepsX_fault
    | with_reducible exact keepsX_refused
    | with_reducible apply keeps_getD
    | ((with_reducible refine sub_of hm ?_); exact rfl)
    | with_reducible exact Nat.le_refl _
    | with_reducible rfl
    | with_reducible exact ⟨rfl, rfl, rfl⟩
    | with_reducible intro _
    | split
    | dsimp only)

theorem keeps_execFlashHealth (hm : Sub 9438734 M) (q : Req) (s : State) (hk : Fr M s0 s) :
    KeepsX M s0 (execFlashHealth q s) := by
  unfold execFlashHealth
  repeat' (first
    | with_reducible assumption
    | with_reducible apply keeps_plain
    | with_reducible apply keeps_ans
    | with_reducible apply keepsX_next
    | with_reducible exact keepsX_fault
    | with_reducible exact keepsX_refused
    | ((with_reducible refine sub_of hm ?_); exact rfl)
    | with_reducible exact Nat.le_refl _
    | with_reducible rfl
    | with_reducible exact ⟨rfl, rfl, rfl⟩
    | with_reducible intro _
    | split
    | dsimp only)

theorem keeps_execFlashScancfg (hm : Sub 15730190 M) (q : Req) (s : State) (hk : Fr M s0 s) :
    KeepsX M s0 (execFlashScancfg q s) := by
  unfold execFlashScancfg
  repeat' (first
    | with_reducible assumption
    | with_reducible apply keeps_modSet
    | with_reducible apply keeps_plain
    | with_reducible apply keeps_act
    | with_reducible apply keepsX_next
    | with_reducible exact keepsX_fault
    | with_reducible exact keepsX_refused
    | ((with_reducible refine sub_of hm ?_); exact rfl)
    | with_reducible exact Nat.le_refl _
    | with_reducible rfl
    | with_reducible exact ⟨rfl, rfl, rfl⟩
    | with_reducible intro _
    | split
    | dsimp only)

theorem keeps_execFlashBbtread (hm : Sub 9438734 M) (q : Req) (s : State) (hk : Fr M s0 s) :
    KeepsX M s0 (execFlashBbtread q s) := by
  unfold execFlashBbtread
  repeat' (first
    | with_reducible assumption
    | with_reducible apply keeps_runCommand
    | with_reducible apply keeps_ans
    | with_reducible apply keepsX_next
    | with_reducible exact keepsX_fault
    | with_reducible exact keepsX_refused
    | ((with_reducible refine sub_of hm ?_); exact rfl)
    | with_reducible exact Nat.le_refl _
    | with_reducible rfl
    | with_reducible exact ⟨rfl, rfl, rfl⟩
    | with_reducible intro _
    | split
    | dsimp only)

theorem keeps_execFlashFormat (hm : Sub 9438734 M) (q : Req) (s : State) (hk : Fr M s0 s) :
    KeepsX M s0 (execFlashFormat q s) := by
  unfold execFlashFormat
  repeat' (first
    | with_reducible assumption
    | with_reducible apply keeps_longOp
    | with_reducible apply keepsX_next
    | with_reducible exact keepsX_fault
    | with_reducible exact keepsX_refused
    | ((with_reducible refine sub_of hm ?_); exact rfl)
    | with_reducible exact Nat.le_refl _
    | with_reducible rfl
    | with_reducible exact ⟨rfl, rfl, rfl⟩
    | with_reducible intro _
    | split
    | dsimp only)

theorem keeps_startFormat (hm : Sub 16123438 M) (t : Ticket) (s : State) (hk : Fr M s0 s) :
    Fr M s0 (startFormat t s) := by
  unfold startFormat
  repeat' (first
    | with_reducible assumption
    | with_reducible apply keeps_modSet
    | with_reducible apply keeps_onFlash
    | with_reducible apply keeps_forEach
    | with_reducible apply keeps_ticketFail
    | with_reducible apply keeps_abandonDrain
    | ((with_reducible refine sub_of hm ?_); exact rfl)
    | with_reducible exact Nat.le_refl _
    | with_reducible rfl
    | with_reducible exact ⟨rfl, rfl, rfl⟩
    | with_reducible intro _
    | split
    | dsimp only)

/-! ### Storage -/

theorem keeps_ethDrop (hm : Sub 128 M) (port : Nat) (s : State) (hk : Fr M s0 s) :
    Fr M s0 (ethDrop port s) := by
  unfold ethDrop
  repeat' (first
    | with_reducible assumption
    | with_reducible apply keeps_onNetR
    | ((with_reducible refine sub_of hm ?_); exact rfl)
    | with_reducible exact Nat.le_refl _
    | with_reducible rfl
    | with_reducible exact ⟨rfl, rfl, rfl⟩
    | with_reducible intro _
    | split
    | dsimp only)

theorem keeps_setEth (hm : Sub 128 M) (port n : Nat) (xoff : Bool) (s : State) (hk : Fr M s0 s) :
    Fr M s0 (setEth port n xoff s) := by
  unfold setEth
  repeat' (first
    | with_reducible assumption
    | with_reducible apply keeps_onNetR
    | ((with_reducible refine sub_of hm ?_); exact rfl)
    | with_reducible exact Nat.le_refl _
    | with_reducible rfl
    | with_reducible exact ⟨rfl, rfl, rfl⟩
    | with_reducible intro _
    | split
    | dsimp only)

theorem keeps_chargeEth (hm : Sub 8388736 M) (port n : Nat) (s : State) (hk : Fr M s0 s) :
    Fr M s0 (chargeEth port n s) := by
  unfold chargeEth
  repeat' (first
    | with_reducible assumption
    | with_reducible apply keeps_emit
    | with_reducible apply keeps_setEth
    | ((with_reducible refine sub_of hm ?_); exact rfl)
    | with_reducible exact Nat.le_refl _
    | with_reducible rfl
    | with_reducible exact ⟨rfl, rfl, rfl⟩
    | with_reducible intro _
    | split
    | dsimp only)

theorem keeps_goBackN (hm : Sub 8388608 M) (q : Nat) (s : State) (hk : Fr M s0 s) :
    Fr M s0 (goBackN q s) := by
  unfold goBackN
  repeat' (first
    | with_reducible assumption
    | with_reducible apply keeps_forEach
    | with_reducible apply keeps_sendEth
    | ((with_reducible refine sub_of hm ?_); exact rfl)
    | with_reducible exact Nat.le_refl _
    | with_reducible rfl
    | with_reducible exact ⟨rfl, rfl, rfl⟩
    | with_reducible intro _
    | split
    | dsimp only)

theorem keeps_qpAcked (hm : Sub 128 M) (q psn : Nat) (s : State) (hk : Fr M s0 s) :
    Fr M s0 (qpAcked q psn s) := by
  unfold qpAcked
  repeat' (first
    | with_reducible assumption
    | with_reducible apply keeps_onQp
    | ((with_reducible refine sub_of hm ?_); exact rfl)
    | with_reducible exact Nat.le_refl _
    | with_reducible rfl
    | with_reducible exact ⟨rfl, rfl, rfl⟩
    | with_reducible intro _
    | split
    | dsimp only)

theorem keeps_targetAnswer (hm : Sub 16220142 M) (t cid : Nat) (ok : Bool) (s : State) (hk : Fr M s0 s) :
    Fr M s0 (targetAnswer t cid ok s) := by
  unfold targetAnswer
  repeat' (first
    | with_reducible assumption
    | with_reducible apply keeps_onSnap
    | with_reducible apply keeps_pageBack
    | with_reducible apply keeps_targetDown
    | ((with_reducible refine sub_of hm ?_); exact rfl)
    | with_reducible exact Nat.le_refl _
    | with_reducible rfl
    | with_reducible exact ⟨rfl, rfl, rfl⟩
    | with_reducible intro _
    | split
    | dsimp only)

theorem keeps_handleEth (hm : Sub 16220142 M) (port : Nat) (pkt : EthPkt) (s : State) (hk : Fr M s0 s) :
    Fr M s0 (handleEth port pkt s) := by
  unfold handleEth
  repeat' (first
    | with_reducible assumption
    | with_reducible apply keeps_emit
    | with_reducible apply keeps_whenS
    | with_reducible apply keeps_onQp
    | with_reducible apply keeps_ethDrop
    | with_reducible apply keeps_qpAcked
    | with_reducible apply keeps_targetAnswer
    | ((with_reducible refine sub_of hm ?_); exact rfl)
    | with_reducible exact Nat.le_refl _
    | with_reducible rfl
    | with_reducible exact ⟨rfl, rfl, rfl⟩
    | with_reducible intro _
    | split
    | dsimp only)

theorem keeps_farPfc (hm : Sub 8388736 M) (port prio : Nat) (xoff : Bool) (s : State) (hk : Fr M s0 s) :
    Fr M s0 (farPfc port prio xoff s) := by
  unfold farPfc
  repeat' (first
    | with_reducible assumption
    | with_reducible apply keeps_onNetR
    | with_reducible apply keeps_forEach
    | with_reducible apply keeps_goBackN
    | ((with_reducible refine sub_of hm ?_); exact rfl)
    | with_reducible exact Nat.le_refl _
    | with_reducible rfl
    | with_reducible exact ⟨rfl, rfl, rfl⟩
    | with_reducible intro _
    | split
    | dsimp only)

theorem keeps_execEthPacketRx (hm : Sub 16220142 M) (port : Nat) (pkt : EthPkt) (s : State) (hk : Fr M s0 s) :
    KeepsX M s0 (execEthPacketRx port pkt s) := by
  unfold execEthPacketRx
  repeat' (first
    | with_reducible assumption
    | with_reducible apply keeps_ethDrop
    | with_reducible apply keeps_chargeEth
    | with_reducible apply keeps_handleEth
    | with_reducible apply keeps_farPfc
    | with_reducible apply keepsX_next
    | with_reducible exact keepsX_fault
    | with_reducible exact keepsX_refused
    | ((with_reducible refine sub_of hm ?_); exact rfl)
    | with_reducible exact Nat.le_refl _
    | with_reducible rfl
    | with_reducible exact ⟨rfl, rfl, rfl⟩
    | with_reducible intro _
    | split
    | dsimp only)

theorem keeps_execRoceAckTimeout (hm : Sub 16191150 M) (qp : Nat) (s : State) (hk : Fr M s0 s) :
    KeepsX M s0 (execRoceAckTimeout qp s) := by
  unfold execRoceAckTimeout
  repeat' (first
    | with_reducible assumption
    | with_reducible apply keeps_onQp
    | with_reducible apply keeps_targetDown
    | with_reducible apply keeps_goBackN
    | with_reducible apply keepsX_next
    | with_reducible exact keepsX_fault
    | with_reducible exact keepsX_refused
    | ((with_reducible refine sub_of hm ?_); exact rfl)
    | with_reducible exact Nat.le_refl _
    | with_reducible rfl
    | with_reducible exact ⟨rfl, rfl, rfl⟩
    | with_reducible intro _
    | split
    | dsimp only)

theorem keeps_execRoceRateRestore (hm : Sub 128 M) (qp : Nat) (s : State) (hk : Fr M s0 s) :
    KeepsX M s0 (execRoceRateRestore qp s) := by
  unfold execRoceRateRestore
  repeat' (first
    | with_reducible assumption
    | with_reducible apply keeps_onQp
    | with_reducible apply keepsX_next
    | with_reducible exact keepsX_fault
    | with_reducible exact keepsX_refused
    | ((with_reducible refine sub_of hm ?_); exact rfl)
    | with_reducible exact Nat.le_refl _
    | with_reducible rfl
    | with_reducible exact ⟨rfl, rfl, rfl⟩
    | with_reducible intro _
    | split
    | dsimp only)

theorem keeps_drainEth (hm : Sub 8388736 M) (s : State) (hk : Fr M s0 s) :
    Fr M s0 (drainEth s) := by
  unfold drainEth
  repeat' (first
    | with_reducible assumption
    | with_reducible apply keeps_emit
    | with_reducible apply keeps_forEach
    | with_reducible apply keeps_setEth
    | ((with_reducible refine sub_of hm ?_); exact rfl)
    | with_reducible exact Nat.le_refl _
    | with_reducible rfl
    | with_reducible exact ⟨rfl, rfl, rfl⟩
    | with_reducible intro _
    | split
    | dsimp only)

end Sys2Proof.Machine
end

