-- ==== Sys2Proof/Laws/KeepsModule.lean ====
section
/-! SUPPORT. What the twin, rings, faults, power, the host interface and start-up can change, one lemma per definition: nothing outside the parts given, and nothing that may not be
undone. -/

set_option Elab.async false

namespace Sys2Proof.Machine

set_option linter.all false
variable {M : Nat} {s0 : State}

/-! ### Gemel -/

theorem keeps_sendRec (hm : Sub 8388640 M) (kind jseq : Nat) (body : List Byte) (s : State) (hk : Fr M s0 s) :
    Fr M s0 (sendRec kind jseq body s) := by
  unfold sendRec
  repeat' (first
    | with_reducible assumption
    | with_reducible apply keeps_emit
    | with_reducible apply keeps_record
    | ((with_reducible refine sub_of hm ?_); exact rfl)
    | with_reducible exact Nat.le_refl _
    | with_reducible rfl
    | with_reducible exact ⟨rfl, rfl, rfl⟩
    | with_reducible intro _
    | split
    | dsimp only)

theorem keeps_takeRec (hm : Sub 1048576 M) (lp kind : Nat) (r : List Byte) (f : State → State) (s : State) (hf_f : ∀ x0, Fr M s0 x0 → Fr M s0 (f x0)) (hk : Fr M s0 s) :
    Fr M s0 (takeRec lp kind r f s) := by
  unfold takeRec
  repeat' (first
    | with_reducible assumption
    | with_reducible apply keeps_onGemel
    | with_reducible apply hf_f
    | ((with_reducible refine sub_of hm ?_); exact rfl)
    | with_reducible exact Nat.le_refl _
    | with_reducible rfl
    | with_reducible exact ⟨rfl, rfl, rfl⟩
    | with_reducible intro _
    | split
    | dsimp only)

theorem keeps_setPair (hm : Sub 9437192 M) (st : PairState) (s : State) (hk : Fr M s0 s) :
    Fr M s0 (setPair st s) := by
  unfold setPair
  repeat' (first
    | with_reducible assumption
    | with_reducible apply keeps_onGemel
    | with_reducible apply keeps_journalOwn
    | ((with_reducible refine sub_of hm ?_); exact rfl)
    | with_reducible exact Nat.le_refl _
    | with_reducible rfl
    | with_reducible exact ⟨rfl, rfl, rfl⟩
    | with_reducible intro _
    | split
    | dsimp only)

theorem keeps_pairUp (hm : Sub 9438766 M) (s : State) (hk : Fr M s0 s) :
    Fr M s0 (pairUp s) := by
  unfold pairUp
  repeat' (first
    | with_reducible assumption
    | with_reducible apply keeps_record
    | with_reducible apply keeps_ticketDone
    | with_reducible apply keeps_setPair
    | ((with_reducible refine sub_of hm ?_); exact rfl)
    | with_reducible exact Nat.le_refl _
    | with_reducible rfl
    | with_reducible exact ⟨rfl, rfl, rfl⟩
    | with_reducible intro _
    | split
    | dsimp only)

theorem keeps_trySync (hm : Sub 9438766 M) (s : State) (hk : Fr M s0 s) :
    Fr M s0 (trySync s) := by
  unfold trySync
  repeat' (first
    | with_reducible assumption
    | with_reducible apply keeps_onGemel
    | with_reducible apply keeps_whenS
    | with_reducible apply keeps_sendRec
    | with_reducible apply keeps_pairUp
    | ((with_reducible refine sub_of hm ?_); exact rfl)
    | with_reducible exact Nat.le_refl _
    | with_reducible rfl
    | with_reducible exact ⟨rfl, rfl, rfl⟩
    | with_reducible intro _
    | split
    | dsimp only)

theorem keeps_roleReturns (hm : Sub 9437216 M) (s : State) (hk : Fr M s0 s) :
    Fr M s0 (roleReturns s) := by
  unfold roleReturns
  repeat' (first
    | with_reducible assumption
    | with_reducible apply keeps_onGemel
    | with_reducible apply keeps_record
    | ((with_reducible refine sub_of hm ?_); exact rfl)
    | with_reducible exact Nat.le_refl _
    | with_reducible rfl
    | with_reducible exact ⟨rfl, rfl, rfl⟩
    | with_reducible intro _
    | split
    | dsimp only)

theorem keeps_startSync (hm : Sub 9437224 M) (o : Offer) (s : State) (hk : Fr M s0 s) :
    Fr M s0 (startSync o s) := by
  unfold startSync
  repeat' (first
    | with_reducible assumption
    | with_reducible apply keeps_emit
    | with_reducible apply keeps_onGemel
    | with_reducible apply keeps_setPair
    | with_reducible apply keeps_roleReturns
    | ((with_reducible refine sub_of hm ?_); exact rfl)
    | with_reducible exact Nat.le_refl _
    | with_reducible rfl
    | with_reducible exact ⟨rfl, rfl, rfl⟩
    | with_reducible intro _
    | split
    | dsimp only)

theorem keeps_pairRefused (hm : Sub 9438766 M) (code : Nat) (s : State) (hk : Fr M s0 s) :
    Fr M s0 (pairRefused code s) := by
  unfold pairRefused
  repeat' (first
    | with_reducible assumption
    | with_reducible apply keeps_onGemel
    | with_reducible apply keeps_record
    | with_reducible apply keeps_ticketFail
    | ((with_reducible refine sub_of hm ?_); exact rfl)
    | with_reducible exact Nat.le_refl _
    | with_reducible rfl
    | with_reducible exact ⟨rfl, rfl, rfl⟩
    | with_reducible intro _
    | split
    | dsimp only)

theorem keeps_judgeOffer (hm : Sub 9438766 M) (o : Offer) (s : State) (hk : Fr M s0 s) :
    Fr M s0 (judgeOffer o s) := by
  unfold judgeOffer
  repeat' (first
    | with_reducible assumption
    | with_reducible apply keeps_onGemel
    | with_reducible apply keeps_startSync
    | with_reducible apply keeps_pairRefused
    | ((with_reducible refine sub_of hm ?_); exact rfl)
    | with_reducible exact Nat.le_refl _
    | with_reducible rfl
    | with_reducible exact ⟨rfl, rfl, rfl⟩
    | with_reducible intro _
    | split
    | dsimp only)

theorem keeps_takeOffer (hm : Sub 9438766 M) (b : List Byte) (s : State) (hk : Fr M s0 s) :
    Fr M s0 (takeOffer b s) := by
  unfold takeOffer
  repeat' (first
    | with_reducible assumption
    | with_reducible apply keeps_onGemel
    | with_reducible apply keeps_judgeOffer
    | ((with_reducible refine sub_of hm ?_); exact rfl)
    | with_reducible exact Nat.le_refl _
    | with_reducible rfl
    | with_reducible exact ⟨rfl, rfl, rfl⟩
    | with_reducible intro _
    | split
    | dsimp only)

theorem keeps_execOfferDue (hm : Sub 8388640 M) (s : State) (hk : Fr M s0 s) :
    KeepsX M s0 (execOfferDue s) := by
  unfold execOfferDue
  repeat' (first
    | with_reducible assumption
    | with_reducible apply keeps_sendRec
    | with_reducible apply keepsX_next
    | with_reducible exact keepsX_fault
    | with_reducible exact keepsX_refused
    | ((with_reducible refine sub_of hm ?_); exact rfl)
    | with_reducible exact Nat.le_refl _
    | with_reducible rfl
    | with_reducible exact ⟨rfl, rfl, rfl⟩
    | with_reducible intro _
    | split
    | dsimp only)

theorem keeps_execMirrorEntryRx (hm : Sub 9437216 M) (lp : Nat) (rec : List Byte) (s : State) (hk : Fr M s0 s) :
    KeepsX M s0 (execMirrorEntryRx lp rec s) := by
  unfold execMirrorEntryRx
  repeat' (first
    | with_reducible assumption
    | with_reducible apply keeps_onGemel
    | with_reducible apply keeps_sendRec
    | with_reducible apply keeps_takeRec
    | with_reducible apply keepsX_next
    | with_reducible exact keepsX_fault
    | with_reducible exact keepsX_refused
    | ((with_reducible refine sub_of hm ?_); exact rfl)
    | with_reducible exact Nat.le_refl _
    | with_reducible rfl
    | with_reducible exact ⟨rfl, rfl, rfl⟩
    | with_reducible intro _
    | split
    | dsimp only)

theorem keeps_storedUpTo (hm : Sub 16191150 M) (n : Nat) (s : State) (hk : Fr M s0 s) :
    Fr M s0 (storedUpTo n s) := by
  unfold storedUpTo
  repeat' (first
    | with_reducible assumption
    | with_reducible apply keeps_onCmdR
    | with_reducible apply keeps_onGemel
    | with_reducible apply keeps_forEach
    | with_reducible apply keeps_postFinal
    | with_reducible apply keeps_checkDone
    | with_reducible apply keeps_ackDone
    | ((with_reducible refine sub_of hm ?_); exact rfl)
    | with_reducible exact Nat.le_refl _
    | with_reducible rfl
    | with_reducible exact ⟨rfl, rfl, rfl⟩
    | with_reducible intro _
    | split
    | dsimp only)

theorem keeps_ackRecords (hm : Sub 16191150 M) (n : Nat) (s : State) (hk : Fr M s0 s) :
    Fr M s0 (ackRecords n s) := by
  unfold ackRecords
  repeat' (first
    | with_reducible assumption
    | with_reducible apply keeps_onGemel
    | with_reducible apply keeps_ticketDone
    | with_reducible apply keeps_trySync
    | with_reducible apply keeps_storedUpTo
    | ((with_reducible refine sub_of hm ?_); exact rfl)
    | with_reducible exact Nat.le_refl _
    | with_reducible rfl
    | with_reducible exact ⟨rfl, rfl, rfl⟩
    | with_reducible intro _
    | split
    | dsimp only)

theorem keeps_execHeartbeatRx (hm : Sub 1048576 M) (lp : Nat) (rec : List Byte) (s : State) (hk : Fr M s0 s) :
    KeepsX M s0 (execHeartbeatRx lp rec s) := by
  unfold execHeartbeatRx
  repeat' (first
    | with_reducible assumption
    | with_reducible apply keeps_takeRec
    | with_reducible apply keepsX_next
    | with_reducible exact keepsX_fault
    | with_reducible exact keepsX_refused
    | ((with_reducible refine sub_of hm ?_); exact rfl)
    | with_reducible exact Nat.le_refl _
    | with_reducible rfl
    | with_reducible exact ⟨rfl, rfl, rfl⟩
    | with_reducible intro _
    | split
    | dsimp only)

theorem keeps_execHeartbeatDue (hm : Sub 8388640 M) (s : State) (hk : Fr M s0 s) :
    KeepsX M s0 (execHeartbeatDue s) := by
  unfold execHeartbeatDue
  repeat' (first
    | with_reducible assumption
    | with_reducible apply keeps_sendRec
    | with_reducible apply keepsX_next
    | with_reducible exact keepsX_fault
    | with_reducible exact keepsX_refused
    | ((with_reducible refine sub_of hm ?_); exact rfl)
    | with_reducible exact Nat.le_refl _
    | with_reducible rfl
    | with_reducible exact ⟨rfl, rfl, rfl⟩
    | with_reducible intro _
    | split
    | dsimp only)

theorem keeps_execSyncDoneRx (hm : Sub 9438766 M) (lp : Nat) (rec : List Byte) (s : State) (hk : Fr M s0 s) :
    KeepsX M s0 (execSyncDoneRx lp rec s) := by
  unfold execSyncDoneRx
  repeat' (first
    | with_reducible assumption
    | with_reducible apply keeps_onGemel
    | with_reducible apply keeps_takeRec
    | with_reducible apply keeps_pairUp
    | with_reducible apply keepsX_next
    | with_reducible exact keepsX_fault
    | with_reducible exact keepsX_refused
    | ((with_reducible refine sub_of hm ?_); exact rfl)
    | with_reducible exact Nat.le_refl _
    | with_reducible rfl
    | with_reducible exact ⟨rfl, rfl, rfl⟩
    | with_reducible intro _
    | split
    | dsimp only)

theorem keeps_execMirrorResendTimeout (hm : Sub 8388608 M) (s : State) (hk : Fr M s0 s) :
    KeepsX M s0 (execMirrorResendTimeout s) := by
  unfold execMirrorResendTimeout
  repeat' (first
    | with_reducible assumption
    | with_reducible apply keeps_emit
    | with_reducible apply keepsX_next
    | with_reducible exact keepsX_fault
    | with_reducible exact keepsX_refused
    | ((with_reducible refine sub_of hm ?_); exact rfl)
    | with_reducible exact Nat.le_refl _
    | with_reducible rfl
    | with_reducible exact ⟨rfl, rfl, rfl⟩
    | with_reducible intro _
    | split
    | dsimp only)

theorem keeps_goSolo (hm : Sub 16191150 M) (s : State) (hk : Fr M s0 s) :
    Fr M s0 (goSolo s) := by
  unfold goSolo
  repeat' (first
    | with_reducible assumption
    | with_reducible apply keeps_onGemel
    | with_reducible apply keeps_forEach
    | with_reducible apply keeps_record
    | with_reducible apply keeps_ticketFail
    | with_reducible apply keeps_abandonDrain
    | with_reducible apply keeps_nextPage
    | with_reducible apply keeps_setPair
    | with_reducible apply keeps_storedUpTo
    | ((with_reducible refine sub_of hm ?_); exact rfl)
    | with_reducible exact Nat.le_refl _
    | with_reducible rfl
    | with_reducible exact ⟨rfl, rfl, rfl⟩
    | with_reducible intro _
    | split
    | dsimp only)

theorem keeps_execKeelLostRx (hm : Sub 9437216 M) (lp : Nat) (rec : List Byte) (s : State) (hk : Fr M s0 s) :
    KeepsX M s0 (execKeelLostRx lp rec s) := by
  unfold execKeelLostRx
  repeat' (first
    | with_reducible assumption
    | with_reducible apply keeps_onGemel
    | with_reducible apply keeps_record
    | with_reducible apply keeps_takeRec
    | with_reducible apply keepsX_next
    | with_reducible exact keepsX_fault
    | with_reducible exact keepsX_refused
    | with_reducible apply keeps_foldl | with_reducible apply keeps_foldlSnd | with_reducible apply keeps_foldlThd
    | ((with_reducible refine sub_of hm ?_); exact rfl)
    | with_reducible exact Nat.le_refl _
    | with_reducible rfl
    | with_reducible exact ⟨rfl, rfl, rfl⟩
    | with_reducible intro _
    | split
    | dsimp only)

theorem keeps_execHeadlessFaultReportRx (hm : Sub 8388640 M) (die src kind ft : Nat) (s : State) (hk : Fr M s0 s) :
    KeepsX M s0 (execHeadlessFaultReportRx die src kind ft s) := by
  unfold execHeadlessFaultReportRx
  repeat' (first
    | with_reducible assumption
    | with_reducible apply keeps_record
    | with_reducible apply keepsX_next
    | with_reducible exact keepsX_fault
    | with_reducible exact keepsX_refused
    | ((with_reducible refine sub_of hm ?_); exact rfl)
    | with_reducible exact Nat.le_refl _
    | with_reducible rfl
    | with_reducible exact ⟨rfl, rfl, rfl⟩
    | with_reducible intro _
    | split
    | dsimp only)

theorem keeps_execSoloRoleRestore (hm : Sub 1048576 M) (s : State) (hk : Fr M s0 s) :
    KeepsX M s0 (execSoloRoleRestore s) := by
  unfold execSoloRoleRestore
  repeat' (first
    | with_reducible assumption
    | with_reducible apply keeps_onGemel
    | with_reducible apply keepsX_next
    | with_reducible exact keepsX_fault
    | with_reducible exact keepsX_refused
    | ((with_reducible refine sub_of hm ?_); exact rfl)
    | with_reducible exact Nat.le_refl _
    | with_reducible rfl
    | with_reducible exact ⟨rfl, rfl, rfl⟩
    | with_reducible intro _
    | split
    | dsimp only)

theorem keeps_execPairTimeout (hm : Sub 9438734 M) (s : State) (hk : Fr M s0 s) :
    KeepsX M s0 (execPairTimeout s) := by
  unfold execPairTimeout
  repeat' (first
    | with_reducible assumption
    | with_reducible apply keeps_ticketFail
    | with_reducible apply keepsX_next
    | with_reducible exact keepsX_fault
    | with_reducible exact keepsX_refused
    | ((with_reducible refine sub_of hm ?_); exact rfl)
    | with_reducible exact Nat.le_refl _
    | with_reducible rfl
    | with_reducible exact ⟨rfl, rfl, rfl⟩
    | with_reducible intro _
    | split
    | dsimp only)

theorem keeps_execGemelPair (hm : Sub 9438734 M) (q : Req) (s : State) (hk : Fr M s0 s) :
    KeepsX M s0 (execGemelPair q s) := by
  unfold execGemelPair
  repeat' (first
    | with_reducible assumption
    | with_reducible apply keeps_longOp
    | with_reducible apply keepsX_next
    | with_reducible exact keepsX_fault
    | with_reducible exact keepsX_refused
    | ((with_reducible refine sub_of hm ?_); exact rfl)
    | with_reducible exact Nat.le_refl _
    | with_reducible rfl
    | with_reducible exact ⟨rfl, rfl, rfl⟩
    | with_reducible intro _
    | split
    | dsimp only)

theorem keeps_startPair (hm : Sub 15730190 M) (t : Ticket) (s : State) (hk : Fr M s0 s) :
    Fr M s0 (startPair t s) := by
  unfold startPair
  repeat' (first
    | with_reducible assumption
    | with_reducible apply keeps_modSet
    | with_reducible apply keeps_ticketDone
    | with_reducible apply keeps_setPair
    | ((with_reducible refine sub_of hm ?_); exact rfl)
    | with_reducible exact Nat.le_refl _
    | with_reducible rfl
    | with_reducible exact ⟨rfl, rfl, rfl⟩
    | with_reducible intro _
    | split
    | dsimp only)

theorem keeps_unpair (hm : Sub 16191150 M) (s : State) (hk : Fr M s0 s) :
    Fr M s0 (unpair s) := by
  unfold unpair
  repeat' (first
    | with_reducible assumption
    | with_reducible apply keeps_modSet
    | with_reducible apply keeps_onGemel
    | with_reducible apply keeps_forEach
    | with_reducible apply keeps_ticketFail
    | with_reducible apply keeps_abandonDrain
    | with_reducible apply keeps_nextPage
    | with_reducible apply keeps_setPair
    | with_reducible apply keeps_storedUpTo
    | ((with_reducible refine sub_of hm ?_); exact rfl)
    | with_reducible exact Nat.le_refl _
    | with_reducible rfl
    | with_reducible exact ⟨rfl, rfl, rfl⟩
    | with_reducible intro _
    | split
    | dsimp only)

theorem keeps_execGemelUnpair (hm : Sub 16191150 M) (q : Req) (s : State) (hk : Fr M s0 s) :
    KeepsX M s0 (execGemelUnpair q s) := by
  unfold execGemelUnpair
  repeat' (first
    | with_reducible assumption
    | with_reducible apply keeps_plain
    | with_reducible apply keeps_act
    | with_reducible apply keeps_unpair
    | with_reducible apply keepsX_next
    | with_reducible exact keepsX_fault
    | with_reducible exact keepsX_refused
    | ((with_reducible refine sub_of hm ?_); exact rfl)
    | with_reducible exact Nat.le_refl _
    | with_reducible rfl
    | with_reducible exact ⟨rfl, rfl, rfl⟩
    | with_reducible intro _
    | split
    | dsimp only)

theorem keeps_execGemelQuery (hm : Sub 9438734 M) (q : Req) (s : State) (hk : Fr M s0 s) :
    KeepsX M s0 (execGemelQuery q s) := by
  unfold execGemelQuery
  repeat' (first
    | with_reducible assumption
    | with_reducible apply keeps_plain
    | with_reducible apply keeps_ans
    | with_reducible apply keepsX_next
    | with_reducible exact keepsX_fault
    | with_reducible exact keepsX_refused
    | ((with_reducible refine sub_of hm ?_); exact rfl)
    | with_reducible exact Nat.le_refl _
    | with_reducible rfl
    | with_reducible exact ⟨rfl, rfl, rfl⟩
    | with_reducible intro _
    | split
    | dsimp only)

theorem keeps_execGemelAdopt (hm : Sub 9438734 M) (q : Req) (s : State) (hk : Fr M s0 s) :
    KeepsX M s0 (execGemelAdopt q s) := by
  unfold execGemelAdopt
  repeat' (first
    | with_reducible assumption
    | with_reducible apply keeps_longOp
    | with_reducible apply keepsX_next
    | with_reducible exact keepsX_fault
    | with_reducible exact keepsX_refused
    | ((with_reducible refine sub_of hm ?_); exact rfl)
    | with_reducible exact Nat.le_refl _
    | with_reducible rfl
    | with_reducible exact ⟨rfl, rfl, rfl⟩
    | with_reducible intro _
    | split
    | dsimp only)

theorem keeps_execGemelResync (hm : Sub 9438734 M) (q : Req) (s : State) (hk : Fr M s0 s) :
    KeepsX M s0 (execGemelResync q s) := by
  unfold execGemelResync
  repeat' (first
    | with_reducible assumption
    | with_reducible apply keeps_longOp
    | with_reducible apply keepsX_next
    | with_reducible exact keepsX_fault
    | with_reducible exact keepsX_refused
    | ((with_reducible refine sub_of hm ?_); exact rfl)
    | with_reducible exact Nat.le_refl _
    | with_reducible rfl
    | with_reducible exact ⟨rfl, rfl, rfl⟩
    | with_reducible intro _
    | split
    | dsimp only)

theorem keeps_startResync (hm : Sub 9438734 M) (t : Ticket) (s : State) (hk : Fr M s0 s) :
    Fr M s0 (startResync t s) := by
  unfold startResync
  repeat' (first
    | with_reducible assumption
    | with_reducible apply keeps_emit
    | with_reducible apply keeps_onGemel
    | with_reducible apply keeps_ticketFail
    | ((with_reducible refine sub_of hm ?_); exact rfl)
    | with_reducible exact Nat.le_refl _
    | with_reducible rfl
    | with_reducible exact ⟨rfl, rfl, rfl⟩
    | with_reducible intro _
    | split
    | dsimp only)

/-! ### Rings -/

theorem keeps_ringError (hm : Sub 8388648 M) (r cause : Nat) (s : State) (hk : Fr M s0 s) :
    Fr M s0 (ringError r cause s) := by
  unfold ringError
  repeat' (first
    | with_reducible assumption
    | with_reducible apply keeps_onRing
    | with_reducible apply keeps_record
    | ((with_reducible refine sub_of hm ?_); exact rfl)
    | with_reducible exact Nat.le_refl _
    | with_reducible rfl
    | with_reducible exact ⟨rfl, rfl, rfl⟩
    | with_reducible intro _
    | split
    | dsimp only)

theorem keeps_ignoreDb (hm : Sub 8 M) (r : Nat) (s : State) (hk : Fr M s0 s) :
    Fr M s0 (ignoreDb r s) := by
  unfold ignoreDb
  repeat' (first
    | with_reducible assumption
    | with_reducible apply keeps_onRing
    | ((with_reducible refine sub_of hm ?_); exact rfl)
    | with_reducible exact Nat.le_refl _
    | with_reducible rfl
    | with_reducible exact ⟨rfl, rfl, rfl⟩
    | with_reducible intro _
    | split
    | dsimp only)

theorem keeps_execSqDoorbell (hm : Sub 8388648 M) (ring tail : Nat) (ents : List (Entry × List Byte)) (s : State) (hk : Fr M s0 s) :
    KeepsX M s0 (execSqDoorbell ring tail ents s) := by
  unfold execSqDoorbell
  repeat' (first
    | with_reducible assumption
    | with_reducible apply keeps_onRing
    | with_reducible apply keeps_ringError
    | with_reducible apply keeps_ignoreDb
    | with_reducible apply keepsX_next
    | with_reducible exact keepsX_fault
    | with_reducible exact keepsX_refused
    | ((with_reducible refine sub_of hm ?_); exact rfl)
    | with_reducible exact Nat.le_refl _
    | with_reducible rfl
    | with_reducible exact ⟨rfl, rfl, rfl⟩
    | with_reducible intro _
    | split
    | dsimp only)

theorem keeps_execCqDoorbell (hm : Sub 8388648 M) (ring head : Nat) (s : State) (hk : Fr M s0 s) :
    KeepsX M s0 (execCqDoorbell ring head s) := by
  unfold execCqDoorbell
  repeat' (first
    | with_reducible assumption
    | with_reducible apply keeps_onRing
    | with_reducible apply keeps_ringError
    | with_reducible apply keeps_ignoreDb
    | with_reducible apply keepsX_next
    | with_reducible exact keepsX_fault
    | with_reducible exact keepsX_refused
    | ((with_reducible refine sub_of hm ?_); exact rfl)
    | with_reducible exact Nat.le_refl _
    | with_reducible rfl
    | with_reducible exact ⟨rfl, rfl, rfl⟩
    | with_reducible intro _
    | split
    | dsimp only)

theorem keeps_execRingEnable (hm : Sub 8390152 M) (ring : Nat) (s : State) (hk : Fr M s0 s) :
    KeepsX M s0 (execRingEnable ring s) := by
  unfold execRingEnable
  repeat' (first
    | with_reducible assumption
    | with_reducible apply keeps_onRing
    | with_reducible apply keeps_postOwed
    | with_reducible apply keepsX_next
    | with_reducible exact keepsX_fault
    | with_reducible exact keepsX_refused
    | ((with_reducible refine sub_of hm ?_); exact rfl)
    | with_reducible exact Nat.le_refl _
    | with_reducible rfl
    | with_reducible exact ⟨rfl, rfl, rfl⟩
    | with_reducible intro _
    | split
    | dsimp only)

theorem keeps_execRingDisable (hm : Sub 8 M) (ring : Nat) (s : State) (hk : Fr M s0 s) :
    KeepsX M s0 (execRingDisable ring s) := by
  unfold execRingDisable
  repeat' (first
    | with_reducible assumption
    | with_reducible apply keeps_onRing
    | with_reducible apply keepsX_next
    | with_reducible exact keepsX_fault
    | with_reducible exact keepsX_refused
    | ((with_reducible refine sub_of hm ?_); exact rfl)
    | with_reducible exact Nat.le_refl _
    | with_reducible rfl
    | with_reducible exact ⟨rfl, rfl, rfl⟩
    | with_reducible intro _
    | split
    | dsimp only)

theorem keeps_sendHelloReply (hm : Sub 8390144 M) (xp sess dst : Nat) (body : List Byte) (s : State) (hk : Fr M s0 s) :
    Fr M s0 (sendHelloReply xp sess dst body s) := by
  unfold sendHelloReply
  repeat' (first
    | with_reducible assumption
    | with_reducible apply keeps_forEach
    | with_reducible apply keeps_sendCapsule
    | ((with_reducible refine sub_of hm ?_); exact rfl)
    | with_reducible exact Nat.le_refl _
    | with_reducible rfl
    | with_reducible exact ⟨rfl, rfl, rfl⟩
    | with_reducible intro _
    | split
    | dsimp only)

theorem keeps_execHelloRx (hm : Sub 41952936 M) (h : Hello) (s : State) (hk : Fr M s0 s) :
    KeepsX M s0 (execHelloRx h s) := by
  unfold execHelloRx
  repeat' (first
    | with_reducible assumption
    | with_reducible apply keeps_draw
    | with_reducible apply keeps_onCmdR
    | with_reducible apply keeps_refuse
    | with_reducible apply keeps_sendHelloReply
    | with_reducible apply keepsX_next
    | with_reducible exact keepsX_fault
    | with_reducible exact keepsX_refused
    | with_reducible refine keeps_snd ‹_› ?_
    | ((with_reducible refine sub_of hm ?_); exact rfl)
    | with_reducible exact Nat.le_refl _
    | with_reducible rfl
    | with_reducible exact ⟨rfl, rfl, rfl⟩
    | with_reducible intro _
    | split
    | dsimp only)

theorem keeps_onSess (hm : Sub 8 M) (xp n : Nat) (f : Session → Session) (s : State) (hk : Fr M s0 s) :
    Fr M s0 (onSess xp n f s) := by
  unfold onSess
  repeat' (first
    | with_reducible assumption
    | with_reducible apply keeps_onCmdR
    | ((with_reducible refine sub_of hm ?_); exact rfl)
    | with_reducible exact Nat.le_refl _
    | with_reducible rfl
    | with_reducible exact ⟨rfl, rfl, rfl⟩
    | with_reducible intro _
    | split
    | dsimp only)

theorem keeps_dropCapsule (hm : Sub 8 M) (s : State) (hk : Fr M s0 s) :
    Fr M s0 (dropCapsule s) := by
  unfold dropCapsule
  repeat' (first
    | with_reducible assumption
    | with_reducible apply keeps_onCmdR
    | ((with_reducible refine sub_of hm ?_); exact rfl)
    | with_reducible exact Nat.le_refl _
    | with_reducible rfl
    | with_reducible exact ⟨rfl, rfl, rfl⟩
    | with_reducible intro _
    | split
    | dsimp only)

theorem keeps_closeSess (hm : Sub 8388648 M) (xp n cause : Nat) (s : State) (hk : Fr M s0 s) :
    Fr M s0 (closeSess xp n cause s) := by
  unfold closeSess
  repeat' (first
    | with_reducible assumption
    | with_reducible apply keeps_onCmdR
    | with_reducible apply keeps_record
    | ((with_reducible refine sub_of hm ?_); exact rfl)
    | with_reducible exact Nat.le_refl _
    | with_reducible rfl
    | with_reducible exact ⟨rfl, rfl, rfl⟩
    | with_reducible intro _
    | split
    | dsimp only)

theorem keeps_authFail (hm : Sub 8388648 M) (xp : Nat) (q : Session) (c : Capsule) (s : State) (hk : Fr M s0 s) :
    Fr M s0 (authFail xp q c s) := by
  unfold authFail
  repeat' (first
    | with_reducible assumption
    | with_reducible apply keeps_record
    | with_reducible apply keeps_onSess
    | with_reducible apply keeps_dropCapsule
    | with_reducible apply keeps_closeSess
    | ((with_reducible refine sub_of hm ?_); exact rfl)
    | with_reducible exact Nat.le_refl _
    | with_reducible rfl
    | with_reducible exact ⟨rfl, rfl, rfl⟩
    | with_reducible intro _
    | split
    | dsimp only)

theorem keeps_takeCapsule (hm : Sub 8390184 M) (xp : Nat) (c : Capsule) (f : Session → State → State) (s : State) (hf_f : ∀ x0 x1, Fr M s0 x1 → Fr M s0 (f x0 x1)) (hk : Fr M s0 s) :
    Fr M s0 (takeCapsule xp c f s) := by
  unfold takeCapsule
  repeat' (first
    | with_reducible assumption
    | with_reducible apply keeps_forEach
    | with_reducible apply keeps_sendCapsule
    | with_reducible apply keeps_onSess
    | with_reducible apply keeps_dropCapsule
    | with_reducible apply keeps_authFail
    | with_reducible apply hf_f
    | ((with_reducible refine sub_of hm ?_); exact rfl)
    | with_reducible exact Nat.le_refl _
    | with_reducible rfl
    | with_reducible exact ⟨rfl, rfl, rfl⟩
    | with_reducible intro _
    | split
    | dsimp only)

theorem keeps_sessMessage (hm : Sub 8 M) (xp n : Nat) (cseqs : List Nat) (b : List Byte) (s : State) (hk : Fr M s0 s) :
    Fr M s0 (sessMessage xp n cseqs b s) := by
  unfold sessMessage
  repeat' (first
    | with_reducible assumption
    | with_reducible apply keeps_onSess
    | ((with_reducible refine sub_of hm ?_); exact rfl)
    | with_reducible exact Nat.le_refl _
    | with_reducible rfl
    | with_reducible exact ⟨rfl, rfl, rfl⟩
    | with_reducible intro _
    | split
    | dsimp only)

theorem keeps_refuseMessage (hm : Sub 8390152 M) (xp n reason : Nat) (cseqs : List Nat) (b : List Byte) (s : State) (hk : Fr M s0 s) :
    Fr M s0 (refuseMessage xp n reason cseqs b s) := by
  unfold refuseMessage
  repeat' (first
    | with_reducible assumption
    | with_reducible apply keeps_postSess
    | ((with_reducible refine sub_of hm ?_); exact rfl)
    | with_reducible exact Nat.le_refl _
    | with_reducible rfl
    | with_reducible exact ⟨rfl, rfl, rfl⟩
    | with_reducible intro _
    | split
    | dsimp only)

theorem keeps_joinSegment (hm : Sub 8390152 M) (xp : Nat) (c : Capsule) (q : Session) (s : State) (hk : Fr M s0 s) :
    Fr M s0 (joinSegment xp c q s) := by
  unfold joinSegment
  repeat' (first
    | with_reducible assumption
    | with_reducible apply keeps_onSess
    | with_reducible apply keeps_dropCapsule
    | with_reducible apply keeps_sessMessage
    | with_reducible apply keeps_refuseMessage
    | ((with_reducible refine sub_of hm ?_); exact rfl)
    | with_reducible exact Nat.le_refl _
    | with_reducible rfl
    | with_reducible exact ⟨rfl, rfl, rfl⟩
    | with_reducible intro _
    | split
    | dsimp only)

theorem keeps_execCommandCapsuleRx (hm : Sub 8390184 M) (xp : Nat) (cap : Capsule) (s : State) (hk : Fr M s0 s) :
    KeepsX M s0 (execCommandCapsuleRx xp cap s) := by
  unfold execCommandCapsuleRx
  repeat' (first
    | with_reducible assumption
    | with_reducible apply keeps_dropCapsule
    | with_reducible apply keeps_takeCapsule
    | with_reducible apply keeps_sessMessage
    | with_reducible apply keeps_refuseMessage
    | with_reducible apply keeps_joinSegment
    | with_reducible apply keepsX_next
    | with_reducible exact keepsX_fault
    | with_reducible exact keepsX_refused
    | ((with_reducible refine sub_of hm ?_); exact rfl)
    | with_reducible exact Nat.le_refl _
    | with_reducible rfl
    | with_reducible exact ⟨rfl, rfl, rfl⟩
    | with_reducible intro _
    | split
    | dsimp only)

theorem keeps_execCloseRx (hm : Sub 8390184 M) (xp : Nat) (cap : Capsule) (s : State) (hk : Fr M s0 s) :
    KeepsX M s0 (execCloseRx xp cap s) := by
  unfold execCloseRx
  repeat' (first
    | with_reducible assumption
    | with_reducible apply keeps_dropCapsule
    | with_reducible apply keeps_closeSess
    | with_reducible apply keeps_takeCapsule
    | with_reducible apply keepsX_next
    | with_reducible exact keepsX_fault
    | with_reducible exact keepsX_refused
    | ((with_reducible refine sub_of hm ?_); exact rfl)
    | with_reducible exact Nat.le_refl _
    | with_reducible rfl
    | with_reducible exact ⟨rfl, rfl, rfl⟩
    | with_reducible intro _
    | split
    | dsimp only)

theorem keeps_execFinishRx (hm : Sub 8390184 M) (xp sess cseq replyTo : Nat) (mac : List Byte) (s : State) (hk : Fr M s0 s) :
    KeepsX M s0 (execFinishRx xp sess cseq replyTo mac s) := by
  unfold execFinishRx
  repeat' (first
    | with_reducible assumption
    | with_reducible apply keeps_record
    | with_reducible apply keeps_postOwed
    | with_reducible apply keeps_onSess
    | with_reducible apply keeps_dropCapsule
    | with_reducible apply keepsX_next
    | with_reducible exact keepsX_fault
    | with_reducible exact keepsX_refused
    | ((with_reducible refine sub_of hm ?_); exact rfl)
    | with_reducible exact Nat.le_refl _
    | with_reducible rfl
    | with_reducible exact ⟨rfl, rfl, rfl⟩
    | with_reducible intro _
    | split
    | dsimp only)

theorem keeps_execSessionIdle (hm : Sub 8388648 M) (xp sess : Nat) (s : State) (hk : Fr M s0 s) :
    KeepsX M s0 (execSessionIdle xp sess s) := by
  unfold execSessionIdle
  repeat' (first
    | with_reducible assumption
    | with_reducible apply keeps_closeSess
    | with_reducible apply keepsX_next
    | with_reducible exact keepsX_fault
    | with_reducible exact keepsX_refused
    | ((with_reducible refine sub_of hm ?_); exact rfl)
    | with_reducible exact Nat.le_refl _
    | with_reducible rfl
    | with_reducible exact ⟨rfl, rfl, rfl⟩
    | with_reducible intro _
    | split
    | dsimp only)

theorem keeps_execSegmentTimeout (hm : Sub 8390152 M) (xp sess msg : Nat) (s : State) (hk : Fr M s0 s) :
    KeepsX M s0 (execSegmentTimeout xp sess msg s) := by
  unfold execSegmentTimeout
  repeat' (first
    | with_reducible assumption
    | with_reducible apply keeps_onSess
    | with_reducible apply keeps_refuseMessage
    | with_reducible apply keepsX_next
    | with_reducible exact keepsX_fault
    | with_reducible exact keepsX_refused
    | ((with_reducible refine sub_of hm ?_); exact rfl)
    | with_reducible exact Nat.le_refl _
    | with_reducible rfl
    | with_reducible exact ⟨rfl, rfl, rfl⟩
    | with_reducible intro _
    | split
    | dsimp only)

theorem keeps_execNop (hm : Sub 9438734 M) (q : Req) (s : State) (hk : Fr M s0 s) :
    KeepsX M s0 (execNop q s) := by
  unfold execNop
  repeat' (first
    | with_reducible assumption
    | with_reducible apply keeps_plain
    | with_reducible apply keeps_ans
    | with_reducible apply keepsX_next
    | with_reducible exact keepsX_fault
    | with_reducible exact keepsX_refused
    | ((with_reducible refine sub_of hm ?_); exact rfl)
    | with_reducible exact Nat.le_refl _
    | with_reducible rfl
    | with_reducible exact ⟨rfl, rfl, rfl⟩
    | with_reducible intro _
    | split
    | dsimp only)

theorem keeps_execCaps (hm : Sub 9438734 M) (q : Req) (s : State) (hk : Fr M s0 s) :
    KeepsX M s0 (execCaps q s) := by
  unfold execCaps
  repeat' (first
    | with_reducible assumption
    | with_reducible apply keeps_plain
    | with_reducible apply keeps_ans
    | with_reducible apply keepsX_next
    | with_reducible exact keepsX_fault
    | with_reducible exact keepsX_refused
    | ((with_reducible refine sub_of hm ?_); exact rfl)
    | with_reducible exact Nat.le_refl _
    | with_reducible rfl
    | with_reducible exact ⟨rfl, rfl, rfl⟩
    | with_reducible intro _
    | split
    | dsimp only)

theorem keeps_execPing (hm : Sub 9438734 M) (q : Req) (s : State) (hk : Fr M s0 s) :
    KeepsX M s0 (execPing q s) := by
  unfold execPing
  repeat' (first
    | with_reducible assumption
    | with_reducible apply keeps_plain
    | with_reducible apply keeps_ans
    | with_reducible apply keepsX_next
    | with_reducible exact keepsX_fault
    | with_reducible exact keepsX_refused
    | ((with_reducible refine sub_of hm ?_); exact rfl)
    | with_reducible exact Nat.le_refl _
    | with_reducible rfl
    | with_reducible exact ⟨rfl, rfl, rfl⟩
    | with_reducible intro _
    | split
    | dsimp only)

theorem keeps_showProgress (hm : Sub 14 M) (tk : Nat) (s : State) (hk : Fr M s0 s) :
    Fr M s0 (showProgress tk s) := by
  unfold showProgress
  repeat' (first
    | with_reducible assumption
    | with_reducible apply keeps_onTicket
    | ((with_reducible refine sub_of hm ?_); exact rfl)
    | with_reducible exact Nat.le_refl _
    | with_reducible rfl
    | with_reducible exact ⟨rfl, rfl, rfl⟩
    | with_reducible intro _
    | split
    | dsimp only)

theorem keeps_queryTicket (hm : Sub 14 M) (tk : Nat) (s : State) (hk : Fr M s0 s) :
    Fr M s0 (queryTicket tk s).1 := by
  unfold queryTicket
  repeat' (first
    | with_reducible assumption
    | with_reducible apply keeps_showProgress
    | with_reducible apply keeps_elim
    | ((with_reducible refine sub_of hm ?_); exact rfl)
    | with_reducible exact Nat.le_refl _
    | with_reducible rfl
    | with_reducible exact ⟨rfl, rfl, rfl⟩
    | with_reducible intro _
    | split
    | dsimp only)

theorem keeps_execOpQuery (hm : Sub 9438734 M) (q : Req) (s : State) (hk : Fr M s0 s) :
    KeepsX M s0 (execOpQuery q s) := by
  unfold execOpQuery
  repeat' (first
    | with_reducible assumption
    | with_reducible apply keeps_plain
    | with_reducible apply keeps_queryTicket
    | with_reducible apply keepsX_next
    | with_reducible exact keepsX_fault
    | with_reducible exact keepsX_refused
    | with_reducible refine keeps_fst ‹_› ?_
    | ((with_reducible refine sub_of hm ?_); exact rfl)
    | with_reducible exact Nat.le_refl _
    | with_reducible rfl
    | with_reducible exact ⟨rfl, rfl, rfl⟩
    | with_reducible intro _
    | split
    | dsimp only)

theorem keeps_execOpList (hm : Sub 9438734 M) (q : Req) (s : State) (hk : Fr M s0 s) :
    KeepsX M s0 (execOpList q s) := by
  unfold execOpList
  repeat' (first
    | with_reducible assumption
    | with_reducible apply keeps_runCommand
    | with_reducible apply keeps_ans
    | with_reducible apply keepsX_next
    | with_reducible exact keepsX_fault
    | with_reducible exact keepsX_refused
    | ((with_reducible refine sub_of hm ?_); exact rfl)
    | with_reducible exact Nat.le_refl _
    | with_reducible rfl
    | with_reducible exact ⟨rfl, rfl, rfl⟩
    | with_reducible intro _
    | split
    | dsimp only)

/-! ### Quench -/

theorem keeps_moveTo (hm : Sub 8388641 M) (st : MState) (cause : Nat) (s : State) (hk : Fr M s0 s) :
    Fr M s0 (moveTo st cause s) := by
  unfold moveTo
  repeat' (first
    | with_reducible assumption
    | with_reducible apply keeps_onSys
    | with_reducible apply keeps_record
    | ((with_reducible refine sub_of hm ?_); exact rfl)
    | with_reducible exact Nat.le_refl _
    | with_reducible rfl
    | with_reducible exact ⟨rfl, rfl, rfl⟩
    | with_reducible intro _
    | split
    | dsimp only)

theorem keeps_parkChunk (hm : Sub 8391840 M) (g seq c : Nat) (s : State) (hk : Fr M s0 s) :
    Fr M s0 (parkChunk g seq c s) := by
  unfold parkChunk
  repeat' (first
    | with_reducible assumption
    | with_reducible apply keeps_onChunk
    | with_reducible apply keeps_dropEntries
    | with_reducible apply keeps_dropWaiting
    | ((with_reducible refine sub_of hm ?_); exact rfl)
    | with_reducible exact Nat.le_refl _
    | with_reducible rfl
    | with_reducible exact ⟨rfl, rfl, rfl⟩
    | with_reducible intro _
    | split
    | dsimp only)

theorem keeps_moveChunk (hm : Sub 15957992 M) (g seq c : Nat) (s : State) (hk : Fr M s0 s) :
    Fr M s0 (moveChunk g seq c s) := by
  unfold moveChunk
  repeat' (first
    | with_reducible assumption
    | with_reducible apply keeps_startFallback
    | with_reducible apply keeps_chunkLost
    | with_reducible apply keeps_parkChunk
    | ((with_reducible refine sub_of hm ?_); exact rfl)
    | with_reducible exact Nat.le_refl _
    | with_reducible rfl
    | with_reducible exact ⟨rfl, rfl, rfl⟩
    | with_reducible intro _
    | split
    | dsimp only)

theorem keeps_loseEnt (hm : Sub 8457952 M) (e : QEnt) (s : State) (hk : Fr M s0 s) :
    Fr M s0 (loseEnt e s) := by
  unfold loseEnt
  repeat' (first
    | with_reducible assumption
    | with_reducible apply keeps_dropEnt
    | with_reducible apply keeps_frameLost
    | ((with_reducible refine sub_of hm ?_); exact rfl)
    | with_reducible exact Nat.le_refl _
    | with_reducible rfl
    | with_reducible exact ⟨rfl, rfl, rfl⟩
    | with_reducible intro _
    | split
    | dsimp only)

theorem keeps_loseCells (hm : Sub 8457952 M) (d : Nat) (s : State) (hk : Fr M s0 s) :
    Fr M s0 (loseCells d s) := by
  unfold loseCells
  repeat' (first
    | with_reducible assumption
    | with_reducible apply keeps_onCoreR
    | with_reducible apply keeps_forEach
    | with_reducible apply keeps_onDie
    | with_reducible apply keeps_loseEnt
    | ((with_reducible refine sub_of hm ?_); exact rfl)
    | with_reducible exact Nat.le_refl _
    | with_reducible rfl
    | with_reducible exact ⟨rfl, rfl, rfl⟩
    | with_reducible intro _
    | split
    | dsimp only)

theorem keeps_wipeShard (hm : Sub 16148014 M) (d : Nat) (s : State) (hk : Fr M s0 s) :
    Fr M s0 (wipeShard d s) := by
  unfold wipeShard
  repeat' (first
    | with_reducible assumption
    | with_reducible apply keeps_onMemW
    | with_reducible apply keeps_forEach
    | with_reducible apply keeps_abandonDrain
    | with_reducible exact memZero_wf _ _ _ ‹_›
    | ((with_reducible refine sub_of hm ?_); exact rfl)
    | with_reducible exact Nat.le_refl _
    | with_reducible rfl
    | with_reducible exact ⟨rfl, rfl, rfl⟩
    | with_reducible intro _
    | split
    | dsimp only)

theorem keeps_loseDie (hm : Sub 16252910 M) (d : Nat) (s : State) (hk : Fr M s0 s) :
    Fr M s0 (loseDie d s) := by
  unfold loseDie
  repeat' (first
    | with_reducible assumption
    | with_reducible apply keeps_onMem
    | with_reducible apply keeps_forEach
    | with_reducible apply keeps_loseCtx
    | with_reducible apply keeps_unpowerTile
    | with_reducible apply keeps_bindDieLost
    | with_reducible apply keeps_dropPort
    | with_reducible apply keeps_dropSpars
    | with_reducible apply keeps_moveChunk
    | with_reducible apply keeps_loseCells
    | with_reducible apply keeps_wipeShard
    | ((with_reducible refine sub_of hm ?_); exact rfl)
    | with_reducible exact Nat.le_refl _
    | with_reducible rfl
    | with_reducible exact ⟨rfl, rfl, rfl⟩
    | with_reducible intro _
    | split
    | dsimp only)

theorem keeps_loseStack (hm : Sub 16220142 M) (k : Nat) (s : State) (hk : Fr M s0 s) :
    Fr M s0 (loseStack k s) := by
  unfold loseStack
  repeat' (first
    | with_reducible assumption
    | with_reducible apply keeps_forEach
    | with_reducible apply keeps_moveChunk
    | with_reducible apply keeps_wipeShard
    | ((with_reducible refine sub_of hm ?_); exact rfl)
    | with_reducible exact Nat.le_refl _
    | with_reducible rfl
    | with_reducible exact ⟨rfl, rfl, rfl⟩
    | with_reducible intro _
    | split
    | dsimp only)

theorem keeps_loseSpar (hm : Sub 8389152 M) (x y : Nat) (s : State) (hk : Fr M s0 s) :
    Fr M s0 (loseSpar x y s) := by
  unfold loseSpar
  repeat' (first
    | with_reducible assumption
    | with_reducible apply keeps_whenS
    | with_reducible apply keeps_record
    | with_reducible apply keeps_onSpar
    | ((with_reducible refine sub_of hm ?_); exact rfl)
    | with_reducible exact Nat.le_refl _
    | with_reducible rfl
    | with_reducible exact ⟨rfl, rfl, rfl⟩
    | with_reducible intro _
    | split
    | dsimp only)

theorem keeps_loseMooring (hm : Sub 8490720 M) (d : Nat) (s : State) (hk : Fr M s0 s) :
    Fr M s0 (loseMooring d s) := by
  unfold loseMooring
  repeat' (first
    | with_reducible assumption
    | with_reducible apply keeps_whenS
    | with_reducible apply keeps_leaveUp
    | with_reducible apply keeps_disableLink
    | with_reducible apply keeps_pathLost
    | ((with_reducible refine sub_of hm ?_); exact rfl)
    | with_reducible exact Nat.le_refl _
    | with_reducible rfl
    | with_reducible exact ⟨rfl, rfl, rfl⟩
    | with_reducible intro _
    | split
    | dsimp only)

theorem keeps_isolateUnit (hm : Sub 16252910 M) (id : Nat) (s : State) (hk : Fr M s0 s) :
    Fr M s0 (isolateUnit id s) := by
  unfold isolateUnit
  repeat' (first
    | with_reducible assumption
    | with_reducible apply keeps_forEach
    | with_reducible apply keeps_isolateTile
    | with_reducible apply keeps_dropPort
    | with_reducible apply keeps_failFlashDie
    | with_reducible apply keeps_loseDie
    | with_reducible apply keeps_loseStack
    | with_reducible apply keeps_loseSpar
    | with_reducible apply keeps_loseMooring
    | ((with_reducible refine sub_of hm ?_); exact rfl)
    | with_reducible exact Nat.le_refl _
    | with_reducible rfl
    | with_reducible exact ⟨rfl, rfl, rfl⟩
    | with_reducible intro _
    | split
    | dsimp only)

theorem keeps_markShard (hm : Sub 256 M) (d : Nat) (s : State) (hk : Fr M s0 s) :
    Fr M s0 (markShard d s) := by
  unfold markShard
  repeat' (first
    | with_reducible assumption
    | with_reducible apply keeps_forEach
    | with_reducible apply keeps_markRegion
    | ((with_reducible refine sub_of hm ?_); exact rfl)
    | with_reducible exact Nat.le_refl _
    | with_reducible rfl
    | with_reducible exact ⟨rfl, rfl, rfl⟩
    | with_reducible intro _
    | split
    | dsimp only)

theorem keeps_prepareUnit (hm : Sub 15736750 M) (id : Nat) (s : State) (hk : Fr M s0 s) :
    Fr M s0 (prepareUnit id s) := by
  unfold prepareUnit
  repeat' (first
    | with_reducible assumption
    | with_reducible apply keeps_scrubDie
    | with_reducible apply keeps_markShard
    | ((with_reducible refine sub_of hm ?_); exact rfl)
    | with_reducible exact Nat.le_refl _
    | with_reducible rfl
    | with_reducible exact ⟨rfl, rfl, rfl⟩
    | with_reducible intro _
    | split
    | dsimp only)

theorem keeps_returnDie (hm : Sub 16248814 M) (d : Nat) (s : State) (hk : Fr M s0 s) :
    Fr M s0 (returnDie d s) := by
  unfold returnDie
  repeat' (first
    | with_reducible assumption
    | with_reducible apply keeps_forEach
    | with_reducible apply keeps_onTileU
    | with_reducible apply keeps_loadImem
    | with_reducible apply keeps_settlePort
    | with_reducible apply keeps_serveHeld
    | ((with_reducible refine sub_of hm ?_); exact rfl)
    | with_reducible exact Nat.le_refl _
    | with_reducible rfl
    | with_reducible exact ⟨rfl, rfl, rfl⟩
    | with_reducible intro _
    | split
    | dsimp only)

theorem keeps_returnMooring (hm : Sub 128 M) (d : Nat) (s : State) (hk : Fr M s0 s) :
    Fr M s0 (returnMooring d s) := by
  unfold returnMooring
  repeat' (first
    | with_reducible assumption
    | with_reducible apply keeps_portUp
    | with_reducible apply keeps_lanesReady
    | ((with_reducible refine sub_of hm ?_); exact rfl)
    | with_reducible exact Nat.le_refl _
    | with_reducible rfl
    | with_reducible exact ⟨rfl, rfl, rfl⟩
    | with_reducible intro _
    | split
    | dsimp only)

theorem keeps_returnUnit (hm : Sub 16252910 M) (id : Nat) (s : State) (hk : Fr M s0 s) :
    Fr M s0 (returnUnit id s) := by
  unfold returnUnit
  repeat' (first
    | with_reducible assumption
    | with_reducible apply keeps_onFlash
    | with_reducible apply keeps_forEach
    | with_reducible apply keeps_releaseTile
    | with_reducible apply keeps_settlePort
    | with_reducible apply keeps_onSpar
    | with_reducible apply keeps_serveHeld
    | with_reducible apply keeps_returnDie
    | with_reducible apply keeps_returnMooring
    | ((with_reducible refine sub_of hm ?_); exact rfl)
    | with_reducible exact Nat.le_refl _
    | with_reducible rfl
    | with_reducible exact ⟨rfl, rfl, rfl⟩
    | with_reducible intro _
    | split
    | dsimp only)

theorem keeps_dataOff (hm : Sub 1539968 M) (s : State) (hk : Fr M s0 s) :
    Fr M s0 (dataOff s) := by
  unfold dataOff
  repeat' (first
    | with_reducible assumption
    | with_reducible apply keeps_onNet
    | with_reducible apply keeps_onCore
    | with_reducible apply keeps_onSched
    | with_reducible apply keeps_onSnap
    | with_reducible apply keeps_onGemel
    | with_reducible apply keeps_onTileW
    | with_reducible apply keeps_onMemW
    | with_reducible apply keeps_onFlash
    | with_reducible apply keeps_snapDrop
    | ((with_reducible refine sub_of hm ?_); exact rfl)
    | with_reducible exact Nat.le_refl _
    | with_reducible rfl
    | with_reducible exact ⟨rfl, rfl, rfl⟩
    | with_reducible intro _
    | split
    | dsimp only
    | exact memNil_wf)

theorem keeps_ripcord (hm : Sub 9928673 M) (cause what : Nat) (s : State) (hk : Fr M s0 s) :
    Fr M s0 (ripcord cause what s) := by
  unfold ripcord
  repeat' (first
    | with_reducible assumption
    | with_reducible apply keeps_onEnv
    | with_reducible apply keeps_record
    | with_reducible apply keeps_haltImage
    | with_reducible apply keeps_moveTo
    | with_reducible apply keeps_dataOff
    | ((with_reducible refine sub_of hm ?_); exact rfl)
    | with_reducible exact Nat.le_refl _
    | with_reducible rfl
    | with_reducible exact ⟨rfl, rfl, rfl⟩
    | with_reducible intro _
    | split
    | dsimp only)

theorem keeps_tornWrites (hm : Sub 1 M) (s : State) (hk : Fr M s0 s) :
    Fr M s0 (tornWrites s) := by
  unfold tornWrites
  repeat' (first
    | with_reducible assumption
    | with_reducible apply keeps_onSys
    | with_reducible apply keeps_elim
    | ((with_reducible refine sub_of hm ?_); exact rfl)
    | with_reducible exact Nat.le_refl _
    | with_reducible rfl
    | with_reducible exact ⟨rfl, rfl, rfl⟩
    | with_reducible intro _
    | split
    | dsimp only)

theorem keeps_keelSleeps (hm : Sub 12027455 M) (s : State) (hk : Fr M s0 s) :
    Fr M s0 (keelSleeps s) := by
  unfold keelSleeps
  repeat' (first
    | with_reducible assumption
    | with_reducible apply keeps_onSet
    | with_reducible apply keeps_onCmd
    | with_reducible apply keeps_onHost
    | with_reducible apply keeps_onTime
    | with_reducible apply keeps_onSched
    | with_reducible apply keeps_onSnap
    | with_reducible apply keeps_onGemel
    | with_reducible apply keeps_onSys
    | with_reducible apply keeps_onFlt
    | with_reducible apply keeps_onFlash
    | with_reducible apply keeps_forEach
    | with_reducible apply keeps_postFinal
    | with_reducible apply keeps_tornWrites
    | ((with_reducible refine sub_of hm ?_); exact rfl)
    | with_reducible exact Nat.le_refl _
    | with_reducible rfl
    | with_reducible exact ⟨rfl, rfl, rfl⟩
    | with_reducible intro _
    | split
    | dsimp only)

theorem keeps_closeAll (hm : Sub 8388648 M) (s : State) (hk : Fr M s0 s) :
    Fr M s0 (closeAll s) := by
  unfold closeAll
  repeat' (first
    | with_reducible assumption
    | with_reducible apply keeps_forEach
    | with_reducible apply keeps_closeSess
    | ((with_reducible refine sub_of hm ?_); exact rfl)
    | with_reducible exact Nat.le_refl _
    | with_reducible rfl
    | with_reducible exact ⟨rfl, rfl, rfl⟩
    | with_reducible intro _
    | split
    | dsimp only)

theorem keeps_toStandby (hm : Sub 12058623 M) (start : Nat) (s : State) (hk : Fr M s0 s) :
    Fr M s0 (toStandby start s) := by
  unfold toStandby
  repeat' (first
    | with_reducible assumption
    | with_reducible apply keeps_onEnv
    | with_reducible apply keeps_onSys
    | with_reducible apply keeps_dataOff
    | with_reducible apply keeps_keelSleeps
    | with_reducible apply keeps_closeAll
    | ((with_reducible refine sub_of hm ?_); exact rfl)
    | with_reducible exact Nat.le_refl _
    | with_reducible rfl
    | with_reducible exact ⟨rfl, rfl, rfl⟩
    | with_reducible intro _
    | split
    | dsimp only)

theorem keeps_tryStart (hm : Sub 1 M) (s : State) (hk : Fr M s0 s) :
    Fr M s0 (tryStart s) := by
  unfold tryStart
  repeat' (first
    | with_reducible assumption
    | with_reducible apply keeps_onSys
    | ((with_reducible refine sub_of hm ?_); exact rfl)
    | with_reducible exact Nat.le_refl _
    | with_reducible rfl
    | with_reducible exact ⟨rfl, rfl, rfl⟩
    | with_reducible intro _
    | split
    | dsimp only)

/-! ### Faults -/

theorem keeps_isolate (hm : Sub 16252910 M) (id : Nat) (sticky : Bool) (s : State) (hk : Fr M s0 s) :
    Fr M s0 (isolate id sticky s) := by
  unfold isolate
  repeat' (first
    | with_reducible assumption
    | with_reducible apply keeps_whenS
    | with_reducible apply keeps_onSrc
    | with_reducible apply keeps_recordSrc
    | with_reducible apply keeps_haltImage
    | with_reducible apply keeps_isolateUnit
    | ((with_reducible refine sub_of hm ?_); exact rfl)
    | with_reducible exact Nat.le_refl _
    | with_reducible rfl
    | with_reducible exact ⟨rfl, rfl, rfl⟩
    | with_reducible intro _
    | split
    | dsimp only)

theorem keeps_quench (hm : Sub 9928673 M) (id : Nat) (s : State) (hk : Fr M s0 s) :
    Fr M s0 (quench id s) := by
  unfold quench
  repeat' (first
    | with_reducible assumption
    | with_reducible apply keeps_ripcord
    | ((with_reducible refine sub_of hm ?_); exact rfl)
    | with_reducible exact Nat.le_refl _
    | with_reducible rfl
    | with_reducible exact ⟨rfl, rfl, rfl⟩
    | with_reducible intro _
    | split
    | dsimp only)

theorem keeps_takeAction (hm : Sub 16252911 M) (id action : Nat) (sticky held : Bool) (s : State) (hk : Fr M s0 s) :
    Fr M s0 (takeAction id action sticky held s) := by
  unfold takeAction
  repeat' (first
    | with_reducible assumption
    | with_reducible apply keeps_whenS
    | with_reducible apply keeps_onSrc
    | with_reducible apply keeps_haltImage
    | with_reducible apply keeps_isolate
    | with_reducible apply keeps_quench
    | ((with_reducible refine sub_of hm ?_); exact rfl)
    | with_reducible exact Nat.le_refl _
    | with_reducible rfl
    | with_reducible exact ⟨rfl, rfl, rfl⟩
    | with_reducible intro _
    | split
    | dsimp only)

theorem keeps_severe (hm : Sub 16252911 M) (id : Nat) (fatal : Bool) (s : State) (hk : Fr M s0 s) :
    Fr M s0 (severe id fatal s) := by
  unfold severe
  repeat' (first
    | with_reducible assumption
    | with_reducible apply keeps_whenS
    | with_reducible apply keeps_irq
    | with_reducible apply keeps_recordSrc
    | with_reducible apply keeps_takeAction
    | ((with_reducible refine sub_of hm ?_); exact rfl)
    | with_reducible exact Nat.le_refl _
    | with_reducible rfl
    | with_reducible exact ⟨rfl, rfl, rfl⟩
    | with_reducible intro _
    | split
    | dsimp only)

theorem keeps_latchFirst (hm : Sub 8388640 M) (ft id kind : Nat) (s : State) (hk : Fr M s0 s) :
    Fr M s0 (latchFirst ft id kind s) := by
  unfold latchFirst
  repeat' (first
    | with_reducible assumption
    | with_reducible apply keeps_onFlt
    | with_reducible apply keeps_whenS
    | with_reducible apply keeps_irq
    | with_reducible apply keeps_recordSrc
    | ((with_reducible refine sub_of hm ?_); exact rfl)
    | with_reducible exact Nat.le_refl _
    | with_reducible rfl
    | with_reducible exact ⟨rfl, rfl, rfl⟩
    | with_reducible intro _
    | split
    | dsimp only)

theorem keeps_countReport (hm : Sub 32 M) (ft id kind : Nat) (s : State) (hk : Fr M s0 s) :
    Fr M s0 (countReport ft id kind s) := by
  unfold countReport
  repeat' (first
    | with_reducible assumption
    | with_reducible apply keeps_onSrc
    | ((with_reducible refine sub_of hm ?_); exact rfl)
    | with_reducible exact Nat.le_refl _
    | with_reducible rfl
    | with_reducible exact ⟨rfl, rfl, rfl⟩
    | with_reducible intro _
    | split
    | dsimp only)

theorem keeps_takeReport (hm : Sub 16252911 M) (r : Nat × Nat × Nat) (s : State) (hk : Fr M s0 s) :
    Fr M s0 (takeReport r s) := by
  unfold takeReport
  repeat' (first
    | with_reducible assumption
    | with_reducible apply keeps_onFlt
    | with_reducible apply keeps_onSrc
    | with_reducible apply keeps_severe
    | with_reducible apply keeps_latchFirst
    | with_reducible apply keeps_countReport
    | ((with_reducible refine sub_of hm ?_); exact rfl)
    | with_reducible exact Nat.le_refl _
    | with_reducible rfl
    | with_reducible exact ⟨rfl, rfl, rfl⟩
    | with_reducible intro _
    | split
    | dsimp only)

theorem keeps_execFaultReportBatch (hm : Sub 16252911 M) (reps : List (Nat × Nat × Nat)) (s : State) (hk : Fr M s0 s) :
    KeepsX M s0 (execFaultReportBatch reps s) := by
  unfold execFaultReportBatch
  repeat' (first
    | with_reducible assumption
    | with_reducible apply keeps_onFlt
    | with_reducible apply keeps_forEach
    | with_reducible apply keeps_takeReport
    | with_reducible apply keepsX_next
    | with_reducible exact keepsX_fault
    | with_reducible exact keepsX_refused
    | ((with_reducible refine sub_of hm ?_); exact rfl)
    | with_reducible exact Nat.le_refl _
    | with_reducible rfl
    | with_reducible exact ⟨rfl, rfl, rfl⟩
    | with_reducible intro _
    | split
    | dsimp only)

theorem keeps_execFaultWindowExpire (hm : Sub 32 M) (src : Nat) (s : State) (hk : Fr M s0 s) :
    KeepsX M s0 (execFaultWindowExpire src s) := by
  unfold execFaultWindowExpire
  repeat' (first
    | with_reducible assumption
    | with_reducible apply keeps_onSrc
    | with_reducible apply keepsX_next
    | with_reducible exact keepsX_fault
    | with_reducible exact keepsX_refused
    | ((with_reducible refine sub_of hm ?_); exact rfl)
    | with_reducible exact Nat.le_refl _
    | with_reducible rfl
    | with_reducible exact ⟨rfl, rfl, rfl⟩
    | with_reducible intro _
    | split
    | dsimp only)

theorem keeps_recovered (hm : Sub 8388640 M) (id : Nat) (s : State) (hk : Fr M s0 s) :
    Fr M s0 (recovered id s) := by
  unfold recovered
  repeat' (first
    | with_reducible assumption
    | with_reducible apply keeps_onFlt
    | with_reducible apply keeps_recordSrc
    | ((with_reducible refine sub_of hm ?_); exact rfl)
    | with_reducible exact Nat.le_refl _
    | with_reducible rfl
    | with_reducible exact ⟨rfl, rfl, rfl⟩
    | with_reducible intro _
    | split
    | dsimp only)

theorem keeps_execFaultQuietExpire (hm : Sub 16252911 M) (src : Nat) (s : State) (hk : Fr M s0 s) :
    KeepsX M s0 (execFaultQuietExpire src s) := by
  unfold execFaultQuietExpire
  repeat' (first
    | with_reducible assumption
    | with_reducible apply keeps_onSrc
    | with_reducible apply keeps_severe
    | with_reducible apply keeps_recovered
    | with_reducible apply keepsX_next
    | with_reducible exact keepsX_fault
    | with_reducible exact keepsX_refused
    | ((with_reducible refine sub_of hm ?_); exact rfl)
    | with_reducible exact Nat.le_refl _
    | with_reducible rfl
    | with_reducible exact ⟨rfl, rfl, rfl⟩
    | with_reducible intro _
    | split
    | dsimp only)

theorem keeps_releasePass (hm : Sub 16252910 M) (id : Nat) (s : State) (hk : Fr M s0 s) :
    Fr M s0 (releasePass id s) := by
  unfold releasePass
  repeat' (first
    | with_reducible assumption
    | with_reducible apply keeps_modSet
    | with_reducible apply keeps_onSrc
    | with_reducible apply keeps_ticketDone
    | with_reducible apply keeps_prepareUnit
    | with_reducible apply keeps_returnUnit
    | with_reducible apply keeps_recovered
    | ((with_reducible refine sub_of hm ?_); exact rfl)
    | with_reducible exact Nat.le_refl _
    | with_reducible rfl
    | with_reducible exact ⟨rfl, rfl, rfl⟩
    | with_reducible intro _
    | split
    | dsimp only)

theorem keeps_releaseFail (hm : Sub 16252911 M) (id : Nat) (s : State) (hk : Fr M s0 s) :
    Fr M s0 (releaseFail id s) := by
  unfold releaseFail
  repeat' (first
    | with_reducible assumption
    | with_reducible apply keeps_onSrc
    | with_reducible apply keeps_ticketFail
    | with_reducible apply keeps_takeReport
    | ((with_reducible refine sub_of hm ?_); exact rfl)
    | with_reducible exact Nat.le_refl _
    | with_reducible rfl
    | with_reducible exact ⟨rfl, rfl, rfl⟩
    | with_reducible intro _
    | split
    | dsimp only)

theorem keeps_execReleaseTestDone (hm : Sub 16252911 M) (src : Nat) (pass : Bool) (s : State) (hk : Fr M s0 s) :
    KeepsX M s0 (execReleaseTestDone src pass s) := by
  unfold execReleaseTestDone
  repeat' (first
    | with_reducible assumption
    | with_reducible apply keeps_releasePass
    | with_reducible apply keeps_releaseFail
    | with_reducible apply keepsX_next
    | with_reducible exact keepsX_fault
    | with_reducible exact keepsX_refused
    | ((with_reducible refine sub_of hm ?_); exact rfl)
    | with_reducible exact Nat.le_refl _
    | with_reducible rfl
    | with_reducible exact ⟨rfl, rfl, rfl⟩
    | with_reducible intro _
    | split
    | dsimp only)

theorem keeps_execFaultQuery (hm : Sub 9438734 M) (q : Req) (s : State) (hk : Fr M s0 s) :
    KeepsX M s0 (execFaultQuery q s) := by
  unfold execFaultQuery
  repeat' (first
    | with_reducible assumption
    | with_reducible apply keeps_runCommand
    | with_reducible apply keeps_ans
    | with_reducible apply keepsX_next
    | with_reducible exact keepsX_fault
    | with_reducible exact keepsX_refused
    | ((with_reducible refine sub_of hm ?_); exact rfl)
    | with_reducible exact Nat.le_refl _
    | with_reducible rfl
    | with_reducible exact ⟨rfl, rfl, rfl⟩
    | with_reducible intro _
    | split
    | dsimp only)

theorem keeps_execFaultClasscfg (hm : Sub 15730190 M) (q : Req) (s : State) (hk : Fr M s0 s) :
    KeepsX M s0 (execFaultClasscfg q s) := by
  unfold execFaultClasscfg
  repeat' (first
    | with_reducible assumption
    | with_reducible apply keeps_modSet
    | with_reducible apply keeps_plain
    | with_reducible apply keeps_act
    | with_reducible apply keepsX_next
    | with_reducible exact keepsX_fault
    | with_reducible exact keepsX_refused
    | ((with_reducible refine sub_of hm ?_); exact rfl)
    | with_reducible exact Nat.le_refl _
    | with_reducible rfl
    | with_reducible exact ⟨rfl, rfl, rfl⟩
    | with_reducible intro _
    | split
    | dsimp only)

theorem keeps_execFaultIsolate (hm : Sub 9438734 M) (q : Req) (s : State) (hk : Fr M s0 s) :
    KeepsX M s0 (execFaultIsolate q s) := by
  unfold execFaultIsolate
  repeat' (first
    | with_reducible assumption
    | with_reducible apply keeps_longOp
    | with_reducible apply keepsX_next
    | with_reducible exact keepsX_fault
    | with_reducible exact keepsX_refused
    | ((with_reducible refine sub_of hm ?_); exact rfl)
    | with_reducible exact Nat.le_refl _
    | with_reducible rfl
    | with_reducible exact ⟨rfl, rfl, rfl⟩
    | with_reducible intro _
    | split
    | dsimp only)

theorem keeps_startIsolate (hm : Sub 16252910 M) (t : Ticket) (s : State) (hk : Fr M s0 s) :
    Fr M s0 (startIsolate t s) := by
  unfold startIsolate
  repeat' (first
    | with_reducible assumption
    | with_reducible apply keeps_modSet
    | with_reducible apply keeps_ticketDone
    | with_reducible apply keeps_ticketFail
    | with_reducible apply keeps_isolate
    | ((with_reducible refine sub_of hm ?_); exact rfl)
    | with_reducible exact Nat.le_refl _
    | with_reducible rfl
    | with_reducible exact ⟨rfl, rfl, rfl⟩
    | with_reducible intro _
    | split
    | dsimp only)

theorem keeps_execFaultRelease (hm : Sub 9438734 M) (q : Req) (s : State) (hk : Fr M s0 s) :
    KeepsX M s0 (execFaultRelease q s) := by
  unfold execFaultRelease
  repeat' (first
    | with_reducible assumption
    | with_reducible apply keeps_longOp
    | with_reducible apply keepsX_next
    | with_reducible exact keepsX_fault
    | with_reducible exact keepsX_refused
    | ((with_reducible refine sub_of hm ?_); exact rfl)
    | with_reducible exact Nat.le_refl _
    | with_reducible rfl
    | with_reducible exact ⟨rfl, rfl, rfl⟩
    | with_reducible intro _
    | split
    | dsimp only)

theorem keeps_startRelease (hm : Sub 9438766 M) (t : Ticket) (s : State) (hk : Fr M s0 s) :
    Fr M s0 (startRelease t s) := by
  unfold startRelease
  repeat' (first
    | with_reducible assumption
    | with_reducible apply keeps_onSrc
    | with_reducible apply keeps_ticketFail
    | ((with_reducible refine sub_of hm ?_); exact rfl)
    | with_reducible exact Nat.le_refl _
    | with_reducible rfl
    | with_reducible exact ⟨rfl, rfl, rfl⟩
    | with_reducible intro _
    | split
    | dsimp only)

theorem keeps_clearLatchFirst (hm : Sub 32 M) (s : State) (hk : Fr M s0 s) :
    Fr M s0 (clearLatchFirst s) := by
  unfold clearLatchFirst
  repeat' (first
    | with_reducible assumption
    | with_reducible apply keeps_onFlt
    | ((with_reducible refine sub_of hm ?_); exact rfl)
    | with_reducible exact Nat.le_refl _
    | with_reducible rfl
    | with_reducible exact ⟨rfl, rfl, rfl⟩
    | with_reducible intro _
    | split
    | dsimp only)

theorem keeps_clearCounts (hm : Sub 16252911 M) (s : State) (hk : Fr M s0 s) :
    Fr M s0 (clearCounts s) := by
  unfold clearCounts
  repeat' (first
    | with_reducible assumption
    | with_reducible apply keeps_forEach
    | with_reducible apply keeps_onSrc
    | with_reducible apply keeps_severe
    | ((with_reducible refine sub_of hm ?_); exact rfl)
    | with_reducible exact Nat.le_refl _
    | with_reducible rfl
    | with_reducible exact ⟨rfl, rfl, rfl⟩
    | with_reducible intro _
    | split
    | dsimp only)

theorem keeps_execFaultClear (hm : Sub 16252911 M) (q : Req) (s : State) (hk : Fr M s0 s) :
    KeepsX M s0 (execFaultClear q s) := by
  unfold execFaultClear
  repeat' (first
    | with_reducible assumption
    | with_reducible apply keeps_whenS
    | with_reducible apply keeps_plain
    | with_reducible apply keeps_act
    | with_reducible apply keeps_clearLatchFirst
    | with_reducible apply keeps_clearCounts
    | with_reducible apply keepsX_next
    | with_reducible exact keepsX_fault
    | with_reducible exact keepsX_refused
    | ((with_reducible refine sub_of hm ?_); exact rfl)
    | with_reducible exact Nat.le_refl _
    | with_reducible rfl
    | with_reducible exact ⟨rfl, rfl, rfl⟩
    | with_reducible intro _
    | split
    | dsimp only)

theorem keeps_execFltFirstClear (hm : Sub 32 M) (s : State) (hk : Fr M s0 s) :
    KeepsX M s0 (execFltFirstClear s) := by
  unfold execFltFirstClear
  repeat' (first
    | with_reducible assumption
    | with_reducible apply keeps_clearLatchFirst
    | with_reducible apply keepsX_next
    | with_reducible exact keepsX_fault
    | with_reducible exact keepsX_refused
    | ((with_reducible refine sub_of hm ?_); exact rfl)
    | with_reducible exact Nat.le_refl _
    | with_reducible rfl
    | with_reducible exact ⟨rfl, rfl, rfl⟩
    | with_reducible intro _
    | split
    | dsimp only)

theorem keeps_setTrigger (hm : Sub 6291456 M) (q : Req) (s : State) (hk : Fr M s0 s) :
    Fr M s0 (setTrigger q s).1 := by
  unfold setTrigger
  repeat' (first
    | with_reducible assumption
    | with_reducible apply keeps_modSet
    | ((with_reducible refine sub_of hm ?_); exact rfl)
    | with_reducible exact Nat.le_refl _
    | with_reducible rfl
    | with_reducible exact ⟨rfl, rfl, rfl⟩
    | with_reducible intro _
    | split
    | dsimp only)

theorem keeps_execEventTrigcfg (hm : Sub 15730190 M) (q : Req) (s : State) (hk : Fr M s0 s) :
    KeepsX M s0 (execEventTrigcfg q s) := by
  unfold execEventTrigcfg
  repeat' (first
    | with_reducible assumption
    | with_reducible apply keeps_runCommand
    | with_reducible apply keeps_setTrigger
    | with_reducible apply keepsX_next
    | with_reducible exact keepsX_fault
    | with_reducible exact keepsX_refused
    | with_reducible refine keeps_fst ‹_› ?_
    | ((with_reducible refine sub_of hm ?_); exact rfl)
    | with_reducible exact Nat.le_refl _
    | with_reducible rfl
    | with_reducible exact ⟨rfl, rfl, rfl⟩
    | with_reducible intro _
    | split
    | dsimp only)

theorem keeps_execEventRead (hm : Sub 9438734 M) (q : Req) (s : State) (hk : Fr M s0 s) :
    KeepsX M s0 (execEventRead q s) := by
  unfold execEventRead
  repeat' (first
    | with_reducible assumption
    | with_reducible apply keeps_runCommand
    | with_reducible apply keeps_ans
    | with_reducible apply keepsX_next
    | with_reducible exact keepsX_fault
    | with_reducible exact keepsX_refused
    | ((with_reducible refine sub_of hm ?_); exact rfl)
    | with_reducible exact Nat.le_refl _
    | with_reducible rfl
    | with_reducible exact ⟨rfl, rfl, rfl⟩
    | with_reducible intro _
    | split
    | dsimp only)

theorem keeps_execEventRestart (hm : Sub 9438766 M) (q : Req) (s : State) (hk : Fr M s0 s) :
    KeepsX M s0 (execEventRestart q s) := by
  unfold execEventRestart
  repeat' (first
    | with_reducible assumption
    | with_reducible apply keeps_evrRestart
    | with_reducible apply keeps_plain
    | with_reducible apply keeps_act
    | with_reducible apply keepsX_next
    | with_reducible exact keepsX_fault
    | with_reducible exact keepsX_refused
    | ((with_reducible refine sub_of hm ?_); exact rfl)
    | with_reducible exact Nat.le_refl _
    | with_reducible rfl
    | with_reducible exact ⟨rfl, rfl, rfl⟩
    | with_reducible intro _
    | split
    | dsimp only)

theorem keeps_execEvrRestartWrite (hm : Sub 8388640 M) (s : State) (hk : Fr M s0 s) :
    KeepsX M s0 (execEvrRestartWrite s) := by
  unfold execEvrRestartWrite
  repeat' (first
    | with_reducible assumption
    | with_reducible apply keeps_evrRestart
    | with_reducible apply keepsX_next
    | with_reducible exact keepsX_fault
    | with_reducible exact keepsX_refused
    | ((with_reducible refine sub_of hm ?_); exact rfl)
    | with_reducible exact Nat.le_refl _
    | with_reducible rfl
    | with_reducible exact ⟨rfl, rfl, rfl⟩
    | with_reducible intro _
    | split
    | dsimp only)

/-! ### Power -/

theorem keeps_onBrake (hm : Sub 64 M) (d : Nat) (f : Brake → Brake) (s : State) (hk : Fr M s0 s) :
    Fr M s0 (onBrake d f s) := by
  unfold onBrake
  repeat' (first
    | with_reducible assumption
    | with_reducible apply keeps_onEnv
    | ((with_reducible refine sub_of hm ?_); exact rfl)
    | with_reducible exact Nat.le_refl _
    | with_reducible rfl
    | with_reducible exact ⟨rfl, rfl, rfl⟩
    | with_reducible intro _
    | split
    | dsimp only)

theorem keeps_lowerDies (hm : Sub 64 M) (level : Nat) (s : State) (hk : Fr M s0 s) :
    Fr M s0 (lowerDies level s) := by
  unfold lowerDies
  repeat' (first
    | with_reducible assumption
    | with_reducible apply keeps_forEach
    | with_reducible apply keeps_onBrake
    | ((with_reducible refine sub_of hm ?_); exact rfl)
    | with_reducible exact Nat.le_refl _
    | with_reducible rfl
    | with_reducible exact ⟨rfl, rfl, rfl⟩
    | with_reducible intro _
    | split
    | dsimp only)

theorem keeps_raiseDies (hm : Sub 64 M) (level : Nat) (s : State) (hk : Fr M s0 s) :
    Fr M s0 (raiseDies level s) := by
  unfold raiseDies
  repeat' (first
    | with_reducible assumption
    | with_reducible apply keeps_forEach
    | with_reducible apply keeps_onBrake
    | ((with_reducible refine sub_of hm ?_); exact rfl)
    | with_reducible exact Nat.le_refl _
    | with_reducible rfl
    | with_reducible exact ⟨rfl, rfl, rfl⟩
    | with_reducible intro _
    | split
    | dsimp only)

theorem keeps_applyPresets (hm : Sub 64 M) (s : State) (hk : Fr M s0 s) :
    Fr M s0 (applyPresets s) := by
  unfold applyPresets
  repeat' (first
    | with_reducible assumption
    | with_reducible apply keeps_onEnv
    | with_reducible apply keeps_forEach
    | with_reducible apply keeps_onBrake
    | ((with_reducible refine sub_of hm ?_); exact rfl)
    | with_reducible exact Nat.le_refl _
    | with_reducible rfl
    | with_reducible exact ⟨rfl, rfl, rfl⟩
    | with_reducible intro _
    | split
    | dsimp only)

theorem keeps_reachScheduled (hm : Sub 8457952 M) (level : Nat) (s : State) (hk : Fr M s0 s) :
    Fr M s0 (reachScheduled level s) := by
  unfold reachScheduled
  repeat' (first
    | with_reducible assumption
    | with_reducible apply keeps_setBallast
    | with_reducible apply keeps_haltImage
    | ((with_reducible refine sub_of hm ?_); exact rfl)
    | with_reducible exact Nat.le_refl _
    | with_reducible rfl
    | with_reducible exact ⟨rfl, rfl, rfl⟩
    | with_reducible intro _
    | split
    | dsimp only)

theorem keeps_execDroguePresetUpdate (hm : Sub 64 M) (s : State) (hk : Fr M s0 s) :
    KeepsX M s0 (execDroguePresetUpdate s) := by
  unfold execDroguePresetUpdate
  repeat' (first
    | with_reducible assumption
    | with_reducible apply keeps_forEach
    | with_reducible apply keeps_onBrake
    | with_reducible apply keepsX_next
    | with_reducible exact keepsX_fault
    | with_reducible exact keepsX_refused
    | ((with_reducible refine sub_of hm ?_); exact rfl)
    | with_reducible exact Nat.le_refl _
    | with_reducible rfl
    | with_reducible exact ⟨rfl, rfl, rfl⟩
    | with_reducible intro _
    | split
    | dsimp only)

theorem keeps_startCap (hm : Sub 8388704 M) (s : State) (hk : Fr M s0 s) :
    Fr M s0 (startCap s) := by
  unfold startCap
  repeat' (first
    | with_reducible assumption
    | with_reducible apply keeps_onEnv
    | with_reducible apply keeps_whenS
    | with_reducible apply keeps_floorMissed
    | ((with_reducible refine sub_of hm ?_); exact rfl)
    | with_reducible exact Nat.le_refl _
    | with_reducible rfl
    | with_reducible exact ⟨rfl, rfl, rfl⟩
    | with_reducible intro _
    | split
    | dsimp only)

theorem keeps_capReached (hm : Sub 8388704 M) (s : State) (hk : Fr M s0 s) :
    Fr M s0 (capReached s) := by
  unfold capReached
  repeat' (first
    | with_reducible assumption
    | with_reducible apply keeps_onEnv
    | with_reducible apply keeps_record
    | with_reducible apply keeps_envEvent
    | ((with_reducible refine sub_of hm ?_); exact rfl)
    | with_reducible exact Nat.le_refl _
    | with_reducible rfl
    | with_reducible exact ⟨rfl, rfl, rfl⟩
    | with_reducible intro _
    | split
    | dsimp only)

theorem keeps_execCapDeadline (hm : Sub 8388704 M) (s : State) (hk : Fr M s0 s) :
    KeepsX M s0 (execCapDeadline s) := by
  unfold execCapDeadline
  repeat' (first
    | with_reducible assumption
    | with_reducible apply keeps_onEnv
    | with_reducible apply keeps_record
    | with_reducible apply keeps_envEvent
    | with_reducible apply keeps_applyPresets
    | with_reducible apply keepsX_next
    | with_reducible exact keepsX_fault
    | with_reducible exact keepsX_refused
    | ((with_reducible refine sub_of hm ?_); exact rfl)
    | with_reducible exact Nat.le_refl _
    | with_reducible rfl
    | with_reducible exact ⟨rfl, rfl, rfl⟩
    | with_reducible intro _
    | split
    | dsimp only)

theorem keeps_countExcess (hm : Sub 8388672 M) (x : Nat) (s : State) (hk : Fr M s0 s) :
    Fr M s0 (countExcess x s) := by
  unfold countExcess
  repeat' (first
    | with_reducible assumption
    | with_reducible apply keeps_onEnv
    | with_reducible apply keeps_envEvent
    | ((with_reducible refine sub_of hm ?_); exact rfl)
    | with_reducible exact Nat.le_refl _
    | with_reducible rfl
    | with_reducible exact ⟨rfl, rfl, rfl⟩
    | with_reducible intro _
    | split
    | dsimp only)

theorem keeps_takeFall (hm : Sub 8388672 M) (was now : Nat) (s : State) (hk : Fr M s0 s) :
    Fr M s0 (takeFall was now s) := by
  unfold takeFall
  repeat' (first
    | with_reducible assumption
    | with_reducible apply keeps_onEnv
    | with_reducible apply keeps_countExcess
    | ((with_reducible refine sub_of hm ?_); exact rfl)
    | with_reducible exact Nat.le_refl _
    | with_reducible rfl
    | with_reducible exact ⟨rfl, rfl, rfl⟩
    | with_reducible intro _
    | split
    | dsimp only)

theorem keeps_rampBallast (hm : Sub 64 M) (s : State) (hk : Fr M s0 s) :
    Fr M s0 (rampBallast s) := by
  unfold rampBallast
  repeat' (first
    | with_reducible assumption
    | with_reducible apply keeps_setBallast
    | ((with_reducible refine sub_of hm ?_); exact rfl)
    | with_reducible exact Nat.le_refl _
    | with_reducible rfl
    | with_reducible exact ⟨rfl, rfl, rfl⟩
    | with_reducible intro _
    | split
    | dsimp only)

theorem keeps_shedLoad (hm : Sub 64 M) (level : Nat) (s : State) (hk : Fr M s0 s) :
    Fr M s0 (shedLoad level s) := by
  unfold shedLoad
  repeat' (first
    | with_reducible assumption
    | with_reducible apply keeps_onEnv
    | with_reducible apply keeps_lowerDies
    | ((with_reducible refine sub_of hm ?_); exact rfl)
    | with_reducible exact Nat.le_refl _
    | with_reducible rfl
    | with_reducible exact ⟨rfl, rfl, rfl⟩
    | with_reducible intro _
    | split
    | dsimp only)

theorem keeps_raiseLoad (hm : Sub 64 M) (level : Nat) (s : State) (hk : Fr M s0 s) :
    Fr M s0 (raiseLoad level s) := by
  unfold raiseLoad
  repeat' (first
    | with_reducible assumption
    | with_reducible apply keeps_onEnv
    | with_reducible apply keeps_raiseDies
    | ((with_reducible refine sub_of hm ?_); exact rfl)
    | with_reducible exact Nat.le_refl _
    | with_reducible rfl
    | with_reducible exact ⟨rfl, rfl, rfl⟩
    | with_reducible intro _
    | split
    | dsimp only)

theorem keeps_holdCap (hm : Sub 8457952 M) (s : State) (hk : Fr M s0 s) :
    Fr M s0 (holdCap s) := by
  unfold holdCap
  repeat' (first
    | with_reducible assumption
    | with_reducible apply keeps_forEach
    | with_reducible apply keeps_reachScheduled
    | with_reducible apply keeps_shedLoad
    | with_reducible apply keeps_raiseLoad
    | ((with_reducible refine sub_of hm ?_); exact rfl)
    | with_reducible exact Nat.le_refl _
    | with_reducible rfl
    | with_reducible exact ⟨rfl, rfl, rfl⟩
    | with_reducible intro _
    | split
    | dsimp only)

theorem keeps_execPowerMeasurement (hm : Sub 8457952 M) (vin iin : Nat) (s : State) (hk : Fr M s0 s) :
    KeepsX M s0 (execPowerMeasurement vin iin s) := by
  unfold execPowerMeasurement
  repeat' (first
    | with_reducible assumption
    | with_reducible apply keeps_onEnv
    | with_reducible apply keeps_capReached
    | with_reducible apply keeps_takeFall
    | with_reducible apply keeps_rampBallast
    | with_reducible apply keeps_holdCap
    | with_reducible apply keepsX_next
    | with_reducible exact keepsX_fault
    | with_reducible exact keepsX_refused
    | ((with_reducible refine sub_of hm ?_); exact rfl)
    | with_reducible exact Nat.le_refl _
    | with_reducible rfl
    | with_reducible exact ⟨rfl, rfl, rfl⟩
    | with_reducible intro _
    | split
    | dsimp only)

theorem keeps_startDrogue (hm : Sub 8457952 M) (cause : Nat) (s : State) (hk : Fr M s0 s) :
    Fr M s0 (startDrogue cause s) := by
  unfold startDrogue
  repeat' (first
    | with_reducible assumption
    | with_reducible apply keeps_onEnv
    | with_reducible apply keeps_whenS
    | with_reducible apply keeps_record
    | with_reducible apply keeps_envEvent
    | with_reducible apply keeps_applyPresets
    | with_reducible apply keeps_reachScheduled
    | ((with_reducible refine sub_of hm ?_); exact rfl)
    | with_reducible exact Nat.le_refl _
    | with_reducible rfl
    | with_reducible exact ⟨rfl, rfl, rfl⟩
    | with_reducible intro _
    | split
    | dsimp only)

theorem keeps_execDrogueAssert (hm : Sub 9928673 M) (s : State) (hk : Fr M s0 s) :
    KeepsX M s0 (execDrogueAssert s) := by
  unfold execDrogueAssert
  repeat' (first
    | with_reducible assumption
    | with_reducible apply keeps_onEnv
    | with_reducible apply keeps_ripcord
    | with_reducible apply keeps_startDrogue
    | with_reducible apply keepsX_next
    | with_reducible exact keepsX_fault
    | with_reducible exact keepsX_refused
    | ((with_reducible refine sub_of hm ?_); exact rfl)
    | with_reducible exact Nat.le_refl _
    | with_reducible rfl
    | with_reducible exact ⟨rfl, rfl, rfl⟩
    | with_reducible intro _
    | split
    | dsimp only)

theorem keeps_execVinDrogueLow (hm : Sub 8457952 M) (cv : Nat) (s : State) (hk : Fr M s0 s) :
    KeepsX M s0 (execVinDrogueLow cv s) := by
  unfold execVinDrogueLow
  repeat' (first
    | with_reducible assumption
    | with_reducible apply keeps_onEnv
    | with_reducible apply keeps_startDrogue
    | with_reducible apply keepsX_next
    | with_reducible exact keepsX_fault
    | with_reducible exact keepsX_refused
    | ((with_reducible refine sub_of hm ?_); exact rfl)
    | with_reducible exact Nat.le_refl _
    | with_reducible rfl
    | with_reducible exact ⟨rfl, rfl, rfl⟩
    | with_reducible intro _
    | split
    | dsimp only)

theorem keeps_execDrogueEnd (hm : Sub 64 M) (cv : Nat) (s : State) (hk : Fr M s0 s) :
    KeepsX M s0 (execDrogueEnd cv s) := by
  unfold execDrogueEnd
  repeat' (first
    | with_reducible assumption
    | with_reducible apply keeps_onEnv
    | with_reducible apply keepsX_next
    | with_reducible exact keepsX_fault
    | with_reducible exact keepsX_refused
    | ((with_reducible refine sub_of hm ?_); exact rfl)
    | with_reducible exact Nat.le_refl _
    | with_reducible rfl
    | with_reducible exact ⟨rfl, rfl, rfl⟩
    | with_reducible intro _
    | split
    | dsimp only)

theorem keeps_startPump (hm : Sub 15142624 M) (cause sensor : Nat) (s : State) (hk : Fr M s0 s) :
    Fr M s0 (startPump cause sensor s) := by
  unfold startPump
  repeat' (first
    | with_reducible assumption
    | with_reducible apply keeps_onEnv
    | with_reducible apply keeps_whenS
    | with_reducible apply keeps_record
    | with_reducible apply keeps_envEvent
    | with_reducible apply keeps_startEmergency
    | with_reducible apply keeps_lowerDies
    | with_reducible apply keeps_reachScheduled
    | ((with_reducible refine sub_of hm ?_); exact rfl)
    | with_reducible exact Nat.le_refl _
    | with_reducible rfl
    | with_reducible exact ⟨rfl, rfl, rfl⟩
    | with_reducible intro _
    | split
    | dsimp only)

theorem keeps_execPumpConditionStart (hm : Sub 16220129 M) (s : State) (hk : Fr M s0 s) :
    KeepsX M s0 (execPumpConditionStart s) := by
  unfold execPumpConditionStart
  repeat' (first
    | with_reducible assumption
    | with_reducible apply keeps_onEnv
    | with_reducible apply keeps_ripcord
    | with_reducible apply keeps_startPump
    | with_reducible apply keepsX_next
    | with_reducible exact keepsX_fault
    | with_reducible exact keepsX_refused
    | ((with_reducible refine sub_of hm ?_); exact rfl)
    | with_reducible exact Nat.le_refl _
    | with_reducible rfl
    | with_reducible exact ⟨rfl, rfl, rfl⟩
    | with_reducible intro _
    | split
    | dsimp only)

theorem keeps_execPumpConditionEnd (hm : Sub 64 M) (s : State) (hk : Fr M s0 s) :
    KeepsX M s0 (execPumpConditionEnd s) := by
  unfold execPumpConditionEnd
  repeat' (first
    | with_reducible assumption
    | with_reducible apply keeps_onEnv
    | with_reducible apply keepsX_next
    | with_reducible exact keepsX_fault
    | with_reducible exact keepsX_refused
    | ((with_reducible refine sub_of hm ?_); exact rfl)
    | with_reducible exact Nat.le_refl _
    | with_reducible rfl
    | with_reducible exact ⟨rfl, rfl, rfl⟩
    | with_reducible intro _
    | split
    | dsimp only)

theorem keeps_thermalStep (hm : Sub 64 M) (d : Nat) (s : State) (hk : Fr M s0 s) :
    Fr M s0 (thermalStep d s) := by
  unfold thermalStep
  repeat' (first
    | with_reducible assumption
    | with_reducible apply keeps_onBrake
    | ((with_reducible refine sub_of hm ?_); exact rfl)
    | with_reducible exact Nat.le_refl _
    | with_reducible rfl
    | with_reducible exact ⟨rfl, rfl, rfl⟩
    | with_reducible intro _
    | split
    | dsimp only)

theorem keeps_showThermal (hm : Sub 8388672 M) (s : State) (hk : Fr M s0 s) :
    Fr M s0 (showThermal s) := by
  unfold showThermal
  repeat' (first
    | with_reducible assumption
    | with_reducible apply keeps_onEnv
    | with_reducible apply keeps_whenS
    | with_reducible apply keeps_envEvent
    | ((with_reducible refine sub_of hm ?_); exact rfl)
    | with_reducible exact Nat.le_refl _
    | with_reducible rfl
    | with_reducible exact ⟨rfl, rfl, rfl⟩
    | with_reducible intro _
    | split
    | dsimp only)

theorem keeps_coolTrip (hm : Sub 64 M) (s : State) (hk : Fr M s0 s) :
    Fr M s0 (coolTrip s) := by
  unfold coolTrip
  repeat' (first
    | with_reducible assumption
    | with_reducible apply keeps_onEnv
    | ((with_reducible refine sub_of hm ?_); exact rfl)
    | with_reducible exact Nat.le_refl _
    | with_reducible rfl
    | with_reducible exact ⟨rfl, rfl, rfl⟩
    | with_reducible intro _
    | split
    | dsimp only)

theorem keeps_execSensorReading (hm : Sub 16220129 M) (inst : Nat) (val : Int) (s : State) (hk : Fr M s0 s) :
    KeepsX M s0 (execSensorReading inst val s) := by
  unfold execSensorReading
  repeat' (first
    | with_reducible assumption
    | with_reducible apply keeps_onEnv
    | with_reducible apply keeps_whenS
    | with_reducible apply keeps_ripcord
    | with_reducible apply keeps_startPump
    | with_reducible apply keeps_thermalStep
    | with_reducible apply keeps_showThermal
    | with_reducible apply keeps_coolTrip
    | with_reducible apply keepsX_next
    | with_reducible exact keepsX_fault
    | with_reducible exact keepsX_refused
    | ((with_reducible refine sub_of hm ?_); exact rfl)
    | with_reducible exact Nat.le_refl _
    | with_reducible rfl
    | with_reducible exact ⟨rfl, rfl, rfl⟩
    | with_reducible intro _
    | split
    | dsimp only)

theorem keeps_execThermalTrip (hm : Sub 12058623 M) (sensor : Nat) (s : State) (hk : Fr M s0 s) :
    KeepsX M s0 (execThermalTrip sensor s) := by
  unfold execThermalTrip
  repeat' (first
    | with_reducible assumption
    | with_reducible apply keeps_onEnv
    | with_reducible apply keeps_haltImage
    | with_reducible apply keeps_toStandby
    | with_reducible apply keepsX_next
    | with_reducible exact keepsX_fault
    | with_reducible exact keepsX_refused
    | ((with_reducible refine sub_of hm ?_); exact rfl)
    | with_reducible exact Nat.le_refl _
    | with_reducible rfl
    | with_reducible exact ⟨rfl, rfl, rfl⟩
    | with_reducible intro _
    | split
    | dsimp only)

theorem keeps_execRipcordInput (hm : Sub 9928673 M) (s : State) (hk : Fr M s0 s) :
    KeepsX M s0 (execRipcordInput s) := by
  unfold execRipcordInput
  repeat' (first
    | with_reducible assumption
    | with_reducible apply keeps_onEnv
    | with_reducible apply keeps_ripcord
    | with_reducible apply keepsX_next
    | with_reducible exact keepsX_fault
    | with_reducible exact keepsX_refused
    | ((with_reducible refine sub_of hm ?_); exact rfl)
    | with_reducible exact Nat.le_refl _
    | with_reducible rfl
    | with_reducible exact ⟨rfl, rfl, rfl⟩
    | with_reducible intro _
    | split
    | dsimp only)

theorem keeps_execLeakInput (hm : Sub 9928673 M) (sensor : Nat) (s : State) (hk : Fr M s0 s) :
    KeepsX M s0 (execLeakInput sensor s) := by
  unfold execLeakInput
  repeat' (first
    | with_reducible assumption
    | with_reducible apply keeps_onEnv
    | with_reducible apply keeps_record
    | with_reducible apply keeps_ripcord
    | with_reducible apply keepsX_next
    | with_reducible exact keepsX_fault
    | with_reducible exact keepsX_refused
    | ((with_reducible refine sub_of hm ?_); exact rfl)
    | with_reducible exact Nat.le_refl _
    | with_reducible rfl
    | with_reducible exact ⟨rfl, rfl, rfl⟩
    | with_reducible intro _
    | split
    | dsimp only)

theorem keeps_execHeartbeatMissed (hm : Sub 8388705 M) (s : State) (hk : Fr M s0 s) :
    KeepsX M s0 (execHeartbeatMissed s) := by
  unfold execHeartbeatMissed
  repeat' (first
    | with_reducible assumption
    | with_reducible apply keeps_onEnv
    | with_reducible apply keeps_record
    | with_reducible apply keeps_envEvent
    | with_reducible apply keeps_moveTo
    | with_reducible apply keeps_startCap
    | with_reducible apply keepsX_next
    | with_reducible exact keepsX_fault
    | with_reducible exact keepsX_refused
    | ((with_reducible refine sub_of hm ?_); exact rfl)
    | with_reducible exact Nat.le_refl _
    | with_reducible rfl
    | with_reducible exact ⟨rfl, rfl, rfl⟩
    | with_reducible intro _
    | split
    | dsimp only)

theorem keeps_execKeelLossOrphanCap (hm : Sub 8388704 M) (s : State) (hk : Fr M s0 s) :
    KeepsX M s0 (execKeelLossOrphanCap s) := by
  unfold execKeelLossOrphanCap
  repeat' (first
    | with_reducible assumption
    | with_reducible apply keeps_onEnv
    | with_reducible apply keeps_startCap
    | with_reducible apply keepsX_next
    | with_reducible exact keepsX_fault
    | with_reducible exact keepsX_refused
    | ((with_reducible refine sub_of hm ?_); exact rfl)
    | with_reducible exact Nat.le_refl _
    | with_reducible rfl
    | with_reducible exact ⟨rfl, rfl, rfl⟩
    | with_reducible intro _
    | split
    | dsimp only)

theorem keeps_heartbeat (hm : Sub 8388705 M) (s : State) (hk : Fr M s0 s) :
    Fr M s0 (heartbeat s).1 := by
  unfold heartbeat
  repeat' (first
    | with_reducible assumption
    | with_reducible apply keeps_onEnv
    | with_reducible apply keeps_record
    | with_reducible apply keeps_moveTo
    | with_reducible apply keeps_startCap
    | ((with_reducible refine sub_of hm ?_); exact rfl)
    | with_reducible exact Nat.le_refl _
    | with_reducible rfl
    | with_reducible exact ⟨rfl, rfl, rfl⟩
    | with_reducible intro _
    | split
    | dsimp only)

theorem keeps_execEnvHeartbeat (hm : Sub 9438831 M) (q : Req) (s : State) (hk : Fr M s0 s) :
    KeepsX M s0 (execEnvHeartbeat q s) := by
  unfold execEnvHeartbeat
  repeat' (first
    | with_reducible assumption
    | with_reducible apply keeps_plain
    | with_reducible apply keeps_heartbeat
    | with_reducible apply keepsX_next
    | with_reducible exact keepsX_fault
    | with_reducible exact keepsX_refused
    | with_reducible refine keeps_fst ‹_› ?_
    | ((with_reducible refine sub_of hm ?_); exact rfl)
    | with_reducible exact Nat.le_refl _
    | with_reducible rfl
    | with_reducible exact ⟨rfl, rfl, rfl⟩
    | with_reducible intro _
    | split
    | dsimp only)

theorem keeps_psuAlert (hm : Sub 8388704 M) (bay cause : Nat) (s : State) (hk : Fr M s0 s) :
    Fr M s0 (psuAlert bay cause s) := by
  unfold psuAlert
  repeat' (first
    | with_reducible assumption
    | with_reducible apply keeps_record
    | with_reducible apply keeps_envEvent
    | ((with_reducible refine sub_of hm ?_); exact rfl)
    | with_reducible exact Nat.le_refl _
    | with_reducible rfl
    | with_reducible exact ⟨rfl, rfl, rfl⟩
    | with_reducible intro _
    | split
    | dsimp only)

theorem keeps_settleShelf (hm : Sub 8388704 M) (s : State) (hk : Fr M s0 s) :
    Fr M s0 (settleShelf s) := by
  unfold settleShelf
  repeat' (first
    | with_reducible assumption
    | with_reducible apply keeps_onEnv
    | with_reducible apply keeps_psuAlert
    | ((with_reducible refine sub_of hm ?_); exact rfl)
    | with_reducible exact Nat.le_refl _
    | with_reducible rfl
    | with_reducible exact ⟨rfl, rfl, rfl⟩
    | with_reducible intro _
    | split
    | dsimp only)

theorem keeps_takePsu (hm : Sub 8388704 M) (b : Nat) (p : Option Psu) (s : State) (hk : Fr M s0 s) :
    Fr M s0 (takePsu b p s) := by
  unfold takePsu
  repeat' (first
    | with_reducible assumption
    | with_reducible apply keeps_onEnv
    | with_reducible apply keeps_whenS
    | with_reducible apply keeps_report
    | with_reducible apply keeps_psuAlert
    | ((with_reducible refine sub_of hm ?_); exact rfl)
    | with_reducible exact Nat.le_refl _
    | with_reducible rfl
    | with_reducible exact ⟨rfl, rfl, rfl⟩
    | with_reducible intro _
    | split
    | dsimp only)

theorem keeps_takePsus (hm : Sub 8388704 M) (rds : List (Option Psu)) (s : State) (hk : Fr M s0 s) :
    Fr M s0 (takePsus rds s) := by
  unfold takePsus
  repeat' (first
    | with_reducible assumption
    | with_reducible apply keeps_forEach
    | with_reducible apply keeps_settleShelf
    | with_reducible apply keeps_takePsu
    | ((with_reducible refine sub_of hm ?_); exact rfl)
    | with_reducible exact Nat.le_refl _
    | with_reducible rfl
    | with_reducible exact ⟨rfl, rfl, rfl⟩
    | with_reducible intro _
    | split
    | dsimp only)

theorem keeps_execPsuPoll (hm : Sub 8388704 M) (rds : List (Option Psu)) (s : State) (hk : Fr M s0 s) :
    KeepsX M s0 (execPsuPoll rds s) := by
  unfold execPsuPoll
  repeat' (first
    | with_reducible assumption
    | with_reducible apply keeps_onEnv
    | with_reducible apply keeps_takePsus
    | with_reducible apply keepsX_next
    | with_reducible exact keepsX_fault
    | with_reducible exact keepsX_refused
    | ((with_reducible refine sub_of hm ?_); exact rfl)
    | with_reducible exact Nat.le_refl _
    | with_reducible rfl
    | with_reducible exact ⟨rfl, rfl, rfl⟩
    | with_reducible intro _
    | split
    | dsimp only)

theorem keeps_execPsuAlertInput (hm : Sub 8388704 M) (rds : List (Option Psu)) (s : State) (hk : Fr M s0 s) :
    KeepsX M s0 (execPsuAlertInput rds s) := by
  unfold execPsuAlertInput
  repeat' (first
    | with_reducible assumption
    | with_reducible apply keeps_onEnv
    | with_reducible apply keeps_takePsus
    | with_reducible apply keepsX_next
    | with_reducible exact keepsX_fault
    | with_reducible exact keepsX_refused
    | ((with_reducible refine sub_of hm ?_); exact rfl)
    | with_reducible exact Nat.le_refl _
    | with_reducible rfl
    | with_reducible exact ⟨rfl, rfl, rfl⟩
    | with_reducible intro _
    | split
    | dsimp only)

theorem keeps_onEnvCfg (hm : Sub 6291456 M) (f : EnvCfg → EnvCfg) (s : State) (hk : Fr M s0 s) :
    Fr M s0 (onEnvCfg f s) := by
  unfold onEnvCfg
  repeat' (first
    | with_reducible assumption
    | with_reducible apply keeps_modSet
    | ((with_reducible refine sub_of hm ?_); exact rfl)
    | with_reducible exact Nat.le_refl _
    | with_reducible rfl
    | with_reducible exact ⟨rfl, rfl, rfl⟩
    | with_reducible intro _
    | split
    | dsimp only)

theorem keeps_setCap (hm : Sub 14680160 M) (w slew : Nat) (s : State) (hk : Fr M s0 s) :
    Fr M s0 (setCap w slew s).1 := by
  unfold setCap
  repeat' (first
    | with_reducible assumption
    | with_reducible apply keeps_startCap
    | with_reducible apply keeps_onEnvCfg
    | ((with_reducible refine sub_of hm ?_); exact rfl)
    | with_reducible exact Nat.le_refl _
    | with_reducible rfl
    | with_reducible exact ⟨rfl, rfl, rfl⟩
    | with_reducible intro _
    | split
    | dsimp only)

theorem keeps_execEnvCap (hm : Sub 15730286 M) (q : Req) (s : State) (hk : Fr M s0 s) :
    KeepsX M s0 (execEnvCap q s) := by
  unfold execEnvCap
  repeat' (first
    | with_reducible assumption
    | with_reducible apply keeps_runCommand
    | with_reducible apply keeps_setCap
    | with_reducible apply keepsX_next
    | with_reducible exact keepsX_fault
    | with_reducible exact keepsX_refused
    | with_reducible refine keeps_fst ‹_› ?_
    | ((with_reducible refine sub_of hm ?_); exact rfl)
    | with_reducible exact Nat.le_refl _
    | with_reducible rfl
    | with_reducible exact ⟨rfl, rfl, rfl⟩
    | with_reducible intro _
    | split
    | dsimp only)

theorem keeps_execEnvRampcfg (hm : Sub 15730190 M) (q : Req) (s : State) (hk : Fr M s0 s) :
    KeepsX M s0 (execEnvRampcfg q s) := by
  unfold execEnvRampcfg
  repeat' (first
    | with_reducible assumption
    | with_reducible apply keeps_plain
    | with_reducible apply keeps_act
    | with_reducible apply keeps_onEnvCfg
    | with_reducible apply keepsX_next
    | with_reducible exact keepsX_fault
    | with_reducible exact keepsX_refused
    | ((with_reducible refine sub_of hm ?_); exact rfl)
    | with_reducible exact Nat.le_refl _
    | with_reducible rfl
    | with_reducible exact ⟨rfl, rfl, rfl⟩
    | with_reducible intro _
    | split
    | dsimp only)

theorem keeps_execEnvBrakecfg (hm : Sub 15730190 M) (q : Req) (s : State) (hk : Fr M s0 s) :
    KeepsX M s0 (execEnvBrakecfg q s) := by
  unfold execEnvBrakecfg
  repeat' (first
    | with_reducible assumption
    | with_reducible apply keeps_plain
    | with_reducible apply keeps_act
    | with_reducible apply keeps_onEnvCfg
    | with_reducible apply keepsX_next
    | with_reducible exact keepsX_fault
    | with_reducible exact keepsX_refused
    | ((with_reducible refine sub_of hm ?_); exact rfl)
    | with_reducible exact Nat.le_refl _
    | with_reducible rfl
    | with_reducible exact ⟨rfl, rfl, rfl⟩
    | with_reducible intro _
    | split
    | dsimp only)

theorem keeps_setOrphan (hm : Sub 14680160 M) (q : Req) (s : State) (hk : Fr M s0 s) :
    Fr M s0 (setOrphan q s) := by
  unfold setOrphan
  repeat' (first
    | with_reducible assumption
    | with_reducible apply keeps_whenS
    | with_reducible apply keeps_startCap
    | with_reducible apply keeps_onEnvCfg
    | ((with_reducible refine sub_of hm ?_); exact rfl)
    | with_reducible exact Nat.le_refl _
    | with_reducible rfl
    | with_reducible exact ⟨rfl, rfl, rfl⟩
    | with_reducible intro _
    | split
    | dsimp only)

theorem keeps_execEnvOrphancfg (hm : Sub 15730286 M) (q : Req) (s : State) (hk : Fr M s0 s) :
    KeepsX M s0 (execEnvOrphancfg q s) := by
  unfold execEnvOrphancfg
  repeat' (first
    | with_reducible assumption
    | with_reducible apply keeps_plain
    | with_reducible apply keeps_act
    | with_reducible apply keeps_setOrphan
    | with_reducible apply keepsX_next
    | with_reducible exact keepsX_fault
    | with_reducible exact keepsX_refused
    | ((with_reducible refine sub_of hm ?_); exact rfl)
    | with_reducible exact Nat.le_refl _
    | with_reducible rfl
    | with_reducible exact ⟨rfl, rfl, rfl⟩
    | with_reducible intro _
    | split
    | dsimp only)

theorem keeps_execEnvQuery (hm : Sub 9438734 M) (q : Req) (s : State) (hk : Fr M s0 s) :
    KeepsX M s0 (execEnvQuery q s) := by
  unfold execEnvQuery
  repeat' (first
    | with_reducible assumption
    | with_reducible apply keeps_plain
    | with_reducible apply keeps_ans
    | with_reducible apply keepsX_next
    | with_reducible exact keepsX_fault
    | with_reducible exact keepsX_refused
    | ((with_reducible refine sub_of hm ?_); exact rfl)
    | with_reducible exact Nat.le_refl _
    | with_reducible rfl
    | with_reducible exact ⟨rfl, rfl, rfl⟩
    | with_reducible intro _
    | split
    | dsimp only)

theorem keeps_execEnvSensors (hm : Sub 9438734 M) (q : Req) (s : State) (hk : Fr M s0 s) :
    KeepsX M s0 (execEnvSensors q s) := by
  unfold execEnvSensors
  repeat' (first
    | with_reducible assumption
    | with_reducible apply keeps_plain
    | with_reducible apply keeps_ans
    | with_reducible apply keepsX_next
    | with_reducible exact keepsX_fault
    | with_reducible exact keepsX_refused
    | ((with_reducible refine sub_of hm ?_); exact rfl)
    | with_reducible exact Nat.le_refl _
    | with_reducible rfl
    | with_reducible exact ⟨rfl, rfl, rfl⟩
    | with_reducible intro _
    | split
    | dsimp only)

theorem keeps_execEnvPsu (hm : Sub 9438734 M) (q : Req) (s : State) (hk : Fr M s0 s) :
    KeepsX M s0 (execEnvPsu q s) := by
  unfold execEnvPsu
  repeat' (first
    | with_reducible assumption
    | with_reducible apply keeps_plain
    | with_reducible apply keeps_ans
    | with_reducible apply keepsX_next
    | with_reducible exact keepsX_fault
    | with_reducible exact keepsX_refused
    | ((with_reducible refine sub_of hm ?_); exact rfl)
    | with_reducible exact Nat.le_refl _
    | with_reducible rfl
    | with_reducible exact ⟨rfl, rfl, rfl⟩
    | with_reducible intro _
    | split
    | dsimp only)

theorem keeps_leave (hm : Sub 12058623 M) (s : State) (hk : Fr M s0 s) :
    Fr M s0 (leave s) := by
  unfold leave
  repeat' (first
    | with_reducible assumption
    | with_reducible apply keeps_onSys
    | with_reducible apply keeps_toStandby
    | with_reducible apply keeps_tryStart
    | ((with_reducible refine sub_of hm ?_); exact rfl)
    | with_reducible exact Nat.le_refl _
    | with_reducible rfl
    | with_reducible exact ⟨rfl, rfl, rfl⟩
    | with_reducible intro _
    | split
    | dsimp only)

theorem keeps_execEnvRipcord (hm : Sub 12058623 M) (q : Req) (s : State) (hk : Fr M s0 s) :
    KeepsX M s0 (execEnvRipcord q s) := by
  unfold execEnvRipcord
  repeat' (first
    | with_reducible assumption
    | with_reducible apply keeps_onSys
    | with_reducible apply keeps_plain
    | with_reducible apply keeps_act
    | with_reducible apply keeps_ripcord
    | with_reducible apply keeps_leave
    | with_reducible apply keepsX_next
    | with_reducible exact keepsX_fault
    | with_reducible exact keepsX_refused
    | ((with_reducible refine sub_of hm ?_); exact rfl)
    | with_reducible exact Nat.le_refl _
    | with_reducible rfl
    | with_reducible exact ⟨rfl, rfl, rfl⟩
    | with_reducible intro _
    | split
    | dsimp only)

theorem keeps_setTray (hm : Sub 14680160 M) (q : Req) (s : State) (hk : Fr M s0 s) :
    Fr M s0 (setTray q s) := by
  unfold setTray
  repeat' (first
    | with_reducible assumption
    | with_reducible apply keeps_forEach
    | with_reducible apply keeps_psuAlert
    | with_reducible apply keeps_onEnvCfg
    | ((with_reducible refine sub_of hm ?_); exact rfl)
    | with_reducible exact Nat.le_refl _
    | with_reducible rfl
    | with_reducible exact ⟨rfl, rfl, rfl⟩
    | with_reducible intro _
    | split
    | dsimp only)

theorem keeps_execEnvTraycfg (hm : Sub 15730286 M) (q : Req) (s : State) (hk : Fr M s0 s) :
    KeepsX M s0 (execEnvTraycfg q s) := by
  unfold execEnvTraycfg
  repeat' (first
    | with_reducible assumption
    | with_reducible apply keeps_plain
    | with_reducible apply keeps_act
    | with_reducible apply keeps_setTray
    | with_reducible apply keepsX_next
    | with_reducible exact keepsX_fault
    | with_reducible exact keepsX_refused
    | ((with_reducible refine sub_of hm ?_); exact rfl)
    | with_reducible exact Nat.le_refl _
    | with_reducible rfl
    | with_reducible exact ⟨rfl, rfl, rfl⟩
    | with_reducible intro _
    | split
    | dsimp only)

theorem keeps_execEnvTrayquery (hm : Sub 9438734 M) (q : Req) (s : State) (hk : Fr M s0 s) :
    KeepsX M s0 (execEnvTrayquery q s) := by
  unfold execEnvTrayquery
  repeat' (first
    | with_reducible assumption
    | with_reducible apply keeps_plain
    | with_reducible apply keeps_ans
    | with_reducible apply keepsX_next
    | with_reducible exact keepsX_fault
    | with_reducible exact keepsX_refused
    | ((with_reducible refine sub_of hm ?_); exact rfl)
    | with_reducible exact Nat.le_refl _
    | with_reducible rfl
    | with_reducible exact ⟨rfl, rfl, rfl⟩
    | with_reducible intro _
    | split
    | dsimp only)

/-! ### Host -/

theorem keeps_linkDown (hm : Sub 8388656 M) (s : State) (hk : Fr M s0 s) :
    Fr M s0 (linkDown s) := by
  unfold linkDown
  repeat' (first
    | with_reducible assumption
    | with_reducible apply keeps_onHost
    | with_reducible apply keeps_record
    | ((with_reducible refine sub_of hm ?_); exact rfl)
    | with_reducible exact Nat.le_refl _
    | with_reducible rfl
    | with_reducible exact ⟨rfl, rfl, rfl⟩
    | with_reducible intro _
    | split
    | dsimp only)

theorem keeps_execHostLinkChange (hm : Sub 8388656 M) (mode width rate : Nat) (s : State) (hk : Fr M s0 s) :
    KeepsX M s0 (execHostLinkChange mode width rate s) := by
  unfold execHostLinkChange
  repeat' (first
    | with_reducible assumption
    | with_reducible apply keeps_onHost
    | with_reducible apply keeps_record
    | with_reducible apply keeps_linkDown
    | with_reducible apply keepsX_next
    | with_reducible exact keepsX_fault
    | with_reducible exact keepsX_refused
    | ((with_reducible refine sub_of hm ?_); exact rfl)
    | with_reducible exact Nat.le_refl _
    | with_reducible rfl
    | with_reducible exact ⟨rfl, rfl, rfl⟩
    | with_reducible intro _
    | split
    | dsimp only)

theorem keeps_hostBlocks (hm : Sub 24 M) (s : State) (hk : Fr M s0 s) :
    Fr M s0 (hostBlocks s) := by
  unfold hostBlocks
  repeat' (first
    | with_reducible assumption
    | with_reducible apply keeps_onCmdR
    | with_reducible apply keeps_onHost
    | ((with_reducible refine sub_of hm ?_); exact rfl)
    | with_reducible exact Nat.le_refl _
    | with_reducible rfl
    | with_reducible exact ⟨rfl, rfl, rfl⟩
    | with_reducible intro _
    | split
    | dsimp only)

theorem keeps_execPerstAssert (hm : Sub 8388664 M) (hot : Bool) (s : State) (hk : Fr M s0 s) :
    KeepsX M s0 (execPerstAssert hot s) := by
  unfold execPerstAssert
  repeat' (first
    | with_reducible assumption
    | with_reducible apply keeps_onHost
    | with_reducible apply keeps_linkDown
    | with_reducible apply keeps_hostBlocks
    | with_reducible apply keepsX_next
    | with_reducible exact keepsX_fault
    | with_reducible exact keepsX_refused
    | ((with_reducible refine sub_of hm ?_); exact rfl)
    | with_reducible exact Nat.le_refl _
    | with_reducible rfl
    | with_reducible exact ⟨rfl, rfl, rfl⟩
    | with_reducible intro _
    | split
    | dsimp only)

theorem keeps_execPerstDeassert (hm : Sub 16 M) (s : State) (hk : Fr M s0 s) :
    KeepsX M s0 (execPerstDeassert s) := by
  unfold execPerstDeassert
  repeat' (first
    | with_reducible assumption
    | with_reducible apply keeps_onHost
    | with_reducible apply keepsX_next
    | with_reducible exact keepsX_fault
    | with_reducible exact keepsX_refused
    | ((with_reducible refine sub_of hm ?_); exact rfl)
    | with_reducible exact Nat.le_refl _
    | with_reducible rfl
    | with_reducible exact ⟨rfl, rfl, rfl⟩
    | with_reducible intro _
    | split
    | dsimp only)

theorem keeps_execHdmDecoderCommit (hm : Sub 16 M) (dec base size skip ways : Nat) (s : State) (hk : Fr M s0 s) :
    KeepsX M s0 (execHdmDecoderCommit dec base size skip ways s) := by
  unfold execHdmDecoderCommit
  repeat' (first
    | with_reducible assumption
    | with_reducible apply keeps_onHost
    | with_reducible apply keepsX_next
    | with_reducible exact keepsX_fault
    | with_reducible exact keepsX_refused
    | ((with_reducible refine sub_of hm ?_); exact rfl)
    | with_reducible exact Nat.le_refl _
    | with_reducible rfl
    | with_reducible exact ⟨rfl, rfl, rfl⟩
    | with_reducible intro _
    | split
    | dsimp only)

theorem keeps_onSpdm (hm : Sub 16 M) (doe : Bool) (f : Spdm → Spdm) (s : State) (hk : Fr M s0 s) :
    Fr M s0 (onSpdm doe f s) := by
  unfold onSpdm
  repeat' (first
    | with_reducible assumption
    | with_reducible apply keeps_onHost
    | ((with_reducible refine sub_of hm ?_); exact rfl)
    | with_reducible exact Nat.le_refl _
    | with_reducible rfl
    | with_reducible exact ⟨rfl, rfl, rfl⟩
    | with_reducible intro _
    | split
    | dsimp only)

theorem keeps_spdmSend (hm : Sub 8388624 M) (doe : Bool) (bs : List Byte) (s : State) (hk : Fr M s0 s) :
    Fr M s0 (spdmSend doe bs s) := by
  unfold spdmSend
  repeat' (first
    | with_reducible assumption
    | with_reducible apply keeps_emit
    | with_reducible apply keeps_onHost
    | ((with_reducible refine sub_of hm ?_); exact rfl)
    | with_reducible exact Nat.le_refl _
    | with_reducible rfl
    | with_reducible exact ⟨rfl, rfl, rfl⟩
    | with_reducible intro _
    | split
    | dsimp only)

theorem keeps_spdmErr (hm : Sub 8388624 M) (doe : Bool) (code : Nat) (s : State) (hk : Fr M s0 s) :
    Fr M s0 (spdmErr doe code s) := by
  unfold spdmErr
  repeat' (first
    | with_reducible assumption
    | with_reducible apply keeps_spdmSend
    | ((with_reducible refine sub_of hm ?_); exact rfl)
    | with_reducible exact Nat.le_refl _
    | with_reducible rfl
    | with_reducible exact ⟨rfl, rfl, rfl⟩
    | with_reducible intro _
    | split
    | dsimp only)

theorem keeps_spdmAnswer (hm : Sub 8388624 M) (doe : Bool) (req bs : List Byte) (s : State) (hk : Fr M s0 s) :
    Fr M s0 (spdmAnswer doe req bs s) := by
  unfold spdmAnswer
  repeat' (first
    | with_reducible assumption
    | with_reducible apply keeps_onSpdm
    | with_reducible apply keeps_spdmSend
    | ((with_reducible refine sub_of hm ?_); exact rfl)
    | with_reducible exact Nat.le_refl _
    | with_reducible rfl
    | with_reducible exact ⟨rfl, rfl, rfl⟩
    | with_reducible intro _
    | split
    | dsimp only)

theorem keeps_spdmReq (hm : Sub 8388624 M) (doe : Bool) (ver : Nat) (ready : Spdm → Bool) (f : State → State) (s : State) (hf_f : ∀ x0, Fr M s0 x0 → Fr M s0 (f x0)) (hk : Fr M s0 s) :
    Fr M s0 (spdmReq doe ver ready f s) := by
  unfold spdmReq
  repeat' (first
    | with_reducible assumption
    | with_reducible apply keeps_spdmErr
    | with_reducible apply hf_f
    | ((with_reducible refine sub_of hm ?_); exact rfl)
    | with_reducible exact Nat.le_refl _
    | with_reducible rfl
    | with_reducible exact ⟨rfl, rfl, rfl⟩
    | with_reducible intro _
    | split
    | dsimp only)

theorem keeps_execSpdmGetVersion (hm : Sub 8388624 M) (doe : Bool) (ver : Nat) (s : State) (hk : Fr M s0 s) :
    KeepsX M s0 (execSpdmGetVersion doe ver s) := by
  unfold execSpdmGetVersion
  repeat' (first
    | with_reducible assumption
    | with_reducible apply keeps_onSpdm
    | with_reducible apply keeps_spdmErr
    | with_reducible apply keeps_spdmAnswer
    | with_reducible apply keepsX_next
    | with_reducible exact keepsX_fault
    | with_reducible exact keepsX_refused
    | ((with_reducible refine sub_of hm ?_); exact rfl)
    | with_reducible exact Nat.le_refl _
    | with_reducible rfl
    | with_reducible exact ⟨rfl, rfl, rfl⟩
    | with_reducible intro _
    | split
    | dsimp only)

theorem keeps_execSpdmGetCapabilities (hm : Sub 8388624 M) (doe : Bool) (ver : Nat) (s : State) (hk : Fr M s0 s) :
    KeepsX M s0 (execSpdmGetCapabilities doe ver s) := by
  unfold execSpdmGetCapabilities
  repeat' (first
    | with_reducible assumption
    | with_reducible apply keeps_onSpdm
    | with_reducible apply keeps_spdmAnswer
    | with_reducible apply keeps_spdmReq
    | with_reducible apply keepsX_next
    | with_reducible exact keepsX_fault
    | with_reducible exact keepsX_refused
    | ((with_reducible refine sub_of hm ?_); exact rfl)
    | with_reducible exact Nat.le_refl _
    | with_reducible rfl
    | with_reducible exact ⟨rfl, rfl, rfl⟩
    | with_reducible intro _
    | split
    | dsimp only)

theorem keeps_execSpdmNegotiateAlgorithms (hm : Sub 8388624 M) (doe : Bool) (ver asym hash : Nat) (s : State) (hk : Fr M s0 s) :
    KeepsX M s0 (execSpdmNegotiateAlgorithms doe ver asym hash s) := by
  unfold execSpdmNegotiateAlgorithms
  repeat' (first
    | with_reducible assumption
    | with_reducible apply keeps_onSpdm
    | with_reducible apply keeps_spdmErr
    | with_reducible apply keeps_spdmAnswer
    | with_reducible apply keeps_spdmReq
    | with_reducible apply keepsX_next
    | with_reducible exact keepsX_fault
    | with_reducible exact keepsX_refused
    | ((with_reducible refine sub_of hm ?_); exact rfl)
    | with_reducible exact Nat.le_refl _
    | with_reducible rfl
    | with_reducible exact ⟨rfl, rfl, rfl⟩
    | with_reducible intro _
    | split
    | dsimp only)

theorem keeps_execSpdmGetDigests (hm : Sub 8388624 M) (doe : Bool) (ver : Nat) (s : State) (hk : Fr M s0 s) :
    KeepsX M s0 (execSpdmGetDigests doe ver s) := by
  unfold execSpdmGetDigests
  repeat' (first
    | with_reducible assumption
    | with_reducible apply keeps_spdmAnswer
    | with_reducible apply keeps_spdmReq
    | with_reducible apply keepsX_next
    | with_reducible exact keepsX_fault
    | with_reducible exact keepsX_refused
    | ((with_reducible refine sub_of hm ?_); exact rfl)
    | with_reducible exact Nat.le_refl _
    | with_reducible rfl
    | with_reducible exact ⟨rfl, rfl, rfl⟩
    | with_reducible intro _
    | split
    | dsimp only)

theorem keeps_execSpdmGetCertificate (hm : Sub 8388624 M) (doe : Bool) (ver slot off len : Nat) (s : State) (hk : Fr M s0 s) :
    KeepsX M s0 (execSpdmGetCertificate doe ver slot off len s) := by
  unfold execSpdmGetCertificate
  repeat' (first
    | with_reducible assumption
    | with_reducible apply keeps_spdmErr
    | with_reducible apply keeps_spdmAnswer
    | with_reducible apply keeps_spdmReq
    | with_reducible apply keepsX_next
    | with_reducible exact keepsX_fault
    | with_reducible exact keepsX_refused
    | ((with_reducible refine sub_of hm ?_); exact rfl)
    | with_reducible exact Nat.le_refl _
    | with_reducible rfl
    | with_reducible exact ⟨rfl, rfl, rfl⟩
    | with_reducible intro _
    | split
    | dsimp only)

theorem keeps_execSpdmChallenge (hm : Sub 41943056 M) (doe : Bool) (ver slot : Nat) (nonce : List Byte) (s : State) (hk : Fr M s0 s) :
    KeepsX M s0 (execSpdmChallenge doe ver slot nonce s) := by
  unfold execSpdmChallenge
  repeat' (first
    | with_reducible assumption
    | with_reducible apply keeps_draw
    | with_reducible apply keeps_onSpdm
    | with_reducible apply keeps_spdmSend
    | with_reducible apply keeps_spdmErr
    | with_reducible apply keeps_spdmReq
    | with_reducible apply keepsX_next
    | with_reducible exact keepsX_fault
    | with_reducible exact keepsX_refused
    | with_reducible refine keeps_snd ‹_› ?_
    | ((with_reducible refine sub_of hm ?_); exact rfl)
    | with_reducible exact Nat.le_refl _
    | with_reducible rfl
    | with_reducible exact ⟨rfl, rfl, rfl⟩
    | with_reducible intro _
    | split
    | dsimp only)

theorem keeps_execSpdmGetMeasurements (hm : Sub 41943056 M) (doe : Bool) (ver idx : Nat) (nonce : List Byte) (s : State) (hk : Fr M s0 s) :
    KeepsX M s0 (execSpdmGetMeasurements doe ver idx nonce s) := by
  unfold execSpdmGetMeasurements
  repeat' (first
    | with_reducible assumption
    | with_reducible apply keeps_draw
    | with_reducible apply keeps_spdmSend
    | with_reducible apply keeps_spdmErr
    | with_reducible apply keeps_spdmReq
    | with_reducible apply keepsX_next
    | with_reducible exact keepsX_fault
    | with_reducible exact keepsX_refused
    | with_reducible refine keeps_snd ‹_› ?_
    | ((with_reducible refine sub_of hm ?_); exact rfl)
    | with_reducible exact Nat.le_refl _
    | with_reducible rfl
    | with_reducible exact ⟨rfl, rfl, rfl⟩
    | with_reducible intro _
    | split
    | dsimp only)

theorem keeps_execDoeAbort (hm : Sub 0 M) (s : State) (hk : Fr M s0 s) :
    KeepsX M s0 (execDoeAbort s) := by
  unfold execDoeAbort
  repeat' (first
    | with_reducible assumption
    | with_reducible apply keepsX_next
    | with_reducible exact keepsX_fault
    | with_reducible exact keepsX_refused
    | ((with_reducible refine sub_of hm ?_); exact rfl)
    | with_reducible exact Nat.le_refl _
    | with_reducible rfl
    | with_reducible exact ⟨rfl, rfl, rfl⟩
    | with_reducible intro _
    | split
    | dsimp only)

theorem keeps_mailboxRet (hm : Sub 8388608 M) (code : Nat) (bs : List Byte) (s : State) (hk : Fr M s0 s) :
    Fr M s0 (mailboxRet code bs s) := by
  unfold mailboxRet
  repeat' (first
    | with_reducible assumption
    | with_reducible apply keeps_emit
    | ((with_reducible refine sub_of hm ?_); exact rfl)
    | with_reducible exact Nat.le_refl _
    | with_reducible rfl
    | with_reducible exact ⟨rfl, rfl, rfl⟩
    | with_reducible intro _
    | split
    | dsimp only)

theorem keeps_execIdentifyMemoryDevice (hm : Sub 8388608 M) (s : State) (hk : Fr M s0 s) :
    KeepsX M s0 (execIdentifyMemoryDevice s) := by
  unfold execIdentifyMemoryDevice
  repeat' (first
    | with_reducible assumption
    | with_reducible apply keeps_mailboxRet
    | with_reducible apply keepsX_next
    | with_reducible exact keepsX_fault
    | with_reducible exact keepsX_refused
    | ((with_reducible refine sub_of hm ?_); exact rfl)
    | with_reducible exact Nat.le_refl _
    | with_reducible rfl
    | with_reducible exact ⟨rfl, rfl, rfl⟩
    | with_reducible intro _
    | split
    | dsimp only)

theorem keeps_execGetSupportedLogs (hm : Sub 8388608 M) (s : State) (hk : Fr M s0 s) :
    KeepsX M s0 (execGetSupportedLogs s) := by
  unfold execGetSupportedLogs
  repeat' (first
    | with_reducible assumption
    | with_reducible apply keeps_mailboxRet
    | with_reducible apply keepsX_next
    | with_reducible exact keepsX_fault
    | with_reducible exact keepsX_refused
    | ((with_reducible refine sub_of hm ?_); exact rfl)
    | with_reducible exact Nat.le_refl _
    | with_reducible rfl
    | with_reducible exact ⟨rfl, rfl, rfl⟩
    | with_reducible intro _
    | split
    | dsimp only)

theorem keeps_execGetLog (hm : Sub 8388608 M) (uuid off len : Nat) (s : State) (hk : Fr M s0 s) :
    KeepsX M s0 (execGetLog uuid off len s) := by
  unfold execGetLog
  repeat' (first
    | with_reducible assumption
    | with_reducible apply keeps_mailboxRet
    | with_reducible apply keepsX_next
    | with_reducible exact keepsX_fault
    | with_reducible exact keepsX_refused
    | ((with_reducible refine sub_of hm ?_); exact rfl)
    | with_reducible exact Nat.le_refl _
    | with_reducible rfl
    | with_reducible exact ⟨rfl, rfl, rfl⟩
    | with_reducible intro _
    | split
    | dsimp only)

theorem keeps_execGetHealthInfo (hm : Sub 8388608 M) (s : State) (hk : Fr M s0 s) :
    KeepsX M s0 (execGetHealthInfo s) := by
  unfold execGetHealthInfo
  repeat' (first
    | with_reducible assumption
    | with_reducible apply keeps_mailboxRet
    | with_reducible apply keepsX_next
    | with_reducible exact keepsX_fault
    | with_reducible exact keepsX_refused
    | ((with_reducible refine sub_of hm ?_); exact rfl)
    | with_reducible exact Nat.le_refl _
    | with_reducible rfl
    | with_reducible exact ⟨rfl, rfl, rfl⟩
    | with_reducible intro _
    | split
    | dsimp only)

theorem keeps_execMailboxUnsupported (hm : Sub 8388608 M) (opc : Nat) (s : State) (hk : Fr M s0 s) :
    KeepsX M s0 (execMailboxUnsupported opc s) := by
  unfold execMailboxUnsupported
  repeat' (first
    | with_reducible assumption
    | with_reducible apply keeps_mailboxRet
    | with_reducible apply keepsX_next
    | with_reducible exact keepsX_fault
    | with_reducible exact keepsX_refused
    | ((with_reducible refine sub_of hm ?_); exact rfl)
    | with_reducible exact Nat.le_refl _
    | with_reducible rfl
    | with_reducible exact ⟨rfl, rfl, rfl⟩
    | with_reducible intro _
    | split
    | dsimp only)

theorem keeps_execMgmtLinkChange (hm : Sub 8388656 M) (up : Bool) (s : State) (hk : Fr M s0 s) :
    KeepsX M s0 (execMgmtLinkChange up s) := by
  unfold execMgmtLinkChange
  repeat' (first
    | with_reducible assumption
    | with_reducible apply keeps_onHost
    | with_reducible apply keeps_record
    | with_reducible apply keepsX_next
    | with_reducible exact keepsX_fault
    | with_reducible exact keepsX_refused
    | ((with_reducible refine sub_of hm ?_); exact rfl)
    | with_reducible exact Nat.le_refl _
    | with_reducible rfl
    | with_reducible exact ⟨rfl, rfl, rfl⟩
    | with_reducible intro _
    | split
    | dsimp only)

theorem keeps_mgmtDrop (hm : Sub 16 M) (s : State) (hk : Fr M s0 s) :
    Fr M s0 (mgmtDrop s) := by
  unfold mgmtDrop
  repeat' (first
    | with_reducible assumption
    | with_reducible apply keeps_onHost
    | ((with_reducible refine sub_of hm ?_); exact rfl)
    | with_reducible exact Nat.le_refl _
    | with_reducible rfl
    | with_reducible exact ⟨rfl, rfl, rfl⟩
    | with_reducible intro _
    | split
    | dsimp only)

theorem keeps_execMgmtPacketRx (hm : Sub 8388624 M) (pkt : MgmtPkt) (s : State) (hk : Fr M s0 s) :
    KeepsX M s0 (execMgmtPacketRx pkt s) := by
  unfold execMgmtPacketRx
  repeat' (first
    | with_reducible assumption
    | with_reducible apply keeps_emit
    | with_reducible apply keeps_mgmtDrop
    | with_reducible apply keepsX_next
    | with_reducible exact keepsX_fault
    | with_reducible exact keepsX_refused
    | ((with_reducible refine sub_of hm ?_); exact rfl)
    | with_reducible exact Nat.le_refl _
    | with_reducible rfl
    | with_reducible exact ⟨rfl, rfl, rfl⟩
    | with_reducible intro _
    | split
    | dsimp only)

theorem keeps_execFtNowRead (hm : Sub 8388624 M) (half : Nat) (s : State) (hk : Fr M s0 s) :
    KeepsX M s0 (execFtNowRead half s) := by
  unfold execFtNowRead
  repeat' (first
    | with_reducible assumption
    | with_reducible apply keeps_emit
    | with_reducible apply keeps_onHost
    | with_reducible apply keepsX_next
    | with_reducible exact keepsX_fault
    | with_reducible exact keepsX_refused
    | ((with_reducible refine sub_of hm ?_); exact rfl)
    | with_reducible exact Nat.le_refl _
    | with_reducible rfl
    | with_reducible exact ⟨rfl, rfl, rfl⟩
    | with_reducible intro _
    | split
    | dsimp only)

theorem keeps_execLowHalfRead (hm : Sub 8388624 M) (off : Nat) (s : State) (hk : Fr M s0 s) :
    KeepsX M s0 (execLowHalfRead off s) := by
  unfold execLowHalfRead
  repeat' (first
    | with_reducible assumption
    | with_reducible apply keeps_emit
    | with_reducible apply keeps_onHost
    | with_reducible apply keeps_whenS
    | with_reducible apply keepsX_next
    | with_reducible exact keepsX_fault
    | with_reducible exact keepsX_refused
    | ((with_reducible refine sub_of hm ?_); exact rfl)
    | with_reducible exact Nat.le_refl _
    | with_reducible rfl
    | with_reducible exact ⟨rfl, rfl, rfl⟩
    | with_reducible intro _
    | split
    | dsimp only)

theorem keeps_writeRing (hm : Sub 8 M) (r o v : Nat) (s : State) (hk : Fr M s0 s) :
    Fr M s0 (writeRing r o v s) := by
  unfold writeRing
  repeat' (first
    | with_reducible assumption
    | with_reducible apply keeps_onRing
    | ((with_reducible refine sub_of hm ?_); exact rfl)
    | with_reducible exact Nat.le_refl _
    | with_reducible rfl
    | with_reducible exact ⟨rfl, rfl, rfl⟩
    | with_reducible intro _
    | split
    | dsimp only)

theorem keeps_writeReg (hm : Sub 104 M) (off v : Nat) (s : State) (hk : Fr M s0 s) :
    Fr M s0 (writeReg off v s) := by
  unfold writeReg
  repeat' (first
    | with_reducible assumption
    | with_reducible apply keeps_onEnv
    | with_reducible apply keeps_onFlt
    | with_reducible apply keeps_writeRing
    | ((with_reducible refine sub_of hm ?_); exact rfl)
    | with_reducible exact Nat.le_refl _
    | with_reducible rfl
    | with_reducible exact ⟨rfl, rfl, rfl⟩
    | with_reducible intro _
    | split
    | dsimp only)

theorem keeps_execRegisterWrite (hm : Sub 120 M) (off size val : Nat) (s : State) (hk : Fr M s0 s) :
    KeepsX M s0 (execRegisterWrite off size val s) := by
  unfold execRegisterWrite
  repeat' (first
    | with_reducible assumption
    | with_reducible apply keeps_onHost
    | with_reducible apply keeps_writeReg
    | with_reducible apply keepsX_next
    | with_reducible exact keepsX_fault
    | with_reducible exact keepsX_refused
    | with_reducible apply keeps_getD
    | ((with_reducible refine sub_of hm ?_); exact rfl)
    | with_reducible exact Nat.le_refl _
    | with_reducible rfl
    | with_reducible exact ⟨rfl, rfl, rfl⟩
    | with_reducible intro _
    | split
    | dsimp only)

theorem keeps_execDevHostquery (hm : Sub 9438734 M) (q : Req) (s : State) (hk : Fr M s0 s) :
    KeepsX M s0 (execDevHostquery q s) := by
  unfold execDevHostquery
  repeat' (first
    | with_reducible assumption
    | with_reducible apply keeps_plain
    | with_reducible apply keeps_ans
    | with_reducible apply keepsX_next
    | with_reducible exact keepsX_fault
    | with_reducible exact keepsX_refused
    | ((with_reducible refine sub_of hm ?_); exact rfl)
    | with_reducible exact Nat.le_refl _
    | with_reducible rfl
    | with_reducible exact ⟨rfl, rfl, rfl⟩
    | with_reducible intro _
    | split
    | dsimp only)

theorem keeps_execDevMgmtcfg (hm : Sub 15730190 M) (q : Req) (s : State) (hk : Fr M s0 s) :
    KeepsX M s0 (execDevMgmtcfg q s) := by
  unfold execDevMgmtcfg
  repeat' (first
    | with_reducible assumption
    | with_reducible apply keeps_modSet
    | with_reducible apply keeps_plain
    | with_reducible apply keeps_act
    | with_reducible apply keepsX_next
    | with_reducible exact keepsX_fault
    | with_reducible exact keepsX_refused
    | ((with_reducible refine sub_of hm ?_); exact rfl)
    | with_reducible exact Nat.le_refl _
    | with_reducible rfl
    | with_reducible exact ⟨rfl, rfl, rfl⟩
    | with_reducible intro _
    | split
    | dsimp only)

theorem keeps_execDevCaps (hm : Sub 9438734 M) (q : Req) (s : State) (hk : Fr M s0 s) :
    KeepsX M s0 (execDevCaps q s) := by
  unfold execDevCaps
  repeat' (first
    | with_reducible assumption
    | with_reducible apply keeps_runCommand
    | with_reducible apply keeps_ans
    | with_reducible apply keepsX_next
    | with_reducible exact keepsX_fault
    | with_reducible exact keepsX_refused
    | ((with_reducible refine sub_of hm ?_); exact rfl)
    | with_reducible exact Nat.le_refl _
    | with_reducible rfl
    | with_reducible exact ⟨rfl, rfl, rfl⟩
    | with_reducible intro _
    | split
    | dsimp only)

/-! ### Startup -/

theorem keeps_chooseRecord (hm : Sub 1 M) (s : State) (hk : Fr M s0 s) :
    Fr M s0 (chooseRecord s) := by
  unfold chooseRecord
  repeat' (first
    | with_reducible assumption
    | with_reducible apply keeps_onSys
    | ((with_reducible refine sub_of hm ?_); exact rfl)
    | with_reducible exact Nat.le_refl _
    | with_reducible rfl
    | with_reducible exact ⟨rfl, rfl, rfl⟩
    | with_reducible intro _
    | split
    | dsimp only)

theorem keeps_recordBadCopies (hm : Sub 8388640 M) (s : State) (hk : Fr M s0 s) :
    Fr M s0 (recordBadCopies s) := by
  unfold recordBadCopies
  repeat' (first
    | with_reducible assumption
    | with_reducible apply keeps_whenS
    | with_reducible apply keeps_record
    | ((with_reducible refine sub_of hm ?_); exact rfl)
    | with_reducible exact Nat.le_refl _
    | with_reducible rfl
    | with_reducible exact ⟨rfl, rfl, rfl⟩
    | with_reducible intro _
    | split
    | dsimp only)

theorem keeps_setFwSlot (hm : Sub 1 M) (k : Nat) (f : FwSlot) (s : State) (hk : Fr M s0 s) :
    Fr M s0 (setFwSlot k f s) := by
  unfold setFwSlot
  repeat' (first
    | with_reducible assumption
    | with_reducible apply keeps_onSys
    | ((with_reducible refine sub_of hm ?_); exact rfl)
    | with_reducible exact Nat.le_refl _
    | with_reducible rfl
    | with_reducible exact ⟨rfl, rfl, rfl⟩
    | with_reducible intro _
    | split
    | dsimp only)

theorem keeps_fwSlotBad (hm : Sub 8388640 M) (slot cause : Nat) (s : State) (hk : Fr M s0 s) :
    Fr M s0 (fwSlotBad slot cause s) := by
  unfold fwSlotBad
  repeat' (first
    | with_reducible assumption
    | with_reducible apply keeps_record
    | ((with_reducible refine sub_of hm ?_); exact rfl)
    | with_reducible exact Nat.le_refl _
    | with_reducible rfl
    | with_reducible exact ⟨rfl, rfl, rfl⟩
    | with_reducible intro _
    | split
    | dsimp only)

theorem keeps_raiseFloor (hm : Sub 8388641 M) (n : Nat) (s : State) (hk : Fr M s0 s) : Fr M s0 (raiseFloor n s) := by
  unfold raiseFloor
  split
  · exact keeps_record (sub_of hm rfl) _ _ _ (keeps_onSysAt _ (sub_of hm rfl) hk (Nat.le_of_lt ‹_›))
  · exact hk

theorem keeps_bootSlot (hm : Sub 8388641 M) (k : Nat) (s : State) (hk : Fr M s0 s) :
    Fr M s0 (bootSlot k s) := by
  unfold bootSlot
  repeat' (first
    | with_reducible assumption
    | with_reducible apply keeps_onSys
    | with_reducible apply keeps_forEach
    | with_reducible apply keeps_whenS
    | with_reducible apply keeps_fwSlotBad
    | with_reducible apply keeps_getD
    | ((with_reducible refine sub_of hm ?_); exact rfl)
    | with_reducible exact Nat.le_refl _
    | with_reducible rfl
    | with_reducible exact ⟨rfl, rfl, rfl⟩
    | with_reducible intro _
    | split
    | dsimp only)

theorem keeps_resetRegisters (hm : Sub 96 M) (s : State) (hk : Fr M s0 s) :
    Fr M s0 (resetRegisters s) := by
  unfold resetRegisters
  repeat' (first
    | with_reducible assumption
    | with_reducible apply keeps_onEnv
    | with_reducible apply keeps_onFlt
    | ((with_reducible refine sub_of hm ?_); exact rfl)
    | with_reducible exact Nat.le_refl _
    | with_reducible rfl
    | with_reducible exact ⟨rfl, rfl, rfl⟩
    | with_reducible intro _
    | split
    | dsimp only)

theorem keeps_checkBbt (hm : Sub 8650784 M) (s : State) (hk : Fr M s0 s) :
    Fr M s0 (checkBbt s) := by
  unfold checkBbt
  repeat' (first
    | with_reducible assumption
    | with_reducible apply keeps_onFlash
    | with_reducible apply keeps_record
    | ((with_reducible refine sub_of hm ?_); exact rfl)
    | with_reducible exact Nat.le_refl _
    | with_reducible rfl
    | with_reducible exact ⟨rfl, rfl, rfl⟩
    | with_reducible intro _
    | split
    | dsimp only)

theorem keeps_brakesAtEntry (hm : Sub 16220129 M) (rip : Option (Nat × Nat)) (s : State) (hk : Fr M s0 s) :
    Fr M s0 (brakesAtEntry rip s) := by
  unfold brakesAtEntry
  repeat' (first
    | with_reducible assumption
    | with_reducible apply keeps_whenS
    | with_reducible apply keeps_ripcord
    | with_reducible apply keeps_startDrogue
    | with_reducible apply keeps_startPump
    | ((with_reducible refine sub_of hm ?_); exact rfl)
    | with_reducible exact Nat.le_refl _
    | with_reducible rfl
    | with_reducible exact ⟨rfl, rfl, rfl⟩
    | with_reducible intro _
    | split
    | dsimp only)

theorem keeps_recordTrip (hm : Sub 8388704 M) (s : State) (hk : Fr M s0 s) :
    Fr M s0 (recordTrip s) := by
  unfold recordTrip
  repeat' (first
    | with_reducible assumption
    | with_reducible apply keeps_onEnv
    | with_reducible apply keeps_record
    | ((with_reducible refine sub_of hm ?_); exact rfl)
    | with_reducible exact Nat.le_refl _
    | with_reducible rfl
    | with_reducible exact ⟨rfl, rfl, rfl⟩
    | with_reducible intro _
    | split
    | dsimp only)

theorem keeps_enterKeelUp (hm : Sub 16220145 M) (plane tray slot : Nat) (s : State) (hk : Fr M s0 s) :
    Fr M s0 (enterKeelUp plane tray slot s) := by
  unfold enterKeelUp
  repeat' (first
    | with_reducible assumption
    | with_reducible apply keeps_onSet
    | with_reducible apply keeps_onHost
    | with_reducible apply keeps_onSys
    | with_reducible apply keeps_moveTo
    | with_reducible apply keeps_recordBadCopies
    | with_reducible apply keeps_raiseFloor
    | with_reducible apply keeps_bootSlot
    | with_reducible apply keeps_resetRegisters
    | with_reducible apply keeps_checkBbt
    | with_reducible apply keeps_brakesAtEntry
    | with_reducible apply keeps_recordTrip
    | ((with_reducible refine sub_of hm ?_); exact rfl)
    | with_reducible exact Nat.le_refl _
    | with_reducible rfl
    | with_reducible exact ⟨rfl, rfl, rfl⟩
    | with_reducible intro _
    | split
    | dsimp only)

theorem keeps_execKeelUpEntry (hm : Sub 16220145 M) (plane tray : Nat) (keyOk : Bool) (s : State) (hk : Fr M s0 s) :
    KeepsX M s0 (execKeelUpEntry plane tray keyOk s) := by
  unfold execKeelUpEntry
  repeat' (first
    | with_reducible assumption
    | with_reducible apply keeps_onSys
    | with_reducible apply keeps_chooseRecord
    | with_reducible apply keeps_enterKeelUp
    | with_reducible apply keepsX_next
    | with_reducible exact keepsX_fault
    | with_reducible exact keepsX_refused
    | ((with_reducible refine sub_of hm ?_); exact rfl)
    | with_reducible exact Nat.le_refl _
    | with_reducible rfl
    | with_reducible exact ⟨rfl, rfl, rfl⟩
    | with_reducible intro _
    | split
    | dsimp only)

theorem keeps_restoreSettings (hm : Sub 6291456 M) (s : State) (hk : Fr M s0 s) :
    Fr M s0 (restoreSettings s) := by
  unfold restoreSettings
  repeat' (first
    | with_reducible assumption
    | with_reducible apply keeps_onSet
    | with_reducible apply keeps_onJrn
    | ((with_reducible refine sub_of hm ?_); exact rfl)
    | with_reducible exact Nat.le_refl _
    | with_reducible rfl
    | with_reducible exact ⟨rfl, rfl, rfl⟩
    | with_reducible intro _
    | split
    | dsimp only)

theorem keeps_restoreQueues (hm : Sub 8389152 M) (s : State) (hk : Fr M s0 s) :
    Fr M s0 (restoreQueues s) := by
  unfold restoreQueues
  repeat' (first
    | with_reducible assumption
    | with_reducible apply keeps_onCoreR
    | with_reducible apply keeps_forEach
    | with_reducible apply keeps_record
    | with_reducible apply keeps_police
    | with_reducible apply keeps_resetShaper
    | with_reducible apply keeps_fillPolicer
    | with_reducible refine keeps_snd ‹_› ?_
    | ((with_reducible refine sub_of hm ?_); exact rfl)
    | with_reducible exact Nat.le_refl _
    | with_reducible rfl
    | with_reducible exact ⟨rfl, rfl, rfl⟩
    | with_reducible intro _
    | split
    | dsimp only)

theorem keeps_dropUnlisted (hm : Sub 262144 M) (s : State) (hk : Fr M s0 s) :
    Fr M s0 (dropUnlisted s) := by
  unfold dropUnlisted
  repeat' (first
    | with_reducible assumption
    | with_reducible apply keeps_forEach
    | with_reducible apply keeps_freeObj
    | ((with_reducible refine sub_of hm ?_); exact rfl)
    | with_reducible exact Nat.le_refl _
    | with_reducible rfl
    | with_reducible exact ⟨rfl, rfl, rfl⟩
    | with_reducible intro _
    | split
    | dsimp only)

theorem keeps_restoreIsolated (hm : Sub 16252910 M) (s : State) (hk : Fr M s0 s) :
    Fr M s0 (restoreIsolated s) := by
  unfold restoreIsolated
  repeat' (first
    | with_reducible assumption
    | with_reducible apply keeps_forEach
    | with_reducible apply keeps_isolate
    | ((with_reducible refine sub_of hm ?_); exact rfl)
    | with_reducible exact Nat.le_refl _
    | with_reducible rfl
    | with_reducible exact ⟨rfl, rfl, rfl⟩
    | with_reducible intro _
    | split
    | dsimp only)

theorem keeps_commitTrial (hm : Sub 8388641 M) (s : State) (hk : Fr M s0 s) :
    Fr M s0 (commitTrial s) := by
  unfold commitTrial
  repeat' (first
    | with_reducible assumption
    | with_reducible apply keeps_onSys
    | with_reducible apply keeps_record
    | ((with_reducible refine sub_of hm ?_); exact rfl)
    | with_reducible exact Nat.le_refl _
    | with_reducible rfl
    | with_reducible exact ⟨rfl, rfl, rfl⟩
    | with_reducible intro _
    | split
    | dsimp only)

theorem keeps_restartTicket (hm : Sub 9438766 M) (tk op : Nat) (s : State) (hk : Fr M s0 s) :
    Fr M s0 (restartTicket tk op s) := by
  unfold restartTicket
  repeat' (first
    | with_reducible assumption
    | with_reducible apply keeps_record
    | with_reducible apply keeps_ticketFail
    | ((with_reducible refine sub_of hm ?_); exact rfl)
    | with_reducible exact Nat.le_refl _
    | with_reducible rfl
    | with_reducible exact ⟨rfl, rfl, rfl⟩
    | with_reducible intro _
    | split
    | dsimp only)

theorem keeps_settleTicket (hm : Sub 9438766 M) (t : Ticket) (s : State) (hk : Fr M s0 s) :
    Fr M s0 (settleTicket t s) := by
  unfold settleTicket
  repeat' (first
    | with_reducible assumption
    | with_reducible apply keeps_ticketDone
    | with_reducible apply keeps_restartTicket
    | ((with_reducible refine sub_of hm ?_); exact rfl)
    | with_reducible exact Nat.le_refl _
    | with_reducible rfl
    | with_reducible exact ⟨rfl, rfl, rfl⟩
    | with_reducible intro _
    | split
    | dsimp only)

theorem keeps_settleTickets (hm : Sub 9438766 M) (s : State) (hk : Fr M s0 s) :
    Fr M s0 (settleTickets s) := by
  unfold settleTickets
  repeat' (first
    | with_reducible assumption
    | with_reducible apply keeps_forEach
    | with_reducible apply keeps_settleTicket
    | ((with_reducible refine sub_of hm ?_); exact rfl)
    | with_reducible exact Nat.le_refl _
    | with_reducible rfl
    | with_reducible exact ⟨rfl, rfl, rfl⟩
    | with_reducible intro _
    | split
    | dsimp only)

theorem keeps_restoreUnits (hm : Sub 9543400 M) (s : State) (hk : Fr M s0 s) :
    Fr M s0 (restoreUnits s) := by
  unfold restoreUnits
  repeat' (first
    | with_reducible assumption
    | with_reducible apply keeps_forEach
    | with_reducible apply keeps_whenS
    | with_reducible apply keeps_syncImem
    | with_reducible apply keeps_scrubTile
    | with_reducible apply keeps_settlePort
    | with_reducible apply keeps_setRoot
    | with_reducible apply keeps_setPair
    | with_reducible apply keeps_startCap
    | with_reducible apply keeps_psuAlert
    | ((with_reducible refine sub_of hm ?_); exact rfl)
    | with_reducible exact Nat.le_refl _
    | with_reducible rfl
    | with_reducible exact ⟨rfl, rfl, rfl⟩
    | with_reducible intro _
    | split
    | dsimp only)

theorem keeps_takeJournal (hm : Sub 4194318 M) (j : Settings) (rx : Nat) (s : State) (hk : Fr M s0 s) :
    Fr M s0 (takeJournal j rx s) := by
  unfold takeJournal
  repeat' (first
    | with_reducible assumption
    | with_reducible apply keeps_onJrn
    | with_reducible apply keeps_onCmd
    | with_reducible apply keeps_foldl | with_reducible apply keeps_foldlSnd | with_reducible apply keeps_foldlThd
    | ((with_reducible refine sub_of hm ?_); exact rfl)
    | with_reducible exact Nat.le_refl _
    | with_reducible rfl
    | with_reducible exact ⟨rfl, rfl, rfl⟩
    | with_reducible intro _
    | split
    | dsimp only)

theorem keeps_mirrorBack (hm : Sub 5242895 M) (s : State) (hk : Fr M s0 s) :
    Fr M s0 (mirrorBack s) := by
  unfold mirrorBack
  repeat' (first
    | with_reducible assumption
    | with_reducible apply keeps_onGemel
    | with_reducible apply keeps_onSys
    | with_reducible apply keeps_takeJournal
    | ((with_reducible refine sub_of hm ?_); exact rfl)
    | with_reducible exact Nat.le_refl _
    | with_reducible rfl
    | with_reducible exact ⟨rfl, rfl, rfl⟩
    | with_reducible intro _
    | split
    | dsimp only)

theorem keeps_readyFrom (hm : Sub 16252911 M) (announce : State → State) (s : State) (hf_announce : ∀ x0, Fr M s0 x0 → Fr M s0 (announce x0)) (hk : Fr M s0 s) :
    Fr M s0 (readyFrom announce s) := by
  unfold readyFrom
  repeat' (first
    | with_reducible assumption
    | with_reducible apply keeps_onEnv
    | with_reducible apply keeps_onSys
    | with_reducible apply keeps_restoreBinds
    | with_reducible apply keeps_restoreSlices
    | with_reducible apply keeps_moveTo
    | with_reducible apply keeps_restoreSettings
    | with_reducible apply keeps_restoreQueues
    | with_reducible apply keeps_dropUnlisted
    | with_reducible apply keeps_restoreIsolated
    | with_reducible apply keeps_commitTrial
    | with_reducible apply keeps_settleTickets
    | with_reducible apply keeps_restoreUnits
    | with_reducible apply hf_announce
    | ((with_reducible refine sub_of hm ?_); exact rfl)
    | with_reducible exact Nat.le_refl _
    | with_reducible rfl
    | with_reducible exact ⟨rfl, rfl, rfl⟩
    | with_reducible intro _
    | split
    | dsimp only)

theorem keeps_enterReady (hm : Sub 16252911 M) (cause : Nat) (s : State) (hk : Fr M s0 s) :
    Fr M s0 (enterReady cause s) := by
  unfold enterReady
  repeat' (first
    | with_reducible assumption
    | with_reducible apply keeps_moveTo
    | with_reducible apply keeps_mirrorBack
    | with_reducible apply keeps_readyFrom
    | ((with_reducible refine sub_of hm ?_); exact rfl)
    | with_reducible exact Nat.le_refl _
    | with_reducible rfl
    | with_reducible exact ⟨rfl, rfl, rfl⟩
    | with_reducible intro _
    | split
    | dsimp only)

theorem keeps_probeFail (hm : Sub 16252911 M) (d : Nat) (s : State) (hk : Fr M s0 s) :
    Fr M s0 (probeFail d s) := by
  unfold probeFail
  repeat' (first
    | with_reducible assumption
    | with_reducible apply keeps_record
    | with_reducible apply keeps_takeReport
    | ((with_reducible refine sub_of hm ?_); exact rfl)
    | with_reducible exact Nat.le_refl _
    | with_reducible rfl
    | with_reducible exact ⟨rfl, rfl, rfl⟩
    | with_reducible intro _
    | split
    | dsimp only)

theorem keeps_readTray (hm : Sub 14782176 M) (b : StartData) (s : State) (hk : Fr M s0 s) :
    Fr M s0 (readTray b s) := by
  unfold readTray
  repeat' (first
    | with_reducible assumption
    | with_reducible apply keeps_onEnv
    | with_reducible apply keeps_forEach
    | with_reducible apply keeps_whenS
    | with_reducible apply keeps_takeBay
    | with_reducible apply keeps_psuAlert
    | with_reducible apply keeps_takePsus
    | with_reducible apply keeps_getD
    | ((with_reducible refine sub_of hm ?_); exact rfl)
    | with_reducible exact Nat.le_refl _
    | with_reducible rfl
    | with_reducible exact ⟨rfl, rfl, rfl⟩
    | with_reducible intro _
    | split
    | dsimp only)

theorem keeps_liftDies (hm : Sub 16252911 M) (b : StartData) (s : State) (hk : Fr M s0 s) :
    Fr M s0 (liftDies b s) := by
  unfold liftDies
  repeat' (first
    | with_reducible assumption
    | with_reducible apply keeps_forEach
    | with_reducible apply keeps_record
    | with_reducible apply keeps_markRegion
    | with_reducible apply keeps_takeReport
    | with_reducible apply keeps_probeFail
    | ((with_reducible refine sub_of hm ?_); exact rfl)
    | with_reducible exact Nat.le_refl _
    | with_reducible rfl
    | with_reducible exact ⟨rfl, rfl, rfl⟩
    | with_reducible intro _
    | split
    | dsimp only)

theorem keeps_enterHold (hm : Sub 9438767 M) (s : State) (hk : Fr M s0 s) :
    Fr M s0 (enterHold s) := by
  unfold enterHold
  repeat' (first
    | with_reducible assumption
    | with_reducible apply keeps_onSys
    | with_reducible apply keeps_whenS
    | with_reducible apply keeps_record
    | with_reducible apply keeps_commitTrial
    | with_reducible apply keeps_settleTickets
    | ((with_reducible refine sub_of hm ?_); exact rfl)
    | with_reducible exact Nat.le_refl _
    | with_reducible rfl
    | with_reducible exact ⟨rfl, rfl, rfl⟩
    | with_reducible intro _
    | split
    | dsimp only)

theorem keeps_startUnits (hm : Sub 16252911 M) (b : StartData) (s : State) (hk : Fr M s0 s) :
    Fr M s0 (startUnits b s) := by
  unfold startUnits
  repeat' (first
    | with_reducible assumption
    | with_reducible apply keeps_onSys
    | with_reducible apply keeps_whenS
    | with_reducible apply keeps_readTray
    | with_reducible apply keeps_liftDies
    | ((with_reducible refine sub_of hm ?_); exact rfl)
    | with_reducible exact Nat.le_refl _
    | with_reducible rfl
    | with_reducible exact ⟨rfl, rfl, rfl⟩
    | with_reducible intro _
    | split
    | dsimp only)

theorem keeps_execVsb12Up (hm : Sub 65 M) (cv : Nat) (s : State) (hk : Fr M s0 s) :
    KeepsX M s0 (execVsb12Up cv s) := by
  unfold execVsb12Up
  repeat' (first
    | with_reducible assumption
    | with_reducible apply keeps_onEnv
    | with_reducible apply keeps_onSys
    | with_reducible apply keeps_tryStart
    | with_reducible apply keepsX_next
    | with_reducible exact keepsX_fault
    | with_reducible exact keepsX_refused
    | ((with_reducible refine sub_of hm ?_); exact rfl)
    | with_reducible exact Nat.le_refl _
    | with_reducible rfl
    | with_reducible exact ⟨rfl, rfl, rfl⟩
    | with_reducible intro _
    | split
    | dsimp only)

theorem keeps_execVsb12Lost (hm : Sub 12058623 M) (s : State) (hk : Fr M s0 s) :
    KeepsX M s0 (execVsb12Lost s) := by
  unfold execVsb12Lost
  repeat' (first
    | with_reducible assumption
    | with_reducible apply keeps_onEnv
    | with_reducible apply keeps_onSys
    | with_reducible apply keeps_onFlt
    | with_reducible apply keeps_haltImage
    | with_reducible apply keeps_toStandby
    | with_reducible apply keepsX_next
    | with_reducible exact keepsX_fault
    | with_reducible exact keepsX_refused
    | with_reducible exact memNil_wf
    | ((with_reducible refine sub_of hm ?_); exact rfl)
    | with_reducible exact Nat.le_refl _
    | with_reducible rfl
    | with_reducible exact ⟨rfl, rfl, rfl⟩
    | with_reducible intro _
    | split
    | dsimp only)

theorem keeps_execPwrOkAssert (hm : Sub 65 M) (s : State) (hk : Fr M s0 s) :
    KeepsX M s0 (execPwrOkAssert s) := by
  unfold execPwrOkAssert
  repeat' (first
    | with_reducible assumption
    | with_reducible apply keeps_onEnv
    | with_reducible apply keeps_onSys
    | with_reducible apply keeps_tryStart
    | with_reducible apply keepsX_next
    | with_reducible exact keepsX_fault
    | with_reducible exact keepsX_refused
    | ((with_reducible refine sub_of hm ?_); exact rfl)
    | with_reducible exact Nat.le_refl _
    | with_reducible rfl
    | with_reducible exact ⟨rfl, rfl, rfl⟩
    | with_reducible intro _
    | split
    | dsimp only)

theorem keeps_powerDown (hm : Sub 12058623 M) (cause : Nat) (s : State) (hk : Fr M s0 s) :
    Fr M s0 (powerDown cause s) := by
  unfold powerDown
  repeat' (first
    | with_reducible assumption
    | with_reducible apply keeps_onSys
    | with_reducible apply keeps_haltImage
    | with_reducible apply keeps_toStandby
    | ((with_reducible refine sub_of hm ?_); exact rfl)
    | with_reducible exact Nat.le_refl _
    | with_reducible rfl
    | with_reducible exact ⟨rfl, rfl, rfl⟩
    | with_reducible intro _
    | split
    | dsimp only)

theorem keeps_execPwrOkDeassert (hm : Sub 12058623 M) (s : State) (hk : Fr M s0 s) :
    KeepsX M s0 (execPwrOkDeassert s) := by
  unfold execPwrOkDeassert
  repeat' (first
    | with_reducible assumption
    | with_reducible apply keeps_onEnv
    | with_reducible apply keeps_onSys
    | with_reducible apply keeps_powerDown
    | with_reducible apply keepsX_next
    | with_reducible exact keepsX_fault
    | with_reducible exact keepsX_refused
    | ((with_reducible refine sub_of hm ?_); exact rfl)
    | with_reducible exact Nat.le_refl _
    | with_reducible rfl
    | with_reducible exact ⟨rfl, rfl, rfl⟩
    | with_reducible intro _
    | split
    | dsimp only)

theorem keeps_execVin40Fault (hm : Sub 12058623 M) (cv : Nat) (s : State) (hk : Fr M s0 s) :
    KeepsX M s0 (execVin40Fault cv s) := by
  unfold execVin40Fault
  repeat' (first
    | with_reducible assumption
    | with_reducible apply keeps_onEnv
    | with_reducible apply keeps_powerDown
    | with_reducible apply keepsX_next
    | with_reducible exact keepsX_fault
    | with_reducible exact keepsX_refused
    | ((with_reducible refine sub_of hm ?_); exact rfl)
    | with_reducible exact Nat.le_refl _
    | with_reducible rfl
    | with_reducible exact ⟨rfl, rfl, rfl⟩
    | with_reducible intro _
    | split
    | dsimp only)

theorem keeps_clearStop (hm : Sub 9928673 M) (cause : Nat) (s : State) (hk : Fr M s0 s) :
    Fr M s0 (clearStop cause s) := by
  unfold clearStop
  repeat' (first
    | with_reducible assumption
    | with_reducible apply keeps_onEnv
    | with_reducible apply keeps_ripcord
    | ((with_reducible refine sub_of hm ?_); exact rfl)
    | with_reducible exact Nat.le_refl _
    | with_reducible rfl
    | with_reducible exact ⟨rfl, rfl, rfl⟩
    | with_reducible intro _
    | split
    | dsimp only)

theorem keeps_execStopConditionCleared (hm : Sub 9928673 M) (cause : Nat) (s : State) (hk : Fr M s0 s) :
    KeepsX M s0 (execStopConditionCleared cause s) := by
  unfold execStopConditionCleared
  repeat' (first
    | with_reducible assumption
    | with_reducible apply keeps_tryStart
    | with_reducible apply keeps_clearStop
    | with_reducible apply keepsX_next
    | with_reducible exact keepsX_fault
    | with_reducible exact keepsX_refused
    | ((with_reducible refine sub_of hm ?_); exact rfl)
    | with_reducible exact Nat.le_refl _
    | with_reducible rfl
    | with_reducible exact ⟨rfl, rfl, rfl⟩
    | with_reducible intro _
    | split
    | dsimp only)

theorem keeps_sendKeelLost (hm : Sub 8388640 M) (s : State) (hk : Fr M s0 s) :
    Fr M s0 (sendKeelLost s) := by
  unfold sendKeelLost
  repeat' (first
    | with_reducible assumption
    | with_reducible apply keeps_emit
    | with_reducible apply keeps_forEach
    | with_reducible apply keeps_record
    | ((with_reducible refine sub_of hm ?_); exact rfl)
    | with_reducible exact Nat.le_refl _
    | with_reducible rfl
    | with_reducible exact ⟨rfl, rfl, rfl⟩
    | with_reducible intro _
    | split
    | dsimp only)

theorem keeps_loseKeel (hm : Sub 16191231 M) (s : State) (hk : Fr M s0 s) :
    Fr M s0 (loseKeel s) := by
  unfold loseKeel
  repeat' (first
    | with_reducible assumption
    | with_reducible apply keeps_onHost
    | with_reducible apply keeps_onGemel
    | with_reducible apply keeps_onSys
    | with_reducible apply keeps_onFlt
    | with_reducible apply keeps_forEach
    | with_reducible apply keeps_abandonDrain
    | with_reducible apply keeps_haltImage
    | with_reducible apply keeps_sendKeelLost
    | ((with_reducible refine sub_of hm ?_); exact rfl)
    | with_reducible exact Nat.le_refl _
    | with_reducible rfl
    | with_reducible exact ⟨rfl, rfl, rfl⟩
    | with_reducible intro _
    | split
    | dsimp only)

theorem keeps_execKeelWatchdogExpire (hm : Sub 16252927 M) (s : State) (hk : Fr M s0 s) :
    KeepsX M s0 (execKeelWatchdogExpire s) := by
  unfold execKeelWatchdogExpire
  repeat' (first
    | with_reducible assumption
    | with_reducible apply keeps_toStandby
    | with_reducible apply keeps_tryStart
    | with_reducible apply keeps_loseKeel
    | with_reducible apply keepsX_next
    | with_reducible exact keepsX_fault
    | with_reducible exact keepsX_refused
    | ((with_reducible refine sub_of hm ?_); exact rfl)
    | with_reducible exact Nat.le_refl _
    | with_reducible rfl
    | with_reducible exact ⟨rfl, rfl, rfl⟩
    | with_reducible intro _
    | split
    | dsimp only)

theorem keeps_execHeadlessRestart (hm : Sub 12058623 M) (s : State) (hk : Fr M s0 s) :
    KeepsX M s0 (execHeadlessRestart s) := by
  unfold execHeadlessRestart
  repeat' (first
    | with_reducible assumption
    | with_reducible apply keeps_toStandby
    | with_reducible apply keeps_tryStart
    | with_reducible apply keepsX_next
    | with_reducible exact keepsX_fault
    | with_reducible exact keepsX_refused
    | ((with_reducible refine sub_of hm ?_); exact rfl)
    | with_reducible exact Nat.le_refl _
    | with_reducible rfl
    | with_reducible exact ⟨rfl, rfl, rfl⟩
    | with_reducible intro _
    | split
    | dsimp only)

theorem keeps_execDevState (hm : Sub 9438734 M) (q : Req) (s : State) (hk : Fr M s0 s) :
    KeepsX M s0 (execDevState q s) := by
  unfold execDevState
  repeat' (first
    | with_reducible assumption
    | with_reducible apply keeps_plain
    | with_reducible apply keeps_ans
    | with_reducible apply keepsX_next
    | with_reducible exact keepsX_fault
    | with_reducible exact keepsX_refused
    | ((with_reducible refine sub_of hm ?_); exact rfl)
    | with_reducible exact Nat.le_refl _
    | with_reducible rfl
    | with_reducible exact ⟨rfl, rfl, rfl⟩
    | with_reducible intro _
    | split
    | dsimp only)

theorem keeps_setService (hm : Sub 14680161 M) (on_ : Bool) (s : State) (hk : Fr M s0 s) :
    Fr M s0 (setService on_ s) := by
  unfold setService
  repeat' (first
    | with_reducible assumption
    | with_reducible apply keeps_modSet
    | with_reducible apply keeps_onEnv
    | with_reducible apply keeps_moveTo
    | with_reducible apply keeps_startCap
    | ((with_reducible refine sub_of hm ?_); exact rfl)
    | with_reducible exact Nat.le_refl _
    | with_reducible rfl
    | with_reducible exact ⟨rfl, rfl, rfl⟩
    | with_reducible intro _
    | split
    | dsimp only)

theorem keeps_execDevService (hm : Sub 15730287 M) (q : Req) (s : State) (hk : Fr M s0 s) :
    KeepsX M s0 (execDevService q s) := by
  unfold execDevService
  repeat' (first
    | with_reducible assumption
    | with_reducible apply keeps_plain
    | with_reducible apply keeps_act
    | with_reducible apply keeps_setService
    | with_reducible apply keepsX_next
    | with_reducible exact keepsX_fault
    | with_reducible exact keepsX_refused
    | ((with_reducible refine sub_of hm ?_); exact rfl)
    | with_reducible exact Nat.le_refl _
    | with_reducible rfl
    | with_reducible exact ⟨rfl, rfl, rfl⟩
    | with_reducible intro _
    | split
    | dsimp only)

theorem keeps_execDevRestart (hm : Sub 9438734 M) (q : Req) (s : State) (hk : Fr M s0 s) :
    KeepsX M s0 (execDevRestart q s) := by
  unfold execDevRestart
  repeat' (first
    | with_reducible assumption
    | with_reducible apply keeps_longOp
    | with_reducible apply keepsX_next
    | with_reducible exact keepsX_fault
    | with_reducible exact keepsX_refused
    | ((with_reducible refine sub_of hm ?_); exact rfl)
    | with_reducible exact Nat.le_refl _
    | with_reducible rfl
    | with_reducible exact ⟨rfl, rfl, rfl⟩
    | with_reducible intro _
    | split
    | dsimp only)

theorem keeps_fullRestart (hm : Sub 12058623 M) (t : Ticket) (s : State) (hk : Fr M s0 s) :
    Fr M s0 (fullRestart t s) := by
  unfold fullRestart
  repeat' (first
    | with_reducible assumption
    | with_reducible apply keeps_onSys
    | with_reducible apply keeps_haltImage
    | with_reducible apply keeps_toStandby
    | with_reducible apply keeps_tryStart
    | ((with_reducible refine sub_of hm ?_); exact rfl)
    | with_reducible exact Nat.le_refl _
    | with_reducible rfl
    | with_reducible exact ⟨rfl, rfl, rfl⟩
    | with_reducible intro _
    | split
    | dsimp only)

theorem keeps_continueStart (hm : Sub 9438735 M) (t : Ticket) (s : State) (hk : Fr M s0 s) :
    Fr M s0 (continueStart t s) := by
  unfold continueStart
  repeat' (first
    | with_reducible assumption
    | with_reducible apply keeps_onSys
    | with_reducible apply keeps_ticketDone
    | with_reducible apply keeps_ticketFail
    | ((with_reducible refine sub_of hm ?_); exact rfl)
    | with_reducible exact Nat.le_refl _
    | with_reducible rfl
    | with_reducible exact ⟨rfl, rfl, rfl⟩
    | with_reducible intro _
    | split
    | dsimp only)

theorem keeps_execDevSelftest (hm : Sub 9438734 M) (q : Req) (s : State) (hk : Fr M s0 s) :
    KeepsX M s0 (execDevSelftest q s) := by
  unfold execDevSelftest
  repeat' (first
    | with_reducible assumption
    | with_reducible apply keeps_longOp
    | with_reducible apply keepsX_next
    | with_reducible exact keepsX_fault
    | with_reducible exact keepsX_refused
    | ((with_reducible refine sub_of hm ?_); exact rfl)
    | with_reducible exact Nat.le_refl _
    | with_reducible rfl
    | with_reducible exact ⟨rfl, rfl, rfl⟩
    | with_reducible intro _
    | split
    | dsimp only)

theorem keeps_finishSelftest (hm : Sub 15802350 M) (t : Ticket) (s : State) (hk : Fr M s0 s) :
    Fr M s0 (finishSelftest t s) := by
  unfold finishSelftest
  repeat' (first
    | with_reducible assumption
    | with_reducible apply keeps_forEach
    | with_reducible apply keeps_record
    | with_reducible apply keeps_ticketDone
    | with_reducible apply keeps_markRegion
    | with_reducible apply keeps_loseCtx
    | with_reducible apply keeps_scrubTile
    | with_reducible apply keeps_scrubLp
    | with_reducible apply keeps_loseCells
    | ((with_reducible refine sub_of hm ?_); exact rfl)
    | with_reducible exact Nat.le_refl _
    | with_reducible rfl
    | with_reducible exact ⟨rfl, rfl, rfl⟩
    | with_reducible intro _
    | split
    | dsimp only)

theorem keeps_execCfgWrite (hm : Sub 9438734 M) (q : Req) (s : State) (hk : Fr M s0 s) :
    KeepsX M s0 (execCfgWrite q s) := by
  unfold execCfgWrite
  repeat' (first
    | with_reducible assumption
    | with_reducible apply keeps_longOp
    | with_reducible apply keepsX_next
    | with_reducible exact keepsX_fault
    | with_reducible exact keepsX_refused
    | ((with_reducible refine sub_of hm ?_); exact rfl)
    | with_reducible exact Nat.le_refl _
    | with_reducible rfl
    | with_reducible exact ⟨rfl, rfl, rfl⟩
    | with_reducible intro _
    | split
    | dsimp only)

theorem keeps_finishCfgWrite (hm : Sub 9438767 M) (t : Ticket) (s : State) (hk : Fr M s0 s) :
    Fr M s0 (finishCfgWrite t s) := by
  unfold finishCfgWrite
  repeat' (first
    | with_reducible assumption
    | with_reducible apply keeps_onSys
    | with_reducible apply keeps_ticketDone
    | with_reducible apply keeps_raiseFloor
    | ((with_reducible refine sub_of hm ?_); exact rfl)
    | with_reducible exact Nat.le_refl _
    | with_reducible rfl
    | with_reducible exact ⟨rfl, rfl, rfl⟩
    | with_reducible intro _
    | split
    | dsimp only)

theorem keeps_execCfgRead (hm : Sub 9438734 M) (q : Req) (s : State) (hk : Fr M s0 s) :
    KeepsX M s0 (execCfgRead q s) := by
  unfold execCfgRead
  repeat' (first
    | with_reducible assumption
    | with_reducible apply keeps_runCommand
    | with_reducible apply keeps_ans
    | with_reducible apply keepsX_next
    | with_reducible exact keepsX_fault
    | with_reducible exact keepsX_refused
    | ((with_reducible refine sub_of hm ?_); exact rfl)
    | with_reducible exact Nat.le_refl _
    | with_reducible rfl
    | with_reducible exact ⟨rfl, rfl, rfl⟩
    | with_reducible intro _
    | split
    | dsimp only)

theorem keeps_execCfgJournalinit (hm : Sub 9438734 M) (q : Req) (s : State) (hk : Fr M s0 s) :
    KeepsX M s0 (execCfgJournalinit q s) := by
  unfold execCfgJournalinit
  repeat' (first
    | with_reducible assumption
    | with_reducible apply keeps_longOp
    | with_reducible apply keepsX_next
    | with_reducible exact keepsX_fault
    | with_reducible exact keepsX_refused
    | ((with_reducible refine sub_of hm ?_); exact rfl)
    | with_reducible exact Nat.le_refl _
    | with_reducible rfl
    | with_reducible exact ⟨rfl, rfl, rfl⟩
    | with_reducible intro _
    | split
    | dsimp only)

theorem keeps_finishJournalinit (hm : Sub 13633039 M) (t : Ticket) (s : State) (hk : Fr M s0 s) :
    Fr M s0 (finishJournalinit t s) := by
  unfold finishJournalinit
  repeat' (first
    | with_reducible assumption
    | with_reducible apply keeps_onJrn
    | with_reducible apply keeps_onCmd
    | with_reducible apply keeps_onGemel
    | with_reducible apply keeps_onSys
    | with_reducible apply keeps_ticketDone
    | ((with_reducible refine sub_of hm ?_); exact rfl)
    | with_reducible exact Nat.le_refl _
    | with_reducible rfl
    | with_reducible exact ⟨rfl, rfl, rfl⟩
    | with_reducible intro _
    | split
    | dsimp only)

theorem keeps_execFwStage (hm : Sub 9438734 M) (q : Req) (s : State) (hk : Fr M s0 s) :
    KeepsX M s0 (execFwStage q s) := by
  unfold execFwStage
  repeat' (first
    | with_reducible assumption
    | with_reducible apply keeps_longOp
    | with_reducible apply keepsX_next
    | with_reducible exact keepsX_fault
    | with_reducible exact keepsX_refused
    | ((with_reducible refine sub_of hm ?_); exact rfl)
    | with_reducible exact Nat.le_refl _
    | with_reducible rfl
    | with_reducible exact ⟨rfl, rfl, rfl⟩
    | with_reducible intro _
    | split
    | dsimp only)

theorem keeps_finishFwStage (hm : Sub 9438767 M) (t : Ticket) (s : State) (hk : Fr M s0 s) :
    Fr M s0 (finishFwStage t s) := by
  unfold finishFwStage
  repeat' (first
    | with_reducible assumption
    | with_reducible apply keeps_record
    | with_reducible apply keeps_ticketDone
    | with_reducible apply keeps_setFwSlot
    | ((with_reducible refine sub_of hm ?_); exact rfl)
    | with_reducible exact Nat.le_refl _
    | with_reducible rfl
    | with_reducible exact ⟨rfl, rfl, rfl⟩
    | with_reducible intro _
    | split
    | dsimp only)

theorem keeps_execFwActivate (hm : Sub 9438734 M) (q : Req) (s : State) (hk : Fr M s0 s) :
    KeepsX M s0 (execFwActivate q s) := by
  unfold execFwActivate
  repeat' (first
    | with_reducible assumption
    | with_reducible apply keeps_longOp
    | with_reducible apply keepsX_next
    | with_reducible exact keepsX_fault
    | with_reducible exact keepsX_refused
    | ((with_reducible refine sub_of hm ?_); exact rfl)
    | with_reducible exact Nat.le_refl _
    | with_reducible rfl
    | with_reducible exact ⟨rfl, rfl, rfl⟩
    | with_reducible intro _
    | split
    | dsimp only)

theorem keeps_startActivate (hm : Sub 12058623 M) (t : Ticket) (s : State) (hk : Fr M s0 s) :
    Fr M s0 (startActivate t s) := by
  unfold startActivate
  repeat' (first
    | with_reducible assumption
    | with_reducible apply keeps_onSys
    | with_reducible apply keeps_ticketFail
    | with_reducible apply keeps_haltImage
    | with_reducible apply keeps_toStandby
    | with_reducible apply keeps_tryStart
    | ((with_reducible refine sub_of hm ?_); exact rfl)
    | with_reducible exact Nat.le_refl _
    | with_reducible rfl
    | with_reducible exact ⟨rfl, rfl, rfl⟩
    | with_reducible intro _
    | split
    | dsimp only)

theorem keeps_execFwQuery (hm : Sub 9438734 M) (q : Req) (s : State) (hk : Fr M s0 s) :
    KeepsX M s0 (execFwQuery q s) := by
  unfold execFwQuery
  repeat' (first
    | with_reducible assumption
    | with_reducible apply keeps_plain
    | with_reducible apply keeps_ans
    | with_reducible apply keepsX_next
    | with_reducible exact keepsX_fault
    | with_reducible exact keepsX_refused
    | ((with_reducible refine sub_of hm ?_); exact rfl)
    | with_reducible exact Nat.le_refl _
    | with_reducible rfl
    | with_reducible exact ⟨rfl, rfl, rfl⟩
    | with_reducible intro _
    | split
    | dsimp only)

theorem keeps_execSecCerts (hm : Sub 9438734 M) (q : Req) (s : State) (hk : Fr M s0 s) :
    KeepsX M s0 (execSecCerts q s) := by
  unfold execSecCerts
  repeat' (first
    | with_reducible assumption
    | with_reducible apply keeps_runCommand
    | with_reducible apply keeps_ans
    | with_reducible apply keepsX_next
    | with_reducible exact keepsX_fault
    | with_reducible exact keepsX_refused
    | ((with_reducible refine sub_of hm ?_); exact rfl)
    | with_reducible exact Nat.le_refl _
    | with_reducible rfl
    | with_reducible exact ⟨rfl, rfl, rfl⟩
    | with_reducible intro _
    | split
    | dsimp only)

theorem keeps_execSecFloor (hm : Sub 9438767 M) (q : Req) (s : State) (hk : Fr M s0 s) :
    KeepsX M s0 (execSecFloor q s) := by
  unfold execSecFloor
  repeat' (first
    | with_reducible assumption
    | with_reducible apply keeps_plain
    | with_reducible apply keeps_act
    | with_reducible apply keeps_raiseFloor
    | with_reducible apply keepsX_next
    | with_reducible exact keepsX_fault
    | with_reducible exact keepsX_refused
    | ((with_reducible refine sub_of hm ?_); exact rfl)
    | with_reducible exact Nat.le_refl _
    | with_reducible rfl
    | with_reducible exact ⟨rfl, rfl, rfl⟩
    | with_reducible intro _
    | split
    | dsimp only)

/-! ### Serial -/

theorem keeps_suspend (hm : Sub 9437198 M) (tk : Nat) (s : State) (hk : Fr M s0 s) :
    Fr M s0 (suspend tk s) := by
  unfold suspend
  repeat' (first
    | with_reducible assumption
    | with_reducible apply keeps_onTicket
    | with_reducible apply keeps_setOst
    | ((with_reducible refine sub_of hm ?_); exact rfl)
    | with_reducible exact Nat.le_refl _
    | with_reducible rfl
    | with_reducible exact ⟨rfl, rfl, rfl⟩
    | with_reducible intro _
    | split
    | dsimp only)

theorem keeps_execOpSuspend (hm : Sub 9438734 M) (q : Req) (s : State) (hk : Fr M s0 s) :
    KeepsX M s0 (execOpSuspend q s) := by
  unfold execOpSuspend
  repeat' (first
    | with_reducible assumption
    | with_reducible apply keeps_runCommand
    | with_reducible apply keeps_act
    | with_reducible apply keeps_suspend
    | with_reducible apply keepsX_next
    | with_reducible exact keepsX_fault
    | with_reducible exact keepsX_refused
    | ((with_reducible refine sub_of hm ?_); exact rfl)
    | with_reducible exact Nat.le_refl _
    | with_reducible rfl
    | with_reducible exact ⟨rfl, rfl, rfl⟩
    | with_reducible intro _
    | split
    | dsimp only)

theorem keeps_holdDrain (hm : Sub 131072 M) (tk : Nat) (on_ : Bool) (s : State) (hk : Fr M s0 s) :
    Fr M s0 (holdDrain tk on_ s) := by
  unfold holdDrain
  repeat' (first
    | with_reducible assumption
    | with_reducible apply keeps_onSnap
    | ((with_reducible refine sub_of hm ?_); exact rfl)
    | with_reducible exact Nat.le_refl _
    | with_reducible rfl
    | with_reducible exact ⟨rfl, rfl, rfl⟩
    | with_reducible intro _
    | split
    | dsimp only)

theorem keeps_execSuspendPointReached (hm : Sub 9568270 M) (tk : Nat) (s : State) (hk : Fr M s0 s) :
    KeepsX M s0 (execSuspendPointReached tk s) := by
  unfold execSuspendPointReached
  repeat' (first
    | with_reducible assumption
    | with_reducible apply keeps_onTicket
    | with_reducible apply keeps_setOst
    | with_reducible apply keeps_holdDrain
    | with_reducible apply keepsX_next
    | with_reducible exact keepsX_fault
    | with_reducible exact keepsX_refused
    | ((with_reducible refine sub_of hm ?_); exact rfl)
    | with_reducible exact Nat.le_refl _
    | with_reducible rfl
    | with_reducible exact ⟨rfl, rfl, rfl⟩
    | with_reducible intro _
    | split
    | dsimp only)

theorem keeps_startWork (hm : Sub 16252927 M) (t : Ticket) (s : State) (hk : Fr M s0 s) :
    Fr M s0 (startWork t s) := by
  unfold startWork
  repeat' (first
    | with_reducible assumption
    | with_reducible apply keeps_startGroupDisable
    | with_reducible apply keeps_startSliceBind
    | with_reducible apply keeps_startSliceDisable
    | with_reducible apply keeps_startLaneTest
    | with_reducible apply keeps_startInspect
    | with_reducible apply keeps_startClean
    | with_reducible apply keeps_startRescan
    | with_reducible apply keeps_startCommit
    | with_reducible apply keeps_startHold
    | with_reducible apply keeps_startGatewrite
    | with_reducible apply keeps_startSchedEnable
    | with_reducible apply keeps_startSnapDrain
    | with_reducible apply keeps_startRestore
    | with_reducible apply keeps_startScan
    | with_reducible apply keeps_startFormat
    | with_reducible apply keeps_startPair
    | with_reducible apply keeps_startResync
    | with_reducible apply keeps_startIsolate
    | with_reducible apply keeps_startRelease
    | with_reducible apply keeps_fullRestart
    | with_reducible apply keeps_continueStart
    | with_reducible apply keeps_startActivate
    | ((with_reducible refine sub_of hm ?_); exact rfl)
    | with_reducible exact Nat.le_refl _
    | with_reducible rfl
    | with_reducible exact ⟨rfl, rfl, rfl⟩
    | with_reducible intro _
    | split
    | dsimp only)

theorem keeps_runWork (hm : Sub 16252927 M) (t : Ticket) (s : State) (hk : Fr M s0 s) :
    Fr M s0 (runWork t s) := by
  unfold runWork
  repeat' (first
    | with_reducible assumption
    | with_reducible apply keeps_onTicket
    | with_reducible apply keeps_setOst
    | with_reducible apply keeps_startWork
    | ((with_reducible refine sub_of hm ?_); exact rfl)
    | with_reducible exact Nat.le_refl _
    | with_reducible rfl
    | with_reducible exact ⟨rfl, rfl, rfl⟩
    | with_reducible intro _
    | split
    | dsimp only)

theorem keeps_resume (hm : Sub 16252927 M) (tk : Nat) (s : State) (hk : Fr M s0 s) :
    Fr M s0 (resume tk s) := by
  unfold resume
  repeat' (first
    | with_reducible assumption
    | with_reducible apply keeps_setOst
    | with_reducible apply keeps_holdDrain
    | with_reducible apply keeps_runWork
    | ((with_reducible refine sub_of hm ?_); exact rfl)
    | with_reducible exact Nat.le_refl _
    | with_reducible rfl
    | with_reducible exact ⟨rfl, rfl, rfl⟩
    | with_reducible intro _
    | split
    | dsimp only)

theorem keeps_execOpResume (hm : Sub 16252927 M) (q : Req) (s : State) (hk : Fr M s0 s) :
    KeepsX M s0 (execOpResume q s) := by
  unfold execOpResume
  repeat' (first
    | with_reducible assumption
    | with_reducible apply keeps_runCommand
    | with_reducible apply keeps_act
    | with_reducible apply keeps_resume
    | with_reducible apply keepsX_next
    | with_reducible exact keepsX_fault
    | with_reducible exact keepsX_refused
    | ((with_reducible refine sub_of hm ?_); exact rfl)
    | with_reducible exact Nat.le_refl _
    | with_reducible rfl
    | with_reducible exact ⟨rfl, rfl, rfl⟩
    | with_reducible intro _
    | split
    | dsimp only)

theorem keeps_undoWork (hm : Sub 16220142 M) (t : Ticket) (s : State) (hk : Fr M s0 s) :
    Fr M s0 (undoWork t s) := by
  unfold undoWork
  repeat' (first
    | with_reducible assumption
    | with_reducible apply keeps_onNetR
    | with_reducible apply keeps_onCoreR
    | with_reducible apply keeps_onSnap
    | with_reducible apply keeps_onFlash
    | with_reducible apply keeps_forEach
    | with_reducible apply keeps_record
    | with_reducible apply keeps_commit
    | with_reducible apply keeps_dropDrain
    | with_reducible apply keeps_scrubTile
    | with_reducible apply keeps_testOff
    | with_reducible apply keeps_releaseHold
    | with_reducible apply keeps_dropPending
    | ((with_reducible refine sub_of hm ?_); exact rfl)
    | with_reducible exact Nat.le_refl _
    | with_reducible rfl
    | with_reducible exact ⟨rfl, rfl, rfl⟩
    | with_reducible intro _
    | split
    | dsimp only)

theorem keeps_cancelTicket (hm : Sub 16220142 M) (tk : Nat) (s : State) (hk : Fr M s0 s) :
    Fr M s0 (cancelTicket tk s) := by
  unfold cancelTicket
  repeat' (first
    | with_reducible assumption
    | with_reducible apply keeps_whenS
    | with_reducible apply keeps_onTicket
    | with_reducible apply keeps_setOst
    | with_reducible apply keeps_endTicket
    | with_reducible apply keeps_undoWork
    | ((with_reducible refine sub_of hm ?_); exact rfl)
    | with_reducible exact Nat.le_refl _
    | with_reducible rfl
    | with_reducible exact ⟨rfl, rfl, rfl⟩
    | with_reducible intro _
    | split
    | dsimp only)

theorem keeps_execOpCancel (hm : Sub 16220142 M) (q : Req) (s : State) (hk : Fr M s0 s) :
    KeepsX M s0 (execOpCancel q s) := by
  unfold execOpCancel
  repeat' (first
    | with_reducible assumption
    | with_reducible apply keeps_runCommand
    | with_reducible apply keeps_act
    | with_reducible apply keeps_cancelTicket
    | with_reducible apply keepsX_next
    | with_reducible exact keepsX_fault
    | with_reducible exact keepsX_refused
    | ((with_reducible refine sub_of hm ?_); exact rfl)
    | with_reducible exact Nat.le_refl _
    | with_reducible rfl
    | with_reducible exact ⟨rfl, rfl, rfl⟩
    | with_reducible intro _
    | split
    | dsimp only)

theorem keeps_execCancelUndoDone (hm : Sub 9438734 M) (tk : Nat) (s : State) (hk : Fr M s0 s) :
    KeepsX M s0 (execCancelUndoDone tk s) := by
  unfold execCancelUndoDone
  repeat' (first
    | with_reducible assumption
    | with_reducible apply keeps_endTicket
    | with_reducible apply keepsX_next
    | with_reducible exact keepsX_fault
    | with_reducible exact keepsX_refused
    | ((with_reducible refine sub_of hm ?_); exact rfl)
    | with_reducible exact Nat.le_refl _
    | with_reducible rfl
    | with_reducible exact ⟨rfl, rfl, rfl⟩
    | with_reducible intro _
    | split
    | dsimp only)

theorem keeps_execOp0 (hm : Sub 15830767 M) (q : Req) (s : State) (hk : Fr M s0 s) :
    KeepsXO M s0 (execOp0 q s) := by
  unfold execOp0
  repeat' (first
    | with_reducible assumption
    | with_reducible apply keeps_execPortEnable
    | with_reducible apply keeps_execPortDisable
    | with_reducible apply keeps_execPortSplit
    | with_reducible apply keeps_execPortPower
    | with_reducible apply keeps_execPortQuery
    | with_reducible apply keeps_execLaneStats
    | with_reducible apply keeps_execLaneTest
    | with_reducible apply keeps_execPortLinkcfg
    | with_reducible apply keeps_execPortLstats
    | with_reducible apply keeps_execPortEthcfg
    | with_reducible apply keeps_execOptRead
    | with_reducible apply keeps_execOptInspect
    | with_reducible apply keeps_execOptClean
    | with_reducible apply keeps_execCartOverride
    | with_reducible apply keeps_execCartRead
    | with_reducible apply keeps_execCartRescan
    | with_reducible apply keeps_execNop
    | with_reducible apply keeps_execCaps
    | with_reducible apply keeps_execPing
    | with_reducible apply keeps_execDevHostquery
    | with_reducible apply keeps_execDevMgmtcfg
    | with_reducible apply keeps_execDevCaps
    | with_reducible apply keeps_execDevState
    | with_reducible apply keeps_execDevService
    | with_reducible apply keeps_execDevRestart
    | with_reducible apply keeps_execDevSelftest
    | with_reducible apply keepsXO_some
    | with_reducible exact keepsXO_none
    | with_reducible apply keepsXO_orElse
    | ((with_reducible refine sub_of hm ?_); exact rfl)
    | with_reducible exact Nat.le_refl _
    | with_reducible rfl
    | with_reducible exact ⟨rfl, rfl, rfl⟩
    | with_reducible intro _
    | split
    | dsimp only)

theorem keeps_execOp1 (hm : Sub 15826926 M) (q : Req) (s : State) (hk : Fr M s0 s) :
    KeepsXO M s0 (execOp1 q s) := by
  unfold execOp1
  repeat' (first
    | with_reducible assumption
    | with_reducible apply keeps_execGroupConfig
    | with_reducible apply keeps_execGroupEnable
    | with_reducible apply keeps_execGroupDisable
    | with_reducible apply keeps_execGroupAbort
    | with_reducible apply keeps_execGroupQuery
    | with_reducible apply keeps_execGroupMissing
    | with_reducible apply keeps_execGroupPoolquery
    | with_reducible apply keeps_execGroupUpdquery
    | with_reducible apply keeps_execGroupNanread
    | with_reducible apply keeps_execGroupUpdcfg
    | with_reducible apply keeps_execSliceBind
    | with_reducible apply keeps_execSliceEnable
    | with_reducible apply keeps_execSliceDisable
    | with_reducible apply keeps_execSliceQuery
    | with_reducible apply keeps_execRouteWrite
    | with_reducible apply keeps_execRouteCommit
    | with_reducible apply keeps_execRouteHold
    | with_reducible apply keeps_execRouteRelease
    | with_reducible apply keeps_execRouteQuery
    | with_reducible apply keeps_execRouteCongmap
    | with_reducible apply keeps_execRouteCmapcfg
    | with_reducible apply keeps_execRouteSparstats
    | with_reducible apply keeps_execQosPoolcfg
    | with_reducible apply keeps_execQosPoolquery
    | with_reducible apply keeps_execQosMarkcfg
    | with_reducible apply keeps_execQosServicecfg
    | with_reducible apply keeps_execQosSubcfg
    | with_reducible apply keeps_execQosShapecfg
    | with_reducible apply keeps_execQosPolicecfg
    | with_reducible apply keeps_execQosGatewrite
    | with_reducible apply keeps_execQosGatequery
    | with_reducible apply keeps_execQosQstats
    | with_reducible apply keeps_execQosPstats
    | with_reducible apply keepsXO_some
    | with_reducible exact keepsXO_none
    | with_reducible apply keepsXO_orElse
    | ((with_reducible refine sub_of hm ?_); exact rfl)
    | with_reducible exact Nat.le_refl _
    | with_reducible rfl
    | with_reducible exact ⟨rfl, rfl, rfl⟩
    | with_reducible intro _
    | split
    | dsimp only)

theorem keeps_execOp2 (hm : Sub 16224238 M) (q : Req) (s : State) (hk : Fr M s0 s) :
    KeepsXO M s0 (execOp2 q s) := by
  unfold execOp2
  repeat' (first
    | with_reducible assumption
    | with_reducible apply keeps_execTileQuery
    | with_reducible apply keeps_execTilePower
    | with_reducible apply keeps_execTileSelftest
    | with_reducible apply keeps_execTileLoad
    | with_reducible apply keeps_execTileUnload
    | with_reducible apply keeps_execTileProgquery
    | with_reducible apply keeps_execTileUpdbind
    | with_reducible apply keeps_execTileUpdunbind
    | with_reducible apply keeps_execTileUpdquery
    | with_reducible apply keeps_execSchedTimecfg
    | with_reducible apply keeps_execSchedTimequery
    | with_reducible apply keeps_execSchedAuditcfg
    | with_reducible apply keeps_execSchedAuditread
    | with_reducible apply keeps_execSchedLoad
    | with_reducible apply keeps_execSchedUnload
    | with_reducible apply keeps_execSchedEnable
    | with_reducible apply keeps_execSchedStop
    | with_reducible apply keeps_execSchedDisable
    | with_reducible apply keeps_execSchedQuery
    | with_reducible apply keeps_execSnapPlan
    | with_reducible apply keeps_execSnapPlanquery
    | with_reducible apply keeps_execSnapSeal
    | with_reducible apply keeps_execSnapReelcfg
    | with_reducible apply keeps_execSnapReelenable
    | with_reducible apply keeps_execSnapDrain
    | with_reducible apply keeps_execSnapTarget
    | with_reducible apply keeps_execSnapRestore
    | with_reducible apply keeps_execSnapList
    | with_reducible apply keeps_execSnapQuery
    | with_reducible apply keeps_execFlashScan
    | with_reducible apply keeps_execFlashHealth
    | with_reducible apply keeps_execFlashScancfg
    | with_reducible apply keeps_execFlashBbtread
    | with_reducible apply keeps_execFlashFormat
    | with_reducible apply keeps_execGemelPair
    | with_reducible apply keeps_execGemelUnpair
    | with_reducible apply keeps_execGemelQuery
    | with_reducible apply keeps_execGemelAdopt
    | with_reducible apply keeps_execGemelResync
    | with_reducible apply keepsXO_some
    | with_reducible exact keepsXO_none
    | with_reducible apply keepsXO_orElse
    | ((with_reducible refine sub_of hm ?_); exact rfl)
    | with_reducible exact Nat.le_refl _
    | with_reducible rfl
    | with_reducible exact ⟨rfl, rfl, rfl⟩
    | with_reducible intro _
    | split
    | dsimp only)

theorem keeps_execOp3 (hm : Sub 16252927 M) (q : Req) (s : State) (hk : Fr M s0 s) :
    KeepsXO M s0 (execOp3 q s) := by
  unfold execOp3
  repeat' (first
    | with_reducible assumption
    | with_reducible apply keeps_execOpQuery
    | with_reducible apply keeps_execOpList
    | with_reducible apply keeps_execFaultQuery
    | with_reducible apply keeps_execFaultClasscfg
    | with_reducible apply keeps_execFaultIsolate
    | with_reducible apply keeps_execFaultRelease
    | with_reducible apply keeps_execFaultClear
    | with_reducible apply keeps_execEventTrigcfg
    | with_reducible apply keeps_execEventRead
    | with_reducible apply keeps_execEventRestart
    | with_reducible apply keeps_execEnvHeartbeat
    | with_reducible apply keeps_execEnvCap
    | with_reducible apply keeps_execEnvRampcfg
    | with_reducible apply keeps_execEnvBrakecfg
    | with_reducible apply keeps_execEnvOrphancfg
    | with_reducible apply keeps_execEnvQuery
    | with_reducible apply keeps_execEnvSensors
    | with_reducible apply keeps_execEnvPsu
    | with_reducible apply keeps_execEnvRipcord
    | with_reducible apply keeps_execEnvTraycfg
    | with_reducible apply keeps_execEnvTrayquery
    | with_reducible apply keeps_execCfgWrite
    | with_reducible apply keeps_execCfgRead
    | with_reducible apply keeps_execCfgJournalinit
    | with_reducible apply keeps_execFwStage
    | with_reducible apply keeps_execFwActivate
    | with_reducible apply keeps_execFwQuery
    | with_reducible apply keeps_execSecCerts
    | with_reducible apply keeps_execSecFloor
    | with_reducible apply keeps_execOpSuspend
    | with_reducible apply keeps_execOpResume
    | with_reducible apply keeps_execOpCancel
    | with_reducible apply keepsXO_some
    | with_reducible exact keepsXO_none
    | with_reducible apply keepsXO_orElse
    | ((with_reducible refine sub_of hm ?_); exact rfl)
    | with_reducible exact Nat.le_refl _
    | with_reducible rfl
    | with_reducible exact ⟨rfl, rfl, rfl⟩
    | with_reducible intro _
    | split
    | dsimp only)

theorem keeps_execOp (hm : Sub 16252927 M) (q : Req) (s : State) (hk : Fr M s0 s) :
    KeepsXO M s0 (execOp q s) := by
  unfold execOp
  repeat' (first
    | with_reducible assumption
    | with_reducible apply keeps_execOp0
    | with_reducible apply keeps_execOp1
    | with_reducible apply keeps_execOp2
    | with_reducible apply keeps_execOp3
    | with_reducible apply keepsXO_some
    | with_reducible exact keepsXO_none
    | with_reducible apply keepsXO_orElse
    | ((with_reducible refine sub_of hm ?_); exact rfl)
    | with_reducible exact Nat.le_refl _
    | with_reducible rfl
    | with_reducible exact ⟨rfl, rfl, rfl⟩
    | with_reducible intro _
    | split
    | dsimp only)

theorem keeps_outState (hm : Sub 0 M) (s : State) (o : Host.Outcome State Fault Refusal) (hk : Fr M s0 s) (ho : KeepsX M s0 o) : Fr M s0 (outState s o) := by
  cases o with
  | next t => exact ho t rfl
  | fault f => exact hk
  | refused r => exact hk

theorem keeps_takeUnknown (hm : Sub 8390152 M) (q : Req) (s : State) (hk : Fr M s0 s) :
    Fr M s0 (takeUnknown q s) := by
  unfold takeUnknown
  repeat' (first
    | with_reducible assumption
    | with_reducible apply keeps_takeCmd
    | with_reducible apply keeps_complete
    | ((with_reducible refine sub_of hm ?_); exact rfl)
    | with_reducible exact Nat.le_refl _
    | with_reducible rfl
    | with_reducible exact ⟨rfl, rfl, rfl⟩
    | with_reducible intro _
    | split
    | dsimp only)

theorem keeps_runReq (hm : Sub 16252927 M) (q : Req) (s : State) (hk : Fr M s0 s) : Fr M s0 (runReq q s) := by
  unfold runReq
  split
  · exact keeps_outState (sub_of hm rfl) _ _ hk (keepsXO_get ‹_› (keeps_execOp (sub_of hm rfl) q s hk))
  · exact keeps_takeUnknown (sub_of hm rfl) q s hk

theorem keeps_execCommandTake (hm : Sub 16252927 M) (memOk : Bool) (s : State) (hk : Fr M s0 s) :
    KeepsX M s0 (execCommandTake memOk s) := by
  unfold execCommandTake
  repeat' (first
    | with_reducible assumption
    | with_reducible apply keeps_onCmdR
    | with_reducible apply keeps_ringError
    | with_reducible apply keeps_runReq
    | with_reducible apply keepsX_next
    | with_reducible exact keepsX_fault
    | with_reducible exact keepsX_refused
    | ((with_reducible refine sub_of hm ?_); exact rfl)
    | with_reducible exact Nat.le_refl _
    | with_reducible rfl
    | with_reducible exact ⟨rfl, rfl, rfl⟩
    | with_reducible intro _
    | split
    | dsimp only)

theorem keeps_finishStored (hm : Sub 16252927 M) (x : Storing) (s : State) (hk : Fr M s0 s) :
    Fr M s0 (finishStored x s) := by
  unfold finishStored
  repeat' (first
    | with_reducible assumption
    | with_reducible apply keeps_onCmdR
    | with_reducible apply keeps_runReq
    | ((with_reducible refine sub_of hm ?_); exact rfl)
    | with_reducible exact Nat.le_refl _
    | with_reducible rfl
    | with_reducible exact ⟨rfl, rfl, rfl⟩
    | with_reducible intro _
    | split
    | dsimp only)

theorem keeps_settleStoring (hm : Sub 16252927 M) (f : Storing → Storing) (s : State) (hk : Fr M s0 s) :
    Fr M s0 (settleStoring f s) := by
  unfold settleStoring
  repeat' (first
    | with_reducible assumption
    | with_reducible apply keeps_onCmdR
    | with_reducible apply keeps_finishStored
    | ((with_reducible refine sub_of hm ?_); exact rfl)
    | with_reducible exact Nat.le_refl _
    | with_reducible rfl
    | with_reducible exact ⟨rfl, rfl, rfl⟩
    | with_reducible intro _
    | split
    | dsimp only)

theorem keeps_journalFails (hm : Sub 8390152 M) (s : State) (hk : Fr M s0 s) :
    Fr M s0 (journalFails s) := by
  unfold journalFails
  repeat' (first
    | with_reducible assumption
    | with_reducible apply keeps_onCmdR
    | with_reducible apply keeps_complete
    | ((with_reducible refine sub_of hm ?_); exact rfl)
    | with_reducible exact Nat.le_refl _
    | with_reducible rfl
    | with_reducible exact ⟨rfl, rfl, rfl⟩
    | with_reducible intro _
    | split
    | dsimp only)

theorem keeps_execMirrorAckRx (hm : Sub 16252927 M) (lp : Nat) (rec : List Byte) (s : State) (hk : Fr M s0 s) :
    KeepsX M s0 (execMirrorAckRx lp rec s) := by
  unfold execMirrorAckRx
  repeat' (first
    | with_reducible assumption
    | with_reducible apply keeps_takeRec
    | with_reducible apply keeps_ackRecords
    | with_reducible apply keeps_settleStoring
    | with_reducible apply keepsX_next
    | with_reducible exact keepsX_fault
    | with_reducible exact keepsX_refused
    | ((with_reducible refine sub_of hm ?_); exact rfl)
    | with_reducible exact Nat.le_refl _
    | with_reducible rfl
    | with_reducible exact ⟨rfl, rfl, rfl⟩
    | with_reducible intro _
    | split
    | dsimp only)

theorem keeps_execTwinLost (hm : Sub 16252927 M) (s : State) (hk : Fr M s0 s) :
    KeepsX M s0 (execTwinLost s) := by
  unfold execTwinLost
  repeat' (first
    | with_reducible assumption
    | with_reducible apply keeps_goSolo
    | with_reducible apply keeps_settleStoring
    | with_reducible apply keeps_journalFails
    | with_reducible apply keepsX_next
    | with_reducible exact keepsX_fault
    | with_reducible exact keepsX_refused
    | ((with_reducible refine sub_of hm ?_); exact rfl)
    | with_reducible exact Nat.le_refl _
    | with_reducible rfl
    | with_reducible exact ⟨rfl, rfl, rfl⟩
    | with_reducible intro _
    | split
    | dsimp only)

theorem keeps_execMramWriteDone (hm : Sub 16252927 M) (jseq : Nat) (s : State) (hk : Fr M s0 s) :
    KeepsX M s0 (execMramWriteDone jseq s) := by
  unfold execMramWriteDone
  repeat' (first
    | with_reducible assumption
    | with_reducible apply keeps_settleStoring
    | with_reducible apply keepsX_next
    | with_reducible exact keepsX_fault
    | with_reducible exact keepsX_refused
    | ((with_reducible refine sub_of hm ?_); exact rfl)
    | with_reducible exact Nat.le_refl _
    | with_reducible rfl
    | with_reducible exact ⟨rfl, rfl, rfl⟩
    | with_reducible intro _
    | split
    | dsimp only)

theorem keeps_execMramFail (hm : Sub 16252927 M) (s : State) (hk : Fr M s0 s) :
    KeepsX M s0 (execMramFail s) := by
  unfold execMramFail
  repeat' (first
    | with_reducible assumption
    | with_reducible apply keeps_onGemel
    | with_reducible apply keeps_record
    | with_reducible apply keeps_settleStoring
    | with_reducible apply keeps_journalFails
    | with_reducible apply keepsX_next
    | with_reducible exact keepsX_fault
    | with_reducible exact keepsX_refused
    | ((with_reducible refine sub_of hm ?_); exact rfl)
    | with_reducible exact Nat.le_refl _
    | with_reducible rfl
    | with_reducible exact ⟨rfl, rfl, rfl⟩
    | with_reducible intro _
    | split
    | dsimp only)

theorem keeps_applyEntry (hm : Sub 16252927 M) (x : Storing) (s : State) (hk : Fr M s0 s) :
    Fr M s0 (applyEntry x s) := by
  unfold applyEntry
  repeat' (first
    | with_reducible assumption
    | with_reducible apply keeps_onCmd
    | with_reducible apply keeps_runReq
    | ((with_reducible refine sub_of hm ?_); exact rfl)
    | with_reducible exact Nat.le_refl _
    | with_reducible rfl
    | with_reducible exact ⟨rfl, rfl, rfl⟩
    | with_reducible intro _
    | split
    | dsimp only)

theorem keeps_applyEntries (hm : Sub 16252927 M) (s : State) (hk : Fr M s0 s) :
    Fr M s0 (applyEntries s) := by
  unfold applyEntries
  repeat' (first
    | with_reducible assumption
    | with_reducible apply keeps_onCmdR
    | with_reducible apply keeps_forEach
    | with_reducible apply keeps_settleTickets
    | with_reducible apply keeps_applyEntry
    | ((with_reducible refine sub_of hm ?_); exact rfl)
    | with_reducible exact Nat.le_refl _
    | with_reducible rfl
    | with_reducible exact ⟨rfl, rfl, rfl⟩
    | with_reducible intro _
    | split
    | dsimp only)

theorem keeps_execStartupDone (hm : Sub 16252927 M) (b : StartData) (s : State) (hk : Fr M s0 s) :
    KeepsX M s0 (execStartupDone b s) := by
  unfold execStartupDone
  repeat' (first
    | with_reducible assumption
    | with_reducible apply keeps_enterReady
    | with_reducible apply keeps_enterHold
    | with_reducible apply keeps_startUnits
    | with_reducible apply keeps_applyEntries
    | with_reducible apply keepsX_next
    | with_reducible exact keepsX_fault
    | with_reducible exact keepsX_refused
    | ((with_reducible refine sub_of hm ?_); exact rfl)
    | with_reducible exact Nat.le_refl _
    | with_reducible rfl
    | with_reducible exact ⟨rfl, rfl, rfl⟩
    | with_reducible intro _
    | split
    | dsimp only)

theorem keeps_holdEnds (hm : Sub 16252927 M) (s : State) (hk : Fr M s0 s) :
    Fr M s0 (holdEnds s) := by
  unfold holdEnds
  repeat' (first
    | with_reducible assumption
    | with_reducible apply keeps_enterReady
    | with_reducible apply keeps_applyEntries
    | ((with_reducible refine sub_of hm ?_); exact rfl)
    | with_reducible exact Nat.le_refl _
    | with_reducible rfl
    | with_reducible exact ⟨rfl, rfl, rfl⟩
    | with_reducible intro _
    | split
    | dsimp only)

theorem keeps_execOfferRx (hm : Sub 16252927 M) (lp : Nat) (rec : List Byte) (s : State) (hk : Fr M s0 s) :
    KeepsX M s0 (execOfferRx lp rec s) := by
  unfold execOfferRx
  repeat' (first
    | with_reducible assumption
    | with_reducible apply keeps_onGemel
    | with_reducible apply keeps_onSys
    | with_reducible apply keeps_takeOffer
    | with_reducible apply keeps_holdEnds
    | with_reducible apply keepsX_next
    | with_reducible exact keepsX_fault
    | with_reducible exact keepsX_refused
    | ((with_reducible refine sub_of hm ?_); exact rfl)
    | with_reducible exact Nat.le_refl _
    | with_reducible rfl
    | with_reducible exact ⟨rfl, rfl, rfl⟩
    | with_reducible intro _
    | split
    | dsimp only)

theorem keeps_execTicketStart (hm : Sub 16252927 M) (tk : Nat) (s : State) (hk : Fr M s0 s) :
    KeepsX M s0 (execTicketStart tk s) := by
  unfold execTicketStart
  repeat' (first
    | with_reducible assumption
    | with_reducible apply keeps_runWork
    | with_reducible apply keeps_holdEnds
    | with_reducible apply keepsX_next
    | with_reducible exact keepsX_fault
    | with_reducible exact keepsX_refused
    | ((with_reducible refine sub_of hm ?_); exact rfl)
    | with_reducible exact Nat.le_refl _
    | with_reducible rfl
    | with_reducible exact ⟨rfl, rfl, rfl⟩
    | with_reducible intro _
    | split
    | dsimp only)

theorem keeps_finishAdopt (hm : Sub 16252927 M) (t : Ticket) (s : State) (hk : Fr M s0 s) :
    Fr M s0 (finishAdopt t s) := by
  unfold finishAdopt
  repeat' (first
    | with_reducible assumption
    | with_reducible apply keeps_ticketDone
    | with_reducible apply keeps_ticketFail
    | with_reducible apply keeps_closeAll
    | with_reducible apply keeps_takeJournal
    | with_reducible apply keeps_readyFrom
    | with_reducible apply keeps_applyEntries
    | ((with_reducible refine sub_of hm ?_); exact rfl)
    | with_reducible exact Nat.le_refl _
    | with_reducible rfl
    | with_reducible exact ⟨rfl, rfl, rfl⟩
    | with_reducible intro _
    | split
    | dsimp only)

theorem keeps_finishWork (hm : Sub 16252927 M) (t : Ticket) (s : State) (hk : Fr M s0 s) :
    Fr M s0 (finishWork t s) := by
  unfold finishWork
  repeat' (first
    | with_reducible assumption
    | with_reducible apply keeps_finishTileLoad
    | with_reducible apply keeps_finishSchedLoad
    | with_reducible apply keeps_finishSelftest
    | with_reducible apply keeps_finishCfgWrite
    | with_reducible apply keeps_finishJournalinit
    | with_reducible apply keeps_finishFwStage
    | with_reducible apply keeps_holdEnds
    | with_reducible apply keeps_finishAdopt
    | ((with_reducible refine sub_of hm ?_); exact rfl)
    | with_reducible exact Nat.le_refl _
    | with_reducible rfl
    | with_reducible exact ⟨rfl, rfl, rfl⟩
    | with_reducible intro _
    | split
    | dsimp only)

theorem keeps_execOperationFinish (hm : Sub 16252927 M) (tk reason : Nat) (s : State) (hk : Fr M s0 s) :
    KeepsX M s0 (execOperationFinish tk reason s) := by
  unfold execOperationFinish
  repeat' (first
    | with_reducible assumption
    | with_reducible apply keeps_onCoreR
    | with_reducible apply keeps_whenS
    | with_reducible apply keeps_ticketFail
    | with_reducible apply keeps_commit
    | with_reducible apply keeps_finishWork
    | with_reducible apply keepsX_next
    | with_reducible exact keepsX_fault
    | with_reducible exact keepsX_refused
    | ((with_reducible refine sub_of hm ?_); exact rfl)
    | with_reducible exact Nat.le_refl _
    | with_reducible rfl
    | with_reducible exact ⟨rfl, rfl, rfl⟩
    | with_reducible intro _
    | split
    | dsimp only)

end Sys2Proof.Machine
end

