-- ==== Sys2Proof/Laws/Memory.lean ====
section
/-! SUPPORT. Reading what was written: HBM through its marks, and scratchpads. -/

set_option Elab.async false

namespace Sys2Proof.Machine

/-! ### HBM -/

/-- Filling a granule changes no byte as a window shows it. -/
theorem hbmByte_fillGranule (a x : Nat) (s : State) :
    hbmByte (fillGranule a s) x = hbmByte s x := by
  unfold fillGranule
  by_cases hm : marked s a = true
  · simp only [hm, if_true]
    have hb : ∀ m : MemSt, True := fun _ => trivial
    have hmk : marked s a = true := hm
    unfold marked at hmk
    cases hf : mfind s.net.scrub (a / gib) with
    | none => simp [hf] at hmk
    | some filled =>
      simp only [hf] at hmk
      unfold hbmByte marked
      simp only [onNet, onMem, mfind_mput, hf, Option.getD_some]
      rw [memGet_memZero]
      by_cases hr : x / gib = a / gib
      · simp only [hr, if_true, hf, List.contains_cons]
        by_cases hg : x % gib / 65536 = a % gib / 65536
        · have hin : a / 65536 * 65536 ≤ x ∧ x < a / 65536 * 65536 + 65536 := by unfold gib at *; omega
          have hn : filled.contains (x % gib / 65536) = false := by rw [hg]; simpa using hmk
          simp [hg, hin]
          simp [hg] at hn
          simp [hn]
        · have hout : ¬(a / 65536 * 65536 ≤ x ∧ x < a / 65536 * 65536 + 65536) := by unfold gib at *; omega
          simp [hg, hout]
      · have hout : ¬(a / 65536 * 65536 ≤ x ∧ x < a / 65536 * 65536 + 65536) := by unfold gib at *; omega
        simp only [hr, if_false, hout]
  · simp only [hm, Bool.false_eq_true, if_false]

/-- Filling a granule marks nothing, and leaves its own granule unmarked. -/
theorem marked_fillGranule (a x : Nat) (s : State) (h : marked (fillGranule a s) x = true) :
    marked s x = true ∧ x / 65536 ≠ a / 65536 := by
  unfold fillGranule at h
  by_cases hm : marked s a = true
  · simp only [hm, if_true] at h
    have hmk := hm
    unfold marked at hmk h ⊢
    simp only [onNet, onMem, mfind_mput] at h
    by_cases hr : x / gib = a / gib
    · simp only [hr, if_true, List.contains_cons, Bool.not_or, Bool.and_eq_true] at h
      cases hf : mfind s.net.scrub (a / gib) with
      | none => simp [hf] at hmk
      | some filled =>
        simp only [hf, Option.getD_some] at h
        refine ⟨by simpa [hr, hf] using h.2, ?_⟩
        have : x % gib / 65536 ≠ a % gib / 65536 := by simpa using h.1
        unfold gib at *; omega
    · simp only [hr, if_false] at h
      refine ⟨h, ?_⟩
      intro e; apply hr; unfold gib; omega
  · simp only [hm, Bool.false_eq_true, if_false] at h
    refine ⟨h, fun e => hm ?_⟩
    unfold marked at h ⊢
    have e1 : x / gib = a / gib := by unfold gib; omega
    have e2 : x % gib / 65536 = a % gib / 65536 := by unfold gib; omega
    rw [e1, e2] at h; exact h

theorem fillAll (l : List Nat) : ∀ (s : State),
    (∀ x, hbmByte (forEach l (fun g => fillGranule (65536 * g)) s) x = hbmByte s x) ∧
      (∀ x, marked (forEach l (fun g => fillGranule (65536 * g)) s) x = true → marked s x = true ∧ x / 65536 ∉ l) := by
  induction l with
  | nil => intro s; exact ⟨fun _ => rfl, fun _ m => ⟨m, by simp⟩⟩
  | cons g r ih =>
    intro s
    obtain ⟨h2, h3⟩ := ih (fillGranule (65536 * g) s)
    refine ⟨fun x => (h2 x).trans (hbmByte_fillGranule _ _ _), fun x m => ?_⟩
    obtain ⟨m1, m2⟩ := h3 x m
    obtain ⟨m3, m4⟩ := marked_fillGranule _ _ _ m1
    refine ⟨m3, ?_⟩
    simp only [List.mem_cons, not_or]
    exact ⟨by omega, m2⟩

theorem mem_unitsOf {w a n x : Nat} (h : a ≤ x ∧ x < a + n) : x / w ∈ unitsOf w a n := by
  unfold unitsOf
  have hn : n ≠ 0 := by omega
  simp only [hn, if_false, List.mem_map, List.mem_range]
  have h1 : a / w ≤ x / w := Nat.div_le_div_right h.1
  have h2 : x / w ≤ (a + n - 1) / w := Nat.div_le_div_right (by omega)
  exact ⟨x / w - a / w, by omega, by omega⟩

/-- Every byte after a write, as a window shows it: the bytes written, and elsewhere what stood there. -/
theorem hbmByte_hbmWrite (a x : Nat) (bs : List Byte) (s : State) :
    hbmByte (hbmWrite a bs s) x = if a ≤ x ∧ x < a + bs.length then bs.getD (x - a) 0 else hbmByte s x := by
  obtain ⟨h2, h3⟩ := fillAll (unitsOf 65536 a bs.length) s
  unfold hbmWrite
  generalize forEach (unitsOf 65536 a bs.length) (fun g => fillGranule (65536 * g)) s = u at h2 h3
  have hmk : ∀ y, marked (onMem (fun m => { m with hbm := memWrite m.hbm a bs, bad := (wholeBlocks a bs.length).foldl mdel m.bad }) u) y =
      marked u y := fun _ => rfl
  unfold hbmByte
  rw [hmk]
  simp only [onMem, memGet_memWrite]
  by_cases e : a ≤ x ∧ x < a + bs.length
  · have hu : marked u x = false := by
      cases hx : marked u x with
      | false => rfl
      | true => exact absurd (mem_unitsOf e) (h3 x hx).2
    simp [hu, e]
  · simp only [e, if_false]
    exact h2 x

/-- Every byte of the scratchpads after a write. -/
theorem spad_spadWrite (t o x : Nat) (bs : List Byte) (s : State) :
    memGet (spadWrite t o bs s).tile.spad x =
      if t * 0x200000 + o ≤ x ∧ x < t * 0x200000 + o + bs.length then bs.getD (x - (t * 0x200000 + o)) 0 else memGet s.tile.spad x :=
  memGet_memWrite _ _ _ _

end Sys2Proof.Machine
end

