-- ==== Sys2Proof/WellFormed.lean ====
section
/-! DEFINITION. Which commands are well formed: every number lies in the range that names something (R17 to R37), and
every field has its width. The machine gives an answer to the others too; nothing outside the module sends them. -/

set_option Elab.async false

namespace Sys2Proof

/-- Well-formedness of a request (Table 17-5): field widths, a 48-byte `PARAM`, and `DATA_LEN`'s width. -/
def Req.wf (q : Req) : Bool :=
  q.entry.opcode < 65536 && q.entry.cmdId < 18446744073709551616 && q.entry.dataLen < 4294967296 &&
    q.entry.param.length == 48 && q.from_.ring < 64

/-- Field widths of a base header (Table 4-4). -/
def Frame.wf (f : Frame) : Bool :=
  f.dest < 2 ^ 32 && f.src < 2 ^ 32 && f.ver < 4 && f.vc < 16 && f.cls < 8 && f.typ < 32 && f.len < 8192 && f.slice < 4096 &&
    f.gen < 65536 && f.seq < 4096 && f.ack < 4096 && f.hops < 32 && f.tag < 2 ^ 32

/-- Field widths of a capsule header (Table 17-3). -/
def Capsule.wf (c : Capsule) : Bool :=
  c.kind < 256 && c.sess < 65536 && c.bodyLen < 65536 && c.seg < 65536 && c.nseg < 65536 && c.cseq < 2 ^ 64 && c.mac.length == 32

/-- Well-formedness: lane-ports below 1,024, dies below 8, tiles and ports below 256, vector registers below 32, scalar
registers below 16, and each field within its width. -/
def Instr.wf : Instr → Bool
  | .nop q => q.wf
  | .caps q => q.wf
  | .ping q => q.wf
  | .devCaps q => q.wf
  | .devState q => q.wf
  | .devService q => q.wf
  | .devRestart q => q.wf
  | .devSelftest q => q.wf
  | .devMgmtcfg q => q.wf
  | .devHostquery q => q.wf
  | .portEnable q => q.wf
  | .portDisable q => q.wf
  | .portSplit q => q.wf
  | .portPower q => q.wf
  | .portQuery q => q.wf
  | .laneStats q => q.wf
  | .laneTest q => q.wf
  | .optRead q => q.wf
  | .optInspect q => q.wf
  | .optClean q => q.wf
  | .portLinkcfg q => q.wf
  | .portLstats q => q.wf
  | .portEthcfg q => q.wf
  | .cartRead q => q.wf
  | .cartOverride q => q.wf
  | .cartRescan q => q.wf
  | .routeWrite q => q.wf
  | .routeCommit q => q.wf
  | .routeHold q => q.wf
  | .routeRelease q => q.wf
  | .routeQuery q => q.wf
  | .routeCongmap q => q.wf
  | .routeCmapcfg q => q.wf
  | .routeSparstats q => q.wf
  | .sliceBind q => q.wf
  | .sliceEnable q => q.wf
  | .sliceDisable q => q.wf
  | .sliceQuery q => q.wf
  | .qosServicecfg q => q.wf
  | .qosSubcfg q => q.wf
  | .qosShapecfg q => q.wf
  | .qosPolicecfg q => q.wf
  | .qosGatewrite q => q.wf
  | .qosGatequery q => q.wf
  | .qosQstats q => q.wf
  | .qosPstats q => q.wf
  | .qosPoolcfg q => q.wf
  | .qosPoolquery q => q.wf
  | .qosMarkcfg q => q.wf
  | .groupConfig q => q.wf
  | .groupEnable q => q.wf
  | .groupDisable q => q.wf
  | .groupAbort q => q.wf
  | .groupQuery q => q.wf
  | .groupMissing q => q.wf
  | .groupPoolquery q => q.wf
  | .groupUpdcfg q => q.wf
  | .groupUpdquery q => q.wf
  | .groupNanread q => q.wf
  | .tileLoad q => q.wf
  | .tileUnload q => q.wf
  | .tileProgquery q => q.wf
  | .tileUpdbind q => q.wf
  | .tileUpdunbind q => q.wf
  | .tileUpdquery q => q.wf
  | .tileQuery q => q.wf
  | .tilePower q => q.wf
  | .tileSelftest q => q.wf
  | .schedLoad q => q.wf
  | .schedUnload q => q.wf
  | .schedEnable q => q.wf
  | .schedStop q => q.wf
  | .schedDisable q => q.wf
  | .schedQuery q => q.wf
  | .schedTimecfg q => q.wf
  | .schedTimequery q => q.wf
  | .schedAuditcfg q => q.wf
  | .schedAuditread q => q.wf
  | .snapPlan q => q.wf
  | .snapPlanquery q => q.wf
  | .snapSeal q => q.wf
  | .snapReelcfg q => q.wf
  | .snapReelenable q => q.wf
  | .snapTarget q => q.wf
  | .snapDrain q => q.wf
  | .snapRestore q => q.wf
  | .snapList q => q.wf
  | .snapQuery q => q.wf
  | .flashHealth q => q.wf
  | .flashScan q => q.wf
  | .flashScancfg q => q.wf
  | .flashBbtread q => q.wf
  | .flashFormat q => q.wf
  | .gemelPair q => q.wf
  | .gemelUnpair q => q.wf
  | .gemelQuery q => q.wf
  | .gemelAdopt q => q.wf
  | .gemelResync q => q.wf
  | .envCap q => q.wf
  | .envRampcfg q => q.wf
  | .envBrakecfg q => q.wf
  | .envOrphancfg q => q.wf
  | .envHeartbeat q => q.wf
  | .envQuery q => q.wf
  | .envSensors q => q.wf
  | .envPsu q => q.wf
  | .envRipcord q => q.wf
  | .envTraycfg q => q.wf
  | .envTrayquery q => q.wf
  | .faultQuery q => q.wf
  | .faultClasscfg q => q.wf
  | .faultIsolate q => q.wf
  | .faultRelease q => q.wf
  | .faultClear q => q.wf
  | .eventTrigcfg q => q.wf
  | .eventRead q => q.wf
  | .eventRestart q => q.wf
  | .cfgWrite q => q.wf
  | .cfgRead q => q.wf
  | .fwStage q => q.wf
  | .fwActivate q => q.wf
  | .fwQuery q => q.wf
  | .secCerts q => q.wf
  | .secFloor q => q.wf
  | .cfgJournalinit q => q.wf
  | .opQuery q => q.wf
  | .opSuspend q => q.wf
  | .opResume q => q.wf
  | .opCancel q => q.wf
  | .opList q => q.wf
  | .tileNop t => t < 256
  | .vld t vd sa off => t < 256 && vd < 32 && sa < 16 && off < 2 ^ 32
  | .vst t vs sa off => t < 256 && vs < 32 && sa < 16 && off < 2 ^ 32
  | .vstc t vs sa off fmt => t < 256 && vs < 32 && sa < 16 && off < 2 ^ 32 && 6 ≤ fmt && fmt ≤ 8
  | .vadd t vd va vb => t < 256 && vd < 32 && va < 32 && vb < 32
  | .vsub t vd va vb => t < 256 && vd < 32 && va < 32 && vb < 32
  | .vmul t vd va vb _ => t < 256 && vd < 32 && va < 32 && vb < 32
  | .vfma t vd va vb vc => t < 256 && vd < 32 && va < 32 && vb < 32 && vc < 32
  | .vema t vd va vb sc => t < 256 && vd < 32 && va < 32 && vb < 32 && sc < 16
  | .vaxpby t vd va vb sa sb => t < 256 && vd < 32 && va < 32 && vb < 32 && sa < 16 && sb < 16
  | .vrsqa t vd va sa sb => t < 256 && vd < 32 && va < 32 && sa < 16 && sb < 16
  | .vmin t vd va vb => t < 256 && vd < 32 && va < 32 && vb < 32
  | .vmax t vd va vb => t < 256 && vd < 32 && va < 32 && vb < 32
  | .vzero t vd => t < 256 && vd < 32
  | .sli t sd imm => t < 256 && sd < 16 && imm < 2 ^ 32
  | .saddi t sd sa imm => t < 256 && sd < 16 && sa < 16 && imm < 2 ^ 32
  | .sfmul t sd sa sb => t < 256 && sd < 16 && sa < 16 && sb < 16
  | .sfadd t sd sa sb => t < 256 && sd < 16 && sa < 16 && sb < 16
  | .sldu t sd off => t < 256 && sd < 16 && off < 2 ^ 32
  | .dmard t sa sb _ => t < 256 && sa < 16 && sb < 16
  | .dmawr t sa sb _ => t < 256 && sa < 16 && sb < 16
  | .dmawait t => t < 256
  | .loop t sd off => t < 256 && sd < 16 && off < 2 ^ 32
  | .endEntry t => t < 256
  | .combineEntry t _ => t < 256
  | .finaliseEntry t _ => t < 256
  | .updateEntry t _ => t < 256
  | .dmaComplete t _ _ => t < 256
  | .tileIdleGate t => t < 256
  | .tileLiftDone t => t < 256
  | .tileReloadDone t => t < 256
  | .tileSelftestDone _ _ => true
  | .frameArrival lp f _ => lp < 1024 && f.wf
  | .frameStored lp _ => lp < 1024
  | .egressGrant lp _ => lp < 1024
  | .frameTransmit lp _ => lp < 1024
  | .poolRoomAvailable die cls => die < 8 && cls < 8
  | .freeStoreAudit die _ _ _ => die < 8
  | .tableEntryRewrite die _ _ => die < 8
  | .dieClockStop die => die < 8
  | .dieClockLiftDone die => die < 8
  | .sparSlotFill die => die < 8
  | .sparCellLand die far _ => die < 8 && far < 8
  | .partialFrameTimeout lp _ => lp < 1024
  | .sparRetrain die far _ => die < 8 && far < 8
  | .sparUp die far => die < 8 && far < 8
  | .congestionMapPeriod => true
  | .holdDrained => true
  | .commitDrained => true
  | .commitDrainTimeout => true
  | .bindFenceAcked _ => true
  | .bindDrainEnd kind _ => kind < 256
  | .drainForced lp => lp < 1024
  | .bindScrubEnd kind _ => kind < 256
  | .sliceDrainEnd slice => slice < 4096
  | .scrubGranuleFill die _ => die < 8
  | .lanePowerUpEnd lp _ => lp < 1024
  | .laneRetry lp => lp < 1024
  | .lossOfSignal lane => lane < 1024
  | .lossOfLock lane => lane < 1024
  | .refclkLoss die _ => die < 8
  | .liftComplete lp => lp < 1024
  | .dozeIdleTimeout lp => lp < 1024
  | .dozeBlockRx lp blk => lp < 1024 && blk < 2 ^ 256
  | .optReadingUpdate engine _ => engine < 40
  | .inspectConnectorDone port _ => port < 256
  | .cleanDurationEnd => true
  | .cleanWaitEnd => true
  | .laneTestEnd _ _ => true
  | .cartPoll bay _ => bay < 24
  | .cartRecordReadDone bay _ => bay < 24
  | .tetherBlockRx lane _ => lane < 1024
  | .linkCtlRx lp blk => lp < 1024 && blk < 2 ^ 256
  | .trainRx lp blk => lp < 1024 && blk < 2 ^ 256
  | .trainBlockDue lp => lp < 1024
  | .creditReturnDue lp => lp < 1024
  | .replayTimeout lp => lp < 1024
  | .lockingTimeout lp => lp < 1024
  | .exchangeTimeout lp => lp < 1024
  | .retrainEnd lp => lp < 1024
  | .miscabledRecheck lp => lp < 1024
  | .linkFlushTimeout lp => lp < 1024
  | .ethPacketRx port _ => port < 256
  | .roceAckTimeout _ => true
  | .roceRateRestore _ => true
  | .nvmeKeepAlive tgt => tgt < 8
  | .targetReconnect tgt _ => tgt < 8
  | .gateTakeover lp => lp < 1024
  | .gateFreeRunStart => true
  | .contribRx die _ => die < 8
  | .resultRx die _ => die < 8
  | .fallbackNoticeRx die _ => die < 8
  | .recomputeNoticeRx die _ => die < 8
  | .treeDoneRx die _ => die < 8
  | .claimRetry => true
  | .basketRelease grp seq chunk => grp < 65536 && seq < 2 ^ 32 && chunk < 2 ^ 32
  | .fallbackTimeout grp seq chunk => grp < 65536 && seq < 2 ^ 32 && chunk < 2 ^ 32
  | .groupWatchdog grp seq => grp < 65536 && seq < 2 ^ 32
  | .groupDisableDone grp => grp < 65536
  | .updraftMemberRx die _ _ => die < 8
  | .sweepRx die _ _ => die < 8
  | .updraftDoneNoticeRx die _ => die < 8
  | .refillRx die _ => die < 8
  | .interruptedNoticeRx die _ => die < 8
  | .updraftResend die => die < 8
  | .windowRead die _ _ _ => die < 8
  | .windowWrite die _ _ _ => die < 8
  | .fence die _ => die < 8
  | .streamMarkExpire die src dest cls => die < 8 && src < 2 ^ 32 && dest < 2 ^ 32 && cls < 8
  | .cxlMemRead addr _ tag _ => addr < 2 ^ 64 && tag < 2 ^ 32
  | .cxlMemWrite addr _ tag _ => addr < 2 ^ 64 && tag < 2 ^ 32
  | .syncDue lp => lp < 1024
  | .syncRx lp xseq _ steps => lp < 1024 && xseq < 65536 && steps < 256
  | .delayReqRx lp xseq _ => lp < 1024 && xseq < 65536
  | .delayRespRx lp xseq _ => lp < 1024 && xseq < 65536
  | .armedRx lp tag _ => lp < 1024 && tag < 2 ^ 32
  | .launchRx lp tag _ => lp < 1024 && tag < 2 ^ 32
  | .haltRx lp tag _ => lp < 1024 && tag < 2 ^ 32
  | .exchangeMissing => true
  | .holdoverTimeout => true
  | .syncPpsEdge => true
  | .schedArmed => true
  | .schedLaunchTime => true
  | .schedSparEntry _ => true
  | .schedEgressEntry _ => true
  | .schedClaimEntry _ => true
  | .schedIssueEntry _ => true
  | .schedDueEntry _ => true
  | .schedRefreshEntry _ => true
  | .schedPowerEntry _ => true
  | .schedLiftEntry _ => true
  | .schedGateEntry _ => true
  | .schedUpdEntry _ => true
  | .schedFlagEntry _ => true
  | .schedPeriodEnd => true
  | .sealTakeEffect side => side < 2
  | .moverPiece tier die _ => tier < 5 && die < 8
  | .snapDataRx die _ => die < 8
  | .snapHeaderRx die _ => die < 8
  | .snapAckRx die _ => die < 8
  | .pageReqRx die _ _ => die < 8
  | .pageDataRx die _ => die < 8
  | .noCopyRx die _ => die < 8
  | .targetFlushDone tgt _ => tgt < 8
  | .restoreComplete side => side < 2
  | .pageProgramDone _ _ _ => true
  | .eraseComplete _ _ fdie => fdie < 256
  | .releaseAfterRead _ => true
  | .scanDue => true
  | .scanBlockRead fdie blk _ _ _ => fdie < 256 && blk < 4096
  | .flashDieUnresponsive fdie => fdie < 256
  | .offerDue => true
  | .offerRx lp rec => lp < 1024 && 32 ≤ rec.length && rec.length ≤ 1024
  | .mirrorEntryRx lp rec => lp < 1024 && 32 ≤ rec.length && rec.length ≤ 1024
  | .mirrorAckRx lp rec => lp < 1024 && 32 ≤ rec.length && rec.length ≤ 1024
  | .heartbeatRx lp rec => lp < 1024 && 32 ≤ rec.length && rec.length ≤ 1024
  | .keelLostRx lp rec => lp < 1024 && 32 ≤ rec.length && rec.length ≤ 1024
  | .syncDoneRx lp rec => lp < 1024 && 32 ≤ rec.length && rec.length ≤ 1024
  | .heartbeatDue => true
  | .twinLost => true
  | .mirrorResendTimeout => true
  | .mramWriteDone _ => true
  | .mramFail => true
  | .pairTimeout => true
  | .soloRoleRestore => true
  | .sqDoorbell ring tail _ => ring < 64 && tail < 65536
  | .cqDoorbell ring head => ring < 64 && head < 65536
  | .ringEnable ring => ring < 64
  | .ringDisable ring => ring < 64
  | .commandTake _ => true
  | .helloRx _ => true
  | .finishRx xp sess _ _ _ => xp < 3 && sess < 64
  | .commandCapsuleRx xp cap => xp < 3 && cap.wf
  | .closeRx xp cap => xp < 3 && cap.wf
  | .sessionIdle xp sess => xp < 3 && sess < 64
  | .segmentTimeout xp sess _ => xp < 3 && sess < 64
  | .ticketStart _ => true
  | .suspendPointReached _ => true
  | .cancelUndoDone _ => true
  | .operationFinish _ _ => true
  | .spdmGetVersion _ ver => ver < 256
  | .spdmGetCapabilities _ ver => ver < 256
  | .spdmNegotiateAlgorithms _ ver _ _ => ver < 256
  | .spdmGetDigests _ ver => ver < 256
  | .spdmGetCertificate _ ver slot off len => ver < 256 && slot < 256 && off < 65536 && len < 65536
  | .spdmChallenge _ ver slot nonce => ver < 256 && slot < 256 && nonce.length == 32
  | .spdmGetMeasurements _ ver _ nonce => ver < 256 && nonce.length == 32
  | .doeAbort => true
  | .identifyMemoryDevice => true
  | .getSupportedLogs => true
  | .getLog _ off _ => off < 2 ^ 32
  | .getHealthInfo => true
  | .mailboxUnsupported opc => opc < 65536
  | .hdmDecoderCommit dec _ _ _ _ => dec < 2
  | .perstAssert _ => true
  | .perstDeassert => true
  | .hostLinkChange mode width rate => mode < 256 && width < 256 && rate < 256
  | .mgmtLinkChange _ => true
  | .mgmtPacketRx _ => true
  | .ftNowRead half => half < 2
  | .lowHalfRead off => off < 65536
  | .registerWrite off size _ => off < 65536 && (size == 4 || size == 8)
  | .fltFirstClear => true
  | .evrRestartWrite => true
  | .vsb12Up cv => cv < 65536
  | .vsb12Lost => true
  | .pwrOkAssert => true
  | .keelUpEntry plane tray _ => plane < 256 && tray < 256
  | .startupDone _ => true
  | .pwrOkDeassert => true
  | .vin40Fault cv => cv < 65536
  | .keelWatchdogExpire => true
  | .headlessRestart => true
  | .faultReportBatch _ => true
  | .faultWindowExpire src => src < 2 ^ 32
  | .faultQuietExpire src => src < 2 ^ 32
  | .releaseTestDone src _ => src < 2 ^ 32
  | .powerMeasurement vin iin => vin < 65536 && iin < 65536
  | .sensorReading _ _ => true
  | .droguePresetUpdate => true
  | .drogueAssert => true
  | .vinDrogueLow cv => cv < 65536
  | .drogueEnd cv => cv < 65536
  | .pumpConditionStart => true
  | .pumpConditionEnd => true
  | .ripcordInput => true
  | .leakInput _ => true
  | .thermalTrip _ => true
  | .capDeadline => true
  | .heartbeatMissed => true
  | .keelLossOrphanCap => true
  | .psuPoll _ => true
  | .psuAlertInput _ => true
  | .stopConditionCleared _ => true
  | .storageLinkLock port _ => port < 256
  | .flashReadDone addr tier _ => addr < 2 ^ 64 && tier < 5
  | .headlessFaultReportRx die src kind _ => die < 8 && src < 2 ^ 32 && kind < 256

end Sys2Proof
end

