-- ==== Sys2Proof/Tests/Slice0.lean ====
section
/-! SUPPORT. Tests: what the manual's worked examples say, ill-formed commands refused, one step at a time on small states, and, for the
hypotheses of every statement, a state and operands that meet them. -/
set_option Elab.async false
set_option linter.unusedVariables false
namespace Sys2Proof.Tests
open Sys2Proof Sys2Proof.Machine

/-! ### Small states -/

/-- A ring of 64 entries with the privilege OWNER. -/
def ring0 : Ring := ⟨0x1000, 0x2000, 0x3000, 0, true, 2, 6, true, 0, 0, 0, .enabled, 0, 0, 0, 0, []⟩
/-- A READY flagship with ring 0 enabled and nothing set. -/
def rdy : State := { State.reset with sys := { sysReset with st := .ready, starting := false }, cmd := { cmdReset with rings := [(0, ring0)] } }
/-- A command of ring 0 by its opcode and parameter fields (offset, bytes, value), with its input buffer. `BUF_ADDR` and `BUF_LEN` name 16 KiB where the command has them. -/
def rqb (op : Nat) (par : List (Nat × Nat × Nat)) (buf : List Byte) : Req :=
  ⟨⟨.host, 0⟩, ⟨op, false, false, 0, 1, 0,
    fields 48 (par ++ if (cat op).buf = 48 then [] else
      ((cat op).buf, 8, 0x10000) :: if (cat op).flds.contains (fb ((cat op).buf + 8) 4) then [((cat op).buf + 8, 4, 0x4000)] else []), []⟩, buf⟩
/-- A command without an input buffer. -/
def rq (op : Nat) (par : List (Nat × Nat × Nat)) : Req := rqb op par []
/-- A schedule image of one POWER entry. -/
def powerImg : List Byte :=
  fields 144 [(0, 4, 0x44435351), (4, 2, 1), (6, 2, 128), (8, 8, detClass rdy), (16, 2, 1), (20, 4, 1024), (24, 4, 1), (143, 1, 7)]
/-- A program at the first word of slot 1, with page 0 of the scratchpad. -/
def run0 : Running := ⟨0, 0, 0, 512, [0], 0, 0, 0, 0, [], [], false, false⟩
/-- Tile 0 as given. -/
def oneTile (x : Tile) : State := { rdy with tile := { tileReset with tiles := [(0, x)] } }
/-- Tile 0 about to issue a word, with scalar registers. -/
def prog (w : Nat) (r : Running) (sregs : Map Nat) : State :=
  oneTile { tileDflt with st := .active, run := some r, imem := mset 0 [] 512 w, sregs := sregs }
/-- One ticket, in slot 0. -/
def oneTicket (t : Ticket) : State := { rdy with cmd := { cmdReset with rings := [(0, ring0)], tickets := [(0, t)], serial := 2 } }
/-- A frame whose fields are zero. -/
def frm : Frame := ⟨0, 0, 0, none, 0, false, 0, 0, 0, 0, 0, 0, 0, false, false, 0, 0, [], 0, 0⟩
/-- A frame held at a consumer or in a leaf queue. -/
def ent (f : Frame) : QEnt := ⟨1, 0, f, [], none, 0, 0, false, true, 0, 0, 0⟩
/-- One link in a state. -/
def linkIn (l : Nat) (st : LinkState) : State := { rdy with net := { netReset with links := [(l, { linkDflt with st := st })] } }
/-- One unsplit lane-port UP with its lanes ACTIVE. -/
def upOn (l : Nat) : State :=
  { rdy with net := { netReset with links := [(l, { linkDflt with st := .up })], lanes := (List.range 4).map fun i => (l + i, { laneOff with power := .active }) } }
/-- Die 0 as given. -/
def oneDie (d : Die) : State := { rdy with core := { coreReset with dies := [(0, d)] } }
/-- A control block of a kind, its CRC right. -/
def block (typ : Nat) : Nat := (typ <<< 232) <<< 16 + crc16 (beBytes 30 (typ <<< 232))
/-- A schedule image of one entry, for some modules. -/
def imgOf (modules cyc kind body : Nat) : List Byte :=
  fields 144 [(0, 4, 0x44435351), (4, 2, 1), (6, 2, 128), (16, 2, 1), (20, 4, 1024), (24, 4, 1), (28, 4, modules), (128, 12, body), (140, 3, cyc), (143, 1, kind)]
/-- A mirror record of a kind, its CRC right. -/
def record32 (kind : Nat) (body : List Byte) : List Byte :=
  let h := fields 28 [(0, 1, kind), (4, 4, body.length)]
  h ++ leBytes 4 (recCrc (h ++ [0, 0, 0, 0] ++ body)) ++ body
/-- A session of an OWNER, with empty keys. -/
def sess0 : Session := ⟨true, 0, 2, [], [], 0, 0, [], [], [], [], 0, 0, []⟩
/-- A capsule of a kind with `n` body bytes, its MAC right under `sess0`. -/
def capsule (kind n : Nat) : Capsule :=
  ⟨kind, 0, n, 0, 1, 1, List.replicate n 0, hmac [] (capHead kind 0 n 0 1 1 ++ List.replicate n 0)⟩
/-- A sequence open with one piece of nothing. -/
def seq1 : Sequence := ⟨1, 0, 0, 0, 1, 65536, 0, false, 0, 0, 0, 0, 0, [], [], 0, [], [], false, []⟩
/-- Does an outcome give a next state of which `p` holds? -/
def outcomeOf (o : Host.Outcome State Fault Refusal) (p : State → Bool) : Bool := match o with | .next t => p t | _ => false


/-! ### Worked examples of the manual -/

/-- Table 1-7: `FITTED` of `QFM-8TFO`, `QFM-4NXE` and `QFM-2TFO`. -/
theorem test_fitted_of_three_variants :
    fitted rdy = 0xFFFFFFFF03FFFFFF ∧ fitted { rdy with id := { identReset with n := 4, tiles := false, flash := false, optics := false } } = 0x0000FFFF0000000F ∧
      fitted { rdy with id := { identReset with n := 2 } } = 0x000000FF03030303 := by decide +kernel
/-- Chapter 01: `USABLE` with sail die 5 isolated. -/
theorem test_usable_without_die_five :
    usable { rdy with flt := { fltReset with src := [(srcId 1 5, { srcOk with st := .isolated })] } } = 0xFF0FFFFF03DFDFDF := by decide +kernel
/-- Chapter 02: the coordinates of accelerator 77 and of the module's HBM function; the place of an HBM address. -/
theorem test_coordinates_of_rack_three_five :
    mkCoord 3 5 2 19 1 0 = 0x0C549900 ∧
      ownCoord { rdy with sys := { rdy.sys with plane := 2 }, set := { setReset with active := { bankReset with ownA := 3, ownB := 5 } } } 0xF2 = 0x0C55F8F2 ∧
      hbmStack 0x6000005010 = 17 ∧ 0x6000005010 / gib = 384 ∧ portDie 133 = 4 ∧ portLoc 133 = 5 := by decide +kernel
/-- Chapter 03: the expected far coordinate of port 133. -/
theorem test_expected_far_end_of_port_133 :
    (expectFar { rdy with sys := { rdy.sys with plane := 2 }, set := { setReset with active := { bankReset with ownA := 3, ownB := 5 } },
                          net := { netReset with bays := [(12, { bayDflt with cstatus := 0, entries := [(532, ⟨1, 0, 0x9900, 0, 0, 0⟩)] })] } } 532).2.1 = 0x0C549900 := by
  decide +kernel
/-- Chapter 05: the C5 pool of die 4 with every port enabled and unsplit. -/
theorem test_pool_of_die_four :
    poolSize { rdy with set := { setReset with ports := (List.range 32).map fun i => (128 + i, { portDflt (128 + i) with admin := true }) } } 4 5 = 121560 := by
  decide +kernel
/-- Chapter 06: hash 0x9A29 names local port 19 of die 1 in direction A+. -/
theorem test_spread_entry_of_hash : spreadEntry rdy bankReset 0 (0x9A29 % 48) = 51 := by decide +kernel
/-- Module (6, 1) of plane 3 in an installation of 8 by 8 racks, port 51 up. -/
def rack61 : State :=
  { rdy with sys := { rdy.sys with plane := 3 },
             set := { setReset with active := { bankReset with ownA := 6, ownB := 1, sizeA := 8, sizeB := 8, dateA := 7, dateB := 7, hopLimit := 8 },
                                    ports := [(51, { portDflt 51 with admin := true })] },
             net := { netReset with links := [(204, { linkDflt with st := .up })] } }
/-- Table 6-6, first line: out of die 1's port 19 on VC 12 with one hop made. -/
theorem test_first_hop_of_a_halo_frame :
    lookup rack61 (some (128, 6)) { frm with src := 0x18162200, dest := 0x04265300, cls := 6 } = .out 204 12 1 := by decide +kernel
/-- Table 6-6, second line: module (7, 1) crosses the date line onto VC 13. -/
theorem test_date_line_of_a_halo_frame :
    lookup { rack61 with set := { rack61.set with active := { rack61.set.active with ownA := 7 } } } (some (216, 12))
      { frm with src := 0x18162200, dest := 0x04265300, cls := 6, hops := 1 } = .out 204 13 2 := by decide +kernel
/-- Chapter 07: slot 3's leaf queue on lane-port 72; the cycle and the opening of C6 of the gate list of lane-port 640. -/
theorem test_leaf_queue_number : leafNo 72 5 3 = 74371 := by decide
theorem test_gate_list_of_job_w :
    gateCycle [(0x24, 2000), (0xDC, 6000)] = 8000 ∧ longestOpen [(0x24, 2000), (0xDC, 6000)] 6 = 6000 ∧
      longestOpen [(0x24, 2000), (0xDC, 6000)] 5 = 2000 := by decide +kernel
/-- Chapter 08: three BF16 contributions in member order, in ORDERED FAST mode and in EXACT mode. -/
def threeBf16 (mode : Nat) : List Byte :=
  let e := fun (a b : Byte) => elemPartial mode 7 0 [a, b] 0
  finaliseBytes mode 7 0 3 [(foldPartial mode 7 0 (foldPartial mode 7 0 (e 0x80 0x4B) (e 0x80 0x3F)).1 (e 0x80 0xCB)).1]
theorem test_three_bf16_contributions : threeBf16 1 = [0x00, 0x00] ∧ threeBf16 2 = [0x80, 0x3F] := by decide +kernel
/-- Chapter 08: 300.0 in an MXFP8 E4M3 block. -/
theorem test_mx_block_of_300 :
    ((mxBlock 10 (Num.fin false 300 0 :: List.replicate 31 (Num.fin false 0 0))).1,
      (mxBlock 10 (Num.fin false 300 0 :: List.replicate 31 (Num.fin false 0 0))).2.head?) = (0x7F, some 0x79) := by decide +kernel
/-- Chapter 10: the blocks of job W's group, with `UPD_MAX` 48 and by default. -/
def jobW : GroupCfg :=
  ⟨1, 0, 9, 1, 0xFF, 1, 0, 0, 9, 1, 0, 0, 1152, ⟨0, 0, 0, 0, 0, 0⟩, ⟨0, 0, 0, 0, 0, 0⟩, (List.range 144).map fun i => (i, i)⟩
theorem test_updraft_blocks_of_job_w :
    reservedBlocks jobW ⟨48, 2, 3, 1, [3, 0, 1, 0], []⟩ = 58 ∧ reservedBlocks jobW ⟨64, 2, 3, 1, [3, 0, 1, 0], []⟩ = 76 := by decide +kernel
/-- Table 18-4: two completions byte by byte. -/
theorem test_two_completions :
    cplBytes ⟨0x85, 0x0201, .refused, false, 0x0412, 0, 0, 42, true⟩ =
        [0x85, 0, 0, 0, 0, 0, 0, 0, 0x01, 0x02, 0x82, 0, 0x12, 0x04, 0x2A, 0, 0, 0, 0, 0, 0, 0, 0, 0, 0, 0, 0, 0, 0, 0, 0, 0] ∧
      cplBytes ⟨0x86, 0x0402, .failed, true, 0x0404, 0x2B07, 0, 0, true⟩ =
        [0x86, 0, 0, 0, 0, 0, 0, 0, 0x02, 0x04, 0x8B, 0, 0x04, 0x04, 0, 0, 0x07, 0x2B, 0, 0, 0, 0, 0, 0, 0, 0, 0, 0, 0, 0, 0, 0] := by
  decide +kernel
/-- Chapter 21: the source id of tile 3 of die 5. -/
theorem test_source_of_tile_163 : srcId 4 163 = 0x4A3 := by decide
/-- Chapter 22: under a floor of 240 W a cap of 1,000 W is refused and one of 1,200 W is not. -/
def floor240 : State := { rdy with sched := { schedReset with slot := some 0, floorW := 240 } }
theorem test_cap_below_the_scheduled_floor :
    schedFloor floor240 = 1065 ∧ chkEnvCap (rq 0x0D01 [(0, 2, 1000)]) floor240 = some 0x0D04 ∧
      chkEnvCap (rq 0x0D01 [(0, 2, 1200)]) floor240 = none := by decide +kernel
/-- FIPS 180-4: SHA-256 of "abc". -/
theorem test_sha256_abc : leNat (sha256 [0x61, 0x62, 0x63]).reverse = 0xBA7816BF8F01CFEA414140DE5DAE2223B00361A396177A9CB410FF61F20015AD := by
  decide +kernel

/-! ### Steps -/

/-- PING as the front command: the queue's rest stays, and the completion echoes the operand (R412). -/
theorem test_step_runs_the_front_command :
    outcomeOf (step { rdy with pending := [.ping (rq 0x0002 [(0, 8, 0x1234)]), .nop (rq 0 [])] })
      (fun t => t.pending == [.nop (rq 0 [])] && t.out.any fun o => match o with
        | .hostWrite a bs => a == 0x3000 && bs.take 2 == [0x34, 0x12]
        | _ => false) = true := by decide +kernel
/-- An empty queue: one F cycle. -/
theorem test_step_on_an_empty_queue : outcomeOf (step rdy) (fun t => t.mono == 1 && t.cmd == rdy.cmd) = true := by decide +kernel
/-- The table gives no bits, so no word spells a command, and placing one changes nothing. -/
theorem test_no_word_spells_a_command : decodeTableWord 32 0 = none ∧ rdy.withFetchWord 32 0 = rdy := by decide +kernel
/-- SADDI adds its immediate with its sign (R263): 5 plus −1. -/
theorem test_saddi_of_a_negative_immediate :
    outcomeOf (exec (.saddi 0 1 0 0xFFFFFFFF) (prog (insn 0x31 1 0 0 0 0 0xFFFFFFFF) run0 [(0, 5)])) (fun t => sreg t 0 1 == 4) = true := by
  decide +kernel
/-- LOOP goes back to its target while its counter is not zero (R263). -/
theorem test_loop_goes_back :
    outcomeOf (exec (.loop 0 0 0) (prog (insn 0x50 0 0 0 0 0 0) run0 [(0, 2)])) (fun t => sreg t 0 0 == 1 && (tileOf t 0).run.any (·.pc == 512)) = true := by
  decide +kernel
/-- VADD of 1.0 and 2.0 in lane 0. -/
theorem test_vadd_of_one_and_two :
    outcomeOf (exec (.vadd 0 2 0 1) (oneTile { tileDflt with
        st := .active, run := some run0, imem := [(512, insn 0x10 2 0 1 0 0 0)], vregs := [(0, 0x3F800000), (1, 0x40000000)] }))
      (fun t => vreg t 0 2 == 0x40400000) = true := by decide +kernel
/-- A host write changes the byte it names (R417), and a refused access of another transport's filter does not. -/
def hostUp (fil : Nat) : State :=
  { rdy with host := { hostReset with l0 := true, mode := 1, dec := [(0, ⟨0, gib, 0, 0, true, false⟩)] }, set := { setReset with filter0 := fil } }
theorem test_host_write_then_read :
    outcomeOf (exec (.cxlMemWrite 64 [7] 3 false) (hostUp 0xFFFF)) (fun t => hbmByte t 64 == 7 && hbmByte t 65 == 0) = true ∧
      outcomeOf (exec (.cxlMemWrite 64 [7] 3 false) (hostUp 5)) (fun t => hbmByte t 64 == 0 && t.host.hdmDenied == 1) = true := by
  decide +kernel
/-- A supply beyond the absolute maximum rating stops the model (R491), one within it does not. -/
theorem test_ratings :
    exec (.vsb12Up 1401) State.reset = .fault .beyondRatings ∧ outcomeOf (exec (.vsb12Up 1400) State.reset) (fun _ => true) = true :=
  ⟨rfl, by decide +kernel⟩


/-! ### Ill-formed commands -/

/-- An entry of opcode 0 with its fields zero. -/
def e0 : Entry := ⟨0, false, false, 0, 1, 0, List.replicate 48 0, []⟩
/-- A request whose opcode has 17 bits. -/
def badReq : Req := ⟨⟨.host, 0⟩, { e0 with opcode := 65536 }, []⟩

theorem test_wf_refuses_requests : [⟨⟨.host, 0⟩, { e0 with opcode := 65536 }, []⟩, ⟨⟨.host, 0⟩, { e0 with cmdId := 2 ^ 64 }, []⟩, ⟨⟨.host, 0⟩, { e0 with dataLen := 2 ^ 32 }, []⟩, ⟨⟨.host, 0⟩, { e0 with param := [] }, []⟩, ⟨⟨.mgmt, 64⟩, e0, []⟩].all (fun q : Req => !q.wf) = true := by decide +kernel
theorem test_wf_refuses_frames :
    [{ frm with dest := 2 ^ 32 }, { frm with src := 2 ^ 32 }, { frm with ver := 4 }, { frm with vc := 16 }, { frm with cls := 8 }, { frm with typ := 32 }, { frm with len := 8192 }, { frm with slice := 4096 }, { frm with gen := 65536 }, { frm with seq := 4096 }, { frm with ack := 4096 }, { frm with hops := 32 }, { frm with tag := 2 ^ 32 }].all (fun f : Frame => !f.wf) = true := by decide +kernel
theorem test_wf_refuses_capsules :
    [{ capsule 5 0 with kind := 256 }, { capsule 5 0 with sess := 65536 }, { capsule 5 0 with bodyLen := 65536 }, { capsule 5 0 with seg := 65536 }, { capsule 5 0 with nseg := 65536 }, { capsule 5 0 with cseq := 2 ^ 64 }, { capsule 5 0 with mac := [] }].all (fun c : Capsule => !c.wf) = true := by decide +kernel
theorem test_wf_takes_good_ones : (rq 0 []).wf = true ∧ frm.wf = true ∧ (capsule 5 0).wf = true := by decide +kernel
theorem test_wf_refuses_commands_0 :
    ([.nop badReq, .caps badReq, .ping badReq, .devCaps badReq,
      .devState badReq, .devService badReq, .devRestart badReq, .devSelftest badReq,
      .devMgmtcfg badReq, .devHostquery badReq, .portEnable badReq, .portDisable badReq,
      .portSplit badReq, .portPower badReq, .portQuery badReq, .laneStats badReq,
      .laneTest badReq, .optRead badReq, .optInspect badReq, .optClean badReq,
      .portLinkcfg badReq, .portLstats badReq, .portEthcfg badReq, .cartRead badReq,
      .cartOverride badReq, .cartRescan badReq, .routeWrite badReq, .routeCommit badReq,
      .routeHold badReq, .routeRelease badReq, .routeQuery badReq, .routeCongmap badReq,
      .routeCmapcfg badReq] : List Instr).all (fun i => !i.wf) = true := by decide +kernel
theorem test_wf_refuses_commands_1 :
    ([.routeSparstats badReq, .sliceBind badReq, .sliceEnable badReq, .sliceDisable badReq,
      .sliceQuery badReq, .qosServicecfg badReq, .qosSubcfg badReq, .qosShapecfg badReq,
      .qosPolicecfg badReq, .qosGatewrite badReq, .qosGatequery badReq, .qosQstats badReq,
      .qosPstats badReq, .qosPoolcfg badReq, .qosPoolquery badReq, .qosMarkcfg badReq,
      .groupConfig badReq, .groupEnable badReq, .groupDisable badReq, .groupAbort badReq,
      .groupQuery badReq, .groupMissing badReq, .groupPoolquery badReq, .groupUpdcfg badReq,
      .groupUpdquery badReq, .groupNanread badReq, .tileLoad badReq, .tileUnload badReq,
      .tileProgquery badReq, .tileUpdbind badReq, .tileUpdunbind badReq, .tileUpdquery badReq,
      .tileQuery badReq] : List Instr).all (fun i => !i.wf) = true := by decide +kernel
theorem test_wf_refuses_commands_2 :
    ([.tilePower badReq, .tileSelftest badReq, .schedLoad badReq, .schedUnload badReq,
      .schedEnable badReq, .schedStop badReq, .schedDisable badReq, .schedQuery badReq,
      .schedTimecfg badReq, .schedTimequery badReq, .schedAuditcfg badReq, .schedAuditread badReq,
      .snapPlan badReq, .snapPlanquery badReq, .snapSeal badReq, .snapReelcfg badReq,
      .snapReelenable badReq, .snapTarget badReq, .snapDrain badReq, .snapRestore badReq,
      .snapList badReq, .snapQuery badReq, .flashHealth badReq, .flashScan badReq,
      .flashScancfg badReq, .flashBbtread badReq, .flashFormat badReq, .gemelPair badReq,
      .gemelUnpair badReq, .gemelQuery badReq, .gemelAdopt badReq, .gemelResync badReq,
      .envCap badReq] : List Instr).all (fun i => !i.wf) = true := by decide +kernel
theorem test_wf_refuses_commands_3 :
    ([.envRampcfg badReq, .envBrakecfg badReq, .envOrphancfg badReq, .envHeartbeat badReq,
      .envQuery badReq, .envSensors badReq, .envPsu badReq, .envRipcord badReq,
      .envTraycfg badReq, .envTrayquery badReq, .faultQuery badReq, .faultClasscfg badReq,
      .faultIsolate badReq, .faultRelease badReq, .faultClear badReq, .eventTrigcfg badReq,
      .eventRead badReq, .eventRestart badReq, .cfgWrite badReq, .cfgRead badReq,
      .fwStage badReq, .fwActivate badReq, .fwQuery badReq, .secCerts badReq,
      .secFloor badReq, .cfgJournalinit badReq, .opQuery badReq, .opSuspend badReq,
      .opResume badReq, .opCancel badReq, .opList badReq] : List Instr).all (fun i => !i.wf) = true := by decide +kernel
theorem test_wf_refuses_rows_0 :
    ([.tileNop 256, .vld 256 0 0 0, .vld 0 32 0 0, .vld 0 0 16 0,
      .vld 0 0 0 (2 ^ 32), .vst 256 0 0 0, .vst 0 32 0 0, .vst 0 0 16 0,
      .vst 0 0 0 (2 ^ 32), .vstc 256 0 0 0 6, .vstc 0 32 0 0 6, .vstc 0 0 16 0 6,
      .vstc 0 0 0 (2 ^ 32) 6, .vstc 0 0 0 0 5, .vstc 0 0 0 0 9, .vadd 256 0 0 0,
      .vadd 0 32 0 0, .vadd 0 0 32 0, .vadd 0 0 0 32, .vsub 256 0 0 0,
      .vsub 0 32 0 0, .vsub 0 0 32 0, .vsub 0 0 0 32, .vmul 256 0 0 0 false] : List Instr).all (fun i => !i.wf) = true := by decide +kernel
theorem test_wf_refuses_rows_1 :
    ([.vmul 0 32 0 0 false, .vmul 0 0 32 0 false, .vmul 0 0 0 32 false, .vfma 256 0 0 0 0,
      .vfma 0 32 0 0 0, .vfma 0 0 32 0 0, .vfma 0 0 0 32 0, .vfma 0 0 0 0 32,
      .vema 256 0 0 0 0, .vema 0 32 0 0 0, .vema 0 0 32 0 0, .vema 0 0 0 32 0,
      .vema 0 0 0 0 16, .vaxpby 256 0 0 0 0 0, .vaxpby 0 32 0 0 0 0, .vaxpby 0 0 32 0 0 0,
      .vaxpby 0 0 0 32 0 0, .vaxpby 0 0 0 0 16 0, .vaxpby 0 0 0 0 0 16, .vrsqa 256 0 0 0 0,
      .vrsqa 0 32 0 0 0, .vrsqa 0 0 32 0 0, .vrsqa 0 0 0 16 0, .vrsqa 0 0 0 0 16] : List Instr).all (fun i => !i.wf) = true := by decide +kernel
theorem test_wf_refuses_rows_2 :
    ([.vmin 256 0 0 0, .vmin 0 32 0 0, .vmin 0 0 32 0, .vmin 0 0 0 32,
      .vmax 256 0 0 0, .vmax 0 32 0 0, .vmax 0 0 32 0, .vmax 0 0 0 32,
      .vzero 256 0, .vzero 0 32, .sli 256 0 0, .sli 0 16 0,
      .sli 0 0 (2 ^ 32), .saddi 256 0 0 0, .saddi 0 16 0 0, .saddi 0 0 16 0,
      .saddi 0 0 0 (2 ^ 32), .sfmul 256 0 0 0, .sfmul 0 16 0 0, .sfmul 0 0 16 0,
      .sfmul 0 0 0 16, .sfadd 256 0 0 0, .sfadd 0 16 0 0, .sfadd 0 0 16 0] : List Instr).all (fun i => !i.wf) = true := by decide +kernel
theorem test_wf_refuses_rows_3 :
    ([.sfadd 0 0 0 16, .sldu 256 0 0, .sldu 0 16 0, .sldu 0 0 (2 ^ 32),
      .dmard 256 0 0 0, .dmard 0 16 0 0, .dmard 0 0 16 0, .dmawr 256 0 0 0,
      .dmawr 0 16 0 0, .dmawr 0 0 16 0, .dmawait 256, .loop 256 0 0,
      .loop 0 16 0, .loop 0 0 (2 ^ 32), .endEntry 256, .combineEntry 256 none,
      .finaliseEntry 256 none, .updateEntry 256 none, .dmaComplete 256 0 false, .tileIdleGate 256,
      .tileLiftDone 256, .tileReloadDone 256, .frameArrival 1024 frm none, .frameArrival 0 ({ frm with dest := 2 ^ 32 }) none] : List Instr).all (fun i => !i.wf) = true := by decide +kernel
theorem test_wf_refuses_rows_4 :
    ([.frameStored 1024 0, .egressGrant 1024 none, .frameTransmit 1024 none, .poolRoomAvailable 8 0,
      .poolRoomAvailable 0 8, .freeStoreAudit 8 0 false false, .tableEntryRewrite 8 0 0, .dieClockStop 8,
      .dieClockLiftDone 8, .sparSlotFill 8, .sparCellLand 8 0 false, .sparCellLand 0 8 false,
      .partialFrameTimeout 1024 0, .sparRetrain 8 0 false, .sparRetrain 0 8 false, .sparUp 8 0,
      .sparUp 0 8, .bindDrainEnd 256 0, .drainForced 1024, .bindScrubEnd 256 0,
      .sliceDrainEnd 4096, .scrubGranuleFill 8 0, .lanePowerUpEnd 1024 false, .laneRetry 1024] : List Instr).all (fun i => !i.wf) = true := by decide +kernel
theorem test_wf_refuses_rows_5 :
    ([.lossOfSignal 1024, .lossOfLock 1024, .refclkLoss 8 false, .liftComplete 1024,
      .dozeIdleTimeout 1024, .dozeBlockRx 1024 0, .dozeBlockRx 0 (2 ^ 256), .optReadingUpdate 40 [],
      .inspectConnectorDone 256 [], .cartPoll 24 none, .cartRecordReadDone 24 none, .tetherBlockRx 1024 none,
      .linkCtlRx 1024 0, .linkCtlRx 0 (2 ^ 256), .trainRx 1024 0, .trainRx 0 (2 ^ 256),
      .trainBlockDue 1024, .creditReturnDue 1024, .replayTimeout 1024, .lockingTimeout 1024,
      .exchangeTimeout 1024, .retrainEnd 1024, .miscabledRecheck 1024, .linkFlushTimeout 1024] : List Instr).all (fun i => !i.wf) = true := by decide +kernel
theorem test_wf_refuses_rows_6 :
    ([.ethPacketRx 256 (.pause), .nvmeKeepAlive 8, .targetReconnect 8 false, .gateTakeover 1024,
      .contribRx 8 false, .resultRx 8 false, .fallbackNoticeRx 8 false, .recomputeNoticeRx 8 false,
      .treeDoneRx 8 false, .basketRelease 65536 0 0, .basketRelease 0 (2 ^ 32) 0, .basketRelease 0 0 (2 ^ 32),
      .fallbackTimeout 65536 0 0, .fallbackTimeout 0 (2 ^ 32) 0, .fallbackTimeout 0 0 (2 ^ 32), .groupWatchdog 65536 0,
      .groupWatchdog 0 (2 ^ 32), .groupDisableDone 65536, .updraftMemberRx 8 false false, .sweepRx 8 false false,
      .updraftDoneNoticeRx 8 false, .refillRx 8 false, .interruptedNoticeRx 8 false, .updraftResend 8] : List Instr).all (fun i => !i.wf) = true := by decide +kernel
theorem test_wf_refuses_rows_7 :
    ([.windowRead 8 0 false false, .windowWrite 8 0 false false, .fence 8 false, .streamMarkExpire 8 0 0 0,
      .streamMarkExpire 0 (2 ^ 32) 0 0, .streamMarkExpire 0 0 (2 ^ 32) 0, .streamMarkExpire 0 0 0 8, .cxlMemRead (2 ^ 64) 0 0 false,
      .cxlMemRead 0 0 (2 ^ 32) false, .cxlMemWrite (2 ^ 64) [] 0 false, .cxlMemWrite 0 [] (2 ^ 32) false, .syncDue 1024,
      .syncRx 1024 0 0 0, .syncRx 0 65536 0 0, .syncRx 0 0 0 256, .delayReqRx 1024 0 0,
      .delayReqRx 0 65536 0, .delayRespRx 1024 0 0, .delayRespRx 0 65536 0, .armedRx 1024 0 0,
      .armedRx 0 (2 ^ 32) 0, .launchRx 1024 0 0, .launchRx 0 (2 ^ 32) 0, .haltRx 1024 0 0] : List Instr).all (fun i => !i.wf) = true := by decide +kernel
theorem test_wf_refuses_rows_8 :
    ([.haltRx 0 (2 ^ 32) 0, .sealTakeEffect 2, .moverPiece 5 0 false, .moverPiece 0 8 false,
      .snapDataRx 8 false, .snapHeaderRx 8 false, .snapAckRx 8 false, .pageReqRx 8 false false,
      .pageDataRx 8 false, .noCopyRx 8 false, .targetFlushDone 8 false, .restoreComplete 2,
      .eraseComplete 0 false 256, .scanBlockRead 256 0 0 0 false, .scanBlockRead 0 4096 0 0 false, .flashDieUnresponsive 256,
      .offerRx 1024 (List.replicate 32 0), .offerRx 0 (List.replicate 31 0), .offerRx 0 (List.replicate 1025 0), .mirrorEntryRx 1024 (List.replicate 32 0),
      .mirrorEntryRx 0 (List.replicate 31 0), .mirrorEntryRx 0 (List.replicate 1025 0), .mirrorAckRx 1024 (List.replicate 32 0), .mirrorAckRx 0 (List.replicate 31 0)] : List Instr).all (fun i => !i.wf) = true := by decide +kernel
theorem test_wf_refuses_rows_9 :
    ([.mirrorAckRx 0 (List.replicate 1025 0), .heartbeatRx 1024 (List.replicate 32 0), .heartbeatRx 0 (List.replicate 31 0), .heartbeatRx 0 (List.replicate 1025 0),
      .keelLostRx 1024 (List.replicate 32 0), .keelLostRx 0 (List.replicate 31 0), .keelLostRx 0 (List.replicate 1025 0), .syncDoneRx 1024 (List.replicate 32 0),
      .syncDoneRx 0 (List.replicate 31 0), .syncDoneRx 0 (List.replicate 1025 0), .sqDoorbell 64 0 [], .sqDoorbell 0 65536 [],
      .cqDoorbell 64 0, .cqDoorbell 0 65536, .ringEnable 64, .ringDisable 64,
      .finishRx 3 0 0 0 [], .finishRx 0 64 0 0 [], .commandCapsuleRx 3 (capsule 5 0), .commandCapsuleRx 0 ({ capsule 5 0 with kind := 256 }),
      .closeRx 3 (capsule 5 0), .closeRx 0 ({ capsule 5 0 with kind := 256 }), .sessionIdle 3 0, .sessionIdle 0 64] : List Instr).all (fun i => !i.wf) = true := by decide +kernel
theorem test_wf_refuses_rows_10 :
    ([.segmentTimeout 3 0 0, .segmentTimeout 0 64 0, .spdmGetVersion false 256, .spdmGetCapabilities false 256,
      .spdmNegotiateAlgorithms false 256 0 0, .spdmGetDigests false 256, .spdmGetCertificate false 256 0 0 0, .spdmGetCertificate false 0 256 0 0,
      .spdmGetCertificate false 0 0 65536 0, .spdmGetCertificate false 0 0 0 65536, .spdmChallenge false 256 0 (List.replicate 32 0), .spdmChallenge false 0 256 (List.replicate 32 0),
      .spdmChallenge false 0 0 (List.replicate 31 0), .spdmGetMeasurements false 256 0 (List.replicate 32 0), .spdmGetMeasurements false 0 0 (List.replicate 31 0), .getLog 0 (2 ^ 32) 0,
      .mailboxUnsupported 65536, .hdmDecoderCommit 2 0 0 0 0, .hostLinkChange 256 0 0, .hostLinkChange 0 256 0,
      .hostLinkChange 0 0 256, .ftNowRead 2, .lowHalfRead 65536, .registerWrite 65536 4 0] : List Instr).all (fun i => !i.wf) = true := by decide +kernel
theorem test_wf_refuses_rows_11 :
    ([.registerWrite 0 2 0, .vsb12Up 65536, .keelUpEntry 256 0 false, .keelUpEntry 0 256 false,
      .vin40Fault 65536, .faultWindowExpire (2 ^ 32), .faultQuietExpire (2 ^ 32), .releaseTestDone (2 ^ 32) false,
      .powerMeasurement 65536 0, .powerMeasurement 0 65536, .vinDrogueLow 65536, .drogueEnd 65536,
      .storageLinkLock 256 false, .flashReadDone (2 ^ 64) 0 none, .flashReadDone 0 5 none, .headlessFaultReportRx 8 0 0 0,
      .headlessFaultReportRx 0 (2 ^ 32) 0 0, .headlessFaultReportRx 0 0 256 0] : List Instr).all (fun i => !i.wf) = true := by decide +kernel
theorem test_wf_takes_rows_0 :
    ([.tileNop 0, .vld 0 0 0 0, .vst 0 0 0 0, .vstc 0 0 0 0 6,
      .vadd 0 0 0 0, .vsub 0 0 0 0, .vmul 0 0 0 0 false, .vfma 0 0 0 0 0,
      .vema 0 0 0 0 0, .vaxpby 0 0 0 0 0 0, .vrsqa 0 0 0 0 0, .vmin 0 0 0 0,
      .vmax 0 0 0 0, .vzero 0 0, .sli 0 0 0, .saddi 0 0 0 0,
      .sfmul 0 0 0 0, .sfadd 0 0 0 0, .sldu 0 0 0, .dmard 0 0 0 0,
      .dmawr 0 0 0 0, .dmawait 0, .loop 0 0 0, .endEntry 0,
      .combineEntry 0 none, .finaliseEntry 0 none, .updateEntry 0 none, .dmaComplete 0 0 false,
      .tileIdleGate 0, .tileLiftDone 0] : List Instr).all (fun i => i.wf) = true := by decide +kernel
theorem test_wf_takes_rows_1 :
    ([.tileReloadDone 0, .frameArrival 0 frm none, .frameStored 0 0, .egressGrant 0 none,
      .frameTransmit 0 none, .poolRoomAvailable 0 0, .freeStoreAudit 0 0 false false, .tableEntryRewrite 0 0 0,
      .dieClockStop 0, .dieClockLiftDone 0, .sparSlotFill 0, .sparCellLand 0 0 false,
      .partialFrameTimeout 0 0, .sparRetrain 0 0 false, .sparUp 0 0, .bindDrainEnd 0 0,
      .drainForced 0, .bindScrubEnd 0 0, .sliceDrainEnd 0, .scrubGranuleFill 0 0,
      .lanePowerUpEnd 0 false, .laneRetry 0, .lossOfSignal 0, .lossOfLock 0,
      .refclkLoss 0 false, .liftComplete 0, .dozeIdleTimeout 0, .dozeBlockRx 0 0,
      .optReadingUpdate 0 [], .inspectConnectorDone 0 []] : List Instr).all (fun i => i.wf) = true := by decide +kernel
theorem test_wf_takes_rows_2 :
    ([.cartPoll 0 none, .cartRecordReadDone 0 none, .tetherBlockRx 0 none, .linkCtlRx 0 0,
      .trainRx 0 0, .trainBlockDue 0, .creditReturnDue 0, .replayTimeout 0,
      .lockingTimeout 0, .exchangeTimeout 0, .retrainEnd 0, .miscabledRecheck 0,
      .linkFlushTimeout 0, .ethPacketRx 0 (.pause), .nvmeKeepAlive 0, .targetReconnect 0 false,
      .gateTakeover 0, .contribRx 0 false, .resultRx 0 false, .fallbackNoticeRx 0 false,
      .recomputeNoticeRx 0 false, .treeDoneRx 0 false, .basketRelease 0 0 0, .fallbackTimeout 0 0 0,
      .groupWatchdog 0 0, .groupDisableDone 0, .updraftMemberRx 0 false false, .sweepRx 0 false false,
      .updraftDoneNoticeRx 0 false, .refillRx 0 false] : List Instr).all (fun i => i.wf) = true := by decide +kernel
theorem test_wf_takes_rows_3 :
    ([.interruptedNoticeRx 0 false, .updraftResend 0, .windowRead 0 0 false false, .windowWrite 0 0 false false,
      .fence 0 false, .streamMarkExpire 0 0 0 0, .cxlMemRead 0 0 0 false, .cxlMemWrite 0 [] 0 false,
      .syncDue 0, .syncRx 0 0 0 0, .delayReqRx 0 0 0, .delayRespRx 0 0 0,
      .armedRx 0 0 0, .launchRx 0 0 0, .haltRx 0 0 0, .sealTakeEffect 0,
      .moverPiece 0 0 false, .snapDataRx 0 false, .snapHeaderRx 0 false, .snapAckRx 0 false,
      .pageReqRx 0 false false, .pageDataRx 0 false, .noCopyRx 0 false, .targetFlushDone 0 false,
      .restoreComplete 0, .eraseComplete 0 false 0, .scanBlockRead 0 0 0 0 false, .flashDieUnresponsive 0,
      .offerRx 0 (List.replicate 32 0), .mirrorEntryRx 0 (List.replicate 32 0)] : List Instr).all (fun i => i.wf) = true := by decide +kernel
theorem test_wf_takes_rows_4 :
    ([.mirrorAckRx 0 (List.replicate 32 0), .heartbeatRx 0 (List.replicate 32 0), .keelLostRx 0 (List.replicate 32 0), .syncDoneRx 0 (List.replicate 32 0),
      .sqDoorbell 0 0 [], .cqDoorbell 0 0, .ringEnable 0, .ringDisable 0,
      .finishRx 0 0 0 0 [], .commandCapsuleRx 0 (capsule 5 0), .closeRx 0 (capsule 5 0), .sessionIdle 0 0,
      .segmentTimeout 0 0 0, .spdmGetVersion false 0, .spdmGetCapabilities false 0, .spdmNegotiateAlgorithms false 0 0 0,
      .spdmGetDigests false 0, .spdmGetCertificate false 0 0 0 0, .spdmChallenge false 0 0 (List.replicate 32 0), .spdmGetMeasurements false 0 0 (List.replicate 32 0),
      .getLog 0 0 0, .mailboxUnsupported 0, .hdmDecoderCommit 0 0 0 0 0, .hostLinkChange 0 0 0,
      .ftNowRead 0, .lowHalfRead 0, .registerWrite 0 4 0, .vsb12Up 0,
      .keelUpEntry 0 0 false, .vin40Fault 0] : List Instr).all (fun i => i.wf) = true := by decide +kernel
theorem test_wf_takes_rows_5 :
    ([.faultWindowExpire 0, .faultQuietExpire 0, .releaseTestDone 0 false, .powerMeasurement 0 0,
      .vinDrogueLow 0, .drogueEnd 0, .storageLinkLock 0 false, .flashReadDone 0 0 none,
      .headlessFaultReportRx 0 0 0 0] : List Instr).all (fun i => i.wf) = true := by decide +kernel

/-! ### States and operands that meet the hypotheses of the statements -/

theorem wit_front_command : ∃ (c : Instr) (rest : List Instr) (s : State), s.pending = c :: rest :=
  ⟨.nop (rq 0 []), [], { rdy with pending := [.nop (rq 0 [])] }, rfl⟩
theorem wit_empty_queue : ∃ s : State, s.pending = [] := ⟨State.reset, rfl⟩
theorem wit_a_step : ∃ s t : State, MemoriesOk s ∧ step s = .next t := ⟨State.reset, _, by unfold MemoriesOk; decide +kernel, rfl⟩
theorem wit_a_command_answers : ∃ (c : Instr) (s t : State), exec c s = .next t := ⟨.doeAbort, rdy, _, rfl⟩
theorem wit_ratings : ∃ c d : Instr, withinRatings c = true ∧ withinRatings d = false := ⟨.vsb12Up 1400, .vsb12Up 1401, by decide⟩
/-- The module with its keel die lost. -/
def keelGone : State := { rdy with sys := { rdy.sys with keelLost := true } }
theorem wit_keel_lost : ∃ (c : Instr) (op : Nat) (q : Req) (s : State),
    commandOf c = some (op, q) ∧ s.sys.keelLost = true ∧ s.cmd.finishing = none ∧ s.sys.leaving = none :=
  ⟨.ping (rq 2 []), 2, rq 2 [], keelGone, rfl, rfl, rfl, rfl⟩
/-- A ring with the privilege OBSERVER. -/
def observer : State := { rdy with cmd := { cmdReset with rings := [(0, { ring0 with priv := 0 })] } }
theorem wit_no_privilege : ∃ (c : Instr) (op : Nat) (q : Req) (s : State),
    commandOf c = some (op, q) ∧ s.cmd.finishing = none ∧ s.sys.leaving = none ∧ canTake (cat op) q s = true ∧
      (q.entry.replay = true → histFind (takeCmd q s) (clientOf s q.from_) q.entry.cmdId = none) ∧
      privOf (takeCmd q s) q.from_ < (cat op).priv :=
  ⟨.devService (rq 0x0103 []), 0x0103, rq 0x0103 [], observer, rfl, by decide +kernel⟩
/-- The same with a length that is wrong as well: the check that comes first decides. -/
theorem wit_no_privilege_and_bad_length : ∃ (c : Instr) (op : Nat) (q : Req) (s : State),
    commandOf c = some (op, q) ∧ canTake (cat op) q s = true ∧ privOf (takeCmd q s) q.from_ < (cat op).priv ∧ dataLenOk q = false :=
  ⟨.devService ⟨⟨.host, 0⟩, { (rq 0x0103 []).entry with dataLen := 1 }, []⟩, 0x0103, _, observer, rfl, by decide +kernel⟩
theorem wit_unassigned_opcode : ∃ (k : Nat) (q : Req) (s : State), nextCmd s = some (k, q) ∧ ∀ u, execOp q u = none :=
  ⟨0, rq 0xFFFF [], { rdy with cmd := { cmdReset with rings := [(0, { ring0 with waiting := [rq 0xFFFF []] })] } }, by decide +kernel,
    fun _ => rfl⟩
/-- PING again, with REPLAY, and its entry in the history. -/
def replayed : Req := ⟨⟨.host, 0⟩, { (rq 2 []).entry with replay := true }, []⟩
def entry0 : JEntry := ⟨⟨.host, 0⟩, 1, 2, [], [], ⟨1, 2, .done, false, 0, 0, 0, 0, false⟩⟩
theorem wit_replay : ∃ (c : Instr) (op : Nat) (q : Req) (s : State) (e : JEntry),
    commandOf c = some (op, q) ∧ s.cmd.finishing = none ∧ s.sys.leaving = none ∧ canTake (cat op) q s = true ∧
      q.entry.replay = true ∧ histFind (takeCmd q s) (clientOf s q.from_) q.entry.cmdId = some e :=
  ⟨.ping replayed, 2, replayed, { rdy with cmd := { cmdReset with rings := [(0, ring0)], history := [(⟨.host, 0⟩, [entry0])] } }, entry0, rfl,
    by decide +kernel⟩
theorem wit_twin_must_acknowledge : ∃ (c : Instr) (op : Nat) (q : Req) (s t : State),
    commandOf c = some (op, q) ∧ journals (cat op) = true ∧ s.cmd.finishing = none ∧ s.sys.leaving = none ∧
      mustAck (takeCmd q s) = true ∧ exec c s = .next t :=
  ⟨.devService (rq 0x0103 []), 0x0103, rq 0x0103 [], { rdy with gemel := { gemelReset with st := .paired } }, _, rfl, by decide +kernel,
    rfl, rfl, by decide +kernel, rfl⟩
theorem wit_commit_not_drained : ∃ (s : State) (tk until_ : Nat), s.core.commit = some (tk, until_) ∧ scaleOutIdle s = false :=
  ⟨{ rdy with core := { coreReset with commit := some (256, 0), leaf := [(leafNo 72 0 0, [ent frm])] } }, 256, 0, by decide +kernel⟩
theorem wit_misdirected : ∃ f g h : Frame, 15 < coA f.dest ∧ 15 < coB g.dest ∧ coT h.dest = 63 ∧ coS h.dest ≠ 0 :=
  ⟨{ frm with dest := mkCoord 16 0 0 0 0 0 }, { frm with dest := mkCoord 0 16 0 0 0 0 }, { frm with dest := mkCoord 0 0 0 63 1 0 },
    by decide +kernel⟩
theorem wit_other_sequence : ∃ (l : Nat) (f : Frame) (par : Option Nat) (s t : State), lcrcOk f = true ∧
    f.seq ≠ (linkOf (takeAck l f.ack f.ackValid f.nak s) l).rxNext ∧ exec (.frameArrival l f par) s = .next t :=
  ⟨0, { frm with seq := 1, lcrc := lcrcOf { frm with seq := 1 } }, none, upOn 0, _, by decide +kernel, by decide +kernel, rfl⟩
theorem wit_gate_cycle : ∃ g : GateList, 0 < gateCycle g.entries := ⟨⟨[(255, 32)], 0, none⟩, by decide⟩
theorem wit_same_time : ∃ s t : State, s ≠ t ∧ s.time.ft = t.time.ft := ⟨rdy, { rdy with mono := 1 }, by decide +kernel⟩
/-- A request of one byte at an offset, with a slice. -/
def asks (off sl : Nat) : Frame := { frm with typ := 1, slice := sl, ext := some (off <<< 208 + 1 <<< 195) }
theorem wit_region_one : ∃ f : Frame, xRlen f ≠ 0 ∧ xRlen f ≤ 4096 ∧ xOffset f % 4096 + xRlen f ≤ 4096 ∧ xOffset f / 4096 = 1 ∧ f.slice ≠ 0 :=
  ⟨asks 0x1FFF 1, by decide +kernel⟩
theorem wit_region_zero : ∃ f : Frame, f.typ = 1 ∧ xRlen f ≠ 0 ∧ xOffset f % 4096 + xRlen f ≤ 4096 ∧ xOffset f < 4096 ∧ xRlen f ≤ 4096 :=
  ⟨asks 0xFFF 1, by decide +kernel⟩
theorem wit_host_write : ∃ (addr tag a fil : Nat) (bs : List Byte) (s t : State), (cxlMemUp s && running s && !s.sys.keelLost) = true ∧
    decodeHost s addr = some (a, fil) ∧ hostVerdict s a bs.length fil true = 1 ∧ (marked s a || !mergesBad s a bs.length) = true ∧
      exec (.cxlMemWrite addr bs tag false) s = .next t :=
  ⟨gib - 1, 0, gib - 1, 0xFFFF, [1], hostUp 0xFFFF, _, by decide +kernel, by decide +kernel, by decide +kernel, by decide +kernel, rfl⟩
theorem wit_no_nan : ∃ (ins : List (List Nat)) (out : List Nat), out ≠ [] ∧
    ∀ i, i < 16 → f32nan (out.getD i 0) = false ∧ ∀ l ∈ ins, f32nan (l.getD i 0) = false :=
  ⟨[List.replicate 16 0x3F800000], List.replicate 16 0x40000000, by decide +kernel⟩
/-- A group of one member whose sequence 0 awaits its update by program 16. -/
def updating : State :=
  { rdy with set := { setReset with updBinds := [(0, ⟨0, 16, 6, 0, 0, 0⟩)], enabled := [(0, 1)] },
             tile := { tileReset with groups := [(0, ⟨2, 0, [(0, (0, seq1))], [], ⟨false, false, false, 0, 0, 0, 0, 0, 0, 0, 0⟩, 0, 0, 0, 0, 0, 0, 0, 0⟩)] } }
theorem wit_update_entry : ∃ (g seq : Nat) (s : State) (q : Sequence) (b : UpdBind),
    seqOf s g seq = some q ∧ updBindOf s q = some b ∧ 16 ≤ b.prog :=
  ⟨0, 0, updating, seq1, ⟨0, 16, 6, 0, 0, 0⟩, by decide +kernel⟩
theorem wit_two_orders : ∃ vs ws : List Machine.Num, vs ≠ ws ∧ vs.Perm ws :=
  ⟨[.inf false, .inf true], [.inf true, .inf false], by decide, .swap _ _ _⟩
theorem wit_pairs : ∃ nc a b : Nat, (ncFmt nc = 3 ∨ ncFmt nc = 8 ∨ ncFmt nc = 9) ∧ a < 2 ^ (locWidth nc + 32) ∧ b < 2 ^ (locWidth nc + 32) ∧ a ≠ b :=
  ⟨9, 2 ^ 96 - 1, 0, by decide +kernel⟩
/-- A plan of 2 GiB sides whose two regions of side A on die 0 belong to slices 1 and 2. -/
def twoSlices : State :=
  { rdy with set := { setReset with plan := ⟨2, 0, 0, 0, 0, 25⟩, binds := [(bindKey 5 0, ⟨1, 0, 1⟩), (bindKey 5 1, ⟨2, 0, 1⟩)] } }
theorem wit_side_of_two_slices : ∃ (q : Req) (s : State), reaches 0x0A03 true (cat 0x0A03).priv q s = true ∧ prm q 0 1 ≤ 1 ∧
    (s.set.updBinds = [] ∨ (sideOf s (prm q 0 1)).wholeAt ≠ none) ∧ ∃ d ∈ dies s, oneSlice (sideSlices s (prm q 0 1) d) = false :=
  ⟨rq 0x0A03 [], twoSlices, by decide +kernel⟩
theorem wit_seal_of_two_slices : ∃ (side : Nat) (s t : State), (∃ d ∈ dies s, oneSlice (sideSlices s side d) = false) ∧
    exec (.sealTakeEffect side) s = .next t := ⟨0, twoSlices, _, by decide +kernel, rfl⟩

/-! ### Commands that come to their effect -/

theorem wit_command_nop : ∃ (q : Req) (s : State), clears 0x0000 true ((cat 0x0000).priv) none q s = true :=
  ⟨rq 0x0000 [], rdy, by decide +kernel⟩
theorem wit_command_caps : ∃ (q : Req) (s : State), clears 0x0001 true ((cat 0x0001).priv) none q s = true :=
  ⟨rq 0x0001 [], rdy, by decide +kernel⟩
theorem wit_command_ping : ∃ (q : Req) (s : State), clears 0x0002 true ((cat 0x0002).priv) none q s = true :=
  ⟨rq 0x0002 [], rdy, by decide +kernel⟩
theorem wit_command_devCaps : ∃ (q : Req) (s : State), clears 0x0101 (prm q 0 8 == 0 || 256 ≤ prm q 8 4) 0 none q s = true :=
  ⟨rq 0x0101 [], rdy, by decide +kernel⟩
theorem wit_command_devState : ∃ (q : Req) (s : State), clears 0x0102 true ((cat 0x0102).priv) none q s = true :=
  ⟨rq 0x0102 [], rdy, by decide +kernel⟩
theorem wit_command_devService : ∃ (q : Req) (s : State), clears 0x0103 true ((cat 0x0103).priv) (chkDevService q s) q s = true :=
  ⟨rq 0x0103 [], rdy, by decide +kernel⟩
theorem wit_command_devRestart : ∃ (q : Req) (s : State), clears 0x0104 true 2 (chkDevRestart q s) q s = true :=
  ⟨rq 0x0104 [], rdy, by decide +kernel⟩
theorem wit_command_devSelftest : ∃ (q : Req) (s : State), clears 0x0105 true 1 (chkDevSelftest s) q s = true :=
  ⟨rq 0x0105 [], rdy, by decide +kernel⟩
theorem wit_command_devMgmtcfg : ∃ (q : Req) (s : State), clears 0x0106 true ((cat 0x0106).priv) (chkDevMgmtcfg q) q s = true :=
  ⟨rq 0x0106 [(4, 4, 3232235521), (8, 1, 24), (16, 16, 1), (34, 2, 65535)], rdy, by decide +kernel⟩
theorem wit_command_devHostquery : ∃ (q : Req) (s : State), clears 0x0107 true ((cat 0x0107).priv) none q s = true :=
  ⟨rq 0x0107 [], rdy, by decide +kernel⟩
theorem wit_command_portEnable : ∃ (q : Req) (s : State), clears 0x0201 true (ownerFrom 18 31 (prm q 0 2)) (chkPortEnable q s) q s = true :=
  ⟨rq 0x0201 [], ({ rdy with net := { netReset with bays := [(0, ⟨0, [], [], []⟩)] } }), by decide +kernel⟩
theorem wit_command_portDisable : ∃ (q : Req) (s : State), clears 0x0202 true (ownerFrom 18 31 (prm q 0 2)) (chkPortDisable q s) q s = true :=
  ⟨rq 0x0202 [], rdy, by decide +kernel⟩
theorem wit_command_portSplit : ∃ (q : Req) (s : State), clears 0x0203 true ((cat 0x0203).priv) (chkPortSplit q s) q s = true :=
  ⟨rq 0x0203 [], rdy, by decide +kernel⟩
theorem wit_command_portPower : ∃ (q : Req) (s : State), clears 0x0204 true ((cat 0x0204).priv) (chkPortPower q s) q s = true :=
  ⟨rq 0x0204 [], rdy, by decide +kernel⟩
theorem wit_command_portQuery : ∃ (q : Req) (s : State), clears 0x0205 true ((cat 0x0205).priv) (portNoChk s (prm q 0 2)) q s = true :=
  ⟨rq 0x0205 [], rdy, by decide +kernel⟩
theorem wit_command_laneStats : ∃ (q : Req) (s : State), clears 0x0206 true ((cat 0x0206).priv) (laneNoChk s (prm q 0 2)) q s = true :=
  ⟨rq 0x0206 [], rdy, by decide +kernel⟩
theorem wit_command_laneTest : ∃ (q : Req) (s : State), clears 0x0207 true 1 (chkLaneTest q s) q s = true :=
  ⟨rq 0x0207 [(2, 1, 1), (8, 4, 1)], rdy, by decide +kernel⟩
theorem wit_command_optRead : ∃ (q : Req) (s : State), clears 0x0208 true ((cat 0x0208).priv) (chkOptRead q s) q s = true :=
  ⟨rq 0x0208 [], rdy, by decide +kernel⟩
theorem wit_command_optInspect : ∃ (q : Req) (s : State), clears 0x0209 true 1 (chkOptInspect q s) q s = true :=
  ⟨rq 0x0209 [(2, 2, 1)], rdy, by decide +kernel⟩
theorem wit_command_optClean : ∃ (q : Req) (s : State), clears 0x020A true 1 (chkOptClean q s) q s = true :=
  ⟨rq 0x020A [], rdy, by decide +kernel⟩
theorem wit_command_portLinkcfg : ∃ (q : Req) (s : State), clears 0x020B true (ownerFrom 18 30 (prm q 0 2)) (chkPortLinkcfg q s) q s = true :=
  ⟨rq 0x020B [], rdy, by decide +kernel⟩
theorem wit_command_portLstats : ∃ (q : Req) (s : State), clears 0x020C true ((cat 0x020C).priv) (laneNoChk s (prm q 0 2)) q s = true :=
  ⟨rq 0x020C [], rdy, by decide +kernel⟩
theorem wit_command_portEthcfg : ∃ (q : Req) (s : State), clears 0x020D true ((cat 0x020D).priv) (chkPortEthcfg q s) q s = true :=
  ⟨rq 0x020D [(0, 2, 31), (2, 6, 2), (8, 4, 1), (32, 2, 65535)], rdy, by decide +kernel⟩
theorem wit_command_cartRead : ∃ (q : Req) (s : State), clears 0x0301 (!onHostRing q || 8192 ≤ prm q 16 4) 0 (bayChk s (prm q 0 2)) q s = true :=
  ⟨rq 0x0301 [], rdy, by decide +kernel⟩
theorem wit_command_cartOverride : ∃ (q : Req) (s : State), clears 0x0302 true ((cat 0x0302).priv) (portRangeChk s (prm q 0 2) (prm q 2 2)) q s = true :=
  ⟨rq 0x0302 [(2, 2, 1)], rdy, by decide +kernel⟩
theorem wit_command_cartRescan : ∃ (q : Req) (s : State), clears 0x0303 true 1 (chkCartRescan q s) q s = true :=
  ⟨rq 0x0303 [], rdy, by decide +kernel⟩
theorem wit_command_routeWrite : ∃ (q : Req) (s : State), clears 0x0401 true ((cat 0x0401).priv) (chkRouteWrite q s) q s = true :=
  ⟨rq 0x0401 [(6, 1, 1), (7, 1, 1), (10, 1, 1)], rdy, by decide +kernel⟩
theorem wit_command_routeCommit : ∃ (q : Req) (s : State), clears 0x0402 true 2 (chkRouteCommit q s) q s = true :=
  ⟨rq 0x0402 [], rdy, by decide +kernel⟩
theorem wit_command_routeHold : ∃ (q : Req) (s : State), clears 0x0403 true 2 (chkRouteHold s) q s = true :=
  ⟨rq 0x0403 [], rdy, by decide +kernel⟩
theorem wit_command_routeRelease : ∃ (q : Req) (s : State), clears 0x0404 true ((cat 0x0404).priv) (refuseIf (!s.core.held) 0x0005) q s = true :=
  ⟨rq 0x0404 [], ({ rdy with core := { coreReset with held := true } }), by decide +kernel⟩
theorem wit_command_routeQuery : ∃ (q : Req) (s : State), clears 0x0405 true ((cat 0x0405).priv) (chkRouteQuery q) q s = true :=
  ⟨rq 0x0405 [], rdy, by decide +kernel⟩
theorem wit_command_routeCongmap : ∃ (q : Req) (s : State), clears 0x0406 (mapRoom q) 0 none q s = true :=
  ⟨rq 0x0406 [], rdy, by decide +kernel⟩
theorem wit_command_routeCmapcfg : ∃ (q : Req) (s : State), clears 0x0407 true ((cat 0x0407).priv) (refuseIf (prm q 0 4 < 10 || 10000 < prm q 0 4) 0x0007) q s = true :=
  ⟨rq 0x0407 [(0, 4, 100)], rdy, by decide +kernel⟩
theorem wit_command_routeSparstats : ∃ (q : Req) (s : State), clears 0x0408 true ((cat 0x0408).priv) (dieChk s (prm q 0 1)) q s = true :=
  ⟨rq 0x0408 [], rdy, by decide +kernel⟩
theorem wit_command_sliceBind : ∃ (q : Req) (s : State), clears 0x0501 true (sliceBindPriv q s) (chkSliceBind q s) q s = true :=
  ⟨rq 0x0501 [(0, 1, 4), (2, 2, 1), (8, 4, 1)], rdy, by decide +kernel⟩
theorem wit_command_sliceEnable : ∃ (q : Req) (s : State), clears 0x0502 true ((cat 0x0502).priv) (chkSliceEnable q s) q s = true :=
  ⟨rq 0x0502 [(0, 2, 1)], ({ rdy with set := { setReset with binds := [(bindKey 1 0, ⟨1, 0, 1⟩)] } }), by decide +kernel⟩
theorem wit_command_sliceDisable : ∃ (q : Req) (s : State), clears 0x0503 true 1 (chkSliceDisable q s) q s = true :=
  ⟨rq 0x0503 [(0, 2, 1)], ({ rdy with set := { setReset with slices := [(1, 2)] } }), by decide +kernel⟩
theorem wit_command_sliceQuery : ∃ (q : Req) (s : State), clears 0x0504 true ((cat 0x0504).priv) (chkSliceQuery q s) q s = true :=
  ⟨rq 0x0504 [(1, 1, 1)], rdy, by decide +kernel⟩
theorem wit_command_qosServicecfg : ∃ (q : Req) (s : State), clears 0x0601 true (qosPriv (prm q 0 2) (prm q 2 2)) (chkQosServicecfg q s) q s = true :=
  ⟨rq 0x0601 [(2, 2, 1), (4, 1, 2), (5, 1, 1), (6, 1, 1)], rdy, by decide +kernel⟩
theorem wit_command_qosSubcfg : ∃ (q : Req) (s : State), clears 0x0602 true (qosPriv (prm q 0 2) 1) (chkQosSubcfg q s) q s = true :=
  ⟨rq 0x0602 [(2, 1, 2), (4, 1, 1), (5, 1, 1)], rdy, by decide +kernel⟩
theorem wit_command_qosShapecfg : ∃ (q : Req) (s : State), clears 0x0603 true (qosPriv (prm q 0 2) 1) (chkQosShapecfg q s) q s = true :=
  ⟨rq 0x0603 [(2, 1, 255)], rdy, by decide +kernel⟩
theorem wit_command_qosPolicecfg : ∃ (q : Req) (s : State), clears 0x0604 true (qosPriv (prm q 0 2) 1) (chkQosPolicecfg q s) q s = true :=
  ⟨rq 0x0604 [(2, 1, 2)], rdy, by decide +kernel⟩
theorem wit_command_qosGatewrite : ∃ (q : Req) (s : State), clears 0x0605 (8 * prm q 2 2 ≤ (inData q).length) (qosPriv (prm q 0 2) 1) (chkQosGatewrite q s) q s = true :=
  ⟨rq 0x0605 [(8, 8, 100000)], rdy, by decide +kernel⟩
theorem wit_command_qosGatequery : ∃ (q : Req) (s : State), clears 0x0606 (outRoom (cat 0x0606) (qGate s (prm q 0 2) (prm q 2 1)).length q) (qosPriv (prm q 0 2) 1) (chkQosGatequery q s) q s = true :=
  ⟨rq 0x0606 [], rdy, by decide +kernel⟩
theorem wit_command_qosQstats : ∃ (q : Req) (s : State), clears 0x0607 true (if ownerQueues (prm q 0 4) 1 then 2 else 1) (queueChk s (prm q 0 4) 1) q s = true :=
  ⟨rq 0x0607 [], rdy, by decide +kernel⟩
theorem wit_command_qosPstats : ∃ (q : Req) (s : State), clears 0x0608 true (qosPriv (prm q 0 2) 1) (firstOf [refuseIf (7 < (prm q 2 1)) 0x0007, lpRangeChk s (prm q 0 2) 1]) q s = true :=
  ⟨rq 0x0608 [], rdy, by decide +kernel⟩
theorem wit_command_qosPoolcfg : ∃ (q : Req) (s : State), clears 0x0640 true ((cat 0x0640).priv) (chkQosPoolcfg q s) q s = true :=
  ⟨rq 0x0640 [(1, 1, 1)], rdy, by decide +kernel⟩
theorem wit_command_qosPoolquery : ∃ (q : Req) (s : State), clears 0x0641 true ((cat 0x0641).priv) (dieChk s (prm q 0 1)) q s = true :=
  ⟨rq 0x0641 [], rdy, by decide +kernel⟩
theorem wit_command_qosMarkcfg : ∃ (q : Req) (s : State), clears 0x0642 true (if ownerQueues (prm q 0 4) (prm q 4 4) then 2 else 1) (chkQosMarkcfg q s) q s = true :=
  ⟨rq 0x0642 [(4, 4, 1), (8, 4, 4294967295)], rdy, by decide +kernel⟩
theorem wit_command_groupConfig : ∃ (q : Req) (s : State), clears 0x0701 ((256 + 8 * rdLe (inData q) 26 2) ≤ (inData q).length && (!onHostRing q || (256 + 8 * rdLe (inData q) 26 2) ≤ bufLen (cat 0x0701) q)) ((cat 0x0701).priv) (chkGroupConfig q s) q s = true :=
  ⟨rqb 0x0701 [(0, 2, 0)] (fields 264 [(6, 1, 1), (7, 1, 1), (8, 2, 1), (24, 2, 1), (26, 2, 1)]), ({ rdy with set := { setReset with binds := [(bindKey 4 0, ⟨1, 0, 1⟩)] } }), by decide +kernel⟩
theorem wit_command_groupEnable : ∃ (q : Req) (s : State), clears 0x0702 true ((cat 0x0702).priv) (chkGroupEnable q s) q s = true :=
  ⟨rq 0x0702 [], ({ rdy with set := { setReset with groups := [(0, ⟨0, 0, 0, 1, 1, 1, 0, 0, 0, 1, 0, 0, 1, ⟨0, 0, 0, 0, 0, 0⟩, ⟨0, 0, 0, 0, 0, 0⟩, [(0, 0)]⟩)], binds := [(bindKey 4 0, ⟨1, 0, 1⟩)] } }), by decide +kernel⟩
theorem wit_command_groupDisable : ∃ (q : Req) (s : State), clears 0x0703 true 1 (chkGroupDisable q s) q s = true :=
  ⟨rq 0x0703 [], ({ rdy with set := { setReset with groups := [(0, ⟨0, 0, 0, 1, 1, 1, 0, 0, 0, 1, 0, 0, 1, ⟨0, 0, 0, 0, 0, 0⟩, ⟨0, 0, 0, 0, 0, 0⟩, [(0, 0)]⟩)], binds := [(bindKey 4 0, ⟨1, 0, 1⟩)] }, tile := { tileReset with groups := [(0, ⟨2, 0, [], [], ⟨false, false, false, 0, 0, 0, 0, 0, 0, 0, 0⟩, 0, 0, 0, 0, 0, 0, 0, 0⟩)] } }), by decide +kernel⟩
theorem wit_command_groupAbort : ∃ (q : Req) (s : State), clears 0x0704 true ((cat 0x0704).priv) (chkGroupAbort q s) q s = true :=
  ⟨rq 0x0704 [], ({ rdy with set := { setReset with groups := [(0, ⟨0, 0, 0, 1, 1, 1, 0, 0, 0, 1, 0, 0, 1, ⟨0, 0, 0, 0, 0, 0⟩, ⟨0, 0, 0, 0, 0, 0⟩, [(0, 0)]⟩)], binds := [(bindKey 4 0, ⟨1, 0, 1⟩)] }, tile := { tileReset with groups := [(0, ⟨2, 0, [(0, (0, ⟨1, 0, 0, 0, 1, 65536, 0, false, 0, 0, 0, 0, 0, [], [], 0, [], [], false, []⟩))], [], ⟨false, false, false, 0, 0, 0, 0, 0, 0, 0, 0⟩, 0, 0, 0, 0, 0, 0, 0, 0⟩)] } }), by decide +kernel⟩
theorem wit_command_groupQuery : ∃ (q : Req) (s : State), clears 0x0705 true ((cat 0x0705).priv) none q s = true :=
  ⟨rq 0x0705 [], rdy, by decide +kernel⟩
theorem wit_command_groupMissing : ∃ (q : Req) (s : State), clears 0x0706 true ((cat 0x0706).priv) (refuseIf (groupSt s (prm q 0 2) != 2) 0x0005) q s = true :=
  ⟨rq 0x0706 [], ({ rdy with set := { setReset with groups := [(0, ⟨0, 0, 0, 1, 1, 1, 0, 0, 0, 1, 0, 0, 1, ⟨0, 0, 0, 0, 0, 0⟩, ⟨0, 0, 0, 0, 0, 0⟩, [(0, 0)]⟩)], binds := [(bindKey 4 0, ⟨1, 0, 1⟩)] }, tile := { tileReset with groups := [(0, ⟨2, 0, [], [], ⟨false, false, false, 0, 0, 0, 0, 0, 0, 0, 0⟩, 0, 0, 0, 0, 0, 0, 0, 0⟩)] } }), by decide +kernel⟩
theorem wit_command_groupPoolquery : ∃ (q : Req) (s : State), clears 0x0707 true ((cat 0x0707).priv) (dieChk s (prm q 0 1)) q s = true :=
  ⟨rq 0x0707 [], rdy, by decide +kernel⟩
theorem wit_command_groupUpdcfg : ∃ (q : Req) (s : State), clears 0x0708 true ((cat 0x0708).priv) (chkGroupUpdcfg q s) q s = true :=
  ⟨rq 0x0708 [], ({ rdy with set := { setReset with groups := [(0, ⟨0, 0, 0, 1, 1, 1, 0, 0, 0, 1, 0, 0, 1, ⟨0, 0, 0, 0, 0, 0⟩, ⟨0, 0, 0, 0, 0, 0⟩, [(0, 0)]⟩)], binds := [(bindKey 4 0, ⟨1, 0, 1⟩)] } }), by decide +kernel⟩
theorem wit_command_groupUpdquery : ∃ (q : Req) (s : State), clears 0x0709 true ((cat 0x0709).priv) (dieChk s (prm q 0 1)) q s = true :=
  ⟨rq 0x0709 [], rdy, by decide +kernel⟩
theorem wit_command_groupNanread : ∃ (q : Req) (s : State), clears 0x0780 true (if (prm q 2 1 == 1) then 1 else 0) none q s = true :=
  ⟨rq 0x0780 [], rdy, by decide +kernel⟩
theorem wit_command_tileUnload : ∃ (q : Req) (s : State), clears 0x0802 true ((cat 0x0802).priv) (chkTileUnload q s) q s = true :=
  ⟨rq 0x0802 [(0, 1, 16)], rdy, by decide +kernel⟩
theorem wit_command_tileProgquery : ∃ (q : Req) (s : State), clears 0x0803 true ((cat 0x0803).priv) (firstOf [refuseIf (slotBad q) 0x0007, refuseIf (!s.id.tiles) 0x0003]) q s = true :=
  ⟨rq 0x0803 [(0, 1, 16)], rdy, by decide +kernel⟩
theorem wit_command_tileUpdbind : ∃ (q : Req) (s : State), clears 0x0804 true ((cat 0x0804).priv) (chkTileUpdbind q s) q s = true :=
  ⟨rq 0x0804 [(1, 1, 1), (2, 2, 0), (4, 1, 6)], ({ rdy with set := { { setReset with groups := [(0, ⟨0, 0, 0, 1, 1, 1, 0, 0, 0, 1, 0, 0, 1, ⟨0, 0, 0, 0, 0, 0⟩, ⟨0, 0, 0, 0, 0, 0⟩, [(0, 0)]⟩)], binds := [(bindKey 4 0, ⟨1, 0, 1⟩)] } with plan := ⟨1, 0, 0, 0, 0, 25⟩ } }), by decide +kernel⟩
theorem wit_command_tileUpdunbind : ∃ (q : Req) (s : State), clears 0x0805 true ((cat 0x0805).priv) (chkTileUpdunbind q s) q s = true :=
  ⟨rq 0x0805 [(0, 1, 3)], ({ rdy with set := { { setReset with groups := [(0, ⟨0, 0, 0, 1, 1, 1, 0, 0, 0, 1, 0, 0, 1, ⟨0, 0, 0, 0, 0, 0⟩, ⟨0, 0, 0, 0, 0, 0⟩, [(0, 0)]⟩)], binds := [(bindKey 4 0, ⟨1, 0, 1⟩)] } with updBinds := [(3, ⟨0, 1, 6, 0, 0, 0⟩)] } }), by decide +kernel⟩
theorem wit_command_tileUpdquery : ∃ (q : Req) (s : State), clears 0x0806 true ((cat 0x0806).priv) (refuseIf (!s.id.tiles) 0x0003) q s = true :=
  ⟨rq 0x0806 [], rdy, by decide +kernel⟩
theorem wit_command_tileQuery : ∃ (q : Req) (s : State), clears 0x0840 true ((cat 0x0840).priv) (chkTileQuery q s) q s = true :=
  ⟨rq 0x0840 [], rdy, by decide +kernel⟩
theorem wit_command_tilePower : ∃ (q : Req) (s : State), clears 0x0841 true ((cat 0x0841).priv) (chkTilePower q s) q s = true :=
  ⟨rq 0x0841 [], rdy, by decide +kernel⟩
theorem wit_command_tileSelftest : ∃ (q : Req) (s : State), clears 0x0842 true 1 (chkTileSelftest q s) q s = true :=
  ⟨rq 0x0842 [], rdy, by decide +kernel⟩
theorem wit_command_schedLoad : ∃ (q : Req) (s : State), clears 0x0901 true (imagePriv (inData q)) (chkSchedLoad q s) q s = true :=
  ⟨rq 0x0901 [], rdy, by decide +kernel⟩
theorem wit_command_schedUnload : ∃ (q : Req) (s : State), clears 0x0902 true ((cat 0x0902).priv) (chkSchedUnload q s) q s = true :=
  ⟨rq 0x0902 [], ({ rdy with sched := { schedReset with images := [(0, [0])] } }), by decide +kernel⟩
theorem wit_command_schedEnable : ∃ (q : Req) (s : State), clears 0x0903 true (imagePriv (mget [] s.sched.images (prm q 0 1))) (chkSchedEnable q s) q s = true :=
  ⟨rq 0x0903 [(8, 8, 200000)], ({ rdy with time := { timeReset with st := .aligned }, sched := { schedReset with images := [(0, powerImg)] } }), by decide +kernel⟩
theorem wit_command_schedStop : ∃ (q : Req) (s : State), clears 0x0904 true ((cat 0x0904).priv) (chkSchedStop q s) q s = true :=
  ⟨rq 0x0904 [], ({ rdy with sched := { schedReset with slot := some 0, st := .running } }), by decide +kernel⟩
theorem wit_command_schedDisable : ∃ (q : Req) (s : State), clears 0x0905 true ((cat 0x0905).priv) (chkSchedDisable s) q s = true :=
  ⟨rq 0x0905 [], ({ rdy with sched := { schedReset with slot := some 0, st := .armed } }), by decide +kernel⟩
theorem wit_command_schedQuery : ∃ (q : Req) (s : State), clears 0x0906 true ((cat 0x0906).priv) none q s = true :=
  ⟨rq 0x0906 [], rdy, by decide +kernel⟩
theorem wit_command_schedTimecfg : ∃ (q : Req) (s : State), clears 0x0907 true ((cat 0x0907).priv) (chkSchedTimecfg q) q s = true :=
  ⟨rq 0x0907 [], rdy, by decide +kernel⟩
theorem wit_command_schedTimequery : ∃ (q : Req) (s : State), clears 0x0908 true ((cat 0x0908).priv) none q s = true :=
  ⟨rq 0x0908 [], rdy, by decide +kernel⟩
theorem wit_command_schedAuditcfg : ∃ (q : Req) (s : State), clears 0x0909 true ((cat 0x0909).priv) (chkSchedAuditcfg q s) q s = true :=
  ⟨rq 0x0909 [], rdy, by decide +kernel⟩
theorem wit_command_schedAuditread : ∃ (q : Req) (s : State), clears 0x090A true ((cat 0x090A).priv) (chkSchedAuditread q s) q s = true :=
  ⟨rq 0x090A [], ({ rdy with sched := { schedReset with digests := [(0, [(0, [])])] } }), by decide +kernel⟩
theorem wit_command_snapPlan : ∃ (q : Req) (s : State), clears 0x0A01 true ((cat 0x0A01).priv) (chkSnapPlan q s) q s = true :=
  ⟨rq 0x0A01 [], rdy, by decide +kernel⟩
theorem wit_command_snapPlanquery : ∃ (q : Req) (s : State), clears 0x0A02 true ((cat 0x0A02).priv) none q s = true :=
  ⟨rq 0x0A02 [], rdy, by decide +kernel⟩
theorem wit_command_snapSeal : ∃ (q : Req) (s : State), clears 0x0A03 true ((cat 0x0A03).priv) (chkSnapSeal q s) q s = true :=
  ⟨rq 0x0A03 [], rdy, by decide +kernel⟩
theorem wit_command_snapReelcfg : ∃ (q : Req) (s : State), clears 0x0A04 true ((cat 0x0A04).priv) (chkSnapReelcfg q s) q s = true :=
  ⟨rq 0x0A04 [(2, 1, 1), (3, 1, 1), (4, 2, 100)], rdy, by decide +kernel⟩
theorem wit_command_snapReelenable : ∃ (q : Req) (s : State), clears 0x0A05 true ((cat 0x0A05).priv) (chkSnapReelenable q s) q s = true :=
  ⟨rq 0x0A05 [], rdy, by decide +kernel⟩
theorem wit_command_snapTarget : ∃ (q : Req) (s : State), clears 0x0A06 (((prm q 1 1).testBit 0) || (inData q).length == 256) 2 (chkSnapTarget q s) q s = true :=
  ⟨rq 0x0A06 [(1, 1, 1)], rdy, by decide +kernel⟩
theorem wit_command_snapDrain : ∃ (q : Req) (s : State), clears 0x0A07 true 1 (chkSnapDrain q s) q s = true :=
  ⟨rq 0x0A07 [(1, 1, 2)], ({ rdy with snap := { snapReset with sideA := { sideReset with sealed := true, snapId := 1 } } }), by decide +kernel⟩
theorem wit_command_snapRestore : ∃ (q : Req) (s : State), clears 0x0A08 true 2 (chkSnapRestore q s) q s = true :=
  ⟨rq 0x0A08 [(1, 1, 2), (8, 8, 1)], ({ rdy with set := { setReset with copies := [(2, ⟨1, 0, 0, 0, 0, 0, headerFor rdy 0 1 0 0 true false⟩)] } }), by decide +kernel⟩
theorem wit_command_snapList : ∃ (q : Req) (s : State), clears 0x0A09 true ((cat 0x0A09).priv) (chkSnapList q) q s = true :=
  ⟨rq 0x0A09 [(0, 1, 1)], rdy, by decide +kernel⟩
theorem wit_command_snapQuery : ∃ (q : Req) (s : State), clears 0x0A0A true ((cat 0x0A0A).priv) none q s = true :=
  ⟨rq 0x0A0A [], rdy, by decide +kernel⟩
theorem wit_command_flashHealth : ∃ (q : Req) (s : State), clears 0x0B01 true ((cat 0x0B01).priv) (flashChk s) q s = true :=
  ⟨rq 0x0B01 [], rdy, by decide +kernel⟩
theorem wit_command_flashScan : ∃ (q : Req) (s : State), clears 0x0B02 true 1 (chkFlashScan s) q s = true :=
  ⟨rq 0x0B02 [], rdy, by decide +kernel⟩
theorem wit_command_flashScancfg : ∃ (q : Req) (s : State), clears 0x0B03 true ((cat 0x0B03).priv) (chkFlashScancfg q s) q s = true :=
  ⟨rq 0x0B03 [], rdy, by decide +kernel⟩
theorem wit_command_flashBbtread : ∃ (q : Req) (s : State), clears 0x0B04 (outRoom (cat 0x0B04) 512 q) 0 (chkFlashBbtread q s) q s = true :=
  ⟨rq 0x0B04 [], rdy, by decide +kernel⟩
theorem wit_command_flashFormat : ∃ (q : Req) (s : State), clears 0x0B05 true 2 (firstOf [flashChk s, formatBusy s]) q s = true :=
  ⟨rq 0x0B05 [], rdy, by decide +kernel⟩
theorem wit_command_gemelPair : ∃ (q : Req) (s : State), clears 0x0C01 true 2 (chkGemelPair q s) q s = true :=
  ⟨rq 0x0C01 [], rdy, by decide +kernel⟩
theorem wit_command_gemelUnpair : ∃ (q : Req) (s : State), clears 0x0C02 true ((cat 0x0C02).priv) (chkGemelUnpair s) q s = true :=
  ⟨rq 0x0C02 [], rdy, by decide +kernel⟩
theorem wit_command_gemelQuery : ∃ (q : Req) (s : State), clears 0x0C03 true ((cat 0x0C03).priv) none q s = true :=
  ⟨rq 0x0C03 [], rdy, by decide +kernel⟩
theorem wit_command_envCap : ∃ (q : Req) (s : State), clears 0x0D01 true 2 (chkEnvCap q s) q s = true :=
  ⟨rq 0x0D01 [], rdy, by decide +kernel⟩
theorem wit_command_envRampcfg : ∃ (q : Req) (s : State), clears 0x0D02 true ((cat 0x0D02).priv) (chkEnvRampcfg q s) q s = true :=
  ⟨rq 0x0D02 [], rdy, by decide +kernel⟩
theorem wit_command_envBrakecfg : ∃ (q : Req) (s : State), clears 0x0D03 true ((cat 0x0D03).priv) (chkEnvBrakecfg q) q s = true :=
  ⟨rq 0x0D03 [], rdy, by decide +kernel⟩
theorem wit_command_envOrphancfg : ∃ (q : Req) (s : State), clears 0x0D04 true ((cat 0x0D04).priv) (chkEnvOrphancfg q s) q s = true :=
  ⟨rq 0x0D04 [], rdy, by decide +kernel⟩
theorem wit_command_envHeartbeat : ∃ (q : Req) (s : State), clears 0x0D05 true ((cat 0x0D05).priv) none q s = true :=
  ⟨rq 0x0D05 [], rdy, by decide +kernel⟩
theorem wit_command_envQuery : ∃ (q : Req) (s : State), clears 0x0D06 true ((cat 0x0D06).priv) none q s = true :=
  ⟨rq 0x0D06 [], rdy, by decide +kernel⟩
theorem wit_command_envSensors : ∃ (q : Req) (s : State), clears 0x0D07 true ((cat 0x0D07).priv) (chkEnvSensors q) q s = true :=
  ⟨rq 0x0D07 [(1, 1, 1)], rdy, by decide +kernel⟩
theorem wit_command_envPsu : ∃ (q : Req) (s : State), clears 0x0D08 true ((cat 0x0D08).priv) (refuseIf (7 < prm q 0 1) 0x0007) q s = true :=
  ⟨rq 0x0D08 [], rdy, by decide +kernel⟩
theorem wit_command_envRipcord : ∃ (q : Req) (s : State), clears 0x0D09 true ((cat 0x0D09).priv) (chkEnvRipcord q s) q s = true :=
  ⟨rq 0x0D09 [], rdy, by decide +kernel⟩
theorem wit_command_envTraycfg : ∃ (q : Req) (s : State), clears 0x0D0A true ((cat 0x0D0A).priv) none q s = true :=
  ⟨rq 0x0D0A [], rdy, by decide +kernel⟩
theorem wit_command_envTrayquery : ∃ (q : Req) (s : State), clears 0x0D0B true ((cat 0x0D0B).priv) none q s = true :=
  ⟨rq 0x0D0B [], rdy, by decide +kernel⟩
theorem wit_command_faultQuery : ∃ (q : Req) (s : State), clears 0x0E01 (prm q 0 1 != 1 || 32 ≤ sourcesRoom q) ((cat 0x0E01).priv) (chkFaultQuery q s) q s = true :=
  ⟨rq 0x0E01 [], rdy, by decide +kernel⟩
theorem wit_command_faultClasscfg : ∃ (q : Req) (s : State), clears 0x0E02 true ((cat 0x0E02).priv) (chkFaultClasscfg q) q s = true :=
  ⟨rq 0x0E02 [(8, 1, 1)], rdy, by decide +kernel⟩
theorem wit_command_faultIsolate : ∃ (q : Req) (s : State), clears 0x0E03 true 2 (chkFaultIsolate q s) q s = true :=
  ⟨rq 0x0E03 [(0, 2, 768)], rdy, by decide +kernel⟩
theorem wit_command_faultRelease : ∃ (q : Req) (s : State), clears 0x0E04 true 2 (chkFaultRelease q s) q s = true :=
  ⟨rq 0x0E04 [(0, 2, 768)], ({ rdy with flt := { fltReset with src := [(0x300, { srcOk with st := .isolated })] } }), by decide +kernel⟩
theorem wit_command_faultClear : ∃ (q : Req) (s : State), clears 0x0E05 true ((cat 0x0E05).priv) none q s = true :=
  ⟨rq 0x0E05 [], rdy, by decide +kernel⟩
theorem wit_command_eventTrigcfg : ∃ (q : Req) (s : State), clears 0x0E06 ((prm q 2 1).testBit 2 || 4 * prm q 3 1 ≤ (inData q).length) 1 (chkEventTrigcfg q s) q s = true :=
  ⟨rq 0x0E06 [(0, 2, 3525)], rdy, by decide +kernel⟩
theorem wit_command_eventRead : ∃ (q : Req) (s : State), clears 0x0E07 (readRoom q) 0 (chkEventRead q) q s = true :=
  ⟨rq 0x0E07 [(4, 4, 64)], rdy, by decide +kernel⟩
theorem wit_command_eventRestart : ∃ (q : Req) (s : State), clears 0x0E08 true ((cat 0x0E08).priv) none q s = true :=
  ⟨rq 0x0E08 [], rdy, by decide +kernel⟩
theorem wit_command_cfgRead : ∃ (q : Req) (s : State), clears 0x0F02 (outRoom (cat 0x0F02) (copyRaw q s).length q) 0 (chkCfgRead q) q s = true :=
  ⟨rq 0x0F02 [], rdy, by decide +kernel⟩
theorem wit_command_fwActivate : ∃ (q : Req) (s : State), clears 0x0F04 true 2 (chkFwActivate q s) q s = true :=
  ⟨rq 0x0F04 [], ({ rdy with sys := { sysReset with st := .ready, starting := false, slotB := fwReset } }), by decide +kernel⟩
theorem wit_command_fwQuery : ∃ (q : Req) (s : State), clears 0x0F05 true ((cat 0x0F05).priv) none q s = true :=
  ⟨rq 0x0F05 [], rdy, by decide +kernel⟩
theorem wit_command_secCerts : ∃ (q : Req) (s : State), clears 0x0F06 (outRoom (cat 0x0F06) 4096 q) 0 none q s = true :=
  ⟨rq 0x0F06 [], rdy, by decide +kernel⟩
theorem wit_command_secFloor : ∃ (q : Req) (s : State), clears 0x0F07 true ((cat 0x0F07).priv) (chkSecFloor q s) q s = true :=
  ⟨rq 0x0F07 [(0, 4, 1)], ({ rdy with sys := { sysReset with st := .ready, starting := false, slotA := ⟨true, 0, 1, 0, 0, []⟩ } }), by decide +kernel⟩
theorem wit_command_cfgJournalinit : ∃ (q : Req) (s : State), clears 0x0F08 true 2 (chkJournalinit s) q s = true :=
  ⟨rq 0x0F08 [], ({ rdy with sys := { sysReset with hold := 1, starting := false } }), by decide +kernel⟩
theorem wit_command_opQuery : ∃ (q : Req) (s : State), clears 0x1001 true ((cat 0x1001).priv) (tkChk q s) q s = true :=
  ⟨rq 0x1001 [(0, 4, 256)], ({ rdy with cmd := { cmdReset with rings := [(0, ring0)], tickets := [(0, ⟨256, .queued, 0x0A07, 1, ⟨.host, 0⟩, ⟨.host, 0⟩, 0, 0, 0, 0, [], 0, [], [], [], 1, false, 0, false, false, true⟩)], serial := 2 } }), by decide +kernel⟩
theorem wit_command_opSuspend : ∃ (q : Req) (s : State), clears 0x1002 true (tkPriv q s) (chkOpSuspend q s) q s = true :=
  ⟨rq 0x1002 [(0, 4, 256)], ({ rdy with cmd := { cmdReset with rings := [(0, ring0)], tickets := [(0, ⟨256, .queued, 0x0A07, 1, ⟨.host, 0⟩, ⟨.host, 0⟩, 0, 0, 0, 0, [], 0, [], [], [], 1, false, 0, false, false, true⟩)], serial := 2 } }), by decide +kernel⟩
theorem wit_command_opResume : ∃ (q : Req) (s : State), clears 0x1003 true (tkPriv q s) (chkOpResume q s) q s = true :=
  ⟨rq 0x1003 [(0, 4, 256)], ({ rdy with cmd := { cmdReset with rings := [(0, ring0)], tickets := [(0, ⟨256, .suspended, 0x0A07, 1, ⟨.host, 0⟩, ⟨.host, 0⟩, 0, 0, 0, 0, [], 0, [], [], [], 1, false, 0, false, false, true⟩)], serial := 2 } }), by decide +kernel⟩
theorem wit_command_opCancel : ∃ (q : Req) (s : State), clears 0x1004 true (tkPriv q s) (chkOpCancel q s) q s = true :=
  ⟨rq 0x1004 [(0, 4, 256)], ({ rdy with cmd := { cmdReset with rings := [(0, ring0)], tickets := [(0, ⟨256, .queued, 0x0A07, 1, ⟨.host, 0⟩, ⟨.host, 0⟩, 0, 0, 0, 0, [], 0, [], [], [], 1, false, 0, false, false, true⟩)], serial := 2 } }), by decide +kernel⟩
theorem wit_command_opList : ∃ (q : Req) (s : State), clears 0x1005 (outRoom (cat 0x1005) 2048 q) 0 none q s = true :=
  ⟨rq 0x1005 [], rdy, by decide +kernel⟩

/-! ### Commands that their owners refuse -/

theorem wit_refusal_devService : ∃ (q : Req) (s : State), reaches 0x0103 true ((cat 0x0103).priv) q s = true ∧ ((chkDevService q s)).isSome = true :=
  ⟨rq 0x0103 [(0, 1, 255)], rdy, by decide +kernel⟩
theorem wit_refusal_devRestart : ∃ (q : Req) (s : State), reaches 0x0104 true 2 q s = true ∧ ((chkDevRestart q s)).isSome = true :=
  ⟨rq 0x0104 [(0, 1, 255), (1, 1, 1)], rdy, by decide +kernel⟩
theorem wit_refusal_devSelftest : ∃ (q : Req) (s : State), reaches 0x0105 true 1 q s = true ∧ ((chkDevSelftest s)).isSome = true :=
  ⟨rq 0x0105 [], ({ rdy with sched := { schedReset with slot := some 0 } }), by decide +kernel⟩
theorem wit_refusal_devMgmtcfg : ∃ (q : Req) (s : State), reaches 0x0106 true ((cat 0x0106).priv) q s = true ∧ ((chkDevMgmtcfg q)).isSome = true :=
  ⟨rq 0x0106 [], rdy, by decide +kernel⟩
theorem wit_refusal_portEnable : ∃ (q : Req) (s : State), reaches 0x0201 true (ownerFrom 18 31 (prm q 0 2)) q s = true ∧ ((chkPortEnable q s)).isSome = true :=
  ⟨rq 0x0201 [], rdy, by decide +kernel⟩
theorem wit_refusal_portDisable : ∃ (q : Req) (s : State), reaches 0x0202 true (ownerFrom 18 31 (prm q 0 2)) q s = true ∧ ((chkPortDisable q s)).isSome = true :=
  ⟨rq 0x0202 [(0, 2, 65535)], rdy, by decide +kernel⟩
theorem wit_refusal_portSplit : ∃ (q : Req) (s : State), reaches 0x0203 true ((cat 0x0203).priv) q s = true ∧ ((chkPortSplit q s)).isSome = true :=
  ⟨rq 0x0203 [(0, 2, 65535), (2, 1, 255)], rdy, by decide +kernel⟩
theorem wit_refusal_portPower : ∃ (q : Req) (s : State), reaches 0x0204 true ((cat 0x0204).priv) q s = true ∧ ((chkPortPower q s)).isSome = true :=
  ⟨rq 0x0204 [(0, 2, 65535), (2, 1, 255), (4, 2, 65535)], rdy, by decide +kernel⟩
theorem wit_refusal_portQuery : ∃ (q : Req) (s : State), reaches 0x0205 true ((cat 0x0205).priv) q s = true ∧ ((portNoChk s (prm q 0 2))).isSome = true :=
  ⟨rq 0x0205 [(0, 2, 65535)], rdy, by decide +kernel⟩
theorem wit_refusal_laneStats : ∃ (q : Req) (s : State), reaches 0x0206 true ((cat 0x0206).priv) q s = true ∧ ((laneNoChk s (prm q 0 2))).isSome = true :=
  ⟨rq 0x0206 [(0, 2, 65535), (2, 1, 1)], rdy, by decide +kernel⟩
theorem wit_refusal_laneTest : ∃ (q : Req) (s : State), reaches 0x0207 true 1 q s = true ∧ ((chkLaneTest q s)).isSome = true :=
  ⟨rq 0x0207 [], rdy, by decide +kernel⟩
theorem wit_refusal_optRead : ∃ (q : Req) (s : State), reaches 0x0208 true ((cat 0x0208).priv) q s = true ∧ ((chkOptRead q s)).isSome = true :=
  ⟨rq 0x0208 [(0, 2, 65535)], rdy, by decide +kernel⟩
theorem wit_refusal_optInspect : ∃ (q : Req) (s : State), reaches 0x0209 true 1 q s = true ∧ ((chkOptInspect q s)).isSome = true :=
  ⟨rq 0x0209 [], rdy, by decide +kernel⟩
theorem wit_refusal_optClean : ∃ (q : Req) (s : State), reaches 0x020A true 1 q s = true ∧ ((chkOptClean q s)).isSome = true :=
  ⟨rq 0x020A [(0, 1, 255), (4, 2, 65535)], rdy, by decide +kernel⟩
theorem wit_refusal_portLinkcfg : ∃ (q : Req) (s : State), reaches 0x020B true (ownerFrom 18 30 (prm q 0 2)) q s = true ∧ ((chkPortLinkcfg q s)).isSome = true :=
  ⟨rq 0x020B [(0, 2, 65535), (2, 2, 65535), (4, 1, 1), (16, 32, 115792089237316195423570985008687907853269984665640564039457584007913129639935)], rdy, by decide +kernel⟩
theorem wit_refusal_portLstats : ∃ (q : Req) (s : State), reaches 0x020C true ((cat 0x020C).priv) q s = true ∧ ((laneNoChk s (prm q 0 2))).isSome = true :=
  ⟨rq 0x020C [(0, 2, 65535), (2, 1, 1)], rdy, by decide +kernel⟩
theorem wit_refusal_portEthcfg : ∃ (q : Req) (s : State), reaches 0x020D true ((cat 0x020D).priv) q s = true ∧ ((chkPortEthcfg q s)).isSome = true :=
  ⟨rq 0x020D [], rdy, by decide +kernel⟩
theorem wit_refusal_cartRead : ∃ (q : Req) (s : State), reaches 0x0301 (!onHostRing q || 8192 ≤ prm q 16 4) 0 q s = true ∧ ((bayChk s (prm q 0 2))).isSome = true :=
  ⟨rq 0x0301 [(0, 2, 65535), (16, 4, 4294967295)], rdy, by decide +kernel⟩
theorem wit_refusal_cartOverride : ∃ (q : Req) (s : State), reaches 0x0302 true ((cat 0x0302).priv) q s = true ∧ ((portRangeChk s (prm q 0 2) (prm q 2 2))).isSome = true :=
  ⟨rq 0x0302 [], rdy, by decide +kernel⟩
theorem wit_refusal_cartRescan : ∃ (q : Req) (s : State), reaches 0x0303 true 1 q s = true ∧ ((chkCartRescan q s)).isSome = true :=
  ⟨rq 0x0303 [(0, 2, 24)], rdy, by decide +kernel⟩
theorem wit_refusal_routeWrite : ∃ (q : Req) (s : State), reaches 0x0401 true ((cat 0x0401).priv) q s = true ∧ ((chkRouteWrite q s)).isSome = true :=
  ⟨rq 0x0401 [], rdy, by decide +kernel⟩
theorem wit_refusal_routeCommit : ∃ (q : Req) (s : State), reaches 0x0402 true 2 q s = true ∧ ((chkRouteCommit q s)).isSome = true :=
  ⟨rq 0x0402 [(4, 2, 65535)], rdy, by decide +kernel⟩
theorem wit_refusal_routeHold : ∃ (q : Req) (s : State), reaches 0x0403 true 2 q s = true ∧ ((chkRouteHold s)).isSome = true :=
  ⟨rq 0x0403 [], ({ rdy with core := { coreReset with held := true } }), by decide +kernel⟩
theorem wit_refusal_routeRelease : ∃ (q : Req) (s : State), reaches 0x0404 true ((cat 0x0404).priv) q s = true ∧ ((refuseIf (!s.core.held) 0x0005)).isSome = true :=
  ⟨rq 0x0404 [], rdy, by decide +kernel⟩
theorem wit_refusal_routeQuery : ∃ (q : Req) (s : State), reaches 0x0405 true ((cat 0x0405).priv) q s = true ∧ ((chkRouteQuery q)).isSome = true :=
  ⟨rq 0x0405 [(0, 1, 255), (1, 1, 255), (2, 1, 255)], rdy, by decide +kernel⟩
theorem wit_refusal_routeCmapcfg : ∃ (q : Req) (s : State), reaches 0x0407 true ((cat 0x0407).priv) q s = true ∧ ((refuseIf (prm q 0 4 < 10 || 10000 < prm q 0 4) 0x0007)).isSome = true :=
  ⟨rq 0x0407 [], rdy, by decide +kernel⟩
theorem wit_refusal_routeSparstats : ∃ (q : Req) (s : State), reaches 0x0408 true ((cat 0x0408).priv) q s = true ∧ ((dieChk s (prm q 0 1))).isSome = true :=
  ⟨rq 0x0408 [(0, 1, 255), (1, 1, 1)], rdy, by decide +kernel⟩
theorem wit_refusal_sliceBind : ∃ (q : Req) (s : State), reaches 0x0501 true (sliceBindPriv q s) q s = true ∧ ((chkSliceBind q s)).isSome = true :=
  ⟨rq 0x0501 [], rdy, by decide +kernel⟩
theorem wit_refusal_sliceEnable : ∃ (q : Req) (s : State), reaches 0x0502 true ((cat 0x0502).priv) q s = true ∧ ((chkSliceEnable q s)).isSome = true :=
  ⟨rq 0x0502 [], rdy, by decide +kernel⟩
theorem wit_refusal_sliceDisable : ∃ (q : Req) (s : State), reaches 0x0503 true 1 q s = true ∧ ((chkSliceDisable q s)).isSome = true :=
  ⟨rq 0x0503 [], rdy, by decide +kernel⟩
theorem wit_refusal_sliceQuery : ∃ (q : Req) (s : State), reaches 0x0504 true ((cat 0x0504).priv) q s = true ∧ ((chkSliceQuery q s)).isSome = true :=
  ⟨rq 0x0504 [], rdy, by decide +kernel⟩
theorem wit_refusal_qosServicecfg : ∃ (q : Req) (s : State), reaches 0x0601 true (qosPriv (prm q 0 2) (prm q 2 2)) q s = true ∧ ((chkQosServicecfg q s)).isSome = true :=
  ⟨rq 0x0601 [], rdy, by decide +kernel⟩
theorem wit_refusal_qosSubcfg : ∃ (q : Req) (s : State), reaches 0x0602 true (qosPriv (prm q 0 2) 1) q s = true ∧ ((chkQosSubcfg q s)).isSome = true :=
  ⟨rq 0x0602 [], rdy, by decide +kernel⟩
theorem wit_refusal_qosShapecfg : ∃ (q : Req) (s : State), reaches 0x0603 true (qosPriv (prm q 0 2) 1) q s = true ∧ ((chkQosShapecfg q s)).isSome = true :=
  ⟨rq 0x0603 [], rdy, by decide +kernel⟩
theorem wit_refusal_qosPolicecfg : ∃ (q : Req) (s : State), reaches 0x0604 true (qosPriv (prm q 0 2) 1) q s = true ∧ ((chkQosPolicecfg q s)).isSome = true :=
  ⟨rq 0x0604 [], rdy, by decide +kernel⟩
theorem wit_refusal_qosGatewrite : ∃ (q : Req) (s : State), reaches 0x0605 (8 * prm q 2 2 ≤ (inData q).length) (qosPriv (prm q 0 2) 1) q s = true ∧ ((chkQosGatewrite q s)).isSome = true :=
  ⟨rq 0x0605 [], rdy, by decide +kernel⟩
theorem wit_refusal_qosGatequery : ∃ (q : Req) (s : State), reaches 0x0606 (outRoom (cat 0x0606) (qGate s (prm q 0 2) (prm q 2 1)).length q) (qosPriv (prm q 0 2) 1) q s = true ∧ ((chkQosGatequery q s)).isSome = true :=
  ⟨rq 0x0606 [(0, 2, 65535), (2, 1, 255)], rdy, by decide +kernel⟩
theorem wit_refusal_qosQstats : ∃ (q : Req) (s : State), reaches 0x0607 true (if ownerQueues (prm q 0 4) 1 then 2 else 1) q s = true ∧ ((queueChk s (prm q 0 4) 1)).isSome = true :=
  ⟨rq 0x0607 [(0, 4, 4294967295), (4, 1, 1)], rdy, by decide +kernel⟩
theorem wit_refusal_qosPstats : ∃ (q : Req) (s : State), reaches 0x0608 true (qosPriv (prm q 0 2) 1) q s = true ∧ ((firstOf [refuseIf (7 < (prm q 2 1)) 0x0007, lpRangeChk s (prm q 0 2) 1])).isSome = true :=
  ⟨rq 0x0608 [(0, 2, 65535), (2, 1, 255), (3, 1, 1)], rdy, by decide +kernel⟩
theorem wit_refusal_qosPoolcfg : ∃ (q : Req) (s : State), reaches 0x0640 true ((cat 0x0640).priv) q s = true ∧ ((chkQosPoolcfg q s)).isSome = true :=
  ⟨rq 0x0640 [], rdy, by decide +kernel⟩
theorem wit_refusal_qosPoolquery : ∃ (q : Req) (s : State), reaches 0x0641 true ((cat 0x0641).priv) q s = true ∧ ((dieChk s (prm q 0 1))).isSome = true :=
  ⟨rq 0x0641 [(0, 1, 255), (1, 1, 1)], rdy, by decide +kernel⟩
theorem wit_refusal_qosMarkcfg : ∃ (q : Req) (s : State), reaches 0x0642 true (if ownerQueues (prm q 0 4) (prm q 4 4) then 2 else 1) q s = true ∧ ((chkQosMarkcfg q s)).isSome = true :=
  ⟨rq 0x0642 [], rdy, by decide +kernel⟩
theorem wit_refusal_groupConfig : ∃ (q : Req) (s : State), reaches 0x0701 ((256 + 8 * rdLe (inData q) 26 2) ≤ (inData q).length && (!onHostRing q || (256 + 8 * rdLe (inData q) 26 2) ≤ bufLen (cat 0x0701) q)) ((cat 0x0701).priv) q s = true ∧ ((chkGroupConfig q s)).isSome = true :=
  ⟨rqb 0x0701 [(0, 2, 0)] (fields 264 [(6, 1, 1), (7, 1, 1), (8, 2, 1), (24, 2, 1), (26, 2, 1)]), rdy, by decide +kernel⟩
theorem wit_refusal_groupEnable : ∃ (q : Req) (s : State), reaches 0x0702 true ((cat 0x0702).priv) q s = true ∧ ((chkGroupEnable q s)).isSome = true :=
  ⟨rq 0x0702 [], rdy, by decide +kernel⟩
theorem wit_refusal_groupDisable : ∃ (q : Req) (s : State), reaches 0x0703 true 1 q s = true ∧ ((chkGroupDisable q s)).isSome = true :=
  ⟨rq 0x0703 [], rdy, by decide +kernel⟩
theorem wit_refusal_groupAbort : ∃ (q : Req) (s : State), reaches 0x0704 true ((cat 0x0704).priv) q s = true ∧ ((chkGroupAbort q s)).isSome = true :=
  ⟨rq 0x0704 [], rdy, by decide +kernel⟩
theorem wit_refusal_groupMissing : ∃ (q : Req) (s : State), reaches 0x0706 true ((cat 0x0706).priv) q s = true ∧ ((refuseIf (groupSt s (prm q 0 2) != 2) 0x0005)).isSome = true :=
  ⟨rq 0x0706 [], rdy, by decide +kernel⟩
theorem wit_refusal_groupPoolquery : ∃ (q : Req) (s : State), reaches 0x0707 true ((cat 0x0707).priv) q s = true ∧ ((dieChk s (prm q 0 1))).isSome = true :=
  ⟨rq 0x0707 [(0, 1, 255)], rdy, by decide +kernel⟩
theorem wit_refusal_groupUpdcfg : ∃ (q : Req) (s : State), reaches 0x0708 true ((cat 0x0708).priv) q s = true ∧ ((chkGroupUpdcfg q s)).isSome = true :=
  ⟨rq 0x0708 [], rdy, by decide +kernel⟩
theorem wit_refusal_groupUpdquery : ∃ (q : Req) (s : State), reaches 0x0709 true ((cat 0x0709).priv) q s = true ∧ ((dieChk s (prm q 0 1))).isSome = true :=
  ⟨rq 0x0709 [(0, 1, 255)], rdy, by decide +kernel⟩
theorem wit_refusal_tileLoad : ∃ (q : Req) (s : State), reaches 0x0801 true 2 q s = true ∧ ((chkTileLoad q s)).isSome = true :=
  ⟨rq 0x0801 [], rdy, by decide +kernel⟩
theorem wit_refusal_tileUnload : ∃ (q : Req) (s : State), reaches 0x0802 true ((cat 0x0802).priv) q s = true ∧ ((chkTileUnload q s)).isSome = true :=
  ⟨rq 0x0802 [], rdy, by decide +kernel⟩
theorem wit_refusal_tileProgquery : ∃ (q : Req) (s : State), reaches 0x0803 true ((cat 0x0803).priv) q s = true ∧ ((firstOf [refuseIf (slotBad q) 0x0007, refuseIf (!s.id.tiles) 0x0003])).isSome = true :=
  ⟨rq 0x0803 [], rdy, by decide +kernel⟩
theorem wit_refusal_tileUpdbind : ∃ (q : Req) (s : State), reaches 0x0804 true ((cat 0x0804).priv) q s = true ∧ ((chkTileUpdbind q s)).isSome = true :=
  ⟨rq 0x0804 [], rdy, by decide +kernel⟩
theorem wit_refusal_tileUpdunbind : ∃ (q : Req) (s : State), reaches 0x0805 true ((cat 0x0805).priv) q s = true ∧ ((chkTileUpdunbind q s)).isSome = true :=
  ⟨rq 0x0805 [], rdy, by decide +kernel⟩
theorem wit_refusal_tileUpdquery : ∃ (q : Req) (s : State), reaches 0x0806 true ((cat 0x0806).priv) q s = true ∧ ((refuseIf (!s.id.tiles) 0x0003)).isSome = true :=
  ⟨rq 0x0806 [], ({ rdy with id := { identReset with tiles := false } }), by decide +kernel⟩
theorem wit_refusal_tileQuery : ∃ (q : Req) (s : State), reaches 0x0840 true ((cat 0x0840).priv) q s = true ∧ ((chkTileQuery q s)).isSome = true :=
  ⟨rq 0x0840 [(0, 1, 255), (1, 1, 255)], rdy, by decide +kernel⟩
theorem wit_refusal_tilePower : ∃ (q : Req) (s : State), reaches 0x0841 true ((cat 0x0841).priv) q s = true ∧ ((chkTilePower q s)).isSome = true :=
  ⟨rq 0x0841 [(0, 1, 255), (1, 1, 255), (2, 1, 255), (4, 2, 65535)], rdy, by decide +kernel⟩
theorem wit_refusal_tileSelftest : ∃ (q : Req) (s : State), reaches 0x0842 true 1 q s = true ∧ ((chkTileSelftest q s)).isSome = true :=
  ⟨rq 0x0842 [(0, 1, 255), (1, 1, 255)], rdy, by decide +kernel⟩
theorem wit_refusal_schedLoad : ∃ (q : Req) (s : State), reaches 0x0901 true (imagePriv (inData q)) q s = true ∧ ((chkSchedLoad q s)).isSome = true :=
  ⟨rq 0x0901 [(0, 1, 255)], rdy, by decide +kernel⟩
theorem wit_refusal_schedUnload : ∃ (q : Req) (s : State), reaches 0x0902 true ((cat 0x0902).priv) q s = true ∧ ((chkSchedUnload q s)).isSome = true :=
  ⟨rq 0x0902 [], rdy, by decide +kernel⟩
theorem wit_refusal_schedEnable : ∃ (q : Req) (s : State), reaches 0x0903 true (imagePriv (mget [] s.sched.images (prm q 0 1))) q s = true ∧ ((chkSchedEnable q s)).isSome = true :=
  ⟨rq 0x0903 [], rdy, by decide +kernel⟩
theorem wit_refusal_schedStop : ∃ (q : Req) (s : State), reaches 0x0904 true ((cat 0x0904).priv) q s = true ∧ ((chkSchedStop q s)).isSome = true :=
  ⟨rq 0x0904 [], rdy, by decide +kernel⟩
theorem wit_refusal_schedDisable : ∃ (q : Req) (s : State), reaches 0x0905 true ((cat 0x0905).priv) q s = true ∧ ((chkSchedDisable s)).isSome = true :=
  ⟨rq 0x0905 [], rdy, by decide +kernel⟩
theorem wit_refusal_schedTimecfg : ∃ (q : Req) (s : State), reaches 0x0907 true ((cat 0x0907).priv) q s = true ∧ ((chkSchedTimecfg q)).isSome = true :=
  ⟨rq 0x0907 [(0, 1, 3), (4, 4, 4294967295)], rdy, by decide +kernel⟩
theorem wit_refusal_schedAuditcfg : ∃ (q : Req) (s : State), reaches 0x0909 true ((cat 0x0909).priv) q s = true ∧ ((chkSchedAuditcfg q s)).isSome = true :=
  ⟨rq 0x0909 [(0, 2, 64), (2, 1, 1)], ({ rdy with set := { setReset with audited := List.range 64 } }), by decide +kernel⟩
theorem wit_refusal_schedAuditread : ∃ (q : Req) (s : State), reaches 0x090A true ((cat 0x090A).priv) q s = true ∧ ((chkSchedAuditread q s)).isSome = true :=
  ⟨rq 0x090A [], rdy, by decide +kernel⟩
theorem wit_refusal_snapPlan : ∃ (q : Req) (s : State), reaches 0x0A01 true ((cat 0x0A01).priv) q s = true ∧ ((chkSnapPlan q s)).isSome = true :=
  ⟨rq 0x0A01 [(0, 1, 255), (1, 1, 255), (2, 1, 255), (3, 1, 255), (4, 1, 255), (5, 1, 255)], rdy, by decide +kernel⟩
theorem wit_refusal_snapSeal : ∃ (q : Req) (s : State), reaches 0x0A03 true ((cat 0x0A03).priv) q s = true ∧ ((chkSnapSeal q s)).isSome = true :=
  ⟨rq 0x0A03 [(0, 1, 255), (8, 8, 18446744073709551615)], rdy, by decide +kernel⟩
theorem wit_refusal_snapReelcfg : ∃ (q : Req) (s : State), reaches 0x0A04 true ((cat 0x0A04).priv) q s = true ∧ ((chkSnapReelcfg q s)).isSome = true :=
  ⟨rq 0x0A04 [], rdy, by decide +kernel⟩
theorem wit_refusal_snapReelenable : ∃ (q : Req) (s : State), reaches 0x0A05 true ((cat 0x0A05).priv) q s = true ∧ ((chkSnapReelenable q s)).isSome = true :=
  ⟨rq 0x0A05 [(0, 1, 1)], rdy, by decide +kernel⟩
theorem wit_refusal_snapTarget : ∃ (q : Req) (s : State), reaches 0x0A06 (((prm q 1 1).testBit 0) || (inData q).length == 256) 2 q s = true ∧ ((chkSnapTarget q s)).isSome = true :=
  ⟨rq 0x0A06 [(0, 1, 255), (1, 1, 1), (4, 4, 4294967295), (8, 8, 18446744073709551615), (16, 8, 18446744073709551615)], rdy, by decide +kernel⟩
theorem wit_refusal_snapDrain : ∃ (q : Req) (s : State), reaches 0x0A07 true 1 q s = true ∧ ((chkSnapDrain q s)).isSome = true :=
  ⟨rq 0x0A07 [], rdy, by decide +kernel⟩
theorem wit_refusal_snapRestore : ∃ (q : Req) (s : State), reaches 0x0A08 true 2 q s = true ∧ ((chkSnapRestore q s)).isSome = true :=
  ⟨rq 0x0A08 [], rdy, by decide +kernel⟩
theorem wit_refusal_snapList : ∃ (q : Req) (s : State), reaches 0x0A09 true ((cat 0x0A09).priv) q s = true ∧ ((chkSnapList q)).isSome = true :=
  ⟨rq 0x0A09 [], rdy, by decide +kernel⟩
theorem wit_refusal_flashHealth : ∃ (q : Req) (s : State), reaches 0x0B01 true ((cat 0x0B01).priv) q s = true ∧ ((flashChk s)).isSome = true :=
  ⟨rq 0x0B01 [], ({ rdy with id := { identReset with flash := false } }), by decide +kernel⟩
theorem wit_refusal_flashScan : ∃ (q : Req) (s : State), reaches 0x0B02 true 1 q s = true ∧ ((chkFlashScan s)).isSome = true :=
  ⟨rq 0x0B02 [], ({ rdy with id := { identReset with flash := false } }), by decide +kernel⟩
theorem wit_refusal_flashScancfg : ∃ (q : Req) (s : State), reaches 0x0B03 true ((cat 0x0B03).priv) q s = true ∧ ((chkFlashScancfg q s)).isSome = true :=
  ⟨rq 0x0B03 [(0, 1, 255), (1, 1, 255), (2, 1, 255)], rdy, by decide +kernel⟩
theorem wit_refusal_flashBbtread : ∃ (q : Req) (s : State), reaches 0x0B04 (outRoom (cat 0x0B04) 512 q) 0 q s = true ∧ ((chkFlashBbtread q s)).isSome = true :=
  ⟨rq 0x0B04 [(0, 2, 65535)], rdy, by decide +kernel⟩
theorem wit_refusal_flashFormat : ∃ (q : Req) (s : State), reaches 0x0B05 true 2 q s = true ∧ ((firstOf [flashChk s, formatBusy s])).isSome = true :=
  ⟨rq 0x0B05 [], ({ rdy with id := { identReset with flash := false } }), by decide +kernel⟩
theorem wit_refusal_gemelPair : ∃ (q : Req) (s : State), reaches 0x0C01 true 2 q s = true ∧ ((chkGemelPair q s)).isSome = true :=
  ⟨rq 0x0C01 [(0, 1, 3), (4, 2, 65535)], rdy, by decide +kernel⟩
theorem wit_refusal_gemelUnpair : ∃ (q : Req) (s : State), reaches 0x0C02 true ((cat 0x0C02).priv) q s = true ∧ ((chkGemelUnpair s)).isSome = true :=
  ⟨rq 0x0C02 [], ({ rdy with gemel := { gemelReset with holdsRole := true } }), by decide +kernel⟩
theorem wit_refusal_gemelAdopt : ∃ (q : Req) (s : State), reaches 0x0C04 true 2 q s = true ∧ ((firstOf [refuseIf (!(liveOps s 0x0C04).isEmpty) 0x0006, adoptChk s])).isSome = true :=
  ⟨rq 0x0C04 [], ({ rdy with jrn := { setReset with service := true } }), by decide +kernel⟩
theorem wit_refusal_gemelResync : ∃ (q : Req) (s : State), reaches 0x0C05 true 1 q s = true ∧ ((firstOf [refuseIf (s.gemel.st != .paired) 0x0005, refuseIf (!(liveOps s 0x0C05).isEmpty) 0x0006])).isSome = true :=
  ⟨rq 0x0C05 [], rdy, by decide +kernel⟩
theorem wit_refusal_envCap : ∃ (q : Req) (s : State), reaches 0x0D01 true 2 q s = true ∧ ((chkEnvCap q s)).isSome = true :=
  ⟨rq 0x0D01 [(0, 2, 65535), (2, 2, 65535)], rdy, by decide +kernel⟩
theorem wit_refusal_envRampcfg : ∃ (q : Req) (s : State), reaches 0x0D02 true ((cat 0x0D02).priv) q s = true ∧ ((chkEnvRampcfg q s)).isSome = true :=
  ⟨rq 0x0D02 [(0, 2, 65535)], rdy, by decide +kernel⟩
theorem wit_refusal_envBrakecfg : ∃ (q : Req) (s : State), reaches 0x0D03 true ((cat 0x0D03).priv) q s = true ∧ ((chkEnvBrakecfg q)).isSome = true :=
  ⟨rq 0x0D03 [(0, 1, 255), (1, 1, 255), (2, 2, 65535), (4, 1, 255), (5, 1, 255)], rdy, by decide +kernel⟩
theorem wit_refusal_envOrphancfg : ∃ (q : Req) (s : State), reaches 0x0D04 true ((cat 0x0D04).priv) q s = true ∧ ((chkEnvOrphancfg q s)).isSome = true :=
  ⟨rq 0x0D04 [(0, 2, 65535), (2, 1, 255), (3, 1, 255)], rdy, by decide +kernel⟩
theorem wit_refusal_envSensors : ∃ (q : Req) (s : State), reaches 0x0D07 true ((cat 0x0D07).priv) q s = true ∧ ((chkEnvSensors q)).isSome = true :=
  ⟨rq 0x0D07 [], rdy, by decide +kernel⟩
theorem wit_refusal_envPsu : ∃ (q : Req) (s : State), reaches 0x0D08 true ((cat 0x0D08).priv) q s = true ∧ ((refuseIf (7 < prm q 0 1) 0x0007)).isSome = true :=
  ⟨rq 0x0D08 [(0, 1, 255)], rdy, by decide +kernel⟩
theorem wit_refusal_envRipcord : ∃ (q : Req) (s : State), reaches 0x0D09 true ((cat 0x0D09).priv) q s = true ∧ ((chkEnvRipcord q s)).isSome = true :=
  ⟨rq 0x0D09 [(0, 1, 255)], rdy, by decide +kernel⟩
theorem wit_refusal_faultQuery : ∃ (q : Req) (s : State), reaches 0x0E01 (prm q 0 1 != 1 || 32 ≤ sourcesRoom q) ((cat 0x0E01).priv) q s = true ∧ ((chkFaultQuery q s)).isSome = true :=
  ⟨rq 0x0E01 [(0, 1, 255), (2, 2, 65535)], rdy, by decide +kernel⟩
theorem wit_refusal_faultClasscfg : ∃ (q : Req) (s : State), reaches 0x0E02 true ((cat 0x0E02).priv) q s = true ∧ ((chkFaultClasscfg q)).isSome = true :=
  ⟨rq 0x0E02 [], rdy, by decide +kernel⟩
theorem wit_refusal_faultIsolate : ∃ (q : Req) (s : State), reaches 0x0E03 true 2 q s = true ∧ ((chkFaultIsolate q s)).isSome = true :=
  ⟨rq 0x0E03 [], rdy, by decide +kernel⟩
theorem wit_refusal_faultRelease : ∃ (q : Req) (s : State), reaches 0x0E04 true 2 q s = true ∧ ((chkFaultRelease q s)).isSome = true :=
  ⟨rq 0x0E04 [], rdy, by decide +kernel⟩
theorem wit_refusal_eventTrigcfg : ∃ (q : Req) (s : State), reaches 0x0E06 ((prm q 2 1).testBit 2 || 4 * prm q 3 1 ≤ (inData q).length) 1 q s = true ∧ ((chkEventTrigcfg q s)).isSome = true :=
  ⟨rq 0x0E06 [], rdy, by decide +kernel⟩
theorem wit_refusal_eventRead : ∃ (q : Req) (s : State), reaches 0x0E07 (readRoom q) 0 q s = true ∧ ((chkEventRead q)).isSome = true :=
  ⟨rq 0x0E07 [], rdy, by decide +kernel⟩
theorem wit_refusal_cfgWrite : ∃ (q : Req) (s : State), reaches 0x0F01 (bufWhole 0x148 q) 2 q s = true ∧ ((firstOf [refuseIf (!(begunOps s 0x0F01).isEmpty) 0x0006, cfgRefusal s (inData q)])).isSome = true :=
  ⟨rqb 0x0F01 [] (List.replicate 328 0), rdy, by decide +kernel⟩
theorem wit_refusal_cfgRead : ∃ (q : Req) (s : State), reaches 0x0F02 (outRoom (cat 0x0F02) (copyRaw q s).length q) 0 q s = true ∧ ((chkCfgRead q)).isSome = true :=
  ⟨rq 0x0F02 [(0, 1, 255)], rdy, by decide +kernel⟩
theorem wit_refusal_fwStage : ∃ (q : Req) (s : State), reaches 0x0F03 (bufWhole 0x148 q) 2 q s = true ∧ ((firstOf [refuseIf (!(begunOps s 0x0F03).isEmpty) 0x0006, stageRefusal s (inData q)])).isSome = true :=
  ⟨rqb 0x0F03 [] (List.replicate 328 0), rdy, by decide +kernel⟩
theorem wit_refusal_fwActivate : ∃ (q : Req) (s : State), reaches 0x0F04 true 2 q s = true ∧ ((chkFwActivate q s)).isSome = true :=
  ⟨rq 0x0F04 [], rdy, by decide +kernel⟩
theorem wit_refusal_secFloor : ∃ (q : Req) (s : State), reaches 0x0F07 true ((cat 0x0F07).priv) q s = true ∧ ((chkSecFloor q s)).isSome = true :=
  ⟨rq 0x0F07 [], rdy, by decide +kernel⟩
theorem wit_refusal_cfgJournalinit : ∃ (q : Req) (s : State), reaches 0x0F08 true 2 q s = true ∧ ((chkJournalinit s)).isSome = true :=
  ⟨rq 0x0F08 [], rdy, by decide +kernel⟩
theorem wit_refusal_opQuery : ∃ (q : Req) (s : State), reaches 0x1001 true ((cat 0x1001).priv) q s = true ∧ ((tkChk q s)).isSome = true :=
  ⟨rq 0x1001 [], rdy, by decide +kernel⟩
theorem wit_refusal_opSuspend : ∃ (q : Req) (s : State), reaches 0x1002 true (tkPriv q s) q s = true ∧ ((chkOpSuspend q s)).isSome = true :=
  ⟨rq 0x1002 [], rdy, by decide +kernel⟩
theorem wit_refusal_opResume : ∃ (q : Req) (s : State), reaches 0x1003 true (tkPriv q s) q s = true ∧ ((chkOpResume q s)).isSome = true :=
  ⟨rq 0x1003 [], rdy, by decide +kernel⟩
theorem wit_refusal_opCancel : ∃ (q : Req) (s : State), reaches 0x1004 true (tkPriv q s) q s = true ∧ ((chkOpCancel q s)).isSome = true :=
  ⟨rq 0x1004 [], rdy, by decide +kernel⟩

/-! ### Events that come to their effect -/

/-- A clean of die 0 in its wait. -/
def cleaning : State := { (oneTicket ⟨256, .running, 0x020A, 1, ⟨.host, 0⟩, ⟨.host, 0⟩, 0, 0, 0, 0, [], 0, [], [], [], 1, false, 0, false, false, true⟩) with net := { netReset with inspects := [⟨256, [0], (some 0), 0, 2⟩] } }
theorem wit_event_0_tileNop : ∃ (t : Nat) (r : Running) (s : State), AtInsn s t (0) (mOpc) r :=
  ⟨0, run0, (prog 0 run0 []), by unfold AtInsn; decide +kernel⟩
theorem wit_event_1_vadd : ∃ (t vd va vb : Nat) (r : Running) (s : State), AtInsn s t (insn 0x10 vd va vb 0 0 0) (mOpc + mD + mA + mB) r :=
  ⟨0, 0, 0, 0, run0, (prog (insn 0x10 0 0 0 0 0 0) run0 []), by unfold AtInsn; decide +kernel⟩
theorem wit_event_2_vsub : ∃ (t vd va vb : Nat) (r : Running) (s : State), AtInsn s t (insn 0x11 vd va vb 0 0 0) (mOpc + mD + mA + mB) r :=
  ⟨0, 0, 0, 0, run0, (prog (insn 0x11 0 0 0 0 0 0) run0 []), by unfold AtInsn; decide +kernel⟩
theorem wit_event_3_vmin : ∃ (t vd va vb : Nat) (r : Running) (s : State), AtInsn s t (insn 0x17 vd va vb 0 0 0) (mOpc + mD + mA + mB) r :=
  ⟨0, 0, 0, 0, run0, (prog (insn 0x17 0 0 0 0 0 0) run0 []), by unfold AtInsn; decide +kernel⟩
theorem wit_event_4_vmax : ∃ (t vd va vb : Nat) (r : Running) (s : State), AtInsn s t (insn 0x18 vd va vb 0 0 0) (mOpc + mD + mA + mB) r :=
  ⟨0, 0, 0, 0, run0, (prog (insn 0x18 0 0 0 0 0 0) run0 []), by unfold AtInsn; decide +kernel⟩
theorem wit_event_5_vmul : ∃ (t vd va vb : Nat) (r : Running) (s : State), AtInsn s t (insn 0x12 vd va vb 0 0 0) (mOpc + mD + mA + mB + mC) r :=
  ⟨0, 0, 0, 0, run0, (prog (insn 0x12 0 0 0 0 0 0) run0 []), by unfold AtInsn; decide +kernel⟩
theorem wit_event_6_vmul : ∃ (t vd va sb : Nat) (r : Running) (s : State), AtInsn s t (insn 0x12 vd va 0 1 sb 0) (mOpc + mD + mA + mB + mC + mS) r :=
  ⟨0, 0, 0, 0, run0, (prog (insn 0x12 0 0 0 1 0 0) run0 []), by unfold AtInsn; decide +kernel⟩
theorem wit_event_7_vfma : ∃ (t vd va vb vc : Nat) (r : Running) (s : State), AtInsn s t (insn 0x13 vd va vb vc 0 0) (mOpc + mD + mA + mB + mC) r :=
  ⟨0, 0, 0, 0, 0, run0, (prog (insn 0x13 0 0 0 0 0 0) run0 []), by unfold AtInsn; decide +kernel⟩
theorem wit_event_8_vema : ∃ (t vd va vb sc : Nat) (r : Running) (s : State), AtInsn s t (insn 0x14 vd va vb 0 sc 0) (mOpc + mD + mA + mB + mS) r :=
  ⟨0, 0, 0, 0, 0, run0, (prog (insn 0x14 0 0 0 0 0 0) run0 []), by unfold AtInsn; decide +kernel⟩
theorem wit_event_9_vaxpby : ∃ (t vd va vb sa sb : Nat) (r : Running) (s : State), AtInsn s t (insn 0x15 vd va vb sb sa 0) (mOpc + mD + mA + mB + mC + mS) r :=
  ⟨0, 0, 0, 0, 0, 0, run0, (prog (insn 0x15 0 0 0 0 0 0) run0 []), by unfold AtInsn; decide +kernel⟩
theorem wit_event_10_vrsqa : ∃ (t vd va sa sb : Nat) (r : Running) (s : State), AtInsn s t (insn 0x16 vd va 0 sb sa 0) (mOpc + mD + mA + mC + mS) r :=
  ⟨0, 0, 0, 0, 0, run0, (prog (insn 0x16 0 0 0 0 0 0) run0 []), by unfold AtInsn; decide +kernel⟩
theorem wit_event_11_vzero : ∃ (t vd : Nat) (r : Running) (s : State), AtInsn s t (insn 0x20 vd 0 0 0 0 0) (mOpc + mD) r :=
  ⟨0, 0, run0, (prog (insn 0x20 0 0 0 0 0 0) run0 []), by unfold AtInsn; decide +kernel⟩
theorem wit_event_12_sli : ∃ (t sd imm : Nat) (r : Running) (s : State), AtInsn s t (insn 0x30 sd 0 0 0 0 imm) (mOpc + mD + mImm) r :=
  ⟨0, 0, 0, run0, (prog (insn 0x30 0 0 0 0 0 0) run0 []), by unfold AtInsn; decide +kernel⟩
theorem wit_event_13_saddi : ∃ (t sd sa imm : Nat) (r : Running) (s : State), AtInsn s t (insn 0x31 sd sa 0 0 0 imm) (mOpc + mD + mA + mImm) r :=
  ⟨0, 0, 0, 0, run0, (prog (insn 0x31 0 0 0 0 0 0) run0 []), by unfold AtInsn; decide +kernel⟩
theorem wit_event_14_sfmul : ∃ (t sd sa sb : Nat) (r : Running) (s : State), AtInsn s t (insn 0x32 sd sa sb 0 0 0) (mOpc + mD + mA + mB) r :=
  ⟨0, 0, 0, 0, run0, (prog (insn 0x32 0 0 0 0 0 0) run0 []), by unfold AtInsn; decide +kernel⟩
theorem wit_event_15_sfadd : ∃ (t sd sa sb : Nat) (r : Running) (s : State), AtInsn s t (insn 0x33 sd sa sb 0 0 0) (mOpc + mD + mA + mB) r :=
  ⟨0, 0, 0, 0, run0, (prog (insn 0x33 0 0 0 0 0 0) run0 []), by unfold AtInsn; decide +kernel⟩
theorem wit_event_16_sldu : ∃ (t sd off : Nat) (r : Running) (s : State), AtInsn s t (insn 0x34 sd 0 0 0 0 off) (mOpc + mD + mImm) r :=
  ⟨0, 0, 0, run0, (prog (insn 0x34 0 0 0 0 0 0) run0 []), by unfold AtInsn; decide +kernel⟩
theorem wit_event_17_vld : ∃ (t vd sa off : Nat) (r : Running) (s : State), AtInsn s t (insn 0x01 vd 0 0 0 sa off) (mOpc + mD + mS + mImm) r ∧ spadOk r (spadAddr s t sa off) 64 = true :=
  ⟨0, 0, 0, 0, run0, (prog (insn 0x01 0 0 0 0 0 0) run0 []), by unfold AtInsn; decide +kernel⟩
theorem wit_event_18_vst : ∃ (t vs sa off : Nat) (r : Running) (s : State), AtInsn s t (insn 0x02 0 vs 0 0 sa off) (mOpc + mA + mS + mImm) r ∧ spadOk r (spadAddr s t sa off) 64 = true :=
  ⟨0, 0, 0, 0, run0, (prog (insn 0x02 0 0 0 0 0 0) run0 []), by unfold AtInsn; decide +kernel⟩
theorem wit_event_19_vstc : ∃ (t vs sa off fmt : Nat) (r : Running) (s : State), AtInsn s t (insn 0x03 0 vs 0 fmt sa off) (mOpc + mA + mC + mS + mImm) r ∧ spadOk r (spadAddr s t sa off) ((lanesOf (vreg s t vs)).flatMap (weightBytes fmt)).length = true :=
  ⟨0, 0, 0, 0, 6, run0, (prog (insn 0x03 0 0 0 6 0 0) run0 []), by unfold AtInsn; decide +kernel⟩
theorem wit_event_20_dmard : ∃ (t sa sb len : Nat) (r : Running) (s : State), AtInsn s t (insn 0x40 sa sb 0 0 0 len) (mOpc + mD + mA + mImm) r ∧ dmaOk r (sreg s t sa) (sreg s t sb) len r.readLo r.readHi = true :=
  ⟨0, 0, 0, 0, run0, (prog (insn 0x40 0 0 0 0 0 0) run0 []), by unfold AtInsn; decide +kernel⟩
theorem wit_event_21_dmawr : ∃ (t sa sb len : Nat) (r : Running) (s : State), AtInsn s t (insn 0x41 sa sb 0 0 0 len) (mOpc + mD + mA + mImm) r ∧ dmaOk r (sreg s t sa) (sreg s t sb) len r.writeLo r.writeHi = true :=
  ⟨0, 0, 0, 0, run0, (prog (insn 0x41 0 0 0 0 0 0) run0 []), by unfold AtInsn; decide +kernel⟩
theorem wit_event_22_dmawait : ∃ (t : Nat) (r : Running) (s : State), AtInsn s t (insn 0x42 0 0 0 0 0 0) (mOpc) r :=
  ⟨0, run0, (prog (insn 0x42 0 0 0 0 0 0) run0 []), by unfold AtInsn; decide +kernel⟩
theorem wit_event_23_loop : ∃ (t sd off : Nat) (r : Running) (s : State), AtInsn s t (insn 0x50 sd 0 0 0 0 off) (mOpc + mD + mImm) r ∧ (sreg s t sd + 2 ^ 64 - 1) % 2 ^ 64 = 0 :=
  ⟨0, 0, 0, run0, (prog (insn 0x50 0 0 0 0 0 0) run0 [(0, 1)]), by unfold AtInsn; decide +kernel⟩
theorem wit_event_24_loop : ∃ (t sd off : Nat) (r : Running) (s : State), AtInsn s t (insn 0x50 sd 0 0 0 0 off) (mOpc + mD + mImm) r ∧ (sreg s t sd + 2 ^ 64 - 1) % 2 ^ 64 ≠ 0 ∧ slotBase r.pc + off ≤ r.pc :=
  ⟨0, 0, 0, run0, (prog (insn 0x50 0 0 0 0 0 0) run0 [(0, 2)]), by unfold AtInsn; decide +kernel⟩
theorem wit_event_25_endEntry : ∃ (t : Nat) (r : Running) (s : State), AtInsn s t (insn 0x51 0 0 0 0 0 0) (mOpc) r :=
  ⟨0, run0, (prog (insn 0x51 0 0 0 0 0 0) run0 []), by unfold AtInsn; decide +kernel⟩
theorem wit_event_26_combineEntry : ∃ (t : Nat) (e : TileEntry) (l : List TileEntry) (s : State), (tileOf s t).queue = e :: l ∧ (tileOf s t).st = .active ∧ (tileOf s t).run = none ∧ isCombine e = true :=
  ⟨0, .combine 0 0 0 0 0, [], (oneTile { tileDflt with st := .active, queue := [.combine 0 0 0 0 0] }), by decide +kernel⟩
theorem wit_event_27_finaliseEntry : ∃ (t : Nat) (e : TileEntry) (l : List TileEntry) (s : State), (tileOf s t).queue = e :: l ∧ (tileOf s t).st = .active ∧ (tileOf s t).run = none ∧ isFinalise e = true :=
  ⟨0, .finalise 0 0 0 0, [], (oneTile { tileDflt with st := .active, queue := [.finalise 0 0 0 0] }), by decide +kernel⟩
theorem wit_event_28_updateEntry : ∃ (t : Nat) (e : TileEntry) (l : List TileEntry) (s : State), (tileOf s t).queue = e :: l ∧ (tileOf s t).st = .active ∧ (tileOf s t).run = none ∧ updateReady s t e = true :=
  ⟨0, .update 0 0 0, [], (oneTile { tileDflt with st := .active, queue := [.update 0 0 0] }), by decide +kernel⟩
theorem wit_event_29_dmaComplete : ∃ (t n : Nat) (r : Running) (m : Dma) (s : State), (tileOf s t).run = some r ∧ r.dmas[n]? = some m :=
  ⟨0, 0, { run0 with dmas := [⟨0, 0, 0, false, 0, 0, 512⟩] }, ⟨0, 0, 0, false, 0, 0, 512⟩, (oneTile { tileDflt with st := .active, run := some { run0 with dmas := [⟨0, 0, 0, false, 0, 0, 512⟩] } }), by decide +kernel⟩
theorem wit_event_30_tileIdleGate : ∃ (t : Nat) (s : State), gateOk s t = true :=
  ⟨0, (oneTile { tileDflt with st := .active }), by decide +kernel⟩
theorem wit_event_31_tileLiftDone : ∃ (t : Nat) (s : State), (tileOf s t).st = .lifting ∧ (dieSt s (t / 32)).clockOn = true :=
  ⟨0, (oneTile { tileDflt with st := .lifting }), by decide +kernel⟩
theorem wit_event_32_tileReloadDone : ∃ (t : Nat) (s : State), (tileOf s t).st = .fault ∧ s.sys.keelLost = false :=
  ⟨0, (oneTile { tileDflt with st := .fault }), by decide +kernel⟩
theorem wit_event_33_tileSelftestDone : ∃ (tk : Nat) (failed : List Nat) (k : Ticket) (s : State), ticketOf s tk = some k ∧ runningTk s tk 0x0842 = true :=
  ⟨256, [], ⟨256, .running, 0x0842, 1, ⟨.host, 0⟩, ⟨.host, 0⟩, 0, 0, 0, 0, [], 0, [], [], [], 1, false, 0, false, false, true⟩, (oneTicket ⟨256, .running, 0x0842, 1, ⟨.host, 0⟩, ⟨.host, 0⟩, 0, 0, 0, 0, [], 0, [], [], [], 1, false, 0, false, false, true⟩), by decide +kernel⟩
theorem wit_event_34_frameArrival : ∃ (lp : Nat) (f : Frame) (par : Option Nat) (s : State), linkUp s lp = true ∧ lpLoc lp ≠ 31 ∧ lanesActive s lp = true ∧ lcrcOk f = true ∧ (linkOf (takeAck lp f.ack f.ackValid f.nak s) lp).st = .up ∧ f.seq = (linkOf (takeAck lp f.ack f.ackValid f.nak s) lp).rxNext :=
  ⟨0, { frm with lcrc := lcrcOf frm }, none, (upOn 0), by decide +kernel⟩
theorem wit_event_35_frameStored : ∃ (lp fid : Nat) (s : State), True :=
  ⟨0, 0, rdy, by decide +kernel⟩
theorem wit_event_36_egressGrant : ∃ (lp : Nat) (s : State), lpExists s lp = true :=
  ⟨0, rdy, by decide +kernel⟩
theorem wit_event_37_frameTransmit : ∃ (lp : Nat) (bad : Option (Nat × Bool)) (s : State), linkUp s lp = true ∧ lanesActive s lp = true :=
  ⟨0, none, (upOn 0), by decide +kernel⟩
theorem wit_event_38_poolRoomAvailable : ∃ (die cls : Nat) (s : State), dieFitted s die = true ∧ cls < 8 ∧ ((dieSt s die).waits.any fun w => w.frame.cls == cls) = true :=
  ⟨0, 0, (oneDie { dieDflt with waits := [⟨frm, none, 0, []⟩] }), by decide +kernel⟩
theorem wit_event_39_freeStoreAudit : ∃ (die cell : Nat) (s : State), dieFitted s die = true ∧ cell < cellTotal ∧ (dieSt s die).clockOn = true ∧ (mget cellDflt (dieSt s die).cells cell).used = false :=
  ⟨0, 0, rdy, by decide +kernel⟩
theorem wit_event_40_tableEntryRewrite : ∃ (die table entry : Nat) (s : State), s.sys.keelLost = false :=
  ⟨0, 0, 0, rdy, by decide +kernel⟩
theorem wit_event_41_dieClockStop : ∃ (die : Nat) (s : State), dieFitted s die = true ∧ mayStop s die = true :=
  ⟨0, { rdy with mem := { memReset with selfRefresh := [(0, 1), (1, 1), (2, 1), (3, 1)] } }, by decide +kernel⟩
theorem wit_event_42_dieClockLiftDone : ∃ (die : Nat) (s : State), dieFitted s die = true :=
  ⟨0, rdy, by decide +kernel⟩
theorem wit_event_43_sparSlotFill : ∃ (die : Nat) (s : State), dieUsable s die = true ∧ (dieSt s die).clockOn = true :=
  ⟨0, rdy, by decide +kernel⟩
theorem wit_event_44_sparCellLand : ∃ (die far : Nat) (k : SparCell) (l : List SparCell) (s : State), mget [] (dieSt s far).flight die = k :: l ∧ k.dstDie = die :=
  ⟨0, 1, ⟨1, 0, 0, 0, 0, 0, true, true, 0, 0, 0, 0, 0, 0⟩, [], { rdy with core := { coreReset with dies := [(1, { dieDflt with flight := [(0, [⟨1, 0, 0, 0, 0, 0, true, true, 0, 0, 0, 0, 0, 0⟩])] })] } }, by decide +kernel⟩
theorem wit_event_45_sparCellLand : ∃ (die far : Nat) (k : SparCell) (l : List SparCell) (s : State), mget [] (dieSt s far).flight die = k :: l ∧ k.dstDie ≠ die :=
  ⟨0, 1, ⟨1, 2, 0, 0, 0, 0, true, true, 0, 0, 0, 0, 0, 0⟩, [], { rdy with core := { coreReset with dies := [(1, { dieDflt with flight := [(0, [⟨1, 2, 0, 0, 0, 0, true, true, 0, 0, 0, 0, 0, 0⟩])] })] } }, by decide +kernel⟩
theorem wit_event_46_partialFrameTimeout : ∃ (lp fid : Nat) (x : TxEnt) (s : State), (unsentEnts (linkOf s lp)).find? (fun t => t.id == fid) = some x ∧ x.firstAt.isSome = true ∧ x.landed < x.total ∧ x.started = false :=
  ⟨0, 1, ⟨1, frm, [], 0, 0, 0, 0, false, 1, 2, some 0, false, false, false⟩, { rdy with net := { netReset with links := [(0, { linkDflt with st := .up, txq := [⟨1, frm, [], 0, 0, 0, 0, false, 1, 2, some 0, false, false, false⟩] })] } }, by decide +kernel⟩
theorem wit_event_47_sparRetrain : ∃ (die far : Nat) (s : State), (sparOf s die far).st = 2 ∧ dieUsable s die = true ∧ dieUsable s far = true ∧ sparHeld s die far = false :=
  ⟨0, 1, { rdy with core := { coreReset with spars := [(1, ⟨2, [], 0, 0, 0, 0⟩)] } }, by decide +kernel⟩
theorem wit_event_48_sparUp : ∃ (die far : Nat) (s : State), (sparOf s die far).st = 4 ∧ (sparOf s die far).fails = [] ∧ (sparOf s far die).fails = [] :=
  ⟨0, 1, { rdy with core := { coreReset with spars := [(1, ⟨4, [], 0, 0, 0, 0⟩)] } }, by decide +kernel⟩
theorem wit_event_49_congestionMapPeriod : ∃ (s : State), running s = true ∧ s.sys.keelLost = false :=
  ⟨rdy, by decide +kernel⟩
theorem wit_event_50_holdDrained : ∃ (tk : Nat) (s : State), s.core.holdTicket = some tk ∧ s.core.held = true ∧ scaleOutIdle s = true :=
  ⟨256, { rdy with core := { coreReset with held := true, holdTicket := some 256 } }, by decide +kernel⟩
theorem wit_event_51_commitDrained : ∃ (tk n : Nat) (s : State), s.core.commit = some (tk, n) ∧ scaleOutIdle s = true :=
  ⟨256, 0, { rdy with core := { coreReset with commit := some (256, 0) } }, by decide +kernel⟩
theorem wit_event_52_commitDrainTimeout : ∃ (tk n : Nat) (s : State), s.core.commit = some (tk, n) :=
  ⟨256, 0, { rdy with core := { coreReset with commit := some (256, 0) } }, by decide +kernel⟩
theorem wit_event_53_bindFenceAcked : ∃ (tk : Nat) (s : State), True :=
  ⟨256, rdy, by decide +kernel⟩
theorem wit_event_54_bindDrainEnd : ∃ (kind obj : Nat) (b : BindOp) (s : State), bindAt s kind obj 1 = some b ∧ drainedObj s kind obj = true :=
  ⟨1, 0, ⟨256, 1, 0, 1, none, true, [(0, 1)]⟩, { rdy with net := { netReset with binds := [⟨256, 1, 0, 1, none, true, [(0, 1)]⟩] } }, by decide +kernel⟩
theorem wit_event_55_drainForced : ∃ (lp : Nat) (s : State), draining s lp = true ∧ lpIdle s lp = false :=
  ⟨0, { rdy with net := { netReset with binds := [⟨256, 1, 0, 1, none, true, [(0, 1)]⟩] }, core := { coreReset with leaf := [(0, [ent frm])] } }, by decide +kernel⟩
theorem wit_event_56_bindScrubEnd : ∃ (kind obj : Nat) (b : BindOp) (s : State), bindAt s kind obj 2 = some b :=
  ⟨1, 0, ⟨256, 1, 0, 1, none, true, [(0, 2)]⟩, { rdy with net := { netReset with binds := [⟨256, 1, 0, 1, none, true, [(0, 2)]⟩] } }, by decide +kernel⟩
theorem wit_event_57_sliceDrainEnd : ∃ (n : Nat) (s : State), mhas s.net.drains n = true ∧ (sliceLps s n).all (lpIdle s) = true ∧ (begunOps s 0x0503) = [] ∧ sliceHeld (onNet (fun x => { x with drains := mdel x.drains n }) s) n = true ∧ begunOps (setSlice n 1 (onNet (fun x => { x with drains := mdel x.drains n }) s)) 0x0503 = [] :=
  ⟨1, { rdy with net := { netReset with drains := [(1, 0)] }, set := { setReset with binds := [(bindKey 1 0, ⟨1, 0, 1⟩)] } }, by decide +kernel⟩
theorem wit_event_58_scrubGranuleFill : ∃ (die granule : Nat) (s : State), dieUsable s die = true ∧ 65536 * granule < shardB :=
  ⟨0, 0, rdy, by decide +kernel⟩
theorem wit_event_59_lanePowerUpEnd : ∃ (lp : Nat) (s : State), lpHas s lp .powering = true :=
  ⟨0, { rdy with net := { netReset with lanes := (List.range 4).map fun i => (i, { laneOff with power := .powering }) } }, by decide +kernel⟩
theorem wit_event_60_lanePowerUpEnd : ∃ (lp : Nat) (s : State), lpHas s lp .powering = true :=
  ⟨0, { rdy with net := { netReset with lanes := (List.range 4).map fun i => (i, { laneOff with power := .powering }) } }, by decide +kernel⟩
theorem wit_event_61_laneRetry : ∃ (lp : Nat) (s : State), lpHas s lp .off = true ∧ portLive s (lpPort lp) = true ∧ (linkOf s lp).st ≠ .disabled :=
  ⟨0, { rdy with net := { netReset with bays := [(0, ⟨0, [], [], []⟩)], links := [(0, { linkDflt with st := .waitLanes })] }, set := { setReset with ports := [(0, { portDflt 0 with admin := true })] } }, by decide +kernel⟩
theorem wit_event_62_lossOfSignal : ∃ (lane : Nat) (s : State), (laneOf s lane).power = .active :=
  ⟨0, { rdy with net := { netReset with lanes := (List.range 4).map fun i => (i, { laneOff with power := .active }) } }, by decide +kernel⟩
theorem wit_event_63_lossOfLock : ∃ (lane : Nat) (s : State), (laneOf s lane).power = .active :=
  ⟨0, { rdy with net := { netReset with lanes := (List.range 4).map fun i => (i, { laneOff with power := .active }) } }, by decide +kernel⟩
theorem wit_event_64_refclkLoss : ∃ (die : Nat) (s : State), dieFitted s die = true ∧ mget 0 s.net.refclk die ≠ 2 :=
  ⟨0, rdy, by decide +kernel⟩
theorem wit_event_65_refclkLoss : ∃ (die : Nat) (s : State), dieFitted s die = true ∧ mget 0 s.net.refclk die ≠ 2 :=
  ⟨0, rdy, by decide +kernel⟩
theorem wit_event_66_liftComplete : ∃ (lp : Nat) (s : State), lpHas s lp .lifting = true :=
  ⟨0, { rdy with net := { netReset with lanes := (List.range 4).map fun i => (i, { laneOff with power := .lifting }) } }, by decide +kernel⟩
theorem wit_event_67_dozeIdleTimeout : ∃ (lp : Nat) (s : State), dozeOk s lp = true ∧ (linkOf s lp).dozeReq = false :=
  ⟨0, (upOn 0), by decide +kernel⟩
theorem wit_event_68_dozeBlockRx : ∃ (lp blk : Nat) (s : State), lpExists s lp = true ∧ lpLoc lp ≠ 31 ∧ blockOk blk = true ∧ blkType blk = 3 ∧ linkUp s lp = true :=
  ⟨0, block 3, (upOn 0), by decide +kernel⟩
theorem wit_event_69_linkCtlRx : ∃ (lp blk : Nat) (s : State), lpExists s lp = true ∧ lpLoc lp ≠ 31 ∧ blockOk blk = true ∧ blkType blk = 1 ∧ (linkOf s lp).st = .creditInit :=
  ⟨0, block 1, (linkIn 0 .creditInit), by decide +kernel⟩
theorem wit_event_70_trainRx : ∃ (lp blk : Nat) (s : State), lpExists s lp = true ∧ lpLoc lp ≠ 31 ∧ blockOk blk = true ∧ blkType blk = 2 :=
  ⟨0, block 2, rdy, by decide +kernel⟩
theorem wit_event_71_trainBlockDue : ∃ (lp : Nat) (s : State), lpExists s lp = true ∧ lpLoc lp ≠ 31 ∧ (linkOf s lp).st = .locking :=
  ⟨0, (linkIn 0 .locking), by decide +kernel⟩
theorem wit_event_72_trainBlockDue : ∃ (lp : Nat) (s : State), lpExists s lp = true ∧ lpLoc lp ≠ 31 ∧ (linkOf s lp).st = .creditInit :=
  ⟨0, (linkIn 0 .creditInit), by decide +kernel⟩
theorem wit_event_73_trainBlockDue : ∃ (lp : Nat) (s : State), lpExists s lp = true ∧ lpLoc lp ≠ 31 ∧ (linkOf s lp).st = .retrain :=
  ⟨0, (linkIn 0 .retrain), by decide +kernel⟩
theorem wit_event_74_creditReturnDue : ∃ (lp : Nat) (s : State), linkUp s lp = true :=
  ⟨0, (linkIn 0 .up), by decide +kernel⟩
theorem wit_event_75_replayTimeout : ∃ (lp : Nat) (s : State), linkUp s lp = true ∧ sentEnts (linkOf s lp) ≠ [] :=
  ⟨0, { rdy with net := { netReset with links := [(0, { linkDflt with st := .up, txq := [⟨1, frm, [], 0, 0, 0, 0, false, 1, 1, some 0, true, true, false⟩] })] } }, by decide +kernel⟩
theorem wit_event_76_lockingTimeout : ∃ (lp : Nat) (s : State), (linkOf s lp).st = .locking ∧ lpLoc lp ≠ 31 :=
  ⟨0, (linkIn 0 .locking), by decide +kernel⟩
theorem wit_event_77_exchangeTimeout : ∃ (lp : Nat) (s : State), (linkOf s lp).st = .exchange :=
  ⟨0, (linkIn 0 .exchange), by decide +kernel⟩
theorem wit_event_78_retrainEnd : ∃ (lp : Nat) (s : State), (linkOf s lp).st = .retrain :=
  ⟨0, (linkIn 0 .retrain), by decide +kernel⟩
theorem wit_event_79_miscabledRecheck : ∃ (lp : Nat) (s : State), (linkOf s lp).st = .miscabled :=
  ⟨0, (linkIn 0 .miscabled), by decide +kernel⟩
theorem wit_event_80_linkFlushTimeout : ∃ (lp : Nat) (s : State), (linkOf s lp).downAt.isSome = true ∧ linkUp s lp = false :=
  ⟨0, { rdy with net := { netReset with links := [(0, { linkDflt with downAt := some 0 })] } }, by decide +kernel⟩
theorem wit_event_81_tetherBlockRx : ∃ (lane : Nat) (blk : Option Nat) (s : State), lpLoc (laneLp s lane) ≠ 31 ∧ lane / 4 < 32 * s.id.n ∧ (laneOf s lane).power = .active :=
  ⟨0, none, { rdy with net := { netReset with lanes := (List.range 4).map fun i => (i, { laneOff with power := .active }) } }, by decide +kernel⟩
theorem wit_event_82_storageLinkLock : ∃ (port : Nat) (s : State), lpLoc (4 * port) = 31 ∧ portLoc port = 31 ∧ portFitted s port = true ∧ (linkOf s (4 * port)).st = .locking :=
  ⟨31, (linkIn 124 .locking), by decide +kernel⟩
theorem wit_event_83_optReadingUpdate : ∃ (engine : Nat) (rds : List OptRead) (s : State), s.id.optics = true ∧ dieUsable s (engine / 5) = true :=
  ⟨0, [], rdy, by decide +kernel⟩
theorem wit_event_84_inspectConnectorDone : ∃ (port : Nat) (rds : List OptRead) (x : Inspect) (s : State), (s.net.inspects.find? fun x => x.phase == 0 && x.todo.contains port) = some x ∧ tkRunning s x.ticket = true :=
  ⟨0, [], ⟨256, [0], none, 0, 0⟩, { (oneTicket ⟨256, .running, 0x0209, 1, ⟨.host, 0⟩, ⟨.host, 0⟩, 0, 0, 0, 0, [], 0, [], [], [], 1, false, 0, false, false, true⟩) with net := { netReset with inspects := [⟨256, [0], none, 0, 0⟩] } }, by decide +kernel⟩
theorem wit_event_85_cleanDurationEnd : ∃ (x : Inspect) (s : State), (s.net.inspects.find? fun x => x.phase == 1) = some x :=
  ⟨⟨256, [0], (some 0), 0, 1⟩, { (oneTicket ⟨256, .running, 0x020A, 1, ⟨.host, 0⟩, ⟨.host, 0⟩, 0, 0, 0, 0, [], 0, [], [], [], 1, false, 0, false, false, true⟩) with net := { netReset with inspects := [⟨256, [0], (some 0), 0, 1⟩] } }, by decide +kernel⟩
theorem wit_event_86_cleanWaitEnd : ∃ (x : Inspect) (d : Nat) (u : State) (s : State), (s.net.inspects.find? fun x => x.phase == 2) = some x ∧ x.die = some d ∧ u = forEach ((rowPorts d).filter (portIsolated s)) (fun p => setGrade p 0) s ∧ ((rowPorts d).filter fun p => !portIsolated u p) ≠ [] :=
  ⟨⟨256, [0], (some 0), 0, 2⟩, 0, forEach ((rowPorts 0).filter (portIsolated cleaning)) (fun p => setGrade p 0) cleaning, cleaning, by decide +kernel⟩
theorem wit_event_87_laneTestEnd : ∃ (tk : Nat) (counts : List (Nat × Nat × Bool)) (x : LaneTest) (s : State), (s.net.tests.find? fun x => x.ticket == tk) = some x ∧ runningTk s tk 0x0207 = true :=
  ⟨256, [], ⟨256, 0, 1, 0, 0⟩, { (oneTicket ⟨256, .running, 0x0207, 1, ⟨.host, 0⟩, ⟨.host, 0⟩, 0, 0, 0, 0, [], 0, [], [], [], 1, false, 0, false, false, true⟩) with net := { netReset with tests := [⟨256, 0, 1, 0, 0⟩] } }, by decide +kernel⟩
theorem wit_event_88_cartPoll : ∃ (bay : Nat) (b : List Byte) (s : State), keelOn s = true ∧ bay < 3 * s.id.n ∧ mhas s.net.rescans bay = false ∧ (bayOf s bay).cstatus = 1 :=
  ⟨0, [], rdy, by decide +kernel⟩
theorem wit_event_89_cartRecordReadDone : ∃ (bay : Nat) (raw : Option (List Byte)) (s : State), keelOn s = true ∧ mfind s.net.rescans bay = some 0 :=
  ⟨0, none, { rdy with net := { netReset with rescans := [(0, 0)] } }, by decide +kernel⟩
theorem wit_event_90_ethPacketRx : ∃ (port qp psn : Nat) (s : State), portLoc port = 31 ∧ portFitted s port = true ∧ (linkOf s (4 * port)).st = .up ∧ ethCells s port + pktCells (.ackRoce qp psn) ≤ 2048 :=
  ⟨31, 0, 0, (linkIn 124 .up), by decide +kernel⟩
theorem wit_event_91_roceAckTimeout : ∃ (qp : Nat) (x : QPair) (s : State), mfind s.net.qps qp = some x ∧ x.unacked ≠ [] ∧ x.retries < 7 :=
  ⟨0, ⟨0, 1, 0, [(0, [])], 6, 100, 0⟩, { rdy with net := { netReset with qps := [(0, ⟨0, 1, 0, [(0, [])], 6, 100, 0⟩)] } }, by decide +kernel⟩
theorem wit_event_92_roceAckTimeout : ∃ (qp : Nat) (x : QPair) (s : State), mfind s.net.qps qp = some x ∧ x.unacked ≠ [] ∧ 7 ≤ x.retries :=
  ⟨0, ⟨0, 1, 0, [(0, [])], 7, 100, 0⟩, { rdy with net := { netReset with qps := [(0, ⟨0, 1, 0, [(0, [])], 7, 100, 0⟩)] } }, by decide +kernel⟩
theorem wit_event_93_roceRateRestore : ∃ (qp : Nat) (s : State), mhas s.net.qps qp = true :=
  ⟨0, { rdy with net := { netReset with qps := [(0, ⟨0, 1, 0, [(0, [])], 0, 100, 0⟩)] } }, by decide +kernel⟩
theorem wit_event_94_nvmeKeepAlive : ∃ (tgt : Nat) (s : State), mhas s.set.targets tgt = true ∧ mget true s.snap.targetUp tgt = true ∧ mget false s.snap.kaWait tgt = false :=
  ⟨0, { rdy with set := { setReset with targets := [(0, ⟨[], 0, [], 0, 0, 0⟩)] } }, by decide +kernel⟩
theorem wit_event_95_targetReconnect : ∃ (tgt : Nat) (s : State), mhas s.set.targets tgt = true ∧ mget true s.snap.targetUp tgt = false :=
  ⟨0, { rdy with set := { setReset with targets := [(0, ⟨[], 0, [], 0, 0, 0⟩)] }, snap := { snapReset with targetUp := [(0, false)] } }, by decide +kernel⟩
theorem wit_event_96_gateTakeover : ∃ (lp : Nat) (g : GateList) (s : State), gatePendList s lp = some g ∧ g.startFt ≤ ftNs s ∧ g.ticket = none ∧ g.entries ≠ [] :=
  ⟨0, ⟨[(255, 32)], 0, none⟩, { rdy with set := { setReset with qos := { setReset.qos with gatePend := [(0, ⟨[(255, 32)], 0, none⟩)] } } }, by decide +kernel⟩
theorem wit_event_97_gateFreeRunStart : ∃ (s : State), s.core.gateWait = true ∧ running s = true ∧ s.set.timeRoot = false ∧ s.time.parent = none :=
  ⟨{ rdy with core := { coreReset with gateWait := true } }, by decide +kernel⟩
theorem wit_event_98_contribRx : ∃ (die : Nat) (e : QEnt) (l : List QEnt) (s : State), consQ s (64 * die + 2) = e :: l ∧ e.frame.typ = 6 ∧ xKind e.frame ≠ 2 :=
  ⟨0, ent { frm with typ := 6, ext := none }, [], { rdy with core := { coreReset with cons := [(2, [ent { frm with typ := 6, ext := none }])] } }, by decide +kernel⟩
theorem wit_event_99_resultRx : ∃ (die : Nat) (e : QEnt) (l : List QEnt) (s : State), consQ s (64 * die + 2) = e :: l ∧ e.frame.typ = 7 ∧ resultTooEarly s e.frame = false :=
  ⟨0, ent { frm with typ := 7, ext := none }, [], { rdy with core := { coreReset with cons := [(2, [ent { frm with typ := 7, ext := none }])] } }, by decide +kernel⟩
theorem wit_event_100_fallbackNoticeRx : ∃ (die : Nat) (e : QEnt) (l : List QEnt) (s : State), consQ s (64 * die + 2) = e :: l ∧ isNote 0 e.frame = true :=
  ⟨0, ent { frm with typ := 6, ext := (some (2 <<< 188 + 0 <<< 176)) }, [], { rdy with core := { coreReset with cons := [(2, [ent { frm with typ := 6, ext := (some (2 <<< 188 + 0 <<< 176)) }])] } }, by decide +kernel⟩
theorem wit_event_101_recomputeNoticeRx : ∃ (die : Nat) (e : QEnt) (l : List QEnt) (s : State), consQ s (64 * die + 2) = e :: l ∧ isNote 1 e.frame = true :=
  ⟨0, ent { frm with typ := 6, ext := (some (2 <<< 188 + 1 <<< 176)) }, [], { rdy with core := { coreReset with cons := [(2, [ent { frm with typ := 6, ext := (some (2 <<< 188 + 1 <<< 176)) }])] } }, by decide +kernel⟩
theorem wit_event_102_treeDoneRx : ∃ (die : Nat) (e : QEnt) (l : List QEnt) (s : State), consQ s (64 * die + 2) = e :: l ∧ isNote 2 e.frame = true :=
  ⟨0, ent { frm with typ := 6, ext := (some (2 <<< 188 + 2 <<< 176)) }, [], { rdy with core := { coreReset with cons := [(2, [ent { frm with typ := 6, ext := (some (2 <<< 188 + 2 <<< 176)) }])] } }, by decide +kernel⟩
theorem wit_event_103_claimRetry : ∃ (s : State), True :=
  ⟨rdy, by decide +kernel⟩
theorem wit_event_104_basketRelease : ∃ (g n k : Nat) (s : State), (chunkOf s g n k).basket.isSome = true ∧ basketSpent s g n k = true ∧ copiesOut s g n k = false :=
  ⟨0, 0, 0, { rdy with set := { setReset with groups := [(0, ⟨0, 0, 0, 1, 1, 1, 0, 0, 0, 1, 0, 0, 1, ⟨0, 0, 0, 0, 0, 0⟩, ⟨0, 0, 0, 0, 0, 0⟩, [(0, 0)]⟩)], binds := [(bindKey 4 0, ⟨1, 0, 1⟩)] }, tile := { tileReset with groups := [(0, ⟨2, 0, [(0, (0, ⟨1, 0, 0, 0, 1, 65536, 0, false, 0, 0, 0, 0, 0, [], [(0, { chunkDflt with basket := some (.hbm 0 0), finished := true })], 0, [], [], false, []⟩))], [], ⟨false, false, false, 0, 0, 0, 0, 0, 0, 0, 0⟩, 0, 0, 0, 0, 0, 0, 0, 0⟩)] } }, by decide +kernel⟩
theorem wit_event_105_fallbackTimeout : ∃ (g n k : Nat) (q : Sequence) (s : State), seqOf s g n = some q ∧ q.dstate = 1 ∧ q.op ≠ 6 ∧ schedGroup s g = false ∧ (chunkIn q k).basket = none ∧ (chunkIn q k).waitSince.isSome = true :=
  ⟨0, 0, 0, ⟨1, 0, 0, 0, 1, 65536, 0, false, 0, 0, 0, 0, 0, [], [(0, { chunkDflt with waitSince := some 0 })], 0, [], [], false, []⟩, { rdy with set := { setReset with groups := [(0, ⟨0, 0, 0, 1, 1, 1, 0, 0, 0, 1, 0, 0, 1, ⟨0, 0, 0, 0, 0, 0⟩, ⟨0, 0, 0, 0, 0, 0⟩, [(0, 0)]⟩)], binds := [(bindKey 4 0, ⟨1, 0, 1⟩)] }, tile := { tileReset with groups := [(0, ⟨2, 0, [(0, (0, ⟨1, 0, 0, 0, 1, 65536, 0, false, 0, 0, 0, 0, 0, [], [(0, { chunkDflt with waitSince := some 0 })], 0, [], [], false, []⟩))], [], ⟨false, false, false, 0, 0, 0, 0, 0, 0, 0, 0⟩, 0, 0, 0, 0, 0, 0, 0, 0⟩)] } }, by decide +kernel⟩
theorem wit_event_106_groupWatchdog : ∃ (g n : Nat) (q : Sequence) (s : State), seqOf s g n = some q ∧ q.dstate = 1 ∧ q.flags.testBit 1 = false ∧ s.sys.keelLost = false :=
  ⟨0, 0, ⟨1, 0, 0, 0, 1, 65536, 0, false, 0, 0, 0, 0, 0, [], [(0, chunkDflt)], 0, [], [], false, []⟩, { rdy with set := { setReset with groups := [(0, ⟨0, 0, 0, 1, 1, 1, 0, 0, 0, 1, 0, 0, 1, ⟨0, 0, 0, 0, 0, 0⟩, ⟨0, 0, 0, 0, 0, 0⟩, [(0, 0)]⟩)], binds := [(bindKey 4 0, ⟨1, 0, 1⟩)] }, tile := { tileReset with groups := [(0, ⟨2, 0, [(0, (0, ⟨1, 0, 0, 0, 1, 65536, 0, false, 0, 0, 0, 0, 0, [], [(0, chunkDflt)], 0, [], [], false, []⟩))], [], ⟨false, false, false, 0, 0, 0, 0, 0, 0, 0, 0⟩, 0, 0, 0, 0, 0, 0, 0, 0⟩)] } }, by decide +kernel⟩
theorem wit_event_107_groupDisableDone : ∃ (g : Nat) (s : State), groupSt s g = 3 ∧ groupIdle s g = true ∧ disableTicket s g = none :=
  ⟨0, { rdy with set := { setReset with groups := [(0, ⟨0, 0, 0, 1, 1, 1, 0, 0, 0, 1, 0, 0, 1, ⟨0, 0, 0, 0, 0, 0⟩, ⟨0, 0, 0, 0, 0, 0⟩, [(0, 0)]⟩)], binds := [(bindKey 4 0, ⟨1, 0, 1⟩)] }, tile := { tileReset with groups := [(0, ⟨3, 0, [], [], ⟨false, false, false, 0, 0, 0, 0, 0, 0, 0, 0⟩, 0, 0, 0, 0, 0, 0, 0, 0⟩)] } }, by decide +kernel⟩
theorem wit_event_108_updraftMemberRx : ∃ (die : Nat) (e : QEnt) (l : List QEnt) (s : State), consQ s (64 * die + 3) = e :: l ∧ updHeld s die (xGroup e.frame) = false ∧ xKind e.frame = 0 :=
  ⟨0, ent { frm with typ := 6, ext := none }, [], { rdy with core := { coreReset with cons := [(3, [ent { frm with typ := 6, ext := none }])] } }, by decide +kernel⟩
theorem wit_event_109_sweepRx : ∃ (die : Nat) (e : QEnt) (l : List QEnt) (s : State), consQ s (64 * die + 3) = e :: l ∧ updHeld s die (xGroup e.frame) = false ∧ (xKind e.frame = 1 ∨ xKind e.frame = 2) :=
  ⟨0, ent { frm with typ := 6, ext := (some (1 <<< 188 + 0 <<< 176)) }, [], { rdy with core := { coreReset with cons := [(3, [ent { frm with typ := 6, ext := (some (1 <<< 188 + 0 <<< 176)) }])] } }, by decide +kernel⟩
theorem wit_event_110_updraftDoneNoticeRx : ∃ (die : Nat) (e : QEnt) (l : List QEnt) (s : State), consQ s (64 * die + 3) = e :: l ∧ updHeld s die (xGroup e.frame) = false ∧ isUpdNote 0 e.frame = true :=
  ⟨0, ent { frm with typ := 6, ext := (some (3 <<< 188 + 0 <<< 176)) }, [], { rdy with core := { coreReset with cons := [(3, [ent { frm with typ := 6, ext := (some (3 <<< 188 + 0 <<< 176)) }])] } }, by decide +kernel⟩
theorem wit_event_111_refillRx : ∃ (die : Nat) (e : QEnt) (l : List QEnt) (s : State), consQ s (64 * die + 3) = e :: l ∧ updHeld s die (xGroup e.frame) = false ∧ isUpdNote 1 e.frame = true :=
  ⟨0, ent { frm with typ := 6, ext := (some (3 <<< 188 + 1 <<< 176)) }, [], { rdy with core := { coreReset with cons := [(3, [ent { frm with typ := 6, ext := (some (3 <<< 188 + 1 <<< 176)) }])] } }, by decide +kernel⟩
theorem wit_event_112_interruptedNoticeRx : ∃ (die : Nat) (e : QEnt) (l : List QEnt) (s : State), consQ s (64 * die + 3) = e :: l ∧ updHeld s die (xGroup e.frame) = false ∧ xKind e.frame = 3 ∧ 2 ≤ xNote e.frame :=
  ⟨0, ent { frm with typ := 6, ext := (some (3 <<< 188 + 2 <<< 176)) }, [], { rdy with core := { coreReset with cons := [(3, [ent { frm with typ := 6, ext := (some (3 <<< 188 + 2 <<< 176)) }])] } }, by decide +kernel⟩
theorem wit_event_113_updraftResend : ∃ (die : Nat) (x : Nat × Nat × Frame) (s : State), s.tile.resend.find? (fun x => x.1 == die) = some x ∧ ((List.range 4).find? fun dr => ((updCfg s (xGroup x.2.2)).nbrs.getD dr (0, 0)).1 >>> 8 == x.2.2.dest >>> 8) = none :=
  ⟨0, (0, 0, { frm with dest := 0x100 }), { rdy with tile := { tileReset with resend := [(0, 0, { frm with dest := 0x100 })] } }, by decide +kernel⟩
theorem wit_event_114_windowRead : ∃ (die key : Nat) (e : QEnt) (l : List QEnt) (s : State), consQ s (64 * die + key) = e :: l ∧ key < 64 ∧ key ≠ 3 ∧ key ≠ 4 ∧ mustWait s die e = false ∧ tileAsleep s e.frame = false ∧ e.frame.typ = 1 ∧ isFence e.frame = false :=
  ⟨0, 0, ent { frm with typ := 1, ext := none }, [], { rdy with core := { coreReset with cons := [(0, [ent { frm with typ := 1, ext := none }])] } }, by decide +kernel⟩
theorem wit_event_115_windowWrite : ∃ (die key : Nat) (e : QEnt) (l : List QEnt) (s : State), consQ s (64 * die + key) = e :: l ∧ key < 64 ∧ key ≠ 3 ∧ key ≠ 4 ∧ mustWait s die e = false ∧ tileAsleep s e.frame = false ∧ e.frame.typ = 2 :=
  ⟨0, 0, ent { frm with typ := 2, ext := none }, [], { rdy with core := { coreReset with cons := [(0, [ent { frm with typ := 2, ext := none }])] } }, by decide +kernel⟩
theorem wit_event_116_fence : ∃ (die : Nat) (e : QEnt) (l : List QEnt) (s : State), consQ s (64 * die) = e :: l ∧ mustWait s die e = false ∧ tileAsleep s e.frame = false ∧ isFence e.frame = true :=
  ⟨0, ent { frm with typ := 1, cls := 4, dest := 0xF0, ext := some (1 <<< 195 + 3 <<< 193 + 1 <<< 192 + 1 <<< 191) }, [], { rdy with core := { coreReset with cons := [(0, [ent { frm with typ := 1, cls := 4, dest := 0xF0, ext := some (1 <<< 195 + 3 <<< 193 + 1 <<< 192 + 1 <<< 191) }])] } }, by decide +kernel⟩
theorem wit_event_117_streamMarkExpire : ∃ (die src dest cls : Nat) (s : State), True :=
  ⟨0, 0, 0, 0, rdy, by decide +kernel⟩
theorem wit_event_118_cxlMemRead : ∃ (addr len tag a fil : Nat) (s : State), cxlMemUp s = true ∧ running s = true ∧ s.sys.keelLost = false ∧ decodeHost s addr = some (a, fil) ∧ hostVerdict s a len fil false = 1 ∧ (!marked (wakeStack a s) a && hbmBad (wakeStack a s) a len) = false :=
  ⟨0, 64, 0, 0, 0xFFFF, { rdy with host := { hostReset with l0 := true, mode := 1, dec := [(0, ⟨0, gib, 0, 0, true, false⟩)] }, set := { setReset with filter0 := 0xFFFF } }, by decide +kernel⟩
theorem wit_event_119_cxlMemWrite : ∃ (addr tag a fil : Nat) (bytes : List Byte) (s : State), cxlMemUp s = true ∧ running s = true ∧ s.sys.keelLost = false ∧ decodeHost s addr = some (a, fil) ∧ hostVerdict s a bytes.length fil true = 1 ∧ (!marked (wakeStack a s) a && mergesBad (wakeStack a s) a bytes.length) = false :=
  ⟨0, 0, 0, 0xFFFF, [1], { rdy with host := { hostReset with l0 := true, mode := 1, dec := [(0, ⟨0, gib, 0, 0, true, false⟩)] }, set := { setReset with filter0 := 0xFFFF } }, by decide +kernel⟩
theorem wit_event_120_syncDue : ∃ (lp : Nat) (s : State), timeParentOn s lp = true :=
  ⟨0, (linkIn 0 .up), by decide +kernel⟩
theorem wit_event_121_syncRx : ∃ (lp xseq ts steps : Nat) (s : State), linkUp s lp = true ∧ isScaleOut (lpLoc lp) = true ∧ (chooseParent (onTime (fun t => { t with farSteps := mput t.farSteps lp (min 31 steps) }) s)).time.parent = some lp :=
  ⟨72, 0, 0, 0, { (linkIn 72 .up) with time := { timeReset with farSteps := [(72, 0)] } }, by decide +kernel⟩
theorem wit_event_122_delayReqRx : ∃ (lp xseq ts : Nat) (s : State), timeParentOn s lp = true :=
  ⟨0, 0, 0, (linkIn 0 .up), by decide +kernel⟩
theorem wit_event_123_delayRespRx : ∃ (lp xseq ts t1 t2 t3 : Nat) (s : State), s.time.exch = some (xseq, t1, t2, t3) ∧ s.time.parent = some lp :=
  ⟨0, 1, 0, 0, 0, 0, { rdy with time := { timeReset with exch := some (1, 0, 0, 0), parent := some 0 } }, by decide +kernel⟩
theorem wit_event_124_armedRx : ∃ (lp tag count : Nat) (s : State), timeParentOn s lp = true ∧ isScaleOut (lpLoc lp) = true ∧ armedSum (onSched (fun x => { x with armed := (tag, lp, count) :: x.armed.filter fun e => (e.1 == tag && e.2.1 != lp) || (((armedTags s).filter (· != tag)).take 15).contains e.1 }) s) tag ≠ armedSum s tag :=
  ⟨72, 0, 1, { (linkIn 72 .up) with time := { timeReset with farSteps := [(72, 31)], steps := 0 } }, by decide +kernel⟩
theorem wit_event_125_launchRx : ∃ (lp tag time : Nat) (s : State), linkUp s lp = true ∧ s.sched.fwdLaunch.contains tag = true ∧ schedEnabled s = true ∧ s.sched.st = .armed ∧ schedTag s = tag ∧ hdrModules (enabledImg s) ≠ 0 ∧ ftTs s < time :=
  ⟨0, 0, 1, { (linkIn 0 .up) with sched := { schedReset with slot := some 0, st := .armed, images := [(0, (imgOf 1 0 7 0))], fwdLaunch := [0] } }, by decide +kernel⟩
theorem wit_event_126_haltRx : ∃ (lp tag cause : Nat) (s : State), linkUp s lp = true ∧ haltable (forwardHalt tag cause (some lp) s) = true ∧ schedTag (forwardHalt tag cause (some lp) s) = tag :=
  ⟨0, 0, 1, { (linkIn 0 .up) with sched := { schedReset with slot := some 0, st := .armed, images := [(0, powerImg)] } }, by decide +kernel⟩
theorem wit_event_127_exchangeMissing : ∃ (s : State), s.time.st = .aligned ∧ s.set.timeRoot = false :=
  ⟨{ rdy with time := { timeReset with st := .aligned } }, by decide +kernel⟩
theorem wit_event_128_holdoverTimeout : ∃ (s : State), s.time.st = .holdover :=
  ⟨{ rdy with time := { timeReset with st := .holdover } }, by decide +kernel⟩
theorem wit_event_129_syncPpsEdge : ∃ (s : State), keelOn s = true ∧ s.set.timeRoot = true ∧ s.set.timePps = true :=
  ⟨{ rdy with set := { setReset with timeRoot := true, timePps := true } }, by decide +kernel⟩
theorem wit_event_130_schedArmed : ∃ (tk : Nat) (s : State), schedEnabled s = true ∧ s.sched.st = .loaded ∧ unitsUp s = true ∧ s.sched.ticket = some tk ∧ hdrModules (enabledImg s) = 0 :=
  ⟨256, { rdy with sched := { schedReset with slot := some 0, st := .loaded, images := [(0, powerImg)], ticket := some 256 } }, by decide +kernel⟩
theorem wit_event_131_schedLaunchTime : ∃ (s : State), schedEnabled s = true ∧ s.sched.st = .armed ∧ (launchTime s).any (fun t => t ≤ ftTs s) = true :=
  ⟨{ rdy with sched := { schedReset with slot := some 0, st := .armed, images := [(0, powerImg)] } }, by decide +kernel⟩
theorem wit_event_132_schedSparEntry : ∃ (n : Nat) (e : SEntry) (s : State), schedEnabled s = true ∧ s.sched.st = .running ∧ s.sched.next = n ∧ (enabledEntries s)[n]? = some e ∧ e.kind = 1 ∧ (openWin 1 (eb e 95 93) (eb e 92 90) (eb e 89 89) (eb e 88 73) s).sched.st = .running :=
  ⟨0, ⟨1, 0, 1 <<< 90⟩, { rdy with sched := { schedReset with slot := some 0, st := .running, images := [(0, (imgOf 0 0 1 (1 <<< 90)))] } }, by decide +kernel⟩
theorem wit_event_133_schedEgressEntry : ∃ (n : Nat) (e : SEntry) (s : State), schedEnabled s = true ∧ s.sched.st = .running ∧ s.sched.next = n ∧ (enabledEntries s)[n]? = some e ∧ e.kind = 2 ∧ (openWin 2 (eb e 95 86) (eb e 85 79) (eb e 78 78) (eb e 77 62) s).sched.st = .running :=
  ⟨0, ⟨2, 0, 0⟩, { rdy with sched := { schedReset with slot := some 0, st := .running, images := [(0, (imgOf 0 0 2 (0)))] } }, by decide +kernel⟩
theorem wit_event_134_schedClaimEntry : ∃ (n : Nat) (e : SEntry) (s : State), schedEnabled s = true ∧ s.sched.st = .running ∧ s.sched.next = n ∧ (enabledEntries s)[n]? = some e ∧ e.kind = 3 ∧ (schedClaim e s).sched.st = .running :=
  ⟨0, ⟨3, 0, 0⟩, { rdy with sched := { schedReset with slot := some 0, st := .running, images := [(0, (imgOf 0 0 3 (0)))] } }, by decide +kernel⟩
theorem wit_event_135_schedIssueEntry : ∃ (n : Nat) (e : SEntry) (s : State), schedEnabled s = true ∧ s.sched.st = .running ∧ s.sched.next = n ∧ (enabledEntries s)[n]? = some e ∧ e.kind = 4 ∧ (schedIssue n e s).sched.st = .running :=
  ⟨0, ⟨4, 0, 0⟩, { rdy with sched := { schedReset with slot := some 0, st := .running, images := [(0, (imgOf 0 0 4 (0)))] } }, by decide +kernel⟩
theorem wit_event_136_schedDueEntry : ∃ (n : Nat) (e : SEntry) (s : State), schedEnabled s = true ∧ s.sched.st = .running ∧ s.sched.next = n ∧ (enabledEntries s)[n]? = some e ∧ e.kind = 5 ∧ dueMet s (eb e 95 80) (iterSeq s (eb e 95 80)) (eb e 79 64) (eb e 63 40) = true :=
  ⟨0, ⟨5, 0, 0⟩, { ({ rdy with sched := { schedReset with slot := some 0, st := .running, images := [(0, (imgOf 0 0 5 0))], iter := 0 } }) with set := { setReset with groups := [(0, ⟨0, 0, 0, 1, 1, 1, 0, 0, 0, 1, 0, 0, 1, ⟨0, 0, 0, 0, 0, 0⟩, ⟨0, 0, 0, 0, 0, 0⟩, [(0, 0)]⟩)], enabled := [(0, 1)], binds := [(bindKey 4 0, ⟨1, 0, 1⟩)] }, tile := { tileReset with groups := [(0, ⟨2, 0, [(0, (0, ⟨1, 0, 0, 0, 1, 65536, 0, false, 0, 0, 0, 0, 0, [], [(0, { chunkDflt with finished := true })], 0, [], [], false, []⟩))], [], ⟨false, false, false, 0, 0, 0, 0, 0, 0, 0, 0⟩, 0, 0, 0, 0, 0, 0, 0, 0⟩)] } }, by decide +kernel⟩
theorem wit_event_137_schedRefreshEntry : ∃ (n : Nat) (e : SEntry) (s : State), schedEnabled s = true ∧ s.sched.st = .running ∧ s.sched.next = n ∧ (enabledEntries s)[n]? = some e ∧ e.kind = 6 ∧ (openWin 6 (4 * eb e 95 93 + eb e 92 91) 0 0 (eb e 90 75) s).sched.st = .running :=
  ⟨0, ⟨6, 0, 0⟩, { rdy with sched := { schedReset with slot := some 0, st := .running, images := [(0, (imgOf 0 0 6 (0)))] } }, by decide +kernel⟩
theorem wit_event_138_schedPowerEntry : ∃ (n : Nat) (e : SEntry) (s : State), schedEnabled s = true ∧ s.sched.st = .running ∧ s.sched.next = n ∧ (enabledEntries s)[n]? = some e ∧ e.kind = 7 :=
  ⟨0, ⟨7, 0, 0⟩, { rdy with sched := { schedReset with slot := some 0, st := .running, images := [(0, (imgOf 0 0 7 (0)))] } }, by decide +kernel⟩
theorem wit_event_139_schedLiftEntry : ∃ (n : Nat) (e : SEntry) (s : State), schedEnabled s = true ∧ s.sched.st = .running ∧ s.sched.next = n ∧ (enabledEntries s)[n]? = some e ∧ e.kind = 8 ∧ eb e 92 92 = 0 ∧ (liftTile (32 * eb e 95 93 + eb e 91 87) s).sched.st = .running :=
  ⟨0, ⟨8, 0, 0⟩, { rdy with sched := { schedReset with slot := some 0, st := .running, images := [(0, (imgOf 0 0 8 (0)))] } }, by decide +kernel⟩
theorem wit_event_140_schedGateEntry : ∃ (n : Nat) (e : SEntry) (s : State), schedEnabled s = true ∧ s.sched.st = .running ∧ s.sched.next = n ∧ (enabledEntries s)[n]? = some e ∧ e.kind = 9 ∧ (schedGate e s).sched.st = .running :=
  ⟨0, ⟨9, 0, 0⟩, { rdy with sched := { schedReset with slot := some 0, st := .running, images := [(0, (imgOf 0 0 9 (0)))] } }, by decide +kernel⟩
theorem wit_event_141_schedUpdEntry : ∃ (n : Nat) (e : SEntry) (s : State), schedEnabled s = true ∧ s.sched.st = .running ∧ s.sched.next = n ∧ (enabledEntries s)[n]? = some e ∧ e.kind = 10 ∧ (openWin 10 (eb e 79 77) (eb e 95 80) 0 (eb e 76 61) s).sched.st = .running :=
  ⟨0, ⟨10, 0, 0⟩, { rdy with sched := { schedReset with slot := some 0, st := .running, images := [(0, (imgOf 0 0 10 (0)))] } }, by decide +kernel⟩
theorem wit_event_142_schedFlagEntry : ∃ (n : Nat) (e : SEntry) (s : State), schedEnabled s = true ∧ s.sched.st = .running ∧ s.sched.next = n ∧ (enabledEntries s)[n]? = some e ∧ e.kind = 11 :=
  ⟨0, ⟨11, 0, 0⟩, { rdy with sched := { schedReset with slot := some 0, st := .running, images := [(0, (imgOf 0 0 11 (0)))] } }, by decide +kernel⟩
theorem wit_event_143_schedPeriodEnd : ∃ (s : State), schedEnabled s = true ∧ s.sched.st = .running ∧ s.sched.next = hdrEntries (enabledImg s) ∧ s.sched.stopAtEnd = false ∧ (hdrIters (enabledImg s) = 0 ∨ s.sched.iter ≠ hdrIters (enabledImg s)) :=
  ⟨{ rdy with sched := { schedReset with slot := some 0, st := .running, images := [(0, powerImg)], next := 1 } }, by decide +kernel⟩
theorem wit_event_144_schedPeriodEnd : ∃ (s : State), schedEnabled s = true ∧ s.sched.st = .running ∧ s.sched.next = hdrEntries (enabledImg s) ∧ s.sched.stopAtEnd = true :=
  ⟨{ rdy with sched := { schedReset with slot := some 0, st := .running, images := [(0, powerImg)], next := 1, stopAtEnd := true } }, by decide +kernel⟩
theorem wit_event_145_sealTakeEffect : ∃ (side k : Nat) (host auto : Bool) (s : State), (sideOf s side).pending = some (k, host, auto) ∧ side < 2 ∧ writesWait s side = false ∧ sealDropped side k host s = false :=
  ⟨0, 0, true, false, { rdy with snap := { snapReset with sideA := { sideReset with pending := some (0, true, false) } } }, by decide +kernel⟩
theorem wit_event_146_moverPiece : ∃ (tier die : Nat) (bad : Bool) (d : Drain) (s : State), s.sys.keelLost = false ∧ (s.snap.drains.find? fun d => d.tier == tier && !d.suspended && d.phase == 0 &&
      (4096 * d.cursors.getD die 0 < extentOf d.header die || dataMoved d)) = some d :=
  ⟨2, 0, false, ⟨0, 2, 0, 1, headerFor rdy 0 1 0 0 true false, List.replicate 8 0, 0, 0, none, false, false⟩, { rdy with snap := { snapReset with drains := [⟨0, 2, 0, 1, headerFor rdy 0 1 0 0 true false, List.replicate 8 0, 0, 0, none, false, false⟩] } }, by decide +kernel⟩
theorem wit_event_147_snapDataRx : ∃ (die : Nat) (e : QEnt) (l : List QEnt) (a : Nat) (s : State), consQ s (64 * die + 4) = e :: l ∧ xSkind e.frame = 0 ∧ fromTwin (dropEnt e (onCons (64 * die + 4) (fun _ => l) s)) e = true ∧ (dropEnt e (onCons (64 * die + 4) (fun _ => l) s)).gemel.holdsRole = false ∧ twinAddr (dropEnt e (onCons (64 * die + 4) (fun _ => l) s)) (xSlot e.frame) (xAddr e.frame) = some a ∧ twinAddr (dropEnt e (onCons (64 * die + 4) (fun _ => l) s)) (xSlot e.frame) (xAddr e.frame + e.frame.payload.length - 1) = some (a + e.frame.payload.length - 1) ∧ 0 < e.frame.payload.length :=
  ⟨0, { ent { frm with src := 0x100, payload := [1], ext := some (0 <<< 188 + 0) } with inL := some 120 }, [], 2 * gib, { rdy with core := { coreReset with cons := [(4, [{ ent { frm with src := 0x100, payload := [1], ext := some (0 <<< 188 + 0) } with inL := some 120 }])] }, set := { setReset with plan := ⟨1, 1, 0, 0, 0, 25⟩ }, gemel := { gemelReset with mirCoord := 0x100, st := .paired } }, by decide +kernel⟩
theorem wit_event_148_snapHeaderRx : ∃ (die : Nat) (e : QEnt) (l : List QEnt) (s : State), consQ s (64 * die + 4) = e :: l ∧ xSkind e.frame = 1 ∧ fromTwin (dropEnt e (onCons (64 * die + 4) (fun _ => l) s)) e = true ∧ (dropEnt e (onCons (64 * die + 4) (fun _ => l) s)).set.plan.twin = 1 ∧ (dropEnt e (onCons (64 * die + 4) (fun _ => l) s)).gemel.holdsRole = false ∧ (mget [] (slotWritten (xSlot e.frame) (xSnapId e.frame) (dropEnt e (onCons (64 * die + 4) (fun _ => l) s))).snap.hdrRx (xSlot e.frame) ++ e.frame.payload).length <
      headerLen (mget [] (slotWritten (xSlot e.frame) (xSnapId e.frame) (dropEnt e (onCons (64 * die + 4) (fun _ => l) s))).snap.hdrRx (xSlot e.frame) ++ e.frame.payload) :=
  ⟨0, { ent { frm with src := 0x100, payload := List.replicate 8 0, ext := some (1 <<< 188 + 0) } with inL := some 120 }, [], { rdy with core := { coreReset with cons := [(4, [{ ent { frm with src := 0x100, payload := List.replicate 8 0, ext := some (1 <<< 188 + 0) } with inL := some 120 }])] }, set := { setReset with plan := ⟨1, 1, 0, 0, 0, 25⟩ }, gemel := { gemelReset with mirCoord := 0x100, st := .paired } }, by decide +kernel⟩
theorem wit_event_149_snapAckRx : ∃ (die : Nat) (e : QEnt) (l : List QEnt) (d : Drain) (s : State), consQ s (64 * die + 4) = e :: l ∧ xSkind e.frame = 2 ∧ fromTwin (dropEnt e (onCons (64 * die + 4) (fun _ => l) s)) e = true ∧ ((dropEnt e (onCons (64 * die + 4) (fun _ => l) s)).snap.drains.find? fun d => d.tier == 1 && d.snapId == xSnapId e.frame && d.phase == 3) = some d :=
  ⟨0, { ent { frm with src := 0x100, payload := [], ext := some (2 <<< 188 + 1 <<< 192) } with inL := some 120 }, [], ⟨0, 1, 0, 1, headerFor rdy 0 1 0 0 true false, List.replicate 8 0, 0, 3, none, false, false⟩, { rdy with core := { coreReset with cons := [(4, [{ ent { frm with src := 0x100, payload := [], ext := some (2 <<< 188 + 1 <<< 192) } with inL := some 120 }])] }, set := { setReset with plan := ⟨1, 1, 0, 0, 0, 25⟩ }, gemel := { gemelReset with mirCoord := 0x100, st := .paired }, snap := { snapReset with drains := [⟨0, 1, 0, 1, headerFor rdy 0 1 0 0 true false, List.replicate 8 0, 0, 3, none, false, false⟩] } }, by decide +kernel⟩
theorem wit_event_150_pageReqRx : ∃ (die : Nat) (e : QEnt) (l : List QEnt) (a : Nat) (s : State), consQ s (64 * die + 4) = e :: l ∧ xSkind e.frame = 3 ∧ fromTwin (dropEnt e (onCons (64 * die + 4) (fun _ => l) s)) e = true ∧ twinAddr (dropEnt e (onCons (64 * die + 4) (fun _ => l) s)) (xSlot e.frame) (xAddr e.frame) = some a ∧ ((mfind (dropEnt e (onCons (64 * die + 4) (fun _ => l) s)).snap.twinSlots (xSlot e.frame)).any fun c => c.snapId == xSnapId e.frame && c.st == 0) = true ∧ hbmBad (dropEnt e (onCons (64 * die + 4) (fun _ => l) s)) a 4096 = false :=
  ⟨0, { ent { frm with src := 0x100, payload := [], ext := some (3 <<< 188 + 1 <<< 192) } with inL := some 120 }, [], 2 * gib, { rdy with core := { coreReset with cons := [(4, [{ ent { frm with src := 0x100, payload := [], ext := some (3 <<< 188 + 1 <<< 192) } with inL := some 120 }])] }, set := { setReset with plan := ⟨1, 1, 0, 0, 0, 25⟩ }, gemel := { gemelReset with mirCoord := 0x100, st := .paired }, snap := { snapReset with twinSlots := [(0, ⟨1, 0, 0, 0, 0, 0, []⟩)] } }, by decide +kernel⟩
theorem wit_event_151_pageDataRx : ∃ (die : Nat) (e : QEnt) (l : List QEnt) (p : PageRestore) (s : State), consQ s (64 * die + 4) = e :: l ∧ xSkind e.frame = 4 ∧ fromTwin (dropEnt e (onCons (64 * die + 4) (fun _ => l) s)) e = true ∧ pageAsked (dropEnt e (onCons (64 * die + 4) (fun _ => l) s)) 1 (xAddr e.frame) = some p ∧ (sideOf (dropEnt e (onCons (64 * die + 4) (fun _ => l) s)) p.side).snapId = xSnapId e.frame :=
  ⟨0, { ent { frm with src := 0x100, payload := [], ext := some (4 <<< 188 + 1 <<< 192) } with inL := some 120 }, [], ⟨0, 0, 1⟩, { rdy with core := { coreReset with cons := [(4, [{ ent { frm with src := 0x100, payload := [], ext := some (4 <<< 188 + 1 <<< 192) } with inL := some 120 }])] }, set := { setReset with plan := ⟨1, 1, 0, 0, 0, 25⟩ }, gemel := { gemelReset with mirCoord := 0x100, st := .paired }, snap := { snapReset with pages := [⟨0, 0, 1⟩], sideA := { sideReset with sealed := true, snapId := 1 } } }, by decide +kernel⟩
theorem wit_event_152_noCopyRx : ∃ (die : Nat) (e : QEnt) (l : List QEnt) (p : PageRestore) (s : State), consQ s (64 * die + 4) = e :: l ∧ xSkind e.frame = 5 ∧ fromTwin (dropEnt e (onCons (64 * die + 4) (fun _ => l) s)) e = true ∧ pageAsked (dropEnt e (onCons (64 * die + 4) (fun _ => l) s)) 1 (xAddr e.frame) = some p :=
  ⟨0, { ent { frm with src := 0x100, payload := [], ext := some (5 <<< 188 + 1 <<< 192) } with inL := some 120 }, [], ⟨0, 0, 1⟩, { rdy with core := { coreReset with cons := [(4, [{ ent { frm with src := 0x100, payload := [], ext := some (5 <<< 188 + 1 <<< 192) } with inL := some 120 }])] }, set := { setReset with plan := ⟨1, 1, 0, 0, 0, 25⟩ }, gemel := { gemelReset with mirCoord := 0x100, st := .paired }, snap := { snapReset with pages := [⟨0, 0, 1⟩] } }, by decide +kernel⟩
theorem wit_event_153_targetFlushDone : ∃ (tgt : Nat) (d : Drain) (s : State), (s.snap.drains.find? fun d => d.tier == 3 && d.target == tgt && (d.phase == 1 || d.phase == 3)) = some d ∧ d.phase = 3 :=
  ⟨0, ⟨0, 3, 0, 1, headerFor rdy 0 1 0 0 true false, List.replicate 8 0, 0, 3, none, false, false⟩, { rdy with snap := { snapReset with drains := [⟨0, 3, 0, 1, headerFor rdy 0 1 0 0 true false, List.replicate 8 0, 0, 3, none, false, false⟩] } }, by decide +kernel⟩
theorem wit_event_154_flashReadDone : ∃ (addr : Nat) (p : PageRestore) (bs : List Byte) (s : State), pageAsked s 3 addr = some p :=
  ⟨0, ⟨0, 0, 3⟩, [], { rdy with snap := { snapReset with pages := [⟨0, 0, 3⟩] } }, by decide +kernel⟩
theorem wit_event_155_restoreComplete : ∃ (side : Nat) (r : Restore) (s : State), (s.snap.restores.find? fun r => r.side == side && runningTk s r.ticket 0x0A08) = some r :=
  ⟨0, ⟨256, 0, 2, 0, 1, []⟩, { (oneTicket ⟨256, .running, 0x0A08, 1, ⟨.host, 0⟩, ⟨.host, 0⟩, 0, 0, 0, 0, [], 0, [], [], [], 1, false, 0, false, false, true⟩) with snap := { snapReset with restores := [⟨256, 0, 2, 0, 1, []⟩] } }, by decide +kernel⟩
theorem wit_event_156_pageProgramDone : ∃ (sb page : Nat) (p : PageProg) (s : State), (s.flash.progs.find? fun p => p.sb == sb && p.page == page && pageWhole s p) = some p ∧ s.sys.keelLost = false ∧ p.hdr = false :=
  ⟨0, 0, ⟨1, false, 0, 0, []⟩, { rdy with flash := { flashReset with progs := [⟨1, false, 0, 0, []⟩] }, snap := { snapReset with drains := [⟨0, 2, 0, 1, [], List.replicate 8 0, 0, 0, none, false, false⟩] } }, by decide +kernel⟩
theorem wit_event_157_eraseComplete : ∃ (sb fdie : Nat) (s : State), s.sys.keelLost = false ∧ sb < superCount ∧ (superOf s sb).st = 2 :=
  ⟨0, 0, { rdy with flash := { flashReset with supers := [(0, ⟨2, 0, 0, 0⟩)] } }, by decide +kernel⟩
theorem wit_event_158_releaseAfterRead : ∃ (obj : Nat) (o : FlashObj) (s : State), mfind s.flash.objs obj = some o ∧ o.releaseDue = true ∧ objRead s obj = false ∧ s.sys.keelLost = false :=
  ⟨1, ⟨[0], 0, 0, some 0, true, true, []⟩, { rdy with flash := { flashReset with objs := [(1, ⟨[0], 0, 0, some 0, true, true, []⟩)] } }, by decide +kernel⟩
theorem wit_event_159_scanDue : ∃ (s : State), s.id.flash = true ∧ running s = true ∧ s.sys.keelLost = false ∧ s.flash.scanOn = false :=
  ⟨rdy, by decide +kernel⟩
theorem wit_event_160_scanBlockRead : ∃ (fdie blk page errs : Nat) (s : State), s.flash.scanOn = true ∧ s.snap.emergency = false ∧ s.sys.keelLost = false ∧ s.flash.scanTicket = none ∧ scanned s fdie blk page = none :=
  ⟨0, 2, 0, 0, { rdy with flash := { flashReset with scanOn := true } }, by decide +kernel⟩
theorem wit_event_161_scanBlockRead : ∃ (fdie blk page errs id : Nat) (s : State), s.flash.scanOn = true ∧ s.snap.emergency = false ∧ s.sys.keelLost = false ∧ s.flash.scanTicket = none ∧ scanned s fdie blk page = some id ∧ 100 < errs :=
  ⟨0, 2, 0, 101, 1, { rdy with flash := { flashReset with scanOn := true, supers := [(0, ⟨1, 1, 0, 0⟩)], objs := [(1, ⟨[0], 0, 0, some 0, true, false, []⟩)] } }, by decide +kernel⟩
theorem wit_event_162_flashDieUnresponsive : ∃ (fdie : Nat) (s : State), flashDieOk s fdie = true ∧ s.sys.keelLost = false :=
  ⟨0, rdy, by decide +kernel⟩
theorem wit_event_163_offerDue : ∃ (s : State), s.set.pairIntent = true ∧ running s = true ∧ keelOn s = true ∧ s.gemel.st ≠ .paired ∧ moorUp s ≠ [] :=
  ⟨{ (linkIn 120 .up) with gemel := { gemelReset with st := .unpaired }, set := { setReset with pairIntent := true } }, by decide +kernel⟩
theorem wit_event_164_offerRx : ∃ (lp : Nat) (rec : List Byte) (s : State), keelOn s = true ∧ lpLoc lp = 30 ∧ linkUp s lp = true ∧ recOk rec = true ∧ recKind rec = 3 ∧ 72 ≤ (recBody rec).length ∧ (s.sys.st == .keelUp && s.sys.hold.testBit 3) = false :=
  ⟨120, record32 3 (List.replicate 72 0), { (linkIn 120 .up) with gemel := { gemelReset with st := .unpaired } }, by decide +kernel⟩
theorem wit_event_165_mirrorEntryRx : ∃ (lp : Nat) (rec : List Byte) (s : State), keelOn s = true ∧ lpLoc lp = 30 ∧ linkUp s lp = true ∧ recOk rec = true ∧ recKind rec = 0 ∧ s.gemel.st = .paired ∧ s.gemel.frozen = false :=
  ⟨120, record32 0 ([]), { (linkIn 120 .up) with gemel := { gemelReset with st := .paired } }, by decide +kernel⟩
theorem wit_event_166_mirrorAckRx : ∃ (lp : Nat) (rec : List Byte) (s : State), keelOn s = true ∧ lpLoc lp = 30 ∧ linkUp s lp = true ∧ recOk rec = true ∧ recKind rec = 1 ∧ s.gemel.st = .paired :=
  ⟨120, record32 1 ([]), { (linkIn 120 .up) with gemel := { gemelReset with st := .paired } }, by decide +kernel⟩
theorem wit_event_167_heartbeatRx : ∃ (lp : Nat) (rec : List Byte) (s : State), keelOn s = true ∧ lpLoc lp = 30 ∧ linkUp s lp = true ∧ recOk rec = true ∧ recKind rec = 2 :=
  ⟨120, record32 2 ([]), { (linkIn 120 .up) with gemel := { gemelReset with st := .unpaired } }, by decide +kernel⟩
theorem wit_event_168_keelLostRx : ∃ (lp : Nat) (rec : List Byte) (s : State), keelOn s = true ∧ lpLoc lp = 30 ∧ linkUp s lp = true ∧ recOk rec = true ∧ recKind rec = 4 ∧ s.gemel.st ≠ .unpaired ∧ s.gemel.role.contains (lpDie lp) = false :=
  ⟨120, record32 4 ([]), { (linkIn 120 .up) with gemel := { gemelReset with st := .paired } }, by decide +kernel⟩
theorem wit_event_169_syncDoneRx : ∃ (lp : Nat) (rec : List Byte) (s : State), keelOn s = true ∧ lpLoc lp = 30 ∧ linkUp s lp = true ∧ recOk rec = true ∧ recKind rec = 5 ∧ s.gemel.st = .syncing ∧ s.gemel.syncTx = true :=
  ⟨120, record32 5 ([]), { (linkIn 120 .up) with gemel := { gemelReset with st := .syncing, syncTx := true } }, by decide +kernel⟩
theorem wit_event_170_heartbeatDue : ∃ (s : State), keelOn s = true ∧ s.gemel.st = .paired :=
  ⟨{ (linkIn 120 .up) with gemel := { gemelReset with st := .paired } }, by decide +kernel⟩
theorem wit_event_171_twinLost : ∃ (s : State), keelOn s = true ∧ mirroring s = true ∧ (goSolo s).gemel.mramOk = true :=
  ⟨{ (linkIn 120 .up) with gemel := { gemelReset with st := .paired } }, by decide +kernel⟩
theorem wit_event_172_mirrorResendTimeout : ∃ (lp : Nat) (s : State), keelOn s = true ∧ mirroring s = true ∧ s.gemel.acked < s.cmd.jseq ∧ mirrorLp s = some lp :=
  ⟨120, { (linkIn 120 .up) with gemel := { gemelReset with st := .paired }, cmd := { cmdReset with jseq := 1 } }, by decide +kernel⟩
theorem wit_event_173_mramWriteDone : ∃ (n : Nat) (s : State), keelOn s = true ∧ s.gemel.mramOk = true :=
  ⟨1, rdy, by decide +kernel⟩
theorem wit_event_174_mramFail : ∃ (s : State), keelOn s = true ∧ s.gemel.mramOk = true ∧ s.gemel.st = .paired :=
  ⟨{ (linkIn 120 .up) with gemel := { gemelReset with st := .paired } }, by decide +kernel⟩
theorem wit_event_175_pairTimeout : ∃ (k : Ticket) (s : State), runningOp s 0x0C01 = some k ∧ moorUp s = [] :=
  ⟨⟨256, .running, 0x0C01, 1, ⟨.host, 0⟩, ⟨.host, 0⟩, 0, 0, 0, 0, [], 0, [], [], [], 1, false, 0, false, false, true⟩, (oneTicket ⟨256, .running, 0x0C01, 1, ⟨.host, 0⟩, ⟨.host, 0⟩, 0, 0, 0, 0, [], 0, [], [], [], 1, false, 0, false, false, true⟩), by decide +kernel⟩
theorem wit_event_176_soloRoleRestore : ∃ (s : State), running s = true ∧ s.gemel.st = .solo :=
  ⟨{ (linkIn 120 .up) with gemel := { gemelReset with st := .solo } }, by decide +kernel⟩
theorem wit_event_177_headlessFaultReportRx : ∃ (die src kind ft : Nat) (s : State), keelOn s = true ∧ s.gemel.holdsRole = true ∧ s.gemel.role.contains die = true :=
  ⟨0, 0, 0, 0, { (linkIn 120 .up) with gemel := { gemelReset with st := .unpaired, holdsRole := true, role := [0] } }, by decide +kernel⟩
theorem wit_event_178_sqDoorbell : ∃ (ring : Nat) (x : Entry × List Byte) (s : State), ring < 64 ∧ asleep s = false ∧ (ringOf s ring).rstate = .enabled ∧ ((ringOf s ring).sqTail + 1) % ringEntries (ringOf s ring) < ringEntries (ringOf s ring) ∧ ((((ringOf s ring).sqTail + 1) % ringEntries (ringOf s ring)) + ringEntries (ringOf s ring) - (ringOf s ring).sqTail) % ringEntries (ringOf s ring) = 1 ∧ ((ringOf s ring).sqTail + ringEntries (ringOf s ring) - (ringOf s ring).sqHead) % ringEntries (ringOf s ring) + 1 ≤ ringEntries (ringOf s ring) - 1 :=
  ⟨0, (⟨0, false, false, 0, 1, 0, [], []⟩, []), rdy, by decide +kernel⟩
theorem wit_event_179_cqDoorbell : ∃ (ring head : Nat) (s : State), ring < 64 ∧ asleep s = false ∧ (ringOf s ring).rstate = .enabled ∧ head < ringEntries (ringOf s ring) ∧ (head + ringEntries (ringOf s ring) - (ringOf s ring).cqHead) % ringEntries (ringOf s ring) ≤ unfreed (ringOf s ring) :=
  ⟨0, 0, rdy, by decide +kernel⟩
theorem wit_event_180_ringEnable : ∃ (ring : Nat) (s : State), ring < 64 ∧ (ringOf s ring).enable = false ∧ keelOn s = true ∧ enableCause s (ringOf s ring) = 0 :=
  ⟨1, rdy, by decide +kernel⟩
theorem wit_event_181_ringDisable : ∃ (ring : Nat) (s : State), ring < 64 ∧ keelOn s = true :=
  ⟨1, rdy, by decide +kernel⟩
theorem wit_event_182_commandTake : ∃ (k : Nat) (q : Req) (s : State), nextCmd s = some (k, q) :=
  ⟨0, rq 0x0002 [], { rdy with cmd := { cmdReset with rings := [(0, { ring0 with waiting := [rq 0x0002 []] })] } }, by decide +kernel⟩
theorem wit_event_184_finishRx : ∃ (xp sess replyTo : Nat) (q : Session) (s : State), sessAt s xp sess = some q ∧ q.openS = false ∧ keelOn s = true :=
  ⟨1, 0, 0, { sess0 with openS := false }, { rdy with cmd := { cmdReset with sessions := [(sessKey 1 0, { sess0 with openS := false })] } }, by decide +kernel⟩
theorem wit_event_185_commandCapsuleRx : ∃ (xp : Nat) (cap : Capsule) (q : Session) (s : State), sessAt s xp cap.sess = some q ∧ q.openS = true ∧ keelOn s = true ∧ capMac q cap = cap.mac ∧ (q.replies.find? fun r => r.1.contains cap.cseq) = none ∧ capWindow q cap.cseq = true ∧ cap.kind = 3 ∧ cap.body.length = cap.bodyLen ∧ 64 ≤ cap.bodyLen ∧ cap.bodyLen ≤ 976 ∧ cap.nseg = 1 ∧ cap.seg = 0 :=
  ⟨1, capsule 3 64, { sess0 with openS := true }, { rdy with cmd := { cmdReset with sessions := [(sessKey 1 0, { sess0 with openS := true })] } }, by decide +kernel⟩
theorem wit_event_186_closeRx : ∃ (xp : Nat) (cap : Capsule) (q : Session) (s : State), sessAt s xp cap.sess = some q ∧ q.openS = true ∧ keelOn s = true ∧ capMac q cap = cap.mac ∧ (q.replies.find? fun r => r.1.contains cap.cseq) = none ∧ capWindow q cap.cseq = true ∧ cap.kind = 5 :=
  ⟨1, capsule 5 0, { sess0 with openS := true }, { rdy with cmd := { cmdReset with sessions := [(sessKey 1 0, { sess0 with openS := true })] } }, by decide +kernel⟩
theorem wit_event_187_sessionIdle : ∃ (xp sess : Nat) (s : State), True :=
  ⟨1, 0, rdy, by decide +kernel⟩
theorem wit_event_188_segmentTimeout : ∃ (xp sess msg : Nat) (e : Nat × Asm) (s : State), ((sessAt s xp sess).bind fun q => q.asm.find? fun e => e.1 == msg) = some e :=
  ⟨1, 0, 1, (1, ⟨true, 0, 2, [], []⟩), { rdy with cmd := { cmdReset with sessions := [(sessKey 1 0, { sess0 with openS := true, asm := [(1, ⟨true, 0, 2, [], []⟩)] })] } }, by decide +kernel⟩
theorem wit_event_189_ticketStart : ∃ (tk : Nat) (k : Ticket) (s : State), ticketOf s tk = some k ∧ keelOn s = true ∧ k.ost = .queued ∧ k.before = false ∧ oldestQueued s k = true ∧ workFree s k = true :=
  ⟨256, ⟨256, .queued, 0x0A07, 1, ⟨.host, 0⟩, ⟨.host, 0⟩, 0, 0, 0, 0, [], 0, [], [], [], 1, false, 0, false, false, true⟩, (oneTicket ⟨256, .queued, 0x0A07, 1, ⟨.host, 0⟩, ⟨.host, 0⟩, 0, 0, 0, 0, [], 0, [], [], [], 1, false, 0, false, false, true⟩), by decide +kernel⟩
theorem wit_event_190_suspendPointReached : ∃ (tk : Nat) (k : Ticket) (s : State), ticketOf s tk = some k ∧ keelOn s = true ∧ k.ost = .running ∧ k.suspReq = true :=
  ⟨256, { (⟨256, .running, 0x0A07, 1, ⟨.host, 0⟩, ⟨.host, 0⟩, 0, 0, 0, 0, [], 0, [], [], [], 1, false, 0, false, false, true⟩ : Ticket) with suspReq := true }, (oneTicket { (⟨256, .running, 0x0A07, 1, ⟨.host, 0⟩, ⟨.host, 0⟩, 0, 0, 0, 0, [], 0, [], [], [], 1, false, 0, false, false, true⟩ : Ticket) with suspReq := true }), by decide +kernel⟩
theorem wit_event_191_cancelUndoDone : ∃ (tk : Nat) (k : Ticket) (s : State), ticketOf s tk = some k ∧ keelOn s = true ∧ k.ost = .cancelling :=
  ⟨256, ⟨256, .cancelling, 0x0A07, 1, ⟨.host, 0⟩, ⟨.host, 0⟩, 0, 0, 0, 0, [], 0, [], [], [], 1, false, 0, false, false, true⟩, (oneTicket ⟨256, .cancelling, 0x0A07, 1, ⟨.host, 0⟩, ⟨.host, 0⟩, 0, 0, 0, 0, [], 0, [], [], [], 1, false, 0, false, false, true⟩), by decide +kernel⟩
theorem wit_event_192_operationFinish : ∃ (tk : Nat) (k : Ticket) (s : State), ticketOf s tk = some k ∧ keelOn s = true ∧ k.ost = .running ∧ k.suspReq = false :=
  ⟨256, ⟨256, .running, 0x0A07, 1, ⟨.host, 0⟩, ⟨.host, 0⟩, 0, 0, 0, 0, [], 0, [], [], [], 1, false, 0, false, false, true⟩, (oneTicket ⟨256, .running, 0x0A07, 1, ⟨.host, 0⟩, ⟨.host, 0⟩, 0, 0, 0, 0, [], 0, [], [], [], 1, false, 0, false, false, true⟩), by decide +kernel⟩
theorem wit_event_193_operationFinish : ∃ (tk reason : Nat) (k : Ticket) (s : State), ticketOf s tk = some k ∧ keelOn s = true ∧ k.ost = .running ∧ k.suspReq = false ∧ reason ≠ 0 ∧ ownerFails k.opcode reason = true ∧ k.opcode ≠ 0x0402 :=
  ⟨256, 0x0C01, ⟨256, .running, 0x0C01, 1, ⟨.host, 0⟩, ⟨.host, 0⟩, 0, 0, 0, 0, [], 0, [], [], [], 1, false, 0, false, false, true⟩, (oneTicket ⟨256, .running, 0x0C01, 1, ⟨.host, 0⟩, ⟨.host, 0⟩, 0, 0, 0, 0, [], 0, [], [], [], 1, false, 0, false, false, true⟩), by decide +kernel⟩
theorem wit_event_194_spdmGetVersion : ∃ (doe : Bool) (s : State), spdmUp doe s = true :=
  ⟨true, { rdy with host := { hostReset with l0 := true, doe := ⟨false, false, false, []⟩ } }, by decide +kernel⟩
theorem wit_event_195_spdmGetCapabilities : ∃ (doe : Bool) (s : State), spdmUp doe s = true ∧ (spdmOf doe s).version = true ∧ (spdmOf doe s).caps = false :=
  ⟨true, { rdy with host := { hostReset with l0 := true, doe := ⟨true, false, false, []⟩ } }, by decide +kernel⟩
theorem wit_event_196_spdmNegotiateAlgorithms : ∃ (doe : Bool) (asym hash : Nat) (s : State), spdmUp doe s = true ∧ (spdmOf doe s).caps = true ∧ (spdmOf doe s).algs = false ∧ asym.testBit 4 = true ∧ hash.testBit 0 = true :=
  ⟨true, 0x10, 1, { rdy with host := { hostReset with l0 := true, doe := ⟨true, true, false, []⟩ } }, by decide +kernel⟩
theorem wit_event_197_spdmGetDigests : ∃ (doe : Bool) (s : State), spdmUp doe s = true ∧ (spdmOf doe s).algs = true :=
  ⟨true, { rdy with host := { hostReset with l0 := true, doe := ⟨true, true, true, []⟩ } }, by decide +kernel⟩
theorem wit_event_199_spdmChallenge : ∃ (doe : Bool) (nonce : List Byte) (s : State), spdmUp doe s = true ∧ (spdmOf doe s).algs = true :=
  ⟨true, [], { rdy with host := { hostReset with l0 := true, doe := ⟨true, true, true, []⟩ } }, by decide +kernel⟩
theorem wit_event_200_spdmGetMeasurements : ∃ (doe : Bool) (idx : Nat) (nonce : List Byte) (s : State), spdmUp doe s = true ∧ (spdmOf doe s).algs = true ∧ idx ≤ 7 :=
  ⟨true, 7, [], { rdy with host := { hostReset with l0 := true, doe := ⟨true, true, true, []⟩ } }, by decide +kernel⟩
theorem wit_event_201_doeAbort : ∃ (s : State), True :=
  ⟨rdy, by decide +kernel⟩
theorem wit_event_202_identifyMemoryDevice : ∃ (s : State), True :=
  ⟨rdy, by decide +kernel⟩
theorem wit_event_203_getSupportedLogs : ∃ (s : State), True :=
  ⟨rdy, by decide +kernel⟩
theorem wit_event_204_getLog : ∃ (off len : Nat) (s : State), off + len ≤ effectsLog.length :=
  ⟨0, 1, rdy, by decide +kernel⟩
theorem wit_event_205_getHealthInfo : ∃ (s : State), True :=
  ⟨rdy, by decide +kernel⟩
theorem wit_event_206_mailboxUnsupported : ∃ (opc : Nat) (s : State), [0x0400, 0x0401, 0x4000, 0x4200].contains opc = false :=
  ⟨0x0402, rdy, by decide +kernel⟩
theorem wit_event_207_hdmDecoderCommit : ∃ (dec base size skip ways : Nat) (s : State), keelOn s = true ∧ s.host.l0 = true ∧ dec < 2 :=
  ⟨0, 0, 0, 0, 0, { rdy with host := { hostReset with l0 := true } }, by decide +kernel⟩
theorem wit_event_208_perstAssert : ∃ (hot : Bool) (s : State), keelOn s = true :=
  ⟨true, rdy, by decide +kernel⟩
theorem wit_event_209_perstDeassert : ∃ (s : State), True :=
  ⟨rdy, by decide +kernel⟩
theorem wit_event_210_hostLinkChange : ∃ (mode width rate : Nat) (s : State), keelOn s = true ∧ (mode = 1 ∨ mode = 2) ∧ s.host.l0 = false ∧ s.host.perst = false :=
  ⟨1, 0, 0, rdy, by decide +kernel⟩
theorem wit_event_211_mgmtLinkChange : ∃ (up : Bool) (s : State), keelOn s = true ∧ s.host.mgmtUp ≠ up :=
  ⟨true, rdy, by decide +kernel⟩
theorem wit_event_212_mgmtPacketRx : ∃ (vlan dst : Nat) (s : State), keelOn s = true ∧ s.host.mgmtUp = true ∧ mgmtMine s false vlan dst = true :=
  ⟨0xFFFF, 1, { rdy with host := { hostReset with mgmtUp := true }, set := { setReset with mgmt := ⟨1, 0, 0, 0, 0, 0xFFFF⟩ } }, by decide +kernel⟩
theorem wit_event_213_ftNowRead : ∃ (s : State), keelOn s = true :=
  ⟨rdy, by decide +kernel⟩
theorem wit_event_214_lowHalfRead : ∃ (off : Nat) (s : State), keelOn s = true ∧ off % 8 = 0 ∧ off < 0x1000 :=
  ⟨8, rdy, by decide +kernel⟩
theorem wit_event_215_registerWrite : ∃ (off val : Nat) (s : State), keelOn s = true ∧ off % 8 = 0 :=
  ⟨8, 0, rdy, by decide +kernel⟩
theorem wit_event_216_fltFirstClear : ∃ (s : State), keelOn s = true :=
  ⟨rdy, by decide +kernel⟩
theorem wit_event_217_evrRestartWrite : ∃ (s : State), keelOn s = true :=
  ⟨rdy, by decide +kernel⟩
theorem wit_event_218_faultReportBatch : ∃ (reps : List (Nat × Nat × Nat)) (s : State), collecting s = true :=
  ⟨[], rdy, by decide +kernel⟩
theorem wit_event_219_faultWindowExpire : ∃ (src : Nat) (s : State), collecting s = true ∧ (srcOf s src).st = .counting :=
  ⟨0x300, { rdy with flt := { fltReset with src := [(0x300, { srcOk with st := .counting })] } }, by decide +kernel⟩
theorem wit_event_220_faultQuietExpire : ∃ (src : Nat) (s : State), collecting s = true ∧ (classOf s (srcClass src)).quietS ≠ 0 ∧ (srcOf s src).st = .severe :=
  ⟨0x300, { ({ rdy with flt := { fltReset with src := [(0x300, { srcOk with st := .severe })] } }) with set := { setReset with classes := [(3, ⟨2, 1, 1, 1⟩)] } }, by decide +kernel⟩
theorem wit_event_221_faultQuietExpire : ∃ (src : Nat) (s : State), collecting s = true ∧ (classOf s (srcClass src)).quietS ≠ 0 ∧ (srcOf s src).st = .isolated ∧ (srcOf s src).sticky = false :=
  ⟨0x300, { ({ rdy with flt := { fltReset with src := [(0x300, { srcOk with st := .isolated })] } }) with set := { setReset with classes := [(3, ⟨2, 1, 1, 1⟩)] } }, by decide +kernel⟩
theorem wit_event_222_releaseTestDone : ∃ (src : Nat) (s : State), collecting s = true ∧ (srcOf s src).st = .releasing :=
  ⟨0x300, { rdy with flt := { fltReset with src := [(0x300, { srcOk with st := .releasing })] } }, by decide +kernel⟩
theorem wit_event_223_releaseTestDone : ∃ (src : Nat) (s : State), collecting s = true ∧ (srcOf s src).st = .releasing :=
  ⟨0x300, { rdy with flt := { fltReset with src := [(0x300, { srcOk with st := .releasing })] } }, by decide +kernel⟩
theorem wit_event_224_vsb12Up : ∃ (cv : Nat) (s : State), s.sys.st = .off ∧ 1140 ≤ cv ∧ cv ≤ 1400 :=
  ⟨1200, { State.reset with sys := { sysReset with st := .off } }, by decide +kernel⟩
theorem wit_event_225_vsb12Lost : ∃ (s : State), s.sys.st ≠ .off :=
  ⟨rdy, by decide +kernel⟩
theorem wit_event_226_pwrOkAssert : ∃ (s : State), s.env.pins.pwrOk = false ∧ s.sys.st = .standby :=
  ⟨{ State.reset with sys := { sysReset with st := .standby }, env := { envReset with pins := { envReset.pins with pwrOk := false } } }, by decide +kernel⟩
theorem wit_event_227_keelUpEntry : ∃ (plane tray k : Nat) (s : State), s.sys.st = .standby ∧ s.sys.starting = true ∧ bootable (chooseRecord s) = some k :=
  ⟨0, 0, 0, { State.reset with sys := { sysReset with st := .standby } }, by decide +kernel⟩
theorem wit_event_228_startupDone : ∃ (b : StartData) (s : State), startingUp s = true ∧ startingUp (startUnits b s) = true ∧ (startUnits b s).sys.hold = 0 :=
  ⟨⟨true, [], (0, 0, 0, 0), [], [], [], true⟩, State.reset, by decide +kernel⟩
theorem wit_event_229_startupDone : ∃ (b : StartData) (s : State), startingUp s = true ∧ startingUp (startUnits b s) = true ∧ (startUnits b s).sys.hold ≠ 0 :=
  ⟨⟨true, [], (0, 0, 0, 0), [], [], [], false⟩, State.reset, by decide +kernel⟩
theorem wit_event_230_pwrOkDeassert : ∃ (s : State), True :=
  ⟨rdy, by decide +kernel⟩
theorem wit_event_231_vin40Fault : ∃ (cv : Nat) (s : State), cv ≤ 6000 ∧ (cv < 3400 ∨ 4600 < cv) :=
  ⟨3399, rdy, by decide +kernel⟩
theorem wit_event_232_keelWatchdogExpire : ∃ (s : State), keelOn s = true ∧ (loseKeel s).sys.trial ≠ some (loseKeel s).sys.booted :=
  ⟨rdy, by decide +kernel⟩
theorem wit_event_233_headlessRestart : ∃ (s : State), s.sys.keelLost = true ∧ s.sys.inUse.headlessS ≠ 0 :=
  ⟨{ rdy with sys := { rdy.sys with keelLost := true, inUse := { cfgReset with headlessS := 1 } } }, by decide +kernel⟩
theorem wit_event_234_stopConditionCleared : ∃ (cause : Nat) (s : State), True :=
  ⟨0, rdy, by decide +kernel⟩
theorem wit_event_235_powerMeasurement : ∃ (vin iin : Nat) (s : State), vin ≤ 6000 ∧ braking (onEnv (fun e => { e with vin := vin, iin := iin, pin := vin * iin / 1000, prevPin := some (vin * iin / 1000) }) s) = true ∧ s.env.prevPin = none :=
  ⟨4000, 0, rdy, by decide +kernel⟩
theorem wit_event_236_sensorReading : ∃ (inst : Nat) (val : Int) (s : State), sensorFitted s inst = true ∧ braking (coolTrip (onEnv (fun e => { e with sensors := mput e.sensors inst val, rise := mput e.rise inst (riseWith s inst val) }) s)) = false :=
  ⟨0, 0, { rdy with sys := { rdy.sys with st := .quenched } }, by decide +kernel⟩
theorem wit_event_237_droguePresetUpdate : ∃ (s : State), braking s = true :=
  ⟨rdy, by decide +kernel⟩
theorem wit_event_238_drogueAssert : ∃ (s : State), s.env.pins.ripcord = false ∧ s.env.pins.leak = false :=
  ⟨rdy, by decide +kernel⟩
theorem wit_event_239_vinDrogueLow : ∃ (cv : Nat) (s : State), cv ≤ 6000 ∧ cv < s.set.env.vinDrogue :=
  ⟨3599, rdy, by decide +kernel⟩
theorem wit_event_240_drogueEnd : ∃ (cv : Nat) (s : State), 3700 ≤ cv ∧ cv ≤ 6000 :=
  ⟨3700, rdy, by decide +kernel⟩
theorem wit_event_241_pumpConditionStart : ∃ (s : State), s.env.pins.ripcord = false ∧ s.env.pins.leak = false :=
  ⟨rdy, by decide +kernel⟩
theorem wit_event_242_pumpConditionEnd : ∃ (s : State), True :=
  ⟨rdy, by decide +kernel⟩
theorem wit_event_243_ripcordInput : ∃ (s : State), True :=
  ⟨rdy, by decide +kernel⟩
theorem wit_event_244_leakInput : ∃ (sensor : Nat) (s : State), braking (onEnv (fun e => { e with pins := { e.pins with leak := true } }) s) = true :=
  ⟨0, rdy, by decide +kernel⟩
theorem wit_event_245_thermalTrip : ∃ (sensor : Nat) (s : State), keelPowered s = true :=
  ⟨0, rdy, by decide +kernel⟩
theorem wit_event_246_capDeadline : ∃ (s : State), braking s = true ∧ s.env.capAt.isSome = true ∧ capTarget s < s.env.pin ∧ s.env.capDrogue = false :=
  ⟨{ rdy with env := { envReset with capAt := some 0, pin := 100000 }, set := { setReset with env := { envCfgReset with capW := some 100 } } }, by decide +kernel⟩
theorem wit_event_247_heartbeatMissed : ∃ (s : State), s.sys.st = .service ∧ s.sys.keelLost = false :=
  ⟨{ rdy with sys := { rdy.sys with st := .service } }, by decide +kernel⟩
theorem wit_event_248_keelLossOrphanCap : ∃ (s : State), s.sys.keelLost = true ∧ braking s = true ∧ s.env.orphanCap = false :=
  ⟨{ rdy with sys := { rdy.sys with keelLost := true } }, by decide +kernel⟩
theorem wit_event_249_psuPoll : ∃ (rds : List (Option Psu)) (s : State), keelOn s = true :=
  ⟨[], rdy, by decide +kernel⟩
theorem wit_event_250_psuAlertInput : ∃ (rds : List (Option Psu)) (s : State), keelOn (onEnv (fun e => { e with pins := { e.pins with pmbAlert := true } }) s) = true :=
  ⟨[], rdy, by decide +kernel⟩

/-! ### Commands that carry a signature: signed with a key made for the test -/

/-- A leaf certificate whose key the module's record lists, and a HELLO that it signs. -/
def leaf0 : Cert := ⟨[], [4, 82, 193, 157, 118, 247, 185, 6, 197, 2, 34, 55, 174, 83, 11, 192, 246, 112, 78, 111, 35, 188, 22, 94, 153, 227, 54, 21, 244, 251, 172, 53, 96, 171, 10, 230, 76, 94, 237, 6, 255, 201, 1, 226, 78, 129, 29, 41, 216, 22, 46, 43, 68, 154, 2, 191, 225, 153, 166, 23, 62, 207, 198, 136, 147], []⟩
def hello0 : Hello := ⟨1, 0, [], [], 0, 0, [], [leaf0], [94, 203, 228, 209, 166, 51, 10, 68, 200, 247, 239, 149, 29, 75, 241, 101, 230, 198, 183, 33, 239, 173, 169, 133, 251, 65, 102, 27, 198, 231, 253, 108, 110, 52, 11, 156, 255, 179, 122, 152, 156, 165, 68, 230, 187, 120, 10, 44, 120, 144, 29, 63, 179, 55, 56, 118, 133, 17, 163, 6, 23, 175, 160, 29]⟩
theorem wit_hello : ∃ (h : Hello) (n mx : Nat) (leaf : Cert) (s : State), keelOn s = true ∧
    (h.xp = 1 ∨ (h.xp = 2 ∧ h.replyOff % 1024 = 0 ∧ h.replyOff ≤ 0xFC00)) ∧ freeSess s h.xp = some n ∧ chainPriv s h.chain = some mx ∧
      h.chain.head? = some leaf ∧ ecdsaOk leaf.pub (helloBody h) h.sig = true :=
  ⟨hello0, 0, 2, leaf0, { rdy with sys := { rdy.sys with inUse := { cfgReset with keys := [⟨1, 4, 2, leaf0.pub⟩] } } }, by decide +kernel⟩
/-- A tile program image of one NOP, signed under key 7. -/
def image0 : List Byte := fields 64 [(0, 4, 0x47505451), (4, 2, 1), (6, 2, 1), (8, 1, 4), (56, 8, 7)] ++
  [94, 203, 228, 209, 166, 51, 10, 68, 200, 247, 239, 149, 29, 75, 241, 101, 230, 198, 183, 33, 239, 173, 169, 133, 251, 65, 102, 27, 198, 231, 253, 108, 94, 75, 113, 74, 101, 138, 237, 82, 234, 105, 6, 94, 251, 80, 23, 77, 124, 207, 198, 87, 55, 212, 39, 2, 109, 104, 98, 141, 120, 7, 108, 113]
theorem wit_command_tileLoad : ∃ (q : Req) (s : State), clears 0x0801 true 2 (chkTileLoad q s) q s = true :=
  ⟨rqb 0x0801 [(0, 1, 16)] image0, { rdy with sys := { rdy.sys with inUse := { cfgReset with keys := [⟨7, 2, 0,
    [4, 111, 238, 117, 82, 255, 30, 9, 65, 68, 147, 41, 43, 172, 199, 178, 27, 189, 178, 197, 6, 183, 199, 145, 175, 7, 177, 162, 189, 182, 9, 153, 15, 177, 189, 204, 155, 217, 152, 218, 56, 149, 197, 69, 145, 87, 76, 112, 239, 152, 11, 123, 21, 18, 122, 68, 32, 193, 124, 70, 172, 155, 108, 216, 84]⟩] } } }, by decide +kernel⟩
/-- A configuration record of no keys, signed under OWNER key 7. -/
def cfg7 : List Byte := fields 264 [(0, 4, 0x47464351), (4, 2, 1), (8, 4, 0x148), (16, 8, 2), (256, 8, 7)] ++
  [94, 203, 228, 209, 166, 51, 10, 68, 200, 247, 239, 149, 29, 75, 241, 101, 230, 198, 183, 33, 239, 173, 169, 133, 251, 65, 102, 27, 198, 231, 253, 108, 230, 129, 213, 171, 231, 180, 51, 59, 188, 194, 104, 72, 234, 71, 142, 74, 148, 137, 26, 187, 152, 152, 20, 64, 172, 177, 106, 106, 191, 46, 42, 226]
def keys7 : List KeyEnt := [⟨7, 8, 2, [4, 63, 228, 128, 46, 198, 228, 67, 175, 245, 97, 39, 158, 84, 34, 95, 74, 43, 110, 187, 191, 143, 15, 31, 143, 142, 190, 27, 182, 71, 125, 35, 60, 159, 82, 149, 211, 97, 249, 45, 208, 186, 192, 201, 209, 100, 154, 240, 236, 194, 193, 178, 37, 194, 35, 201, 62, 46, 185, 199, 131, 107, 36, 116, 191]⟩]
theorem test_cfg7_is_signed (h : 7 ≠ Config.vendorKeyId) : cfgSigned keys7 cfg7 = true := by
  have e : signerOf keys7 cfg7 = some (keys7.map (·.pub)).head! := by
    unfold signerOf
    rw [show rdLe cfg7 (cfg7.length - 72) 8 = 7 by decide +kernel, if_neg h]; decide +kernel
  unfold cfgSigned; rw [e]; decide +kernel
theorem test_cfg7_clears (h : 7 ≠ Config.vendorKeyId) : ∃ (q : Req) (s : State), clears 0x0F01 (bufWhole 0x148 q) 2 (firstOf [refuseIf (!(begunOps s 0x0F01).isEmpty) 0x0006, cfgRefusal s (inData q)]) q s = true := by
  refine ⟨rqb 0x0F01 [] cfg7, { rdy with sys := { rdy.sys with inUse := { cfgReset with keys := keys7 } } }, ?_⟩
  have e : ∀ s : State, s.sys.inUse = { cfgReset with keys := keys7 } → s.sys.cfgSeq = 0 → s.sys.slotA = fwReset →
      cfgRefusal s cfg7 = none := by
    intro s h1 h2 h3
    unfold cfgRefusal floorTooHigh
    rw [h1, h2, h3, test_cfg7_is_signed h]
    simp only [List.all_cons, show (!fwReset.valid || decide (fwReset.svn < rdLe cfg7 24 4)) = false by decide +kernel, Bool.false_and]
    decide +kernel
  rw [show inData (rqb 0x0F01 [] cfg7) = cfg7 by rfl, e _ rfl rfl rfl]
  decide +kernel
/-- A configuration record of no keys, signed under OWNER key 8. -/
def cfg8 : List Byte := fields 264 [(0, 4, 0x47464351), (4, 2, 1), (8, 4, 0x148), (16, 8, 2), (256, 8, 8)] ++
  [94, 203, 228, 209, 166, 51, 10, 68, 200, 247, 239, 149, 29, 75, 241, 101, 230, 198, 183, 33, 239, 173, 169, 133, 251, 65, 102, 27, 198, 231, 253, 108, 222, 151, 234, 46, 120, 18, 15, 164, 147, 168, 56, 174, 116, 252, 75, 33, 24, 153, 16, 149, 9, 204, 85, 143, 141, 25, 26, 60, 25, 252, 70, 140]
def keys8 : List KeyEnt := [⟨8, 8, 2, [4, 85, 182, 1, 47, 21, 70, 165, 52, 174, 122, 20, 191, 115, 110, 46, 135, 149, 120, 123, 202, 39, 157, 209, 255, 77, 145, 65, 38, 119, 74, 62, 59, 167, 215, 12, 143, 67, 105, 31, 73, 198, 48, 60, 78, 197, 124, 134, 246, 43, 78, 26, 242, 59, 92, 47, 74, 250, 44, 219, 9, 83, 209, 225, 125]⟩]
theorem test_cfg8_is_signed (h : 8 ≠ Config.vendorKeyId) : cfgSigned keys8 cfg8 = true := by
  have e : signerOf keys8 cfg8 = some (keys8.map (·.pub)).head! := by
    unfold signerOf
    rw [show rdLe cfg8 (cfg8.length - 72) 8 = 8 by decide +kernel, if_neg h]; decide +kernel
  unfold cfgSigned; rw [e]; decide +kernel
theorem test_cfg8_clears (h : 8 ≠ Config.vendorKeyId) : ∃ (q : Req) (s : State), clears 0x0F01 (bufWhole 0x148 q) 2 (firstOf [refuseIf (!(begunOps s 0x0F01).isEmpty) 0x0006, cfgRefusal s (inData q)]) q s = true := by
  refine ⟨rqb 0x0F01 [] cfg8, { rdy with sys := { rdy.sys with inUse := { cfgReset with keys := keys8 } } }, ?_⟩
  have e : ∀ s : State, s.sys.inUse = { cfgReset with keys := keys8 } → s.sys.cfgSeq = 0 → s.sys.slotA = fwReset →
      cfgRefusal s cfg8 = none := by
    intro s h1 h2 h3
    unfold cfgRefusal floorTooHigh
    rw [h1, h2, h3, test_cfg8_is_signed h]
    simp only [List.all_cons, show (!fwReset.valid || decide (fwReset.svn < rdLe cfg8 24 4)) = false by decide +kernel, Bool.false_and]
    decide +kernel
  rw [show inData (rqb 0x0F01 [] cfg8) = cfg8 by rfl, e _ rfl rfl rfl]
  decide +kernel
theorem wit_command_cfgWrite : ∃ (q : Req) (s : State), clears 0x0F01 (bufWhole 0x148 q) 2 (firstOf [refuseIf (!(begunOps s 0x0F01).isEmpty) 0x0006, cfgRefusal s (inData q)]) q s = true := by
  by_cases h : 7 = Config.vendorKeyId
  · exact test_cfg8_clears (by omega)
  · exact test_cfg7_clears h
/-- FW.STAGE: any image that the module takes, since the vendor's firmware key is not in the manual. -/
theorem wit_command_fwStage (b : List Byte) (h : stageRefusal rdy b = none) : ∃ (q : Req) (s : State), clears 0x0F03 (bufWhole 0x148 q) 2 (firstOf [refuseIf (!(begunOps s 0x0F03).isEmpty) 0x0006, stageRefusal s (inData q)]) q s = true := by
  refine ⟨rqb 0x0F03 [] b, rdy, ?_⟩
  have hf : imgFormOk b = true := by
    cases hb : imgFormOk b with
    | true => rfl
    | false => simp [stageRefusal, refuseIf, firstOf, hb] at h
  simp only [imgFormOk, Bool.and_eq_true, decide_eq_true_eq, beq_iff_eq] at hf
  have hl : bufWhole 0x148 (rqb 0x0F03 [] b) = true := by
    show (decide (328 ≤ b.length) && decide (rdLe b 8 4 ≤ b.length)) = true
    simp only [Bool.and_eq_true, decide_eq_true_eq]
    omega
  rw [hl, show inData (rqb 0x0F03 [] b) = b by rfl, h,
    show ∀ x, clears 0x0F03 true 2 x (rqb 0x0F03 [] b) rdy = clears 0x0F03 true 2 x (rqb 0x0F03 [] []) rdy from fun _ => rfl]
  decide +kernel
/-- GEMEL.ADOPT: any twin that has a journal to adopt. -/
theorem wit_command_gemelAdopt (n : Nat) (j : Settings) (h : Config.twinJournal n = some j) : ∃ (q : Req) (s : State), clears 0x0C04 true 2 (firstOf [refuseIf (!(liveOps s 0x0C04).isEmpty) 0x0006, adoptChk s]) q s = true := by
  refine ⟨rq 0x0C04 [], { rdy with gemel := { gemelReset with lastRx := n } }, ?_⟩
  have e : adoptChk { rdy with gemel := { gemelReset with lastRx := n } } = none := by
    unfold adoptChk
    rw [show adopted { rdy with gemel := { gemelReset with lastRx := n } } = some j from h]
    rfl
  rw [e, show liveOps { rdy with gemel := { gemelReset with lastRx := n } } 0x0C04 = [] from rfl,
    show ∀ x, clears 0x0C04 true 2 x (rq 0x0C04 []) { rdy with gemel := { gemelReset with lastRx := n } } =
    clears 0x0C04 true 2 x (rq 0x0C04 []) rdy from fun _ => rfl]
  decide +kernel
/-- GEMEL.RESYNC on a pair whose twin must acknowledge, and the same command once its entry is stored. -/
theorem wit_command_gemelResync : ∃ (q : Req) (s : State), clearsToTwin 0x0C05 true 1 (firstOf [refuseIf (s.gemel.st != .paired) 0x0005, refuseIf (!(liveOps s 0x0C05).isEmpty) 0x0006]) q s = true :=
  ⟨rq 0x0C05 [], { rdy with gemel := { gemelReset with st := .paired } }, by decide +kernel⟩
theorem wit_stored_gemelResync : ∃ (q : Req) (s : State) (x : Storing) (k : Nat), s.cmd.finishing = some x ∧ freeSlot (onCmd (fun r => { r with finishing := none }) s) = some k :=
  ⟨rq 0x0C05 [], { rdy with gemel := { gemelReset with st := .paired },
                            cmd := { cmdReset with rings := [(0, ring0)], finishing := some ⟨1, rq 0x0C05 [], ⟨.host, 0⟩, 0, [], true, true⟩ } },
    ⟨1, rq 0x0C05 [], ⟨.host, 0⟩, 0, [], true, true⟩, 0, by decide +kernel⟩
/-- GET_CERTIFICATE from the start of the chain, which is never empty. -/
theorem wit_spdm_certificate : ∃ (doe : Bool) (off len : Nat) (s : State), spdmUp doe s = true ∧ (spdmOf doe s).algs = true ∧
    off < spdmChain.length :=
  ⟨true, 0, 1, { rdy with host := { hostReset with l0 := true, doe := ⟨true, true, true, []⟩ } }, by decide +kernel, by decide +kernel, by
    simp [spdmChain, leBytes]⟩

end Sys2Proof.Tests
end

section
/-! PROOFS. The scope statements on refusals: what a refusal leaves alone, and the refusal of an unassigned opcode. -/

namespace Sys2Proof.Machine

/-! ### What a refusal leaves alone -/

/-- A refusal is a command taken and a completion posted; each has its frame, and the posting's is the wider. -/
theorem refusedWith_fr (op r : Nat) (q : Req) (s : State) :
    Fr (pRings + pQueues + pDies + pSent) s (refusedWith op r q s) := by
  have taken : Fr (pRings + pQueues + pDies + pSent) s (takeCmd q s) :=
    keeps_takeCmd (sub_num rfl) q s (fr_refl _ s)
  exact keeps_complete (sub_num rfl) _ _ _ _ _ _ _ _ _ _ taken

/-- Settles O11: the second half of the refusal's frame. -/
theorem aRefusalChangesNothing : Obligations.ARefusalChangesNothing := by
  intro op r q s
  exact (refusedWith_fr op r q s).2

/-! ### The next command in the ring order -/

/-- What `nextCmd` finds: the head of the place's ring, and it may be taken (R390). -/
theorem nextCmd_some {s : State} {k : Nat} {q : Req} (h : nextCmd s = some (k, q)) :
    (∃ rest, ringWaiting s (ringAt k) = q :: rest) ∧ canTake (cat q.entry.opcode) q s = true := by
  obtain ⟨place, -, hfound⟩ := List.exists_of_findSome?_eq_some h
  split at hfound
  case h_1 head rest hwait =>
    split at hfound
    case isTrue htake => cases hfound; exact ⟨⟨rest, hwait⟩, htake⟩
    case isFalse => cases hfound
  case h_2 => cases hfound

/-- The round-robin pointer is no condition of taking a command. -/
@[simp] theorem canTake_onCmd_rr (c : CmdSpec) (q : Req) (n : Nat) (s : State) :
    canTake c q (onCmd (fun x => { x with rr := n }) s) = canTake c q s := rfl

/-- With its host memory readable, `COMMAND_TAKE` moves the pointer past the ring and handles the command. -/
theorem exec_commandTake_next {s : State} {k : Nat} {q : Req} (h : nextCmd s = some (k, q)) :
    exec (.commandTake true) s = .next (runReq q (onCmd (fun c => { c with rr := (k + 1) % 192 }) s)) := by
  show execCommandTake true s = _
  simp [execCommandTake, h]

/-! ### Unassigned opcodes -/

theorem runReq_unassigned {q : Req} {s : State} (h : execOp q s = none) : runReq q s = takeUnknown q s := by
  simp [runReq, h]

/-- A command of an unassigned opcode that may be taken is refused `UNKNOWN_OPCODE` (Table 17-7, order 1). -/
theorem takeUnknown_refused {q : Req} {s : State} (h : canTake (cat q.entry.opcode) q s = true) :
    takeUnknown q s = refusedWith q.entry.opcode 0x0001 q s := by
  simp [takeUnknown, refusedWith, h]

/-- Settles O13: the command found may still be taken once the pointer has moved, so the take refuses it. -/
theorem anUnassignedOpcodeIsRefused : Obligations.AnUnassignedOpcodeIsRefused := by
  intro k q s hnext hunassigned u
  obtain ⟨-, htake⟩ := nextCmd_some hnext
  have htake' : canTake (cat q.entry.opcode) q u = true := by rw [canTake_onCmd_rr, htake]
  calc exec (.commandTake true) s
    _ = .next (runReq q u) := exec_commandTake_next hnext
    _ = .next (takeUnknown q u) := by rw [runReq_unassigned (hunassigned u)]
    _ = .next (refusedWith q.entry.opcode 0x0001 q u) := by rw [takeUnknown_refused htake']

end Sys2Proof.Machine
end

section
/-! PROOFS. The scope statements on coordinates and slices: misdirected frames, the windows of function 0xF0, and the events
of bindings, drains, holds and commits. -/

namespace Sys2Proof.Machine

/-! ### Misdirected frames -/

/-- A link read after an update of a link. -/
theorem linkOf_onLink (l k : Nat) (f : Link → Link) (s : State) :
    linkOf (onLink l f s) k = if k = l then f (linkOf s l) else linkOf s k :=
  mget_mset linkDflt s.net.links l k (f (linkOf s l))

/-- A destination that names no rack of the fabric, or a slot of tray 63, is looked up as a misroute (R32). -/
theorem lookup_misdirected (s : State) (inp : Option (Nat × Nat)) {f : Frame}
    (h : 15 < coA f.dest ∨ 15 < coB f.dest ∨ (coT f.dest = 63 ∧ coS f.dest ≠ 0)) : lookup s inp f = .misroute :=
  if_pos (.inr h)

/-- So the ingress pipeline loses its frame, whether or not the frame's lookup entry is valid. -/
theorem fate_misdirected (s : State) (l : Nat) {f : Frame} (bad : Bool)
    (h : 15 < coA f.dest ∨ 15 < coB f.dest ∨ (coT f.dest = 63 ∧ coS f.dest ≠ 0)) : fate s l f bad = .lost .misroute := by
  cases bad with
  | true => rfl
  | false => simp [fate, lookup_misdirected s _ h]

/-- A link after a misroute is counted: on the ingress lane-port the one counter moves, every other link is as before. -/
theorem linkOf_countMisroute (l k : Nat) (s : State) :
    linkOf (countMisroute (some l) s) k =
      if k = l then { linkOf s l with misroute := inc32 (linkOf s l).misroute } else linkOf s k :=
  linkOf_onLink l k _ _

/-- Settles O18: the frame's fate is a misroute, and counting one writes the two counters alone. -/
theorem aMisdirectedFrameIsDiscarded : Obligations.AMisdirectedFrameIsDiscarded := by
  intro s l f bad hdest
  have hfate := fate_misdirected s l bad hdest
  refine ⟨hfate, ?_⟩
  rw [hfate, show dropFate l f (.lost .misroute) s = countMisroute (some l) s from rfl]
  refine ⟨?lanePort, rfl, ?sameLink, ?otherLinks, rfl, rfl, rfl⟩
  case lanePort => simp [linkOf_countMisroute, inc32]
  case sameLink => simp [linkOf_countMisroute]
  case otherLinks => intro k hk; simp [linkOf_countMisroute, hk]

/-! ### The windows of function 0xF0 -/

/-- A request to function 0xF0 whose bytes stay in one page: region 1 asks for slice 0 and for `MSG` at its two mailboxes,
region 0 may be read, and nothing else is there (R36, R38). -/
theorem windowCause_f0_inPage (s : State) {f : Frame} (hne : xRlen f ≠ 0) (hle : xRlen f ≤ 4096)
    (hpage : xOffset f % 4096 + xRlen f ≤ 4096) :
    windowCause s f 0xF0 =
      if xOffset f / 4096 = 1 ∧ f.slice ≠ 0 then some 2
      else if xOffset f = 0x1000 ∨ xOffset f = 0x1800 then
        if f.typ ≠ 9 then some 4
        else if xOffset f = 0x1000 ∧ (xRlen f < 16 ∨ 1024 < xRlen f) then some 4
        else none
      else if 4096 ≤ xOffset f ∨ f.typ != 1 then some 4
      else none := by
  have hserved : ¬ ((0xF0 : Nat) < 0xF0 ∨ 0xF3 < 0xF0) := by decide
  have hlen : ¬ (xRlen f = 0 ∨ 4096 < xRlen f ∨ 4096 < xOffset f % 4096 + xRlen f ∨ (f.typ = 9 ∧ (0xF0 : Nat) ≠ 0xF0)) := by omega
  unfold windowCause
  rw [if_neg hserved, if_neg hlen, if_pos rfl]

/-- A request of another slice than 0 to region 1 is `SLICE_DENIED`. -/
theorem windowCause_region1_otherSlice (s : State) {f : Frame} (hne : xRlen f ≠ 0) (hle : xRlen f ≤ 4096)
    (hpage : xOffset f % 4096 + xRlen f ≤ 4096) (hregion : xOffset f / 4096 = 1) (hslice : f.slice ≠ 0) :
    windowCause s f 0xF0 = some 2 := by
  rw [windowCause_f0_inPage s hne hle hpage, if_pos ⟨hregion, hslice⟩]

/-- A `READ` of region 0 is refused for nothing, whatever its slice. -/
theorem windowCause_region0_read (s : State) {f : Frame} (hread : f.typ = 1) (hne : xRlen f ≠ 0) (hle : xRlen f ≤ 4096)
    (hpage : xOffset f % 4096 + xRlen f ≤ 4096) (hregion : xOffset f < 4096) : windowCause s f 0xF0 = none := by
  have hregion1 : ¬ (xOffset f / 4096 = 1 ∧ f.slice ≠ 0) := by omega
  have hmailbox : ¬ (xOffset f = 0x1000 ∨ xOffset f = 0x1800) := by omega
  have hallowed : ¬ (4096 ≤ xOffset f ∨ (f.typ != 1) = true) := by simp [hread, hregion]
  rw [windowCause_f0_inPage s hne hle hpage, if_neg hregion1, if_neg hmailbox, if_neg hallowed]

/-- Settles O22: region 1 refuses the slice, and no check of region 0 reads it. -/
theorem regionOneTakesOnlySliceZero : Obligations.RegionOneTakesOnlySliceZero := by
  refine ⟨?region1, ?region0⟩
  case region1 => intro s f hne hle hpage; exact windowCause_region1_otherSlice s hne hle hpage
  case region0 => intro s f x hread hne hpage hregion hle; exact windowCause_region0_read s hread hne hle hpage hregion

/-! ### Holds, commits and the congestion map -/

/-- A period of the congestion map ends in a running module: the map is written, and the peaks start again. -/
theorem exec_congestionMapPeriod {s : State} (hrun : running s = true) (hkeel : s.sys.keelLost = false) :
    exec .congestionMapPeriod s =
      .next (restartPeaks (onCore (fun c => { c with map := congMap s, mapSeq := (c.mapSeq + 1) % 2 ^ 32 }) s)) := by
  show execCongestionMapPeriod s = _
  simp [execCongestionMapPeriod, hrun, hkeel]

theorem exec_holdDrained {tk : Nat} {s : State} (hticket : s.core.holdTicket = some tk) (hheld : s.core.held = true)
    (hidle : scaleOutIdle s = true) :
    exec .holdDrained s = .next (ticketDone tk (onCore (fun c => { c with holdTicket := none }) s)) := by
  show execHoldDrained s = _
  simp [execHoldDrained, hticket, hheld, hidle]

theorem exec_commitDrained {tk n : Nat} {s : State} (hcommit : s.core.commit = some (tk, n)) (hidle : scaleOutIdle s = true) :
    exec .commitDrained s = .next (commitBank tk s) := by
  show execCommitDrained s = _
  simp [execCommitDrained, hcommit, hidle]

theorem exec_commitDrainTimeout {tk n : Nat} {s : State} (hcommit : s.core.commit = some (tk, n)) :
    exec .commitDrainTimeout s = .next (ticketFail tk 0x0404 (onCore (fun c => { c with commit := none }) s)) := by
  show execCommitDrainTimeout s = _
  simp [execCommitDrainTimeout, hcommit]

/-! ### The steps of a rebinding, and the drain of a slice -/

/-- An object of a bind has drained: its scrub follows (R47). -/
theorem exec_bindDrainEnd {kind obj : Nat} {b : BindOp} {s : State} (hbind : bindAt s kind obj 1 = some b)
    (hdrained : drainedObj s kind obj = true) : exec (.bindDrainEnd kind obj) s = .next (setStep b obj 2 s) := by
  show execBindDrainEnd kind obj s = _
  simp [execBindDrainEnd, hbind, hdrained]

/-- An object of a bind is scrubbed: it takes its new slice, and the last one ends the bind. -/
theorem exec_bindScrubEnd {kind obj : Nat} {b : BindOp} {s : State} (hbind : bindAt s kind obj 2 = some b) :
    exec (.bindScrubEnd kind obj) s =
      .next (finishBind { b with steps := mput b.steps obj 3 }
        (setStep b obj 3 (bindObj kind obj b.toSlice true (scrubObj kind obj s)))) := by
  show execBindScrubEnd kind obj s = _
  simp [execBindScrubEnd, hbind]

/-- What a forced drain does to a lane-port: its frames that are not sent are discarded and counted (R49). -/
def forcedDrain (lp : Nat) (s : State) : State :=
  let unsent := unsentEnts (linkOf s lp)
  let discard := discardQueued lp (forEach unsent (dropTx lp) s)
  objEvent 0x0583 1 lp (onLink lp (fun k => { k with flushed := sat 32 (k.flushed + unsent.length + discard.1) })
    (onCore (fun c => { c with updTx := mdel c.updTx lp }) discard.2))

theorem exec_drainForced {lp : Nat} {s : State} (hdraining : draining s lp = true) (hbusy : lpIdle s lp = false) :
    exec (.drainForced lp) s = .next (forcedDrain lp s) := by
  show execDrainForced lp s = _
  simp [execDrainForced, forcedDrain, hdraining, hbusy]

/-- A drained slice that some object still names is DISABLED; with no `SLICE.DISABLE` begun, no ticket ends. -/
theorem exec_sliceDrainEnd_held {n : Nat} {s : State} (hdrain : mhas s.net.drains n = true)
    (hidle : (sliceLps s n).all (lpIdle s) = true)
    (hheld : sliceHeld (onNet (fun x => { x with drains := mdel x.drains n }) s) n = true)
    (hops : begunOps (setSlice n 1 (onNet (fun x => { x with drains := mdel x.drains n }) s)) 0x0503 = []) :
    exec (.sliceDrainEnd n) s = .next (setSlice n 1 (onNet (fun x => { x with drains := mdel x.drains n }) s)) := by
  show execSliceDrainEnd n s = _
  simp only [execSliceDrainEnd, hdrain, hidle, hheld, hops, Bool.and_self, if_true, List.find?_nil]

theorem exec_scrubGranuleFill {die granule : Nat} {s : State} (hdie : dieUsable s die = true) (hin : 65536 * granule < shardB) :
    exec (.scrubGranuleFill die granule) s = .next (fillGranule (die * shardB + 65536 * granule) s) := by
  show execScrubGranuleFill die granule s = _
  simp [execScrubGranuleFill, hdie, hin]

/-- Settles O44: each event under its condition. -/
theorem bindingEventsComplete : Obligations.BindingEventsComplete := by
  refine ⟨?map, ?hold, ?commit, ?commitTimeout, ?fence, ?drain, ?forced, ?scrub, ?slice, ?granule⟩
  case map => intro s hrun hkeel; exact exec_congestionMapPeriod hrun hkeel
  case hold => intro tk s hticket hheld hidle; exact exec_holdDrained hticket hheld hidle
  case commit => intro tk n s hcommit hidle; exact exec_commitDrained hcommit hidle
  case commitTimeout => intro tk n s hcommit; exact exec_commitDrainTimeout hcommit
  case fence => intro tk s; rfl
  case drain => intro kind obj b s hbind hdrained; exact exec_bindDrainEnd hbind hdrained
  case forced => intro lp s hdraining hbusy; exact exec_drainForced hdraining hbusy
  case scrub => intro kind obj b s hbind; exact exec_bindScrubEnd hbind
  case slice => intro n s hdrain hidle _ hheld hops; exact exec_sliceDrainEnd_held hdrain hidle hheld hops
  case granule => intro die granule s hdie hin; exact exec_scrubGranuleFill hdie hin

end Sys2Proof.Machine
end

section
/-! PROOFS. The scope statements on lanes, optics and cartridges: the state at entry to KEEL_UP, and the events of lanes,
links, optical engines and cartridge bays. -/

namespace Sys2Proof.Machine

/-! ### At entry to KEEL_UP -/

/-- Nothing is listed of any die: each reads as the die of default. -/
@[simp] theorem dieSt_reset (d : Nat) : dieSt State.reset d = dieDflt := rfl

/-- Nor of any tile. -/
@[simp] theorem tileOf_reset (t : Nat) : tileOf State.reset t = tileDflt := rfl

/-- Every pool is empty, a class beyond the eight included. -/
theorem poolOcc_reset (d c : Nat) : poolOcc State.reset d c = 0 := by
  rw [poolOcc, dieSt_reset, show dieDflt.poolOcc = List.replicate 8 0 from rfl, List.getD_eq_getElem?_getD,
    List.getElem?_replicate]
  split <;> rfl

/-- Settles O3: of the parts kept by number nothing is listed, so each reads as its default; the rest is stored. -/
theorem resetIsAsStated : Obligations.ResetIsAsStated := by
  refine ⟨?lanes, ?cells, ?counters, ?marks, ?tiles, rfl, rfl, rfl, rfl, rfl, rfl, rfl, rfl, rfl, rfl, ?brakes, rfl, ?rings,
    rfl, rfl, rfl⟩
  case lanes => intro l; rfl
  case cells => intro d c; exact ⟨rfl, poolOcc_reset d c⟩
  case counters => intro d; simp [dieDflt]
  case marks => intro q; rfl
  case tiles => intro t; exact ⟨rfl, rfl, rfl, rfl, rfl⟩
  case brakes => intro d; rfl
  case rings => intro k; rfl

/-! ### What an event does under its condition -/

/-- An event guarded by a condition takes its effect where the condition holds. -/
theorem next_of_guard {c : Prop} [Decidable c] {effect otherwise : State} (h : c) :
    (.next (if c then effect else otherwise) : Host.Outcome State Fault Refusal) = .next effect :=
  congrArg Host.Outcome.next (if_pos h)

/-! ### Lanes -/

/-- A detector that asserts on an ACTIVE lane: the lane is changed, recorded and reported, and its lane-port drops (R59). -/
theorem detect_active {lane code : Nat} {f : Lane → Lane} {s : State} (h : (laneOf s lane).power = .active) :
    detect lane code f s =
      let t := report (srcId 3 (lane / 4)) 3 (record code [(2, lane)] (onLane lane f s))
      dropLanes (laneLp t lane) t := by
  simp only [detect, h]

/-- The other lane reference of a fitted die takes over (R58). -/
theorem exec_refclkLoss_switches {die : Nat} {s : State} (hfitted : dieFitted s die = true) (hone : mget 0 s.net.refclk die ≠ 2) :
    exec (.refclkLoss die true) s =
      .next (record 0x0283 [(1, die)]
        (onNet (fun n => { n with refclk := mset 0 n.refclk die (1 - mget 0 s.net.refclk die) }) s)) := by
  show execRefclkLoss die true s = _
  simp [execRefclkLoss, hfitted, hone]

/-- With both references lost, every lane of the die goes to OFF and the die reports a fault (R58). -/
theorem exec_refclkLoss_bothLost {die : Nat} {s : State} (hfitted : dieFitted s die = true) (hone : mget 0 s.net.refclk die ≠ 2) :
    exec (.refclkLoss die false) s =
      .next (report (srcId 1 die) 6 (forEach ((List.range 32).map (32 * die + ·)) portOff
        (onNet (fun n => { n with refclk := mset 0 n.refclk die 2 }) s))) := by
  show execRefclkLoss die false s = _
  simp [execRefclkLoss, hfitted, hone]

/-- A tether block on an ACTIVE lane of a kite link moves the lane's block lock, and the link with it (R82). -/
theorem exec_tetherBlockRx_active {lane : Nat} {blk : Option Nat} {s : State} (hkite : lpLoc (laneLp s lane) ≠ 31)
    (hfitted : lane / 4 < 32 * s.id.n) (hactive : (laneOf s lane).power = .active) :
    exec (.tetherBlockRx lane blk) s =
      .next (lockMoves (laneLp s lane) (laneOf s lane).lock
        (onLane lane (tetherStep (blk.any tetherOk) (bitsAt (blk.getD 0) 176 167) (bitsAt (blk.getD 0) 166 151)) s)) := by
  have htaken : ¬ (lpLoc (laneLp s lane) = 31 ∨ lane / 4 ≥ 32 * s.id.n) :=
    not_or.mpr ⟨hkite, Nat.not_le.mpr hfitted⟩
  show execTetherBlockRx lane blk s = _
  simp only [execTetherBlockRx, if_neg htaken, hactive]

/-! ### Links -/

/-- A good control block of its type is handled (R84). -/
theorem ctlRx_ofType {l blk ty : Nat} {f : State → State} {s : State} (hlp : lpExists s l = true) (hkite : lpLoc l ≠ 31)
    (hgood : blockOk blk = true) (htype : blkType blk = ty) (hassigned : ty ≤ 4) : ctlRx l blk ty f s = f s := by
  simp [ctlRx, hlp, hkite, hgood, htype, Nat.not_lt.mpr hassigned]

/-- The phase of the `TRAIN` blocks that a link sends in a state (Table 4-12). -/
def trainPhase : LinkState → Option Nat
  | .locking | .exchange | .miscabled => some 0
  | .creditInit => some 1
  | .retrain => some 2
  | _ => none

/-- A due `TRAIN` block is sent with the phase of the link's state. -/
theorem exec_trainBlockDue {lp phase : Nat} {s : State} (hlp : lpExists s lp = true) (hkite : lpLoc lp ≠ 31)
    (hphase : trainPhase (linkOf s lp).st = some phase) : exec (.trainBlockDue lp) s = .next (sendTrain lp phase s) := by
  have htrains : ¬ (!lpExists s lp || lpLoc lp == 31) = true := by simp [hlp, hkite]
  show execTrainBlockDue lp s = _
  rw [execTrainBlockDue, if_neg htrains]
  cases hst : (linkOf s lp).st <;> simp_all [trainPhase]

/-- A storage link that locks is UP at once (R101). -/
theorem exec_storageLinkLock_up {port : Nat} {s : State} (hstorage : portLoc port = 31) (hfitted : portFitted s port = true)
    (hlocking : (linkOf s (4 * port)).st = .locking) :
    exec (.storageLinkLock port true) s = .next (linkEvent 0x0287 (4 * port) .locking (setLink (4 * port) .up s)) := by
  show execStorageLinkLock port true s = _
  simp [execStorageLinkLock, hstorage, hfitted, hlocking]

/-- Settles O45: each event under its condition. -/
theorem laneAndLinkEventsComplete : Obligations.LaneAndLinkEventsComplete := by
  refine ⟨?powered, ?noLock, ?retry, ?lossOfSignal, ?lossOfLock, ?refclkSwitch, ?refclkLost, ?lift, ?dozeIdle, ?dozeBlock,
    ?linkCtl, ?train, ?trainLocking, ?trainCredit, ?trainRetrain, ?creditReturn, ?replay, ?locking, ?exchange, ?retrainEnd,
    ?recheck, ?flush, ?tether, ?storage⟩
  case powered => intro lp s hpowering; exact next_of_guard hpowering
  case noLock => intro lp s hpowering; exact next_of_guard hpowering
  case retry => intro lp s hoff hlive hon; exact next_of_guard (by simp [hoff, hlive, hon])
  case lossOfSignal => intro lane s hactive; exact congrArg Host.Outcome.next (detect_active hactive)
  case lossOfLock => intro lane s hactive; exact congrArg Host.Outcome.next (detect_active hactive)
  case refclkSwitch => intro die s hfitted hone; exact exec_refclkLoss_switches hfitted hone
  case refclkLost => intro die s hfitted hone; exact exec_refclkLoss_bothLost hfitted hone
  case lift => intro lp s hlifting; exact next_of_guard hlifting
  case dozeIdle => intro lp s hdoze hreq; exact next_of_guard (by simp [hdoze, hreq])
  case dozeBlock =>
    intro lp blk s hlp hkite hgood htype hup
    calc exec (.dozeBlockRx lp blk) s
      _ = .next (if linkUp s lp then dozeMsg lp (bitsAt blk 247 246) s else s) :=
        congrArg Host.Outcome.next (ctlRx_ofType hlp hkite hgood htype (by decide))
      _ = .next (dozeMsg lp (bitsAt blk 247 246) s) := next_of_guard hup
  case linkCtl =>
    intro lp blk s hlp hkite hgood htype hst
    refine congrArg Host.Outcome.next ((ctlRx_ofType hlp hkite hgood htype (by decide)).trans ?_)
    simp only [hst]
  case train =>
    intro lp blk s hlp hkite hgood htype
    exact congrArg Host.Outcome.next (ctlRx_ofType hlp hkite hgood htype (by decide))
  case trainLocking => intro lp s hlp hkite hst; exact exec_trainBlockDue hlp hkite (by rw [hst]; rfl)
  case trainCredit => intro lp s hlp hkite hst; exact exec_trainBlockDue hlp hkite (by rw [hst]; rfl)
  case trainRetrain => intro lp s hlp hkite hst; exact exec_trainBlockDue hlp hkite (by rw [hst]; rfl)
  case creditReturn => intro lp s hup; exact next_of_guard hup
  case replay => intro lp s hup hsent; exact next_of_guard (by simp [hup, hsent])
  case locking => intro lp s hst hkite; exact next_of_guard ⟨hst, hkite⟩
  case exchange => intro lp s hst; exact next_of_guard hst
  case retrainEnd => intro lp s hst; exact next_of_guard hst
  case recheck => intro lp s hst; exact next_of_guard hst
  case flush => intro lp s hleft hdown; exact next_of_guard (by simp [hleft, hdown])
  case tether => intro lane blk s hkite hfitted hactive; exact exec_tetherBlockRx_active hkite hfitted hactive
  case storage => intro port s _ hstorage hfitted hlocking; exact exec_storageLinkLock_up hstorage hfitted hlocking

/-! ### Optical engines, inspections and lane tests -/

/-- A connector of a running inspection is graded (R66). -/
theorem exec_inspectConnectorDone_running {port : Nat} {rds : List OptRead} {x : Inspect} {s : State}
    (hfound : (s.net.inspects.find? fun x => x.phase == 0 && x.todo.contains port) = some x)
    (hrun : tkRunning s x.ticket = true) :
    exec (.inspectConnectorDone port rds) s = .next (inspectStep x port (gradePort s port rds) s) := by
  show execInspectConnectorDone port rds s = _
  simp only [execInspectConnectorDone, hfound, hrun, if_true]

/-- The actuator's time is over: its request ends, and the clean waits (R67). -/
theorem exec_cleanDurationEnd_waits {x : Inspect} {s : State} (hfound : (s.net.inspects.find? fun x => x.phase == 1) = some x) :
    exec .cleanDurationEnd s =
      .next (onInspect x.ticket (fun y => { y with phase := 2 }) (onNet (fun n => { n with cleanReq := false }) s)) := by
  show execCleanDurationEnd s = _
  simp only [execCleanDurationEnd, hfound]

/-- A cleaned row with its isolated ports, which are not inspected, left UNGRADED (R78). -/
def rowUngraded (d : Nat) (s : State) : State := forEach ((rowPorts d).filter (portIsolated s)) (fun p => setGrade p 0) s

/-- The ports of a die's row that an inspection after a clean visits. -/
def rowToInspect (d : Nat) (s : State) : List Nat := (rowPorts d).filter fun p => !portIsolated s p

/-- The wait is over and some port of the row can be inspected: its inspection begins (R67). -/
theorem exec_cleanWaitEnd_inspects {x : Inspect} {d : Nat} {s : State}
    (hfound : (s.net.inspects.find? fun x => x.phase == 2) = some x) (hdie : x.die = some d)
    (htodo : rowToInspect d (rowUngraded d s) ≠ []) :
    exec .cleanWaitEnd s =
      .next (onInspect x.ticket (fun _ => { x with phase := 0, todo := rowToInspect d (rowUngraded d s) })
        (rowUngraded d s)) := by
  have hbusy : (rowToInspect d (rowUngraded d s)).isEmpty = false := by simpa using htodo
  show execCleanWaitEnd s = _
  unfold rowToInspect rowUngraded at *
  simp only [execCleanWaitEnd, hfound, hdie, hbusy, Bool.false_eq_true, if_false]

/-- What a lane test reports of one lane: its bits and errors, none of a lane that had not locked (Table 3-2). -/
def laneTestResult (loop : Nat) (c : Nat × Nat × Bool) : List Byte :=
  if loop = 0 || c.2.2 then leBytes 8 (sat 64 c.1) ++ leBytes 8 (sat 64 c.2.1) else leBytes 16 0

/-- A running lane test ends with its lanes' results on its ticket. -/
theorem exec_laneTestEnd_running {tk : Nat} {counts : List (Nat × Nat × Bool)} {x : LaneTest} {s : State}
    (hfound : (s.net.tests.find? fun x => x.ticket == tk) = some x) (hrun : runningTk s tk 0x0207 = true) :
    exec (.laneTestEnd tk counts) s =
      .next (ticketDone tk (ticketResult tk
        ((List.range x.count).flatMap fun i => laneTestResult x.loop (counts.getD i (0, 0, false))) (testOff x s))) := by
  show execLaneTestEnd tk counts s = _
  simp only [execLaneTestEnd, laneTestResult, hfound, hrun, if_true]

/-! ### Cartridge bays -/

/-- A bay that held nothing answers a poll: it has changed, and its record is to be read (R73). -/
theorem exec_cartPoll_answered {bay : Nat} {b : List Byte} {s : State} (hkeel : keelOn s = true) (hfitted : bay < 3 * s.id.n)
    (hidle : mhas s.net.rescans bay = false) (habsent : (bayOf s bay).cstatus = 1) :
    exec (.cartPoll bay (some b)) s = .next (onNet (fun n => { n with rescans := mput n.rescans bay 0 }) (bayChanged bay s)) :=
  next_of_guard (by simp [hkeel, hfitted, hidle, habsent])

/-- A record read for no ticket is taken. -/
theorem exec_cartRecordReadDone_ticketless {bay : Nat} {raw : Option (List Byte)} {s : State} (hkeel : keelOn s = true)
    (hrescan : mfind s.net.rescans bay = some 0) :
    exec (.cartRecordReadDone bay raw) s = .next (takeBay bay raw (onNet (fun n => { n with rescans := mdel n.rescans bay }) s)) := by
  show execCartRecordReadDone bay raw s = _
  simp [execCartRecordReadDone, hrescan, hkeel, whenS]

/-- Settles O46: each event under its condition. -/
theorem opticsEventsComplete : Obligations.OpticsEventsComplete := by
  refine ⟨?reading, ?inspect, ?cleaned, ?waited, ?laneTest, ?poll, ?record⟩
  case reading => intro engine rds s hoptics hdie; exact next_of_guard (by simp [hoptics, hdie])
  case inspect => intro port rds x s hfound hrun; exact exec_inspectConnectorDone_running hfound hrun
  case cleaned => intro x s hfound; exact exec_cleanDurationEnd_waits hfound
  case waited => intro x d u s hfound hdie hu htodo; subst hu; exact exec_cleanWaitEnd_inspects hfound hdie htodo
  case laneTest => intro tk counts x s hfound hrun; exact exec_laneTestEnd_running hfound hrun
  case poll => intro bay b s hkeel hfitted hidle habsent; exact exec_cartPoll_answered hkeel hfitted hidle habsent
  case record => intro bay raw s hkeel hrescan; exact exec_cartRecordReadDone_ticketless hkeel hrescan

end Sys2Proof.Machine
end

section
/-! PROOFS. The scope statements on the kite link and the storage port: frames out of sequence, and the events of storage
ports, tier-3 targets and gate lists. -/

namespace Sys2Proof.Machine

/-! ### Frames out of sequence -/

/-- A change of links and of what is sent leaves the switch core, tiles, memory, settings and fault state as they were. -/
theorem sameExcept_links_sent_frame {s t : State} (h : SameExcept (pLinks + pSent) s t) :
    t.core = s.core ∧ t.tile = s.tile ∧ t.mem = s.mem ∧ t.set = s.set ∧ t.flt = s.flt := by
  obtain ⟨-, -, -, -, -, -, -, hflt, -, -, -, hcore, hdies, htile, hspad, hmem, hhbm, -, -, -, -, -, -, hset, -⟩ := h
  refine ⟨?core, ?tile, ?mem, hset rfl, hflt rfl⟩
  case core => have hrest := hcore rfl; rwa [← hdies rfl] at hrest
  case tile => have hrest := htile rfl; rwa [← hspad rfl] at hrest
  case mem => have hrest := hmem rfl; rwa [← hhbm rfl] at hrest

/-- A good frame out of sequence: a closed lane-port does nothing with it; elsewhere its acknowledgement is taken and at most
an acknowledgement or a `NAK` answers it (R95). -/
theorem arrive_out_of_sequence {l : Nat} {f : Frame} {par : Option Nat} {s : State} (hgood : lcrcOk f = true)
    (hseq : f.seq ≠ (linkOf (takeAck l f.ack f.ackValid f.nak s) l).rxNext) :
    arrive l f par s = s ∨ Fr (pLinks + pSent) (takeAck l f.ack f.ackValid f.nak s) (arrive l f par s) := by
  have hkept : ¬ (!lcrcOk f) = true := by simp [hgood]
  have taken := fr_refl (pLinks + pSent) (takeAck l f.ack f.ackValid f.nak s)
  unfold arrive
  dsimp only
  rw [if_neg hkept, if_neg hseq]
  split
  case isTrue hclosed => exact .inl rfl
  case isFalse hopen =>
    right
    split
    case isTrue hdown => exact taken
    case isFalse hup =>
      split
      case isTrue hdup =>
        exact keeps_sendAck (sub_num rfl) l false _ (keeps_onLink (sub_num rfl) l _ _ taken)
      case isFalse hahead => exact keeps_sendNak (sub_num rfl) l _ taken

/-- Settles O19: what follows the acknowledgement touches links and sends alone. -/
theorem onlyTheNextSequenceIsTaken : Obligations.OnlyTheNextSequenceIsTaken := by
  intro l f par s t hgood hseq hexec
  obtain rfl : arrive l f par s = t := Host.Outcome.next.inj hexec
  exact (arrive_out_of_sequence hgood hseq).imp_right fun h => sameExcept_links_sent_frame h.2

/-! ### The storage port -/

/-- A RoCEv2 acknowledgement that the reservation holds is charged and handled (R102, R117). -/
theorem exec_ethPacketRx_ackRoce {port qp psn : Nat} {s : State} (hstorage : portLoc port = 31)
    (hfitted : portFitted s port = true) (hup : (linkOf s (4 * port)).st = .up)
    (hroom : ethCells s port + pktCells (.ackRoce qp psn) ≤ 2048) :
    exec (.ethPacketRx port (.ackRoce qp psn)) s =
      .next (handleEth port (.ackRoce qp psn) (chargeEth port (pktCells (.ackRoce qp psn)) s)) := by
  show execEthPacketRx port (.ackRoce qp psn) s = _
  simp [execEthPacketRx, hstorage, hfitted, hup, Nat.not_lt.mpr hroom]

/-- A queue pair with packets unacknowledged resends them, up to 7 times; then its target has failed (R102). -/
theorem exec_roceAckTimeout_unacked {qp : Nat} {x : QPair} {s : State} (hfound : mfind s.net.qps qp = some x)
    (hunacked : x.unacked ≠ []) :
    exec (.roceAckTimeout qp) s =
      .next (if 7 ≤ x.retries then targetDown x.target s
        else goBackN qp (onQp qp (fun x => { x with retries := x.retries + 1 }) s)) := by
  show execRoceAckTimeout qp s = _
  simp [execRoceAckTimeout, hfound, hunacked]

/-- A target that answered its last Keep Alive is sent the next one (R103). -/
theorem exec_nvmeKeepAlive_sends {tgt : Nat} {s : State} (hlisted : mhas s.set.targets tgt = true)
    (hup : mget true s.snap.targetUp tgt = true) (hanswered : mget false s.snap.kaWait tgt = false) :
    exec (.nvmeKeepAlive tgt) s =
      .next (nvmeSend tgt 4 0 [] (onSnap (fun x => { x with kaWait := mput x.kaWait tgt true }) s)) := by
  show execNvmeKeepAlive tgt s = _
  simp [execNvmeKeepAlive, hlisted, hup, hanswered]

/-! ### Gate lists -/

/-- At its start a pending list that has entries, and that no ticket waits for, becomes the operational list (R175). -/
theorem exec_gateTakeover_ticketless {lp : Nat} {g : GateList} {s : State} (hpending : gatePendList s lp = some g)
    (hdue : g.startFt ≤ ftNs s) (hticket : g.ticket = none) (hentries : g.entries ≠ []) :
    exec (.gateTakeover lp) s =
      .next (record 0x0681 [(2, lp), (8, g.startFt), (4, gateCycle g.entries)]
        (onQos (fun x => { x with gateOp := mput x.gateOp lp g, gatePend := mdel x.gatePend lp }) s)) := by
  show execGateTakeover lp s = _
  simp [execGateTakeover, hpending, hdue, hticket, hentries]

/-- Events recorded one after another change neither the switch core nor the settings. -/
theorem forEach_record_core_set {α : Type} (code : Nat) (items : α → List (Nat × Nat)) (l : List α) (s : State) :
    (forEach l (fun e => record code (items e)) s).core = s.core ∧
      (forEach l (fun e => record code (items e)) s).set = s.set :=
  ⟨forEach_frame State.core _ (fun e t => record_core t code (items e)) l s,
    forEach_frame State.set _ (fun e t => record_set t code (items e)) l s⟩

/-- With no source of time, the restored lists start at the module's own time, and nothing waits any more (R179). -/
theorem exec_gateFreeRunStart_starts {s : State} (hwait : s.core.gateWait = true) (hrun : running s = true)
    (hroot : s.set.timeRoot = false) (hparent : s.time.parent = none) :
    ∃ t, exec .gateFreeRunStart s = .next t ∧ t.core.gateWait = false ∧
      t.set.qos.gateOp =
        s.set.qos.gateOp.map fun e => (e.1, if e.2.ticket.isNone then { e.2 with startFt := ftNs s } else e.2) := by
  have hstarts : (s.core.gateWait && running s && !s.set.timeRoot && s.time.parent.isNone) = true := by
    simp [hwait, hrun, hroot, hparent]
  refine ⟨_, next_of_guard hstarts, ?wait, ?lists⟩
  case wait => exact congrArg CoreSt.gateWait (forEach_record_core_set _ _ _ _).1
  case lists => exact congrArg (fun x : Settings => x.qos.gateOp) (forEach_record_core_set _ _ _ _).2

/-- Settles O47: each event under its condition. -/
theorem storagePortEventsComplete : Obligations.StoragePortEventsComplete := by
  refine ⟨?packet, ?resend, ?failed, ?rate, ?keepAlive, ?reconnect, ?takeover, ?freeRun⟩
  case packet => intro port qp psn s hstorage hfitted hup hroom; exact exec_ethPacketRx_ackRoce hstorage hfitted hup hroom
  case resend =>
    intro qp x s hfound hunacked hfew
    rw [exec_roceAckTimeout_unacked hfound hunacked, if_neg (Nat.not_le.mpr hfew)]
  case failed =>
    intro qp x s hfound hunacked hmany
    rw [exec_roceAckTimeout_unacked hfound hunacked, if_pos hmany]
  case rate => intro qp s hpair; exact next_of_guard hpair
  case keepAlive => intro tgt s hlisted hup hanswered; exact exec_nvmeKeepAlive_sends hlisted hup hanswered
  case reconnect => intro tgt s hlisted hdown; exact next_of_guard (by simp [hlisted, hdown])
  case takeover =>
    intro lp g s hpending hdue hticket hentries
    exact exec_gateTakeover_ticketless hpending hdue hticket hentries
  case freeRun => intro s hwait hrun hroot hparent; exact exec_gateFreeRunStart_starts hwait hrun hroot hparent

end Sys2Proof.Machine
end

section
/-! PROOFS. The scope statements on the switch core: the events of frames, cells, pools, tables, die clocks and spars. -/

namespace Sys2Proof.Machine

/-! ### Frames in and out -/

/-- A good frame in sequence, on a link that its acknowledgement leaves UP, is taken (R95). -/
theorem arrive_in_sequence {l : Nat} {f : Frame} {par : Option Nat} {s : State} (hup : linkUp s l = true)
    (hkite : lpLoc l ≠ 31) (hlanes : lanesActive s l = true) (hgood : lcrcOk f = true)
    (hstill : (linkOf (takeAck l f.ack f.ackValid f.nak s) l).st = .up)
    (hseq : f.seq = (linkOf (takeAck l f.ack f.ackValid f.nak s) l).rxNext) :
    arrive l f par s = takeRx l f par (takeAck l f.ack f.ackValid f.nak s) := by
  have hopen : ¬ (!linkUp s l || lpLoc l == 31 || !lanesActive s l) = true := by simp [hup, hkite, hlanes]
  have hkept : ¬ (!lcrcOk f) = true := by simp [hgood]
  unfold arrive
  dsimp only
  rw [if_neg hopen, if_neg hkept, if_neg (not_not_intro hstill), if_pos hseq]

/-- Without a parity error in the leaf read, the lane-port grants its next frame. -/
theorem exec_egressGrant_next {lp : Nat} {s : State} (hlp : lpExists s lp = true) :
    exec (.egressGrant lp none) s = .next (grantNext lp s) := by
  show execEgressGrant lp none s = _
  simp [execEgressGrant, hlp]

/-- A frame of which some cells landed, not all, and whose sending has not begun is lost, and the discard counted (R136). -/
theorem exec_partialFrameTimeout_discards {lp fid : Nat} {x : TxEnt} {s : State}
    (hfound : (unsentEnts (linkOf s lp)).find? (fun t => t.id == fid) = some x) (hbegun : x.firstAt.isSome = true)
    (hpartial : x.landed < x.total) (hunsent : x.started = false) :
    exec (.partialFrameTimeout lp fid) s =
      .next (frameLost x.frame
        (onDie (lpDie lp) (fun d => { d with partialDiscard := inc32 d.partialDiscard }) (dropTx lp x s))) := by
  have hoverdue : ¬ (x.firstAt.isNone || decide (x.total ≤ x.landed)) = true := by
    simp [Option.isSome_iff_ne_none.mp hbegun, Nat.not_le.mpr hpartial]
  have hcut : ¬ (x.started && linkUp s lp) = true := by simp [hunsent]
  show execPartialFrameTimeout lp fid s = _
  simp only [execPartialFrameTimeout, hfound, if_neg hoverdue, if_neg hcut]

/-! ### The free store -/

/-- A free cell whose two state words disagree is retired, and the parity error counted; no frame holds it (Table 5-6). -/
theorem exec_freeStoreAudit_retires {die cell : Nat} {s : State} (hfitted : dieFitted s die = true)
    (hcell : cell < cellTotal) (hclock : (dieSt s die).clockOn = true)
    (hfree : (mget cellDflt (dieSt s die).cells cell).used = false) :
    exec (.freeStoreAudit die cell false true) s =
      .next (onDie die (fun x => { x with parity := inc32 x.parity }) (retireCell die cell s)) := by
  show execFreeStoreAudit die cell false true s = _
  simp [execFreeStoreAudit, whenS, hfitted, Nat.not_le.mpr hcell, hclock, hfree]

/-! ### Spars -/

/-- A cell as it lands: the time of the spar crossed is in its age, which stops at 127. -/
def agedOver (die far : Nat) (s : State) (k : SparCell) : SparCell :=
  { k with age := min 127 (k.age + sparTime s.id.n far die) }

/-- The oldest cell in flight from a die has left the spar. -/
def offSpar (die far : Nat) (rest : List SparCell) (s : State) : State :=
  onDie far (fun d => { d with flight := mset [] d.flight die rest }) s

/-- A good cell leaves the spar, older by its crossing: at the die it is for it lands, elsewhere it waits to go on
(Table 6-2, R133). -/
theorem exec_sparCellLand_good {die far : Nat} {k : SparCell} {rest : List SparCell} {s : State}
    (hflight : mget [] (dieSt s far).flight die = k :: rest) :
    exec (.sparCellLand die far true) s =
      .next (if k.dstDie = die then landCell (agedOver die far s k) (offSpar die far rest s)
        else onDie die (fun d => { d with landing := d.landing ++ [agedOver die far s k] }) (offSpar die far rest s)) := by
  show execSparCellLand die far true s = _
  rw [execSparCellLand, hflight]
  rfl

/-- Settles O43: each event under its condition. -/
theorem switchEventsComplete : Obligations.SwitchEventsComplete := by
  refine ⟨?arrival, ?stored, ?grant, ?transmit, ?room, ?audit, ?rewrite, ?stop, ?lift, ?fill, ?landHere, ?landOn, ?partialFrame,
    ?retrain, ?up⟩
  case arrival =>
    intro lp f par s hup hkite hlanes hgood hstill hseq
    exact congrArg Host.Outcome.next (arrive_in_sequence hup hkite hlanes hgood hstill hseq)
  case stored => intro lp fid s; rfl
  case grant => intro lp s hlp; exact exec_egressGrant_next hlp
  case transmit => intro lp bad s hup hlanes; exact next_of_guard (by simp [hup, hlanes])
  case room => intro die cls s hfitted hcls hwaits; exact next_of_guard ⟨hfitted, hcls, hwaits⟩
  case audit => intro die cell s hfitted hcell hclock hfree; exact exec_freeStoreAudit_retires hfitted hcell hclock hfree
  case rewrite => intro die table entry s hkeel; exact congrArg Host.Outcome.next (if_neg (by simp [hkeel]))
  case stop => intro die s hfitted hmay; exact next_of_guard (by simp [hfitted, hmay])
  case lift => intro die s hfitted; exact next_of_guard hfitted
  case fill => intro die s husable hclock; exact next_of_guard (by simp [husable, hclock])
  case landHere =>
    intro die far k rest s hflight hhere
    exact (exec_sparCellLand_good hflight).trans (next_of_guard hhere)
  case landOn =>
    intro die far k rest s hflight hon
    exact (exec_sparCellLand_good hflight).trans (congrArg Host.Outcome.next (if_neg hon))
  case partialFrame =>
    intro lp fid x s hfound hbegun hpartial hunsent
    exact exec_partialFrameTimeout_discards hfound hbegun hpartial hunsent
  case retrain =>
    intro die far s hwaits husable hfar hfree
    exact next_of_guard (by simp [hwaits, husable, hfar, hfree])
  case up => intro die far s htrained hgood hfarGood; exact next_of_guard (by simp [htrained, hgood, hfarGood])

end Sys2Proof.Machine
end

section
/-! PROOFS. The scope statements on spars and routing: `ROUTE.WRITE`, and a commit of the routing banks. -/

namespace Sys2Proof.Machine

/-! ### What stands around a command's effect -/

/-- What the command framework itself may change: tickets, history, rings, what is queued for a client, the twin's part and
what has been sent. -/
def pHandling : Nat := pTickets + pHistory + pRings + pQueues + pDies + pTwin + pSent

/-- Around the effect of a command that is no long operation, its entry and its completion. -/
theorem commit_short_fr {c : CmdSpec} (hshort : c.long = false) (apply : State → State × List Byte) (jnl : Bool) (q : Req)
    (cl : Client) (slot : Nat) (seqs : List Nat) (s : State) :
    Fr pHandling (apply s).1 (commit c apply jnl q cl slot seqs s) := by
  have applied := fr_refl pHandling (apply s).1
  simp only [commit, hshort, Bool.false_eq_true, if_false]
  apply keeps_complete (sub_num rfl)
  split
  case isTrue hjournals =>
    exact keeps_histAdd (sub_num rfl) _ _ (keeps_whenS _ _ (fun t ht => keeps_journalE (sub_num rfl) _ t ht) applied)
  case isFalse => exact applied

/-- Handling a command that is no long operation: the framework changes its own parts alone, or it applies the effect to a
state, and its own parts alone change before and after that (R391). -/
theorem runCommand_around_effect {c : CmdSpec} (hshort : c.long = false) (lenOk : Bool) (priv : Nat) (chk : Option Nat)
    (refRes : List Byte) (apply : State → State × List Byte) (q : Req) (s : State) :
    let t := runCommand c lenOk priv chk refRes apply q s
    Fr pHandling s t ∨ ∃ u, Fr pHandling s u ∧ Fr pHandling (apply u).1 t := by
  have unmoved := fr_refl pHandling s
  have taken : Fr pHandling s (takeCmd q s) := keeps_takeCmd (sub_num rfl) q s unmoved
  simp only [runCommand, hshort, Bool.false_eq_true, if_false]
  split
  case h_1 x hfinishing =>
    exact .inr ⟨_, keeps_onCmd _ (sub_num rfl) unmoved, commit_short_fr hshort _ _ _ _ _ _ _⟩
  case h_2 =>
    split
    case isTrue hwaits => exact .inl unmoved
    case isFalse =>
      split
      case h_1 e hreplay => exact .inl (keeps_replayCmd (sub_num rfl) _ _ _ _ _ taken)
      case h_2 =>
        split
        case h_1 r hrefused => exact .inl (keeps_complete (sub_num rfl) _ _ _ _ _ _ _ _ _ _ taken)
        case h_2 =>
          split
          case isTrue hlost => exact .inl (keeps_complete (sub_num rfl) _ _ _ _ _ _ _ _ _ _ taken)
          case isFalse =>
            split
            case isTrue hack =>
              exact .inl (keeps_onCmd _ (sub_num rfl) (keeps_journalE (sub_num rfl) _ _ taken))
            case isFalse => exact .inr ⟨_, taken, commit_short_fr hshort _ _ _ _ _ _ _⟩

/-! ### What the lookup reads -/

/-- Neither the part, nor the module's state, nor its fault sources, nor its links differ, and of the settings at most the
shadow bank. -/
def SameButShadow (s t : State) : Prop :=
  t.id = s.id ∧ t.sys = s.sys ∧ t.flt = s.flt ∧ t.net = s.net ∧ { t.set with shadow := s.set.shadow } = s.set

theorem SameButShadow.trans {s t u : State} (h : SameButShadow s t) (g : SameButShadow t u) : SameButShadow s u := by
  obtain ⟨hid, hsys, hflt, hnet, hset⟩ := h
  obtain ⟨gid, gsys, gflt, gnet, gset⟩ := g
  refine ⟨gid.trans hid, gsys.trans hsys, gflt.trans hflt, gnet.trans hnet, ?_⟩
  calc { u.set with shadow := s.set.shadow }
    _ = { { u.set with shadow := t.set.shadow } with shadow := s.set.shadow } := rfl
    _ = { t.set with shadow := s.set.shadow } := by rw [gset]
    _ = s.set := hset

/-- The framework's own changes leave the settings in force alone. -/
theorem settings_of_handling {s t : State} (h : Fr pHandling s t) : t.set = s.set := by
  obtain ⟨-, -, -, -, -, -, -, -, -, -, -, -, -, -, -, -, -, -, -, -, -, -, -, -, hset, -⟩ := h
  exact hset rfl

/-- And the other parts that the lookup reads. -/
theorem sameButShadow_of_handling {s t : State} (h : Fr pHandling s t) : SameButShadow s t := by
  have hset := settings_of_handling h
  obtain ⟨-, hid, -, hsys, -, -, -, -, hflt, -, hnet, hscrub, -⟩ := h
  refine ⟨hid, hsys rfl, hflt rfl, ?net, ?set⟩
  case net => have hrest := hnet rfl; rwa [← hscrub rfl] at hrest
  case set => rw [hset]

/-- A change of the shadow bank is one of the shadow bank. -/
theorem sameButShadow_modSet (f : Bank → Bank) (s : State) :
    SameButShadow s (modSet (fun x => { x with shadow := f x.shadow }) s) := ⟨rfl, rfl, rfl, rfl, rfl⟩

/-- The lookup reads the part, the module's state, its fault sources, its links and the settings. -/
theorem lookup_of_parts {s t : State} (hid : t.id = s.id) (hsys : t.sys = s.sys) (hflt : t.flt = s.flt)
    (hnet : t.net = s.net) (hset : t.set = s.set) (inp : Option (Nat × Nat)) (f : Frame) :
    lookup t inp f = lookup s inp f := by
  cases s; cases t; cases hid; cases hsys; cases hflt; cases hnet; cases hset
  rfl

/-- Of the settings it does not read the shadow bank (R153). -/
theorem lookup_onSet_shadow (b : Bank) (s : State) (inp : Option (Nat × Nat)) (f : Frame) :
    lookup (onSet (fun x => { x with shadow := b }) s) inp f = lookup s inp f := rfl

theorem SameButShadow.lookup_eq {s t : State} (h : SameButShadow s t) (inp : Option (Nat × Nat)) (f : Frame) :
    lookup t inp f = lookup s inp f := by
  obtain ⟨hid, hsys, hflt, hnet, hset⟩ := h
  calc lookup t inp f
    _ = lookup (onSet (fun x => { x with shadow := s.set.shadow }) t) inp f := (lookup_onSet_shadow _ t inp f).symm
    _ = lookup s inp f :=
      lookup_of_parts (t := onSet (fun x => { x with shadow := s.set.shadow }) t) hid hsys hflt hnet hset inp f

/-! ### ROUTE.WRITE -/

/-- The effect of `ROUTE.WRITE`. -/
def writeShadow (q : Req) (s : State) : State := modSet (fun x => { x with shadow := writeBank q s.id.n x.shadow }) s

theorem exec_routeWrite (q : Req) (s : State) :
    exec (.routeWrite q) s =
      .next (runCommand (cat 0x0401) true (cat 0x0401).priv (chkRouteWrite q s) [] (act (writeShadow q)) q s) := rfl

theorem routeWrite_short : (cat 0x0401).long = false := by decide +kernel

/-- However it is handled, `ROUTE.WRITE` changes no setting but the shadow bank, and nothing else that the lookup reads. -/
theorem sameButShadow_routeWrite {q : Req} {s t : State} (h : exec (.routeWrite q) s = .next t) : SameButShadow s t := by
  rw [exec_routeWrite] at h
  cases h
  obtain hown | ⟨u, hbefore, hafter⟩ :=
    runCommand_around_effect routeWrite_short true (cat 0x0401).priv (chkRouteWrite q s) [] (act (writeShadow q)) q s
  · exact sameButShadow_of_handling hown
  · have heffect : SameButShadow u (writeShadow q u) := sameButShadow_modSet _ u
    exact ((sameButShadow_of_handling hbefore).trans heffect).trans (sameButShadow_of_handling hafter)

/-- With nothing between it and its effect, `ROUTE.WRITE` writes its fields into the shadow bank. -/
theorem served_routeWrite_shadow (q : Req) (s : State) :
    (served 0x0401 (act (writeShadow q)) q s).set.shadow = writeBank q s.id.n s.set.shadow := by
  have hset : (served 0x0401 (act (writeShadow q)) q s).set = (writeShadow q (takeCmd q s)).set :=
    settings_of_handling (commit_short_fr routeWrite_short _ _ _ _ _ _ _)
  rw [hset]
  simp [writeShadow]

/-- Settles O16: the framework around the command's effect leaves what the lookup reads alone, and the effect writes the
shadow bank, which the lookup does not read. -/
theorem routeWriteLeavesForwarding : Obligations.RouteWriteLeavesForwarding := by
  refine ⟨?unchanged, ?written⟩
  case unchanged =>
    intro q s t h
    have hsame := sameButShadow_routeWrite h
    have ⟨_, _, _, _, hset⟩ := hsame
    exact ⟨hset, hsame.lookup_eq⟩
  case written =>
    intro q s hclears
    refine ⟨served 0x0401 (act (writeShadow q)) q s, ?_, served_routeWrite_shadow q s⟩
    rw [exec_routeWrite, runCommand_served _ _ routeWrite_short hclears]

/-! ### Commits of the routing banks -/

/-- A capsule waits at a die. The commit that waits is no part of a die, and posting a completion leaves it waiting. -/
@[simp] theorem sendCapsule_commit (x k d : Nat) (l : List Byte) (s : State) :
    (sendCapsule x k d l s).core.commit = s.core.commit := by
  simp only [sendCapsule]; split <;> simp

@[simp] theorem postSess_commit (r : RingId) (c : Cpl) (l : List Byte) (q : List Nat) (s : State) :
    (postSess r c l q s).core.commit = s.core.commit := by
  simp only [postSess]
  split
  · rfl
  · rw [forEach_frame (·.core.commit) _ (by intros; simp)]; simp

@[simp] theorem post_commit (r : RingId) (cl : Client) (c : Cpl) (l : List Byte) (d : Nat) (q : List Nat) (s : State) :
    (post r cl c l d q s).core.commit = s.core.commit := by
  simp only [post, whenS]
  (repeat' split) <;> simp

@[simp] theorem postFinal_commit (tk : Nat) (st : CStatus) (r : Nat) (s : State) :
    (postFinal tk st r s).core.commit = s.core.commit := by
  simp only [postFinal]; split <;> simp

@[simp] theorem endTicket_commit (tk : Nat) (o : OState) (st : CStatus) (r : Nat) (s : State) :
    (endTicket tk o st r s).core.commit = s.core.commit := by
  simp only [endTicket]
  (repeat' split) <;> simp

/-- A commit of the banks: the active bank becomes the shadow bank, no other setting moves. -/
theorem commitBank_set (tk : Nat) (s : State) : (commitBank tk s).set = { s.set with active := s.set.shadow } := by
  simp [commitBank]

/-- After it no commit waits. -/
theorem commitBank_commit (tk : Nat) (s : State) : (commitBank tk s).core.commit = none := by
  simp [commitBank, ticketDone]

theorem exec_commitDrained_waits {tk n : Nat} {s : State} (hcommit : s.core.commit = some (tk, n))
    (hbusy : scaleOutIdle s = false) : exec .commitDrained s = .next s := by
  show execCommitDrained s = _
  simp [execCommitDrained, hcommit, hbusy]

/-- Settles O17: drained, the banks are committed; until then the event does nothing. -/
theorem aCommitCopiesTheShadowBank : Obligations.ACommitCopiesTheShadowBank := by
  refine ⟨?drained, ?waits⟩
  case drained =>
    intro s tk n hcommit hidle
    exact ⟨commitBank tk s, exec_commitDrained hcommit hidle, commitBank_set tk s, commitBank_commit tk s⟩
  case waits => intro s tk n hcommit hbusy; exact exec_commitDrained_waits hcommit hbusy

end Sys2Proof.Machine
end

section
/-! PROOFS. The scope statements on queues, shapers and gates: the gate position, and the scrub of queue settings. -/

namespace Sys2Proof.Machine

/-! ### Gate position -/

/-- Of the state the gate position reads the fabric time alone. -/
theorem gatePos_of_time {s t : State} (g : GateList) (h : s.time.ft = t.time.ft) : gatePos s g = gatePos t g := by
  simp only [gatePos, h]

/-- What is left of a cycle after `d` before its end is the remainder of `-d`. -/
theorem cast_cycle_sub_mod {cyc : Nat} (hcyc : 0 < cyc) (d : Nat) :
    (((cyc - d % cyc) % cyc : Nat) : Int) = -(d : Int) % cyc := by
  have hle : d % cyc ≤ cyc := Nat.le_of_lt (Nat.mod_lt d hcyc)
  calc (((cyc - d % cyc) % cyc : Nat) : Int)
    _ = ((cyc : Int) - (d : Int) % cyc) % cyc := by rw [Int.natCast_emod, Int.natCast_sub hle, Int.natCast_emod]
    _ = ((cyc : Int) + -(d : Int)) % cyc := by rw [Int.sub_emod_emod, Int.sub_eq_add_neg]
    _ = -(d : Int) % cyc := Int.add_emod_left _ _

/-- With a cycle, the position is the integer remainder of the time since `START_FT`, negative before it (R173). -/
theorem gatePos_eq_emod (s : State) {g : GateList} (hcyc : 0 < gateCycle g.entries) :
    (gatePos s g : Int) = ((s.time.ft : Int) - (g.startFt <<< 48 : Nat)) % (gateCycle g.entries <<< 48 : Nat) := by
  have hpos : 0 < gateCycle g.entries <<< 48 := by
    rw [Nat.shiftLeft_eq]; exact Nat.mul_pos hcyc (Nat.two_pow_pos 48)
  simp only [gatePos, if_neg (Nat.ne_of_gt hpos)]
  split
  case isTrue hstarted => rw [Int.natCast_emod, Int.natCast_sub hstarted]
  case isFalse hbefore =>
    rw [cast_cycle_sub_mod hpos, Int.natCast_sub (Nat.le_of_not_le hbefore), Int.neg_sub]

/-- Settles O20: before `START_FT` the model's distance to the end of a cycle is the remainder of a negative time. -/
theorem gatePositionFollowsTime : Obligations.GatePositionFollowsTime := by
  refine ⟨?remainder, ?timeAlone⟩
  case remainder => intro s g hcyc; exact gatePos_eq_emod s hcyc
  case timeAlone => intro s t g hsame; exact gatePos_of_time g hsame

/-! ### Cleared ranges of a table -/

/-- A key in a cleared range is no longer listed; the other keys are as they were. -/
theorem mfind_mclear {α : Type} (m : Map α) (a n k : Nat) :
    mfind (mclear m a n) k = if k < a ∨ a + n ≤ k then mfind m k else none := by
  unfold mclear
  rw [mfind_filter (fun y => decide (y < a) || decide (a + n ≤ y)) m k]
  simp only [Bool.or_eq_true, decide_eq_true_eq]

theorem mfind_mclear_inside {α : Type} (m : Map α) {a n k : Nat} (hlo : a ≤ k) (hhi : k < a + n) :
    mfind (mclear m a n) k = none := by
  rw [mfind_mclear, if_neg (by omega)]

theorem mget_mclear_inside {α : Type} (d : α) (m : Map α) {a n k : Nat} (hlo : a ≤ k) (hhi : k < a + n) :
    mget d (mclear m a n) k = d := by
  simp [mget, mfind_mclear_inside m hlo hhi]

/-- A key that reads as the default still does after a range is cleared. -/
theorem mget_mclear_default {α : Type} {d : α} {m : Map α} {k : Nat} (a n : Nat) (h : mget d m k = d) :
    mget d (mclear m a n) k = d := by
  simp only [mget, mfind_mclear] at h ⊢
  split
  · exact h
  · rfl

/-! ### The scrub of a lane-port -/

/-- Of the settings, dropping a lane-port's gates takes its two gate lists; a failed ticket is no setting. -/
theorem dropGates_set (l : Nat) (s : State) :
    (dropGates l s).set =
      { s.set with qos := { s.set.qos with gateOp := mclear s.set.qos.gateOp l 1, gatePend := mclear s.set.qos.gatePend l 1 } } := by
  simp only [dropGates]
  split <;> simp

/-- Queue settings with those of a lane-port taken out (R180). -/
def withoutLp (l : Nat) (x : QosCfg) : QosCfg :=
  { x with
    prio := mclear x.prio (8 * l) 8, weight := mclear x.weight (8 * l) 8, subw := mclear x.subw (1024 * l) 1024,
    shape := mclear x.shape (8 * l) 8, police := mclear x.police (8 * l) 8,
    gateOp := mclear x.gateOp l 1, gatePend := mclear x.gatePend l 1 }

/-- The scrub discards the queues and takes the lane-port's queue settings out of what is then in force. -/
theorem scrubLp_qos (l : Nat) (s : State) : (scrubLp l s).set.qos = withoutLp l (discardQueued l s).2.set.qos := by
  simp only [scrubLp, dropGates_set]
  rfl

section
variable (l : Nat) (s : State) {c : Nat} (hc : c < 8)
include hc

theorem prioOf_scrubLp : prioOf (scrubLp l s) l c = prioDflt c := by
  rw [prioOf, scrubLp_qos]; exact mget_mclear_inside _ _ (by omega) (by omega)

theorem weightOf_scrubLp : weightOf (scrubLp l s) l c = weightDflt c := by
  rw [weightOf, scrubLp_qos]; exact mget_mclear_inside _ _ (by omega) (by omega)

theorem shapeCfg_scrubLp : shapeCfg (scrubLp l s) (8 * l + c) = ⟨0, 0, false⟩ := by
  rw [shapeCfg, scrubLp_qos]; exact mget_mclear_inside _ _ (by omega) (by omega)

theorem polCfg_scrubLp : polCfg (scrubLp l s) l c = ⟨false, 0, 0, 0, 0, 0, 0⟩ := by
  rw [polCfg, scrubLp_qos]; exact mget_mclear_inside _ _ (by omega) (by omega)

theorem subWeight_scrubLp {k : Nat} (hk : k < 128) : subWeight (scrubLp l s) (leafNo l c k) = 1 := by
  rw [subWeight, scrubLp_qos]; exact mget_mclear_inside _ _ (by unfold leafNo; omega) (by unfold leafNo; omega)

end

theorem gateOp_scrubLp (l : Nat) (s : State) : mfind (scrubLp l s).set.qos.gateOp l = none := by
  rw [scrubLp_qos]; exact mfind_mclear_inside _ (Nat.le_refl l) (Nat.lt_succ_self l)

theorem gatePend_scrubLp (l : Nat) (s : State) : mfind (scrubLp l s).set.qos.gatePend l = none := by
  rw [scrubLp_qos]; exact mfind_mclear_inside _ (Nat.le_refl l) (Nat.lt_succ_self l)

/-! ### The scrub of a subscriber -/

/-- A change outside the settings leaves them alone. -/
theorem settings_of_fr {m : Nat} {s t : State} (hm : m.testBit 21 = false) (h : Fr m s t) : t.set = s.set := by
  obtain ⟨-, -, -, -, -, -, -, -, -, -, -, -, -, -, -, -, -, -, -, -, -, -, -, -, hset, -⟩ := h
  exact hset hm

/-- A frame taken from its queue frees its cells and its charge, no setting. -/
@[simp] theorem dropEnt_set (e : QEnt) (s : State) : (dropEnt e s).set = s.set :=
  settings_of_fr (m := pFault + pLinks + pDies + pSent) (by decide) (keeps_dropEnt (sub_num rfl) e s (fr_refl _ s))

/-- The scrub of a subscriber in one class: its queue is emptied, and its counters and its weight are at their reset values. -/
def scrubLeaf (i c : Nat) (s : State) : State :=
  let k := leafNo (i / 128) c (i % 128)
  let cleared := modSet (fun t => { t with qos := { t.qos with subw := mclear t.qos.subw k 1 } }) s
  onCore (fun x => { x with leaf := mdel x.leaf k, qstat := mdel x.qstat k }) (forEach (leafQ s k) dropEnt cleared)

theorem scrubSub_eq_forEach (i : Nat) (s : State) : scrubSub i s = forEach (List.range 8) (scrubLeaf i) s := rfl

theorem scrubLeaf_subw (i c : Nat) (s : State) :
    (scrubLeaf i c s).set.qos.subw = mclear s.set.qos.subw (leafNo (i / 128) c (i % 128)) 1 := by
  simp only [scrubLeaf, onCore_set]
  rw [forEach_frame (·.set) _ dropEnt_set, modSet_set]

theorem subWeight_scrubLeaf_same (i c : Nat) (s : State) :
    subWeight (scrubLeaf i c s) (leafNo (i / 128) c (i % 128)) = 1 := by
  rw [subWeight, scrubLeaf_subw]; exact mget_mclear_inside _ _ (Nat.le_refl _) (Nat.lt_succ_self _)

/-- A weight of 1 stays 1. -/
theorem subWeight_scrubLeaf_one {s : State} {x : Nat} (i c : Nat) (h : subWeight s x = 1) :
    subWeight (scrubLeaf i c s) x = 1 := by
  rw [subWeight, scrubLeaf_subw]; exact mget_mclear_default _ _ h

/-- What one operation of a fold brings about and every operation keeps holds after the fold. -/
theorem forEach_reaches {α : Type} {P : State → Prop} {f : α → State → State} {x : α} (hreach : ∀ t, P (f x t))
    (hkeep : ∀ y t, P t → P (f y t)) {l : List α} (hx : x ∈ l) (s : State) : P (forEach l f s) := by
  obtain ⟨before, after, rfl⟩ := List.append_of_mem hx
  simp only [forEach, List.foldl_append, List.foldl_cons]
  exact List.foldlRecOn after _ (hreach _) fun t ht y _ => hkeep y t ht

/-- Class `c` is one of the eight scrubbed, and no other of them undoes it. -/
theorem subWeight_scrubSub (i : Nat) (s : State) {c : Nat} (hc : c < 8) :
    subWeight (scrubSub i s) (leafNo (i / 128) c (i % 128)) = 1 := by
  rw [scrubSub_eq_forEach]
  exact forEach_reaches (P := fun t => subWeight t (leafNo (i / 128) c (i % 128)) = 1) (subWeight_scrubLeaf_same i c)
    (fun y t => subWeight_scrubLeaf_one i y) (List.mem_range.mpr hc) s

/-- Settles O21: each setting of a lane-port lies in a range that its scrub clears, a subscriber's weights in the eight that
its scrub clears one by one. -/
theorem aScrubRestoresQueueSettings : Obligations.AScrubRestoresQueueSettings := by
  refine ⟨?lanePort, ?subscriber⟩
  case lanePort =>
    intro s l
    exact ⟨fun c hc => ⟨prioOf_scrubLp l s hc, weightOf_scrubLp l s hc, shapeCfg_scrubLp l s hc, polCfg_scrubLp l s hc⟩,
      fun c k hc hk => subWeight_scrubLp l s hc hk, gateOp_scrubLp l s, gatePend_scrubLp l s⟩
  case subscriber =>
    intro s l k c hk hc
    have hport : (128 * l + k) / 128 = l := by omega
    have hplace : (128 * l + k) % 128 = k := by omega
    have hweight := subWeight_scrubSub (128 * l + k) s hc
    rwa [hport, hplace] at hweight

end Sys2Proof.Machine
end

section
/-! PROOFS. The scope statements on tiles and numbers: the order of an exact sum, the order of (value, index) pairs, and the
events of the tile queues and of tile power. -/

namespace Sys2Proof.Machine

/-! ### The fields of an accumulator element (Table 8-6) -/

/-- The flags of an accumulator element, from bit 320 upwards. -/
def accFlags (nan pinf ninf allnegz : Bool) : Nat := allnegz.toNat + 2 * ninf.toNat + 4 * pinf.toNat + 8 * nan.toNat

/-- A flag at its place, for any width of the accumulator below. -/
theorem ite_one_shiftLeft (b : Bool) (w k : Nat) : (if b then 1 <<< (w + k) else 0) = (2 ^ k * b.toNat) <<< w := by
  cases b with
  | false => rw [if_neg Bool.false_ne_true, Bool.toNat_false, Nat.mul_zero, Nat.zero_shiftLeft]
  | true => rw [if_pos rfl, Bool.toNat_true, Nat.mul_one, Nat.one_shiftLeft, Nat.shiftLeft_eq, Nat.pow_add, Nat.mul_comm]

/-- Bits above a field are those of the number above it. -/
theorem testBit_shiftLeft_add {w n : Nat} (hn : n < 1 <<< w) (f k : Nat) : (f <<< w + n).testBit (w + k) = f.testBit k := by
  rw [Nat.one_shiftLeft] at hn
  rw [Nat.shiftLeft_eq, Nat.mul_comm, Nat.testBit_two_pow_mul_add _ hn, if_neg (Nat.not_lt.mpr (Nat.le_add_right w k)),
    Nat.add_sub_cancel_left]

/-- The field below is the remainder. -/
theorem shiftLeft_add_mod {w n : Nat} (hn : n < 1 <<< w) (f : Nat) : (f <<< w + n) % 1 <<< w = n := by
  rw [Nat.one_shiftLeft] at hn ⊢
  rw [Nat.shiftLeft_eq, Nat.mul_add_mod_self_right, Nat.mod_eq_of_lt hn]

theorem mod_one_shiftLeft_lt (w n : Nat) : n % 1 <<< w < 1 <<< w := by
  rw [Nat.one_shiftLeft]
  exact Nat.mod_lt n (Nat.two_pow_pos w)

theorem one_shiftLeft_pos (w : Nat) : 0 < 1 <<< w := Nat.one_shiftLeft w ▸ Nat.two_pow_pos w

/-- An element is its accumulator with the flags above it. -/
theorem accPack_eq (n : Nat) (nan pinf ninf z : Bool) :
    accPack n nan pinf ninf z = accFlags nan pinf ninf z <<< 320 + n := by
  have hflag := fun b => ite_one_shiftLeft b 320
  have hsum : ∀ a b c d w : Nat, n + (2 ^ 0 * a) <<< w + (2 ^ 1 * b) <<< w + (2 ^ 2 * c) <<< w + (2 ^ 3 * d) <<< w =
      (a + 2 * b + 4 * c + 8 * d) <<< w + n := by
    intro a b c d w
    simp only [Nat.shiftLeft_eq, Nat.add_mul, Nat.mul_assoc]
    omega
  calc accPack n nan pinf ninf z
    _ = n + (2 ^ 0 * z.toNat) <<< 320 + (2 ^ 1 * ninf.toNat) <<< 320 + (2 ^ 2 * pinf.toNat) <<< 320 +
        (2 ^ 3 * nan.toNat) <<< 320 := by rw [← hflag z, ← hflag ninf, ← hflag pinf, ← hflag nan]; rfl
    _ = accFlags nan pinf ninf z <<< 320 + n := hsum ..

section
variable {n : Nat} (hn : n < 1 <<< 320) (nan pinf ninf z : Bool)
include hn

theorem testBit_accPack (k : Nat) : (accPack n nan pinf ninf z).testBit (320 + k) = (accFlags nan pinf ninf z).testBit k := by
  rw [accPack_eq, testBit_shiftLeft_add hn]

theorem accAcc_accPack : accAcc (accPack n nan pinf ninf z) = n := by
  rw [accAcc, accPack_eq, shiftLeft_add_mod hn]

theorem allnegz_accPack : (accPack n nan pinf ninf z).testBit 320 = z := by
  refine (testBit_accPack hn nan pinf ninf z 0).trans ?_
  revert nan pinf ninf z; decide

theorem ninf_accPack : (accPack n nan pinf ninf z).testBit 321 = ninf := by
  refine (testBit_accPack hn nan pinf ninf z 1).trans ?_
  revert nan pinf ninf z; decide

theorem pinf_accPack : (accPack n nan pinf ninf z).testBit 322 = pinf := by
  refine (testBit_accPack hn nan pinf ninf z 2).trans ?_
  revert nan pinf ninf z; decide

theorem nan_accPack : (accPack n nan pinf ninf z).testBit 323 = nan := by
  refine (testBit_accPack hn nan pinf ninf z 3).trans ?_
  revert nan pinf ninf z; decide

end

/-- The accumulator of a fresh element is 0, and of the flags the all-negative-zero one alone is set. -/
theorem accReset_eq_accPack : accReset = accPack 0 false false false true := rfl

/-- Merging a packed element: its accumulator is added in the field, each of its flags is taken on its own. -/
theorem accMerge_accPack {n : Nat} (hn : n < 1 <<< 320) (a : Nat) (nan pinf ninf z : Bool) :
    accMerge a (accPack n nan pinf ninf z) =
      accPack ((accAcc a + n) % 1 <<< 320) (a.testBit 323 || nan) (a.testBit 322 || pinf) (a.testBit 321 || ninf)
        (a.testBit 320 && z) := by
  simp only [accMerge, accAcc_accPack, nan_accPack, pinf_accPack, ninf_accPack, allnegz_accPack, hn]

/-! ### Elements merge in any order and any shape -/

theorem accMerge_comm (a b : Nat) : accMerge a b = accMerge b a := by
  simp only [accMerge, Nat.add_comm, Bool.or_comm, Bool.and_comm]

theorem accMerge_assoc (a b c : Nat) : accMerge (accMerge a b) c = accMerge a (accMerge b c) := by
  simp only [accMerge, accAcc_accPack, nan_accPack, pinf_accPack, ninf_accPack, allnegz_accPack, mod_one_shiftLeft_lt,
    Nat.mod_add_mod, Nat.add_mod_mod, Nat.add_assoc, Bool.or_assoc, Bool.and_assoc]

/-! ### A value combined is its own element merged -/

theorem cast_ofSigned (w : Nat) (v : Int) : (ofSigned w v : Int) = v % (2 ^ w : Nat) :=
  Int.toNat_of_nonneg (Int.emod_nonneg v (Int.natCast_ne_zero.mpr (Nat.ne_of_gt (Nat.two_pow_pos w))))

theorem ofSigned_lt (w : Nat) (v : Int) : ofSigned w v < 1 <<< w := by
  rw [Nat.one_shiftLeft, ← Int.ofNat_lt, cast_ofSigned]
  exact Int.emod_lt_of_pos v (Int.natCast_pos.mpr (Nat.two_pow_pos w))

/-- A two's complement sum may be reduced before it is added to. -/
theorem ofSigned_natCast_add (w n : Nat) (v : Int) : ofSigned w (n + v) = (n + ofSigned w v) % 1 <<< w := by
  rw [Nat.one_shiftLeft, ← Int.natCast_inj, cast_ofSigned, Int.natCast_emod, Int.natCast_add, cast_ofSigned, Int.add_emod_emod]

/-- The element of one value is what it makes of a fresh element (R195). -/
theorem accAdd_reset (v : Machine.Num) :
    accAdd accReset v = match v with
      | .nan => accPack 0 true false false false
      | .inf neg => accPack 0 false (!neg) neg false
      | .fin neg m e => accPack (ofSigned 320 (signedAt neg m e (-149))) false false false (neg && m == 0) := by
  rw [accReset_eq_accPack]
  cases v <;>
    simp only [accAdd, accAcc_accPack, nan_accPack, pinf_accPack, ninf_accPack, allnegz_accPack, one_shiftLeft_pos,
      Int.natCast_zero, Int.zero_add, Bool.false_or, Bool.true_and]

/-- Combining a value is merging its element (R195). -/
theorem accAdd_eq_accMerge (a : Nat) (v : Machine.Num) : accAdd a v = accMerge a (accAdd accReset v) := by
  rw [accAdd_reset]
  have hmod : accAcc a % 1 <<< 320 = accAcc a := Nat.mod_mod a _
  cases v with
  | nan =>
    simp only [accAdd, accMerge_accPack, one_shiftLeft_pos, Nat.add_zero, hmod, Bool.or_true, Bool.or_false, Bool.and_false]
  | inf neg => simp only [accAdd, accMerge_accPack, one_shiftLeft_pos, Nat.add_zero, hmod, Bool.or_false, Bool.and_false]
  | fin neg m e => simp only [accAdd, accMerge_accPack, ofSigned_lt, ofSigned_natCast_add, Bool.or_false, Bool.and_assoc]

/-- Two values combined one after the other may change places. -/
theorem accAdd_right_comm (a : Nat) (v w : Machine.Num) : accAdd (accAdd a v) w = accAdd (accAdd a w) v := by
  rw [accAdd_eq_accMerge (accAdd a v) w, accAdd_eq_accMerge a v, accMerge_assoc, accMerge_comm (accAdd accReset v),
    ← accMerge_assoc, ← accAdd_eq_accMerge, ← accAdd_eq_accMerge]

/-- Combining values into a merged element may be done before the merge. -/
theorem foldl_accAdd_accMerge (a b : Nat) (vs : List Machine.Num) :
    vs.foldl accAdd (accMerge a b) = accMerge a (vs.foldl accAdd b) := by
  induction vs generalizing b with
  | nil => rfl
  | cons v vs ih =>
    have hv : accAdd (accMerge a b) v = accMerge a (accAdd b v) := by
      rw [accAdd_eq_accMerge, accMerge_assoc, ← accAdd_eq_accMerge]
    rw [List.foldl_cons, List.foldl_cons, hv, ih]

theorem accMerge_reset_reset : accMerge accReset accReset = accReset := rfl

/-- A fresh element merged changes nothing in an element built from values. -/
theorem accMerge_foldl_reset (vs : List Machine.Num) :
    accMerge (vs.foldl accAdd accReset) accReset = vs.foldl accAdd accReset := by
  rw [accMerge_comm, ← foldl_accAdd_accMerge, accMerge_reset_reset]

/-- Settles O29: combining a value is merging its element, and merging is commutative and associative, with the fresh element
neutral. -/
theorem anExactSumIgnoresOrder : Obligations.AnExactSumIgnoresOrder := by
  refine ⟨?permuted, ?merged⟩
  case permuted =>
    intro vs ws hperm
    exact hperm.foldl_eq' (fun v _ w _ a => accAdd_right_comm a v w) accReset
  case merged =>
    intro vs ws
    calc accMerge (vs.foldl accAdd accReset) (ws.foldl accAdd accReset)
      _ = ws.foldl accAdd (accMerge (vs.foldl accAdd accReset) accReset) := (foldl_accAdd_accMerge _ _ ws).symm
      _ = ws.foldl accAdd (vs.foldl accAdd accReset) := by rw [accMerge_foldl_reset]
      _ = (vs ++ ws).foldl accAdd accReset := List.foldl_append.symm

/-! ### The order of values (R199) -/

/-- Exponent of the least significant bit of a format's subnormals. -/
def Fp.emin (f : Fp) : Int := 1 - (f.bias : Int) - f.mb

/-- A magnitude at `k` binades above the subnormals as an encoding holds it: below the next binade, and normal above the
lowest. -/
def Canonical (mb k m : Nat) : Prop := m < 2 ^ (mb + 1) ∧ (k = 0 ∨ 2 ^ mb ≤ m)

/-- What an encoding of an IEEE format stands for: NaN, the infinity at the top of the magnitudes, or a canonical magnitude
whose bits count the binades and then the significand. -/
theorem Fp.decode_cases {f : Fp} (hkind : f.kind = .ieee) (b : Nat) :
    f.decode b = .nan ∨
    (f.decode b = .inf (b.testBit (f.eb + f.mb)) ∧ b % 2 ^ (f.eb + f.mb) = (2 ^ f.eb - 1) * 2 ^ f.mb) ∨
    ∃ k m : Nat, f.decode b = .fin (b.testBit (f.eb + f.mb)) m (f.emin + k) ∧ Canonical f.mb k m ∧
      b % 2 ^ (f.eb + f.mb) = k * 2 ^ f.mb + m := by
  have hmant : b % 2 ^ f.mb < 2 ^ f.mb := Nat.mod_lt b (Nat.two_pow_pos f.mb)
  have hmag : b % 2 ^ (f.eb + f.mb) = (b >>> f.mb) % 2 ^ f.eb * 2 ^ f.mb + b % 2 ^ f.mb := by
    rw [Nat.shiftRight_eq_div_pow, Nat.add_comm f.eb, Nat.pow_add, Nat.mod_mul, Nat.add_comm, Nat.mul_comm]
  rw [hmag]
  simp only [Fp.decode, hkind, true_and, reduceCtorEq, false_and, if_false]
  generalize (b >>> f.mb) % 2 ^ f.eb = ex at *
  generalize b % 2 ^ f.mb = ma at *
  by_cases htop : ex = 2 ^ f.eb - 1
  · by_cases hzero : ma = 0
    · exact .inr (.inl ⟨by rw [if_pos htop, if_pos hzero], by rw [htop, hzero, Nat.add_zero]⟩)
    · exact .inl (by rw [if_pos htop, if_neg hzero])
  · refine .inr (.inr ?_)
    rw [if_neg htop]
    by_cases hsub : ex = 0
    · refine ⟨0, ma, ?_, ⟨by omega, .inl rfl⟩, by rw [hsub]⟩
      rw [if_pos hsub, Fp.emin, Int.natCast_zero, Int.add_zero]
    · obtain ⟨k, rfl⟩ := Nat.exists_eq_add_one_of_ne_zero hsub
      refine ⟨k, ma + 2 ^ f.mb, ?_, ⟨by omega, .inr (Nat.le_add_left _ _)⟩, by rw [Nat.succ_mul]; omega⟩
      rw [if_neg hsub, Fp.emin]
      congr 1
      omega

/-- A canonical magnitude lies below every one of a higher binade. -/
theorem Canonical.lt_of_lt {mb k m k' m' : Nat} (h : Canonical mb k m) (h' : Canonical mb k' m') (hk : k < k') :
    m * 2 ^ k < m' * 2 ^ k' := by
  have hnormal : 2 ^ mb ≤ m' := h'.2.resolve_left (Nat.ne_zero_of_lt hk)
  calc m * 2 ^ k
    _ < 2 ^ (mb + 1) * 2 ^ k := Nat.mul_lt_mul_of_pos_right h.1 (Nat.two_pow_pos k)
    _ = 2 ^ mb * 2 ^ (k + 1) := by rw [← Nat.pow_add, ← Nat.pow_add, Nat.add_right_comm, Nat.add_assoc]
    _ ≤ m' * 2 ^ k' := Nat.mul_le_mul hnormal (Nat.pow_le_pow_right Nat.two_pos hk)

/-- A value has one canonical magnitude. -/
theorem Canonical.eq_of_value_eq {mb k m k' m' : Nat} (h : Canonical mb k m) (h' : Canonical mb k' m')
    (hvalue : m * 2 ^ k = m' * 2 ^ k') : k = k' ∧ m = m' := by
  obtain hlt | rfl | hgt := Nat.lt_trichotomy k k'
  · exact absurd hvalue (Nat.ne_of_lt (h.lt_of_lt h' hlt))
  · exact ⟨rfl, Nat.eq_of_mul_eq_mul_right (Nat.two_pow_pos k) hvalue⟩
  · exact absurd hvalue (Nat.ne_of_gt (h'.lt_of_lt h hgt))

/-- Finite values of which one is not zero compare at their common exponent. -/
theorem Num.lt_fin_of_ne_zero {sa sb : Bool} {ma mb : Nat} {ea eb : Int} (h : ¬ (ma = 0 ∧ mb = 0)) :
    Num.lt (.fin sa ma ea) (.fin sb mb eb) =
      decide (signedAt sa ma ea (min ea eb) < signedAt sb mb eb (min ea eb)) := if_neg h

/-- Two zeros compare by their signs (R199). -/
theorem Num.lt_fin_zero (sa sb : Bool) (ea eb : Int) : Num.lt (.fin sa 0 ea) (.fin sb 0 eb) = (sa && !sb) := rfl

/-- Of two values at most one is below the other. -/
theorem Num.lt_asymm {x y : Num} (h : Num.lt x y = true) : Num.lt y x = false := by
  cases x with
  | nan =>
    cases y with
    | inf b => simpa [Num.lt] using h
    | nan | fin => rfl
  | inf a =>
    cases y with
    | inf b => revert a b; decide
    | nan | fin => simpa [Num.lt] using h
  | fin sa ma ea =>
    cases y with
    | nan => rfl
    | inf b => simpa [Num.lt] using h
    | fin sb mb eb =>
      by_cases hzero : ma = 0 ∧ mb = 0
      · obtain ⟨rfl, rfl⟩ := hzero
        rw [Num.lt_fin_zero] at h ⊢
        simp_all
      · rw [Num.lt_fin_of_ne_zero hzero, decide_eq_true_eq] at h
        rw [Num.lt_fin_of_ne_zero (mt And.symm hzero), decide_eq_false_iff_not, Int.min_comm]
        exact Int.lt_asymm h

theorem mul_two_pow_eq_zero (m k : Nat) : m * 2 ^ k = 0 ↔ m = 0 :=
  Nat.mul_eq_zero.trans (or_iff_left (Nat.ne_of_gt (Nat.two_pow_pos k)))

/-- Signed magnitudes that agree, and are not both zero, have one sign and one magnitude. -/
theorem signedAt_inj {sa sb : Bool} {ma mb : Nat} {ea eb e : Int} (hzero : ¬ (ma = 0 ∧ mb = 0))
    (h : signedAt sa ma ea e = signedAt sb mb eb e) :
    sa = sb ∧ ma * 2 ^ (ea - e).toNat = mb * 2 ^ (eb - e).toNat := by
  have ha : ma * 2 ^ (ea - e).toNat = 0 ↔ ma = 0 := mul_two_pow_eq_zero _ _
  have hb : mb * 2 ^ (eb - e).toNat = 0 ↔ mb = 0 := mul_two_pow_eq_zero _ _
  simp only [signedAt, Nat.shiftLeft_eq] at h
  generalize ma * 2 ^ (ea - e).toNat = a at *
  generalize mb * 2 ^ (eb - e).toNat = b at *
  cases sa <;> cases sb <;> simp at h ⊢ <;> omega

/-- Two magnitudes of which neither is below the other have one sign and one value. -/
theorem Num.eq_of_not_lt {sa sb : Bool} {ma mb ka kb : Nat} {e : Int}
    (hab : Num.lt (.fin sa ma (e + ka)) (.fin sb mb (e + kb)) = false)
    (hba : Num.lt (.fin sb mb (e + kb)) (.fin sa ma (e + ka)) = false) : sa = sb ∧ ma * 2 ^ ka = mb * 2 ^ kb := by
  by_cases hzero : ma = 0 ∧ mb = 0
  · obtain ⟨rfl, rfl⟩ := hzero
    rw [Num.lt_fin_zero] at hab hba
    refine ⟨?_, by rw [Nat.zero_mul, Nat.zero_mul]⟩
    cases sa <;> simp_all
  · rw [Num.lt_fin_of_ne_zero hzero, decide_eq_false_iff_not, Int.not_lt] at hab
    rw [Num.lt_fin_of_ne_zero (mt And.symm hzero), decide_eq_false_iff_not, Int.not_lt, Int.min_comm] at hba
    obtain ⟨hsign, hmag⟩ := signedAt_inj hzero (Int.le_antisymm hba hab)
    refine ⟨hsign, ?_⟩
    have hscale : ∀ m k : Nat, min ka kb ≤ k →
        m * 2 ^ k = m * 2 ^ (e + k - min (e + ka) (e + kb)).toNat * 2 ^ min ka kb := by
      intro m k hk
      have hexp : (e + k - min (e + ka) (e + kb)).toNat + min ka kb = k := by omega
      rw [Nat.mul_assoc, ← Nat.pow_add, hexp]
    rw [hscale ma ka (Nat.min_le_left ..), hscale mb kb (Nat.min_le_right ..), hmag]

/-- Two infinities of which neither is below the other have one sign. -/
theorem Num.inf_eq_of_not_lt {sa sb : Bool} (hab : Num.lt (.inf sa) (.inf sb) = false)
    (hba : Num.lt (.inf sb) (.inf sa) = false) : sa = sb := by
  revert sa sb; decide

/-- An infinity is below a finite value, or above it. -/
theorem Num.lt_inf_fin_ne (sa sb : Bool) (m : Nat) (e : Int) :
    Num.lt (.inf sa) (.fin sb m e) ≠ Num.lt (.fin sb m e) (.inf sa) := by
  cases sa <;> simp [Num.lt]

/-- A number of `n + 1` bits is its top bit and its remainder. -/
theorem eq_of_mod_of_testBit {n a b : Nat} (ha : a < 2 ^ (n + 1)) (hb : b < 2 ^ (n + 1)) (hmod : a % 2 ^ n = b % 2 ^ n)
    (htop : a.testBit n = b.testBit n) : a = b := by
  have hquot : a / 2 ^ n = b / 2 ^ n := by
    have hqa : a / 2 ^ n < 2 := Nat.div_lt_of_lt_mul (Nat.pow_succ 2 n ▸ ha)
    have hqb : b / 2 ^ n < 2 := Nat.div_lt_of_lt_mul (Nat.pow_succ 2 n ▸ hb)
    simp only [Nat.testBit_eq_decide_div_mod_eq, decide_eq_decide] at htop
    generalize a / 2 ^ n = qa at *
    generalize b / 2 ^ n = qb at *
    omega
  rw [← Nat.div_add_mod a (2 ^ n), ← Nat.div_add_mod b (2 ^ n), hquot, hmod]

/-- Two encodings of numbers of which neither is below the other are the same: the order is total (R199). -/
theorem Fp.eq_of_not_lt {f : Fp} (hkind : f.kind = .ieee) {a b : Nat} (ha : a < 2 ^ f.width) (hb : b < 2 ^ f.width)
    (hanum : (f.decode a).isNan = false) (hbnum : (f.decode b).isNan = false)
    (hab : Num.lt (f.decode a) (f.decode b) = false) (hba : Num.lt (f.decode b) (f.decode a) = false) : a = b := by
  rw [Fp.width, Nat.add_assoc, Nat.add_comm] at ha hb
  suffices a.testBit (f.eb + f.mb) = b.testBit (f.eb + f.mb) ∧ a % 2 ^ (f.eb + f.mb) = b % 2 ^ (f.eb + f.mb) from
    eq_of_mod_of_testBit ha hb this.2 this.1
  obtain hxa | ⟨hxa, hma⟩ | ⟨ka, ma, hxa, hca, hma⟩ := Fp.decode_cases hkind a
  case inl => simp [hxa, Num.isNan] at hanum
  all_goals
    obtain hxb | ⟨hxb, hmb⟩ | ⟨kb, mb, hxb, hcb, hmb⟩ := Fp.decode_cases hkind b
    case inl => simp [hxb, Num.isNan] at hbnum
    all_goals rw [hxa, hxb] at hab hba
  · exact ⟨Num.inf_eq_of_not_lt hab hba, hma.trans hmb.symm⟩
  · exact absurd (hab.trans hba.symm) (Num.lt_inf_fin_ne _ _ _ _)
  · exact absurd (hba.trans hab.symm) (Num.lt_inf_fin_ne _ _ _ _)
  · obtain ⟨hsign, hvalue⟩ := Num.eq_of_not_lt hab hba
    obtain ⟨rfl, rfl⟩ := hca.eq_of_value_eq hcb hvalue
    exact ⟨hsign, hma.trans hmb.symm⟩

/-! ### Pairs of a value and an index (R200) -/

/-- The bits of a two's complement number are its remainder. -/
theorem toSigned_emod (w b : Nat) : toSigned w b % (2 ^ w : Nat) = (b % 2 ^ w : Nat) := by
  unfold toSigned
  split
  · rw [Int.sub_emod_right, Int.natCast_emod, Int.emod_emod]
  · rw [Int.natCast_emod, Int.emod_emod]

theorem toSigned_inj {w a b : Nat} (h : toSigned w a = toSigned w b) : a % 2 ^ w = b % 2 ^ w := by
  rw [← Int.natCast_inj, ← toSigned_emod, h, toSigned_emod]

/-- The index bits of a pair. -/
def locIdxBits (w p : Nat) : Nat := (p >>> w) % 2 ^ 32

/-- A pair is its value and its index. -/
theorem pair_ext {w a b : Nat} (ha : a < 2 ^ (w + 32)) (hb : b < 2 ^ (w + 32)) (hval : locVal w a = locVal w b)
    (hidx : locIdx w a = locIdx w b) : a = b := by
  have hhigh := toSigned_inj hidx
  rw [Nat.shiftRight_eq_div_pow, Nat.shiftRight_eq_div_pow, Nat.mod_eq_of_lt (Nat.div_lt_of_lt_mul (Nat.pow_add .. ▸ ha)),
    Nat.mod_eq_of_lt (Nat.div_lt_of_lt_mul (Nat.pow_add .. ▸ hb))] at hhigh
  unfold locVal at hval
  rw [← Nat.div_add_mod a (2 ^ w), ← Nat.div_add_mod b (2 ^ w), hhigh, hval]

/-- The pair with the lower index; the first of two with one index. -/
def lowerPair (w a b : Nat) : Nat := if locIdx w b < locIdx w a then b else a

/-- From either side the lower pair is one pair, up to what two pairs of one index share. -/
theorem lowerPair_comm_of_idx_eq {β : Type} {w a b : Nat} (f : Nat → β) (hsame : locIdx w a = locIdx w b → f a = f b) :
    f (lowerPair w a b) = f (lowerPair w b a) := by
  unfold lowerPair
  obtain hlt | heq | hgt := Int.lt_trichotomy (locIdx w a) (locIdx w b)
  · rw [if_neg (Int.lt_asymm hlt), if_pos hlt]
  · rw [heq, if_neg (Int.lt_irrefl _), if_neg (Int.lt_irrefl _), hsame heq]
  · rw [if_pos hgt, if_neg (Int.lt_asymm hgt)]

/-- So its index bits are the same from either side. -/
theorem locIdxBits_lowerPair_comm (w a b : Nat) : locIdxBits w (lowerPair w a b) = locIdxBits w (lowerPair w b a) :=
  lowerPair_comm_of_idx_eq (locIdxBits w) toSigned_inj

/-- Of two pairs of one value it is the same pair. -/
theorem lowerPair_comm {w a b : Nat} (ha : a < 2 ^ (w + 32)) (hb : b < 2 ^ (w + 32)) (hval : locVal w a = locVal w b) :
    lowerPair w a b = lowerPair w b a :=
  lowerPair_comm_of_idx_eq id (pair_ext ha hb hval)

/-- The integer rule: the lower index of equal values, else the value that the operator wants. -/
theorem foldLoc_int {nc : Nat} (hint : fmtIsInt (ncFmt nc) = true) (isMax : Bool) (a b : Nat) :
    foldLoc nc isMax a b =
      let x := toSigned 32 (locVal (locWidth nc) a)
      let y := toSigned 32 (locVal (locWidth nc) b)
      if x = y then lowerPair (locWidth nc) a b else if (if isMax then x < y else y < x) then b else a := by
  simp only [foldLoc, hint, if_true, lowerPair]

/-- A canonical NaN with the index of a pair. -/
def nanPair (nc p : Nat) : Nat := (accFp nc).nanBits + locIdxBits (locWidth nc) p <<< locWidth nc

/-- The floating-point rule: a NaN wins, two by their index; else as for integers. -/
theorem foldLoc_fp {nc : Nat} (hfp : fmtIsInt (ncFmt nc) = false) (isMax : Bool) (a b : Nat) :
    foldLoc nc isMax a b =
      let x := (accFp nc).decode (locVal (locWidth nc) a)
      let y := (accFp nc).decode (locVal (locWidth nc) b)
      if x.isNan && y.isNan then nanPair nc (lowerPair (locWidth nc) a b)
      else if x.isNan then nanPair nc a
      else if y.isNan then nanPair nc b
      else if !Num.lt x y && !Num.lt y x then lowerPair (locWidth nc) a b
      else if (if isMax then Num.lt x y else Num.lt y x) then b else a := by
  simp only [foldLoc, hfp, Bool.false_eq_true, if_false, lowerPair, nanPair, locIdxBits]

/-- The accumulation format of a floating-point pair is an IEEE format. -/
theorem accFp_ieee (nc : Nat) : (accFp nc).kind = .ieee := by
  unfold accFp
  split <;> rfl

/-- A pair's value has the width of the accumulation format. -/
theorem accFp_width (nc : Nat) : (accFp nc).width = locWidth nc := by
  unfold accFp locWidth
  split <;> rfl

/-- INT32 pairs fold to the same pair from either side: their values are totally ordered, as are their indices. -/
theorem foldLoc_int_comm {nc : Nat} (hfmt : ncFmt nc = 3) (isMax : Bool) {a b : Nat} (ha : a < 2 ^ (locWidth nc + 32))
    (hb : b < 2 ^ (locWidth nc + 32)) : foldLoc nc isMax a b = foldLoc nc isMax b a := by
  have hint : fmtIsInt (ncFmt nc) = true := by rw [hfmt]; rfl
  have hwidth : locWidth nc = 32 := by rw [locWidth, hfmt]; rfl
  simp only [foldLoc_int hint]
  by_cases heq : toSigned 32 (locVal (locWidth nc) a) = toSigned 32 (locVal (locWidth nc) b)
  · rw [if_pos heq, if_pos heq.symm]
    have hval : locVal (locWidth nc) a = locVal (locWidth nc) b := by
      simpa only [hwidth, locVal, Nat.mod_mod] using toSigned_inj heq
    exact lowerPair_comm ha hb hval
  · rw [if_neg heq, if_neg (Ne.symm heq)]
    generalize toSigned 32 (locVal (locWidth nc) a) = x at *
    generalize toSigned 32 (locVal (locWidth nc) b) = y at *
    have hflip : (if isMax then x < y else y < x) ↔ ¬ (if isMax then y < x else x < y) := by
      cases isMax
      case false => simp only [Bool.false_eq_true, if_false]; omega
      case true => simp only [if_true]; omega
    simp only [hflip, ite_not]

/-- Floating-point pairs fold to the same pair from either side: a NaN wins from both, and numbers are totally ordered. -/
theorem foldLoc_fp_comm {nc : Nat} (hfp : fmtIsInt (ncFmt nc) = false) (isMax : Bool) {a b : Nat}
    (ha : a < 2 ^ (locWidth nc + 32)) (hb : b < 2 ^ (locWidth nc + 32)) : foldLoc nc isMax a b = foldLoc nc isMax b a := by
  have hvalue : ∀ p, locVal (locWidth nc) p < 2 ^ (accFp nc).width := by
    intro p
    rw [accFp_width]
    exact Nat.mod_lt p (Nat.two_pow_pos _)
  have htotal := Fp.eq_of_not_lt (accFp_ieee nc) (hvalue a) (hvalue b)
  simp only [foldLoc_fp hfp]
  generalize (accFp nc).decode (locVal (locWidth nc) a) = x at *
  generalize (accFp nc).decode (locVal (locWidth nc) b) = y at *
  cases hx : x.isNan <;> cases hy : y.isNan
  case true.true => simp only [Bool.and_self, if_true, nanPair, locIdxBits_lowerPair_comm _ a b]
  case true.false => rfl
  case false.true => rfl
  case false.false =>
    simp only [Bool.and_self, Bool.false_eq_true, if_false]
    cases hxy : Num.lt x y <;> cases hyx : Num.lt y x
    case false.false => exact lowerPair_comm ha hb (htotal hx hy hxy hyx)
    case false.true => cases isMax <;> rfl
    case true.false => cases isMax <;> rfl
    case true.true => exact absurd hyx (by rw [Num.lt_asymm hxy]; exact Bool.false_ne_true)

/-- Settles O30: values of one format are totally ordered and have one encoding each, so the winner of two pairs does not
depend on which comes first. -/
theorem minlocIgnoresOrder : Obligations.MinlocIgnoresOrder := by
  intro nc isMax a b hfmt ha hb
  obtain hint32 | hfp32 | hfp64 := hfmt
  · exact foldLoc_int_comm hint32 isMax ha hb
  · exact foldLoc_fp_comm (by rw [hfp32]; rfl) isMax ha hb
  · exact foldLoc_fp_comm (by rw [hfp64]; rfl) isMax ha hb

/-! ### Tile-queue entries and tile power -/

/-- The head entry of an ACTIVE tile that runs none, without a parity error, leaves the queue and is done (R261). -/
theorem runEntry_head {t : Nat} {e : TileEntry} {l : List TileEntry} {s : State} {kind : TileEntry → Bool}
    (effect : TileEntry → State → State) (hqueue : (tileOf s t).queue = e :: l) (hactive : (tileOf s t).st = .active)
    (hidle : (tileOf s t).run = none) (hkind : kind e = true) :
    runEntry t none kind effect s = effect e (onTileU t (fun x => { x with queue := l, idleFrom := s.mono }) s) := by
  simp only [runEntry, hqueue, hactive, hidle, if_pos hkind]

/-- A DMA of the running entry without a bad block: it leaves the entry's list, and its bytes move (R266). -/
theorem dmaDone_running {t n : Nat} {r : Running} {m : Dma} {s : State} (hrun : (tileOf s t).run = some r)
    (hdma : r.dmas[n]? = some m) :
    dmaDone t n false s = moveDma t m (onTileU t (fun x => { x with run := x.run.map fun r => { r with
      dmas := r.dmas.eraseIdx n, waiting := r.waiting && r.dmas.length != 1 } }) s) := by
  simp only [dmaDone, hrun, hdma, Bool.false_and, if_neg Bool.false_ne_true]

/-- The end of a running self-test notes the result of each named usable tile (R211). -/
theorem exec_tileSelftestDone {tk : Nat} (failed : List Nat) {k : Ticket} {s : State} (hticket : ticketOf s tk = some k)
    (hrunning : runningTk s tk 0x0842 = true) :
    exec (.tileSelftestDone tk failed) s =
      .next (ticketDone tk (forEach (((namedTiles s (rdLe k.param 0 1) (rdLe k.param 1 1)).filter (tileUsable s)).zipIdx)
        (fun e => noteSelftest e.1 (failed.getD e.2 0)) s)) := by
  show execTileSelftestDone tk failed s = _
  simp only [execTileSelftestDone, hticket, if_pos hrunning]

/-- Settles O42: each event under its condition. -/
theorem tileEntriesComplete : Obligations.TileEntriesComplete := by
  refine ⟨?combine, ?finalise, ?update, ?dma, ?gate, ?lift, ?reload, ?selftest⟩
  case combine =>
    intro t e l s hqueue hactive hidle hkind
    exact congrArg Host.Outcome.next (runEntry_head (doCombine t) hqueue hactive hidle hkind)
  case finalise =>
    intro t e l s hqueue hactive hidle hkind
    exact congrArg Host.Outcome.next (runEntry_head (doFinalise t) hqueue hactive hidle hkind)
  case update =>
    intro t e l s hqueue hactive hidle hready
    exact congrArg Host.Outcome.next (runEntry_head (doUpdate t) hqueue hactive hidle hready)
  case dma => intro t n r m s hrun hdma; exact congrArg Host.Outcome.next (dmaDone_running hrun hdma)
  case gate => intro t s hgate; exact next_of_guard hgate
  case lift => intro t s hlifting hclock; exact next_of_guard ⟨hlifting, hclock⟩
  case reload => intro t s hfault hkeel; exact next_of_guard (by simp [hfault, hkeel])
  case selftest => intro tk failed k s hticket hrunning; exact exec_tileSelftestDone failed hticket hrunning

end Sys2Proof.Machine
end

section
/-! PROOFS. The scope statements on collectives: the events of groups, of their collectives and of updraft. -/

namespace Sys2Proof.Machine

/-! ### Collectives and groups -/

/-- A chunk that waits for its basket falls back, unless it is of an in-network update or of a group that the enabled image
names (R233, R235, R275). -/
theorem exec_fallbackTimeout_waits {g n k : Nat} {q : Sequence} {s : State} (hseq : seqOf s g n = some q)
    (hopen : q.dstate = 1) (hop : q.op ≠ 6) (hunscheduled : schedGroup s g = false) (hbasket : (chunkIn q k).basket = none)
    (hwaits : (chunkIn q k).waitSince.isSome = true) :
    exec (.fallbackTimeout g n k) s = .next (startFallback g n k s) := by
  have hdue : (q.dstate == 1 && q.op != 6 && !schedGroup s g && (chunkIn q k).basket.isNone &&
      (chunkIn q k).waitSince.isSome) = true := by
    simp [hopen, hop, hunscheduled, hbasket, hwaits]
  show execFallbackTimeout g n k s = _
  simp only [execFallbackTimeout, hseq, if_pos hdue]

/-- The watchdog of an open sequence not yet STALLED marks it, and records how much it still waits for (R237). -/
theorem exec_groupWatchdog_stalls {g n : Nat} {q : Sequence} {s : State} (hseq : seqOf s g n = some q)
    (hopen : q.dstate = 1) (hfirst : q.flags.testBit 1 = false) (hkeel : s.sys.keelLost = false) :
    exec (.groupWatchdog g n) s =
      .next (record 0x07C1
        [(2, g), (4, n), (2, (missingOf (gcfg s g) q).1.length + popcount (missingOf (gcfg s g) q).2)]
        (onSeq g n (fun x => { x with flags := x.flags ||| 2 }) s)) := by
  have hstalls : (q.dstate == 1 && !q.flags.testBit 1 && !s.sys.keelLost) = true := by simp [hopen, hfirst, hkeel]
  show execGroupWatchdog g n s = _
  simp only [execGroupWatchdog, hseq, if_pos hstalls]

/-- A group's own state is no condition of which ticket disables it. -/
@[simp] theorem disableTicket_onGroup (g k : Nat) (f : Group → Group) (s : State) :
    disableTicket (onGroup k f s) g = disableTicket s g := rfl

/-- A DISABLING group that holds nothing more is CONFIGURED again; with no `GROUP.DISABLE` begun, no ticket ends (Table 9-2). -/
theorem exec_groupDisableDone_ticketless {g : Nat} {s : State} (hdisabling : groupSt s g = 3) (hidle : groupIdle s g = true)
    (hticket : disableTicket s g = none) :
    exec (.groupDisableDone g) s = .next (onGroup g (fun x => { x with st := 1 }) s) := by
  show execGroupDisableDone g s = _
  simp [execGroupDisableDone, hdisabling, hidle, hticket]

/-! ### Updraft -/

/-- A frame of the module's own that goes to none of its group's sweep neighbours leaves the list of frames to send again,
and goes out as a `C1` frame (R250). -/
theorem exec_updraftResend_elsewhere {die : Nat} {x : Nat × Nat × Frame} {s : State}
    (hfound : s.tile.resend.find? (fun x => x.1 == die) = some x)
    (helsewhere : ((List.range 4).find? fun dr =>
      ((updCfg s (xGroup x.2.2)).nbrs.getD dr (0, 0)).1 >>> 8 == x.2.2.dest >>> 8) = none) :
    exec (.updraftResend die) s =
      .next (sendC1 x.2.2 (onTile (fun y => { y with resend := y.resend.erase x }) s)) := by
  have hdirection : ((List.range 4).find? fun dr =>
      ((updCfg (onTile (fun y => { y with resend := y.resend.erase x }) s) (xGroup x.2.2)).nbrs.getD dr (0, 0)).1 >>> 8 ==
        x.2.2.dest >>> 8) = none := helsewhere
  show execUpdraftResend die s = _
  simp only [execUpdraftResend, hfound, hdirection, Option.bind_none]

/-- Settles O48: a frame at the head of its consumer's queue is taken; the other events act under their own conditions. -/
theorem groupEventsComplete : Obligations.GroupEventsComplete := by
  refine ⟨?contribution, ?result, ?fallbackNotice, ?recomputeNotice, ?treeDone, ?claim, ?release, ?fallback, ?watchdog,
    ?disabled, ?member, ?sweep, ?doneNotice, ?refill, ?interrupted, ?resend⟩
  case contribution =>
    intro die e l s hqueue htyp hkind
    exact congrArg Host.Outcome.next (consume_head hqueue (by simp [htyp, hkind]))
  case result =>
    intro die e l s hqueue htyp hready
    exact congrArg Host.Outcome.next (consume_head hqueue (by simp [htyp, hready]))
  case fallbackNotice =>
    intro die e l s hqueue hnote
    exact congrArg Host.Outcome.next (consume_head hqueue hnote)
  case recomputeNotice =>
    intro die e l s hqueue hnote
    exact congrArg Host.Outcome.next (consume_head hqueue hnote)
  case treeDone =>
    intro die e l s hqueue hnote
    exact congrArg Host.Outcome.next (consume_head hqueue hnote)
  case claim => intro s; rfl
  case release => intro g n k s hbasket hspent hout; exact next_of_guard (by simp [hbasket, hspent, hout])
  case fallback =>
    intro g n k q s hseq hopen hop hunscheduled hbasket hwaits
    exact exec_fallbackTimeout_waits hseq hopen hop hunscheduled hbasket hwaits
  case watchdog => intro g n q s hseq hopen hfirst hkeel; exact exec_groupWatchdog_stalls hseq hopen hfirst hkeel
  case disabled =>
    intro g s hdisabling hidle hticket
    exact exec_groupDisableDone_ticketless hdisabling hidle hticket
  case member =>
    intro die e l s hqueue hfree hkind
    exact congrArg Host.Outcome.next (consumeC1_head hqueue (by simp [hkind]) hfree)
  case sweep =>
    intro die e l s hqueue hfree hkind
    exact congrArg Host.Outcome.next (consumeC1_head hqueue (by simpa using hkind) hfree)
  case doneNotice =>
    intro die e l s hqueue hfree hnote
    exact congrArg Host.Outcome.next (consumeC1_head hqueue hnote hfree)
  case refill =>
    intro die e l s hqueue hfree hnote
    exact congrArg Host.Outcome.next (consumeC1_head hqueue hnote hfree)
  case interrupted =>
    intro die e l s hqueue hfree hkind hnote
    exact congrArg Host.Outcome.next (consumeC1_head hqueue (by simp [hkind, hnote]) hfree)
  case resend => intro die x s hfound helsewhere; exact exec_updraftResend_elsewhere hfound helsewhere

end Sys2Proof.Machine
end

section
/-! PROOFS. The scope statements on tile programs and the update: what each tile instruction does at its own word, what the
register and store instructions leave alone, and the registers at the start of an UPDATE entry. -/

namespace Sys2Proof.Machine

/-! ### A tile and its registers after an update -/

/-- A tile read after an update of a tile. -/
@[simp] theorem tileOf_onTileU (t k : Nat) (f : Tile → Tile) (s : State) :
    tileOf (onTileU t f s) k = if k = t then f (tileOf s t) else tileOf s k :=
  mget_mset tileDflt s.tile.tiles t k (f (tileOf s t))

theorem tileOf_onRun (t k : Nat) (f : Running → Running) (s : State) :
    tileOf (onRun t f s) k = if k = t then { tileOf s t with run := (tileOf s t).run.map f } else tileOf s k :=
  tileOf_onTileU t k _ s

/-- A program counter that moves on changes no other tile. -/
theorem tileOf_nextPc_of_ne {t k : Nat} (h : k ≠ t) (s : State) : tileOf (nextPc t s) k = tileOf s k := by
  rw [nextPc, tileOf_onRun, if_neg h]

/-- The program counter is none of the registers. -/
@[simp] theorem vreg_nextPc (t n : Nat) (s : State) : vreg (nextPc t s) t n = vreg s t n := by
  rw [vreg, nextPc, tileOf_onRun, if_pos rfl, vreg]

@[simp] theorem sreg_nextPc (t n : Nat) (s : State) : sreg (nextPc t s) t n = sreg s t n := by
  rw [sreg, nextPc, tileOf_onRun, if_pos rfl, sreg]

theorem vreg_setV (t n v m : Nat) (s : State) : vreg (setV t n v s) t m = if m = n then v else vreg s t m := by
  rw [vreg, setV, tileOf_onTileU, if_pos rfl, mget_mset, vreg]

theorem sreg_setV (t n v m : Nat) (s : State) : sreg (setV t n v s) t m = sreg s t m := by
  rw [sreg, setV, tileOf_onTileU, if_pos rfl, sreg]

theorem sreg_setS (t n v m : Nat) (s : State) : sreg (setS t n v s) t m = if m = n then v % 2 ^ 64 else sreg s t m := by
  rw [sreg, setS, tileOf_onTileU, if_pos rfl, mget_mset, sreg]

theorem vreg_setS (t n v m : Nat) (s : State) : vreg (setS t n v s) t m = vreg s t m := by
  rw [vreg, setS, tileOf_onTileU, if_pos rfl, vreg]

/-! ### What an instruction does at its own word -/

section
variable {s : State} {t : Nat} {r : Running}

theorem exec_vzero_at {vd : Nat} (h : AtInsn s t (insn 0x20 vd 0 0 0 0 0) (mOpc + mD) r) :
    exec (.vzero t vd) s = .next (setV t vd 0 (nextPc t s)) :=
  congrArg Host.Outcome.next (issue_at h)

theorem exec_sli_at {sd imm : Nat} (h : AtInsn s t (insn 0x30 sd 0 0 0 0 imm) (mOpc + mD + mImm) r) :
    exec (.sli t sd imm) s = .next (setS t sd (sext imm) (nextPc t s)) :=
  congrArg Host.Outcome.next (issue_at h)

theorem exec_saddi_at {sd sa imm : Nat} (h : AtInsn s t (insn 0x31 sd sa 0 0 0 imm) (mOpc + mD + mA + mImm) r) :
    exec (.saddi t sd sa imm) s = .next (setS t sd (sreg s t sa + sext imm) (nextPc t s)) :=
  congrArg Host.Outcome.next (issue_at h)

theorem exec_sfmul_at {sd sa sb : Nat} (h : AtInsn s t (insn 0x32 sd sa sb 0 0 0) (mOpc + mD + mA + mB) r) :
    exec (.sfmul t sd sa sb) s = .next (setS t sd (f32mul (f32of (sreg s t sa)) (f32of (sreg s t sb))) (nextPc t s)) :=
  congrArg Host.Outcome.next (issue_at h)

theorem exec_sfadd_at {sd sa sb : Nat} (h : AtInsn s t (insn 0x33 sd sa sb 0 0 0) (mOpc + mD + mA + mB) r) :
    exec (.sfadd t sd sa sb) s = .next (setS t sd (f32add (f32of (sreg s t sa)) (f32of (sreg s t sb))) (nextPc t s)) :=
  congrArg Host.Outcome.next (issue_at h)

theorem exec_sldu_at {sd off : Nat} (h : AtInsn s t (insn 0x34 sd 0 0 0 0 off) (mOpc + mD + mImm) r) :
    exec (.sldu t sd off) s = .next (setS t sd
      (if off ≤ 60 then rdLe r.block off 4 else Config.unstated 62 off % 2 ^ 32) (nextPc t s)) :=
  congrArg Host.Outcome.next (issue_at h)

/-- A load within the entry's pages (R266). -/
theorem exec_vld_at {vd sa off : Nat} (h : AtInsn s t (insn 0x01 vd 0 0 0 sa off) (mOpc + mD + mS + mImm) r)
    (hpages : spadOk r (spadAddr s t sa off) 64 = true) :
    exec (.vld t vd sa off) s = .next (setV t vd (leNat (spadRead s t (spadAddr s t sa off) 64)) (nextPc t s)) :=
  congrArg Host.Outcome.next (Eq.trans (issue_at h) (if_pos hpages))

/-- A store within the entry's pages (R266). -/
theorem exec_vst_at {vs sa off : Nat} (h : AtInsn s t (insn 0x02 0 vs 0 0 sa off) (mOpc + mA + mS + mImm) r)
    (hpages : spadOk r (spadAddr s t sa off) 64 = true) :
    exec (.vst t vs sa off) s =
      .next (spadWrite t (spadAddr s t sa off) (leBytes 64 (vreg s t vs)) (nextPc t s)) :=
  congrArg Host.Outcome.next (Eq.trans (issue_at h) (if_pos hpages))

/-- A store in the weight format within the entry's pages (R266). -/
theorem exec_vstc_at {vs sa off fmt : Nat}
    (h : AtInsn s t (insn 0x03 0 vs 0 fmt sa off) (mOpc + mA + mC + mS + mImm) r)
    (hpages : spadOk r (spadAddr s t sa off) ((lanesOf (vreg s t vs)).flatMap (weightBytes fmt)).length = true) :
    exec (.vstc t vs sa off fmt) s =
      .next (spadWrite t (spadAddr s t sa off) ((lanesOf (vreg s t vs)).flatMap (weightBytes fmt)) (nextPc t s)) :=
  congrArg Host.Outcome.next (Eq.trans (issue_at h) (if_pos hpages))

/-- A loop whose count reaches 0 goes on to the next instruction. -/
theorem exec_loop_ends {sd off : Nat} (h : AtInsn s t (insn 0x50 sd 0 0 0 0 off) (mOpc + mD + mImm) r)
    (hcount : (sreg s t sd + 2 ^ 64 - 1) % 2 ^ 64 = 0) : exec (.loop t sd off) s = .next (nextPc t (setS t sd 0 s)) := by
  refine congrArg Host.Outcome.next (Eq.trans (issue_at h) ?_)
  simp only [hcount, if_pos]

/-- A loop whose count does not reach 0 goes back, to a target within the program's slot (R263). -/
theorem exec_loop_repeats {sd off : Nat} (h : AtInsn s t (insn 0x50 sd 0 0 0 0 off) (mOpc + mD + mImm) r)
    (hcount : (sreg s t sd + 2 ^ 64 - 1) % 2 ^ 64 ≠ 0) (htarget : slotBase r.pc + off ≤ r.pc) :
    exec (.loop t sd off) s = .next (onRun t (fun r => { r with pc := r.pc - off })
      (setS t sd ((sreg s t sd + 2 ^ 64 - 1) % 2 ^ 64) s)) :=
  congrArg Host.Outcome.next (Eq.trans (issue_at h) (Eq.trans (if_neg hcount) (if_pos htarget)))

end

/-- Settles O41: each instruction at its own word, under its own condition. -/
theorem tileInstructionsComplete : Obligations.TileInstructionsComplete := by
  refine ⟨?nop, ?vadd, ?vsub, ?vmin, ?vmax, ?vmul, ?vmulScalar, ?vfma, ?vema, ?vaxpby, ?vrsqa, ?vzero, ?sli, ?saddi, ?sfmul,
    ?sfadd, ?sldu, ?vld, ?vst, ?vstc, ?dmard, ?dmawr, ?dmawait, ?loopEnds, ?loopRepeats, ?endEntry⟩
  case nop => intro t r s h; exact congrArg Host.Outcome.next (issue_at h)
  case vadd => intro t vd va vb r s h; exact congrArg Host.Outcome.next (issue_at h)
  case vsub => intro t vd va vb r s h; exact congrArg Host.Outcome.next (issue_at h)
  case vmin => intro t vd va vb r s h; exact congrArg Host.Outcome.next (issue_at h)
  case vmax => intro t vd va vb r s h; exact congrArg Host.Outcome.next (issue_at h)
  case vmul => intro t vd va vb r s h; exact congrArg Host.Outcome.next (issue_at h)
  case vmulScalar => intro t vd va sb r s h; exact congrArg Host.Outcome.next (issue_at h)
  case vfma => intro t vd va vb vc r s h; exact congrArg Host.Outcome.next (issue_at h)
  case vema => intro t vd va vb sc r s h; exact congrArg Host.Outcome.next (issue_at h)
  case vaxpby => intro t vd va vb sa sb r s h; exact congrArg Host.Outcome.next (issue_at h)
  case vrsqa => intro t vd va sa sb r s h; exact congrArg Host.Outcome.next (issue_at h)
  case vzero => intro t vd r s h; exact exec_vzero_at h
  case sli => intro t sd imm r s h; exact exec_sli_at h
  case saddi => intro t sd sa imm r s h; exact exec_saddi_at h
  case sfmul => intro t sd sa sb r s h; exact exec_sfmul_at h
  case sfadd => intro t sd sa sb r s h; exact exec_sfadd_at h
  case sldu => intro t sd off r s h; exact exec_sldu_at h
  case vld => intro t vd sa off r s h hpages; exact exec_vld_at h hpages
  case vst => intro t vs sa off r s h hpages; exact exec_vst_at h hpages
  case vstc => intro t vs sa off fmt r s h hpages; exact exec_vstc_at h hpages
  case dmard => intro t sa sb len r s h hdma; exact congrArg Host.Outcome.next (Eq.trans (issue_at h) (if_pos hdma))
  case dmawr => intro t sa sb len r s h hdma; exact congrArg Host.Outcome.next (Eq.trans (issue_at h) (if_pos hdma))
  case dmawait => intro t r s h; exact congrArg Host.Outcome.next (issue_at h)
  case loopEnds => intro t sd off r s h hcount; exact exec_loop_ends h hcount
  case loopRepeats => intro t sd off r s h hcount htarget; exact exec_loop_repeats h hcount htarget
  case endEntry => intro t r s h; exact congrArg Host.Outcome.next (issue_at h)

/-! ### Stores -/

@[simp] theorem length_leBytes (n v : Nat) : (leBytes n v).length = n := by
  induction n generalizing v with
  | zero => rfl
  | succ n ih => rw [leBytes, List.length_cons, ih]

/-- A step that stores bytes in a tile's scratchpad and moves on changes no other scratchpad byte, and no byte of HBM. -/
theorem spadWrite_step_frame {c : Instr} {t o : Nat} {bs : List Byte} {s u : State}
    (hexec : exec c s = .next (spadWrite t o bs (nextPc t s))) (hnext : exec c s = .next u) :
    (∀ x, (x < t * 0x200000 + o ∨ t * 0x200000 + o + bs.length ≤ x) →
      memGet u.tile.spad x = memGet s.tile.spad x) ∧ ∀ x, hbmByte u x = hbmByte s x := by
  obtain rfl : u = spadWrite t o bs (nextPc t s) := Host.Outcome.next.inj (hnext.symm.trans hexec)
  refine ⟨fun x hx => ?_, fun x => rfl⟩
  exact memGet_memWrite_outside bs s.tile.spad _ x hx

/-- Settles O25: both stores write their bytes and move on. -/
theorem aVectorStoreChangesOnlyItsBytes : Obligations.AVectorStoreChangesOnlyItsBytes := by
  refine ⟨?vst, ?vstc⟩
  case vst =>
    intro t vs sa off r s u h hpages hnext
    simpa only [length_leBytes] using spadWrite_step_frame (exec_vst_at h hpages) hnext
  case vstc =>
    intro t vs sa off fmt r s u h hpages hnext
    exact spadWrite_step_frame (exec_vstc_at h hpages) hnext

/-! ### Register instructions -/

/-- A step that writes a vector register and moves on changes that register of that tile alone. -/
theorem setV_step_frame {c : Instr} {t vd v : Nat} {s u : State} (hexec : exec c s = .next (setV t vd v (nextPc t s)))
    (hnext : exec c s = .next u) :
    (∀ k, k ≠ t → tileOf u k = tileOf s k) ∧ (∀ n, n ≠ vd → vreg u t n = vreg s t n) ∧ (∀ n, sreg u t n = sreg s t n) ∧
      u.tile.spad = s.tile.spad ∧ u.mem = s.mem ∧ u.tile.groups = s.tile.groups ∧ u.set = s.set ∧ u.flt = s.flt := by
  obtain rfl : u = setV t vd v (nextPc t s) := Host.Outcome.next.inj (hnext.symm.trans hexec)
  refine ⟨fun k hk => ?_, fun n hn => ?_, fun n => ?_, rfl, rfl, rfl, rfl, rfl⟩
  · rw [setV, tileOf_onTileU, if_neg hk, tileOf_nextPc_of_ne hk]
  · rw [vreg_setV, if_neg hn, vreg_nextPc]
  · rw [sreg_setV, sreg_nextPc]

/-- A step that writes a scalar register and moves on changes that register of that tile alone. -/
theorem setS_step_frame {c : Instr} {t sd v : Nat} {s u : State} (hexec : exec c s = .next (setS t sd v (nextPc t s)))
    (hnext : exec c s = .next u) :
    (∀ k, k ≠ t → tileOf u k = tileOf s k) ∧ (∀ n, n ≠ sd → sreg u t n = sreg s t n) ∧ (∀ n, vreg u t n = vreg s t n) ∧
      u.tile.spad = s.tile.spad ∧ u.mem = s.mem ∧ u.tile.groups = s.tile.groups ∧ u.set = s.set ∧ u.flt = s.flt := by
  obtain rfl : u = setS t sd v (nextPc t s) := Host.Outcome.next.inj (hnext.symm.trans hexec)
  refine ⟨fun k hk => ?_, fun n hn => ?_, fun n => ?_, rfl, rfl, rfl, rfl, rfl⟩
  · rw [setS, tileOf_onTileU, if_neg hk, tileOf_nextPc_of_ne hk]
  · rw [sreg_setS, if_neg hn, sreg_nextPc]
  · rw [vreg_setS, vreg_nextPc]

/-- Settles O26: each of the instructions writes its destination and moves on. -/
theorem registerInstructionsChangeOneRegister : Obligations.RegisterInstructionsChangeOneRegister := by
  refine ⟨?vld, ?vzero, ?sli, ?saddi, ?sfmul, ?sfadd, ?sldu⟩
  case vld => intro t vd sa off r s u h hpages hnext; exact setV_step_frame (exec_vld_at h hpages) hnext
  case vzero => intro t vd r s u h hnext; exact setV_step_frame (exec_vzero_at h) hnext
  case sli => intro t sd imm r s u h hnext; exact setS_step_frame (exec_sli_at h) hnext
  case saddi => intro t sd sa imm r s u h hnext; exact setS_step_frame (exec_saddi_at h) hnext
  case sfmul => intro t sd sa sb r s u h hnext; exact setS_step_frame (exec_sfmul_at h) hnext
  case sfadd => intro t sd sa sb r s u h hnext; exact setS_step_frame (exec_sfadd_at h) hnext
  case sldu => intro t sd off r s u h hnext; exact setS_step_frame (exec_sldu_at h) hnext

/-! ### Arithmetic without a NaN -/

/-- Settles O27: with no NaN among the results none fills the latch, and with none among the inputs either no group traps. -/
theorem arithmeticWithoutNaN : Obligations.ArithmeticWithoutNaN := by
  intro t opc vd ins out r s hnumbers
  have hout : (List.range 16).filter (fun i => f32nan (out.getD i 0)) = [] :=
    List.filter_eq_nil_iff.mpr fun i hi => ne_true_of_eq_false (hnumbers i (List.mem_range.mp hi)).1
  have hins : (List.range 16).any (fun i => ins.any fun l => f32nan (l.getD i 0)) = false :=
    List.any_eq_false.mpr fun i hi => ne_true_of_eq_false <|
      List.any_eq_false.mpr fun l hl => ne_true_of_eq_false ((hnumbers i (List.mem_range.mp hi)).2 l hl)
  simp only [arith, hout, hins, List.filter_nil, forEach, List.foldl_nil, List.isEmpty_nil, Bool.not_true, Bool.or_false,
    Bool.and_false, Bool.false_eq_true, if_false]

/-! ### The start of an UPDATE entry -/

/-- A table filled from a list, each value under its place from `k` up, reads as the list there and elsewhere as before. -/
theorem mget_foldl_mset_zipIdx (vals : List Nat) (k n : Nat) (m : Map Nat) :
    mget 0 ((vals.zipIdx k).foldl (fun m e => mset 0 m e.2 e.1) m) n =
      if k ≤ n ∧ n < k + vals.length then vals.getD (n - k) 0 else mget 0 m n := by
  induction vals generalizing k m with
  | nil => exact (if_neg (by rw [List.length_nil]; omega)).symm
  | cons v vals ih =>
    rw [List.zipIdx_cons, List.foldl_cons, ih, mget_mset, List.length_cons]
    obtain hbelow | rfl | habove := Nat.lt_trichotomy n k
    · rw [if_neg (by omega), if_neg (by omega), if_neg (by omega)]
    · rw [if_neg (by omega), if_pos rfl, if_pos (by omega), Nat.sub_self, List.getD_cons_zero]
    · obtain ⟨j, rfl⟩ := Nat.exists_eq_add_of_lt habove
      have hinside : (k + 1 ≤ k + j + 1 ∧ k + j + 1 < k + 1 + vals.length) ↔
          (k ≤ k + j + 1 ∧ k + j + 1 < k + (vals.length + 1)) := by omega
      have hhere : k + j + 1 - (k + 1) = j := by omega
      have hthere : k + j + 1 - k = j + 1 := by omega
      simp only [hinside, hhere, hthere, List.getD_cons_succ, if_neg (Nat.ne_of_gt habove)]

/-- Beyond its end a list reads as its default. -/
theorem getD_of_length_le {vals : List Nat} {n : Nat} (h : vals.length ≤ n) : vals.getD n 0 = 0 := by
  rw [List.getD_eq_getElem?_getD, List.getElem?_eq_none h, Option.getD_none]

/-- Filled from its first place and empty before, the table reads as the list at every place. -/
theorem mget_foldl_mset_zipIdx_nil (vals : List Nat) (n : Nat) :
    mget 0 (vals.zipIdx.foldl (fun m e => mset 0 m e.2 e.1) []) n = vals.getD n 0 := by
  rw [mget_foldl_mset_zipIdx, Nat.zero_add, Nat.sub_zero]
  split
  case isTrue => rfl
  case isFalse hbeyond => rw [getD_of_length_le (by omega)]; rfl

/-- The scalar registers at the start of an UPDATE entry are the rows of Table 11-1. -/
theorem mget_startScalars (s : State) (k : GroupCfg) (q : Sequence) (b : UpdBind) (c n : Nat) :
    mget 0 (startScalars s k q b c) n =
      ([basketOff (chunkIn q c), stageOff (chunkIn q c), stateRegion s k q b c ((updStep q + 1) % 2),
        stateRegion s k q b c (updStep q % 2), chunkLen k q c, chunkElems k.mode q, updScalar q 0, updScalar q 1, updScalar q 2,
        updScalar q 3, updScalar q 4, updScalar q 5, updScalar q 6, updScalar q 7, updStep q] : List Nat).getD n 0 :=
  mget_foldl_mset_zipIdx_nil _ n

/-- The tile as an UPDATE entry of a loaded program leaves it at its start: no vector register keeps a value, the scalars are
loaded, and the run stands at the slot that holds the program (R262). -/
theorem tileOf_startUpdate_loaded {t g seq c : Nat} {s : State} {q : Sequence} {b : UpdBind} (hseq : seqOf s g seq = some q)
    (hbind : updBindOf s q = some b) (hloaded : 16 ≤ b.prog) :
    ∃ run : Running, run.pc = tileSlot s (t / 32) b.prog ∧ tileOf (startUpdate t g seq c s) t =
      { tileOf s t with vregs := [], sregs := startScalars s (gcfg s g) q b c, run := some run } := by
  simp only [startUpdate, hseq, hbind, if_neg (Nat.not_lt.mpr hloaded), tileOf_onTileU, if_pos]
  exact ⟨_, rfl, rfl⟩

/-- Settles O28: the start of the entry empties the vector registers and loads the scalars of Table 11-1. -/
theorem anUpdateEntryStartsClean : Obligations.AnUpdateEntryStartsClean := by
  intro t g seq c s q b hseq hbind hloaded u
  obtain ⟨run, hpc, htile⟩ := tileOf_startUpdate_loaded (t := t) (c := c) hseq hbind hloaded
  have hvector : ∀ n, vreg u t n = 0 := by
    intro n
    rw [vreg, htile]
    rfl
  have hscalar : ∀ n, sreg u t n = mget 0 (startScalars s (gcfg s g) q b c) n := by
    intro n
    rw [sreg, htile]
  have hrun : (tileOf u t).run.map (·.pc) = some (tileSlot s (t / 32) b.prog) := by
    rw [htile, ← hpc]
    rfl
  simp only [hscalar, mget_startScalars]
  refine ⟨hvector, rfl, rfl, rfl, rfl, rfl, rfl, fun i hi => ?_, rfl, fun n hn => getD_of_length_le hn, hrun⟩
  match i with
  | 0 | 1 | 2 | 3 | 4 | 5 | 6 | 7 => rfl
  | i + 8 => omega

end Sys2Proof.Machine
end

section
/-! PROOFS. The scope statements on the memory model: the accesses of windows, fences and the host's CXL.mem, and what a
host write changes in HBM. -/

namespace Sys2Proof.Machine

/-! ### HBM across other parts of the state -/

/-- A change outside HBM and its marks shows every byte as before. -/
theorem hbmByte_of_fr {m : Nat} {s t : State} (hmarks : m.testBit 8 = false) (hhbm : m.testBit 14 = false) (h : Fr m s t)
    (x : Nat) : hbmByte t x = hbmByte s x := by
  obtain ⟨-, -, -, -, -, -, -, -, -, -, hscrub, -, -, -, -, -, hbytes, -⟩ := h.2
  have hmarked : marked t x = marked s x := by rw [marked, marked, hscrub hmarks]
  rw [hbmByte, hbmByte, hmarked, hbytes hhbm]

/-- Waking a stack moves no byte of it (R288). -/
@[simp] theorem hbmByte_wakeStack (a x : Nat) (s : State) : hbmByte (wakeStack a s) x = hbmByte s x := rfl

/-- What the return of a side to OPEN may change, its drains abandoned and their tickets failed. -/
def pReopening : Nat :=
  pTickets + pHistory + pRings + pFault + pQueues + pDies + pSnap + pFlash + pTwin + pSettings + pJournal + pSent

/-- A side that returns to OPEN keeps its bytes (R333). -/
@[simp] theorem hbmByte_sideWritten (a x : Nat) (s : State) : hbmByte (sideWritten a s) x = hbmByte s x :=
  hbmByte_of_fr (m := pReopening) rfl rfl (keeps_sideWritten (sub_num rfl) a s (fr_refl _ s)) x

/-! ### A host access at its device address -/

/-- The state after a host write that is performed and completed (R301). -/
def hostWritten (a tag : Nat) (bs : List Byte) (s : State) : State :=
  emit (.hostData tag []) (hbmWrite a bs (sideWritten a (wakeStack a s)))

theorem hbmByte_hostWritten (a tag x : Nat) (bs : List Byte) (s : State) :
    hbmByte (hostWritten a tag bs s) x = if a ≤ x ∧ x < a + bs.length then bs.getD (x - a) 0 else hbmByte s x := by
  have hwrite := hbmByte_hbmWrite a x bs (sideWritten a (wakeStack a s))
  rwa [hbmByte_sideWritten, hbmByte_wakeStack] at hwrite

theorem hbmByte_hostWritten_inside {a tag i : Nat} {bs : List Byte} (s : State) (h : i < bs.length) :
    hbmByte (hostWritten a tag bs s) (a + i) = bs[i] := by
  rw [hbmByte_hostWritten, if_pos ⟨Nat.le_add_right a i, Nat.add_lt_add_left h a⟩, Nat.add_sub_cancel_left,
    List.getD_eq_getElem?_getD, List.getElem?_eq_getElem h, Option.getD_some]

theorem hbmByte_hostWritten_outside {a tag x : Nat} {bs : List Byte} (s : State) (h : x < a ∨ a + bs.length ≤ x) :
    hbmByte (hostWritten a tag bs s) x = hbmByte s x := by
  rw [hbmByte_hostWritten, if_neg (by omega)]

/-- The completion of a performed write is the last thing sent. -/
theorem out_getLast?_hostWritten (a tag : Nat) (bs : List Byte) (s : State) :
    (hostWritten a tag bs s).out.getLast? = some (.hostData tag []) :=
  List.getLast?_concat

/-- What a host write may change when it is denied, dropped or held, the report of a bad block and the request for its page
included: no byte of HBM and no mark. -/
def pUnwritten : Nat := pHost + pFault + pLinks + pQueues + pDies + pMem + pSnap + pSent

/-- A write that Table 19-3 lets through is performed, or held for the restore of a bad block that it merges into (R307). -/
theorem hostAccess_write_cases (a tag : Nat) (bs : List Byte) (s : State) :
    hostAccess ⟨a, bs.length, tag, some bs⟩ s = hostWritten a tag bs s ∨
      Fr pUnwritten s (hostAccess ⟨a, bs.length, tag, some bs⟩ s) := by
  simp only [hostAccess]
  split
  case isTrue hbad =>
    exact .inr (keeps_restorePage (sub_num rfl) _ _ (keeps_holdHost (sub_num rfl) _ _
      (keeps_wakeStack (sub_num rfl) _ _ (fr_refl _ s))))
  case isFalse hsound => exact .inl rfl

/-- Under the verdicts of Table 19-3 a write is performed, or it leaves HBM alone. -/
theorem hostTake_write_cases (a tag fil : Nat) (bs : List Byte) (s : State) :
    hostTake ⟨a, bs.length, tag, some bs⟩ fil s = hostWritten a tag bs s ∨
      Fr pUnwritten s (hostTake ⟨a, bs.length, tag, some bs⟩ fil s) := by
  have unmoved := fr_refl pUnwritten s
  unfold hostTake
  split
  case h_1 hdenied => exact .inr (keeps_emit _ (sub_num rfl) (keeps_onHost _ (sub_num rfl) unmoved))
  case h_2 hperformed => exact hostAccess_write_cases a tag bs s
  case h_3 hheld => exact .inr (keeps_holdHost (sub_num rfl) _ _ unmoved)
  case h_4 hdropped => exact .inr (keeps_emit _ (sub_num rfl) (keeps_onHost _ (sub_num rfl) unmoved))

/-- Whatever becomes of a host write, a byte outside it reads as before. -/
theorem hbmByte_hostTake_outside {a tag fil x : Nat} {bs : List Byte} (s : State) (h : x < a ∨ a + bs.length ≤ x) :
    hbmByte (hostTake ⟨a, bs.length, tag, some bs⟩ fil s) x = hbmByte s x := by
  obtain hwritten | hkept := hostTake_write_cases a tag fil bs s
  · rw [hwritten, hbmByte_hostWritten_outside s h]
  · exact hbmByte_of_fr rfl rfl hkept x

/-- A block found bad is noted and reported, and shows its bytes as before (R307). -/
@[simp] theorem hbmByte_badBlock (a x : Nat) (s : State) : hbmByte (badBlock a s) x = hbmByte s x :=
  hbmByte_of_fr (m := pFault + pMem + pSent) rfl rfl (keeps_badBlock (sub_num rfl) a s (fr_refl _ s)) x

/-! ### A host access at its host address (R417) -/

/-- An access changes nothing, or a committed decoder gives its device address and its verdict is acted on, a block found bad
noted before. -/
theorem hostMem_cases (addr len tag : Nat) (wr : Option (List Byte)) (crcBad : Bool) (s : State) :
    hostMem addr len tag wr crcBad s = s ∨
      ∃ a fil, decodeHost s addr = some (a, fil) ∧
        (hostMem addr len tag wr crcBad s = hostTake ⟨a, len, tag, wr⟩ fil s ∨
          hostMem addr len tag wr crcBad s = hostTake ⟨a, len, tag, wr⟩ fil (badBlock a s)) := by
  unfold hostMem
  split
  case isFalse hdown => exact .inl rfl
  case isTrue hup =>
    split
    case h_2 huncovered => exact .inl rfl
    case h_1 a fil hcovered =>
      refine .inr ⟨a, fil, hcovered, ?_⟩
      dsimp only
      split
      case isTrue hcrc => exact .inr rfl
      case isFalse hsound => exact .inl rfl

/-- Settles O23: a write is acted on at the device address that its decoder gives, or not at all. -/
theorem aHostWriteChangesOnlyItsBytes : Obligations.AHostWriteChangesOnlyItsBytes := by
  intro addr tag bs crcBad s t hexec x houtside
  obtain rfl : hostMem addr bs.length tag (some bs) crcBad s = t := Host.Outcome.next.inj hexec
  obtain hsame | ⟨a, fil, hcovered, htaken | htaken⟩ := hostMem_cases addr bs.length tag (some bs) crcBad s
  · rw [hsame]
  · rw [htaken, hbmByte_hostTake_outside s (houtside a fil hcovered)]
  · rw [htaken, hbmByte_hostTake_outside _ (houtside a fil hcovered), hbmByte_badBlock]

/-- An access whose data arrive sound, over a host link that carries CXL to a running module, reaches its verdict; where that
is to perform, it is let through. -/
theorem hostMem_let_through {addr len tag a fil : Nat} {wr : Option (List Byte)} {s : State}
    (hup : (cxlMemUp s && running s && !s.sys.keelLost) = true) (hcovered : decodeHost s addr = some (a, fil))
    (hverdict : hostVerdict s a len fil wr.isSome = 1) :
    hostMem addr len tag wr false s = hostAccess ⟨a, len, tag, wr⟩ s := by
  simp only [hostMem, if_pos hup, hcovered, Bool.false_and, if_neg Bool.false_ne_true, hostTake, hverdict]

/-- A write let through that merges into no bad block is performed and completed. -/
theorem exec_cxlMemWrite_performed {addr tag a fil : Nat} {bs : List Byte} {s : State}
    (hup : (cxlMemUp s && running s && !s.sys.keelLost) = true) (hcovered : decodeHost s addr = some (a, fil))
    (hverdict : hostVerdict s a bs.length fil true = 1)
    (hsound : (!marked (wakeStack a s) a && mergesBad (wakeStack a s) a bs.length) = false) :
    exec (.cxlMemWrite addr bs tag false) s = .next (hostWritten a tag bs s) := by
  show Host.Outcome.next (hostMem addr bs.length tag (some bs) false s) = _
  rw [hostMem_let_through hup hcovered hverdict]
  simp only [hostAccess, hsound, if_neg Bool.false_ne_true, hostWritten]

/-- A read let through that touches no bad block is answered with its bytes (R304). -/
theorem exec_cxlMemRead_performed {addr len tag a fil : Nat} {s : State}
    (hup : (cxlMemUp s && running s && !s.sys.keelLost) = true) (hcovered : decodeHost s addr = some (a, fil))
    (hverdict : hostVerdict s a len fil false = 1)
    (hsound : (!marked (wakeStack a s) a && hbmBad (wakeStack a s) a len) = false) :
    exec (.cxlMemRead addr len tag false) s =
      .next (emit (.hostData tag (hbmRead (wakeStack a s) a len)) (wakeStack a s)) := by
  show Host.Outcome.next (hostMem addr len tag none false s) = _
  rw [hostMem_let_through hup hcovered hverdict]
  simp only [hostAccess, hsound, if_neg Bool.false_ne_true]

/-- Settles O24: the write is performed at its device address, and its completion sent after. -/
theorem aHostWriteIsPerformed : Obligations.AHostWriteIsPerformed := by
  intro addr tag a fil bs s hup hcovered hverdict hunharmed
  have hsound : (!marked (wakeStack a s) a && mergesBad (wakeStack a s) a bs.length) = false := by
    show (!marked s a && mergesBad s a bs.length) = false
    rw [← Bool.not_eq_true', Bool.not_and, Bool.not_not, hunharmed]
  exact ⟨hostWritten a tag bs s, exec_cxlMemWrite_performed hup hcovered hverdict hsound,
    fun i hi => hbmByte_hostWritten_inside s hi, out_getLast?_hostWritten a tag bs s⟩

/-! ### Requests of the windows -/

/-- The head of a window queue, of the kind asked for, whose turn has come and whose tile is awake, is performed (R290). -/
theorem windowStep_head {die key : Nat} {bad memBad : Bool} {kind : Frame → Bool} {e : QEnt} {l : List QEnt} {s : State}
    (hqueue : consQ s (64 * die + key) = e :: l) (hwindow : key < 64 ∧ key ≠ 3 ∧ key ≠ 4) (hkind : kind e.frame = true)
    (hturn : mustWait s die e = false) (hawake : tileAsleep s e.frame = false) :
    windowStep die key bad memBad kind s = perform die bad memBad e (onCons (64 * die + key) (fun _ => l) s) := by
  have hdue : (key < 64 && key != 3 && key != 4 && kind e.frame && !mustWait s die e) = true := by
    simp [hwindow, hkind, hturn]
  simp only [windowStep, hqueue, if_pos hdue, hawake, if_neg Bool.false_ne_true]

/-- Settles O49: a request of the windows or a fence is performed at its turn, stream marks end, and the host's accesses that
Table 19-3 lets through are performed and completed. -/
theorem memoryAccessesComplete : Obligations.MemoryAccessesComplete := by
  refine ⟨?read, ?write, ?fence, ?expire, ?hostRead, ?hostWrite⟩
  case read =>
    intro die key e l s hqueue hkey hupdraft hsnap hturn hawake htyp hplain
    exact congrArg Host.Outcome.next
      (windowStep_head hqueue ⟨hkey, hupdraft, hsnap⟩ (by simp [htyp, hplain]) hturn hawake)
  case write =>
    intro die key e l s hqueue hkey hupdraft hsnap hturn hawake htyp
    exact congrArg Host.Outcome.next (windowStep_head hqueue ⟨hkey, hupdraft, hsnap⟩ (by simp [htyp]) hturn hawake)
  case fence =>
    intro die e l s hqueue hturn hawake hfence
    exact congrArg Host.Outcome.next (windowStep_head (key := 0) hqueue (by decide) hfence hturn hawake)
  case expire => intro die src dest cls s; rfl
  case hostRead =>
    intro addr len tag a fil s hcxl hrunning hkeel hcovered hverdict hsound
    exact exec_cxlMemRead_performed (by simp [hcxl, hrunning, hkeel]) hcovered hverdict hsound
  case hostWrite =>
    intro addr tag a fil bs s hcxl hrunning hkeel hcovered hverdict hsound
    exact exec_cxlMemWrite_performed (by simp [hcxl, hrunning, hkeel]) hcovered hverdict hsound

end Sys2Proof.Machine
end

section
/-! PROOFS. The statements on every command and on a step: the frame of each command, canonical memories, the idle step, and
that every command answers. -/

namespace Sys2Proof.Machine

/-! ### The frame of every command -/

theorem sub_refl (m : Nat) : Sub m m := fun _ h => h

/-- A next state of a command keeps what may not be undone, and differs in the parts of the command's footprint alone: each
row by the law of its own meaning. -/
theorem exec_fr (c : Instr) (s : State) : KeepsX (footprint c) s (exec c s) :=
  match c with
  | .nop q => keeps_execNop (sub_refl _) q s (fr_refl _ s)
  | .caps q => keeps_execCaps (sub_refl _) q s (fr_refl _ s)
  | .ping q => keeps_execPing (sub_refl _) q s (fr_refl _ s)
  | .devCaps q => keeps_execDevCaps (sub_refl _) q s (fr_refl _ s)
  | .devState q => keeps_execDevState (sub_refl _) q s (fr_refl _ s)
  | .devService q => keeps_execDevService (sub_refl _) q s (fr_refl _ s)
  | .devRestart q => keeps_execDevRestart (sub_refl _) q s (fr_refl _ s)
  | .devSelftest q => keeps_execDevSelftest (sub_refl _) q s (fr_refl _ s)
  | .devMgmtcfg q => keeps_execDevMgmtcfg (sub_refl _) q s (fr_refl _ s)
  | .devHostquery q => keeps_execDevHostquery (sub_refl _) q s (fr_refl _ s)
  | .portEnable q => keeps_execPortEnable (sub_refl _) q s (fr_refl _ s)
  | .portDisable q => keeps_execPortDisable (sub_refl _) q s (fr_refl _ s)
  | .portSplit q => keeps_execPortSplit (sub_refl _) q s (fr_refl _ s)
  | .portPower q => keeps_execPortPower (sub_refl _) q s (fr_refl _ s)
  | .portQuery q => keeps_execPortQuery (sub_refl _) q s (fr_refl _ s)
  | .laneStats q => keeps_execLaneStats (sub_refl _) q s (fr_refl _ s)
  | .laneTest q => keeps_execLaneTest (sub_refl _) q s (fr_refl _ s)
  | .optRead q => keeps_execOptRead (sub_refl _) q s (fr_refl _ s)
  | .optInspect q => keeps_execOptInspect (sub_refl _) q s (fr_refl _ s)
  | .optClean q => keeps_execOptClean (sub_refl _) q s (fr_refl _ s)
  | .portLinkcfg q => keeps_execPortLinkcfg (sub_refl _) q s (fr_refl _ s)
  | .portLstats q => keeps_execPortLstats (sub_refl _) q s (fr_refl _ s)
  | .portEthcfg q => keeps_execPortEthcfg (sub_refl _) q s (fr_refl _ s)
  | .cartRead q => keeps_execCartRead (sub_refl _) q s (fr_refl _ s)
  | .cartOverride q => keeps_execCartOverride (sub_refl _) q s (fr_refl _ s)
  | .cartRescan q => keeps_execCartRescan (sub_refl _) q s (fr_refl _ s)
  | .routeWrite q => keeps_execRouteWrite (sub_refl _) q s (fr_refl _ s)
  | .routeCommit q => keeps_execRouteCommit (sub_refl _) q s (fr_refl _ s)
  | .routeHold q => keeps_execRouteHold (sub_refl _) q s (fr_refl _ s)
  | .routeRelease q => keeps_execRouteRelease (sub_refl _) q s (fr_refl _ s)
  | .routeQuery q => keeps_execRouteQuery (sub_refl _) q s (fr_refl _ s)
  | .routeCongmap q => keeps_execRouteCongmap (sub_refl _) q s (fr_refl _ s)
  | .routeCmapcfg q => keeps_execRouteCmapcfg (sub_refl _) q s (fr_refl _ s)
  | .routeSparstats q => keeps_execRouteSparstats (sub_refl _) q s (fr_refl _ s)
  | .sliceBind q => keeps_execSliceBind (sub_refl _) q s (fr_refl _ s)
  | .sliceEnable q => keeps_execSliceEnable (sub_refl _) q s (fr_refl _ s)
  | .sliceDisable q => keeps_execSliceDisable (sub_refl _) q s (fr_refl _ s)
  | .sliceQuery q => keeps_execSliceQuery (sub_refl _) q s (fr_refl _ s)
  | .qosServicecfg q => keeps_execQosServicecfg (sub_refl _) q s (fr_refl _ s)
  | .qosSubcfg q => keeps_execQosSubcfg (sub_refl _) q s (fr_refl _ s)
  | .qosShapecfg q => keeps_execQosShapecfg (sub_refl _) q s (fr_refl _ s)
  | .qosPolicecfg q => keeps_execQosPolicecfg (sub_refl _) q s (fr_refl _ s)
  | .qosGatewrite q => keeps_execQosGatewrite (sub_refl _) q s (fr_refl _ s)
  | .qosGatequery q => keeps_execQosGatequery (sub_refl _) q s (fr_refl _ s)
  | .qosQstats q => keeps_execQosQstats (sub_refl _) q s (fr_refl _ s)
  | .qosPstats q => keeps_execQosPstats (sub_refl _) q s (fr_refl _ s)
  | .qosPoolcfg q => keeps_execQosPoolcfg (sub_refl _) q s (fr_refl _ s)
  | .qosPoolquery q => keeps_execQosPoolquery (sub_refl _) q s (fr_refl _ s)
  | .qosMarkcfg q => keeps_execQosMarkcfg (sub_refl _) q s (fr_refl _ s)
  | .groupConfig q => keeps_execGroupConfig (sub_refl _) q s (fr_refl _ s)
  | .groupEnable q => keeps_execGroupEnable (sub_refl _) q s (fr_refl _ s)
  | .groupDisable q => keeps_execGroupDisable (sub_refl _) q s (fr_refl _ s)
  | .groupAbort q => keeps_execGroupAbort (sub_refl _) q s (fr_refl _ s)
  | .groupQuery q => keeps_execGroupQuery (sub_refl _) q s (fr_refl _ s)
  | .groupMissing q => keeps_execGroupMissing (sub_refl _) q s (fr_refl _ s)
  | .groupPoolquery q => keeps_execGroupPoolquery (sub_refl _) q s (fr_refl _ s)
  | .groupUpdcfg q => keeps_execGroupUpdcfg (sub_refl _) q s (fr_refl _ s)
  | .groupUpdquery q => keeps_execGroupUpdquery (sub_refl _) q s (fr_refl _ s)
  | .groupNanread q => keeps_execGroupNanread (sub_refl _) q s (fr_refl _ s)
  | .tileLoad q => keeps_execTileLoad (sub_refl _) q s (fr_refl _ s)
  | .tileUnload q => keeps_execTileUnload (sub_refl _) q s (fr_refl _ s)
  | .tileProgquery q => keeps_execTileProgquery (sub_refl _) q s (fr_refl _ s)
  | .tileUpdbind q => keeps_execTileUpdbind (sub_refl _) q s (fr_refl _ s)
  | .tileUpdunbind q => keeps_execTileUpdunbind (sub_refl _) q s (fr_refl _ s)
  | .tileUpdquery q => keeps_execTileUpdquery (sub_refl _) q s (fr_refl _ s)
  | .tileQuery q => keeps_execTileQuery (sub_refl _) q s (fr_refl _ s)
  | .tilePower q => keeps_execTilePower (sub_refl _) q s (fr_refl _ s)
  | .tileSelftest q => keeps_execTileSelftest (sub_refl _) q s (fr_refl _ s)
  | .schedLoad q => keeps_execSchedLoad (sub_refl _) q s (fr_refl _ s)
  | .schedUnload q => keeps_execSchedUnload (sub_refl _) q s (fr_refl _ s)
  | .schedEnable q => keeps_execSchedEnable (sub_refl _) q s (fr_refl _ s)
  | .schedStop q => keeps_execSchedStop (sub_refl _) q s (fr_refl _ s)
  | .schedDisable q => keeps_execSchedDisable (sub_refl _) q s (fr_refl _ s)
  | .schedQuery q => keeps_execSchedQuery (sub_refl _) q s (fr_refl _ s)
  | .schedTimecfg q => keeps_execSchedTimecfg (sub_refl _) q s (fr_refl _ s)
  | .schedTimequery q => keeps_execSchedTimequery (sub_refl _) q s (fr_refl _ s)
  | .schedAuditcfg q => keeps_execSchedAuditcfg (sub_refl _) q s (fr_refl _ s)
  | .schedAuditread q => keeps_execSchedAuditread (sub_refl _) q s (fr_refl _ s)
  | .snapPlan q => keeps_execSnapPlan (sub_refl _) q s (fr_refl _ s)
  | .snapPlanquery q => keeps_execSnapPlanquery (sub_refl _) q s (fr_refl _ s)
  | .snapSeal q => keeps_execSnapSeal (sub_refl _) q s (fr_refl _ s)
  | .snapReelcfg q => keeps_execSnapReelcfg (sub_refl _) q s (fr_refl _ s)
  | .snapReelenable q => keeps_execSnapReelenable (sub_refl _) q s (fr_refl _ s)
  | .snapTarget q => keeps_execSnapTarget (sub_refl _) q s (fr_refl _ s)
  | .snapDrain q => keeps_execSnapDrain (sub_refl _) q s (fr_refl _ s)
  | .snapRestore q => keeps_execSnapRestore (sub_refl _) q s (fr_refl _ s)
  | .snapList q => keeps_execSnapList (sub_refl _) q s (fr_refl _ s)
  | .snapQuery q => keeps_execSnapQuery (sub_refl _) q s (fr_refl _ s)
  | .flashHealth q => keeps_execFlashHealth (sub_refl _) q s (fr_refl _ s)
  | .flashScan q => keeps_execFlashScan (sub_refl _) q s (fr_refl _ s)
  | .flashScancfg q => keeps_execFlashScancfg (sub_refl _) q s (fr_refl _ s)
  | .flashBbtread q => keeps_execFlashBbtread (sub_refl _) q s (fr_refl _ s)
  | .flashFormat q => keeps_execFlashFormat (sub_refl _) q s (fr_refl _ s)
  | .gemelPair q => keeps_execGemelPair (sub_refl _) q s (fr_refl _ s)
  | .gemelUnpair q => keeps_execGemelUnpair (sub_refl _) q s (fr_refl _ s)
  | .gemelQuery q => keeps_execGemelQuery (sub_refl _) q s (fr_refl _ s)
  | .gemelAdopt q => keeps_execGemelAdopt (sub_refl _) q s (fr_refl _ s)
  | .gemelResync q => keeps_execGemelResync (sub_refl _) q s (fr_refl _ s)
  | .envCap q => keeps_execEnvCap (sub_refl _) q s (fr_refl _ s)
  | .envRampcfg q => keeps_execEnvRampcfg (sub_refl _) q s (fr_refl _ s)
  | .envBrakecfg q => keeps_execEnvBrakecfg (sub_refl _) q s (fr_refl _ s)
  | .envOrphancfg q => keeps_execEnvOrphancfg (sub_refl _) q s (fr_refl _ s)
  | .envHeartbeat q => keeps_execEnvHeartbeat (sub_refl _) q s (fr_refl _ s)
  | .envQuery q => keeps_execEnvQuery (sub_refl _) q s (fr_refl _ s)
  | .envSensors q => keeps_execEnvSensors (sub_refl _) q s (fr_refl _ s)
  | .envPsu q => keeps_execEnvPsu (sub_refl _) q s (fr_refl _ s)
  | .envRipcord q => keeps_execEnvRipcord (sub_refl _) q s (fr_refl _ s)
  | .envTraycfg q => keeps_execEnvTraycfg (sub_refl _) q s (fr_refl _ s)
  | .envTrayquery q => keeps_execEnvTrayquery (sub_refl _) q s (fr_refl _ s)
  | .faultQuery q => keeps_execFaultQuery (sub_refl _) q s (fr_refl _ s)
  | .faultClasscfg q => keeps_execFaultClasscfg (sub_refl _) q s (fr_refl _ s)
  | .faultIsolate q => keeps_execFaultIsolate (sub_refl _) q s (fr_refl _ s)
  | .faultRelease q => keeps_execFaultRelease (sub_refl _) q s (fr_refl _ s)
  | .faultClear q => keeps_execFaultClear (sub_refl _) q s (fr_refl _ s)
  | .eventTrigcfg q => keeps_execEventTrigcfg (sub_refl _) q s (fr_refl _ s)
  | .eventRead q => keeps_execEventRead (sub_refl _) q s (fr_refl _ s)
  | .eventRestart q => keeps_execEventRestart (sub_refl _) q s (fr_refl _ s)
  | .cfgWrite q => keeps_execCfgWrite (sub_refl _) q s (fr_refl _ s)
  | .cfgRead q => keeps_execCfgRead (sub_refl _) q s (fr_refl _ s)
  | .fwStage q => keeps_execFwStage (sub_refl _) q s (fr_refl _ s)
  | .fwActivate q => keeps_execFwActivate (sub_refl _) q s (fr_refl _ s)
  | .fwQuery q => keeps_execFwQuery (sub_refl _) q s (fr_refl _ s)
  | .secCerts q => keeps_execSecCerts (sub_refl _) q s (fr_refl _ s)
  | .secFloor q => keeps_execSecFloor (sub_refl _) q s (fr_refl _ s)
  | .cfgJournalinit q => keeps_execCfgJournalinit (sub_refl _) q s (fr_refl _ s)
  | .opQuery q => keeps_execOpQuery (sub_refl _) q s (fr_refl _ s)
  | .opSuspend q => keeps_execOpSuspend (sub_refl _) q s (fr_refl _ s)
  | .opResume q => keeps_execOpResume (sub_refl _) q s (fr_refl _ s)
  | .opCancel q => keeps_execOpCancel (sub_refl _) q s (fr_refl _ s)
  | .opList q => keeps_execOpList (sub_refl _) q s (fr_refl _ s)
  | .tileNop t => keeps_execTileNop (sub_refl _) t s (fr_refl _ s)
  | .vld t vd sa off => keeps_execVld (sub_refl _) t vd sa off s (fr_refl _ s)
  | .vst t vs sa off => keeps_execVst (sub_refl _) t vs sa off s (fr_refl _ s)
  | .vstc t vs sa off fmt => keeps_execVstc (sub_refl _) t vs sa off fmt s (fr_refl _ s)
  | .vadd t vd va vb => keeps_execVadd (sub_refl _) t vd va vb s (fr_refl _ s)
  | .vsub t vd va vb => keeps_execVsub (sub_refl _) t vd va vb s (fr_refl _ s)
  | .vmul t vd va vb scalar => keeps_execVmul (sub_refl _) t vd va vb scalar s (fr_refl _ s)
  | .vfma t vd va vb vc => keeps_execVfma (sub_refl _) t vd va vb vc s (fr_refl _ s)
  | .vema t vd va vb sc => keeps_execVema (sub_refl _) t vd va vb sc s (fr_refl _ s)
  | .vaxpby t vd va vb sa sb => keeps_execVaxpby (sub_refl _) t vd va vb sa sb s (fr_refl _ s)
  | .vrsqa t vd va sa sb => keeps_execVrsqa (sub_refl _) t vd va sa sb s (fr_refl _ s)
  | .vmin t vd va vb => keeps_execVmin (sub_refl _) t vd va vb s (fr_refl _ s)
  | .vmax t vd va vb => keeps_execVmax (sub_refl _) t vd va vb s (fr_refl _ s)
  | .vzero t vd => keeps_execVzero (sub_refl _) t vd s (fr_refl _ s)
  | .sli t sd imm => keeps_execSli (sub_refl _) t sd imm s (fr_refl _ s)
  | .saddi t sd sa imm => keeps_execSaddi (sub_refl _) t sd sa imm s (fr_refl _ s)
  | .sfmul t sd sa sb => keeps_execSfmul (sub_refl _) t sd sa sb s (fr_refl _ s)
  | .sfadd t sd sa sb => keeps_execSfadd (sub_refl _) t sd sa sb s (fr_refl _ s)
  | .sldu t sd off => keeps_execSldu (sub_refl _) t sd off s (fr_refl _ s)
  | .dmard t sa sb len => keeps_execDmard (sub_refl _) t sa sb len s (fr_refl _ s)
  | .dmawr t sa sb len => keeps_execDmawr (sub_refl _) t sa sb len s (fr_refl _ s)
  | .dmawait t => keeps_execDmawait (sub_refl _) t s (fr_refl _ s)
  | .loop t sd off => keeps_execLoop (sub_refl _) t sd off s (fr_refl _ s)
  | .endEntry t => keeps_execEndEntry (sub_refl _) t s (fr_refl _ s)
  | .combineEntry t parity => keeps_execCombineEntry (sub_refl _) t parity s (fr_refl _ s)
  | .finaliseEntry t parity => keeps_execFinaliseEntry (sub_refl _) t parity s (fr_refl _ s)
  | .updateEntry t parity => keeps_execUpdateEntry (sub_refl _) t parity s (fr_refl _ s)
  | .dmaComplete t n crcBad => keeps_execDmaComplete (sub_refl _) t n crcBad s (fr_refl _ s)
  | .tileIdleGate t => keeps_execTileIdleGate (sub_refl _) t s (fr_refl _ s)
  | .tileLiftDone t => keeps_execTileLiftDone (sub_refl _) t s (fr_refl _ s)
  | .tileReloadDone t => keeps_execTileReloadDone (sub_refl _) t s (fr_refl _ s)
  | .tileSelftestDone tk failed => keeps_execTileSelftestDone (sub_refl _) tk failed s (fr_refl _ s)
  | .frameArrival lp f par => keeps_execFrameArrival (sub_refl _) lp f par s (fr_refl _ s)
  | .frameStored lp fid => keeps_execFrameStored (sub_refl _) lp fid s (fr_refl _ s)
  | .egressGrant lp parity => keeps_execEgressGrant (sub_refl _) lp parity s (fr_refl _ s)
  | .frameTransmit lp bad => keeps_execFrameTransmit (sub_refl _) lp bad s (fr_refl _ s)
  | .poolRoomAvailable die cls => keeps_execPoolRoomAvailable (sub_refl _) die cls s (fr_refl _ s)
  | .freeStoreAudit die cell agree mapOk => keeps_execFreeStoreAudit (sub_refl _) die cell agree mapOk s (fr_refl _ s)
  | .tableEntryRewrite die table entry => keeps_execTableEntryRewrite (sub_refl _) die table entry s (fr_refl _ s)
  | .dieClockStop die => keeps_execDieClockStop (sub_refl _) die s (fr_refl _ s)
  | .dieClockLiftDone die => keeps_execDieClockLiftDone (sub_refl _) die s (fr_refl _ s)
  | .sparSlotFill die => keeps_execSparSlotFill (sub_refl _) die s (fr_refl _ s)
  | .sparCellLand die far hcrcOk => keeps_execSparCellLand (sub_refl _) die far hcrcOk s (fr_refl _ s)
  | .partialFrameTimeout lp fid => keeps_execPartialFrameTimeout (sub_refl _) lp fid s (fr_refl _ s)
  | .sparRetrain die far ok => keeps_execSparRetrain (sub_refl _) die far ok s (fr_refl _ s)
  | .sparUp die far => keeps_execSparUp (sub_refl _) die far s (fr_refl _ s)
  | .congestionMapPeriod => keeps_execCongestionMapPeriod (sub_refl _) s (fr_refl _ s)
  | .holdDrained => keeps_execHoldDrained (sub_refl _) s (fr_refl _ s)
  | .commitDrained => keeps_execCommitDrained (sub_refl _) s (fr_refl _ s)
  | .commitDrainTimeout => keeps_execCommitDrainTimeout (sub_refl _) s (fr_refl _ s)
  | .bindFenceAcked tk => keeps_execBindFenceAcked (sub_refl _) tk s (fr_refl _ s)
  | .bindDrainEnd kind obj => keeps_execBindDrainEnd (sub_refl _) kind obj s (fr_refl _ s)
  | .drainForced lp => keeps_execDrainForced (sub_refl _) lp s (fr_refl _ s)
  | .bindScrubEnd kind obj => keeps_execBindScrubEnd (sub_refl _) kind obj s (fr_refl _ s)
  | .sliceDrainEnd slice => keeps_execSliceDrainEnd (sub_refl _) slice s (fr_refl _ s)
  | .scrubGranuleFill die granule => keeps_execScrubGranuleFill (sub_refl _) die granule s (fr_refl _ s)
  | .lanePowerUpEnd lp locked => keeps_execLanePowerUpEnd (sub_refl _) lp locked s (fr_refl _ s)
  | .laneRetry lp => keeps_execLaneRetry (sub_refl _) lp s (fr_refl _ s)
  | .lossOfSignal lane => keeps_execLossOfSignal (sub_refl _) lane s (fr_refl _ s)
  | .lossOfLock lane => keeps_execLossOfLock (sub_refl _) lane s (fr_refl _ s)
  | .refclkLoss die otherGood => keeps_execRefclkLoss (sub_refl _) die otherGood s (fr_refl _ s)
  | .liftComplete lp => keeps_execLiftComplete (sub_refl _) lp s (fr_refl _ s)
  | .dozeIdleTimeout lp => keeps_execDozeIdleTimeout (sub_refl _) lp s (fr_refl _ s)
  | .dozeBlockRx lp blk => keeps_execDozeBlockRx (sub_refl _) lp blk s (fr_refl _ s)
  | .optReadingUpdate engine rds => keeps_execOptReadingUpdate (sub_refl _) engine rds s (fr_refl _ s)
  | .inspectConnectorDone port rds => keeps_execInspectConnectorDone (sub_refl _) port rds s (fr_refl _ s)
  | .cleanDurationEnd => keeps_execCleanDurationEnd (sub_refl _) s (fr_refl _ s)
  | .cleanWaitEnd => keeps_execCleanWaitEnd (sub_refl _) s (fr_refl _ s)
  | .laneTestEnd tk counts => keeps_execLaneTestEnd (sub_refl _) tk counts s (fr_refl _ s)
  | .cartPoll bay serial => keeps_execCartPoll (sub_refl _) bay serial s (fr_refl _ s)
  | .cartRecordReadDone bay raw => keeps_execCartRecordReadDone (sub_refl _) bay raw s (fr_refl _ s)
  | .tetherBlockRx lane blk => keeps_execTetherBlockRx (sub_refl _) lane blk s (fr_refl _ s)
  | .linkCtlRx lp blk => keeps_execLinkCtlRx (sub_refl _) lp blk s (fr_refl _ s)
  | .trainRx lp blk => keeps_execTrainRx (sub_refl _) lp blk s (fr_refl _ s)
  | .trainBlockDue lp => keeps_execTrainBlockDue (sub_refl _) lp s (fr_refl _ s)
  | .creditReturnDue lp => keeps_execCreditReturnDue (sub_refl _) lp s (fr_refl _ s)
  | .replayTimeout lp => keeps_execReplayTimeout (sub_refl _) lp s (fr_refl _ s)
  | .lockingTimeout lp => keeps_execLockingTimeout (sub_refl _) lp s (fr_refl _ s)
  | .exchangeTimeout lp => keeps_execExchangeTimeout (sub_refl _) lp s (fr_refl _ s)
  | .retrainEnd lp => keeps_execRetrainEnd (sub_refl _) lp s (fr_refl _ s)
  | .miscabledRecheck lp => keeps_execMiscabledRecheck (sub_refl _) lp s (fr_refl _ s)
  | .linkFlushTimeout lp => keeps_execLinkFlushTimeout (sub_refl _) lp s (fr_refl _ s)
  | .ethPacketRx port pkt => keeps_execEthPacketRx (sub_refl _) port pkt s (fr_refl _ s)
  | .roceAckTimeout qp => keeps_execRoceAckTimeout (sub_refl _) qp s (fr_refl _ s)
  | .roceRateRestore qp => keeps_execRoceRateRestore (sub_refl _) qp s (fr_refl _ s)
  | .nvmeKeepAlive tgt => keeps_execNvmeKeepAlive (sub_refl _) tgt s (fr_refl _ s)
  | .targetReconnect tgt ok => keeps_execTargetReconnect (sub_refl _) tgt ok s (fr_refl _ s)
  | .gateTakeover lp => keeps_execGateTakeover (sub_refl _) lp s (fr_refl _ s)
  | .gateFreeRunStart => keeps_execGateFreeRunStart (sub_refl _) s (fr_refl _ s)
  | .contribRx die bad => keeps_execContribRx (sub_refl _) die bad s (fr_refl _ s)
  | .resultRx die bad => keeps_execResultRx (sub_refl _) die bad s (fr_refl _ s)
  | .fallbackNoticeRx die bad => keeps_execFallbackNoticeRx (sub_refl _) die bad s (fr_refl _ s)
  | .recomputeNoticeRx die bad => keeps_execRecomputeNoticeRx (sub_refl _) die bad s (fr_refl _ s)
  | .treeDoneRx die bad => keeps_execTreeDoneRx (sub_refl _) die bad s (fr_refl _ s)
  | .claimRetry => keeps_execClaimRetry (sub_refl _) s (fr_refl _ s)
  | .basketRelease grp seq chunk => keeps_execBasketRelease (sub_refl _) grp seq chunk s (fr_refl _ s)
  | .fallbackTimeout grp seq chunk => keeps_execFallbackTimeout (sub_refl _) grp seq chunk s (fr_refl _ s)
  | .groupWatchdog grp seq => keeps_execGroupWatchdog (sub_refl _) grp seq s (fr_refl _ s)
  | .groupDisableDone grp => keeps_execGroupDisableDone (sub_refl _) grp s (fr_refl _ s)
  | .updraftMemberRx die bad parity => keeps_execUpdraftMemberRx (sub_refl _) die bad parity s (fr_refl _ s)
  | .sweepRx die bad parity => keeps_execSweepRx (sub_refl _) die bad parity s (fr_refl _ s)
  | .updraftDoneNoticeRx die bad => keeps_execUpdraftDoneNoticeRx (sub_refl _) die bad s (fr_refl _ s)
  | .refillRx die bad => keeps_execRefillRx (sub_refl _) die bad s (fr_refl _ s)
  | .interruptedNoticeRx die bad => keeps_execInterruptedNoticeRx (sub_refl _) die bad s (fr_refl _ s)
  | .updraftResend die => keeps_execUpdraftResend (sub_refl _) die s (fr_refl _ s)
  | .windowRead die key bad memBad => keeps_execWindowRead (sub_refl _) die key bad memBad s (fr_refl _ s)
  | .windowWrite die key bad memBad => keeps_execWindowWrite (sub_refl _) die key bad memBad s (fr_refl _ s)
  | .fence die bad => keeps_execFence (sub_refl _) die bad s (fr_refl _ s)
  | .streamMarkExpire die src dest cls => keeps_execStreamMarkExpire (sub_refl _) die src dest cls s (fr_refl _ s)
  | .cxlMemRead addr len tag crcBad => keeps_execCxlMemRead (sub_refl _) addr len tag crcBad s (fr_refl _ s)
  | .cxlMemWrite addr bytes tag crcBad => keeps_execCxlMemWrite (sub_refl _) addr bytes tag crcBad s (fr_refl _ s)
  | .syncDue lp => keeps_execSyncDue (sub_refl _) lp s (fr_refl _ s)
  | .syncRx lp xseq ts steps => keeps_execSyncRx (sub_refl _) lp xseq ts steps s (fr_refl _ s)
  | .delayReqRx lp xseq ts => keeps_execDelayReqRx (sub_refl _) lp xseq ts s (fr_refl _ s)
  | .delayRespRx lp xseq ts => keeps_execDelayRespRx (sub_refl _) lp xseq ts s (fr_refl _ s)
  | .armedRx lp tag count => keeps_execArmedRx (sub_refl _) lp tag count s (fr_refl _ s)
  | .launchRx lp tag time => keeps_execLaunchRx (sub_refl _) lp tag time s (fr_refl _ s)
  | .haltRx lp tag cause => keeps_execHaltRx (sub_refl _) lp tag cause s (fr_refl _ s)
  | .exchangeMissing => keeps_execExchangeMissing (sub_refl _) s (fr_refl _ s)
  | .holdoverTimeout => keeps_execHoldoverTimeout (sub_refl _) s (fr_refl _ s)
  | .syncPpsEdge => keeps_execSyncPpsEdge (sub_refl _) s (fr_refl _ s)
  | .schedArmed => keeps_execSchedArmed (sub_refl _) s (fr_refl _ s)
  | .schedLaunchTime => keeps_execSchedLaunchTime (sub_refl _) s (fr_refl _ s)
  | .schedSparEntry n => keeps_execSchedSparEntry (sub_refl _) n s (fr_refl _ s)
  | .schedEgressEntry n => keeps_execSchedEgressEntry (sub_refl _) n s (fr_refl _ s)
  | .schedClaimEntry n => keeps_execSchedClaimEntry (sub_refl _) n s (fr_refl _ s)
  | .schedIssueEntry n => keeps_execSchedIssueEntry (sub_refl _) n s (fr_refl _ s)
  | .schedDueEntry n => keeps_execSchedDueEntry (sub_refl _) n s (fr_refl _ s)
  | .schedRefreshEntry n => keeps_execSchedRefreshEntry (sub_refl _) n s (fr_refl _ s)
  | .schedPowerEntry n => keeps_execSchedPowerEntry (sub_refl _) n s (fr_refl _ s)
  | .schedLiftEntry n => keeps_execSchedLiftEntry (sub_refl _) n s (fr_refl _ s)
  | .schedGateEntry n => keeps_execSchedGateEntry (sub_refl _) n s (fr_refl _ s)
  | .schedUpdEntry n => keeps_execSchedUpdEntry (sub_refl _) n s (fr_refl _ s)
  | .schedFlagEntry n => keeps_execSchedFlagEntry (sub_refl _) n s (fr_refl _ s)
  | .schedPeriodEnd => keeps_execSchedPeriodEnd (sub_refl _) s (fr_refl _ s)
  | .sealTakeEffect side => keeps_execSealTakeEffect (sub_refl _) side s (fr_refl _ s)
  | .moverPiece tier die bad => keeps_execMoverPiece (sub_refl _) tier die bad s (fr_refl _ s)
  | .snapDataRx die bad => keeps_execSnapDataRx (sub_refl _) die bad s (fr_refl _ s)
  | .snapHeaderRx die bad => keeps_execSnapHeaderRx (sub_refl _) die bad s (fr_refl _ s)
  | .snapAckRx die bad => keeps_execSnapAckRx (sub_refl _) die bad s (fr_refl _ s)
  | .pageReqRx die bad memBad => keeps_execPageReqRx (sub_refl _) die bad memBad s (fr_refl _ s)
  | .pageDataRx die bad => keeps_execPageDataRx (sub_refl _) die bad s (fr_refl _ s)
  | .noCopyRx die bad => keeps_execNoCopyRx (sub_refl _) die bad s (fr_refl _ s)
  | .targetFlushDone tgt ok => keeps_execTargetFlushDone (sub_refl _) tgt ok s (fr_refl _ s)
  | .restoreComplete side => keeps_execRestoreComplete (sub_refl _) side s (fr_refl _ s)
  | .pageProgramDone sb page ok => keeps_execPageProgramDone (sub_refl _) sb page ok s (fr_refl _ s)
  | .eraseComplete sb ok fdie => keeps_execEraseComplete (sub_refl _) sb ok fdie s (fr_refl _ s)
  | .releaseAfterRead obj => keeps_execReleaseAfterRead (sub_refl _) obj s (fr_refl _ s)
  | .scanDue => keeps_execScanDue (sub_refl _) s (fr_refl _ s)
  | .scanBlockRead fdie blk page errs endScan => keeps_execScanBlockRead (sub_refl _) fdie blk page errs endScan s (fr_refl _ s)
  | .flashDieUnresponsive fdie => keeps_execFlashDieUnresponsive (sub_refl _) fdie s (fr_refl _ s)
  | .offerDue => keeps_execOfferDue (sub_refl _) s (fr_refl _ s)
  | .offerRx lp rec => keeps_execOfferRx (sub_refl _) lp rec s (fr_refl _ s)
  | .mirrorEntryRx lp rec => keeps_execMirrorEntryRx (sub_refl _) lp rec s (fr_refl _ s)
  | .mirrorAckRx lp rec => keeps_execMirrorAckRx (sub_refl _) lp rec s (fr_refl _ s)
  | .heartbeatRx lp rec => keeps_execHeartbeatRx (sub_refl _) lp rec s (fr_refl _ s)
  | .keelLostRx lp rec => keeps_execKeelLostRx (sub_refl _) lp rec s (fr_refl _ s)
  | .syncDoneRx lp rec => keeps_execSyncDoneRx (sub_refl _) lp rec s (fr_refl _ s)
  | .heartbeatDue => keeps_execHeartbeatDue (sub_refl _) s (fr_refl _ s)
  | .twinLost => keeps_execTwinLost (sub_refl _) s (fr_refl _ s)
  | .mirrorResendTimeout => keeps_execMirrorResendTimeout (sub_refl _) s (fr_refl _ s)
  | .mramWriteDone jseq => keeps_execMramWriteDone (sub_refl _) jseq s (fr_refl _ s)
  | .mramFail => keeps_execMramFail (sub_refl _) s (fr_refl _ s)
  | .pairTimeout => keeps_execPairTimeout (sub_refl _) s (fr_refl _ s)
  | .soloRoleRestore => keeps_execSoloRoleRestore (sub_refl _) s (fr_refl _ s)
  | .sqDoorbell ring tail ents => keeps_execSqDoorbell (sub_refl _) ring tail ents s (fr_refl _ s)
  | .cqDoorbell ring head => keeps_execCqDoorbell (sub_refl _) ring head s (fr_refl _ s)
  | .ringEnable ring => keeps_execRingEnable (sub_refl _) ring s (fr_refl _ s)
  | .ringDisable ring => keeps_execRingDisable (sub_refl _) ring s (fr_refl _ s)
  | .commandTake memOk => keeps_execCommandTake (sub_refl _) memOk s (fr_refl _ s)
  | .helloRx h => keeps_execHelloRx (sub_refl _) h s (fr_refl _ s)
  | .finishRx xp sess cseq replyTo mac => keeps_execFinishRx (sub_refl _) xp sess cseq replyTo mac s (fr_refl _ s)
  | .commandCapsuleRx xp cap => keeps_execCommandCapsuleRx (sub_refl _) xp cap s (fr_refl _ s)
  | .closeRx xp cap => keeps_execCloseRx (sub_refl _) xp cap s (fr_refl _ s)
  | .sessionIdle xp sess => keeps_execSessionIdle (sub_refl _) xp sess s (fr_refl _ s)
  | .segmentTimeout xp sess msg => keeps_execSegmentTimeout (sub_refl _) xp sess msg s (fr_refl _ s)
  | .ticketStart tk => keeps_execTicketStart (sub_refl _) tk s (fr_refl _ s)
  | .suspendPointReached tk => keeps_execSuspendPointReached (sub_refl _) tk s (fr_refl _ s)
  | .cancelUndoDone tk => keeps_execCancelUndoDone (sub_refl _) tk s (fr_refl _ s)
  | .operationFinish tk reason => keeps_execOperationFinish (sub_refl _) tk reason s (fr_refl _ s)
  | .spdmGetVersion doe ver => keeps_execSpdmGetVersion (sub_refl _) doe ver s (fr_refl _ s)
  | .spdmGetCapabilities doe ver => keeps_execSpdmGetCapabilities (sub_refl _) doe ver s (fr_refl _ s)
  | .spdmNegotiateAlgorithms doe ver asym hash => keeps_execSpdmNegotiateAlgorithms (sub_refl _) doe ver asym hash s (fr_refl _ s)
  | .spdmGetDigests doe ver => keeps_execSpdmGetDigests (sub_refl _) doe ver s (fr_refl _ s)
  | .spdmGetCertificate doe ver slot off len => keeps_execSpdmGetCertificate (sub_refl _) doe ver slot off len s (fr_refl _ s)
  | .spdmChallenge doe ver slot nonce => keeps_execSpdmChallenge (sub_refl _) doe ver slot nonce s (fr_refl _ s)
  | .spdmGetMeasurements doe ver idx nonce => keeps_execSpdmGetMeasurements (sub_refl _) doe ver idx nonce s (fr_refl _ s)
  | .doeAbort => keeps_execDoeAbort (sub_refl _) s (fr_refl _ s)
  | .identifyMemoryDevice => keeps_execIdentifyMemoryDevice (sub_refl _) s (fr_refl _ s)
  | .getSupportedLogs => keeps_execGetSupportedLogs (sub_refl _) s (fr_refl _ s)
  | .getLog uuid off len => keeps_execGetLog (sub_refl _) uuid off len s (fr_refl _ s)
  | .getHealthInfo => keeps_execGetHealthInfo (sub_refl _) s (fr_refl _ s)
  | .mailboxUnsupported opc => keeps_execMailboxUnsupported (sub_refl _) opc s (fr_refl _ s)
  | .hdmDecoderCommit dec base size skip ways => keeps_execHdmDecoderCommit (sub_refl _) dec base size skip ways s (fr_refl _ s)
  | .perstAssert hot => keeps_execPerstAssert (sub_refl _) hot s (fr_refl _ s)
  | .perstDeassert => keeps_execPerstDeassert (sub_refl _) s (fr_refl _ s)
  | .hostLinkChange mode width rate => keeps_execHostLinkChange (sub_refl _) mode width rate s (fr_refl _ s)
  | .mgmtLinkChange up => keeps_execMgmtLinkChange (sub_refl _) up s (fr_refl _ s)
  | .mgmtPacketRx pkt => keeps_execMgmtPacketRx (sub_refl _) pkt s (fr_refl _ s)
  | .ftNowRead half => keeps_execFtNowRead (sub_refl _) half s (fr_refl _ s)
  | .lowHalfRead off => keeps_execLowHalfRead (sub_refl _) off s (fr_refl _ s)
  | .registerWrite off size val => keeps_execRegisterWrite (sub_refl _) off size val s (fr_refl _ s)
  | .fltFirstClear => keeps_execFltFirstClear (sub_refl _) s (fr_refl _ s)
  | .evrRestartWrite => keeps_execEvrRestartWrite (sub_refl _) s (fr_refl _ s)
  | .vsb12Up cv => keeps_execVsb12Up (sub_refl _) cv s (fr_refl _ s)
  | .vsb12Lost => keeps_execVsb12Lost (sub_refl _) s (fr_refl _ s)
  | .pwrOkAssert => keeps_execPwrOkAssert (sub_refl _) s (fr_refl _ s)
  | .keelUpEntry plane tray keyOk => keeps_execKeelUpEntry (sub_refl _) plane tray keyOk s (fr_refl _ s)
  | .startupDone b => keeps_execStartupDone (sub_refl _) b s (fr_refl _ s)
  | .pwrOkDeassert => keeps_execPwrOkDeassert (sub_refl _) s (fr_refl _ s)
  | .vin40Fault cv => keeps_execVin40Fault (sub_refl _) cv s (fr_refl _ s)
  | .keelWatchdogExpire => keeps_execKeelWatchdogExpire (sub_refl _) s (fr_refl _ s)
  | .headlessRestart => keeps_execHeadlessRestart (sub_refl _) s (fr_refl _ s)
  | .faultReportBatch reps => keeps_execFaultReportBatch (sub_refl _) reps s (fr_refl _ s)
  | .faultWindowExpire src => keeps_execFaultWindowExpire (sub_refl _) src s (fr_refl _ s)
  | .faultQuietExpire src => keeps_execFaultQuietExpire (sub_refl _) src s (fr_refl _ s)
  | .releaseTestDone src pass => keeps_execReleaseTestDone (sub_refl _) src pass s (fr_refl _ s)
  | .powerMeasurement vin iin => keeps_execPowerMeasurement (sub_refl _) vin iin s (fr_refl _ s)
  | .sensorReading inst val => keeps_execSensorReading (sub_refl _) inst val s (fr_refl _ s)
  | .droguePresetUpdate => keeps_execDroguePresetUpdate (sub_refl _) s (fr_refl _ s)
  | .drogueAssert => keeps_execDrogueAssert (sub_refl _) s (fr_refl _ s)
  | .vinDrogueLow cv => keeps_execVinDrogueLow (sub_refl _) cv s (fr_refl _ s)
  | .drogueEnd cv => keeps_execDrogueEnd (sub_refl _) cv s (fr_refl _ s)
  | .pumpConditionStart => keeps_execPumpConditionStart (sub_refl _) s (fr_refl _ s)
  | .pumpConditionEnd => keeps_execPumpConditionEnd (sub_refl _) s (fr_refl _ s)
  | .ripcordInput => keeps_execRipcordInput (sub_refl _) s (fr_refl _ s)
  | .leakInput sensor => keeps_execLeakInput (sub_refl _) sensor s (fr_refl _ s)
  | .thermalTrip sensor => keeps_execThermalTrip (sub_refl _) sensor s (fr_refl _ s)
  | .capDeadline => keeps_execCapDeadline (sub_refl _) s (fr_refl _ s)
  | .heartbeatMissed => keeps_execHeartbeatMissed (sub_refl _) s (fr_refl _ s)
  | .keelLossOrphanCap => keeps_execKeelLossOrphanCap (sub_refl _) s (fr_refl _ s)
  | .psuPoll rds => keeps_execPsuPoll (sub_refl _) rds s (fr_refl _ s)
  | .psuAlertInput rds => keeps_execPsuAlertInput (sub_refl _) rds s (fr_refl _ s)
  | .stopConditionCleared cause => keeps_execStopConditionCleared (sub_refl _) cause s (fr_refl _ s)
  | .storageLinkLock port locked => keeps_execStorageLinkLock (sub_refl _) port locked s (fr_refl _ s)
  | .flashReadDone addr tier bytes => keeps_execFlashReadDone (sub_refl _) addr tier bytes s (fr_refl _ s)
  | .headlessFaultReportRx die src kind ft => keeps_execHeadlessFaultReportRx (sub_refl _) die src kind ft s (fr_refl _ s)

/-- Settles O6: the first half of every command's frame. -/
theorem noCommandUndoesWhatMustLast : Obligations.NoCommandUndoesWhatMustLast := by
  intro c s t hexec
  exact (exec_fr c s t hexec).1

/-- Settles O7: the second half. -/
theorem commandsChangeOnlyTheirParts : Obligations.CommandsChangeOnlyTheirParts := by
  intro c s t hexec
  exact (exec_fr c s t hexec).2

/-! ### One step -/

theorem step_idle {s : State} (h : s.pending = []) : step s = .next (drainEth (tick s)) := by
  simp only [step, h]

theorem step_front {c : Instr} {rest : List Instr} {s : State} (h : s.pending = c :: rest) :
    step s = exec c { s with pending := rest } := by
  simp only [step, h]

/-- Settles O1. -/
theorem theFrontCommandRuns : Obligations.TheFrontCommandRuns := fun _ _ _ h => step_front h

/-- What a frame keeps includes canonical memories. -/
theorem memoriesOk_of_fr {m : Nat} {s t : State} (h : Fr m s t) (hs : MemoriesOk s) : MemoriesOk t := by
  obtain ⟨⟨-, -, -, -, -, -, hmem⟩, -⟩ := h
  exact hmem hs

/-- An idle step touches the storage ports, what has been sent, and time. -/
theorem idle_fr (s : State) : Fr (pLinks + pTime + pSent + pClock) s (drainEth (tick s)) :=
  keeps_drainEth (sub_num rfl) _ (keeps_tick (sub_num rfl) (fr_refl _ s))

/-- Settles O5: the idle step and every command have frames, and the queue is no memory. -/
theorem memoriesStayCanonical : Obligations.MemoriesStayCanonical := by
  intro s t hs hstep
  cases hqueue : s.pending with
  | nil =>
    rw [step_idle hqueue] at hstep
    cases hstep
    exact memoriesOk_of_fr (idle_fr s) hs
  | cons c rest =>
    rw [step_front hqueue] at hstep
    exact memoriesOk_of_fr (exec_fr c _ t hstep) hs

/-- Settles O4: at reset no memory lists a byte. -/
theorem resetMemoriesAreCanonical : Obligations.ResetMemoriesAreCanonical := ⟨rfl, rfl, rfl, rfl⟩

/-! ### The idle step -/

/-- A state with nothing of its links and nothing sent. -/
def sansLinks (s : State) : State := { s with net := State.reset.net, out := [] }

theorem sansLinks_drainEth (s : State) : sansLinks (drainEth s) = sansLinks s := by
  apply forEach_frame sansLinks
  intro p t
  dsimp only
  split <;> rfl

/-- Settles O2: one F cycle moves the count and fabric time, and draining the storage ports touches links and sends alone. -/
theorem theEmptyQueuePassesOneCycle : Obligations.TheEmptyQueuePassesOneCycle := by
  intro s hqueue
  have kept {β : Type} (part : State → β) : part (sansLinks (drainEth (tick s))) = part (sansLinks (tick s)) :=
    congrArg part (sansLinks_drainEth (tick s))
  exact ⟨_, step_idle hqueue, kept State.mono, kept State.time, kept State.set, kept State.jrn,
    kept State.cmd, kept State.core, kept State.tile, kept State.mem, kept State.sched,
    kept State.snap, kept State.flash, kept State.gemel, kept State.flt, kept State.env,
    kept State.sys, kept State.host, (kept State.pending).trans hqueue⟩

/-! ### Every command answers -/

/-- A row that brings in a voltage compares it with its rating (R491). -/
theorem answers_within_rating (limit v : Nat) (t : State) :
    let o : Host.Outcome State Fault Refusal := if limit < v then .fault .beyondRatings else .next t
    if decide (v ≤ limit) = true then ∃ u, o = .next u else o = .fault .beyondRatings := by
  by_cases h : v ≤ limit
  · simp [h, Nat.not_lt.mpr h]
  · simp [h, Nat.not_le.mp h]

theorem execBindDrainEnd_answers (kind obj : Nat) (s : State) : ∃ t, execBindDrainEnd kind obj s = .next t := by
  unfold execBindDrainEnd
  split <;> exact ⟨_, rfl⟩

theorem execBindScrubEnd_answers (kind obj : Nat) (s : State) : ∃ t, execBindScrubEnd kind obj s = .next t := by
  unfold execBindScrubEnd
  split <;> exact ⟨_, rfl⟩

/-- Settles O8: a supply voltage is compared with its rating; a bind's event answers whether or not it finds its bind; every
other row is a next state as it stands. -/
theorem everyCommandAnswers : Obligations.EveryCommandAnswers := by
  intro c s
  cases c with
  | vsb12Up cv => exact answers_within_rating 1400 cv _
  | vin40Fault cv => exact answers_within_rating 6000 cv _
  | powerMeasurement vin iin => exact answers_within_rating 6000 vin _
  | vinDrogueLow cv => exact answers_within_rating 6000 cv _
  | drogueEnd cv => exact answers_within_rating 6000 cv _
  | bindDrainEnd kind obj => exact execBindDrainEnd_answers kind obj s
  | bindScrubEnd kind obj => exact execBindScrubEnd_answers kind obj s
  | _ => exact ⟨_, rfl⟩

end Sys2Proof.Machine
end

section
/-! PROOFS. The statements on handling a command: a lost keel die, replays, refusals by the owner's conditions, entries that wait
for the twin, and the effect of each command that nothing keeps from it. -/

namespace Sys2Proof.Machine

/-! ### A command that is not taken -/

theorem canTake_keelLost {s : State} (h : s.sys.keelLost = true) (c : CmdSpec) (q : Req) : canTake c q s = false := by
  simp [canTake, keelOn, h]

theorem nextCmd_keelLost {s : State} (h : s.sys.keelLost = true) : nextCmd s = none := by
  cases hnext : nextCmd s with
  | none => rfl
  | some found =>
    obtain ⟨-, htake⟩ := nextCmd_some hnext
    rw [canTake_keelLost h] at htake
    cases htake

/-- A module that has not been told to leave stays. -/
theorem leave_none {s : State} (h : s.sys.leaving = none) : leave s = s := by
  simp only [leave, h]

section
variable {c : CmdSpec} {lenOk : Bool} {priv : Nat} {chk : Option Nat} {res : List Byte} {f : State → State × List Byte}
  {q : Req} {s : State}

/-- A command that cannot be taken waits. -/
theorem runCommand_waits (hfin : s.cmd.finishing = none) (htake : canTake c q s = false) :
    runCommand c lenOk priv chk res f q s = s := by
  simp [runCommand, hfin, htake]

/-- A command whose `CMD_ID` is in its client's history is taken, and its stored completion repeated (R396). -/
theorem runCommand_replays {e : JEntry} (hfin : s.cmd.finishing = none) (htake : canTake c q s = true)
    (hreplay : q.entry.replay = true) (hfound : histFind (takeCmd q s) (clientOf s q.from_) q.entry.cmdId = some e) :
    runCommand c lenOk priv chk res f q s = replayCmd e q (clientOf s q.from_) (takenSeqs q s) (takeCmd q s) := by
  simp [runCommand, hfin, htake, hreplay, hfound]

end

/-- Settles O9: with the keel die lost no command can be taken. -/
theorem aLostKeelDieServesNoCommand : Obligations.ALostKeelDieServesNoCommand := by
  refine ⟨?command, ?take⟩
  case command =>
    intro c op q s hcommand hlost hfin hstays
    obtain ⟨lenOk, priv, chk, res, f, -, hexec⟩ := command_shape s hcommand
    rw [hexec, runCommand_waits hfin (canTake_keelLost hlost _ _), leave_none hstays, ite_self]
  case take =>
    intro memOk s hlost
    show execCommandTake memOk s = _
    simp only [execCommandTake, nextCmd_keelLost hlost]

/-! ### Replays -/

/-- Repeating a completion touches what a refusal touches. -/
theorem replayCmd_fr (e : JEntry) (q : Req) (s : State) :
    Fr (pRings + pQueues + pDies + pSent) s (replayCmd e q (clientOf s q.from_) (takenSeqs q s) (takeCmd q s)) :=
  keeps_replayCmd (sub_num rfl) _ _ _ _ _ (keeps_takeCmd (sub_num rfl) q s (fr_refl _ s))

/-- A change that leaves the module's own state alone does not tell it to leave. -/
theorem leave_of_fr {m : Nat} {s t : State} (hm : m.testBit 0 = false) (h : Fr m s t) (hstays : s.sys.leaving = none) :
    leave t = t := by
  obtain ⟨-, -, -, hsys, -⟩ := h
  exact leave_none (by rw [hsys hm, hstays])

/-- Settles O14: the command is taken and its stored completion posted again, which tells no module to leave. -/
theorem aReplayIsNotAppliedAgain : Obligations.AReplayIsNotAppliedAgain := by
  intro c op q s e hcommand hfin hstays htake hreplay hfound
  have hframe := replayCmd_fr e q s
  refine ⟨?_, hframe.2⟩
  obtain ⟨lenOk, priv, chk, res, f, -, hexec⟩ := command_shape s hcommand
  rw [hexec, runCommand_replays hfin htake hreplay hfound, leave_of_fr rfl hframe hstays, ite_self]

/-! ### Entries that wait for the twin -/

/-- While the twin must acknowledge, handling a command that journals ends with a completion or with its entry written: its
effect is not applied (R366). -/
theorem runCommand_awaiting_fr {c : CmdSpec} (lenOk : Bool) (priv : Nat) (chk : Option Nat) (res : List Byte)
    (f : State → State × List Byte) {q : Req} {s : State} (hfin : s.cmd.finishing = none) (hjournals : journals c = true)
    (hack : mustAck (takeCmd q s) = true) :
    Fr (pRings + pQueues + pDies + pTwin + pSent) s (runCommand c lenOk priv chk res f q s) := by
  have unmoved := fr_refl (pRings + pQueues + pDies + pTwin + pSent) s
  have taken := keeps_takeCmd (sub_num rfl) q s unmoved
  simp only [runCommand, hfin, hjournals, hack, Bool.true_and, if_true]
  split
  case isTrue hwaits => exact unmoved
  case isFalse =>
    split
    case h_1 e hreplay => exact keeps_replayCmd (sub_num rfl) _ _ _ _ _ taken
    case h_2 =>
      split
      case h_1 r hrefused => exact keeps_complete (sub_num rfl) _ _ _ _ _ _ _ _ _ _ taken
      case h_2 =>
        split
        case isTrue hlost => exact keeps_complete (sub_num rfl) _ _ _ _ _ _ _ _ _ _ taken
        case isFalse => exact keeps_onCmdR _ (sub_num rfl) (keeps_journalE (sub_num rfl) _ _ taken) (fun _ => ⟨rfl, rfl, rfl⟩)

/-- Settles O15: what handling touches then includes no effect, and tells no module to leave. -/
theorem noEffectBeforeTheTwinStores : Obligations.NoEffectBeforeTheTwinStores := by
  intro c op q s t hcommand hjournals hfin hstays hack hexec
  obtain ⟨lenOk, priv, chk, res, f, -, hshape⟩ := command_shape s hcommand
  have hframe := runCommand_awaiting_fr lenOk priv chk res f hfin hjournals hack
  rw [hshape, leave_of_fr rfl hframe hstays, ite_self] at hexec
  cases hexec
  exact hframe.2

/-! ### Refusals by the owner's conditions -/

/-- A command that does not set `REPLAY`, or whose `CMD_ID` is not in the history, repeats nothing (R396). -/
theorem replayed_none {q : Req} {s : State}
    (h : q.entry.replay = false ∨ histFind (takeCmd q s) (clientOf s q.from_) q.entry.cmdId = none) :
    (if q.entry.replay = true then histFind (takeCmd q s) (clientOf s q.from_) q.entry.cmdId else none) = none := by
  obtain hplain | hunknown := h
  · simp [hplain]
  · simp [hunknown]

/-- A command that comes to its owner's conditions is refused with the reason they give (steps 5 to 7 of Table 17-7). -/
theorem verdict_reaches {op priv r : Nat} {lenOk : Bool} {q : Req} {s : State} (h : reaches op lenOk priv q s = true) :
    verdict (cat op) lenOk priv (some r) q (takeCmd q s) = some r := by
  simp only [reaches, Bool.and_eq_true, Bool.or_eq_true, Bool.not_eq_true', decide_eq_true_eq, beq_iff_eq] at h
  obtain ⟨⟨⟨⟨⟨⟨⟨-, hdata⟩, hlen⟩, hpriv⟩, hstate⟩, hrsvd⟩, hbits⟩, hbuf⟩ := h
  have hfields : ¬ (q.entry.rsvd != 0 || rsvdBits (cat op) q.entry.param ||
      (!onHostRing q && decide ((cat op).buf < 48) && prm q (cat op).buf 8 != 0)) = true := by
    obtain (hring | hnone) | hzero := hbuf <;> simp [*]
  simp only [verdict, hdata, hlen, hstate, if_neg (Nat.not_lt.mpr hpriv), if_neg hfields, Bool.not_true, Bool.or_self,
    Bool.false_eq_true, if_false]

/-- It is taken and refused. -/
theorem runCommand_refuses {op priv r : Nat} {lenOk : Bool} {chk : Option Nat} {res : List Byte}
    {f : State → State × List Byte} {q : Req} {s : State} (h : reaches op lenOk priv q s = true) (hchk : chk = some r) :
    runCommand (cat op) lenOk priv chk res f q s =
      complete (cat op) q (clientOf s q.from_) (ringOf s q.from_.ring).sqHead (takenSeqs q s) .refused r 0 res (takeCmd q s) := by
  have hverdict := verdict_reaches (r := r) h
  simp only [reaches, Bool.and_eq_true, Bool.or_eq_true, Bool.not_eq_true', Option.isNone_iff_eq_none] at h
  obtain ⟨⟨⟨⟨⟨⟨⟨⟨⟨hfin, htake⟩, hnew⟩, -⟩, -⟩, -⟩, -⟩, -⟩, -⟩, -⟩ := h
  simp only [runCommand, hfin, htake, replayed_none hnew, hchk, hverdict, Bool.not_true, Bool.false_eq_true, if_false]

/-- Settles O12: each command is taken and refused; `ENV.RIPCORD` may leave the state afterwards. -/
theorem ownersConditionsRefuse : Obligations.OwnersConditionsRefuse := by
  refine ⟨?devService, ?devRestart, ?devSelftest, ?devMgmtcfg, ?portEnable, ?portDisable, ?portSplit, ?portPower,
    ?portQuery, ?laneStats, ?laneTest, ?optRead, ?optInspect, ?optClean, ?portLinkcfg, ?portLstats, ?portEthcfg,
    ?cartRead, ?cartOverride, ?cartRescan, ?routeWrite, ?routeCommit, ?routeHold, ?routeRelease, ?routeQuery,
    ?routeCmapcfg, ?routeSparstats, ?sliceBind, ?sliceEnable, ?sliceDisable, ?sliceQuery, ?qosServicecfg, ?qosSubcfg,
    ?qosShapecfg, ?qosPolicecfg, ?qosGatewrite, ?qosGatequery, ?qosQstats, ?qosPstats, ?qosPoolcfg, ?qosPoolquery,
    ?qosMarkcfg, ?groupConfig, ?groupEnable, ?groupDisable, ?groupAbort, ?groupMissing, ?groupPoolquery, ?groupUpdcfg,
    ?groupUpdquery, ?tileLoad, ?tileUnload, ?tileProgquery, ?tileUpdbind, ?tileUpdunbind, ?tileUpdquery, ?tileQuery,
    ?tilePower, ?tileSelftest, ?schedLoad, ?schedUnload, ?schedEnable, ?schedStop, ?schedDisable, ?schedTimecfg,
    ?schedAuditcfg, ?schedAuditread, ?snapPlan, ?snapSeal, ?snapReelcfg, ?snapReelenable, ?snapTarget, ?snapDrain,
    ?snapRestore, ?snapList, ?flashHealth, ?flashScan, ?flashScancfg, ?flashBbtread, ?flashFormat, ?gemelPair,
    ?gemelUnpair, ?gemelAdopt, ?gemelResync, ?envCap, ?envRampcfg, ?envBrakecfg, ?envOrphancfg, ?envSensors, ?envPsu,
    ?envRipcord, ?faultQuery, ?faultClasscfg, ?faultIsolate, ?faultRelease, ?eventTrigcfg, ?eventRead, ?cfgWrite,
    ?cfgRead, ?fwStage, ?fwActivate, ?secFloor, ?cfgJournalinit, ?opQuery, ?opSuspend, ?opResume, ?opCancel⟩
  case envRipcord =>
    intro q s r hreach hchk
    exact congrArg (Host.Outcome.next ∘ leave) (runCommand_refuses hreach hchk)
  all_goals
    intro q s r hreach hchk
    exact congrArg Host.Outcome.next (runCommand_refuses hreach hchk)

/-! ### Commands that nothing keeps from their effect -/

section
variable {op priv : Nat} {lenOk : Bool} {chk : Option Nat} {res : List Byte} {q : Req} {s : State}

/-- A query that is not journaled is answered. -/
theorem next_answered {f : State → List Byte} (hshort : (cat op).long = false) (hquiet : journals (cat op) = false)
    (h : clears op lenOk priv chk q s = true) :
    (.next (runCommand (cat op) lenOk priv chk res (ans f) q s) : Host.Outcome State Fault Refusal) =
      .next (answered op (f (takeCmd q s)) q s) :=
  congrArg Host.Outcome.next ((runCommand_served res (ans f) hshort h).trans (served_ans f hshort hquiet))

/-- A change is served. -/
theorem next_served {f : State → State × List Byte} (hshort : (cat op).long = false)
    (h : clears op lenOk priv chk q s = true) :
    (.next (runCommand (cat op) lenOk priv chk res f q s) : Host.Outcome State Fault Refusal) = .next (served op f q s) :=
  congrArg Host.Outcome.next (runCommand_served res f hshort h)

/-- A long operation is accepted with its ticket. -/
theorem next_queued (hlong : (cat op).long = true) (h : clears op lenOk priv chk q s = true) :
    ∃ k, freeSlot (takeCmd q s) = some k ∧
      (.next (longOp op priv lenOk chk q s) : Host.Outcome State Fault Refusal) = .next (queuedOn op priv k q s) := by
  obtain ⟨k, hslot, hqueued⟩ := longOp_queued hlong h
  exact ⟨k, hslot, congrArg Host.Outcome.next hqueued⟩

end

/-- Settles O32: queries are answered, changes served, long operations accepted. -/
theorem deviceAndTicketCommandsComplete : Obligations.DeviceAndTicketCommandsComplete := by
  refine ⟨?nop, ?caps, ?ping, ?devCaps, ?devState, ?devService, ?devRestart, ?devSelftest, ?devMgmtcfg, ?devHostquery,
    ?opQuery, ?opSuspend, ?opResume, ?opCancel, ?opList⟩
  case nop | caps | ping | devCaps | devState | devHostquery | opList =>
    exact fun q s h => next_answered rfl rfl h
  case devService | devMgmtcfg | opQuery | opSuspend | opResume | opCancel =>
    exact fun q s h => next_served rfl h
  case devRestart | devSelftest =>
    exact fun q s h => next_queued rfl h

/-- Settles O33: queries are answered, changes served, long operations accepted. -/
theorem portCommandsComplete : Obligations.PortCommandsComplete := by
  refine ⟨?portEnable, ?portDisable, ?portSplit, ?portPower, ?portQuery, ?laneStats, ?laneTest, ?optRead, ?optInspect,
    ?optClean, ?portLinkcfg, ?portLstats, ?portEthcfg, ?cartRead, ?cartOverride, ?cartRescan⟩
  case portQuery | optRead =>
    exact fun q s h => next_answered rfl rfl h
  case portEnable | portDisable | portSplit | portPower | laneStats | portLinkcfg | portLstats | portEthcfg |
      cartRead | cartOverride =>
    exact fun q s h => next_served rfl h
  case laneTest | optInspect | optClean | cartRescan =>
    exact fun q s h => next_queued rfl h

/-- Settles O34: queries are answered, changes served, long operations accepted. -/
theorem routeAndSliceCommandsComplete : Obligations.RouteAndSliceCommandsComplete := by
  refine ⟨?routeWrite, ?routeCommit, ?routeHold, ?routeRelease, ?routeQuery, ?routeCongmap, ?routeCmapcfg, ?routeSparstats,
    ?sliceBind, ?sliceEnable, ?sliceDisable, ?sliceQuery⟩
  case routeQuery | routeCongmap | sliceQuery =>
    exact fun q s h => next_answered rfl rfl h
  case routeWrite | routeRelease | routeCmapcfg | routeSparstats | sliceEnable =>
    exact fun q s h => next_served rfl h
  case routeCommit | routeHold | sliceBind | sliceDisable =>
    exact fun q s h => next_queued rfl h

/-- Settles O35: queries are answered, changes served, long operations accepted. -/
theorem qosCommandsComplete : Obligations.QosCommandsComplete := by
  refine ⟨?qosServicecfg, ?qosSubcfg, ?qosShapecfg, ?qosPolicecfg, ?qosGatewrite, ?qosGatequery, ?qosQstats, ?qosPstats,
    ?qosPoolcfg, ?qosPoolquery, ?qosMarkcfg⟩
  case qosServicecfg | qosSubcfg | qosShapecfg | qosPolicecfg | qosGatequery | qosQstats | qosPstats | qosPoolcfg |
      qosPoolquery | qosMarkcfg =>
    exact fun q s h => next_served rfl h
  case qosGatewrite =>
    exact fun q s h => next_queued rfl h

/-- Settles O36: queries are answered, changes served, long operations accepted. -/
theorem groupAndTileCommandsComplete : Obligations.GroupAndTileCommandsComplete := by
  refine ⟨?groupConfig, ?groupEnable, ?groupDisable, ?groupAbort, ?groupQuery, ?groupMissing, ?groupPoolquery, ?groupUpdcfg,
    ?groupUpdquery, ?groupNanread, ?tileLoad, ?tileUnload, ?tileProgquery, ?tileUpdbind, ?tileUpdunbind,
    ?tileUpdquery, ?tileQuery, ?tilePower, ?tileSelftest⟩
  case groupMissing | groupPoolquery | groupUpdquery | tileProgquery | tileUpdquery | tileQuery =>
    exact fun q s h => next_answered rfl rfl h
  case groupConfig | groupEnable | groupAbort | groupQuery | groupUpdcfg | groupNanread | tileUnload |
      tileUpdbind | tileUpdunbind | tilePower =>
    exact fun q s h => next_served rfl h
  case groupDisable | tileLoad | tileSelftest =>
    exact fun q s h => next_queued rfl h

/-- Settles O37: queries are answered, changes served, long operations accepted. -/
theorem schedCommandsComplete : Obligations.SchedCommandsComplete := by
  refine ⟨?schedLoad, ?schedUnload, ?schedEnable, ?schedStop, ?schedDisable, ?schedQuery, ?schedTimecfg, ?schedTimequery,
    ?schedAuditcfg, ?schedAuditread⟩
  case schedQuery | schedTimequery | schedAuditread =>
    exact fun q s h => next_answered rfl rfl h
  case schedUnload | schedStop | schedDisable | schedTimecfg | schedAuditcfg =>
    exact fun q s h => next_served rfl h
  case schedLoad | schedEnable =>
    exact fun q s h => next_queued rfl h

/-- Settles O38: queries are answered, changes served, long operations accepted. -/
theorem snapAndFlashCommandsComplete : Obligations.SnapAndFlashCommandsComplete := by
  refine ⟨?snapPlan, ?snapPlanquery, ?snapSeal, ?snapReelcfg, ?snapReelenable, ?snapTarget, ?snapDrain, ?snapRestore,
    ?snapList, ?snapQuery, ?flashHealth, ?flashScan, ?flashScancfg, ?flashBbtread, ?flashFormat⟩
  case snapPlanquery | snapList | snapQuery | flashHealth | flashBbtread =>
    exact fun q s h => next_answered rfl rfl h
  case snapPlan | snapSeal | snapReelcfg | snapReelenable | snapTarget | flashScancfg =>
    exact fun q s h => next_served rfl h
  case snapDrain | snapRestore | flashScan | flashFormat =>
    exact fun q s h => next_queued rfl h

/-! ### GEMEL.RESYNC, which only a paired module accepts -/

/-- A journaled command of a paired module is taken, and its entry written and mirrored (R366). -/
theorem runCommand_awaits {op priv : Nat} {lenOk : Bool} {chk : Option Nat} {res : List Byte} {f : State → State × List Byte}
    {q : Req} {s : State} (h : clearsToTwin op lenOk priv chk q s = true) :
    runCommand (cat op) lenOk priv chk res f q s = awaitsTwin op q s := by
  simp only [clearsToTwin, Bool.and_eq_true, Bool.or_eq_true, Bool.not_eq_true', Option.isNone_iff_eq_none] at h
  obtain ⟨⟨⟨⟨⟨⟨hfin, htake⟩, hnew⟩, hverdict⟩, hjournals⟩, hkept⟩, hack⟩ := h
  simp only [runCommand, hfin, htake, replayed_none hnew, hverdict, hjournals, hkept, hack,
    Bool.not_true, Bool.and_self, Bool.and_false, Bool.false_eq_true, if_false, if_true, awaitsTwin]

theorem exec_gemelResync_taken {q : Req} {s : State} (h : clearsToTwin 0x0C05 true 1
    (firstOf [refuseIf (s.gemel.st != .paired) 0x0005, refuseIf (!(liveOps s 0x0C05).isEmpty) 0x0006]) q s = true) :
    exec (.gemelResync q) s = .next (awaitsTwin 0x0C05 q s) :=
  congrArg Host.Outcome.next (runCommand_awaits h)

/-- Once its entry is stored, it is accepted with a ticket (R391, R399). -/
theorem exec_gemelResync_stored {q : Req} {s : State} {x : Storing} {k : Nat} (hstored : s.cmd.finishing = some x)
    (hslot : freeSlot (onCmd (fun r => { r with finishing := none }) s) = some k) :
    exec (.gemelResync q) s = .next (queuedStored 0x0C05 1 k x s) := by
  have hlong : (cat 0x0C05).long = true := rfl
  show execGemelResync q s = _
  simp only [execGemelResync, longOp, runCommand, hstored, commit, hlong, if_true, hslot, whenS, Bool.false_eq_true, if_false,
    queuedStored]

/-- Settles O39: queries are answered, changes served, long operations accepted. -/
theorem twinAndPowerCommandsComplete : Obligations.TwinAndPowerCommandsComplete := by
  refine ⟨?gemelPair, ?gemelUnpair, ?gemelQuery, ?gemelAdopt, ?resyncTaken, ?resyncStored, ?envCap, ?envRampcfg,
    ?envBrakecfg, ?envOrphancfg, ?envHeartbeat, ?envQuery, ?envSensors, ?envPsu, ?envRipcord, ?envTraycfg,
    ?envTrayquery⟩
  case gemelQuery | envQuery | envSensors | envPsu | envTrayquery =>
    exact fun q s h => next_answered rfl rfl h
  case gemelUnpair | envCap | envRampcfg | envBrakecfg | envOrphancfg | envHeartbeat | envTraycfg =>
    exact fun q s h => next_served rfl h
  case gemelPair | gemelAdopt =>
    exact fun q s h => next_queued rfl h
  case resyncTaken => exact fun q s h => exec_gemelResync_taken h
  case resyncStored => exact fun q s x k hx hslot => exec_gemelResync_stored hx hslot
  case envRipcord => exact fun q s h => congrArg (Host.Outcome.next ∘ leave) (runCommand_served _ _ rfl h)

/-- Settles O40: queries are answered, changes served, long operations accepted. -/
theorem faultAndSecurityCommandsComplete : Obligations.FaultAndSecurityCommandsComplete := by
  refine ⟨?faultQuery, ?faultClasscfg, ?faultIsolate, ?faultRelease, ?faultClear, ?eventTrigcfg, ?eventRead, ?eventRestart,
    ?cfgWrite, ?cfgRead, ?fwStage, ?fwActivate, ?fwQuery, ?secCerts, ?secFloor, ?cfgJournalinit⟩
  case faultQuery | eventRead | cfgRead | fwQuery | secCerts =>
    exact fun q s h => next_answered rfl rfl h
  case faultClasscfg | faultClear | eventTrigcfg | eventRestart | secFloor =>
    exact fun q s h => next_served rfl h
  case faultIsolate | faultRelease | cfgWrite | fwStage | fwActivate | cfgJournalinit =>
    exact fun q s h => next_queued rfl h

end Sys2Proof.Machine
end

section
/-! PROOFS. The statements on scheduled mode: the events of fabric time, and the events and entries of a schedule. -/

namespace Sys2Proof.Machine

/-! ### Fabric time -/

/-- `SYNC` from the parent starts an exchange; the choice of the parent has counted its `STEPS` (R312, R314). -/
theorem exec_syncRx_parent {lp xseq ts steps : Nat} {s : State} (hup : linkUp s lp = true)
    (hscaleOut : isScaleOut (lpLoc lp) = true)
    (hparent : (chooseParent (onTime (fun t => { t with farSteps := mput t.farSteps lp (min 31 steps) }) s)).time.parent = some lp) :
    exec (.syncRx lp xseq ts steps) s =
      .next (let u := chooseParent (onTime (fun t => { t with farSteps := mput t.farSteps lp (min 31 steps) }) s)
        sendTime lp 1 xseq (ftTs u) 0 0 (onTime (fun t => { t with exch := some (xseq, ts, ftTs u, ftTs u) }) u)) := by
  show execSyncRx lp xseq ts steps s = _
  simp only [execSyncRx, hup, hscaleOut, Bool.and_self, if_true, hparent]

/-- What an exchange measures: the offset and the delay of its two ways (R312). -/
def withOffset (down up : Int) (s : State) : State :=
  onTime (fun t => { t with theta := (down - up) / 2, delta := (down + up) / 2, exch := none }) s

theorem withOffset_theta (down up : Int) (s : State) : (withOffset down up s).time.theta = (down - up) / 2 := rfl

theorem withOffset_set (down up : Int) (s : State) : (withOffset down up s).set = s.set := rfl

/-- `DELAY_RESP` of the exchange begun measures the offset, which is then judged. -/
theorem exec_delayRespRx_measures {lp xseq ts t1 t2 t3 : Nat} {s : State} (hexch : s.time.exch = some (xseq, t1, t2, t3))
    (hparent : s.time.parent = some lp) :
    exec (.delayRespRx lp xseq ts) s =
      .next (judgeOffset (cycUs s.set.syncUs) ((tsDiff t2 t1 - tsDiff ts t3) / 2) (withOffset (tsDiff t2 t1) (tsDiff ts t3) s)) := by
  have hmine : s.time.parent = some lp ∧ xseq = xseq := ⟨hparent, rfl⟩
  show execDelayRespRx lp xseq ts s = _
  rw [← withOffset_theta, ← withOffset_set (tsDiff t2 t1) (tsDiff ts t3) s, execDelayRespRx, hexch]
  exact congrArg Host.Outcome.next (if_pos hmine)

/-- The counts of a child's `ARMED` (R319): its latest of the tag, and those of the 15 other tags kept. -/
def countArmed (lp tag count : Nat) (s : State) : State :=
  onSched (fun x => { x with
    armed := (tag, lp, count) :: x.armed.filter fun e =>
      (e.1 == tag && e.2.1 != lp) || (((armedTags s).filter (· != tag)).take 15).contains e.1 }) s

/-- A changed sum is told to the parent, or compared by the root. -/
theorem exec_armedRx_changed {lp tag count : Nat} {s : State} (hchild : timeParentOn s lp = true)
    (hscaleOut : isScaleOut (lpLoc lp) = true) (hchanged : armedSum (countArmed lp tag count s) tag ≠ armedSum s tag) :
    exec (.armedRx lp tag count) s = .next (tellArmed tag (countArmed lp tag count s)) := by
  show execArmedRx lp tag count s = _
  unfold countArmed at *
  simp only [execArmedRx, hchild, hscaleOut, Bool.and_self, if_true, if_neg hchanged]

/-- `LAUNCH` of an ARMED image, already forwarded and with its time to come, sets the launch time (R319). -/
theorem exec_launchRx_sets {lp tag time : Nat} {s : State} (hup : linkUp s lp = true)
    (hforwarded : s.sched.fwdLaunch.contains tag = true) (henabled : schedEnabled s = true) (harmed : s.sched.st = .armed)
    (htag : schedTag s = tag) (hmodules : hdrModules (enabledImg s) ≠ 0) (hlater : ftTs s < time) :
    exec (.launchRx lp tag time) s = .next (onSched (fun x => { x with launchAt := some time }) s) := by
  show execLaunchRx lp tag time s = _
  simp [execLaunchRx, hup, henabled, harmed, htag, hmodules, Nat.not_le.mpr hlater, List.contains_iff_mem.mp hforwarded]

/-- An edge of the reference of a time root removes the counter's error (R315). -/
theorem exec_syncPpsEdge_root {s : State} (hkeel : keelOn s = true) (hroot : s.set.timeRoot = true)
    (hpps : s.set.timePps = true) :
    exec .syncPpsEdge s =
      .next (removeOffset (cycS 1) (ppsError s) (onTime (fun t => { t with theta := ppsError s })
        (onTime (fun t => { t with ppsFt := ftNs s }) s))) := by
  show execSyncPpsEdge s = _
  simp only [execSyncPpsEdge, hkeel, onTime_set, hroot, hpps, Bool.and_self, if_true]

/-- Settles O50: each event under its condition. -/
theorem timeEventsComplete : Obligations.TimeEventsComplete := by
  refine ⟨?syncDue, ?syncRx, ?delayReq, ?delayResp, ?armed, ?launch, ?halt, ?missing, ?holdover, ?pps⟩
  case syncDue => intro lp s hchild; exact next_of_guard hchild
  case syncRx => intro lp xseq ts steps s hup hscaleOut hparent; exact exec_syncRx_parent hup hscaleOut hparent
  case delayReq => intro lp xseq ts s hchild; exact next_of_guard hchild
  case delayResp => intro lp xseq ts t1 t2 t3 s hexch hparent; exact exec_delayRespRx_measures hexch hparent
  case armed => intro lp tag count s hchild hscaleOut hchanged; exact exec_armedRx_changed hchild hscaleOut hchanged
  case launch =>
    intro lp tag time s hup hforwarded henabled harmed htag hmodules hlater
    exact exec_launchRx_sets hup hforwarded henabled harmed htag hmodules hlater
  case halt =>
    intro lp tag cause s hup hhaltable htag
    exact (next_of_guard hup).trans (next_of_guard (by simp [hhaltable, htag]))
  case missing => intro s haligned hroot; exact next_of_guard ⟨haligned, hroot⟩
  case holdover => intro s hst; exact next_of_guard hst
  case pps => intro s hkeel hroot hpps; exact exec_syncPpsEdge_root hkeel hroot hpps

/-! ### Entries of a running image -/

/-- The entry that a RUNNING image issues next, of its kind, is acted on and passed while the image runs on (R321). -/
theorem issueEntry_next {n kind : Nat} {f : SEntry → State → State} {e : SEntry} {s : State} (henabled : schedEnabled s = true)
    (hrunning : s.sched.st = .running) (hnext : s.sched.next = n) (hentry : (enabledEntries s)[n]? = some e) (hkind : e.kind = kind)
    (hrunsOn : (f e s).sched.st = .running) :
    issueEntry n kind f s = onSched (fun x => { x with next := n + 1 }) (f e s) := by
  simp [issueEntry, henabled, hrunning, hnext, hentry, hkind, hrunsOn]

/-- The lifts done, an image without a barrier is ARMED, and its ticket is done (R319, R323). -/
theorem exec_schedArmed_alone {tk : Nat} {s : State} (henabled : schedEnabled s = true) (hloaded : s.sched.st = .loaded)
    (hup : unitsUp s = true) (hticket : s.sched.ticket = some tk) (halone : hdrModules (enabledImg s) = 0) :
    exec .schedArmed s =
      .next (ticketDone tk (setBallast s.sched.floorW (onSched (fun x => { x with st := .armed }) s))) := by
  have hsame : enabledImg (ticketDone tk (setBallast s.sched.floorW (onSched (fun x => { x with st := .armed }) s))) =
      enabledImg s := by
    simp [enabledImg, setBallast]
  have hcond : (schedEnabled s && s.sched.st == .loaded && unitsUp s) = true := by simp [henabled, hloaded, hup]
  show execSchedArmed s = _
  rw [execSchedArmed, if_pos hcond]
  simp only [setBallast, onEnv_sched, onSched_sched, hticket]
  exact congrArg Host.Outcome.next (if_pos (hsame ▸ halone))

/-- A DUE entry whose pieces have arrived is passed. -/
theorem exec_schedDueEntry_met {n : Nat} {e : SEntry} {s : State} (henabled : schedEnabled s = true)
    (hrunning : s.sched.st = .running) (hnext : s.sched.next = n) (hentry : (enabledEntries s)[n]? = some e) (hkind : e.kind = 5)
    (hmet : dueMet s (eb e 95 80) (iterSeq s (eb e 95 80)) (eb e 79 64) (eb e 63 40) = true) :
    exec (.schedDueEntry n) s = .next (onSched (fun x => { x with next := n + 1 }) s) := by
  show execSchedDueEntry n s = _
  rw [execSchedDueEntry, issueEntry_next henabled hrunning hnext hentry hkind (by simp only [hmet, if_true, hrunning])]
  simp only [hmet, if_true]

/-- A LIFT entry of a tile lifts it. -/
theorem exec_schedLiftEntry_tile {n : Nat} {e : SEntry} {s : State} (henabled : schedEnabled s = true)
    (hrunning : s.sched.st = .running) (hnext : s.sched.next = n) (hentry : (enabledEntries s)[n]? = some e) (hkind : e.kind = 8)
    (htile : eb e 92 92 = 0) (hrunsOn : (liftTile (32 * eb e 95 93 + eb e 91 87) s).sched.st = .running) :
    exec (.schedLiftEntry n) s =
      .next (onSched (fun x => { x with next := n + 1 }) (liftTile (32 * eb e 95 93 + eb e 91 87) s)) := by
  show execSchedLiftEntry n s = _
  rw [execSchedLiftEntry, issueEntry_next henabled hrunning hnext hentry hkind (by simp only [htile, if_true, hrunsOn])]
  simp only [htile, if_true]

/-! ### The end of a period -/

/-- Is it the last cycle of a period of a RUNNING image? -/
theorem periodEnds {s : State} (henabled : schedEnabled s = true) (hrunning : s.sched.st = .running)
    (hlast : s.sched.next = hdrEntries (enabledImg s)) :
    (schedEnabled s && s.sched.st == .running && s.sched.next == hdrEntries (enabledImg s)) = true := by
  simp [henabled, hrunning, hlast]

/-- An image that neither stops nor has had its iterations begins the next one (R320). -/
theorem exec_schedPeriodEnd_next {s : State} (henabled : schedEnabled s = true) (hrunning : s.sched.st = .running)
    (hlast : s.sched.next = hdrEntries (enabledImg s)) (hgoesOn : s.sched.stopAtEnd = false)
    (hiters : hdrIters (enabledImg s) = 0 ∨ s.sched.iter ≠ hdrIters (enabledImg s)) :
    exec .schedPeriodEnd s =
      .next (onSched (fun x => { x with iter := x.iter + 1, next := 0, periodAt := x.periodAt + hdrPeriod (enabledImg s) }) s) := by
  have hmore : ¬ (s.sched.stopAtEnd || (hdrIters (enabledImg s) != 0 && s.sched.iter == hdrIters (enabledImg s))) = true := by
    obtain hendless | hbefore := hiters
    · simp [hgoesOn, hendless]
    · simp [hgoesOn, hbefore]
  show execSchedPeriodEnd s = _
  simp only [execSchedPeriodEnd, if_pos (periodEnds henabled hrunning hlast), if_neg hmore]

/-- A stopped image ends with its period. -/
theorem exec_schedPeriodEnd_last {s : State} (henabled : schedEnabled s = true) (hrunning : s.sched.st = .running)
    (hlast : s.sched.next = hdrEntries (enabledImg s)) (hstop : s.sched.stopAtEnd = true) :
    exec .schedPeriodEnd s =
      .next (record 0x09C4 [(8, s.sched.iter)] (setBallast s.sched.floorW
        (onSched (fun x => { x with st := .ended, windows := [], stopAtEnd := false }) s))) := by
  show execSchedPeriodEnd s = _
  simp only [execSchedPeriodEnd, if_pos (periodEnds henabled hrunning hlast), hstop, Bool.true_or, if_true, onSched_sched]

/-- Settles O51: each event under its condition. -/
theorem scheduleEventsComplete : Obligations.ScheduleEventsComplete := by
  refine ⟨?armed, ?launch, ?spar, ?egress, ?claim, ?issue, ?due, ?refresh, ?power, ?lift, ?gate, ?upd, ?flag, ?nextPeriod,
    ?lastPeriod⟩
  case armed => intro tk s henabled hloaded hup hticket halone; exact exec_schedArmed_alone henabled hloaded hup hticket halone
  case launch => intro s henabled harmed hdue; exact next_of_guard (by simp only [henabled, harmed, hdue]; rfl)
  case spar | egress | claim | issue | refresh | gate | upd =>
    intro n e s henabled hrunning hnext hentry hkind hrunsOn
    exact congrArg Host.Outcome.next (issueEntry_next henabled hrunning hnext hentry hkind hrunsOn)
  case due =>
    intro n e s henabled hrunning hnext hentry hkind hmet
    exact exec_schedDueEntry_met henabled hrunning hnext hentry hkind hmet
  case power =>
    intro n e s henabled hrunning hnext hentry hkind
    exact congrArg Host.Outcome.next (issueEntry_next henabled hrunning hnext hentry hkind hrunning)
  case lift =>
    intro n e s henabled hrunning hnext hentry hkind htile hrunsOn
    exact exec_schedLiftEntry_tile henabled hrunning hnext hentry hkind htile hrunsOn
  case flag =>
    intro n e s henabled hrunning hnext hentry hkind
    exact congrArg Host.Outcome.next (issueEntry_next henabled hrunning hnext hentry hkind hrunning)
  case nextPeriod =>
    intro s henabled hrunning hlast hgoesOn hiters
    exact exec_schedPeriodEnd_next henabled hrunning hlast hgoesOn hiters
  case lastPeriod =>
    intro s henabled hrunning hlast hstop
    exact exec_schedPeriodEnd_last henabled hrunning hlast hstop

end Sys2Proof.Machine
end

section
/-! PROOFS. The statements on snapshots and the local flash: seals of a side bound to two slices, the events of seals, drains, copies
and restores, the events of the flash. -/

namespace Sys2Proof.Machine

/-! ### A side bound to more than one slice (R334) -/

/-- Some usable die's regions of the side are not all of one slice. -/
theorem not_all_oneSlice {sd : Nat} {s : State} (h : ∃ d ∈ dies s, oneSlice (sideSlices s sd d) = false) :
    (dies s).all (fun d => oneSlice (sideSlices s sd d)) = false :=
  List.all_eq_false.mpr (h.imp fun _ ⟨hdie, hslices⟩ => ⟨hdie, by simp [hslices]⟩)

/-- Such a side, where it is whole or nothing binds it, cannot be described by `SLICES`. -/
theorem sealRefusal_twoSlices {sd : Nat} {s : State} (hwhole : s.set.updBinds = [] ∨ (sideOf s sd).wholeAt ≠ none)
    (hslices : ∃ d ∈ dies s, oneSlice (sideSlices s sd d) = false) : sealRefusal s sd = some 0x0A07 := by
  have hready : (!s.set.updBinds.isEmpty && (sideOf s sd).wholeAt.isNone) = false := by
    obtain hunbound | hat := hwhole
    · simp [hunbound]
    · simp [Option.isNone_eq_false_iff, Option.isSome_iff_ne_none, hat]
  simp [sealRefusal, hready, not_all_oneSlice hslices]

/-- A seal of it that has been asked for does not take effect. -/
theorem sealDropped_twoSlices {sd k : Nat} {host : Bool} {s : State}
    (hslices : ∃ d ∈ dies s, oneSlice (sideSlices s sd d) = false) : sealDropped sd k host s = true := by
  have hrefused : (sealRefusal s sd).isSome = true := by
    simp only [sealRefusal, not_all_oneSlice hslices, Bool.not_false, if_true]
    split <;> rfl
  simp [sealDropped, hrefused]

/-- A pending seal that is dropped leaves the side as sealed as it was. -/
theorem sealed_onSide_pending (sd : Nat) (s : State) :
    (sideOf (onSide sd (fun x => { x with pending := none }) s) sd).sealed = (sideOf s sd).sealed := by
  unfold sideOf onSide
  split <;> rfl

/-- Settles O31: the command is refused, and a seal already asked for is dropped. -/
theorem aSideOfTwoSlicesIsNotSealed : Obligations.ASideOfTwoSlicesIsNotSealed := by
  refine ⟨?command, ?pending⟩
  case command =>
    intro q s hreach hside hwhole hslices
    have hchk : chkSnapSeal q s = some 0x0A07 := by
      simp only [chkSnapSeal, if_neg (Nat.not_lt.mpr hside), sealRefusal_twoSlices hwhole hslices]
    exact congrArg Host.Outcome.next (runCommand_refuses hreach hchk)
  case pending =>
    intro side s t hslices hexec
    change execSealTakeEffect side s = .next t at hexec
    cases hpending : (sideOf s side).pending with
    | none =>
      simp only [execSealTakeEffect, hpending] at hexec
      cases hexec
      rfl
    | some asked =>
      obtain ⟨k, host, auto⟩ := asked
      simp only [execSealTakeEffect, hpending, sealDropped_twoSlices hslices, if_true] at hexec
      cases hexec
      split
      · rfl
      · exact sealed_onSide_pending side s

/-! ### Seals and drains -/

/-- A pending seal, every write to its side performed, takes effect (R333). -/
theorem exec_sealTakeEffect_takes {side k : Nat} {host auto : Bool} {s : State}
    (hpending : (sideOf s side).pending = some (k, host, auto)) (hside : side < 2) (hquiet : writesWait s side = false)
    (hkept : sealDropped side k host s = false) : exec (.sealTakeEffect side) s = .next (takeSeal side k host auto s) := by
  have hready : (decide (1 < side) || writesWait s side) = false := by
    simp [hquiet, Nat.le_of_lt_succ hside]
  show execSealTakeEffect side s = _
  simp only [execSealTakeEffect, hpending, hready, hkept, Bool.false_eq_true, if_false]

/-! ### Frames of the `SNAP` queue -/

/-- The state that a frame taken from the head of a die's `SNAP` queue leaves: `l` still waits. -/
abbrev snapTaken (die : Nat) (e : QEnt) (l : List QEnt) (s : State) : State :=
  dropEnt e (onCons (64 * die + 4) (fun _ => l) s)

section
variable {die : Nat} {e : QEnt} {l : List QEnt} {s : State}

/-- The mover takes a frame of its kind that the twin sent (R337). -/
theorem takeSnap_head {kind : Nat} (f : QEnt → State → State) (hqueue : consQ s (64 * die + 4) = e :: l)
    (hkind : xSkind e.frame = kind) (htwin : fromTwin (snapTaken die e l s) e = true) :
    takeSnap die kind false f s = f e (snapTaken die e l s) := by
  rw [takeSnap, consume_head hqueue (by simp [hkind])]
  exact if_pos (by rw [htwin, hkind, BEq.rfl, Bool.and_self])

/-- `DATA` is written to the slot that its address names. -/
theorem exec_snapDataRx_stores {a : Nat} (hqueue : consQ s (64 * die + 4) = e :: l) (hkind : xSkind e.frame = 0)
    (htwin : fromTwin (snapTaken die e l s) e = true) (hholds : (snapTaken die e l s).gemel.holdsRole = false)
    (hfirst : twinAddr (snapTaken die e l s) (xSlot e.frame) (xAddr e.frame) = some a)
    (hlast : twinAddr (snapTaken die e l s) (xSlot e.frame) (xAddr e.frame + e.frame.payload.length - 1) =
      some (a + e.frame.payload.length - 1)) (hsome : 0 < e.frame.payload.length) :
    exec (.snapDataRx die false) s =
      .next (hbmWrite a e.frame.payload (slotWritten (xSlot e.frame) (xSnapId e.frame) (snapTaken die e l s))) := by
  have hrange : a + e.frame.payload.length - 1 + 1 = a + e.frame.payload.length := by omega
  show execSnapDataRx die false s = _
  rw [execSnapDataRx, takeSnap_head _ hqueue hkind htwin]
  simp only [hholds, hfirst, hlast, hrange, Bool.false_eq_true, if_false, if_true]

/-- The header of a copy so far, with the piece that a frame brings. -/
abbrev headerWith (f : Frame) (s : State) : List Byte := mget [] s.snap.hdrRx (xSlot f) ++ f.payload

/-- A piece of a header that leaves it incomplete is kept. -/
theorem exec_snapHeaderRx_keeps {t : State} (hqueue : consQ s (64 * die + 4) = e :: l) (hkind : xSkind e.frame = 1)
    (htwin : fromTwin (snapTaken die e l s) e = true) (hplan : (snapTaken die e l s).set.plan.twin = 1)
    (hholds : (snapTaken die e l s).gemel.holdsRole = false)
    (hslot : slotWritten (xSlot e.frame) (xSnapId e.frame) (snapTaken die e l s) = t)
    (hpart : (headerWith e.frame t).length < headerLen (headerWith e.frame t)) :
    exec (.snapHeaderRx die false) s =
      .next (onSnap (fun x => { x with hdrRx := mput x.hdrRx (xSlot e.frame) (headerWith e.frame t) }) t) := by
  show execSnapHeaderRx die false s = _
  rw [execSnapHeaderRx, takeSnap_head _ hqueue hkind htwin]
  simp only [hplan, hholds, hslot, ne_eq, not_true_eq_false, Bool.false_eq_true, or_self, if_false, hpart, if_true]

/-- `ACK` of a drain that waits for it acknowledges the copy. -/
theorem exec_snapAckRx_acks {d : Drain} (hqueue : consQ s (64 * die + 4) = e :: l) (hkind : xSkind e.frame = 2)
    (htwin : fromTwin (snapTaken die e l s) e = true)
    (hdrain : ((snapTaken die e l s).snap.drains.find? fun d => d.tier == 1 && d.snapId == xSnapId e.frame && d.phase == 3) =
      some d) : exec (.snapAckRx die false) s = .next (ackCopy d (snapTaken die e l s)) := by
  show execSnapAckRx die false s = _
  rw [execSnapAckRx, takeSnap_head _ hqueue hkind htwin]
  simp only [hdrain]

/-- `PAGE_REQ` for a page of a valid copy is answered with the page. -/
theorem exec_pageReqRx_answers {a : Nat} (hqueue : consQ s (64 * die + 4) = e :: l) (hkind : xSkind e.frame = 3)
    (htwin : fromTwin (snapTaken die e l s) e = true)
    (haddr : twinAddr (snapTaken die e l s) (xSlot e.frame) (xAddr e.frame) = some a)
    (hheld : ((mfind (snapTaken die e l s).snap.twinSlots (xSlot e.frame)).any fun c =>
      c.snapId == xSnapId e.frame && c.st == 0) = true) (hgood : hbmBad (snapTaken die e l s) a 4096 = false) :
    exec (.pageReqRx die false false) s =
      .next (sendSnap die (snapFrame (snapTaken die e l s) (xSnapId e.frame) 4 (xSlot e.frame) (xAddr e.frame)
        (hbmRead (snapTaken die e l s) a 4096)) (snapTaken die e l s)) := by
  show execPageReqRx die false false s = _
  rw [execPageReqRx, takeSnap_head _ hqueue hkind htwin]
  simp only [haddr, hheld, hgood, Bool.not_true, Bool.or_self, Bool.false_eq_true, if_false]

/-- `PAGE_DATA` of the copy whose page was asked for brings the page back (R342). -/
theorem exec_pageDataRx_restores {p : PageRestore} (hqueue : consQ s (64 * die + 4) = e :: l) (hkind : xSkind e.frame = 4)
    (htwin : fromTwin (snapTaken die e l s) e = true) (hasked : pageAsked (snapTaken die e l s) 1 (xAddr e.frame) = some p)
    (hsnap : (sideOf (snapTaken die e l s) p.side).snapId = xSnapId e.frame) :
    exec (.pageDataRx die false) s = .next (pageBack p e.frame.payload (snapTaken die e l s)) := by
  show execPageDataRx die false s = _
  rw [execPageDataRx, takeSnap_head _ hqueue hkind htwin]
  simp only [hasked, hsnap, if_true]

/-- `NO_COPY` turns to the next tier. -/
theorem exec_noCopyRx_next {p : PageRestore} (hqueue : consQ s (64 * die + 4) = e :: l) (hkind : xSkind e.frame = 5)
    (htwin : fromTwin (snapTaken die e l s) e = true) (hasked : pageAsked (snapTaken die e l s) 1 (xAddr e.frame) = some p) :
    exec (.noCopyRx die false) s = .next (nextPage p (snapTaken die e l s)) := by
  show execNoCopyRx die false s = _
  rw [execNoCopyRx, takeSnap_head _ hqueue hkind htwin]
  simp only [hasked]

end

/-! ### Targets, reads and restores -/

/-- The second flush of a target brings its acknowledgement (R338). -/
theorem exec_targetFlushDone_second {tgt : Nat} {d : Drain} {s : State}
    (hdrain : (s.snap.drains.find? fun d => d.tier == 3 && d.target == tgt && (d.phase == 1 || d.phase == 3)) = some d)
    (hphase : d.phase = 3) : exec (.targetFlushDone tgt true) s = .next (ackCopy d s) := by
  show execTargetFlushDone tgt true s = _
  simp only [execTargetFlushDone, hdrain, hphase, Bool.not_true, Bool.false_eq_true, if_false, if_true]

/-- Settles O52: each event under its condition. -/
theorem snapshotEventsComplete : Obligations.SnapshotEventsComplete := by
  refine ⟨?sealed, ?piece, ?data, ?header, ?ack, ?pageReq, ?pageData, ?noCopy, ?flush, ?readDone, ?restored⟩
  case sealed =>
    intro side k host auto s hpending hside hquiet hkept
    exact exec_sealTakeEffect_takes hpending hside hquiet hkept
  case piece =>
    intro tier die bad d s hkeel hdrain
    show execMoverPiece tier die bad s = _
    simp only [execMoverPiece, hkeel, hdrain, Bool.false_eq_true, if_false]
  case data =>
    intro die e l a s hqueue hkind htwin hholds hfirst hlast hsome
    exact exec_snapDataRx_stores hqueue hkind htwin hholds hfirst hlast hsome
  case header =>
    intro die e l s hqueue hkind htwin hplan hholds hpart
    exact exec_snapHeaderRx_keeps hqueue hkind htwin hplan hholds rfl hpart
  case ack => intro die e l d s hqueue hkind htwin hdrain; exact exec_snapAckRx_acks hqueue hkind htwin hdrain
  case pageReq =>
    intro die e l a s hqueue hkind htwin haddr hheld hgood
    exact exec_pageReqRx_answers hqueue hkind htwin haddr hheld hgood
  case pageData =>
    intro die e l p s hqueue hkind htwin hasked hsnap
    exact exec_pageDataRx_restores hqueue hkind htwin hasked hsnap
  case noCopy => intro die e l p s hqueue hkind htwin hasked; exact exec_noCopyRx_next hqueue hkind htwin hasked
  case flush => intro tgt d s hdrain hphase; exact exec_targetFlushDone_second hdrain hphase
  case readDone =>
    intro addr p bs s hasked
    show execFlashReadDone addr 3 (some bs) s = _
    simp only [execFlashReadDone, hasked]
  case restored =>
    intro side r s hrestore
    show execRestoreComplete side s = _
    simp only [execRestoreComplete, hrestore]

/-! ### Events of the flash -/

/-- A data page that stands programmed is stored; the object's last brings its header page (R349). -/
theorem exec_pageProgramDone_data {sb page : Nat} {p : PageProg} {s : State}
    (hprog : (s.flash.progs.find? fun p => p.sb == sb && p.page == page && pageWhole s p) = some p)
    (hkeel : s.sys.keelLost = false) (hdata : p.hdr = false) :
    exec (.pageProgramDone sb page true) s = .next (afterPage p.object (pageStored p s)) := by
  show execPageProgramDone sb page true s = _
  simp only [execPageProgramDone, hprog, hkeel, hdata, Bool.not_true, Bool.false_eq_true, if_false]

/-- The erase of a superblock completes (R351, R353). -/
theorem exec_eraseComplete_good {sb fdie : Nat} {s : State} (hkeel : s.sys.keelLost = false) (hrange : sb < superCount)
    (herasing : (superOf s sb).st = 2) :
    exec (.eraseComplete sb true fdie) s = .next (formatEnd (sayLife (onFlash (fun x => { x with
      supers := mput x.supers sb ⟨0, 0, (superOf s sb).erases + 1, 0⟩, data := memZero x.data (sb <<< 33) (1 <<< 33),
      eraseLog := x.eraseLog ++ [(s.mono, superBytes s)] }) s))) := by
  have hdue : (s.sys.keelLost || decide (superCount ≤ sb) || (superOf s sb).st != 2) = false := by
    simp [hkeel, hrange, herasing]
  show execEraseComplete sb true fdie s = _
  simp only [execEraseComplete, hdue, Bool.false_eq_true, if_false, if_true]

/-- The read of the last block ends a scan that the module began, where it finds nothing of an object. -/
theorem exec_scanBlockRead_last {fdie blk page errs : Nat} {s : State} (hon : s.flash.scanOn = true)
    (hcalm : s.snap.emergency = false) (hkeel : s.sys.keelLost = false) (hown : s.flash.scanTicket = none)
    (hempty : scanned s fdie blk page = none) :
    exec (.scanBlockRead fdie blk page errs true) s =
      .next (onFlash (fun x => { x with scanOn := false, scanTicket := none, scanFt := ftNs s }) s) := by
  show execScanBlockRead fdie blk page errs true s = _
  simp only [execScanBlockRead, hon, hcalm, hkeel, hown, hempty, Bool.not_true, Bool.or_self, Bool.false_eq_true, if_false,
    if_true]

/-- A block whose worst codeword cannot be corrected damages its object (R355, R356). -/
theorem exec_scanBlockRead_uncorrectable {fdie blk page errs id : Nat} {s : State} (hon : s.flash.scanOn = true)
    (hcalm : s.snap.emergency = false) (hkeel : s.sys.keelLost = false) (hown : s.flash.scanTicket = none)
    (hobject : scanned s fdie blk page = some id) (hworst : 100 < errs) :
    exec (.scanBlockRead fdie blk page errs false) s = .next (flashUncorr fdie blk page id s) := by
  show execScanBlockRead fdie blk page errs false s = _
  simp only [execScanBlockRead, hon, hcalm, hkeel, hown, hobject, hworst, Bool.not_true, Bool.or_self, Bool.false_eq_true,
    if_false, if_true]

/-- Settles O53: each event under its condition. -/
theorem flashEventsComplete : Obligations.FlashEventsComplete := by
  refine ⟨?program, ?erase, ?release, ?scanDue, ?scanEnd, ?scanBad, ?dieFails⟩
  case program => intro sb page p s hprog hkeel hdata; exact exec_pageProgramDone_data hprog hkeel hdata
  case erase => intro sb fdie s hkeel hrange herasing; exact exec_eraseComplete_good hkeel hrange herasing
  case release =>
    intro obj o s hobject hdue hunread hkeel
    show execReleaseAfterRead obj s = _
    simp only [execReleaseAfterRead, hobject, hdue, hunread, hkeel, Bool.not_false, Bool.and_self, if_true]
  case scanDue => intro s hflash hrunning hkeel hoff; exact next_of_guard (by simp [hflash, hrunning, hkeel, hoff])
  case scanEnd =>
    intro fdie blk page errs s hon hcalm hkeel hown hempty
    exact exec_scanBlockRead_last hon hcalm hkeel hown hempty
  case scanBad =>
    intro fdie blk page errs id s hon hcalm hkeel hown hobject hworst
    exact exec_scanBlockRead_uncorrectable hon hcalm hkeel hown hobject hworst
  case dieFails => intro fdie s hworks hkeel; exact next_of_guard (by simp [hworks, hkeel])

end Sys2Proof.Machine
end

section
/-! PROOFS. The statements on the twin, on rings and sessions, and on tickets: the events of each. -/

namespace Sys2Proof.Machine

/-! ### Records from the twin -/

/-- The state in which a mirror record is acted on: the twin has been heard. -/
abbrev twinHeard (s : State) : State := onGemel (fun g => { g with lastRx := s.mono }) s

section
variable {lp kind : Nat} {rec : List Byte} {s : State}

/-- A sound record of its kind over a mooring link is acted on (R361). -/
theorem takeRec_sound (f : State → State) (hkeel : keelOn s = true) (hport : lpLoc lp = 30) (hup : linkUp s lp = true)
    (hsound : recOk rec = true) (hkind : recKind rec = kind) : takeRec lp kind rec f s = f (twinHeard s) :=
  if_pos (by simp [hkeel, hport, hup, hsound, hkind])

/-- `OFFER` outside a hold for the mirror (R362). -/
theorem exec_offerRx_takes (hkeel : keelOn s = true) (hport : lpLoc lp = 30) (hup : linkUp s lp = true)
    (hsound : recOk rec = true) (hkind : recKind rec = 3) (hlength : 72 ≤ (recBody rec).length)
    (hfree : (s.sys.st == .keelUp && s.sys.hold.testBit 3) = false) :
    exec (.offerRx lp rec) s = .next (holdEnds (takeOffer (recBody rec) (twinHeard s))) := by
  have htaken : (!keelOn s || lpLoc lp != 30 || !(linkUp s lp || false) || !recOk rec || recKind rec != 3 ||
      decide ((recBody rec).length < 72)) = false := by
    simp [hkeel, hport, hup, hsound, hkind, hlength]
  show execOfferRx lp rec s = _
  simp only [execOfferRx, hfree, htaken, Bool.false_and, Bool.false_eq_true, if_false]

/-- An entry of a PAIRED twin joins the mirror and is acknowledged (R365). -/
theorem exec_mirrorEntryRx_stores (hkeel : keelOn s = true) (hport : lpLoc lp = 30) (hup : linkUp s lp = true)
    (hsound : recOk rec = true) (hkind : recKind rec = 0) (hpaired : s.gemel.st = .paired) (hlive : s.gemel.frozen = false) :
    exec (.mirrorEntryRx lp rec) s =
      .next (sendRec 1 (onGemel (storeMirror (recSeq rec) (recBody rec)) (twinHeard s)).gemel.mirSeq []
        (onGemel (storeMirror (recSeq rec) (recBody rec)) (twinHeard s))) := by
  have hstores : (pairIn (twinHeard s) [.syncing, .paired] && !(twinHeard s).gemel.frozen) = true := by
    simp [pairIn, hpaired, hlive]
  show execMirrorEntryRx lp rec s = _
  rw [execMirrorEntryRx, takeRec_sound _ hkeel hport hup hsound hkind]
  simp only [hstores, if_true]

/-- An acknowledgement settles what waited for it (R366). -/
theorem exec_mirrorAckRx_settles (hkeel : keelOn s = true) (hport : lpLoc lp = 30) (hup : linkUp s lp = true)
    (hsound : recOk rec = true) (hkind : recKind rec = 1) (hpaired : s.gemel.st = .paired) :
    exec (.mirrorAckRx lp rec) s =
      .next (settleStoring
        (fun x => { x with acked := x.acked || x.jseq ≤ (ackRecords (recSeq rec) (twinHeard s)).gemel.acked })
        (ackRecords (recSeq rec) (twinHeard s))) := by
  have hmirrors : pairIn (twinHeard s) [.syncing, .paired] = true := by simp [pairIn, hpaired]
  show execMirrorAckRx lp rec s = _
  rw [execMirrorAckRx, takeRec_sound _ hkeel hport hup hsound hkind]
  simp only [hmirrors, if_true]

/-- The role of the headless twin's die is taken; the mirror stands as it is (R369). -/
def takeRole (die usable : Nat) (s : State) : State :=
  onGemel (fun g => { g with frozen := true, holdsRole := true, role := g.role ++ [die], twinUsable := usable }) s

/-- `KEEL_LOST` of a die whose role is not yet held: the module takes the role (R369). -/
theorem exec_keelLostRx_takesRole (hkeel : keelOn s = true) (hport : lpLoc lp = 30) (hup : linkUp s lp = true)
    (hsound : recOk rec = true) (hkind : recKind rec = 4) (hpair : s.gemel.st ≠ .unpaired)
    (hnew : s.gemel.role.contains (lpDie lp) = false) :
    ∃ t, exec (.keelLostRx lp rec) s = .next t ∧ t.gemel.frozen = true ∧ t.gemel.holdsRole = true ∧
      t.gemel.role = s.gemel.role ++ [lpDie lp] ∧ t.gemel.twinUsable = rdLe (recBody rec) 0 8 := by
  have htakes : ((twinHeard s).gemel.st == .unpaired || (twinHeard s).gemel.role.contains (lpDie lp)) = false := by
    simp only [onGemel_gemel, hnew, Bool.or_false, beq_eq_false_iff_ne, ne_eq, hpair, not_false_eq_true]
  let u := takeRole (lpDie lp) (rdLe (recBody rec) 0 8) (twinHeard s)
  refine ⟨record 0x0CC3 [(16, twinSerial u), (1, u.gemel.role.foldl (fun a x => a + bit true x) 0)] u, ?next, ?_⟩
  case next =>
    show execKeelLostRx lp rec s = _
    rw [execKeelLostRx, takeRec_sound _ hkeel hport hup hsound hkind]
    simp only [htakes, Bool.false_eq_true, if_false]
    rfl
  simp [u, takeRole]

/-- `SYNC_DONE` in SYNCING, where this module has sent its own, pairs them (R364). -/
theorem exec_syncDoneRx_pairs (hkeel : keelOn s = true) (hport : lpLoc lp = 30) (hup : linkUp s lp = true)
    (hsound : recOk rec = true) (hkind : recKind rec = 5) (hsyncing : s.gemel.st = .syncing) (hsent : s.gemel.syncTx = true) :
    exec (.syncDoneRx lp rec) s = .next (pairUp (onGemel (fun g => { g with syncRx := true }) (twinHeard s))) := by
  have hpairs : pairIn (twinHeard s) [.offering, .syncing, .solo] = true := by simp [pairIn, hsyncing]
  show execSyncDoneRx lp rec s = _
  rw [execSyncDoneRx, takeRec_sound _ hkeel hport hup hsound hkind]
  simp only [hpairs, onGemel_gemel, hsyncing, hsent, BEq.rfl, Bool.and_self, if_true]

end

/-! ### Timers of the pair, and MRAM -/

/-- The twin lost, the MRAM write alone stores an entry (R368). -/
theorem exec_twinLost_solo {s : State} (hkeel : keelOn s = true) (hmirroring : mirroring s = true)
    (hmram : (goSolo s).gemel.mramOk = true) :
    exec .twinLost s = .next (settleStoring (fun x => { x with acked := true }) (goSolo s)) := by
  show execTwinLost s = _
  simp only [execTwinLost, hkeel, hmirroring, hmram, Bool.and_self, if_true]

/-- Unacknowledged records go again. -/
theorem exec_mirrorResendTimeout_resends {lp : Nat} {s : State} (hkeel : keelOn s = true) (hmirroring : mirroring s = true)
    (hbehind : s.gemel.acked < s.cmd.jseq) (hlink : mirrorLp s = some lp) :
    exec .mirrorResendTimeout s = .next (emit (.journal lp (s.gemel.acked + 1) s.cmd.jseq) s) := by
  show execMirrorResendTimeout s = _
  simp only [execMirrorResendTimeout, hkeel, hmirroring, hbehind, hlink, decide_true, Bool.and_self, if_true]

/-- Where MRAM fails, a PAIRED module journals to the twin alone (R368). -/
theorem exec_mramFail_paired {s : State} (hkeel : keelOn s = true) (hmram : s.gemel.mramOk = true)
    (hpaired : s.gemel.st = .paired) :
    exec .mramFail s = .next (settleStoring (fun x => { x with mram := true })
      (record 0x0CC5 [(1, pairCode .paired)] (onGemel (fun g => { g with mramOk := false, remote := true }) s))) := by
  have hremote : onGemel (fun g => { g with mramOk := false, remote := g.st == .paired }) s =
      onGemel (fun g => { g with mramOk := false, remote := true }) s := by
    simp only [onGemel, hpaired, BEq.rfl]
  show execMramFail s = _
  simp only [execMramFail, hkeel, hmram, hremote, hpaired, record_gemel, onGemel_gemel, Bool.and_self, if_true]

/-- Settles O54: each event under its condition. -/
theorem twinEventsComplete : Obligations.TwinEventsComplete := by
  refine ⟨?offerDue, ?offerRx, ?entry, ?ack, ?heartbeatRx, ?keelLost, ?syncDone, ?heartbeatDue, ?twinLost, ?resend, ?mramDone,
    ?mramFail, ?pairTimeout, ?soloRole, ?headless⟩
  case offerDue =>
    intro s hintent hrunning hkeel hunpaired hlinks
    exact next_of_guard (by simp [hintent, hrunning, hkeel, hunpaired, hlinks])
  case offerRx =>
    intro lp rec s hkeel hport hup hsound hkind hlength hfree
    exact exec_offerRx_takes hkeel hport hup hsound hkind hlength hfree
  case entry =>
    intro lp rec s hkeel hport hup hsound hkind hpaired hlive
    exact exec_mirrorEntryRx_stores hkeel hport hup hsound hkind hpaired hlive
  case ack =>
    intro lp rec s hkeel hport hup hsound hkind hpaired
    exact exec_mirrorAckRx_settles hkeel hport hup hsound hkind hpaired
  case heartbeatRx =>
    intro lp rec s hkeel hport hup hsound hkind
    exact congrArg Host.Outcome.next (takeRec_sound _ hkeel hport hup hsound hkind)
  case keelLost =>
    intro lp rec s hkeel hport hup hsound hkind hpair hnew
    exact exec_keelLostRx_takesRole hkeel hport hup hsound hkind hpair hnew
  case syncDone =>
    intro lp rec s hkeel hport hup hsound hkind hsyncing hsent
    exact exec_syncDoneRx_pairs hkeel hport hup hsound hkind hsyncing hsent
  case heartbeatDue => intro s hkeel hpaired; exact next_of_guard (by simp [hkeel, pairIn, hpaired])
  case twinLost => intro s hkeel hmirroring hmram; exact exec_twinLost_solo hkeel hmirroring hmram
  case resend =>
    intro lp s hkeel hmirroring hbehind hlink
    exact exec_mirrorResendTimeout_resends hkeel hmirroring hbehind hlink
  case mramDone => intro n s hkeel hmram; exact next_of_guard (by simp [hkeel, hmram])
  case mramFail => intro s hkeel hmram hpaired; exact exec_mramFail_paired hkeel hmram hpaired
  case pairTimeout =>
    intro k s hop hdark
    show execPairTimeout s = _
    simp only [execPairTimeout, hop, hdark, List.isEmpty_nil, if_true]
  case soloRole => intro s hrunning hsolo; exact next_of_guard (by simp [hrunning, pairIn, hsolo])
  case headless => intro die src kind ft s hkeel hholds hrole; exact next_of_guard (by simp only [hkeel, hholds, hrole, Bool.and_self])

/-! ### Host rings -/

/-- The doorbell of one more entry hands it to the ring (R379, R380). -/
theorem exec_sqDoorbell_one {ring e tail : Nat} {x : Entry × List Byte} {s : State} (hring : ring < 64) (hawake : asleep s = false)
    (henabled : (ringOf s ring).rstate = .enabled) (hentries : ringEntries (ringOf s ring) = e) (htail : tail < e)
    (hone : (tail + e - (ringOf s ring).sqTail) % e = 1)
    (hroom : ((ringOf s ring).sqTail + e - (ringOf s ring).sqHead) % e + 1 ≤ e - 1) :
    exec (.sqDoorbell ring tail [x]) s =
      .next (onRing ring (fun g => { g with sqTail := tail, waiting := g.waiting ++ [⟨⟨.host, ring⟩, x.1, x.2⟩] }) s) := by
  have hanswers : (decide (64 ≤ ring) || asleep s) = false := by simp [hring, hawake]
  have hfits : (decide (e ≤ tail) ||
      decide (e - 1 < ((ringOf s ring).sqTail + e - (ringOf s ring).sqHead) % e + 1)) = false :=
    Bool.or_eq_false_iff.mpr ⟨decide_eq_false (Nat.not_le.mpr htail), decide_eq_false (Nat.not_lt.mpr hroom)⟩
  show execSqDoorbell ring tail [x] s = _
  simp only [execSqDoorbell, hanswers, henabled, hentries, hone, hfits, bne_self_eq_false, Bool.false_eq_true, if_false]
  rfl

/-- The host frees completions that stand in its queue. -/
theorem exec_cqDoorbell_frees {ring head : Nat} {s : State} (hring : ring < 64) (hawake : asleep s = false)
    (henabled : (ringOf s ring).rstate = .enabled) (hhead : head < ringEntries (ringOf s ring))
    (hposted : (head + ringEntries (ringOf s ring) - (ringOf s ring).cqHead) % ringEntries (ringOf s ring) ≤ unfreed (ringOf s ring)) :
    exec (.cqDoorbell ring head) s = .next (onRing ring (fun g => { g with cqHead := head }) s) := by
  have hanswers : (decide (64 ≤ ring) || asleep s) = false := by simp [hring, hawake]
  show execCqDoorbell ring head s = _
  simp only [execCqDoorbell, hanswers, henabled, bne_self_eq_false, Bool.false_eq_true, if_false,
    if_neg (Nat.not_le.mpr hhead), if_neg (Nat.not_lt.mpr hposted)]

/-- A ring that passes the checks of Table 19-8 is enabled, and its client gets what it is owed. -/
theorem exec_ringEnable_good {ring : Nat} {s : State} (hring : ring < 64) (hoff : (ringOf s ring).enable = false)
    (hkeel : keelOn s = true) (hcause : enableCause s (ringOf s ring) = 0) :
    exec (.ringEnable ring) s = .next (postOwed ⟨.host, ring⟩ (onRing ring (fun g => { g with
      enable := true, rstate := .enabled, cause := 0, sqHead := 0, sqTail := 0, cqTail := 0, cqHead := 0, phase := true,
      waiting := [] }) s)) := by
  have hchecked : (decide (64 ≤ ring) || (ringOf s ring).enable || !keelOn s) = false := by simp [hring, hoff, hkeel]
  show execRingEnable ring s = _
  simp only [execRingEnable, hchecked, hcause, Bool.false_eq_true, if_false, if_true]

/-- A ring is disabled. -/
theorem exec_ringDisable_good {ring : Nat} {s : State} (hring : ring < 64) (hkeel : keelOn s = true) :
    exec (.ringDisable ring) s =
      .next (onRing ring (fun g => { g with enable := false, rstate := .disabled, cause := 0, waiting := [] }) s) :=
  congrArg Host.Outcome.next (if_neg (by simp [hring, hkeel]))

/-! ### Opening a session -/

theorem sendHelloReply_cmd (xp sess dst : Nat) (body : List Byte) (s : State) :
    (sendHelloReply xp sess dst body s).cmd = s.cmd :=
  forEach_frame (·.cmd) _ (fun _ _ => sendCapsule_cmd _ _ _ _ _) _ _

theorem sendHelloReply_freeCtr (xp sess dst : Nat) (body : List Byte) (s : State) :
    (sendHelloReply xp sess dst body s).freeCtr = s.freeCtr :=
  forEach_frame (·.freeCtr) _ (fun _ _ => sendCapsule_freeCtr _ _ _ _ _) _ _

/-- A HELLO of a session transport, with a fitting reply offset, is answered. -/
theorem hello_not_ignored {h : Hello} {s : State} (hkeel : keelOn s = true)
    (hxport : h.xp = 1 ∨ (h.xp = 2 ∧ h.replyOff % 1024 = 0 ∧ h.replyOff ≤ 0xFC00)) :
    (!keelOn s || !(h.xp == 1 || h.xp == 2) ||
      (h.xp == 2 && (h.replyOff % 1024 != 0 || decide (0xFC00 < h.replyOff)))) = false := by
  obtain hmgmt | ⟨hfabric, haligned, hrange⟩ := hxport
  · simp [hkeel, hmgmt]
  · simp [hkeel, hfabric, haligned, hrange]

/-- A HELLO with a signature that verifies draws twice; where its key exchange succeeds it opens a session with the keys drawn
(R384). -/
theorem exec_helloRx_signed {h : Hello} {n mx : Nat} {leaf : Cert} {s : State} (hkeel : keelOn s = true)
    (hxport : h.xp = 1 ∨ (h.xp = 2 ∧ h.replyOff % 1024 = 0 ∧ h.replyOff ≤ 0xFC00)) (hfree : freeSess s h.xp = some n)
    (hpriv : chainPriv s h.chain = some mx) (hleaf : h.chain.head? = some leaf)
    (hsigned : ecdsaOk leaf.pub (helloBody h) h.sig = true) :
    ∃ t, exec (.helloRx h) s = .next t ∧ t.freeCtr = s.freeCtr + 2 ∧
      ∀ g x, ecMul 256 (ephKey (draw s).1) (some p256g) = some g → ecdhX (ephKey (draw s).1) h.pub = some x →
        t.cmd.sessions = mput s.cmd.sessions (sessKey h.xp n) (sessNew (peerId leaf)
          (min (min h.wantPriv mx) (if h.xp = 2 then min 2 s.sys.inUse.fabricPriv else 2))
          (hkdf32 x (h.nonce ++ beBytes 32 ((draw (draw s).2).1 % 2 ^ 256)) infoClient)
          (hkdf32 x (h.nonce ++ beBytes 32 ((draw (draw s).2).1 % 2 ^ 256)) infoModule) s.mono (helloTo h)) := by
  show ∃ t, execHelloRx h s = .next t ∧ _
  simp only [execHelloRx, hello_not_ignored hkeel hxport, hfree, hpriv, hleaf, hsigned, draw, Bool.not_true, Bool.false_eq_true, if_false]
  cases hmul : ecMul 256 (ephKey (Config.freeNat s.freeCtr)) (some p256g) with
  | none => exact ⟨_, rfl, sendHelloReply_freeCtr _ _ _ _ _, nofun⟩
  | some g =>
    cases hshared : ecdhX (ephKey (Config.freeNat s.freeCtr)) h.pub with
    | none => exact ⟨_, rfl, sendHelloReply_freeCtr _ _ _ _ _, nofun⟩
    | some x =>
      refine ⟨_, rfl, sendHelloReply_freeCtr _ _ _ _ _, ?_⟩
      rintro _ _ ⟨⟩ ⟨⟩
      rw [sendHelloReply_cmd]
      rfl

/-! ### Capsules of a session -/

section
variable {xp : Nat} {cap : Capsule} {q : Session} {s : State}

/-- A capsule of an open session, new and authentic, is acted on (R385). -/
theorem takeCapsule_new (f : Session → State → State) (hsess : sessAt s xp cap.sess = some q) (hopen : q.openS = true)
    (hkeel : keelOn s = true) (hmac : capMac q cap = cap.mac) (hnew : (q.replies.find? fun r => r.1.contains cap.cseq) = none)
    (hwindow : capWindow q cap.cseq = true) :
    takeCapsule xp cap f s = f q (onSess xp cap.sess (acceptCap cap.cseq s.mono) s) := by
  simp only [takeCapsule, hsess, hopen, hkeel, hmac, hnew, hwindow, bne_self_eq_false, Bool.not_true, Bool.or_self,
    Bool.false_eq_true, if_false, if_true]

/-- A command of one segment is handed to the session's ring. -/
theorem exec_commandCapsuleRx_whole (hsess : sessAt s xp cap.sess = some q) (hopen : q.openS = true)
    (hkeel : keelOn s = true) (hmac : capMac q cap = cap.mac) (hnew : (q.replies.find? fun r => r.1.contains cap.cseq) = none)
    (hwindow : capWindow q cap.cseq = true) (hkind : cap.kind = 3) (hbody : cap.body.length = cap.bodyLen)
    (hentry : 64 ≤ cap.bodyLen) (hfits : cap.bodyLen ≤ 976) (hnseg : cap.nseg = 1) (hseg : cap.seg = 0) :
    exec (.commandCapsuleRx xp cap) s =
      .next (sessMessage xp cap.sess [cap.cseq] cap.body (onSess xp cap.sess (acceptCap cap.cseq s.mono) s)) := by
  have hsound : ¬ (cap.kind ≠ 3 ∨ cap.body.length ≠ cap.bodyLen ∨ 976 < cap.bodyLen ∨ cap.nseg ≤ cap.seg ∨ cap.cseq < cap.seg) := by
    omega
  show execCommandCapsuleRx xp cap s = _
  rw [execCommandCapsuleRx, takeCapsule_new _ hsess hopen hkeel hmac hnew hwindow, if_neg hsound, if_pos hnseg,
    if_neg (Nat.not_lt.mpr hentry)]

/-- CLOSE closes the session. -/
theorem exec_closeRx_closes (hsess : sessAt s xp cap.sess = some q) (hopen : q.openS = true)
    (hkeel : keelOn s = true) (hmac : capMac q cap = cap.mac) (hnew : (q.replies.find? fun r => r.1.contains cap.cseq) = none)
    (hwindow : capWindow q cap.cseq = true) (hkind : cap.kind = 5) :
    exec (.closeRx xp cap) s = .next (closeSess xp cap.sess 0 (onSess xp cap.sess (acceptCap cap.cseq s.mono) s)) := by
  show execCloseRx xp cap s = _
  rw [execCloseRx, takeCapsule_new _ hsess hopen hkeel hmac hnew hwindow, if_pos hkind]

end

/-- FINISH with the right `MAC` opens the session, whose client gets what it is owed (R384). -/
theorem exec_finishRx_opens {xp sess replyTo : Nat} {q : Session} {s : State} (hsess : sessAt s xp sess = some q)
    (hnew : q.openS = false) (hkeel : keelOn s = true) :
    exec (.finishRx xp sess 1 replyTo (hmac q.cliKey (capHead 2 sess 0 0 1 1))) s =
      .next (postOwed ⟨xpOf xp, sess⟩ (record 0x10C1 [(1, xp), (1, sess), (8, q.peer), (1, q.priv)]
        (onSess xp sess (fun y => { y with
          openS := true, rxMax := 1, rxSeen := [1], lastAt := s.mono, replyTo := if xp = 1 then replyTo else y.replyTo }) s))) := by
  show execFinishRx xp sess 1 replyTo _ s = _
  simp only [execFinishRx, hsess, hnew, hkeel, ne_eq, not_true_eq_false, or_self, Bool.not_true, Bool.or_self, Bool.false_eq_true, if_false]

/-- A message still incomplete is refused. -/
theorem exec_segmentTimeout_refuses {xp sess msg : Nat} {e : Nat × Asm} {s : State}
    (hmessage : ((sessAt s xp sess).bind fun q => q.asm.find? fun e => e.1 == msg) = some e) :
    exec (.segmentTimeout xp sess msg) s = .next (refuseMessage xp sess 0x0002 e.2.cseqs (mget [] e.2.segs 0)
      (onSess xp sess (fun y => { y with asm := y.asm.filter fun x => x.1 != msg }) s)) := by
  show execSegmentTimeout xp sess msg s = _
  simp only [execSegmentTimeout, hmessage]

/-- Settles O55: each event under its condition. -/
theorem ringAndSessionEventsComplete : Obligations.RingAndSessionEventsComplete := by
  refine ⟨?sqDoorbell, ?cqDoorbell, ?enable, ?disable, ?take, ?hello, ?finish, ?command, ?close, ?idle, ?segment⟩
  case sqDoorbell =>
    intro ring x s hring hawake henabled htail hone hroom
    exact exec_sqDoorbell_one hring hawake henabled rfl htail hone hroom
  case cqDoorbell =>
    intro ring head s hring hawake henabled hhead hposted
    exact exec_cqDoorbell_frees hring hawake henabled hhead hposted
  case enable => intro ring s hring hoff hkeel hcause; exact exec_ringEnable_good hring hoff hkeel hcause
  case disable => intro ring s hring hkeel; exact exec_ringDisable_good hring hkeel
  case take => intro k q s hnext; exact exec_commandTake_next hnext
  case hello =>
    intro h n mx leaf s hkeel hxport hfree hpriv hleaf hsigned
    exact exec_helloRx_signed hkeel hxport hfree hpriv hleaf hsigned
  case finish => intro xp sess replyTo q s hsess hnew hkeel; exact exec_finishRx_opens hsess hnew hkeel
  case command =>
    intro xp cap q s hsess hopen hkeel hmac hnew hwindow hkind hbody hentry hfits hnseg hseg
    exact exec_commandCapsuleRx_whole hsess hopen hkeel hmac hnew hwindow hkind hbody hentry hfits hnseg hseg
  case close =>
    intro xp cap q s hsess hopen hkeel hmac hnew hwindow hkind
    exact exec_closeRx_closes hsess hopen hkeel hmac hnew hwindow hkind
  case idle => intro xp sess s; rfl
  case segment => intro xp sess msg e s hmessage; exact exec_segmentTimeout_refuses hmessage

/-! ### Tickets (Table 17-8) -/

section
variable {tk : Nat} {k : Ticket} {s : State}

/-- The oldest QUEUED ticket starts. -/
theorem exec_ticketStart_starts (hticket : ticketOf s tk = some k) (hkeel : keelOn s = true) (hqueued : k.ost = .queued)
    (hnow : k.before = false) (holdest : oldestQueued s k = true) (hfree : workFree s k = true) :
    exec (.ticketStart tk) s = .next (holdEnds (runWork k s)) := by
  show execTicketStart tk s = _
  simp only [execTicketStart, hticket, hkeel, hqueued, hnow, holdest, hfree, BEq.rfl, Bool.not_false, Bool.and_self, if_true]

/-- A RUNNING ticket whose suspension was asked for is SUSPENDED. -/
theorem exec_suspendPointReached_suspends (hticket : ticketOf s tk = some k) (hkeel : keelOn s = true)
    (hrunning : k.ost = .running) (hasked : k.suspReq = true) :
    exec (.suspendPointReached tk) s =
      .next (holdDrain tk true (setOst tk .suspended (onTicket tk (fun t => { t with suspReq := false }) s))) := by
  show execSuspendPointReached tk s = _
  simp only [execSuspendPointReached, hticket, hkeel, hrunning, hasked, BEq.rfl, Bool.and_self, if_true]

/-- A CANCELLING ticket, its work undone, is CANCELLED. -/
theorem exec_cancelUndoDone_ends (hticket : ticketOf s tk = some k) (hkeel : keelOn s = true)
    (hcancelling : k.ost = .cancelling) : exec (.cancelUndoDone tk) s = .next (endTicket tk .cancelled .cancelled 0 s) := by
  show execCancelUndoDone tk s = _
  simp only [execCancelUndoDone, hticket, hkeel, hcancelling, BEq.rfl, Bool.and_self, if_true]

/-- Only the end of a RUNNING ticket that is not being suspended has an effect. -/
theorem finish_not_ignored (hkeel : keelOn s = true) (hrunning : k.ost = .running) (hgoesOn : k.suspReq = false) :
    (!keelOn s || k.ost != .running || k.suspReq) = false := by
  simp [hkeel, hrunning, hgoesOn]

/-- Its work ends well. -/
theorem exec_operationFinish_good (hticket : ticketOf s tk = some k) (hkeel : keelOn s = true) (hrunning : k.ost = .running)
    (hgoesOn : k.suspReq = false) : exec (.operationFinish tk 0) s = .next (finishWork k s) := by
  show execOperationFinish tk 0 s = _
  simp only [execOperationFinish, hticket, finish_not_ignored hkeel hrunning hgoesOn, Bool.false_eq_true, if_false, if_true]

/-- It fails with a reason that its owner defines. -/
theorem exec_operationFinish_fails {reason : Nat} (hticket : ticketOf s tk = some k) (hkeel : keelOn s = true)
    (hrunning : k.ost = .running) (hgoesOn : k.suspReq = false) (hbad : reason ≠ 0) (howner : ownerFails k.opcode reason = true)
    (hother : k.opcode ≠ 0x0402) : exec (.operationFinish tk reason) s = .next (ticketFail tk reason s) := by
  show execOperationFinish tk reason s = _
  simp only [execOperationFinish, hticket, finish_not_ignored hkeel hrunning hgoesOn, hbad, howner, beq_eq_false_iff_ne.mpr hother, whenS,
    Bool.false_eq_true, if_false, if_true]

end

/-- Settles O56: each event under its condition. -/
theorem ticketEventsComplete : Obligations.TicketEventsComplete := by
  refine ⟨?start, ?suspended, ?undone, ?finished, ?failed⟩
  case start =>
    intro tk k s hticket hkeel hqueued hnow holdest hfree
    exact exec_ticketStart_starts hticket hkeel hqueued hnow holdest hfree
  case suspended =>
    intro tk k s hticket hkeel hrunning hasked
    exact exec_suspendPointReached_suspends hticket hkeel hrunning hasked
  case undone => intro tk k s hticket hkeel hcancelling; exact exec_cancelUndoDone_ends hticket hkeel hcancelling
  case finished => intro tk k s hticket hkeel hrunning hgoesOn; exact exec_operationFinish_good hticket hkeel hrunning hgoesOn
  case failed =>
    intro tk reason k s hticket hkeel hrunning hgoesOn hbad howner hother
    exact exec_operationFinish_fails hticket hkeel hrunning hgoesOn hbad howner hother

end Sys2Proof.Machine
end

section
/-! PROOFS. The statements on the host attachment, faults, starting and stopping, and power: the events of each. -/

namespace Sys2Proof.Machine

/-! ### SPDM (R420) -/

/-- A request of version 1.2 in its turn is answered. -/
theorem spdmReq_inTurn {doe : Bool} {ready : Spdm → Bool} {s : State} (f : State → State) (hup : spdmUp doe s = true)
    (hready : ready (spdmOf doe s) = true) : spdmReq doe 0x12 ready f s = f s := by
  simp [spdmReq, hup, hready]

theorem spdmSend_freeCtr (doe : Bool) (bs : List Byte) (s : State) : (spdmSend doe bs s).freeCtr = s.freeCtr := rfl

theorem onSpdm_freeCtr (doe : Bool) (f : Spdm → Spdm) (s : State) : (onSpdm doe f s).freeCtr = s.freeCtr := rfl

/-- Sending counts a request; the transcripts stand. -/
theorem spdmOf_spdmSend (doe : Bool) (bs : List Byte) (s : State) : spdmOf doe (spdmSend doe bs s) = spdmOf doe s := rfl

theorem spdmOf_onSpdm (doe : Bool) (f : Spdm → Spdm) (s : State) : spdmOf doe (onSpdm doe f s) = f (spdmOf doe s) := by
  cases doe <;> rfl

section
variable {doe : Bool} {s : State}

/-- ALGORITHMS answers a requester that names the module's algorithms. -/
theorem exec_spdmNegotiateAlgorithms_answers {asym hash : Nat} (hup : spdmUp doe s = true)
    (hcaps : (spdmOf doe s).caps = true) (hturn : (spdmOf doe s).algs = false) (hasym : asym.testBit 4 = true)
    (hhash : hash.testBit 0 = true) :
    exec (.spdmNegotiateAlgorithms doe 0x12 asym hash) s =
      .next (spdmAnswer doe (spdmMsg 0x12 0xE3 0 0 (leBytes 4 asym ++ leBytes 4 hash)) (spdmMsg 0x12 0x63 0 0 spdmAlgs)
        (onSpdm doe (fun x => { x with algs := true }) s)) := by
  have hready : ((spdmOf doe s).caps && !(spdmOf doe s).algs) = true := by simp [hcaps, hturn]
  exact congrArg Host.Outcome.next ((spdmReq_inTurn _ hup hready).trans (if_pos (by simp only [hasym, hhash, Bool.and_self])))

/-- CERTIFICATE answers with the portion of the chain asked for. -/
theorem exec_spdmGetCertificate_answers {off len : Nat} (hup : spdmUp doe s = true) (halgs : (spdmOf doe s).algs = true)
    (hoff : off < spdmChain.length) :
    exec (.spdmGetCertificate doe 0x12 0 off len) s =
      .next (spdmAnswer doe (spdmMsg 0x12 0x82 0 0 (leBytes 2 off ++ leBytes 2 len))
        (spdmMsg 0x12 0x02 0 0 (leBytes 2 (chainPortion off len).length ++
          leBytes 2 (spdmChain.length - off - (chainPortion off len).length) ++ chainPortion off len)) s) := by
  have hvalid : ¬ ((0 : Nat) ≠ 0 ∨ spdmChain.length ≤ off) := by simp [hoff]
  exact congrArg Host.Outcome.next ((spdmReq_inTurn _ hup halgs).trans (if_neg hvalid))

/-- CHALLENGE draws a nonce, and begins the transcript anew. -/
theorem exec_spdmChallenge_draws {nonce : List Byte} (hup : spdmUp doe s = true) (halgs : (spdmOf doe s).algs = true) :
    ∃ t, exec (.spdmChallenge doe 0x12 0 nonce) s = .next t ∧ t.freeCtr = s.freeCtr + 1 ∧ (spdmOf doe t).transcript = [] := by
  refine ⟨_, congrArg Host.Outcome.next ((spdmReq_inTurn _ hup halgs).trans (if_neg (by simp))), ?drawn, ?transcript⟩
  case drawn => rfl
  case transcript => exact congrArg Spdm.transcript (spdmOf_onSpdm doe _ _)

/-- GET_MEASUREMENTS of one measurement, or of their number, draws a nonce. -/
theorem exec_spdmGetMeasurements_draws {idx : Nat} {nonce : List Byte} (hup : spdmUp doe s = true)
    (halgs : (spdmOf doe s).algs = true) (hidx : idx ≤ 7) :
    ∃ t, exec (.spdmGetMeasurements doe 0x12 idx nonce) s = .next t ∧ t.freeCtr = s.freeCtr + 1 :=
  ⟨_, congrArg Host.Outcome.next ((spdmReq_inTurn _ hup halgs).trans (if_neg fun hbad => Nat.not_lt.mpr hidx hbad.1)), rfl⟩

end

/-! ### The host link, registers and management Ethernet -/

section
variable {s : State}

/-- The link enters L0 (R416). -/
theorem exec_hostLinkChange_up {mode width rate : Nat} (hkeel : keelOn s = true) (hmode : mode = 1 ∨ mode = 2)
    (hdown : s.host.l0 = false) (hreset : s.host.perst = false) :
    exec (.hostLinkChange mode width rate) s = .next (record 0x01C8 [(1, mode), (1, width), (1, rate)]
      (onHost (fun h => { h with l0 := true, mode := mode, width := width, rate := rate, training := false }) s)) := by
  have hup : mode ≠ 0 := by omega
  have htrains : (s.host.l0 || s.host.perst || decide (2 < mode)) = false := by
    simp only [hdown, hreset, Bool.or_self, Bool.false_or, decide_eq_false_iff_not]
    omega
  show execHostLinkChange mode width rate s = _
  simp only [execHostLinkChange, hkeel, hup, htrains, Bool.not_true, Bool.false_eq_true, if_false]

/-- A read of `FT_NOW` (R9). -/
theorem exec_ftNowRead_whole (hkeel : keelOn s = true) :
    exec (.ftNowRead 0) s = .next (emit (.regRead 0x8000 (ftNs s)) (onHost (fun h => { h with ftFrac := ftTs s % 65536 }) s)) :=
  congrArg Host.Outcome.next (if_neg (by simp [hkeel]))

/-- A read of the low half of a register latches the high half (R9). -/
theorem exec_lowHalfRead_latches {off : Nat} (hkeel : keelOn s = true) (haligned : off % 8 = 0) (hrange : off < 0x1000) :
    exec (.lowHalfRead off) s = .next (emit (.regRead off (bar0Read s off % 2 ^ 32))
      (onHost (fun h => { h with hi := mput h.hi off (bar0Read s off / 2 ^ 32) }) s)) := by
  have hread : (!keelOn s || off % 8 != 0 || decide (0x100000 ≤ off)) = false := by
    simp only [hkeel, haligned, bne_self_eq_false, Bool.not_true, Bool.or_self, Bool.false_or, decide_eq_false_iff_not]
    omega
  have hplain : (off == 0x8000) = false := beq_eq_false_iff_ne.mpr (by omega)
  show execLowHalfRead off s = _
  simp only [execLowHalfRead, hread, hplain, hrange, whenS, decide_true, Bool.true_or, Bool.false_eq_true, if_false, if_true]

/-- A write of a whole register. -/
theorem exec_registerWrite_whole {off val : Nat} (hkeel : keelOn s = true) (haligned : off % 8 = 0) :
    exec (.registerWrite off 8 val) s = .next (writeReg off (val % 2 ^ 64) s) :=
  congrArg Host.Outcome.next ((if_neg (by simp [hkeel])).trans (if_pos ⟨rfl, haligned⟩))

/-- ARP for the port's address is answered (R421). -/
theorem exec_mgmtPacketRx_arp {vlan dst : Nat} (hkeel : keelOn s = true) (hup : s.host.mgmtUp = true)
    (hmine : mgmtMine s false vlan dst = true) : exec (.mgmtPacketRx (.arp vlan dst)) s = .next (emit (.mgmt dst 0 []) s) := by
  show execMgmtPacketRx (.arp vlan dst) s = _
  simp only [execMgmtPacketRx, hkeel, hup, hmine, Bool.not_true, Bool.or_self, Bool.false_eq_true, if_false, if_true]

end

/-- Settles O57: each event under its condition. -/
theorem hostInterfaceEventsComplete : Obligations.HostInterfaceEventsComplete := by
  refine ⟨?version, ?capabilities, ?algorithms, ?digests, ?certificate, ?challenge, ?measurements, ?doeAbort, ?identify, ?logs,
    ?log, ?health, ?unsupported, ?decoder, ?perst, ?perstEnd, ?link, ?mgmtLink, ?packet, ?ftNow, ?lowHalf, ?write⟩
  case version =>
    intro doe s hup
    show execSpdmGetVersion doe 0x10 s = _
    simp only [execSpdmGetVersion, hup, Bool.not_true, Bool.false_eq_true, ne_eq, not_true_eq_false, if_false]
  case capabilities =>
    intro doe s hup hversion hturn
    exact congrArg Host.Outcome.next (spdmReq_inTurn _ hup (by simp [hversion, hturn]))
  case algorithms =>
    intro doe asym hash s hup hcaps hturn hasym hhash
    exact exec_spdmNegotiateAlgorithms_answers hup hcaps hturn hasym hhash
  case digests => intro doe s hup halgs; exact congrArg Host.Outcome.next (spdmReq_inTurn _ hup halgs)
  case certificate => intro doe off len s hup halgs hoff; exact exec_spdmGetCertificate_answers hup halgs hoff
  case challenge => intro doe nonce s hup halgs; exact exec_spdmChallenge_draws hup halgs
  case measurements => intro doe idx nonce s hup halgs hidx; exact exec_spdmGetMeasurements_draws hup halgs hidx
  case doeAbort | identify | logs | health | perstEnd => intro s; rfl
  case log => intro off len s hrange; exact congrArg Host.Outcome.next (if_neg (by simp [hrange]))
  case unsupported => intro opc s hother; exact congrArg Host.Outcome.next (if_neg (by rw [hother]; exact Bool.false_ne_true))
  case decoder =>
    intro dec base size skip ways s hkeel hlink hdec
    exact congrArg Host.Outcome.next (if_neg (by simp [hkeel, hlink, hdec]))
  case perst => intro hot s hkeel; exact next_of_guard hkeel
  case link => intro mode width rate s hkeel hmode hdown hreset; exact exec_hostLinkChange_up hkeel hmode hdown hreset
  case mgmtLink =>
    intro up s hkeel hchange
    exact congrArg Host.Outcome.next (if_neg (by simp [hkeel, hchange]))
  case packet => intro vlan dst s hkeel hup hmine; exact exec_mgmtPacketRx_arp hkeel hup hmine
  case ftNow => intro s hkeel; exact exec_ftNowRead_whole hkeel
  case lowHalf => intro off s hkeel haligned hrange; exact exec_lowHalfRead_latches hkeel haligned hrange
  case write => intro off val s hkeel haligned; exact exec_registerWrite_whole hkeel haligned

/-! ### Faults -/

/-- Quiet sources are judged where their class has a quiet time (Table 21-3). -/
theorem quiet_judged {src : Nat} {s : State} (hcollects : collecting s = true) (hquiet : (classOf s (srcClass src)).quietS ≠ 0) :
    (!collecting s || (classOf s (srcClass src)).quietS == 0) = false := by
  simp [hcollects, hquiet]

/-- Settles O58: each event under its condition. -/
theorem faultEventsComplete : Obligations.FaultEventsComplete := by
  refine ⟨?firstClear, ?restart, ?batch, ?window, ?quietSevere, ?quietIsolated, ?testPasses, ?testFails⟩
  case firstClear | restart => intro s hkeel; exact next_of_guard hkeel
  case batch => intro reps s hcollects; exact next_of_guard hcollects
  case window => intro src s hcollects hst; exact next_of_guard (by simp [hcollects, hst])
  case quietSevere =>
    intro src s hcollects hquiet hst
    show execFaultQuietExpire src s = _
    simp only [execFaultQuietExpire, quiet_judged hcollects hquiet, hst, Bool.false_eq_true, if_false]
  case quietIsolated =>
    intro src s hcollects hquiet hst hloose
    show execFaultQuietExpire src s = _
    simp only [execFaultQuietExpire, quiet_judged hcollects hquiet, hst, hloose, Bool.false_eq_true, if_false]
  case testPasses | testFails => intro src s hcollects hst; exact next_of_guard (by simp [hcollects, hst])

/-! ### Starting and stopping -/

section
variable {s : State}

/-- `VSB12` in range takes an unpowered module to STANDBY. -/
theorem exec_vsb12Up_standby {cv : Nat} (hoff : s.sys.st = .off) (hlow : 1140 ≤ cv) (hhigh : cv ≤ 1400) :
    exec (.vsb12Up cv) s = .next (tryStart (onSys (fun x => { x with st := .standby, nextCause := 0 })
      (onEnv (fun e => { e with vsbOk := true, vsb := cv }) s))) :=
  (if_neg (Nat.not_lt.mpr hhigh)).trans (next_of_guard ⟨hoff, hlow⟩)

/-- The loss of `VSB12` takes the retained state with it. -/
theorem exec_vsb12Lost_off (hon : s.sys.st ≠ .off) :
    ∃ t, exec .vsb12Lost s = .next t ∧ t.sys.st = .off ∧ t.flt.sram = [] ∧ t.flt.valid = false ∧ t.env.vsb = 0 :=
  ⟨_, congrArg Host.Outcome.next (if_neg hon), rfl, rfl, rfl, rfl⟩

/-- `PWR_OK_IN` starts a module in STANDBY. -/
theorem exec_pwrOkAssert_starts (hlow : s.env.pins.pwrOk = false) (hstandby : s.sys.st = .standby) :
    exec .pwrOkAssert s = .next (tryStart (onSys (fun x => { x with nextCause := 0 })
      (onEnv (fun e => { e with pins := { e.pins with pwrOk := true } }) s))) := by
  show execPwrOkAssert s = _
  simp only [execPwrOkAssert, hlow, onEnv_sys, hstandby, Bool.false_eq_true, if_false, if_true]

/-- The keel die lifted, the slot that may boot runs (R431). -/
theorem exec_keelUpEntry_boots {plane tray k : Nat} (hstandby : s.sys.st = .standby) (hstarting : s.sys.starting = true)
    (hslot : bootable (chooseRecord s) = some k) :
    exec (.keelUpEntry plane tray true) s = .next (enterKeelUp plane tray k (chooseRecord s)) := by
  show execKeelUpEntry plane tray true s = _
  simp only [execKeelUpEntry, hstandby, hstarting, hslot, and_self, if_true]

section
variable {b : StartData} (hstarting : startingUp s = true) (hstill : startingUp (startUnits b s) = true)
include hstarting hstill

/-- The sequence ends in READY where nothing holds the module (R431, R433). -/
theorem exec_startupDone_ready (hfree : (startUnits b s).sys.hold = 0) :
    exec (.startupDone b) s = .next (applyEntries (enterReady 6 (startUnits b s))) := by
  show execStartupDone b s = _
  simp only [execStartupDone, hstarting, hstill, hfree, Bool.not_true, Bool.false_eq_true, if_false, if_true]

/-- Else it ends in a hold. -/
theorem exec_startupDone_hold (hheld : (startUnits b s).sys.hold ≠ 0) :
    exec (.startupDone b) s = .next (enterHold (startUnits b s)) := by
  show execStartupDone b s = _
  simp only [execStartupDone, hstarting, hstill, hheld, Bool.not_true, Bool.false_eq_true, if_false]

end

/-- The watchdog loses the keel die of a module that is not on trial (R435). -/
theorem exec_keelWatchdogExpire_loses (hkeel : keelOn s = true)
    (huntried : (loseKeel s).sys.trial ≠ some (loseKeel s).sys.booted) :
    exec .keelWatchdogExpire s = .next (loseKeel s) :=
  congrArg Host.Outcome.next ((if_neg (by simp [hkeel])).trans (if_neg fun htrial => huntried htrial.1))

end

/-- Settles O59: each event under its condition. -/
theorem startAndStopEventsComplete : Obligations.StartAndStopEventsComplete := by
  refine ⟨?vsbUp, ?vsbLost, ?pwrOk, ?keelUp, ?ready, ?hold, ?pwrDown, ?vin, ?watchdog, ?headless, ?cleared⟩
  case vsbUp => intro cv s hoff hlow hhigh; exact exec_vsb12Up_standby hoff hlow hhigh
  case vsbLost => intro s hon; exact exec_vsb12Lost_off hon
  case pwrOk => intro s hlow hstandby; exact exec_pwrOkAssert_starts hlow hstandby
  case keelUp => intro plane tray k s hstandby hstarting hslot; exact exec_keelUpEntry_boots hstandby hstarting hslot
  case ready => intro b s hstarting hstill hfree; exact exec_startupDone_ready hstarting hstill hfree
  case hold => intro b s hstarting hstill hheld; exact exec_startupDone_hold hstarting hstill hheld
  case pwrDown => intro s; rfl
  case vin => intro cv s hrated hbad; exact (if_neg (Nat.not_lt.mpr hrated)).trans (next_of_guard hbad)
  case watchdog => intro s hkeel huntried; exact exec_keelWatchdogExpire_loses hkeel huntried
  case headless => intro s hlost htime; exact next_of_guard ⟨hlost, htime⟩
  case cleared => intro cause s; rfl

/-! ### Power -/

section
variable {s : State}

/-- A module that has no measurement before counts no fall (R465, R470). -/
theorem exec_powerMeasurement_first {vin iin : Nat} (hrated : vin ≤ 6000)
    (hbraking : braking (onEnv (fun e => { e with
      vin := vin, iin := iin, pin := vin * iin / 1000, prevPin := some (vin * iin / 1000) }) s) = true)
    (hfirst : s.env.prevPin = none) :
    exec (.powerMeasurement vin iin) s = .next (holdCap (capReached (rampBallast (onEnv (fun e => { e with
      vin := vin, iin := iin, pin := vin * iin / 1000, prevPin := some (vin * iin / 1000) }) s)))) := by
  show execPowerMeasurement vin iin s = _
  simp only [execPowerMeasurement, if_neg (Nat.not_lt.mpr hrated), hbraking, hfirst, if_true]

/-- A reading while the envelope controller does not act is kept. -/
theorem exec_sensorReading_kept {inst : Nat} {val : Int} (hfitted : sensorFitted s inst = true)
    (hidle : braking (coolTrip (onEnv (fun e => { e with
      sensors := mput e.sensors inst val, rise := mput e.rise inst (riseWith s inst val) }) s)) = false) :
    exec (.sensorReading inst val) s = .next (coolTrip (onEnv (fun e => { e with
      sensors := mput e.sensors inst val, rise := mput e.rise inst (riseWith s inst val) }) s)) := by
  show execSensorReading inst val s = _
  simp only [execSensorReading, hfitted, hidle, Bool.not_true, Bool.not_false, Bool.false_eq_true, if_false, if_true]

/-- `DROGUE_N` begins a shelf drogue where no ripcord input is active (R473). -/
theorem exec_drogueAssert_starts (hripcord : s.env.pins.ripcord = false) (hleak : s.env.pins.leak = false) :
    exec .drogueAssert s = .next (startDrogue 0 (onEnv (fun e => { e with pins := { e.pins with drogue := true } }) s)) :=
  congrArg Host.Outcome.next (if_neg (by simp [hripcord, hleak]))

/-- `FLOW_ALARM_N` begins the pump condition there (R476). -/
theorem exec_pumpConditionStart_starts (hripcord : s.env.pins.ripcord = false) (hleak : s.env.pins.leak = false) :
    exec .pumpConditionStart s = .next (startPump 0 0 (onEnv (fun e => { e with pins := { e.pins with flow := true } }) s)) :=
  congrArg Host.Outcome.next (if_neg (by simp [hripcord, hleak]))

/-! ### A cap not reached in its 2 ms -/

/-- What a cap's deadline sets in the envelope: its drogue, the count of drogues, the events. -/
def capMarks (s : State) : Bool × Nat × Nat := (s.env.capDrogue, s.env.drogues, s.env.events)

theorem capMarks_onBrake (d : Nat) (f : Brake → Brake) (s : State) : capMarks (onBrake d f s) = capMarks s := rfl

/-- The presets move ballast, writes and brakes. -/
theorem capMarks_applyPresets (s : State) : capMarks (applyPresets s) = capMarks s := by
  unfold applyPresets
  exact (forEach_frame capMarks _ (fun _ _ => capMarks_onBrake _ _ _) _ _).trans rfl

theorem capMarks_record (code : Nat) (fs : List (Nat × Nat)) (s : State) : capMarks (record code fs s) = capMarks s := by
  simp only [capMarks, record_env]

/-- An envelope event sets its bit. -/
theorem capMarks_envEvent (b : Nat) (s : State) :
    capMarks (envEvent b s) = ((capMarks s).1, (capMarks s).2.1, (capMarks s).2.2 ||| (1 <<< b)) := by
  simp only [capMarks, envEvent, whenS]
  split <;> rfl

/-- The cap's own drogue begins (R469). -/
theorem exec_capDeadline_drogue (hbraking : braking s = true) (hslews : s.env.capAt.isSome = true)
    (habove : capTarget s < s.env.pin) (hnone : s.env.capDrogue = false) :
    ∃ t, exec .capDeadline s = .next t ∧ t.env.capDrogue = true ∧ t.env.drogues = sat 32 (s.env.drogues + 1) ∧
      t.env.events = s.env.events ||| 2 ||| 4 := by
  refine ⟨_, next_of_guard (by simp [hbraking, hslews, habove, hnone]), ?_⟩
  simp only [← Prod.mk.injEq]
  refine (capMarks_applyPresets _).trans ?_
  simp only [capMarks_record, capMarks_envEvent]
  rfl

/-- A missed heartbeat makes a module in SERVICE an orphan (R482). -/
theorem exec_heartbeatMissed_orphans (hservice : s.sys.st = .service) (hkeel : s.sys.keelLost = false) :
    exec .heartbeatMissed s = .next (startCap (record 0x0DC6
      [(2, orphanCapW (onEnv (fun e => { e with orphanCap := true, orphanAt := s.mono }) (moveTo .orphan 10 s))),
        (2, schedFloor (onEnv (fun e => { e with orphanCap := true, orphanAt := s.mono }) (moveTo .orphan 10 s)))]
      (envEvent 4 (onEnv (fun e => { e with orphanCap := true, orphanAt := s.mono }) (moveTo .orphan 10 s))))) :=
  next_of_guard ⟨hservice, by rw [hkeel]; rfl⟩

end

/-- Settles O60: each event under its condition. -/
theorem powerEventsComplete : Obligations.PowerEventsComplete := by
  refine ⟨?measured, ?sensor, ?preset, ?drogue, ?vinLow, ?drogueEnd, ?pump, ?pumpEnd, ?ripcord, ?leak, ?trip, ?deadline,
    ?heartbeat, ?keelLoss, ?poll, ?alert⟩
  case measured => intro vin iin s hrated hbraking hfirst; exact exec_powerMeasurement_first hrated hbraking hfirst
  case sensor => intro inst val s hfitted hidle; exact exec_sensorReading_kept hfitted hidle
  case preset => intro s hbraking; exact next_of_guard hbraking
  case drogue => intro s hripcord hleak; exact exec_drogueAssert_starts hripcord hleak
  case vinLow => intro cv s hrated hlow; exact (if_neg (Nat.not_lt.mpr hrated)).trans (next_of_guard hlow)
  case drogueEnd => intro cv s hhigh hrated; exact (if_neg (Nat.not_lt.mpr hrated)).trans (next_of_guard hhigh)
  case pump => intro s hripcord hleak; exact exec_pumpConditionStart_starts hripcord hleak
  case pumpEnd | ripcord => intro s; rfl
  case leak => intro sensor s hbraking; exact next_of_guard hbraking
  case trip => intro sensor s hpowered; exact next_of_guard hpowered
  case deadline => intro s hbraking hslews habove hnone; exact exec_capDeadline_drogue hbraking hslews habove hnone
  case heartbeat => intro s hservice hkeel; exact exec_heartbeatMissed_orphans hservice hkeel
  case keelLoss => intro s hlost hbraking hnone; exact next_of_guard (by simp [hlost, hbraking, hnone])
  case poll => intro rds s hkeel; exact next_of_guard hkeel
  case alert => intro rds s hkeel; exact next_of_guard hkeel

end Sys2Proof.Machine
end
